-- ==== Sys2Proof/Word.lean ====
section
/-!
DEFINITION. Word.lean: the word and byte types of the KH880 model and their plainest arithmetic (R4, R5).
-/
namespace Sys2Proof

/-- One byte of a packet, a record or a memory. -/
abbrev Byte := BitVec 8

/-- One 32-bit peripheral register word (R21). -/
abbrev Word := BitVec 32

/-- The low byte of a number. -/
abbrev byte (n : Nat) : Byte := BitVec.ofNat 8 n

/-- Bits `[lsb + width - 1 : lsb]` of a number (R5). -/
def bitsAt (v lsb width : Nat) : Nat := v / 2 ^ lsb % 2 ^ width

/-- Bit `i` of a number as 0 or 1. -/
def bitAt (v i : Nat) : Nat := v / 2 ^ i % 2

/-- 1 for true, 0 for false. -/
def bit01 (b : Bool) : Nat := if b then 1 else 0

end Sys2Proof
end

