-- ==== Sys2Proof/Config.lean ====
section
/-!
DEFINITION. Config.lean: the free values of the model, which the spec leaves open and nothing in Lean can evaluate, and
the numbers the spec fixes for every KH880.
-/
namespace Sys2Proof

/-- A value the spec does not state, drawn with a fresh number each time (notes/assumptions/1.md): random output of the
DRBG (R344), the device keys of R328, the outcome of a comparison in a band for which the spec guarantees neither side. -/
opaque Config.freeValue : Nat → Nat

/-- Byte `i` of the device key-encryption key, which no master can read (R328; notes/assumptions/1.md). -/
opaque Config.deviceKek : Nat → Byte

/-- The action code that the image of a hardware owner's calendar slot shows (R45, R96): the spec names no code. -/
opaque Config.ownAction : Nat → Nat

/-- Byte `i` of the AES-256 firmware authentication key, which no master can read (R583; notes/assumptions/1.md). -/
opaque Config.fwKey : Nat → Byte

/-- Byte `i` of the factory test key ftk (R598; notes/assumptions/1.md). -/
opaque Config.testKey : Nat → Byte

/-- VAULT_ID, written in the factory (R400; notes/assumptions/1.md). -/
opaque Config.vaultId : BitVec 32

/-- Byte `i` of the vault installation key, which never leaves the vault (R400, R432; notes/assumptions/1.md). -/
opaque Config.vaultKey : Nat → Byte

/-- Byte `i` of the tag that stands before the first log record (R422 names none; notes/assumptions/1.md). -/
opaque Config.vaultTag : Nat → Byte

/-- What discovery reads of the flash device: its identification bytes, read latency and density (R497, R503; notes/assumptions/16.md). -/
opaque Config.flashId : BitVec 32
opaque Config.flashLatency : BitVec 6
opaque Config.flashDensity : BitVec 8

/-- Byte `i` of the serial number in OTP and the boot ROM version, which differ between devices (R485; notes/assumptions/1.md). -/
opaque Config.serial : Nat → Byte
opaque Config.bootRom : BitVec 16

/-- Byte `i` of the fixed, non-secret conditioner key in ROM (R342; notes/assumptions/1.md). -/
opaque Config.trngKey : Nat → Byte

/-- The board has the resistor from XTAL_O to ground that selects TCXO mode (R626; notes/assumptions/155.md). -/
opaque Config.xtalStrap : Bool

/-- Device-time ticks of 0.4 ns in a microsecond (R6). -/
def Config.usTicks : Nat := 2500

/-- Device-time ticks in a millisecond (R6). -/
def Config.msTicks : Nat := 2500000

/-- Device-time ticks in a second (R6). -/
def Config.sTicks : Nat := 2500000000

/-- The nominal 32.768 kHz ratio of R43, in 1/4096 tick per low-power cycle. -/
def Config.lpNominal : Nat := 312500000

/-- The interconnect clock in MHz at a DVFS level (R27): half the core clock. -/
def Config.busMHz (level : Nat) : Nat := if level = 1 then 50 else if level = 2 then 150 else 200

/-- Allocatable cells of Cullet, cells 0 to 8190 (R435). -/
def Config.poolCells : Nat := 8191

end Sys2Proof
end

