-- ==== Sys2Proof/Syntax.lean ====
section
/-!
DEFINITION. Syntax.lean: the commands of the block: one constructor per row of spec/opcode_table.json. A host command
carries the requesting master and its raw parameter bytes (R464, R483); its meaning parses them. An event that comes from
outside at an instant of its own carries that instant `at_`, in ticks of 0.4 ns since power-on (notes/assumptions/5.md); an
event the device times itself carries none and falls due at the instant the state gives. What a sensor, a line or the air
delivers is an operand.
-/
namespace Sys2Proof

/-- The bus masters of R22. -/
inductive Master | m0 | m1 | m2 | m3 | m4 | m5 | m6
  deriving DecidableEq, Repr

/-- The number of a master. -/
def Master.num : Master → Nat
  | .m0 => 0 | .m1 => 1 | .m2 => 2 | .m3 => 3 | .m4 => 4 | .m5 => 5 | .m6 => 6

/-- The size of a bus access to a peripheral register (R21). -/
inductive AccSize | byte | half | word
  deriving DecidableEq, Repr

/-- What the ECC of the cell pool finds in a word read (R450). -/
inductive Ecc | clean | corrected | uncorrectable
  deriving DecidableEq, Repr

/-- The wake sources that reach PWR from a pin (R515): HnCS low, the WAKE pin in EDGE or LEVEL mode, one active pulse of
WAKE with its width in ns (R517, PATTERN mode), or a source code of R515 with its DETAIL. -/
inductive WakeCause
  | hncs
  | pin
  | pulse (widthNs : Nat)
  | source (code detail : Nat)
  deriving DecidableEq, Repr

/-- What completes STARTING (R590): a unit by block number, a URX window, an LF channel. -/
inductive Startable
  | block (b : Fin 23)
  | window (w : Fin 4)
  | channel (n : Fin 12)
  deriving DecidableEq, Repr

/-- What is measured on an LF channel in one slot that drives it, or in the telegram or burst (slot 16): amplitude and phase at
cycle 24 of the slot and whether the drive reached its maximum without reaching the setpoint (R77), and amplitude and phase over
the measurement window (R76, R110). -/
structure LfMeas where
  ch : Fin 12
  slot : Fin 17
  ma24 : BitVec 16
  phase24 : Byte
  atMax : Bool
  ma : BitVec 16
  phase : Byte
  deriving DecidableEq, Repr

/-- What LF_DIAG finds on a channel (R102, R117): open, short to ground, short to supply, shorted coil (bits 0 to 3),
regulation failure, the figures of the result entry, and whether its current calibration is in range. -/
structure LfFinding where
  faults : BitVec 4
  regFail : Bool
  ma : BitVec 16
  resHz : BitVec 32
  q : BitVec 16
  phase : Byte
  gain : BitVec 32
  calOk : Bool
  deriving DecidableEq, Repr

/-- What the air delivers as one frame of a URX channel (R130): the bytes after the sync word, the levels at the ports in
0.25 dB before the referral of R133 (combined, A, B), the carrier offset in 25 Hz, the SNR in 0.25 dB, whether a sample
clipped, and whether port B has the higher SNR over the preamble (R128). -/
structure Reception where
  bytes : List Byte
  rssi : BitVec 16
  rssiA : BitVec 16
  rssiB : BitVec 16
  fofs : BitVec 16
  snr : Byte
  clip : Bool
  better : Bool
  deriving DecidableEq, Repr

/-- What a timed part of a ranging run finds (R178, R210, R213, R214, R221, R222): whether the synthesiser is locked, whether
a busy listen or a withheld grant stops B1, whether the base tone's loopback phase can be measured, the SNR in 0.25 dB of B2 or
of the returned tone, the time from B1 to B2 in ps, the key's carrier error in 0.01 ppm, and the phases of the returned and
the own tone in 1/65536 cycle. -/
structure RangeMeas where
  locked : Bool
  blocked : Bool
  loopback : Bool
  snr : Byte
  delayPs : BitVec 32
  eps : BitVec 16
  psi : BitVec 16
  beta : BitVec 16
  deriving DecidableEq, Repr

/-- What the vault measures (R397): FIELD in 0.1 A/m, VH and VRSTORE in mV. -/
structure VaultMeas where
  field : Byte
  vh : BitVec 16
  vrstore : BitVec 16
  deriving DecidableEq, Repr


/-- The commands of the KH880, one per row of the opcode table, in its order. -/
inductive Instr where
  /-- POWER_ON_RESET (R619): Supplies cross the power-on thresholds; Lehr is cleared and the power-on sequence starts the device from its reset state. -/
  | powerOnReset (straps : Fin 4)
  /-- NRESET (R619): nRESET held low for 1 µs or more resets the device; Lehr state survives. -/
  | nreset (straps : Fin 4) (at_ : Nat)
  /-- SOFT_RESET (R487): The SOFT_RESET command checks its magic value and schedules the reset. -/
  | softReset (m : Master) (p : List Byte)
  /-- SOFT_RESET_BEGIN (R487): The soft reset begins 10 µs after the reply is read, or 10 ms after acceptance if the reply is never read. -/
  | softResetBegin
  /-- CFG_IMAGE_REPAIR (R564): Within 1 s of a reset that found one failed image, the failed copy is rewritten from the loaded one and read back. -/
  | cfgImageRepair
  /-- BOOT_DONE (R586): The boot ROM finishes verification and the firmware starts from its code bank. -/
  | bootDone (at_ : Nat)
  /-- FW_READY (R474): The firmware first serves queue 1 after a reset; FW_READY is raised and waiting requests are served. -/
  | fwReady (at_ : Nat)
  /-- VCORE_RAISE_RETRY (R619): At power-on, VCORE_PG has not risen within 2 ms; VID returns to off and the raise is retried every 100 ms. -/
  | vcoreRaiseRetry
  /-- SYS_LOCKSTEP (R544): A lockstep mismatch resets the command processor and SYS, and the boot ROM resumes from the running code bank. -/
  | sysLockstep (at_ : Nat)
  /-- PWR_VCORE_LOSS (R529): VCORE_PG is low for more than 10 µs in P0 to P2 outside the settle interval; the core domain is reset. -/
  | pwrVcoreLoss (at_ : Nat)
  /-- RF_PLL_LOCK (R29): Loss of RF PLL lock stops the channeliser and transmission, aborts ranging and moves time to the holdover path. -/
  | rfPllLock (at_ : Nat)
  /-- RF_PLL_RELOCK (R153): The RF PLL relocks; windows that were ON return from STARTING to ON, and timestamps lose the holdover bit. -/
  | rfPllRelock (at_ : Nat)
  /-- FAULT_EVENT (R545): A fault source reports an event; the collector counts it in its window, escalates it and applies the base and severe reactions. -/
  | faultEvent (fid : BitVec 16) (inst : Byte) (data : List Byte) (at_ : Nat)
  /-- SHADOW_END (R554): 10 µs after a fence is released or the safe-state stops complete, dependent sources stop being shadowed as consequential. -/
  | shadowEnd
  /-- BBX_RECORD_WRITE (R560): BBX programs and verifies the next buffered record in the current half, subject to the token bucket. -/
  | bbxRecordWrite (verified : Bool)
  /-- BBX_HALF_ERASED (R560): The erase of the other black box half completes; its header is written with GEN and ERASES one higher. -/
  | bbxHalfErased (at_ : Nat)
  /-- BBX_TOKEN_TICK (R562): Once per second the token bucket gains one token, up to 256. -/
  | bbxTokenTick
  /-- IDLE_TIMER_P1 (R509): Idle time reaches IDLE_P1_US and the device is in P1. -/
  | idleTimerP1 (at_ : Nat)
  /-- POWER_ENTRY_START (R509): Idle time reaches the idle timer of an allowed state and an entry into P2, P3 or P4 starts. -/
  | powerEntryStart
  /-- ENTRY_RETRY (R510): After a refused automatic entry, the entry is retried every 1 ms of continued idle time. -/
  | entryRetry
  /-- COMMIT_WINDOW_CYCLE (R512): On each of the four low-power edges of the commit window, PWR latches pads, applies isolation, stops clocks and sets VID; the state is reached at the last edge. -/
  | commitWindowCycle
  /-- IDLE_EXPIRY_DEEPER (R514): IDLE_P3_MS or IDLE_P4_S expires in P2, or IDLE_P4_S in P3, and the device moves to the deeper state without waking. -/
  | idleExpiryDeeper
  /-- WAKE_EVENT (R516): An enabled wake source fires; a level event is latched in PWR_WAKE_PEND and an edge event triggers the wake sequencer. -/
  | wakeEvent (cause : WakeCause) (at_ : Nat)
  /-- WAKE_TIMER (R518): PWR_WAKE_TIMER counts down to 0 and fires as a wake source. -/
  | wakeTimer
  /-- WAKE_REF_STABLE (R519): The reference oscillator becomes stable during a wake or power-on, and the sequence raises VID. -/
  | wakeRefStable (at_ : Nat)
  /-- VCORE_PG_RISE (R519): VCORE_PG rises; PLLs lock, device time is reconstructed and retained state is restored. -/
  | vcorePgRise (imageOk : Bool) (at_ : Nat)
  /-- WAKE_COMPLETE (R519): The boot ROM warm or cold path ends and HIF is operational; WAKE is raised and PWR_WAKE is queued. -/
  | wakeComplete (at_ : Nat)
  /-- WAKE_OSC_TIMEOUT (R520): The reference is not stable within 5 ms of a wake; the wake continues in reduced function. -/
  | wakeOscTimeout
  /-- WAKE_VCORE_TIMEOUT (R520): VCORE_PG is not high within 2 ms of a wake; VID is set off and the device enters P4. -/
  | wakeVcoreTimeout
  /-- WAKE_RETRY (R520): 100 ms after a regulator failure with a level source still pending, PWR retries the wake with source 0x0C. -/
  | wakeRetry
  /-- REFERENCE_RESTART (R521): In reduced function, PWR restarts the reference every 1 s and restores full function once it is stable. -/
  | referenceRestart (stable : Bool)
  /-- DVFS_CHANGE_DONE (R528): After SETTLE_US and VCORE_PG, the core and interconnect clocks switch and a DVFS raise completes. -/
  | dvfsChangeDone (at_ : Nat)
  /-- PWR_DVFS_PG (R529): VCORE_PG is not high within 2 ms of a raise; VID returns and the level is unchanged. -/
  | pwrDvfsPg
  /-- REF_SYNC_EDGE (R38): A REF_SYNC edge is timestamped and used as a discipline sample, as an outlier or as the anchor of the grid. -/
  | refSyncEdge (rising : Bool) (at_ : Nat)
  /-- EXPECTED_SAMPLE_MISSED (R38): An expected discipline sample passes without an accepted sample and counts toward MISS_LIMIT. -/
  | expectedSampleMissed
  /-- LP_RATIO_UPDATE (R43): At the end of each window of 1024 low-power cycles, TIME updates TIME_LP_RATIO and TIME_LP_RC_RATIO. -/
  | lpRatioUpdate (ratio rcRatio : BitVec 32) (crystal : Bool) (at_ : Nat)
  /-- CALENDAR_PREP (R46): PREP_LEAD before a slot time, the calendar delivers PREP to the slot's target. -/
  | calendarPrep (slot : Fin 64)
  /-- CALENDAR_FIRE (R46): Reference time reaches a slot time and the calendar delivers FIRE to the target, or records a missed or skipped fire. -/
  | calendarFire (slot : Fin 64)
  /-- CALENDAR_WAKE_LEAD (R48): WAKE_LEAD before a slot with WAKE set, the calendar starts a wake of the core domain. -/
  | calendarWakeLead (slot : Fin 64)
  /-- CALENDAR_SLOT_FREE (R45): A non-periodic slot reaches TIME + DURATION and is freed, after any action its target takes then. -/
  | calendarSlotFree (slot : Fin 64)
  /-- TMR_START (R61): A write to TMR_START sets EN of every selected timer channel in one cycle. -/
  | tmrStart (m : Master) (mask : BitVec 16)
  /-- TMR_TRIGGER (R62): A trigger edge reaches a channel and gates, resets, starts or clocks it according to SLAVE and CLK. -/
  | tmrTrigger (n : Fin 16) (rising : Bool) (at_ : Nat)
  /-- TMR_UPDATE (R66): A channel or chained pair counts past TOP and returns to 0 with an update. -/
  | tmrUpdate (n : Fin 16)
  /-- TMR_COMPARE (R67): The count meets the compare condition and CMPF is set once per write of CMP. -/
  | tmrCompare (n : Fin 16)
  /-- TMR_CAPTURE (R68): A capture edge stores CNT in TMR_CHn_CAP, setting CAPF or OVR. -/
  | tmrCapture (n : Fin 16) (rising : Bool) (at_ : Nat)
  /-- TMR_CAP_READ (R65): A read of TMR_CHn_CAP returns the captured count and clears CAPF. -/
  | tmrCapRead (m : Master) (n : Fin 16)
  /-- LOW_WORD_READ (R44): A master reads the low register of a 64-bit or 48-bit count and the high word is copied into its shadow. -/
  | lowWordRead (m : Master) (addr : BitVec 32)
  /-- RC_REGISTER_READ (R9): A read of a register with RC fields returns the value and clears those fields. -/
  | rcRegisterRead (m : Master) (addr : BitVec 32)
  /-- REGISTER_WRITE (R9): A master writes a register that has no step of its own; fields take effect under the access codes and locks. -/
  | registerWrite (m : Master) (addr : BitVec 32) (v : Word) (size : AccSize)
  /-- UNIT_EN_WRITE (R590): A write of a unit's EN moves it through the unit states of enable, disable or restart. -/
  | unitEnWrite (m : Master) (block : Fin 23) (en : Bool)
  /-- STARTING_DONE (R590): A unit, window or channel completes STARTING and enters ON, or DISABLING if disabled meanwhile. -/
  | startingDone (what : Startable) (at_ : Nat)
  /-- NOP (R484): NOP returns OK with no data. -/
  | nop (m : Master) (p : List Byte)
  /-- GET_ID (R485): GET_ID returns part, step, ordering code, region table identity, role, serial and firmware identity. -/
  | getId (m : Master) (p : List Byte)
  /-- GET_STATUS (R486): GET_STATUS returns a one-cycle snapshot of device status. -/
  | getStatus (m : Master) (p : List Byte)
  /-- REG_READ (R488): HIF checks and reads COUNT consecutive register words for the requesting master. -/
  | regRead (m : Master) (p : List Byte)
  /-- REG_WRITE (R489): HIF checks and writes COUNT words in ascending order, stopping at a word that would change a locked field. -/
  | regWrite (m : Master) (p : List Byte)
  /-- REG_MODIFY (R490): HIF performs an atomic read-modify-write of one word and returns the old value. -/
  | regModify (m : Master) (p : List Byte)
  /-- ECHO (R484): ECHO returns its parameter bytes unchanged. -/
  | echo (m : Master) (p : List Byte)
  /-- PWR_SET_POLICY (R537): PWR_SET_POLICY sets ALLOW, wake enables, idle timers, wake configuration and the budget. -/
  | pwrSetPolicy (m : Master) (p : List Byte)
  /-- PWR_ENTER (R538): PWR_ENTER takes consent at once and starts an entry into the named state once the reply has been read. -/
  | pwrEnter (m : Master) (p : List Byte)
  /-- PWR_GET_STATS (R539): PWR_GET_STATS returns power statistics and optionally clears the residency counters. -/
  | pwrGetStats (m : Master) (p : List Byte)
  /-- PWR_PAD_RELEASE (R540): PWR_PAD_RELEASE releases the named held pad groups to their blocks. -/
  | pwrPadRelease (m : Master) (p : List Byte)
  /-- PWR_SET_DVFS (R541): PWR_SET_DVFS requests a DVFS level change and replies when it has completed or been superseded. -/
  | pwrSetDvfs (m : Master) (p : List Byte)
  /-- PWR_SET_RETAIN (R542): PWR_SET_RETAIN sets RETAIN_MASK for BANKS retention. -/
  | pwrSetRetain (m : Master) (p : List Byte)
  /-- PWR_CMD_ENTER (R535): A write of PWR_CMD.ENTER starts an entry as PWR_ENTER does. -/
  | pwrCmdEnter (m : Master) (v : BitVec 3)
  /-- TIME_GET (R57): TIME_GET returns both counts, the servo state and the quality, sampled in one cycle. -/
  | timeGet (m : Master) (p : List Byte)
  /-- TIME_SET_REF (R58): TIME_SET_REF assigns reference time immediately, at the next REF_SYNC edge, or supplies a discipline sample. -/
  | timeSetRef (m : Master) (p : List Byte) (at_ : Nat)
  /-- TIME_CAL_ADD (R59): TIME_CAL_ADD checks and allocates a calendar slot. -/
  | timeCalAdd (m : Master) (p : List Byte)
  /-- TIME_CAL_REMOVE (R60): TIME_CAL_REMOVE frees a general calendar slot, delivering CANCEL where PREP or FIRE has been given. -/
  | timeCalRemove (m : Master) (p : List Byte)
  /-- TMR_CONFIG (R70): TMR_CONFIG loads a timer channel or chained pair and may start it. -/
  | tmrConfig (m : Master) (p : List Byte)
  /-- TMR_READ (R71): TMR_READ returns CNT, CAP and STATUS, counting as a read of CAP. -/
  | tmrRead (m : Master) (p : List Byte)
  /-- LF_CONFIG_CH (R112): LF_CONFIG_CH configures one LF channel or the block's global settings. -/
  | lfConfigCh (m : Master) (p : List Byte)
  /-- LF_PATTERN_DEF (R113): LF_PATTERN_DEF defines or deletes a pattern, effective at the next LF quiescent boundary. -/
  | lfPatternDef (m : Master) (p : List Byte)
  /-- LF_SEND (R114): LF_SEND queues an ACCESS, LOCATE or CARRIER transmission and returns its SEND_ID. -/
  | lfSend (m : Master) (p : List Byte)
  /-- LF_POLL_CONFIG (R115): LF_POLL_CONFIG writes the poll, back-off, window and handle pattern settings. -/
  | lfPollConfig (m : Master) (p : List Byte)
  /-- LF_POLL_START (R116): LF_POLL_START starts polling and counts as a restart event. -/
  | lfPollStart (m : Master) (p : List Byte)
  /-- LF_POLL_STOP (R116): LF_POLL_STOP stops polling after the current burst and window. -/
  | lfPollStop (m : Master) (p : List Byte)
  /-- LF_DIAG (R117): LF_DIAG starts STATIC, SWEEP or CURRENT tests on selected channels. -/
  | lfDiag (m : Master) (p : List Byte)
  /-- LF_MAP_LOAD (R239): LF_MAP_LOAD stages, commits or aborts a field map image for the zone solver. -/
  | lfMapLoad (m : Master) (p : List Byte)
  /-- LF_HNONCE3_WRITE (R108): A write to LF_HNONCE3 completes the handle nonce preload and sets NONCE_LOADED. -/
  | lfHnonce3Write (m : Master) (v : Word)
  /-- KICK (R94): A write of LF_POLL_CMD.KICK is a restart event: the idle-stop count restarts and the period is restored. -/
  | kick (m : Master)
  /-- NONCE_CLR (R111): A write of LF_POLL_CMD.NONCE_CLR erases the loaded handle nonce. -/
  | nonceClr (m : Master)
  /-- LF_SEND_START (R99): A pending LF send reaches the free transmitter or its AT_TIME, draws its NB and starts, or is refused. -/
  | lfSendStart
  /-- LF_TX_DONE (R107): An LF transmission ends, completes or is cut, and LF_TX_DONE is queued. -/
  | lfTxDone (meas : List LfMeas)
  /-- POLL_BURST (R92): A poll burst falls due on the grid and is sent, deferred or skipped. -/
  | pollBurst (stable : Bool)
  /-- POLL_BURST_DEFERRED (R92): A deferred poll burst starts in the first LF gap within 20 ms of its due time. -/
  | pollBurstDeferred
  /-- SENTINEL_POWER_UP (R142): 150 µs before each poll response window, the sequencer powers the sentinel. -/
  | sentinelPowerUp
  /-- POLL_ANSWER (R91): The sentinel accepts a POLL_ANSWER frame that passes its CRC in the response window. -/
  | pollAnswer (frame : List Byte) (rssi : BitVec 16) (at_ : Nat)
  /-- POLL_WINDOW_END (R93): A response window ends as hit, miss or void and the sequencer applies back-off. -/
  | pollWindowEnd (level : BitVec 16) (meas : List LfMeas)
  /-- LF_POLL_IDLE_STOP (R94): STOP_DAYS days pass without a restart event and polling enters IDLE_STOP. -/
  | lfPollIdleStop
  /-- HANDLE_IN_EDGE (R97): A HANDLE_IN edge is timestamped and enters the 100 µs stability filter. -/
  | handleInEdge (k : Fin 5) (high : Bool) (at_ : Nat)
  /-- HANDLE_QUALIFIED (R97): A handle edge passes its filter; an ACCESS telegram with the preloaded nonce is scheduled or the firmware is told. -/
  | handleQualified (k : Fin 5)
  /-- LF_HTEL_START (R97): The handle telegram's first carrier cycle starts 200 µs after the edge, or after the reference is stable or the burst ends. -/
  | lfHtelStart (stableAt : Nat)
  /-- LF_OVERCURRENT (R79): A channel's coil current exceeds ILIM_MA; its bridge switches off and the channel becomes unavailable. -/
  | lfOvercurrent (n : Fin 12) (at_ : Nat)
  /-- LF_VLF (R103): VLF leaves its operating range and channels 4 to 11 become unavailable. -/
  | lfVlf (at_ : Nat)
  /-- VLF_RETURN (R103): VLF has been back in range for 1 ms and channels 4 to 11 return to service. -/
  | vlfReturn (at_ : Nat)
  /-- LF_DIAG_DONE (R117): An LF diagnostic run completes and its result item and LF_DIAG_DONE are queued. -/
  | lfDiagDone (found : List LfFinding) (at_ : Nat)
  /-- LF_CAL_DUE (R104): A 10 °C temperature move or 24 h makes a channel's current calibration due for the next LF gap. -/
  | lfCalDue (n : Fin 12) (temp : BitVec 8) (at_ : Nat)
  /-- LF_CAL_DONE (R104): An LF current calibration completes, is stopped by a transmission, or fails and clears CAL_VALID. -/
  | lfCalDone (n : Fin 12) (outcome : Fin 3) (temp : BitVec 8)
  /-- URX_CONFIG (R159): URX_CONFIG configures a window, channel, the sentinel or global settings. -/
  | urxConfig (m : Master) (p : List Byte)
  /-- URX_START (R160): URX_START starts the named windows. -/
  | urxStart (m : Master) (p : List Byte)
  /-- URX_STOP (R160): URX_STOP makes the named windows DISABLING. -/
  | urxStop (m : Master) (p : List Byte)
  /-- RF_CAPTURE (R161): RF_CAPTURE arms Gather, reads a held capture into a queue, or cancels it. -/
  | rfCapture (m : Master) (p : List Byte)
  /-- SYNC_ACCEPTED (R123): A channel accepts a sync word and starts taking a frame. -/
  | syncAccepted (n : Fin 64) (word : BitVec 32) (hdr : Byte) (at_ : Nat)
  /-- URX_FRAME (R130): A channel completes a frame, checks it and writes the frame record to its queue or drops it. -/
  | urxFrame (n : Fin 64) (rx : Reception)
  /-- URX_JAM (R144): JAM_HOLD_MS of counted blocks above JAM_THR set JAM on a window. -/
  | urxJam (w : Fin 4) (power : BitVec 16) (at_ : Nat)
  /-- URX_JAM_CLEAR (R144): JAM_HOLD_MS of counted blocks 3 dB below JAM_THR clear JAM on a window. -/
  | urxJamClear (w : Fin 4) (at_ : Nat)
  /-- BYPASS_ENGAGE (R129): Clipping samples engage FEM bypass once no channel is in a frame. -/
  | bypassEngage (at_ : Nat)
  /-- BYPASS_RELEASE (R129): After 100 ms with every sample below −24 dBFS, bypass is released outside frames. -/
  | bypassRelease (at_ : Nat)
  /-- URX_ADC_FAULT (R128): An ADC fault puts every channel on the other port and enters DEG_SINGLE_RX. -/
  | urxAdcFault (portB : Bool) (at_ : Nat)
  /-- ADC_SELF_CHECK_DONE (R128): The ADC self-check started by FLT_CLEAR ends and the ADC returns to service or is reported again. -/
  | adcSelfCheckDone (portB passed : Bool) (at_ : Nat)
  /-- CAPTURE_TRIGGER (R147): A Gather trigger occurs and, once the post-trigger share is written, Gather is HELD. -/
  | captureTrigger (at_ : Nat)
  /-- GATHER_READ_ITEM (R148): A Gather read item is written to its queue once the queue can accept it. -/
  | gatherReadItem
  /-- GATHER_READ_TIMEOUT (R148): A Gather read that waits 1 s for queue space ends with QUEUE_FULL. -/
  | gatherReadTimeout
  /-- UTX_SEND (R197): UTX_SEND checks and queues a transmission and returns its SEND_ID. -/
  | utxSend (m : Master) (p : List Byte)
  /-- UTX_HOP_TABLE (R198): UTX_HOP_TABLE loads calibration table entries and checks them against the region table. -/
  | utxHopTable (m : Master) (p : List Byte)
  /-- RF_CALIBRATE (R199): RF_CALIBRATE marks calibration items due or runs them at once in foreground. -/
  | rfCalibrate (m : Master) (p : List Byte)
  /-- RF_CAL_STATUS (R200): RF_CAL_STATUS returns calibration validity, staleness, temperature and age. -/
  | rfCalStatus (m : Master) (p : List Byte)
  /-- COEX_CONFIG (R201): COEX_CONFIG sets the coexistence configuration at the UTX quiescent boundary. -/
  | coexConfig (m : Master) (p : List Byte)
  /-- FEM_SEQ_CONFIG (R201): FEM_SEQ_CONFIG sets the FEM leads, lags and polarities at the UTX quiescent boundary. -/
  | femSeqConfig (m : Master) (p : List Byte)
  /-- UTX_SEND_START (R169): A send's turn comes; UTX hops, checks region and duty, listens, asks for grant and runs the FEM sequence. -/
  | utxSendStart (busy : Option Nat)
  /-- SYNTH_LOCKED (R175): The synthesiser locks after a hop or calibration and the waiting send's FEM sequence can start. -/
  | synthLocked (at_ : Nat)
  /-- UTX_SYNTH_LOCK (R162): The synthesiser does not lock within 200 µs and UTX_SYNTH_LOCK is reported. -/
  | utxSynthLock
  /-- COEX_GNT_RISE (R176): COEX_GNT becomes active and a sequence waiting for grant proceeds. -/
  | coexGntRise (at_ : Nat)
  /-- COEX_GNT_FALL (R177): COEX_GNT falls during a low-priority transmission with HONOR_DROP; the carrier ramps down with COEX_STOP. -/
  | coexGntFall (at_ : Nat)
  /-- COEX_WAIT_TIMEOUT (R172): An ASAP send has waited 100 ms for grant or a clear channel and completes with TX_LATE or BUSY. -/
  | coexWaitTimeout
  /-- AFTER_RX_TIMEOUT (R169): No trigger sync arrives before START_TIME and an AFTER_RX send completes with TIMEOUT. -/
  | afterRxTimeout
  /-- UTX_TX_DONE (R194): A transmission ends or is refused, the airtime is added to the duty bins and UTX_TX_DONE is queued. -/
  | utxTxDone (inTol : Bool)
  /-- DUTY_BIN_ROLL (R182): Every 60 s on the low-power counter the duty accumulator advances its bins and drops the oldest. -/
  | dutyBinRoll
  /-- CAL_DUE (R185): A temperature move or CAL_AGE_H makes a calibration item or entry due in background. -/
  | calDue (item : Fin 4) (idx : Fin 128) (temp : BitVec 8) (at_ : Nat)
  /-- CAL_STEP_START (R185): The engine starts a placed background calibration step in a gap. -/
  | calStepStart
  /-- RF_CAL_DONE (R188): A calibration step completes, fails or is stopped; the result replaces the old one at a quiescent boundary. -/
  | rfCalDone (good : Bool) (vco : BitVec 4) (cap : Byte) (gain : BitVec 6) (temp : BitVec 8)
  /-- RANGE_CONFIG (R234): RANGE_CONFIG loads and checks the tone plan and thresholds. -/
  | rangeConfig (m : Master) (p : List Byte)
  /-- RANGE_RUN (R235): RANGE_RUN arms a ranging run from the host. -/
  | rangeRun (m : Master) (p : List Byte)
  /-- RANGE_RESULT (R236): RANGE_RESULT returns one of the last four ranging results. -/
  | rangeResult (m : Master) (p : List Byte)
  /-- ZONE_CONFIG (R237): ZONE_CONFIG sets the solver limits, zone intervals and worker limits. -/
  | zoneConfig (m : Master) (p : List Byte)
  /-- ZONE_QUERY (R238): ZONE_QUERY returns the last zone result or runs a solve on supplied values. -/
  | zoneQuery (m : Master) (p : List Byte)
  /-- RANGE_CMD_GO (R231): A write of RANGE_CMD.GO arms a run with the ARM and SEED registers. -/
  | rangeCmdGo (m : Master)
  /-- RANGE_CMD_ABORT (R219): A write of RANGE_CMD.ABORT aborts the armed or running run with verdict ABORTED. -/
  | rangeCmdAbort (m : Master)
  /-- RANGE_ORIGIN_FIXED (R220): A run's origin is fixed and RANGE takes an EXCLUSIVE calendar slot for it, or ends the run. -/
  | rangeOriginFixed
  /-- RANGE_SLOT_BEGIN (R211): At O − 50 µs the ranging slot begins and RTT_ENTRY is loaded for the burst. -/
  | rangeSlotBegin
  /-- RANGE_STEP (R211): A timed part of a run starts: the B1 burst, the B2 window or a tone step. -/
  | rangeStep (meas : RangeMeas)
  /-- RANGE_TIMEOUT (R219): No trigger frame arrives by the latest instant and an AFTER_RX run ends with TIMEOUT. -/
  | rangeTimeout
  /-- RANGE_DONE (R227): At the run end RANGE computes the distances and the verdict, updates RANGE_LAST and queues RANGE_DONE. -/
  | rangeDone (at_ : Nat)
  /-- ZONE_CMD_START (R206): A write of ZONE_CMD.START starts a zone solve. -/
  | zoneCmdStart (m : Master)
  /-- ZONE_SOLVED (R206): A solve completes and its result is latched and queued. -/
  | zoneSolved (at_ : Nat)
  /-- ZONE_MAP_LOADED (R207): A committed map is written, read back and switched in at an LF quiescent boundary, or fails. -/
  | zoneMapLoaded (ok : Bool) (at_ : Nat)
  /-- CRED_ADD (R281): CRED_ADD checks and writes a directory entry. -/
  | credAdd (m : Master) (p : List Byte)
  /-- CRED_REMOVE (R282): CRED_REMOVE empties a directory entry. -/
  | credRemove (m : Master) (p : List Byte)
  /-- CRED_QUERY (R283): CRED_QUERY returns a credential's stored state. -/
  | credQuery (m : Master) (p : List Byte)
  /-- CRED_POP_LOAD (R284): CRED_POP_LOAD builds, adds to, deletes from or revokes in the population. -/
  | credPopLoad (m : Master) (p : List Byte)
  /-- CRED_REVOKE_EPOCH (R285): CRED_REVOKE_EPOCH raises an issuer epoch to NEW_EPOCH. -/
  | credRevokeEpoch (m : Master) (p : List Byte)
  /-- AUTH_START (R286): AUTH_START starts an ACCESS or LOCATE attempt. -/
  | authStart (m : Master) (p : List Byte)
  /-- AUTH_RESULT (R287): AUTH_RESULT returns one of the last four attempt results. -/
  | authResult (m : Master) (p : List Byte)
  /-- AUTH_LOCKOUT_STATUS (R288): AUTH_LOCKOUT_STATUS returns the global and per-credential lock-out state. -/
  | authLockoutStatus (m : Master) (p : List Byte)
  /-- AUTH_LOCKOUT_CLEAR (R289): AUTH_LOCKOUT_CLEAR clears the global lock, one credential or the whole table. -/
  | authLockoutClear (m : Master) (p : List Byte)
  /-- CRED_LK_GO (R280): A write of CRED_LK_CMD.GO starts a lookup of CRED_LK_ID. -/
  | credLkGo (m : Master) (v : Word)
  /-- LOOKUP_DONE (R255): A lookup completes its directory or population search, revocation and expiry checks and unwrap. -/
  | lookupDone (timeNs : BitVec 32) (flash : Bool) (at_ : Nat)
  /-- REVMAP_LOADED (R251): The revocation map finishes loading into SRAM and the population can be used. -/
  | revmapLoaded (ok : Bool) (at_ : Nat)
  /-- BUILD_ERASE_DONE (R284): The bank erase of BUILD_BEGIN completes and CRED_POP_DONE is queued. -/
  | buildEraseDone (at_ : Nat)
  /-- BUILD_COMMIT_DONE (R275): BUILD_COMMIT verification ends; the header is programmed or the build fails. -/
  | buildCommitDone (flash : Bool) (at_ : Nat)
  /-- ANSWER_WINDOW_END (R264): An attempt's answer window ends; answers are selected or a round is repeated. -/
  | answerWindowEnd
  /-- KEY_PROOF_TIMEOUT (R260): No KEY_PROOF arrives by its expected instant plus SLOT_TOL_US; the exchange fails and its run is aborted. -/
  | keyProofTimeout
  /-- CRED_LOCK_EXPIRY (R269): A credential lock of LOCK_T_MIN minutes ends. -/
  | credLockExpiry
  /-- GLOBAL_LOCK_EXPIRY (R270): The 900 s global lock ends. -/
  | globalLockExpiry
  /-- REL_CONFIG (R318): REL_CONFIG sets the release configuration, pending until the session is CLOSED. -/
  | relConfig (m : Master) (p : List Byte)
  /-- REL_ARM (R319): REL_ARM arms or disarms release. -/
  | relArm (m : Master) (p : List Byte)
  /-- REL_STATUS (R320): REL_STATUS returns the release status snapshot. -/
  | relStatus (m : Master) (p : List Byte)
  /-- REL_END (R321): REL_END ends the session with cause HOST. -/
  | relEnd (m : Master) (p : List Byte)
  /-- EWAKE_CONFIG (R322): EWAKE_CONFIG sets a line, sets the predictions or fires lines. -/
  | ewakeConfig (m : Master) (p : List Byte)
  /-- TELLTALE_CONFIG (R323): TELLTALE_CONFIG sets the tell-tale mode, current and patterns. -/
  | telltaleConfig (m : Master) (p : List Byte)
  /-- REL_CMD_OPEN (R290): The firmware writes REL_CMD.OPEN; REL runs its checks and opens, extends or refuses the session. -/
  | relCmdOpen (m : Master)
  /-- REL_CMD_END (R297): The firmware writes REL_CMD.END and the session ends with cause HOST. -/
  | relCmdEnd (m : Master)
  /-- OPENING_GAP (R294): GAP_US after START_EN_B falls, START_EN_A rises once START_FB_B reads low. -/
  | openingGap
  /-- CLOSING_GAP (R294): GAP_US after START_EN_A falls, START_EN_B rises and the pair reaches the off state. -/
  | closingGap
  /-- START_FB_CHANGE (R295): A START_FB readback input changes level and REL advances the pair transition. -/
  | startFbChange (lineB high : Bool) (at_ : Nat)
  /-- READBACK_FAULT (R295): A readback disagreement lasts past FB_SETTLE_US or FB_GLITCH_US; the fault is latched and a session ends. -/
  | readbackFault (lineB : Bool)
  /-- DOOR_IN_EDGE (R297): A DOOR_IN edge is timestamped and enters its DOOR_FILT_US filter. -/
  | doorInEdge (k : Fin 4) (high : Bool) (at_ : Nat)
  /-- DOOR_QUALIFIED (R297): A door open edge passes its filter; the session ends with cause DOOR and EWAKE sources fire. -/
  | doorQualified (k : Fin 4)
  /-- SESSION_TIMEOUT (R299): Reference time reaches the session instant plus SESSION_TO_S and the session ends with TIMEOUT. -/
  | sessionTimeout
  /-- ARM_EXPIRY (R301): The release arm time runs out and release is disarmed. -/
  | armExpiry
  /-- REL_EWAKE_RB (R306): An EWAKE pad readback disagrees for more than 10 µs. -/
  | relEwakeRb (l : Fin 4) (at_ : Nat)
  /-- TT_PHASE (R308): The tell-tale switches between on and off phases of its pattern, or to a new pattern. -/
  | ttPhase (at_ : Nat)
  /-- TT_MEASURE (R309): 0.5 ms to 1.0 ms into a phase, REL measures the lamp current and latches any fault. -/
  | ttMeasure (current : Byte) (at_ : Nat)
  /-- TT_SUMMARY (R310): Every 24 h REL records TT_STATE with the least and greatest on currents. -/
  | ttSummary
  /-- AES_BLOCK (R360): AES_BLOCK runs raw block operations on engine 1 for the host. -/
  | aesBlock (m : Master) (p : List Byte)
  /-- KEY_UNWRAP (R361): KEY_UNWRAP unwraps a key into a slot through Mordant. -/
  | keyUnwrap (m : Master) (p : List Byte)
  /-- KEY_SLOT_CLEAR (R362): KEY_SLOT_CLEAR zeroes the named key slots. -/
  | keySlotClear (m : Master) (p : List Byte)
  /-- CNT_INCREMENT (R363): CNT_INCREMENT increments a general counter. -/
  | cntIncrement (m : Master) (p : List Byte)
  /-- CNT_READ (R364): CNT_READ returns one counter or all counters. -/
  | cntRead (m : Master) (p : List Byte)
  /-- RNG_READ (R365): RNG_READ requests DRBG output for the host. -/
  | rngRead (m : Master) (p : List Byte)
  /-- RNG_SELFTEST (R366): RNG_SELFTEST runs the known-answer tests or restarts TRNG. -/
  | rngSelftest (m : Master) (p : List Byte) (passed : BitVec 2)
  /-- AES_GO (R325): A write of AES_En_CMD.GO starts one block operation on an engine. -/
  | aesGo (m : Master) (e : Fin 2)
  /-- AES_CLEAR (R327): A write of AES_En_CMD.CLEAR zeroes the engine's KEY, DIN and DOUT. -/
  | aesClear (m : Master) (e : Fin 2)
  /-- AES_BLOCK_DONE (R325): An engine completes its block and DOUT becomes valid. -/
  | aesBlockDone (e : Fin 2)
  /-- MRD_GO (R331): A write of MRD_CMD.GO starts a Mordant unwrap. -/
  | mrdGo (m : Master)
  /-- UNWRAP_DONE (R331): A Mordant unwrap completes; the key enters its slot or the slot is left empty. -/
  | unwrapDone (at_ : Nat)
  /-- CNT_INC (R334): A write of CNT_INC requests an increment of a counter. -/
  | cntInc (m : Master) (n : Fin 64)
  /-- COUNTER_RECORD_WRITTEN (R337): A counter backing record is written and verified, and the new value becomes visible. -/
  | counterRecordWritten (verified : Bool) (at_ : Nat)
  /-- CEILING_WRITE (R338): A RESERVED counter reaching C − 8 writes C + 16 in the background. -/
  | ceilingWrite (n : Fin 64) (verified : Bool) (at_ : Nat)
  /-- COUNTER_HALF_ERASED (R336): The background erase of a full counter backing half completes. -/
  | counterHalfErased (n : Fin 64) (at_ : Nat)
  /-- CNT_LOADED (R339): CNT has loaded all counters and increments may proceed. -/
  | cntLoaded (at_ : Nat)
  /-- RNG_READY (R345): TRNG start-up completes its tests and instantiation and the generator is READY. -/
  | rngReady (at_ : Nat)
  /-- TRNG_HEALTH_FAILURE (R349): A health or known-answer test fails; output stops, requests end with RNG_HEALTH and TRNG restarts. -/
  | trngHealthFailure (test : Fin 7) (at_ : Nat)
  /-- RESEED_DONE (R344): A DRBG reseed falls due after 4096 requests and completes once the pool is ready. -/
  | reseedDone
  /-- RNG_REQUEST_SERVED (R347): The DRBG serves the next waiting request in priority order. -/
  | rngRequestServed
  /-- TRNG_FIFO_READ (R356): A read of TRNG_FIFO returns the next word, or 0 with UNDERRUN when empty. -/
  | trngFifoRead (m : Master)
  /-- HFR_CONFIG (R390): HFR_CONFIG sets the reader ports and tap settings. -/
  | hfrConfig (m : Master) (p : List Byte)
  /-- HFR_PING_CONFIG (R391): HFR_PING_CONFIG sets the ping engine and may relearn baselines. -/
  | hfrPingConfig (m : Master) (p : List Byte)
  /-- HFR_ACTIVATE (R392): HFR_ACTIVATE starts a field and a target activation, with an optional key flow. -/
  | hfrActivate (m : Master) (p : List Byte)
  /-- HFR_EXCHANGE (R393): HFR_EXCHANGE sends a frame to the activated target and returns its response. -/
  | hfrExchange (m : Master) (p : List Byte)
  /-- HFR_FIELD_OFF (R394): HFR_FIELD_OFF switches fields off and may relearn baselines. -/
  | hfrFieldOff (m : Master) (p : List Byte)
  /-- PING_REFERENCE_START (R377): In P2 and P3, 150 µs before a ping, the reference and reader clock are started. -/
  | pingReferenceStart
  /-- HFR_PING (R373): A detuning ping is made or skipped, and its measurement is compared with the baseline. -/
  | hfrPing (port : Fin 2) (amp : BitVec 16) (phase : BitVec 12) (ext : Bool)
  /-- EXT_CHECK_END (R369): The external field check ends; the field is switched on or the activation ends with BUSY. -/
  | extCheckEnd (ext : Bool)
  /-- HFR_ACTIVATED (R387): Target activation completes or fails and HFR_ACTIVATED is queued. -/
  | hfrActivated (ok multi : Bool) (uid : List Byte) (sak : Byte) (atq : BitVec 16) (ats : List Byte) (at_ : Nat)
  /-- HFR_ACTIVATE_TIMEOUT (R392): No target answers within TIMEOUT_MS and the activation ends with TIMEOUT. -/
  | hfrActivateTimeout
  /-- HFR_EXCHANGE_TIMEOUT (R393): No response arrives within TIMEOUT_MS and HFR_EXCHANGE returns TIMEOUT. -/
  | hfrExchangeTimeout
  /-- HELLO_REPLY (R380): A key's HELLO reply arrives; lock-out, lookup and derivation run and T_PROOF is sent. -/
  | helloReply (b : List Byte) (at_ : Nat)
  /-- PROOF_REPLY (R380): A key's PROOF reply arrives and is checked for TAG_K, counter and frame delay. -/
  | proofReply (b : List Byte) (wtx : Bool) (delayUs : Nat) (at_ : Nat)
  /-- CLOSE_REPLY (R378): The key's CLOSE reply arrives and the key flow ends with the field off. -/
  | closeReply (at_ : Nat)
  /-- TAP_FDT_TIMEOUT (R380): The PROOF reply does not start within TAP_FDT_MAX_MS and the flow ends with RELAY_SUSPECT. -/
  | tapFdtTimeout (at_ : Nat)
  /-- HFR_FIELD_TIMEOUT (R370): 1000 ms after the last activation or exchange the field switches off. -/
  | hfrFieldTimeout
  /-- HFR_OVERCURRENT (R368): A reader driver reaches its current limit and switches off. -/
  | hfrOvercurrent (port : Fin 2) (at_ : Nat)
  /-- VLT_READ (R430): VLT_READ reads vault pages directly or starts a stream. -/
  | vltRead (m : Master) (p : List Byte)
  /-- VLT_WRITE (R431): VLT_WRITE writes up to four USER pages, each atomically. -/
  | vltWrite (m : Master) (p : List Byte)
  /-- VLT_CONFIG (R432): VLT_CONFIG writes power settings, a key, LAST_TIME or a log record into the vault. -/
  | vltConfig (m : Master) (p : List Byte)
  /-- VLT_STATUS (R433): VLT_STATUS returns the vault status. -/
  | vltStatus (m : Master) (p : List Byte)
  /-- VLT_REL_ARM (R434): VLT_REL_ARM arms or disarms tickets and raises LAST_TSEQ to the floor. -/
  | vltRelArm (m : Master) (p : List Byte)
  /-- WIRED_OPERATION_GRANT (R420): A waiting wired vault operation is granted the vault memory and runs. -/
  | wiredOperationGrant (v : VaultMeas) (at_ : Nat)
  /-- VAULT_BUSY_TIMEOUT (R420): A wired request loses arbitration for 2 ms and ends with VAULT_BUSY. -/
  | vaultBusyTimeout
  /-- VLT_STREAM_ITEM (R423): A checked stream item is written to its queue once there is room. -/
  | vltStreamItem
  /-- VLT_STREAM_TIMEOUT (R424): A stream item waits 1 s for queue space and the stream ends with QUEUE_FULL. -/
  | vltStreamTimeout
  /-- VAULT_POWER_UP (R404): VH rises through 1.90 V; the vault recovers its shadow slots, loads its keys and enters IDLE. -/
  | vaultPowerUp (main : Bool) (v : VaultMeas) (at_ : Nat)
  /-- VAULT_BROWN_OUT (R395): VH falls through 1.80 V and the vault logic resets at once. -/
  | vaultBrownOut (at_ : Nat)
  /-- VAULT_FIELD_LOSS (R408): The field is lost; the vault returns to IDLE in MAIN or to OFF otherwise. -/
  | vaultFieldLoss (at_ : Nat)
  /-- FD_WAKE_RISE (R398): 100 µs after the field exceeds 0.5 A/m, FD_WAKE rises and VLT_FIELD is queued. -/
  | fdWakeRise (v : VaultMeas) (at_ : Nat)
  /-- FD_WAKE_FALL (R398): FD_HOLD_MS after the field falls below 0.5 A/m, FD_WAKE returns low. -/
  | fdWakeFall (at_ : Nat)
  /-- VREQ (R409): A VREQ frame makes each vault that matches draw a handle and answer in its slot. -/
  | vreq (b : List Byte) (parityOk : Bool) (at_ : Nat)
  /-- VWUP (R409): A VWUP frame wakes halted vaults and makes them answer as for VREQ. -/
  | vwup (b : List Byte) (parityOk : Bool) (at_ : Nat)
  /-- VSEL (R408): A VSEL frame with the vault's handle makes it ACTIVE and it answers with VAULT_ID and NV. -/
  | vsel (b : List Byte) (parityOk : Bool) (at_ : Nat)
  /-- AUTH1 (R411): An AUTH1 frame derives the session key and the vault answers with PV. -/
  | auth1 (b : List Byte) (parityOk : Bool) (at_ : Nat)
  /-- AUTH2 (R411): An AUTH2 frame is checked; a right PR opens the session. -/
  | auth2 (b : List Byte) (parityOk : Bool) (at_ : Nat)
  /-- HALT (R408): A HALT frame puts the vault in HALTED without an answer. -/
  | halt (b : List Byte) (parityOk : Bool) (at_ : Nat)
  /-- SECURE_READ (R413): A secure READ returns a log or user page. -/
  | secureRead (b : List Byte) (parityOk : Bool) (v : VaultMeas) (at_ : Nat)
  /-- SECURE_WRITE (R413): A secure WRITE writes a user page under R403. -/
  | secureWrite (b : List Byte) (parityOk : Bool) (v : VaultMeas) (at_ : Nat)
  /-- SECURE_STATUS (R413): A secure STATUS returns the vault supply and release status. -/
  | secureStatus (b : List Byte) (parityOk : Bool) (v : VaultMeas) (at_ : Nat)
  /-- TICKET (R417): A secure TICKET is checked, consumed and fires VAULT_REL. -/
  | ticket (b : List Byte) (parityOk : Bool) (v : VaultMeas) (at_ : Nat)
  /-- SECURE_END (R413): A secure END ends the session after its answer. -/
  | secureEnd (b : List Byte) (parityOk : Bool) (at_ : Nat)
  /-- PAGE_WRITE_COMMITTED (R403): Steps 2 and 3 of a page write complete and the write is durable. -/
  | pageWriteCommitted (verified : Bool) (v : VaultMeas)
  /-- PAGE_WRITE_COPY_DONE (R403): Steps 4 and 5 of a page write complete and the shadow slot is retired. -/
  | pageWriteCopyDone (verified : Bool) (v : VaultMeas)
  /-- RETIRED_SLOT_ERASE (R404): A retired shadow slot is erased while the vault is powered and idle. -/
  | retiredSlotErase (verified : Bool)
  /-- VAULT_REL_PULSE_END (R418): PULSE_10MS × 10 ms after firing, VAULT_REL returns low. -/
  | vaultRelPulseEnd
  /-- VLT_RNG (R410): The vault random source fails its repetition test and the vault stops answering requests. -/
  | vltRng (failing : Bool) (at_ : Nat)
  /-- LAST_TIME_WRITE (R419): Every 24 h in MAIN with the servo LOCKED, VLT writes LAST_TIME into the vault. -/
  | lastTimeWrite
  /-- QM_PUSH_BEGIN (R443): A write to QM_PUSHp_BEGIN reserves cells for a new item. -/
  | qmPushBegin (m : Master) (port : Fin 8) (v : Word)
  /-- QM_PUSH_DATA (R443): A write to QM_PUSHp_DATA appends 4 bytes and commits the item at LEN_B. -/
  | qmPushData (m : Master) (port : Fin 8) (v : Word)
  /-- QM_POP_SEL (R444): A write to QM_POPc_SEL binds the head item of a queue to the port. -/
  | qmPopSel (m : Master) (port : Fin 8) (q : BitVec 7)
  /-- QM_POP_DATA (R444): A read of QM_POPc_DATA returns the next 4 bytes of the bound item, with ECC checking. -/
  | qmPopData (m : Master) (port : Fin 8) (ecc : Ecc)
  /-- QM_POP_DONE (R444): A write to QM_POPc_DONE frees the bound item's cells. -/
  | qmPopDone (m : Master) (port : Fin 8)
  /-- QM_LINK (R450): A link memory parity error flushes the queue concerned. -/
  | qmLink (q : Fin 128) (at_ : Nat)
  /-- Q_CONFIG (R458): Q_CONFIG configures a queue. -/
  | qConfig (m : Master) (p : List Byte)
  /-- Q_POP (R459): Q_POP pops whole items from a queue into the reply. -/
  | qPop (m : Master) (p : List Byte) (ecc : List Ecc)
  /-- Q_PUSH (R460): Q_PUSH writes one item into a queue. -/
  | qPush (m : Master) (p : List Byte)
  /-- Q_FLUSH (R461): Q_FLUSH discards every item of a queue. -/
  | qFlush (m : Master) (p : List Byte)
  /-- Q_STATUS (R462): Q_STATUS returns a queue's or the pool's status without clearing. -/
  | qStatus (m : Master) (p : List Byte)
  /-- Q_WATERMARK (R463): Q_WATERMARK samples a queue's watermark state, then sets levels or clears flags and counts. -/
  | qWatermark (m : Master) (p : List Byte)
  /-- SPI_REQUEST (R466): A request packet arrives on the SPI link; HIF checks it and executes it or queues it for the firmware. -/
  | spiRequest (bytes : List Byte) (at_ : Nat)
  /-- SPI_READ (R469): A read transaction on the SPI link returns the flag byte and the reply packet. -/
  | spiRead (n : Nat) (at_ : Nat)
  /-- SIDE_WRITE (R479): A write transfer on the sideband port carries one request packet. -/
  | sideWrite (bytes : List Byte) (at_ : Nat)
  /-- SIDE_READ (R479): A read transfer on the sideband port returns the flag byte and the sideband reply. -/
  | sideRead (n : Nat) (at_ : Nat)
  /-- SIDE_ADDRESS_MATCH (R480): In P2 or P3, an address match holds SCL low and wakes the device. -/
  | sideAddressMatch (at_ : Nat)
  /-- SIDE_STRETCH_END (R480): After at most 300 µs, SCL is released with or without acknowledge. -/
  | sideStretchEnd
  /-- HIF_SIDE_STUCK (R481): SCL or SDA is held low for more than 35 ms and the sideband port returns to idle. -/
  | hifSideStuck (at_ : Nat)
  /-- REPLY_FORMED (R473): The reply segment with LAST commits in queue 2 and HIF forms the reply packet. -/
  | replyFormed
  /-- HIF_CMD_TIMEOUT (R474): No reply arrives within CMD_TO_MS and HIF replies TIMEOUT. -/
  | hifCmdTimeout (side : Bool)
  /-- FLASH_OP_DONE (R499): An xSPI program, erase or read completes and any waiting access proceeds. -/
  | flashOpDone (at_ : Nat)
  /-- HIF_XSPI_TIMEOUT (R500): A flash operation gets no strobe or ready status in time, ends with TIMEOUT and the device is reset. -/
  | hifXspiTimeout
  /-- FLT_STATUS (R571): FLT_STATUS returns the collector summary or one source's state. -/
  | fltStatus (m : Master) (p : List Byte)
  /-- FLT_CONFIG (R572): FLT_CONFIG sets one source's count, window and reactions. -/
  | fltConfig (m : Master) (p : List Byte)
  /-- FLT_CLEAR (R573): FLT_CLEAR clears latches and releases fences, forced modes and the safe state. -/
  | fltClear (m : Master) (p : List Byte)
  /-- FLT_INJECT (R575): FLT_INJECT injects fault events in factory test mode. -/
  | fltInject (m : Master) (p : List Byte)
  /-- INJECTED_EVENT (R555): One injected fault event is recorded, one per microsecond, and counted in the injection window. -/
  | injectedEvent
  /-- BBX_READ (R574): BBX_READ returns black box records in RSEQ order. -/
  | bbxRead (m : Master) (p : List Byte)
  /-- CFG_STAGE (R605): CFG_STAGE assembles and checks a configuration image in the staging buffer. -/
  | cfgStage (m : Master) (p : List Byte)
  /-- CFG_APPLY (R606): CFG_APPLY sends the switch request to every block and replies when all have switched or the apply is withdrawn. -/
  | cfgApply (m : Master) (p : List Byte)
  /-- CFG_READ (R607): CFG_READ returns bytes of a configuration image. -/
  | cfgRead (m : Master) (p : List Byte)
  /-- CFG_COMMIT_NV (R582): CFG_COMMIT_NV writes the image in force into the other copy and the archive. -/
  | cfgCommitNv (m : Master) (p : List Byte) (readback : Bool)
  /-- FW_WRITE_SLOT (R608): FW_WRITE_SLOT erases or programs a firmware slot. -/
  | fwWriteSlot (m : Master) (p : List Byte) (readback : Bool)
  /-- FW_ERASE_DONE (R608): A slot erase completes and FW_EVT with phase 0 is queued. -/
  | fwEraseDone (at_ : Nat)
  /-- FW_VERIFY (R609): FW_VERIFY verifies a firmware slot. -/
  | fwVerify (m : Master) (p : List Byte)
  /-- FW_SWITCH (R587): FW_SWITCH starts a live switch to the other slot or confirms the trial firmware. -/
  | fwSwitch (m : Master) (p : List Byte)
  /-- CAL_STAGE (R610): CAL_STAGE snapshots, restores or resets calibration results. -/
  | calStage (m : Master) (p : List Byte)
  /-- CONFIG_SWITCH (R579): A block named by the image reaches its quiescent boundary and loads its shadow bank. -/
  | configSwitch (block : Fin 23) (readback : Bool) (at_ : Nat)
  /-- APPLY_TIMEOUT (R580): APPLY_TO_MS passes and the apply is withdrawn with DEFERRED. -/
  | applyTimeout
  /-- CONFIG_REVERT (R580): A switched block reaches its boundary and returns to its old configuration. -/
  | configRevert (block : Fin 23) (at_ : Nat)
  /-- SWITCH_BANK_LOADED (R587): The target slot has been copied into the idle bank and its TAG checked. -/
  | switchBankLoaded (at_ : Nat)
  /-- HANDOVER_POINT (R587): A handover point is reached; the old firmware writes the handover area and the cores start the new bank. -/
  | handoverPoint (at_ : Nat)
  /-- SWITCH_WAIT_TIMEOUT (R587): SWITCH_WAIT_MS passes without a handover point and the switch is deferred. -/
  | switchWaitTimeout
  /-- TRIAL_TIMEOUT (R588): No CONFIRM arrives within 60 s and the device switches back to PREV_SLOT. -/
  | trialTimeout
  /-- FALLBACK_RETRY (R588): During a fallback, the wait for a handover point is retried every 1 s. -/
  | fallbackRetry
  /-- WL_CONFIG (R611): WL_CONFIG sets the worker link enable, index and queues. -/
  | wlConfig (m : Master) (p : List Byte)
  /-- WL_DISCOVER (R611): WL_DISCOVER discovers workers and measures their delays. -/
  | wlDiscover (m : Master) (p : List Byte)
  /-- WL_STATUS (R611): WL_STATUS returns the worker link status. -/
  | wlStatus (m : Master) (p : List Byte)
  /-- WL_FORWARD (R612): WL_FORWARD forwards a request packet to a worker. -/
  | wlForward (m : Master) (p : List Byte)
  /-- FWD_REPEAT (R594): 1 ms after the last FWD frame without a REPLY, the manager repeats the FWD sequence, up to 3 times. -/
  | fwdRepeat
  /-- WL_FORWARD_TIMEOUT (R612): No complete reply arrives within 100 ms of the last FWD frame and WL_FORWARD returns TIMEOUT. -/
  | wlForwardTimeout
  /-- FWD (R594): A worker assembles a forwarded request and executes it as M1. -/
  | fwd (b : List Byte) (at_ : Nat)
  /-- REPLY (R594): The manager assembles a worker's reply and returns it. -/
  | reply (w : Fin 4) (b : List Byte) (at_ : Nat)
  /-- FRAME (R595): The manager places a worker's frame record item in its queue. -/
  | frame (w : Fin 4) (b : List Byte) (at_ : Nat)
  /-- EVENT (R595): The manager places a worker's event or fault record in its queue. -/
  | event (w : Fin 4) (b : List Byte) (at_ : Nat)
  /-- RANGE_W (R224): A worker's ranging result reaches RANGE and adds a bound to check C. -/
  | rangeW (w : Fin 4) (crcOk : Bool) (tones : Byte) (dsum : BitVec 16) (at_ : Nat)
  /-- RUN (R594): A worker receives a run's tone order, origin and index and measures the key's tones. -/
  | run (crcOk : Bool) (idx : Nat) (origin : Nat) (order : List Byte) (at_ : Nat)
  /-- DREQ (R593): A worker stamps a DREQ and answers with DRSP. -/
  | dreq (crcOk : Bool) (devTime : Option Nat) (at_ : Nat)
  /-- DRSP (R593): The manager stamps a DRSP and records one delay value. -/
  | drsp (w : Fin 4) (crcOk : Bool) (t1 t2 t3 t4 : Nat) (at_ : Nat)
  /-- DELAY_MEASUREMENT (R593): Every 60 s, or after a wake or relock, the manager starts a 16-exchange delay measurement. -/
  | delayMeasurement (w : Fin 4) (at_ : Nat)
  /-- DELAY_MEASURED (R593): The 16 exchanges end and the worker is locked with its delay or WLK_DELAY is reported. -/
  | delayMeasured (w : Fin 4)
  /-- WLK_LOS (R597): A worker link loses lock; the worker enters holdover and the manager marks it absent. -/
  | wlkLos (w : Fin 4) (at_ : Nat)
  /-- LOCK_RETRY (R597): A worker that lost its link retries lock every 10 ms. -/
  | lockRetry (locked : Bool)
  /-- WL_CLK_ABSENT (R597): A worker sees WL_CLK absent for 1 ms and enters P3. -/
  | wlClkAbsent (at_ : Nat)
  /-- TEST_ENTER (R598): TEST_ENTER issues a challenge or checks the response and enters factory test mode. -/
  | testEnter (m : Master) (p : List Byte)
  /-- TEST_EXIT (R598): TEST_EXIT leaves factory test mode and ends injection effects. -/
  | testExit (m : Master) (p : List Byte)
  /-- PREAMBLE_DETECTED (R123): A URX channel has detected PRE_MIN bits of alternating preamble and starts comparing incoming bits with its sync word. -/
  | preambleDetected (n : Fin 64) (bits more : Nat) (at_ : Nat)
  /-- SYNC_SEARCH_TIMEOUT (R123): No sync match is found within 64 bit periods after the preamble ends, and the channel returns to preamble search. -/
  | syncSearchTimeout (n : Fin 64)
  /-- PWR_ENTER_BEGIN (R538): 10 ms after PWR_ENTER was accepted with its reply still unread, the entry proceeds under R512. -/
  | pwrEnterBegin
  /-- TARGET_RESPONSE (R393): The activated target's response to an HFR_EXCHANGE frame is complete and is returned as the command's reply. -/
  | targetResponse (b : List Byte) (crcOk : Bool) (at_ : Nat)
  /-- EWAKE_DEASSERT (R305): An EWAKE line that could get no calendar slot (NOSLOT) deasserts at its HOLD_S or PULSE_MS deadline while the device waits in P0. -/
  | ewakeDeassert (l : Fin 4)
  /-- DIRECTORY_ROW_WRITTEN (R244): A 64-byte directory row write to embedded non-volatile memory completes, covering CRED_ADD, CRED_REMOVE, the CTR_INDEX rewrite and promotion. -/
  | directoryRowWritten (at_ : Nat)
  deriving DecidableEq, Repr

end Sys2Proof
end

