-- ==== Sys2Proof/WellFormed.lean ====
section
/-!
DEFINITION. WellFormed.lean: the commands that can come from outside: the lengths and forms that the links and packets of the spec
can carry at all. A meaning does not rely on it: it treats every command, and a host command whose parameters are wrong gets the
status the spec gives.
-/
namespace Sys2Proof

/-- At most `n` elements. -/
def atMost (n : Nat) {α : Type} (l : List α) : Bool := l.length ≤ n

/-- Host command parameters fit a request packet: LEN is 0 to 4104 (R464). -/
def paramsFit (p : List Byte) : Bool := atMost 4104 p

/-- The address has the natural alignment of the access (R21). -/
def alignedTo (a : BitVec 32) : AccSize → Bool
  | .byte => true
  | .half => a.toNat % 2 == 0
  | .word => a.toNat % 4 == 0

/-- No element occurs twice. -/
def distinct {α : Type} [DecidableEq α] : List α → Bool
  | [] => true
  | a :: l => !l.contains a && distinct l

/-- The identifier of a reader target: 4, 7 or 10 bytes (Type A), 4 (Type B) or 8 (Type V) (R366, R368). -/
def uidLength (u : List Byte) : Bool := [4, 7, 8, 10].contains u.length

/-- A source code that a pin or a block raises, with a DETAIL it has (R515): 4 sideband, 5 LF hit, 8 FD_WAKE and 11 HFR, 9 a
door input, 10 a handle input. -/
def WakeCause.wf : WakeCause → Bool
  | .source c d => ([4, 5, 8].contains c && d == 0) || (c == 9 && d < 4) || (c == 10 && d < 5) || (c == 11 && d < 2)
  | _ => true

/-- The command is one that can come. -/
def Instr.wf : Instr → Bool
  | .faultEvent _ _ data _ => atMost 14 data
  | .wakeEvent cause _ => cause.wf
  | .lowWordRead _ addr => alignedTo addr .word
  | .registerWrite _ addr _ size => alignedTo addr size
  | .lfTxDone meas => distinct (meas.map (·.ch))
  | .pollAnswer fr _ _ => atMost 256 fr
  | .pollWindowEnd _ meas => distinct (meas.map (·.ch))
  | .lfDiagDone found _ => atMost 12 found
  | .urxFrame _ rx => atMost 256 rx.bytes
  | .hfrActivated _ _ uid _ _ ats _ => uidLength uid && atMost 255 ats
  | .helloReply b _ => atMost 256 b
  | .proofReply b _ _ _ => atMost 256 b
  | .vreq b _ _ => atMost 127 b
  | .vwup b _ _ => atMost 127 b
  | .vsel b _ _ => atMost 127 b
  | .auth1 b _ _ => atMost 127 b
  | .auth2 b _ _ => atMost 127 b
  | .halt b _ _ => atMost 127 b
  | .secureRead b _ _ _ => atMost 127 b
  | .secureWrite b _ _ _ => atMost 127 b
  | .secureStatus b _ _ _ => atMost 127 b
  | .ticket b _ _ _ => atMost 127 b
  | .secureEnd b _ _ => atMost 127 b
  | .spiRequest bytes _ => !bytes.isEmpty
  | .spiRead n _ => n != 0
  | .sideWrite bytes _ => !bytes.isEmpty
  | .sideRead n _ => n != 0
  | .fwd b _ => atMost 1033 b
  | .reply _ b _ => atMost 1033 b
  | .frame _ b _ => atMost 1033 b
  | .event _ b _ => atMost 1033 b
  | .run _ idx _ order _ => idx < 65536 && atMost 80 order
  | .targetResponse b _ _ => atMost 256 b
  | .softReset _ p | .nop _ p | .getId _ p | .getStatus _ p | .regRead _ p | .regWrite _ p | .regModify _ p | .echo _ p |
  .pwrSetPolicy _ p | .pwrEnter _ p | .pwrGetStats _ p | .pwrPadRelease _ p | .pwrSetDvfs _ p | .pwrSetRetain _ p |
  .timeGet _ p | .timeSetRef _ p _ | .timeCalAdd _ p | .timeCalRemove _ p | .tmrConfig _ p | .tmrRead _ p | .lfConfigCh _ p
  | .lfPatternDef _ p | .lfSend _ p | .lfPollConfig _ p | .lfPollStart _ p | .lfPollStop _ p | .lfDiag _ p | .lfMapLoad _ p
  | .urxConfig _ p | .urxStart _ p | .urxStop _ p | .rfCapture _ p | .utxSend _ p | .utxHopTable _ p | .rfCalibrate _ p |
  .rfCalStatus _ p | .coexConfig _ p | .femSeqConfig _ p | .rangeConfig _ p | .rangeRun _ p | .rangeResult _ p |
  .zoneConfig _ p | .zoneQuery _ p | .credAdd _ p | .credRemove _ p | .credQuery _ p | .credPopLoad _ p |
  .credRevokeEpoch _ p | .authStart _ p | .authResult _ p | .authLockoutStatus _ p | .authLockoutClear _ p | .relConfig _ p
  | .relArm _ p | .relStatus _ p | .relEnd _ p | .ewakeConfig _ p | .telltaleConfig _ p | .aesBlock _ p | .keyUnwrap _ p |
  .keySlotClear _ p | .cntIncrement _ p | .cntRead _ p | .rngRead _ p | .rngSelftest _ p _ | .hfrConfig _ p |
  .hfrPingConfig _ p | .hfrActivate _ p | .hfrExchange _ p | .hfrFieldOff _ p | .vltRead _ p | .vltWrite _ p |
  .vltConfig _ p | .vltStatus _ p | .vltRelArm _ p | .qConfig _ p | .qPop _ p _ | .qPush _ p | .qFlush _ p | .qStatus _ p |
  .qWatermark _ p | .fltStatus _ p | .fltConfig _ p | .fltClear _ p | .fltInject _ p | .bbxRead _ p | .cfgStage _ p |
  .cfgApply _ p | .cfgRead _ p | .cfgCommitNv _ p _ | .fwWriteSlot _ p _ | .fwVerify _ p | .fwSwitch _ p | .calStage _ p |
  .wlConfig _ p | .wlDiscover _ p | .wlStatus _ p | .wlForward _ p | .testEnter _ p | .testExit _ p => paramsFit p
  | .powerOnReset _ | .nreset _ _ | .softResetBegin | .cfgImageRepair | .bootDone _ | .fwReady _ | .vcoreRaiseRetry |
  .sysLockstep _ | .pwrVcoreLoss _ | .rfPllLock _ | .rfPllRelock _ | .shadowEnd | .bbxRecordWrite _ | .bbxHalfErased _ |
  .bbxTokenTick | .idleTimerP1 _ | .powerEntryStart | .entryRetry | .commitWindowCycle | .idleExpiryDeeper | .wakeTimer |
  .wakeRefStable _ | .vcorePgRise _ _ | .wakeComplete _ | .wakeOscTimeout | .wakeVcoreTimeout | .wakeRetry |
  .referenceRestart _ | .dvfsChangeDone _ | .pwrDvfsPg | .refSyncEdge _ _ | .expectedSampleMissed | .lpRatioUpdate _ _ _ _ |
  .calendarPrep _ | .calendarFire _ | .calendarWakeLead _ | .calendarSlotFree _ | .tmrStart _ _ | .tmrTrigger _ _ _ |
  .tmrUpdate _ | .tmrCompare _ | .tmrCapture _ _ _ | .tmrCapRead _ _ | .rcRegisterRead _ _ | .unitEnWrite _ _ _ |
  .startingDone _ _ | .pwrCmdEnter _ _ | .lfHnonce3Write _ _ | .kick _ | .nonceClr _ | .lfSendStart | .pollBurst _ |
  .pollBurstDeferred | .sentinelPowerUp | .lfPollIdleStop | .handleInEdge _ _ _ | .handleQualified _ | .lfHtelStart _ |
  .lfOvercurrent _ _ | .lfVlf _ | .vlfReturn _ | .lfCalDue _ _ _ | .lfCalDone _ _ _ | .syncAccepted _ _ _ _ | .urxJam _ _ _
  | .urxJamClear _ _ | .bypassEngage _ | .bypassRelease _ | .urxAdcFault _ _ | .adcSelfCheckDone _ _ _ | .captureTrigger _ |
  .gatherReadItem | .gatherReadTimeout | .utxSendStart _ | .synthLocked _ | .utxSynthLock | .coexGntRise _ | .coexGntFall _
  | .coexWaitTimeout | .afterRxTimeout | .utxTxDone _ | .dutyBinRoll | .calDue _ _ _ _ | .calStepStart |
  .rfCalDone _ _ _ _ _ | .rangeCmdGo _ | .rangeCmdAbort _ | .rangeOriginFixed | .rangeSlotBegin | .rangeStep _ |
  .rangeTimeout | .rangeDone _ | .zoneCmdStart _ | .zoneSolved _ | .zoneMapLoaded _ _ | .credLkGo _ _ | .lookupDone _ _ _ |
  .revmapLoaded _ _ | .buildEraseDone _ | .buildCommitDone _ _ | .answerWindowEnd | .keyProofTimeout | .credLockExpiry |
  .globalLockExpiry | .relCmdOpen _ | .relCmdEnd _ | .openingGap | .closingGap | .startFbChange _ _ _ | .readbackFault _ |
  .doorInEdge _ _ _ | .doorQualified _ | .sessionTimeout | .armExpiry | .relEwakeRb _ _ | .ttPhase _ | .ttMeasure _ _ |
  .ttSummary | .aesGo _ _ | .aesClear _ _ | .aesBlockDone _ | .mrdGo _ | .unwrapDone _ | .cntInc _ _ |
  .counterRecordWritten _ _ | .ceilingWrite _ _ _ | .counterHalfErased _ _ | .cntLoaded _ | .rngReady _ |
  .trngHealthFailure _ _ | .reseedDone | .rngRequestServed | .trngFifoRead _ | .pingReferenceStart | .hfrPing _ _ _ _ |
  .extCheckEnd _ | .hfrActivateTimeout | .hfrExchangeTimeout | .closeReply _ | .tapFdtTimeout _ | .hfrFieldTimeout |
  .hfrOvercurrent _ _ | .wiredOperationGrant _ _ | .vaultBusyTimeout | .vltStreamItem | .vltStreamTimeout |
  .vaultPowerUp _ _ _ | .vaultBrownOut _ | .vaultFieldLoss _ | .fdWakeRise _ _ | .fdWakeFall _ | .pageWriteCommitted _ _ |
  .pageWriteCopyDone _ _ | .retiredSlotErase _ | .vaultRelPulseEnd | .vltRng _ _ | .lastTimeWrite | .qmPushBegin _ _ _ |
  .qmPushData _ _ _ | .qmPopSel _ _ _ | .qmPopData _ _ _ | .qmPopDone _ _ | .qmLink _ _ | .sideAddressMatch _ |
  .sideStretchEnd | .hifSideStuck _ | .replyFormed | .hifCmdTimeout _ | .flashOpDone _ | .hifXspiTimeout | .injectedEvent |
  .fwEraseDone _ | .configSwitch _ _ _ | .applyTimeout | .configRevert _ _ | .switchBankLoaded _ | .handoverPoint _ |
  .switchWaitTimeout | .trialTimeout | .fallbackRetry | .fwdRepeat | .wlForwardTimeout | .rangeW _ _ _ _ _ | .dreq _ _ _ |
  .drsp _ _ _ _ _ _ _ | .delayMeasurement _ _ | .delayMeasured _ | .wlkLos _ _ | .lockRetry _ | .wlClkAbsent _ |
  .preambleDetected _ _ _ _ | .syncSearchTimeout _ | .pwrEnterBegin | .ewakeDeassert _ | .directoryRowWritten _ => true

end Sys2Proof
end

