-- ==== Sys2Proof/Machine/Bytes.lean ====
section
/-!
DEFINITION. Machine/Bytes.lean: little-endian fields of packets and records (R5), signed fields, and the two check codes
of R7.
-/
namespace Sys2Proof.Machine

/-- The number `v` as `n` little-endian bytes (R5). -/
def le : Nat → Nat → List Byte
  | 0, _ => []
  | n + 1, v => byte v :: le n (v / 256)

/-- The number that little-endian bytes spell (R5). -/
def ofLe : List Byte → Nat
  | [] => 0
  | b :: bs => b.toNat + 256 * ofLe bs

/-- The `n`-byte little-endian field at offset `i` of `p`; bytes past the end read as 0. -/
def fieldLe (p : List Byte) (i n : Nat) : Nat := ofLe ((p.drop i).take n)

/-- Byte `i` of `p` as a number. -/
def u8 (p : List Byte) (i : Nat) : Nat := fieldLe p i 1
/-- 16-bit field at offset `i`. -/
def u16 (p : List Byte) (i : Nat) : Nat := fieldLe p i 2
/-- 32-bit field at offset `i`. -/
def u32 (p : List Byte) (i : Nat) : Nat := fieldLe p i 4
/-- 64-bit field at offset `i`. -/
def u64 (p : List Byte) (i : Nat) : Nat := fieldLe p i 8

/-- `p` cut or padded with zeros to `n` bytes. -/
def padTo (n : Nat) (p : List Byte) : List Byte := p.take n ++ List.replicate (n - p.length) 0

/-- All bytes of `p` from `i` on, `n` of them, are zero: a reserved field (R8). -/
def zeroAt (p : List Byte) (i n : Nat) : Bool := fieldLe p i n == 0

/-- The two's complement reading of a `w`-bit number. -/
def toSigned (w v : Nat) : Int := if v % 2 ^ w < 2 ^ (w - 1) then (v % 2 ^ w : Nat) else (v % 2 ^ w : Nat) - (2 ^ w : Nat)

/-- An integer as a `w`-bit two's complement number. -/
def ofSigned (w : Nat) (i : Int) : Nat := (i % (2 ^ w : Nat)).toNat

/-- An integer saturated to the signed `w`-bit range, as a two's complement number. -/
def satSigned (w : Nat) (i : Int) : Nat :=
  ofSigned w (max (-(2 ^ (w - 1) : Nat)) (min i ((2 ^ (w - 1) : Nat) - 1)))

/-- A number saturated at the greatest `w`-bit value. -/
def satNat (w v : Nat) : Nat := min v (2 ^ w - 1)

/-- `v` moved to the nearest end of the range from `lo` to `hi`. -/
def clampNat (lo hi v : Nat) : Nat := max lo (min hi v)

/-- `v` lies from `lo` to `hi`. -/
def within (lo hi v : Nat) : Bool := lo ≤ v && v ≤ hi

/-- One bit step of CRC-16/CCITT-FALSE. -/
def crc16Bit (c : BitVec 16) : BitVec 16 := if c.msb then (c <<< 1) ^^^ 0x1021 else c <<< 1

/-- One byte step of CRC-16/CCITT-FALSE. -/
def crc16Byte (c : BitVec 16) (b : Byte) : BitVec 16 :=
  let c := c ^^^ (b.zeroExtend 16 <<< 8)
  crc16Bit (crc16Bit (crc16Bit (crc16Bit (crc16Bit (crc16Bit (crc16Bit (crc16Bit c)))))))

/-- CRC-16/CCITT-FALSE of R7. -/
def crc16 (p : List Byte) : Nat := (p.foldl crc16Byte 0xFFFF).toNat

/-- One bit step of the reflected CRC-32. -/
def crc32Bit (c : BitVec 32) : BitVec 32 := if c.getLsbD 0 then (c >>> 1) ^^^ 0xEDB88320 else c >>> 1

/-- One byte step of the reflected CRC-32. -/
def crc32Byte (c : BitVec 32) (b : Byte) : BitVec 32 :=
  let c := c ^^^ b.zeroExtend 32
  crc32Bit (crc32Bit (crc32Bit (crc32Bit (crc32Bit (crc32Bit (crc32Bit (crc32Bit c)))))))

/-- CRC-32 (IEEE 802.3) of R7. -/
def crc32 (p : List Byte) : Nat := ((p.foldl crc32Byte 0xFFFFFFFF) ^^^ 0xFFFFFFFF).toNat

/-- The bytes of `n` consecutive little-endian 32-bit words. -/
def leWords (ws : List Nat) : List Byte := ws.flatMap (le 4)

/-- `l` cut into pieces of `n` elements, with `fuel` pieces at most. -/
def chunks {α : Type} (n : Nat) : Nat → List α → List (List α)
  | 0, _ => []
  | fuel + 1, l => if l.isEmpty then [] else l.take n :: chunks n fuel (l.drop n)

/-- The sum of a list of numbers. -/
def sumNat (l : List Nat) : Nat := l.foldl (· + ·) 0

/-- Element `i` of `l` replaced by its image under `f`; nothing beyond the end. -/
def modAt {α : Type} (l : List α) (i : Nat) (f : α → α) : List α := l.modify i f

end Sys2Proof.Machine
end

