-- ==== Sys2Proof/Machine/Codes.lean ====
section
/-!
DEFINITION. Machine/Codes.lean: the codes of the manual: status codes of replies (R482), fault identifiers (R543 and each
chapter's fault table) and event codes (each chapter's event table).
-/
namespace Sys2Proof.Machine

-- Status codes of R482.
abbrev OK : Nat := 0x00
abbrev ACCEPTED : Nat := 0x01
abbrev DEFERRED : Nat := 0x02
abbrev BAD_OPCODE : Nat := 0x10
abbrev BAD_LENGTH : Nat := 0x11
abbrev BAD_CRC : Nat := 0x12
abbrev BAD_PARAM : Nat := 0x13
abbrev BAD_STATE : Nat := 0x14
abbrev ACCESS_DENIED : Nat := 0x15
abbrev BUSY : Nat := 0x16
abbrev TIMEOUT : Nat := 0x17
abbrev FENCED : Nat := 0x18
abbrev LOCKOUT : Nat := 0x19
abbrev AUTH_FAIL : Nat := 0x1A
abbrev RELAY_SUSPECT : Nat := 0x1B
abbrev ZONE_MISMATCH : Nat := 0x1C
abbrev REG_DUTY : Nat := 0x1D
abbrev REG_CHANNEL : Nat := 0x1E
abbrev TX_LATE : Nat := 0x1F
abbrev RNG_HEALTH : Nat := 0x20
abbrev COUNTER_EXHAUSTED : Nat := 0x21
abbrev INTEGRITY : Nat := 0x22
abbrev UNWRAP : Nat := 0x23
abbrev NOT_FOUND : Nat := 0x24
abbrev TABLE_FULL : Nat := 0x25
abbrev FIELD_LOW : Nat := 0x26
abbrev VAULT_BUSY : Nat := 0x27
abbrev ITEM_ABORTED : Nat := 0x28
abbrev QUEUE_FULL : Nat := 0x29
abbrev CONFIG_CHECK : Nat := 0x2A
abbrev POWER_BUDGET : Nat := 0x2B
abbrev FACTORY_ONLY : Nat := 0x2C
abbrev REVOKED : Nat := 0x2D
abbrev EXPIRED : Nat := 0x2E
abbrev WORKER_LINK : Nat := 0x2F
abbrev IMAGE_INVALID : Nat := 0x30
abbrev ROLLBACK : Nat := 0x31

-- Fault identifiers 0xBBII (R543).
abbrev FID_SYS_LOCKSTEP : Nat := 0x0000
abbrev FID_SYS_SRAM_CORR : Nat := 0x0001
abbrev FID_SYS_SRAM_UNCORR : Nat := 0x0002
abbrev FID_SYS_NV_CORR : Nat := 0x0003
abbrev FID_SYS_NV_UNCORR : Nat := 0x0004
abbrev FID_SYS_OTP : Nat := 0x0005
abbrev FID_SYS_TEMP_WARN : Nat := 0x0006
abbrev FID_SYS_OVERTEMP : Nat := 0x0007
abbrev FID_SYS_VBAT_LOW : Nat := 0x0008
abbrev FID_SYS_VBAT_HIGH : Nat := 0x0009
abbrev FID_SYS_VDDIO : Nat := 0x000A
abbrev FID_SYS_VRF18 : Nat := 0x000B
abbrev FID_SYS_VDDF : Nat := 0x000C
abbrev FID_SYS_XTAL : Nat := 0x000D
abbrev FID_SYS_LPX : Nat := 0x000E
abbrev FID_SYS_CFG_DEFAULTS : Nat := 0x000F
abbrev FID_SYS_CFG_IMAGE : Nat := 0x0010
abbrev FID_SYS_FW_IMAGE : Nat := 0x0011
abbrev FID_SYS_BUS_TIMEOUT : Nat := 0x0012
abbrev FID_PWR_WAKE_OSC : Nat := 0x0100
abbrev FID_PWR_WAKE_VCORE : Nat := 0x0101
abbrev FID_PWR_WAKE_LOCKOUT : Nat := 0x0102
abbrev FID_PWR_DVFS_PG : Nat := 0x0103
abbrev FID_PWR_VCORE_LOSS : Nat := 0x0104
abbrev FID_PWR_RET_CRC : Nat := 0x0105
abbrev FID_REF_LOST : Nat := 0x0200
abbrev FID_REF_JUMP : Nat := 0x0201
abbrev FID_TMR_PARITY : Nat := 0x0300
abbrev FID_LF_OPEN : Nat := 0x0400
abbrev FID_LF_SHORT_GND : Nat := 0x0401
abbrev FID_LF_SHORT_SUP : Nat := 0x0402
abbrev FID_LF_OVERCURRENT : Nat := 0x0403
abbrev FID_LF_THERMAL : Nat := 0x0404
abbrev FID_LF_REG_FAIL : Nat := 0x0405
abbrev FID_LF_PHASE_FAIL : Nat := 0x0406
abbrev FID_LF_VLF : Nat := 0x0407
abbrev FID_LF_PREDRV : Nat := 0x0408
abbrev FID_LF_POLL_SEQ : Nat := 0x0409
abbrev FID_LF_CAL_FAIL : Nat := 0x040A
abbrev FID_URX_ADC_A : Nat := 0x0500
abbrev FID_URX_ADC_B : Nat := 0x0501
abbrev FID_URX_CHAN : Nat := 0x0502
abbrev FID_URX_SENTINEL : Nat := 0x0503
abbrev FID_URX_JAMMING : Nat := 0x0504
abbrev FID_URX_DROP : Nat := 0x0505
abbrev FID_RF_PLL_LOCK : Nat := 0x0506
abbrev FID_UTX_SYNTH_LOCK : Nat := 0x0600
abbrev FID_UTX_CAL_FAIL : Nat := 0x0601
abbrev FID_UTX_REGION : Nat := 0x0602
abbrev FID_UTX_DUTY : Nat := 0x0603
abbrev FID_UTX_TURNAROUND : Nat := 0x0604
abbrev FID_UTX_FEM_READBACK : Nat := 0x0605
abbrev FID_UTX_TX_LATE : Nat := 0x0606
abbrev FID_UTX_LBT_BUSY : Nat := 0x0607
abbrev FID_RANGE_LOOPBACK : Nat := 0x0700
abbrev FID_RANGE_TIMING : Nat := 0x0701
abbrev FID_RANGE_CORR : Nat := 0x0702
abbrev FID_RANGE_WORKER : Nat := 0x0703
abbrev FID_RANGE_RELAY : Nat := 0x0704
abbrev FID_RANGE_ZONE : Nat := 0x0705
abbrev FID_ZONE_MAP : Nat := 0x0800
abbrev FID_ZONE_ENGINE : Nat := 0x0801
abbrev FID_CRED_FLASH : Nat := 0x0900
abbrev FID_CRED_BLOB : Nat := 0x0901
abbrev FID_CRED_INDEX : Nat := 0x0902
abbrev FID_CRED_DIR : Nat := 0x0903
abbrev FID_CRED_REVMAP : Nat := 0x0904
abbrev FID_CRED_LATE : Nat := 0x0905
abbrev FID_CRED_UNWRAP : Nat := 0x0906
abbrev FID_CRED_GLOBAL_LOCK : Nat := 0x0907
abbrev FID_CRED_CTR_SPILL : Nat := 0x0908
abbrev FID_REL_FB_A : Nat := 0x0A00
abbrev FID_REL_FB_B : Nat := 0x0A01
abbrev FID_REL_EWAKE_RB : Nat := 0x0A02
abbrev FID_TT_OPEN : Nat := 0x0A03
abbrev FID_TT_REG : Nat := 0x0A04
abbrev FID_TT_STUCK_ON : Nat := 0x0A05
abbrev FID_REL_INTERLOCK : Nat := 0x0A06
abbrev FID_AES_PARITY : Nat := 0x0B00
abbrev FID_AES_UNWRAP : Nat := 0x0B01
abbrev FID_AES_SLOT_ECC : Nat := 0x0B02
abbrev FID_TRNG_RCT : Nat := 0x0C00
abbrev FID_TRNG_APT : Nat := 0x0C01
abbrev FID_TRNG_OSC : Nat := 0x0C02
abbrev FID_TRNG_KAT : Nat := 0x0C03
abbrev FID_TRNG_HALTED : Nat := 0x0C04
abbrev FID_HFR_OVERCURRENT : Nat := 0x0D00
abbrev FID_HFR_VHF : Nat := 0x0D01
abbrev FID_HFR_ANTENNA : Nat := 0x0D02
abbrev FID_HFR_PLL : Nat := 0x0D03
abbrev FID_HFR_PING : Nat := 0x0D04
abbrev FID_VLT_NV : Nat := 0x0E00
abbrev FID_VLT_RESERVE : Nat := 0x0E01
abbrev FID_VLT_INTEGRITY : Nat := 0x0E02
abbrev FID_VLT_RNG : Nat := 0x0E03
abbrev FID_VLT_PORT : Nat := 0x0E04
abbrev FID_VLT_AUTH : Nat := 0x0E05
abbrev FID_QM_ECC_UNCORR : Nat := 0x0F00
abbrev FID_QM_POOL_EMPTY : Nat := 0x0F01
abbrev FID_QM_LINK : Nat := 0x0F02
abbrev FID_QM_EVT_LOST : Nat := 0x0F03
abbrev FID_HIF_CMD_TIMEOUT : Nat := 0x1000
abbrev FID_HIF_XSPI_TIMEOUT : Nat := 0x1001
abbrev FID_HIF_XSPI_DEVICE : Nat := 0x1002
abbrev FID_HIF_SIDE_STUCK : Nat := 0x1003
abbrev FID_FLT_SELF : Nat := 0x1100
abbrev FID_BBX_NV : Nat := 0x1200
abbrev FID_BBX_RECORD : Nat := 0x1201
abbrev FID_BBX_WEAR : Nat := 0x1202
abbrev FID_ACC_DECODE : Nat := 0x1300
abbrev FID_ACC_DENY : Nat := 0x1301
abbrev FID_ACC_PARITY : Nat := 0x1302
abbrev FID_WLK_LOS : Nat := 0x1400
abbrev FID_WLK_CRC : Nat := 0x1401
abbrev FID_WLK_DELAY : Nat := 0x1402
abbrev FID_WLK_WORKER_LOST : Nat := 0x1403
abbrev FID_CNT_NV : Nat := 0x1500
abbrev FID_CNT_RECORD : Nat := 0x1501
abbrev FID_CNT_EXHAUSTED : Nat := 0x1502
abbrev FID_PAD_READBACK : Nat := 0x1600
abbrev FID_PAD_ISO : Nat := 0x1601

-- Event codes of the event tables (R107, R194, R455, R534, R558, R570 and the other chapters).
abbrev EV_CFG_DONE : Nat := 0x0040
abbrev EV_FW_EVT : Nat := 0x0041
abbrev EV_PWR_WAKE : Nat := 0x0140
abbrev EV_PWR_ABORT : Nat := 0x0141
abbrev EV_PWR_REDUCED : Nat := 0x0142
abbrev EV_LF_TX_DONE : Nat := 0x0440
abbrev EV_LF_HTEL_START : Nat := 0x0441
abbrev EV_LF_POLL_HIT : Nat := 0x0442
abbrev EV_LF_POLL_BACKOFF : Nat := 0x0443
abbrev EV_LF_POLL_IDLE_STOP : Nat := 0x0444
abbrev EV_LF_POLL_RESUME : Nat := 0x0445
abbrev EV_LF_DIAG_DONE : Nat := 0x0446
abbrev EV_LF_CAL_DONE : Nat := 0x0447
abbrev EV_URX_FRAME : Nat := 0x0540
abbrev EV_URX_JAM : Nat := 0x0541
abbrev EV_URX_JAM_CLEAR : Nat := 0x0542
abbrev EV_URX_STATE : Nat := 0x0543
abbrev EV_URX_CAPTURE_DONE : Nat := 0x0544
abbrev EV_UTX_TX_DONE : Nat := 0x0640
abbrev EV_RF_CAL_DONE : Nat := 0x0641
abbrev EV_UTX_DUTY : Nat := 0x0642
abbrev EV_RANGE_DONE : Nat := 0x0740
abbrev EV_ZONE_SOLVED : Nat := 0x0840
abbrev EV_ZONE_MAP_LOADED : Nat := 0x0841
abbrev EV_AUTH_KEY : Nat := 0x0940
abbrev EV_AUTH_DONE : Nat := 0x0941
abbrev EV_AUTH_LOCK : Nat := 0x0942
abbrev EV_CRED_CHANGED : Nat := 0x0943
abbrev EV_CRED_POP_DONE : Nat := 0x0944
abbrev EV_REL_OPEN : Nat := 0x0A40
abbrev EV_REL_END : Nat := 0x0A41
abbrev EV_REL_REFUSED : Nat := 0x0A42
abbrev EV_EWAKE_EVT : Nat := 0x0A43
abbrev EV_TT_STATE : Nat := 0x0A44
abbrev EV_RNG_READY : Nat := 0x0C40
abbrev EV_HFR_DETECT : Nat := 0x0D40
abbrev EV_HFR_ACTIVATED : Nat := 0x0D41
abbrev EV_HFR_KEY : Nat := 0x0D42
abbrev EV_HFR_FIELD : Nat := 0x0D43
abbrev EV_VLT_FIELD : Nat := 0x0E40
abbrev EV_VLT_SESSION : Nat := 0x0E41
abbrev EV_VLT_WRITE_DONE : Nat := 0x0E42
abbrev EV_VLT_REL_FIRED : Nat := 0x0E43
abbrev EV_VLT_STREAM : Nat := 0x0E44
abbrev EV_VLT_RECOVERED : Nat := 0x0E45
abbrev EV_QM_WM : Nat := 0x0F40
abbrev EV_QM_OVERFLOW : Nat := 0x0F41
abbrev EV_QM_FLUSHED : Nat := 0x0F42
abbrev EV_FLT_REACTION : Nat := 0x1140
abbrev EV_FLT_CLEARED : Nat := 0x1141
abbrev EV_BBX_HALF : Nat := 0x1240
abbrev EV_BBX_SUPPRESSED : Nat := 0x1241
abbrev EV_WL_EVT : Nat := 0x1440
abbrev EV_CNT_EXHAUSTED_EVT : Nat := 0x1540

end Sys2Proof.Machine
end

