-- ==== Sys2Proof/Machine/Regs.lean ====
section
/-!
DEFINITION. Machine/Regs.lean: the register map of R16 and of the register summaries and field tables of every
chapter (R53 to R66, R108 to R111, R156 to R158, R195, R196, R230 to R233, R279, R280, R316, R317, R354 to R358, R388,
R389, R428, R429, R456, R457, R503 to R506, R535, R536, R566 to R569, R600 to R602, R631, R632): where each register
stands, its fields, their access codes (R9), reset values and ranges. Every register NAME has an accessor `NAME` (the
whole word) and one `NAME_FIELD` for each named field; a register that exists once per channel, port, queue or slot
takes that number as an argument. An address no row lists is unlisted under R20.
-/
namespace Sys2Proof.Machine

/-- A bit field of the register at `addr`: bits `[lsb + width - 1 : lsb]` (R5). -/
structure Field where
  addr : Nat
  lsb : Nat
  width : Nat
  deriving DecidableEq, Repr

/-- The access codes of R9 (OTP is the access of the OTP memory, which has no register). -/
inductive Access | rw | ro | wo | w1c | rc | rwl
  deriving DecidableEq, Repr

/-- One field of a register row: its bits, its access, its reset value and the range a write is clamped to. -/
structure FieldRow where
  lsb : Nat
  width : Nat
  acc : Access
  reset : Nat
  lo : Nat
  hi : Nat
  deriving DecidableEq, Repr

/-- One row of a block's register summary: offset, and up to two counts with their strides, and the fields. -/
structure RegRow where
  off : Nat
  n1 : Nat
  s1 : Nat
  n2 : Nat
  s2 : Nat
  fields : List FieldRow
  deriving DecidableEq, Repr

/-- TIME_CTRL (R53): Reference source enables, edge, miss limit. -/
def TIME_CTRL : Field := ⟨0x40020000, 0, 32⟩
def TIME_CTRL_REF_EN : Field := ⟨0x40020000, 0, 1⟩
def TIME_CTRL_REF_EDGE : Field := ⟨0x40020000, 1, 1⟩
def TIME_CTRL_SAMPLE_EN : Field := ⟨0x40020000, 2, 1⟩
def TIME_CTRL_MISS_LIMIT : Field := ⟨0x40020000, 8, 8⟩
/-- TIME_STATUS (R53): Servo state, quality state, flags. -/
def TIME_STATUS : Field := ⟨0x40020004, 0, 32⟩
def TIME_STATUS_SERVO : Field := ⟨0x40020004, 0, 2⟩
def TIME_STATUS_QUAL : Field := ⟨0x40020004, 2, 4⟩
def TIME_STATUS_LPX_OK : Field := ⟨0x40020004, 6, 1⟩
def TIME_STATUS_OUTLIERS : Field := ⟨0x40020004, 8, 8⟩
def TIME_STATUS_STEPPED : Field := ⟨0x40020004, 16, 1⟩
def TIME_STATUS_SAMPLE_DROP : Field := ⟨0x40020004, 17, 1⟩
/-- TIME_DEV_LO (R53): Device time, bits [31:0]. -/
def TIME_DEV_LO : Field := ⟨0x40020008, 0, 32⟩
/-- TIME_DEV_HI (R53): Device time, bits [63:32]. -/
def TIME_DEV_HI : Field := ⟨0x4002000C, 0, 32⟩
/-- TIME_REF_LO (R53): Reference time, bits [31:0]. -/
def TIME_REF_LO : Field := ⟨0x40020010, 0, 32⟩
/-- TIME_REF_HI (R53): Reference time, bits [63:32]. -/
def TIME_REF_HI : Field := ⟨0x40020014, 0, 32⟩
/-- TIME_REF_CFG (R53): Expected REF_SYNC period. -/
def TIME_REF_CFG : Field := ⟨0x40020018, 0, 32⟩
def TIME_REF_CFG_REF_PERIOD_US : Field := ⟨0x40020018, 0, 20⟩
/-- TIME_SERVO_CFG (R53): Step threshold, slew limit, holdover drift. -/
def TIME_SERVO_CFG : Field := ⟨0x4002001C, 0, 32⟩
def TIME_SERVO_CFG_STEP_THR_US : Field := ⟨0x4002001C, 0, 16⟩
def TIME_SERVO_CFG_SLEW_PPM : Field := ⟨0x4002001C, 16, 8⟩
def TIME_SERVO_CFG_HOLD_PPM_X10 : Field := ⟨0x4002001C, 24, 8⟩
/-- TIME_PHASE_ERR (R53): Phase error of last accepted sample, signed ns. -/
def TIME_PHASE_ERR : Field := ⟨0x40020020, 0, 32⟩
/-- TIME_RATE_ADJ (R53): Current rate adjustment, signed ppb. -/
def TIME_RATE_ADJ : Field := ⟨0x40020024, 0, 32⟩
/-- TIME_UNCERT (R53): Current uncertainty in ns, saturating. -/
def TIME_UNCERT : Field := ⟨0x40020028, 0, 32⟩
/-- TIME_EXT_DLY_A (R53): External RF path delay, port A, ticks [15:0]. -/
def TIME_EXT_DLY_A : Field := ⟨0x4002002C, 0, 32⟩
/-- TIME_EXT_DLY_B (R53): External RF path delay, port B, ticks [15:0]. -/
def TIME_EXT_DLY_B : Field := ⟨0x40020030, 0, 32⟩
/-- TIME_LP_CNT_LO (R53): 32.768 kHz count, bits [31:0]. -/
def TIME_LP_CNT_LO : Field := ⟨0x40020034, 0, 32⟩
/-- TIME_LP_CNT_HI (R53): 32.768 kHz count, bits [47:32] in [15:0]. -/
def TIME_LP_CNT_HI : Field := ⟨0x40020038, 0, 32⟩
/-- TIME_LP_RATIO (R53): Crystal ratio, 1/4096 tick per cycle. -/
def TIME_LP_RATIO : Field := ⟨0x4002003C, 0, 32⟩
/-- TIME_LP_RC_RATIO (R53): RC ratio, 1/4096 tick per cycle. -/
def TIME_LP_RC_RATIO : Field := ⟨0x40020040, 0, 32⟩
/-- TIME_LP_CFG (R53): Uncertainty limits for reconstruction. -/
def TIME_LP_CFG : Field := ⟨0x40020044, 0, 32⟩
def TIME_LP_CFG_XTAL_PPM : Field := ⟨0x40020044, 0, 8⟩
def TIME_LP_CFG_RC_PPM_X100 : Field := ⟨0x40020044, 8, 8⟩
/-- TIME_CAL_USED_LO (R53): Slot occupancy, slots 0 to 31. -/
def TIME_CAL_USED_LO : Field := ⟨0x40020048, 0, 32⟩
/-- TIME_CAL_USED_HI (R53): Slot occupancy, slots 32 to 63. -/
def TIME_CAL_USED_HI : Field := ⟨0x4002004C, 0, 32⟩
/-- TIME_CAL_CFG (R53): Wake lead. -/
def TIME_CAL_CFG : Field := ⟨0x40020050, 0, 32⟩
def TIME_CAL_CFG_WAKE_LEAD_US : Field := ⟨0x40020050, 0, 16⟩
def TIME_CAL_CFG_WAKE_LEAD_P4_US : Field := ⟨0x40020050, 16, 16⟩
/-- TIME_CAL_LATE (R53): Late fires, saturating at 0xFFFF_FFFF, RC. -/
def TIME_CAL_LATE : Field := ⟨0x40020054, 0, 32⟩
/-- TIME_CAL_SKIP (R53): Skipped occurrences, saturating, RC. -/
def TIME_CAL_SKIP : Field := ⟨0x40020058, 0, 32⟩
/-- TIME_CAL_SLOT0 to TIME_CAL_SLOT63 (R53): Slot images. -/
def TIME_CAL_SLOT (i j : Nat) : Field := ⟨0x40020400 + 0x20 * i + 0x4 * j, 0, 32⟩
/-- TMR_CHn_CTRL (R61): Enable, clock, slave mode, chaining, outputs. -/
def TMR_CH_CTRL (i : Nat) : Field := ⟨0x40030000 + 0x40 * i, 0, 32⟩
def TMR_CH_CTRL_EN (i : Nat) : Field := ⟨0x40030000 + 0x40 * i, 0, 1⟩
def TMR_CH_CTRL_CLK (i : Nat) : Field := ⟨0x40030000 + 0x40 * i, 1, 2⟩
def TMR_CH_CTRL_SLAVE (i : Nat) : Field := ⟨0x40030000 + 0x40 * i, 3, 3⟩
def TMR_CH_CTRL_CHAIN (i : Nat) : Field := ⟨0x40030000 + 0x40 * i, 6, 1⟩
def TMR_CH_CTRL_ONE_SHOT (i : Nat) : Field := ⟨0x40030000 + 0x40 * i, 7, 1⟩
def TMR_CH_CTRL_TRGO (i : Nat) : Field := ⟨0x40030000 + 0x40 * i, 8, 2⟩
def TMR_CH_CTRL_CAP_EVT (i : Nat) : Field := ⟨0x40030000 + 0x40 * i, 10, 1⟩
/-- TMR_CHn_TRIG (R61): Trigger and capture selection. -/
def TMR_CH_TRIG (i : Nat) : Field := ⟨0x40030004 + 0x40 * i, 0, 32⟩
def TMR_CH_TRIG_TRG_SEL (i : Nat) : Field := ⟨0x40030004 + 0x40 * i, 0, 6⟩
def TMR_CH_TRIG_TRG_EDGE (i : Nat) : Field := ⟨0x40030004 + 0x40 * i, 6, 2⟩
def TMR_CH_TRIG_CAP_SEL (i : Nat) : Field := ⟨0x40030004 + 0x40 * i, 8, 6⟩
def TMR_CH_TRIG_CAP_EDGE (i : Nat) : Field := ⟨0x40030004 + 0x40 * i, 14, 2⟩
def TMR_CH_TRIG_CAP_EN (i : Nat) : Field := ⟨0x40030004 + 0x40 * i, 16, 1⟩
/-- TMR_CHn_PSC (R61): Prescaler: count clock divided by PSC + 1, [15:0]. -/
def TMR_CH_PSC (i : Nat) : Field := ⟨0x40030008 + 0x40 * i, 0, 32⟩
/-- TMR_CHn_TOP (R61): Last count before update; reset 0xFFFF_FFFF. -/
def TMR_CH_TOP (i : Nat) : Field := ⟨0x4003000C + 0x40 * i, 0, 32⟩
/-- TMR_CHn_CNT (R61): Counter. -/
def TMR_CH_CNT (i : Nat) : Field := ⟨0x40030010 + 0x40 * i, 0, 32⟩
/-- TMR_CHn_CMP (R61): Compare value. -/
def TMR_CH_CMP (i : Nat) : Field := ⟨0x40030014 + 0x40 * i, 0, 32⟩
/-- TMR_CHn_CAP (R61): Captured count. -/
def TMR_CH_CAP (i : Nat) : Field := ⟨0x40030018 + 0x40 * i, 0, 32⟩
/-- TMR_CHn_STATUS (R61): Flags. -/
def TMR_CH_STATUS (i : Nat) : Field := ⟨0x4003001C + 0x40 * i, 0, 32⟩
def TMR_CH_STATUS_CMPF (i : Nat) : Field := ⟨0x4003001C + 0x40 * i, 0, 1⟩
def TMR_CH_STATUS_UPDF (i : Nat) : Field := ⟨0x4003001C + 0x40 * i, 1, 1⟩
def TMR_CH_STATUS_CAPF (i : Nat) : Field := ⟨0x4003001C + 0x40 * i, 2, 1⟩
def TMR_CH_STATUS_OVR (i : Nat) : Field := ⟨0x4003001C + 0x40 * i, 3, 1⟩
def TMR_CH_STATUS_CHAINED (i : Nat) : Field := ⟨0x4003001C + 0x40 * i, 4, 1⟩
/-- TMR_START (R61): WO; writing 1 to bit n sets TMR_CHn_CTRL.EN for every selected channel in one cycle. -/
def TMR_START : Field := ⟨0x40030400, 0, 32⟩
/-- LF_CTRL (R108): Block enable, lock. -/
def LF_CTRL : Field := ⟨0x40040000, 0, 32⟩
def LF_CTRL_EN : Field := ⟨0x40040000, 0, 1⟩
def LF_CTRL_LOCK : Field := ⟨0x40040000, 1, 1⟩
/-- LF_STATUS (R108): Block state, availability. -/
def LF_STATUS : Field := ⟨0x40040004, 0, 32⟩
def LF_STATUS_STATE : Field := ⟨0x40040004, 0, 3⟩
def LF_STATUS_TX_ACTIVE : Field := ⟨0x40040004, 3, 1⟩
def LF_STATUS_TX_SEQ : Field := ⟨0x40040004, 4, 1⟩
def LF_STATUS_DEG_PARTIAL : Field := ⟨0x40040004, 5, 1⟩
def LF_STATUS_REGION_OK : Field := ⟨0x40040004, 6, 1⟩
def LF_STATUS_CH_UNAVAIL : Field := ⟨0x40040004, 8, 12⟩
/-- LF_CARRIER (R108): Carrier frequency. -/
def LF_CARRIER : Field := ⟨0x40040008, 0, 32⟩
def LF_CARRIER_FREQ_HZ : Field := ⟨0x40040008, 0, 18⟩
/-- LF_TEL_CFG (R108): Wake ID, preburst. -/
def LF_TEL_CFG : Field := ⟨0x4004000C, 0, 32⟩
def LF_TEL_CFG_WAKE_ID : Field := ⟨0x4004000C, 0, 16⟩
def LF_TEL_CFG_PREBURST_CYC : Field := ⟨0x4004000C, 16, 10⟩
/-- LF_TEL_PAT (R108): Telegram patterns, handle pattern count. -/
def LF_TEL_PAT : Field := ⟨0x40040010, 0, 32⟩
def LF_TEL_PAT_TEL_PAT : Field := ⟨0x40040010, 0, 5⟩
def LF_TEL_PAT_TEL_PAT_ALT : Field := ⟨0x40040010, 8, 5⟩
def LF_TEL_PAT_ALT_EN : Field := ⟨0x40040010, 13, 1⟩
def LF_TEL_PAT_H_NPAT : Field := ⟨0x40040010, 16, 5⟩
/-- LF_SEND_STATUS (R108): [2:0] pending sends; [31:16] SEND_ID in progress. -/
def LF_SEND_STATUS : Field := ⟨0x40040014, 0, 32⟩
def LF_SEND_STATUS_PENDING : Field := ⟨0x40040014, 0, 3⟩
def LF_SEND_STATUS_SEND_ID : Field := ⟨0x40040014, 16, 16⟩
/-- LF_POLL_CFG (R108): Poll period, pattern, code, handles, stop days. -/
def LF_POLL_CFG : Field := ⟨0x40040020, 0, 32⟩
def LF_POLL_CFG_PERIOD_MS : Field := ⟨0x40040020, 0, 11⟩
def LF_POLL_CFG_POLL_PAT : Field := ⟨0x40040020, 11, 5⟩
def LF_POLL_CFG_POLL_CODE : Field := ⟨0x40040020, 16, 4⟩
def LF_POLL_CFG_HANDLE_MASK : Field := ⟨0x40040020, 20, 5⟩
def LF_POLL_CFG_STOP_DAYS : Field := ⟨0x40040020, 25, 6⟩
/-- LF_POLL_BO (R108): Back-off. -/
def LF_POLL_BO : Field := ⟨0x40040024, 0, 32⟩
def LF_POLL_BO_BO_COUNT : Field := ⟨0x40040024, 0, 8⟩
def LF_POLL_BO_BO_RSSI : Field := ⟨0x40040024, 8, 8⟩
def LF_POLL_BO_BO_MAX_MS : Field := ⟨0x40040024, 16, 13⟩
/-- LF_POLL_RWIN (R108): Response window. -/
def LF_POLL_RWIN : Field := ⟨0x40040028, 0, 32⟩
def LF_POLL_RWIN_RWIN_START_US : Field := ⟨0x40040028, 0, 16⟩
def LF_POLL_RWIN_RWIN_LEN_US : Field := ⟨0x40040028, 16, 16⟩
/-- LF_POLL_STATUS (R108): Poll state. -/
def LF_POLL_STATUS : Field := ⟨0x4004002C, 0, 32⟩
def LF_POLL_STATUS_PSTATE : Field := ⟨0x4004002C, 0, 4⟩
def LF_POLL_STATUS_CUR_PERIOD_MS : Field := ⟨0x4004002C, 4, 13⟩
def LF_POLL_STATUS_NONCE_LOADED : Field := ⟨0x4004002C, 17, 1⟩
def LF_POLL_STATUS_IDLE_STOPPED : Field := ⟨0x4004002C, 18, 1⟩
def LF_POLL_STATUS_IDLE_DAYS : Field := ⟨0x4004002C, 19, 6⟩
/-- LF_POLL_HPAT0 to LF_POLL_HPAT3 (R108): Handle pattern list, one ID per byte, entry 0 in the low byte of LF_POLL_HPAT0. -/
def LF_POLL_HPAT (i : Nat) : Field := ⟨0x40040030 + 0x4 * i, 0, 32⟩
/-- LF_POLL_BURSTS (R108): Bursts sent. -/
def LF_POLL_BURSTS : Field := ⟨0x40040040, 0, 32⟩
/-- LF_POLL_HITS (R108): Hits. -/
def LF_POLL_HITS : Field := ⟨0x40040044, 0, 32⟩
/-- LF_POLL_SKIP (R108): Bursts skipped. -/
def LF_POLL_SKIP : Field := ⟨0x40040048, 0, 32⟩
/-- LF_POLL_CMD (R108): KICK, NONCE_CLR. -/
def LF_POLL_CMD : Field := ⟨0x4004004C, 0, 32⟩
def LF_POLL_CMD_KICK : Field := ⟨0x4004004C, 0, 1⟩
def LF_POLL_CMD_NONCE_CLR : Field := ⟨0x4004004C, 1, 1⟩
/-- LF_HNONCE0 to LF_HNONCE3 (R108): WO; preloaded nonce, bytes 0 to 15. -/
def LF_HNONCE (i : Nat) : Field := ⟨0x40040050 + 0x4 * i, 0, 32⟩
/-- LF_CHn_CTRL (R108): Channel enable, ramp, phase trim. -/
def LF_CH_CTRL (i : Nat) : Field := ⟨0x40040100 + 0x20 * i, 0, 32⟩
def LF_CH_CTRL_EN (i : Nat) : Field := ⟨0x40040100 + 0x20 * i, 0, 1⟩
def LF_CH_CTRL_RAMP_CYC (i : Nat) : Field := ⟨0x40040100 + 0x20 * i, 1, 4⟩
def LF_CH_CTRL_PHASE_TRIM (i : Nat) : Field := ⟨0x40040100 + 0x20 * i, 5, 8⟩
/-- LF_CHn_ILIM (R108): Current limit, sense resistor. -/
def LF_CH_ILIM (i : Nat) : Field := ⟨0x40040104 + 0x20 * i, 0, 32⟩
def LF_CH_ILIM_ILIM_MA (i : Nat) : Field := ⟨0x40040104 + 0x20 * i, 0, 16⟩
def LF_CH_ILIM_SENSE_MOHM (i : Nat) : Field := ⟨0x40040104 + 0x20 * i, 16, 16⟩
/-- LF_CHn_STATUS (R108): Channel state, faults. -/
def LF_CH_STATUS (i : Nat) : Field := ⟨0x40040108 + 0x20 * i, 0, 32⟩
def LF_CH_STATUS_STATE (i : Nat) : Field := ⟨0x40040108 + 0x20 * i, 0, 3⟩
def LF_CH_STATUS_REG_OK (i : Nat) : Field := ⟨0x40040108 + 0x20 * i, 3, 1⟩
def LF_CH_STATUS_OPEN (i : Nat) : Field := ⟨0x40040108 + 0x20 * i, 4, 1⟩
def LF_CH_STATUS_SHORT_GND (i : Nat) : Field := ⟨0x40040108 + 0x20 * i, 5, 1⟩
def LF_CH_STATUS_SHORT_SUP (i : Nat) : Field := ⟨0x40040108 + 0x20 * i, 6, 1⟩
def LF_CH_STATUS_OVERCURRENT (i : Nat) : Field := ⟨0x40040108 + 0x20 * i, 7, 1⟩
def LF_CH_STATUS_THERMAL (i : Nat) : Field := ⟨0x40040108 + 0x20 * i, 8, 1⟩
def LF_CH_STATUS_REG_FAIL (i : Nat) : Field := ⟨0x40040108 + 0x20 * i, 9, 1⟩
def LF_CH_STATUS_PHASE_FAIL (i : Nat) : Field := ⟨0x40040108 + 0x20 * i, 10, 1⟩
def LF_CH_STATUS_CAL_VALID (i : Nat) : Field := ⟨0x40040108 + 0x20 * i, 11, 1⟩
/-- LF_CHn_MEAS (R108): Last measured current and phase. -/
def LF_CH_MEAS (i : Nat) : Field := ⟨0x4004010C + 0x20 * i, 0, 32⟩
def LF_CH_MEAS_I_MEAS_MA (i : Nat) : Field := ⟨0x4004010C + 0x20 * i, 0, 16⟩
def LF_CH_MEAS_PHASE_MEAS (i : Nat) : Field := ⟨0x4004010C + 0x20 * i, 16, 8⟩
/-- LF_CHn_DIAG (R108): Last resonance and Q. -/
def LF_CH_DIAG (i : Nat) : Field := ⟨0x40040110 + 0x20 * i, 0, 32⟩
def LF_CH_DIAG_RES_HZ (i : Nat) : Field := ⟨0x40040110 + 0x20 * i, 0, 18⟩
def LF_CH_DIAG_Q_X10 (i : Nat) : Field := ⟨0x40040110 + 0x20 * i, 18, 10⟩
/-- LF_PAT0 to LF_PAT31 (R108): Pattern images, 16 bytes each, in the layout of LF_PATTERN_DEF bytes 4 to 19. -/
def LF_PAT (i j : Nat) : Field := ⟨0x40040800 + 0x10 * i + 0x4 * j, 0, 32⟩
/-- URX_CTRL (R156): Enable, lock, automatic bypass. -/
def URX_CTRL : Field := ⟨0x40050000, 0, 32⟩
def URX_CTRL_EN : Field := ⟨0x40050000, 0, 1⟩
def URX_CTRL_LOCK : Field := ⟨0x40050000, 1, 1⟩
def URX_CTRL_BYP_AUTO : Field := ⟨0x40050000, 2, 1⟩
/-- URX_STATUS (R156): Window states, ports, jamming, sentinel. -/
def URX_STATUS : Field := ⟨0x40050004, 0, 32⟩
def URX_STATUS_WIN_STATE : Field := ⟨0x40050004, 0, 12⟩
def URX_STATUS_RADIO_ON : Field := ⟨0x40050004, 12, 1⟩
def URX_STATUS_DEG_SINGLE : Field := ⟨0x40050004, 13, 1⟩
def URX_STATUS_BYP_ACTIVE : Field := ⟨0x40050004, 14, 1⟩
def URX_STATUS_ADC_A_OK : Field := ⟨0x40050004, 15, 1⟩
def URX_STATUS_ADC_B_OK : Field := ⟨0x40050004, 16, 1⟩
def URX_STATUS_JAM : Field := ⟨0x40050004, 17, 4⟩
def URX_STATUS_SENT_STATE : Field := ⟨0x40050004, 21, 2⟩
/-- URX_FEM_GAIN (R156): Front-end gains for RSSI referral. -/
def URX_FEM_GAIN : Field := ⟨0x40050008, 0, 32⟩
def URX_FEM_GAIN_LNA_GAIN : Field := ⟨0x40050008, 0, 8⟩
def URX_FEM_GAIN_BYP_GAIN : Field := ⟨0x40050008, 8, 8⟩
def URX_FEM_GAIN_PATH_LOSS : Field := ⟨0x40050008, 16, 8⟩
/-- URX_JAM_CFG (R156): Jamming monitor. -/
def URX_JAM_CFG : Field := ⟨0x4005000C, 0, 32⟩
def URX_JAM_CFG_JAM_THR : Field := ⟨0x4005000C, 0, 8⟩
def URX_JAM_CFG_JAM_HOLD_MS : Field := ⟨0x4005000C, 8, 8⟩
def URX_JAM_CFG_JAM_EN : Field := ⟨0x4005000C, 16, 1⟩
/-- URX_JAM_STATUS (R156): Sticky jamming notices. -/
def URX_JAM_STATUS : Field := ⟨0x40050010, 0, 32⟩
def URX_JAM_STATUS_JAM_SEEN : Field := ⟨0x40050010, 0, 4⟩
def URX_JAM_STATUS_SENT_JAM_SEEN : Field := ⟨0x40050010, 4, 1⟩
/-- URX_SENT_CFG (R156): Sentinel. -/
def URX_SENT_CFG : Field := ⟨0x40050014, 0, 32⟩
def URX_SENT_CFG_EN : Field := ⟨0x40050014, 0, 1⟩
def URX_SENT_CFG_PROFILE : Field := ⟨0x40050014, 1, 1⟩
def URX_SENT_CFG_SENT_JAM_THR : Field := ⟨0x40050014, 8, 8⟩
def URX_SENT_CFG_SENT_JAM_N : Field := ⟨0x40050014, 16, 4⟩
/-- URX_SENT_FREQ (R156): Sentinel frequency, Hz, [29:0], RW, reset 0. -/
def URX_SENT_FREQ : Field := ⟨0x40050018, 0, 32⟩
/-- URX_SENT_STATUS (R156): Last RSSI, jammed run. -/
def URX_SENT_STATUS : Field := ⟨0x4005001C, 0, 32⟩
def URX_SENT_STATUS_LAST_RSSI : Field := ⟨0x4005001C, 0, 16⟩
def URX_SENT_STATUS_JAM_RUN : Field := ⟨0x4005001C, 16, 4⟩
/-- URX_SENT_VOID (R156): Void poll windows. -/
def URX_SENT_VOID : Field := ⟨0x40050020, 0, 32⟩
/-- URX_SENT_CRCERR (R156): Poll answers failing CRC. -/
def URX_SENT_CRCERR : Field := ⟨0x40050024, 0, 32⟩
/-- URX_GATHER_STATUS (R156): [1:0] GSTATE 0 EMPTY, 1 ARMED, 2 HELD, 3 READING; [31:16] CAPTURE_ID; RO. -/
def URX_GATHER_STATUS : Field := ⟨0x40050028, 0, 32⟩
def URX_GATHER_STATUS_GSTATE : Field := ⟨0x40050028, 0, 2⟩
def URX_GATHER_STATUS_CAPTURE_ID : Field := ⟨0x40050028, 16, 16⟩
/-- URX_DROP_TOTAL (R156): Frames lost, all channels. -/
def URX_DROP_TOTAL : Field := ⟨0x4005002C, 0, 32⟩
/-- URX_WINw_FREQ (R156): Window centre, Hz, [29:0], RW, reset 0. -/
def URX_WIN_FREQ (i : Nat) : Field := ⟨0x40050100 + 0x10 * i, 0, 32⟩
/-- URX_WINw_CFG (R156): Window configured flag, width. -/
def URX_WIN_CFG (i : Nat) : Field := ⟨0x40050104 + 0x10 * i, 0, 32⟩
def URX_WIN_CFG_CONF (i : Nat) : Field := ⟨0x40050104 + 0x10 * i, 0, 1⟩
def URX_WIN_CFG_WIDTH (i : Nat) : Field := ⟨0x40050104 + 0x10 * i, 1, 2⟩
/-- URX_WINw_PWR (R156): Last block power, 0.25 dBm, signed, [15:0], RO. -/
def URX_WIN_PWR (i : Nat) : Field := ⟨0x40050108 + 0x10 * i, 0, 32⟩
/-- URX_CHn_CFG (R156): Channel enable, modulation, bandwidth, modes, queue. -/
def URX_CH_CFG (i : Nat) : Field := ⟨0x40051000 + 0x40 * i, 0, 32⟩
def URX_CH_CFG_EN (i : Nat) : Field := ⟨0x40051000 + 0x40 * i, 0, 1⟩
def URX_CH_CFG_MOD (i : Nat) : Field := ⟨0x40051000 + 0x40 * i, 1, 2⟩
def URX_CH_CFG_BW (i : Nat) : Field := ⟨0x40051000 + 0x40 * i, 3, 3⟩
def URX_CH_CFG_DIV (i : Nat) : Field := ⟨0x40051000 + 0x40 * i, 6, 2⟩
def URX_CH_CFG_LEN_MODE (i : Nat) : Field := ⟨0x40051000 + 0x40 * i, 8, 2⟩
def URX_CH_CFG_CRC_MODE (i : Nat) : Field := ⟨0x40051000 + 0x40 * i, 10, 2⟩
def URX_CH_CFG_DELIVER_BAD (i : Nat) : Field := ⟨0x40051000 + 0x40 * i, 12, 1⟩
def URX_CH_CFG_QUEUE (i : Nat) : Field := ⟨0x40051000 + 0x40 * i, 16, 7⟩
/-- URX_CHn_OFS (R156): Offset from window centre, Hz, signed, [23:0]. -/
def URX_CH_OFS (i : Nat) : Field := ⟨0x40051004 + 0x40 * i, 0, 32⟩
/-- URX_CHn_RATE (R156): Bit rate, bit/s, [16:0]. -/
def URX_CH_RATE (i : Nat) : Field := ⟨0x40051008 + 0x40 * i, 0, 32⟩
/-- URX_CHn_DEV (R156): Deviation, Hz, [17:0]; 0 for OOK. -/
def URX_CH_DEV (i : Nat) : Field := ⟨0x4005100C + 0x40 * i, 0, 32⟩
/-- URX_CHn_SYNC (R156): Sync word. -/
def URX_CH_SYNC (i : Nat) : Field := ⟨0x40051010 + 0x40 * i, 0, 32⟩
def URX_CH_SYNC_SYNC (i : Nat) : Field := ⟨0x40051010 + 0x40 * i, 0, 32⟩
/-- URX_CHn_FRAME (R156): Sync, preamble, fixed length. -/
def URX_CH_FRAME (i : Nat) : Field := ⟨0x40051014 + 0x40 * i, 0, 32⟩
def URX_CH_FRAME_SYNC_LEN (i : Nat) : Field := ⟨0x40051014 + 0x40 * i, 0, 6⟩
def URX_CH_FRAME_SYNC_ERR (i : Nat) : Field := ⟨0x40051014 + 0x40 * i, 6, 2⟩
def URX_CH_FRAME_PRE_MIN (i : Nat) : Field := ⟨0x40051014 + 0x40 * i, 8, 6⟩
def URX_CH_FRAME_FIX_LEN (i : Nat) : Field := ⟨0x40051014 + 0x40 * i, 16, 8⟩
/-- URX_CHn_STATUS (R156): Frame in progress, noise floor. -/
def URX_CH_STATUS (i : Nat) : Field := ⟨0x40051018 + 0x40 * i, 0, 32⟩
def URX_CH_STATUS_IN_FRAME (i : Nat) : Field := ⟨0x40051018 + 0x40 * i, 0, 1⟩
def URX_CH_STATUS_NOISE (i : Nat) : Field := ⟨0x40051018 + 0x40 * i, 16, 16⟩
/-- URX_CHn_FRAMES (R156): Frames delivered. -/
def URX_CH_FRAMES (i : Nat) : Field := ⟨0x4005101C + 0x40 * i, 0, 32⟩
/-- URX_CHn_CRCERR (R156): CRC failures and format errors. -/
def URX_CH_CRCERR (i : Nat) : Field := ⟨0x40051020 + 0x40 * i, 0, 32⟩
/-- URX_CHn_DROPS (R156): Frames lost. -/
def URX_CH_DROPS (i : Nat) : Field := ⟨0x40051024 + 0x40 * i, 0, 32⟩
/-- UTX_CTRL (R195): Enable, lock, host transmission. -/
def UTX_CTRL : Field := ⟨0x40060000, 0, 32⟩
def UTX_CTRL_EN : Field := ⟨0x40060000, 0, 1⟩
def UTX_CTRL_LOCK : Field := ⟨0x40060000, 1, 1⟩
def UTX_CTRL_HOST_TX : Field := ⟨0x40060000, 2, 1⟩
/-- UTX_STATUS (R195): State, activity, pending sends. -/
def UTX_STATUS : Field := ⟨0x40060004, 0, 32⟩
def UTX_STATUS_STATE : Field := ⟨0x40060004, 0, 3⟩
def UTX_STATUS_TX_ACTIVE : Field := ⟨0x40060004, 3, 1⟩
def UTX_STATUS_SYNTH_LOCK : Field := ⟨0x40060004, 4, 1⟩
def UTX_STATUS_CAL_ACTIVE : Field := ⟨0x40060004, 5, 1⟩
def UTX_STATUS_REGION_OK : Field := ⟨0x40060004, 6, 1⟩
def UTX_STATUS_PENDING : Field := ⟨0x40060004, 7, 4⟩
/-- UTX_REGION_ID (R195): Region table identity and check. -/
def UTX_REGION_ID : Field := ⟨0x40060008, 0, 32⟩
def UTX_REGION_ID_REGION : Field := ⟨0x40060008, 0, 8⟩
def UTX_REGION_ID_VERSION : Field := ⟨0x40060008, 8, 8⟩
def UTX_REGION_ID_NBANDS : Field := ⟨0x40060008, 16, 4⟩
def UTX_REGION_ID_LOCKED : Field := ⟨0x40060008, 20, 1⟩
def UTX_REGION_ID_CHECK_OK : Field := ⟨0x40060008, 21, 1⟩
/-- UTX_FEM_ON (R195): Turn-on leads. -/
def UTX_FEM_ON : Field := ⟨0x4006000C, 0, 32⟩
def UTX_FEM_ON_ON_LNA_LEAD : Field := ⟨0x4006000C, 0, 8⟩
def UTX_FEM_ON_ON_TRSW_LEAD : Field := ⟨0x4006000C, 8, 8⟩
def UTX_FEM_ON_ON_PA_LEAD : Field := ⟨0x4006000C, 16, 8⟩
/-- UTX_FEM_OFF (R195): Turn-off lags. -/
def UTX_FEM_OFF : Field := ⟨0x40060010, 0, 32⟩
def UTX_FEM_OFF_OFF_PA_LAG : Field := ⟨0x40060010, 0, 8⟩
def UTX_FEM_OFF_OFF_TRSW_LAG : Field := ⟨0x40060010, 8, 8⟩
def UTX_FEM_OFF_OFF_LNA_LAG : Field := ⟨0x40060010, 16, 8⟩
/-- UTX_FEM_CTRL (R195): Polarities, transmit bypass, port. -/
def UTX_FEM_CTRL : Field := ⟨0x40060014, 0, 32⟩
def UTX_FEM_CTRL_PA_POL : Field := ⟨0x40060014, 0, 1⟩
def UTX_FEM_CTRL_LNA_POL : Field := ⟨0x40060014, 1, 1⟩
def UTX_FEM_CTRL_TRSW_POL : Field := ⟨0x40060014, 2, 1⟩
def UTX_FEM_CTRL_TX_BYP : Field := ⟨0x40060014, 3, 1⟩
def UTX_FEM_CTRL_TX_PORT : Field := ⟨0x40060014, 4, 1⟩
/-- UTX_COEX_CFG (R195): Coexistence. -/
def UTX_COEX_CFG : Field := ⟨0x40060018, 0, 32⟩
def UTX_COEX_CFG_EN : Field := ⟨0x40060018, 0, 1⟩
def UTX_COEX_CFG_PRIO_OVERRIDE : Field := ⟨0x40060018, 1, 1⟩
def UTX_COEX_CFG_HONOR_DROP : Field := ⟨0x40060018, 2, 1⟩
def UTX_COEX_CFG_GNT_POL : Field := ⟨0x40060018, 3, 1⟩
def UTX_COEX_CFG_REQ_LEAD_US : Field := ⟨0x40060018, 8, 8⟩
/-- UTX_COEX_STATUS (R195): Grant level, sticky notices. -/
def UTX_COEX_STATUS : Field := ⟨0x4006001C, 0, 32⟩
def UTX_COEX_STATUS_GNT : Field := ⟨0x4006001C, 0, 1⟩
def UTX_COEX_STATUS_DENIED : Field := ⟨0x4006001C, 1, 1⟩
def UTX_COEX_STATUS_OVERRIDDEN : Field := ⟨0x4006001C, 2, 1⟩
/-- UTX_CAL_CFG (R195): Background calibration. -/
def UTX_CAL_CFG : Field := ⟨0x40060020, 0, 32⟩
def UTX_CAL_CFG_BG_EN : Field := ⟨0x40060020, 0, 1⟩
def UTX_CAL_CFG_SAVE_EN : Field := ⟨0x40060020, 1, 1⟩
def UTX_CAL_CFG_CAL_AGE_H : Field := ⟨0x40060020, 8, 8⟩
def UTX_CAL_CFG_TEMP_STEP_C : Field := ⟨0x40060020, 16, 8⟩
/-- UTX_CAL_STATUS (R195): Item validity, activity, die temperature. -/
def UTX_CAL_STATUS : Field := ⟨0x40060024, 0, 32⟩
def UTX_CAL_STATUS_VALID : Field := ⟨0x40060024, 0, 5⟩
def UTX_CAL_STATUS_STALE : Field := ⟨0x40060024, 5, 5⟩
def UTX_CAL_STATUS_ITEM : Field := ⟨0x40060024, 10, 3⟩
def UTX_CAL_STATUS_ENTRY : Field := ⟨0x40060024, 13, 7⟩
def UTX_CAL_STATUS_DIE_TEMP : Field := ⟨0x40060024, 24, 8⟩
/-- UTX_TX_COUNT (R195): Transmissions sent. -/
def UTX_TX_COUNT : Field := ⟨0x40060028, 0, 32⟩
/-- UTX_LATE_COUNT (R195): TX_LATE completions. -/
def UTX_LATE_COUNT : Field := ⟨0x4006002C, 0, 32⟩
/-- UTX_DUTY_REFUSE (R195): REG_DUTY refusals. -/
def UTX_DUTY_REFUSE : Field := ⟨0x40060030, 0, 32⟩
/-- UTX_RX_ABANDON (R195): Frames abandoned under R166. -/
def UTX_RX_ABANDON : Field := ⟨0x40060034, 0, 32⟩
/-- UTX_LBT_BUSY (R195): Busy listens. -/
def UTX_LBT_BUSY : Field := ⟨0x40060038, 0, 32⟩
/-- UTX_CAL_PREEMPT (R195): Steps stopped under R175 or R186. -/
def UTX_CAL_PREEMPT : Field := ⟨0x4006003C, 0, 32⟩
/-- UTX_DUTYb_USED (R195): USED in µs, RO. -/
def UTX_DUTY_USED (i : Nat) : Field := ⟨0x40060100 + 0x10 * i, 0, 32⟩
/-- UTX_DUTYb_LIMIT (R195): DUTY_US of the band, RO. -/
def UTX_DUTY_LIMIT (i : Nat) : Field := ⟨0x40060104 + 0x10 * i, 0, 32⟩
/-- UTX_DUTYb_SOFT (R195): Soft limit in µs, RW; reset DUTY_US; a write above DUTY_US is replaced by DUTY_US. -/
def UTX_DUTY_SOFT (i : Nat) : Field := ⟨0x40060108 + 0x10 * i, 0, 32⟩
/-- UTX_DUTYb_BAND (R195): [7:0] MAX_PWR, [8] LBT; RO. -/
def UTX_DUTY_BAND (i : Nat) : Field := ⟨0x4006010C + 0x10 * i, 0, 32⟩
def UTX_DUTY_BAND_MAX_PWR (i : Nat) : Field := ⟨0x4006010C + 0x10 * i, 0, 8⟩
def UTX_DUTY_BAND_LBT (i : Nat) : Field := ⟨0x4006010C + 0x10 * i, 8, 1⟩
/-- UTX_CALTABe_LO (R195): Entry e, first word. -/
def UTX_CALTAB_LO (i : Nat) : Field := ⟨0x40061000 + 0x8 * i, 0, 32⟩
def UTX_CALTAB_LO_FREQ_HZ (i : Nat) : Field := ⟨0x40061000 + 0x8 * i, 0, 30⟩
def UTX_CALTAB_LO_VALID (i : Nat) : Field := ⟨0x40061000 + 0x8 * i, 30, 1⟩
def UTX_CALTAB_LO_PERMITTED (i : Nat) : Field := ⟨0x40061000 + 0x8 * i, 31, 1⟩
/-- UTX_CALTABe_HI (R195): Entry e, second word. -/
def UTX_CALTAB_HI (i : Nat) : Field := ⟨0x40061004 + 0x8 * i, 0, 32⟩
def UTX_CALTAB_HI_VCO_BAND (i : Nat) : Field := ⟨0x40061004 + 0x8 * i, 0, 4⟩
def UTX_CALTAB_HI_CAP_CODE (i : Nat) : Field := ⟨0x40061004 + 0x8 * i, 4, 8⟩
def UTX_CALTAB_HI_GAIN_TRIM (i : Nat) : Field := ⟨0x40061004 + 0x8 * i, 12, 6⟩
def UTX_CALTAB_HI_CAL_TEMP (i : Nat) : Field := ⟨0x40061004 + 0x8 * i, 18, 8⟩
def UTX_CALTAB_HI_BAND (i : Nat) : Field := ⟨0x40061004 + 0x8 * i, 26, 3⟩
/-- RANGE_CTRL (R230): Enable, lock, host runs. -/
def RANGE_CTRL : Field := ⟨0x40070000, 0, 32⟩
def RANGE_CTRL_EN : Field := ⟨0x40070000, 0, 1⟩
def RANGE_CTRL_LOCK : Field := ⟨0x40070000, 1, 1⟩
def RANGE_CTRL_HOST_RUN : Field := ⟨0x40070000, 2, 1⟩
/-- RANGE_STATUS (R230): State, run phase. -/
def RANGE_STATUS : Field := ⟨0x40070004, 0, 32⟩
def RANGE_STATUS_STATE : Field := ⟨0x40070004, 0, 3⟩
def RANGE_STATUS_ARMED : Field := ⟨0x40070004, 3, 1⟩
def RANGE_STATUS_RUNNING : Field := ⟨0x40070004, 4, 1⟩
def RANGE_STATUS_PHASE : Field := ⟨0x40070004, 5, 2⟩
def RANGE_STATUS_PLAN_OK : Field := ⟨0x40070004, 7, 1⟩
/-- RANGE_PLAN_F0 (R230): F0, Hz. -/
def RANGE_PLAN_F0 : Field := ⟨0x40070008, 0, 32⟩
def RANGE_PLAN_F0_F0_HZ : Field := ⟨0x40070008, 0, 30⟩
/-- RANGE_PLAN_SP (R230): SPACING, Hz. -/
def RANGE_PLAN_SP : Field := ⟨0x4007000C, 0, 32⟩
def RANGE_PLAN_SP_SPACING_HZ : Field := ⟨0x4007000C, 0, 21⟩
/-- RANGE_PLAN_CFG (R230): N, entries, power. -/
def RANGE_PLAN_CFG : Field := ⟨0x40070010, 0, 32⟩
def RANGE_PLAN_CFG_N : Field := ⟨0x40070010, 0, 7⟩
def RANGE_PLAN_CFG_FIRST_ENTRY : Field := ⟨0x40070010, 8, 7⟩
def RANGE_PLAN_CFG_RTT_ENTRY : Field := ⟨0x40070010, 16, 7⟩
def RANGE_PLAN_CFG_TX_POWER : Field := ⟨0x40070010, 24, 6⟩
/-- RANGE_TIMING (R230): RUN_DELAY_US. -/
def RANGE_TIMING : Field := ⟨0x40070014, 0, 32⟩
def RANGE_TIMING_RUN_DELAY_US : Field := ⟨0x40070014, 0, 14⟩
/-- RANGE_TRIM (R230): Trims. -/
def RANGE_TRIM : Field := ⟨0x40070018, 0, 32⟩
def RANGE_TRIM_RTT_TRIM_PS : Field := ⟨0x40070018, 0, 16⟩
def RANGE_TRIM_PH_TRIM_PS : Field := ⟨0x40070018, 16, 16⟩
/-- RANGE_QUAL_CFG (R230): Validity limits. -/
def RANGE_QUAL_CFG : Field := ⟨0x4007001C, 0, 32⟩
def RANGE_QUAL_CFG_MIN_TONES : Field := ⟨0x4007001C, 0, 7⟩
def RANGE_QUAL_CFG_MIN_SNR_DB : Field := ⟨0x4007001C, 8, 6⟩
def RANGE_QUAL_CFG_RESID_MAX : Field := ⟨0x4007001C, 16, 6⟩
/-- RANGE_THR (R230): Round-trip thresholds. -/
def RANGE_THR : Field := ⟨0x40070020, 0, 32⟩
def RANGE_THR_RTT_THR_NS : Field := ⟨0x40070020, 0, 10⟩
def RANGE_THR_RTT_MARGIN_NS : Field := ⟨0x40070020, 16, 8⟩
/-- RANGE_THR2 (R230): Distance and zone thresholds. -/
def RANGE_THR2 : Field := ⟨0x40070024, 0, 32⟩
def RANGE_THR2_DIFF_THR_DM : Field := ⟨0x40070024, 0, 8⟩
def RANGE_THR2_ZONE_TOL_DM : Field := ⟨0x40070024, 8, 8⟩
def RANGE_THR2_CONF_MIN : Field := ⟨0x40070024, 16, 8⟩
/-- RANGE_ARM_CFG (R230): Arming options. -/
def RANGE_ARM_CFG : Field := ⟨0x40070030, 0, 32⟩
def RANGE_ARM_CFG_MODE : Field := ⟨0x40070030, 0, 1⟩
def RANGE_ARM_CFG_SKIP_RTT : Field := ⟨0x40070030, 1, 1⟩
def RANGE_ARM_CFG_SKIP_TONES : Field := ⟨0x40070030, 2, 1⟩
def RANGE_ARM_CFG_USE_WORKERS : Field := ⟨0x40070030, 3, 1⟩
def RANGE_ARM_CFG_REPEAT : Field := ⟨0x40070030, 4, 1⟩
def RANGE_ARM_CFG_RX_CH : Field := ⟨0x40070030, 8, 6⟩
def RANGE_ARM_CFG_ZONE_SRC : Field := ⟨0x40070030, 16, 8⟩
/-- RANGE_ARM_ORG_LO (R230): O, or latest trigger instant, bits [31:0]. -/
def RANGE_ARM_ORG_LO : Field := ⟨0x40070034, 0, 32⟩
/-- RANGE_ARM_ORG_HI (R230): Bits [63:32]. -/
def RANGE_ARM_ORG_HI : Field := ⟨0x40070038, 0, 32⟩
/-- RANGE_SEED0 to RANGE_SEED7 (R230): WO; rseed_u in 0 to 3, chips_u in 4 to 7. -/
def RANGE_SEED (i : Nat) : Field := ⟨0x40070040 + 0x4 * i, 0, 32⟩
/-- RANGE_CMD (R230): GO, ABORT. -/
def RANGE_CMD : Field := ⟨0x40070060, 0, 32⟩
def RANGE_CMD_GO : Field := ⟨0x40070060, 0, 1⟩
def RANGE_CMD_ABORT : Field := ⟨0x40070060, 1, 1⟩
/-- RANGE_RUN_ID (R230): [15:0] last finished, [31:16] armed; RO. -/
def RANGE_RUN_ID : Field := ⟨0x40070064, 0, 32⟩
def RANGE_RUN_ID_LAST : Field := ⟨0x40070064, 0, 16⟩
def RANGE_RUN_ID_ARMED : Field := ⟨0x40070064, 16, 16⟩
/-- RANGE_RUNS (R230): Runs finished. -/
def RANGE_RUNS : Field := ⟨0x40070070, 0, 32⟩
/-- RANGE_INVALID (R230): Runs not valid. -/
def RANGE_INVALID : Field := ⟨0x40070074, 0, 32⟩
/-- RANGE_RELAY_CNT (R230): RELAY_SUSPECT verdicts. -/
def RANGE_RELAY_CNT : Field := ⟨0x40070078, 0, 32⟩
/-- RANGE_ZONE_CNT (R230): ZONE_MISMATCH verdicts. -/
def RANGE_ZONE_CNT : Field := ⟨0x4007007C, 0, 32⟩
/-- RANGE_LAST (R230): Last result in the RANGE_RESULT layout; RO. -/
def RANGE_LAST (i : Nat) : Field := ⟨0x40070100 + 0x4 * i, 0, 32⟩
/-- ZONE_CTRL (R232): Enable, lock, offset mode. -/
def ZONE_CTRL : Field := ⟨0x40080000, 0, 32⟩
def ZONE_CTRL_EN : Field := ⟨0x40080000, 0, 1⟩
def ZONE_CTRL_LOCK : Field := ⟨0x40080000, 1, 1⟩
def ZONE_CTRL_OFFSET_FREE : Field := ⟨0x40080000, 2, 1⟩
/-- ZONE_STATUS (R232): State, map. -/
def ZONE_STATUS : Field := ⟨0x40080004, 0, 32⟩
def ZONE_STATUS_STATE : Field := ⟨0x40080004, 0, 3⟩
def ZONE_STATUS_BUSY : Field := ⟨0x40080004, 3, 1⟩
def ZONE_STATUS_MAP_VALID : Field := ⟨0x40080004, 4, 1⟩
def ZONE_STATUS_MAP_PENDING : Field := ⟨0x40080004, 5, 1⟩
def ZONE_STATUS_NPAT : Field := ⟨0x40080004, 8, 5⟩
def ZONE_STATUS_NPTS : Field := ⟨0x40080004, 16, 9⟩
/-- ZONE_CFG (R232): Solver limits. -/
def ZONE_CFG : Field := ⟨0x40080008, 0, 32⟩
def ZONE_CFG_MIN_PAT : Field := ⟨0x40080008, 0, 5⟩
def ZONE_CFG_OFS_MAX : Field := ⟨0x40080008, 8, 8⟩
def ZONE_CFG_FIT_MAX : Field := ⟨0x40080008, 16, 16⟩
/-- ZONE_CMD (R232): [0] START, WO; [31:1] reserved. -/
def ZONE_CMD : Field := ⟨0x4008000C, 0, 32⟩
def ZONE_CMD_START : Field := ⟨0x4008000C, 0, 1⟩
/-- ZONE_RESULT (R232): Last result. -/
def ZONE_RESULT : Field := ⟨0x40080010, 0, 32⟩
def ZONE_RESULT_ZONE : Field := ⟨0x40080010, 0, 3⟩
def ZONE_RESULT_CONF : Field := ⟨0x40080010, 8, 8⟩
def ZONE_RESULT_FLAGS : Field := ⟨0x40080010, 16, 8⟩
def ZONE_RESULT_NVALID : Field := ⟨0x40080010, 24, 5⟩
/-- ZONE_FIT (R232): [15:0] D1, [31:16] D2; RO. -/
def ZONE_FIT : Field := ⟨0x40080014, 0, 32⟩
def ZONE_FIT_D1 : Field := ⟨0x40080014, 0, 16⟩
def ZONE_FIT_D2 : Field := ⟨0x40080014, 16, 16⟩
/-- ZONE_OFS (R232): [7:0] offset applied, signed, 0.5 dB; [15:8] best point; RO. -/
def ZONE_OFS : Field := ⟨0x40080018, 0, 32⟩
def ZONE_OFS_APPLIED : Field := ⟨0x40080018, 0, 8⟩
def ZONE_OFS_BEST : Field := ⟨0x40080018, 8, 8⟩
/-- ZONE_MAP_ID (R232): MAP_ID in force; RO. -/
def ZONE_MAP_ID : Field := ⟨0x4008001C, 0, 32⟩
/-- ZONE_SOLVES (R232): Solves, RC, saturating. -/
def ZONE_SOLVES : Field := ⟨0x40080020, 0, 32⟩
/-- ZONE_Dz (R232): Distance interval of zone z. -/
def ZONE_D (i : Nat) : Field := ⟨0x40080040 + 0x4 * i, 0, 32⟩
def ZONE_D_DMIN_DM (i : Nat) : Field := ⟨0x40080040 + 0x4 * i, 0, 8⟩
def ZONE_D_DMAX_DM (i : Nat) : Field := ⟨0x40080040 + 0x4 * i, 8, 8⟩
def ZONE_D_VALID (i : Nat) : Field := ⟨0x40080040 + 0x4 * i, 16, 1⟩
/-- ZONE_WDw_LO (R232): Worker w limits, zones 0 to 3, one byte each in 0.1 m, zone 0 in [7:0]; RW; reset 0xFFFF_FFFF. -/
def ZONE_WD_LO (i : Nat) : Field := ⟨0x40080060 + 0x8 * i, 0, 32⟩
/-- ZONE_WDw_HI (R232): Zones 4 to 7, as above. -/
def ZONE_WD_HI (i : Nat) : Field := ⟨0x40080064 + 0x8 * i, 0, 32⟩
/-- ZONE_IN0 to ZONE_IN11 (R232): Slot values, 3 bytes per slot, slot 0 X in byte 0; RW. -/
def ZONE_IN (i : Nat) : Field := ⟨0x40080100 + 0x4 * i, 0, 32⟩
/-- ZONE_SLOTPAT0 to ZONE_SLOTPAT3 (R232): Pattern index per slot, 0xFF empty; RW; reset 0xFFFF_FFFF. -/
def ZONE_SLOTPAT (i : Nat) : Field := ⟨0x40080130 + 0x4 * i, 0, 32⟩
/-- CRED_CTRL (R279): Enable, lock, population use, promotion. -/
def CRED_CTRL : Field := ⟨0x40090000, 0, 32⟩
def CRED_CTRL_EN : Field := ⟨0x40090000, 0, 1⟩
def CRED_CTRL_LOCK : Field := ⟨0x40090000, 1, 1⟩
def CRED_CTRL_POP_EN : Field := ⟨0x40090000, 2, 1⟩
def CRED_CTRL_PROMOTE : Field := ⟨0x40090000, 3, 1⟩
/-- CRED_STATUS (R279): State, population, lock, counts. -/
def CRED_STATUS : Field := ⟨0x40090004, 0, 32⟩
def CRED_STATUS_STATE : Field := ⟨0x40090004, 0, 3⟩
def CRED_STATUS_POP_STATE : Field := ⟨0x40090004, 3, 2⟩
def CRED_STATUS_MAP_LOADED : Field := ⟨0x40090004, 5, 1⟩
def CRED_STATUS_DEG_NO_POP : Field := ⟨0x40090004, 6, 1⟩
def CRED_STATUS_GLOBAL_LOCK : Field := ⟨0x40090004, 7, 1⟩
def CRED_STATUS_DIR_COUNT : Field := ⟨0x40090004, 8, 12⟩
def CRED_STATUS_LOCKED : Field := ⟨0x40090004, 20, 8⟩
/-- CRED_AUTH_CFG (R279): Slot tolerance, rounds, lock-out. -/
def CRED_AUTH_CFG : Field := ⟨0x40090008, 0, 32⟩
def CRED_AUTH_CFG_SLOT_TOL_US : Field := ⟨0x40090008, 0, 8⟩
def CRED_AUTH_CFG_MAX_ROUNDS : Field := ⟨0x40090008, 8, 2⟩
def CRED_AUTH_CFG_LOCK_N : Field := ⟨0x40090008, 16, 5⟩
def CRED_AUTH_CFG_LOCK_T_MIN : Field := ⟨0x40090008, 24, 5⟩
/-- CRED_POP_INFO (R279): [7:0] NBUCKET_LOG2; [31:8] NBLOB_MAX; RO. -/
def CRED_POP_INFO : Field := ⟨0x4009000C, 0, 32⟩
def CRED_POP_INFO_NBUCKET_LOG2 : Field := ⟨0x4009000C, 0, 8⟩
def CRED_POP_INFO_NBLOB_MAX : Field := ⟨0x4009000C, 8, 24⟩
/-- CRED_POP_SALT (R279): SALT; RO. -/
def CRED_POP_SALT : Field := ⟨0x40090010, 0, 32⟩
/-- CRED_POP_GEN (R279): GEN; RO. -/
def CRED_POP_GEN : Field := ⟨0x40090014, 0, 32⟩
/-- CRED_LK_ID0 to CRED_LK_ID2 (R279): KEY_ID for a lookup, byte 0 in [7:0] of CRED_LK_ID0; RW. -/
def CRED_LK_ID (i : Nat) : Field := ⟨0x40090020 + 0x4 * i, 0, 32⟩
/-- CRED_LK_CMD (R279): Lookup command. -/
def CRED_LK_CMD : Field := ⟨0x4009002C, 0, 32⟩
def CRED_LK_CMD_GO : Field := ⟨0x4009002C, 0, 1⟩
def CRED_LK_CMD_NO_UNWRAP : Field := ⟨0x4009002C, 1, 1⟩
def CRED_LK_CMD_KSLOT : Field := ⟨0x4009002C, 8, 5⟩
/-- CRED_LK_RESULT (R279): Lookup result. -/
def CRED_LK_RESULT : Field := ⟨0x40090030, 0, 32⟩
def CRED_LK_RESULT_STATUS : Field := ⟨0x40090030, 0, 8⟩
def CRED_LK_RESULT_SOURCE : Field := ⟨0x40090030, 8, 2⟩
def CRED_LK_RESULT_DONE : Field := ⟨0x40090030, 10, 1⟩
def CRED_LK_RESULT_BUSY : Field := ⟨0x40090030, 11, 1⟩
def CRED_LK_RESULT_INDEX : Field := ⟨0x40090030, 12, 18⟩
/-- CRED_LK_TIME (R279): Last population lookup in ns, excluding suspend; RO. -/
def CRED_LK_TIME : Field := ⟨0x40090034, 0, 32⟩
/-- CRED_LOOKUPS (R279): Lookups. -/
def CRED_LOOKUPS : Field := ⟨0x40090040, 0, 32⟩
/-- CRED_HOT_HITS (R279): Directory hits. -/
def CRED_HOT_HITS : Field := ⟨0x40090044, 0, 32⟩
/-- CRED_COLD_HITS (R279): Population hits. -/
def CRED_COLD_HITS : Field := ⟨0x40090048, 0, 32⟩
/-- CRED_MISSES (R279): NOT_FOUND. -/
def CRED_MISSES : Field := ⟨0x4009004C, 0, 32⟩
/-- CRED_FAILS (R279): Counted global failures. -/
def CRED_FAILS : Field := ⟨0x40090050, 0, 32⟩
/-- CRED_LOCKOUTS (R279): Locks started. -/
def CRED_LOCKOUTS : Field := ⟨0x40090054, 0, 32⟩
/-- CRED_EPOCHj (R279): Epoch of issuer j, [15:0]; RO. -/
def CRED_EPOCH (i : Nat) : Field := ⟨0x40090080 + 0x4 * i, 0, 32⟩
/-- REL_CTRL (R316): Enable, lock. -/
def REL_CTRL : Field := ⟨0x400A0000, 0, 32⟩
def REL_CTRL_EN : Field := ⟨0x400A0000, 0, 1⟩
def REL_CTRL_LOCK : Field := ⟨0x400A0000, 1, 1⟩
/-- REL_STATUS (R316): Unit and session state, pins, latches. -/
def REL_STATUS : Field := ⟨0x400A0004, 0, 32⟩
def REL_STATUS_STATE : Field := ⟨0x400A0004, 0, 3⟩
def REL_STATUS_SESS : Field := ⟨0x400A0004, 3, 3⟩
def REL_STATUS_HELD : Field := ⟨0x400A0004, 6, 1⟩
def REL_STATUS_FB_FAULT : Field := ⟨0x400A0004, 7, 1⟩
def REL_STATUS_TT_FAULT : Field := ⟨0x400A0004, 8, 1⟩
def REL_STATUS_PINS : Field := ⟨0x400A0004, 9, 4⟩
/-- REL_CFG (R316): Timeout, door inputs. -/
def REL_CFG : Field := ⟨0x400A0008, 0, 32⟩
def REL_CFG_SESSION_TO_S : Field := ⟨0x400A0008, 0, 7⟩
def REL_CFG_DOOR_MASK : Field := ⟨0x400A0008, 8, 4⟩
def REL_CFG_DOOR_POL : Field := ⟨0x400A0008, 12, 4⟩
def REL_CFG_DOOR_FILT_US : Field := ⟨0x400A0008, 16, 10⟩
/-- REL_POLICY (R316): Roles, tap mode, opening window. -/
def REL_POLICY : Field := ⟨0x400A000C, 0, 32⟩
def REL_POLICY_ROLE_MASK : Field := ⟨0x400A000C, 0, 6⟩
def REL_POLICY_TAP_MODE : Field := ⟨0x400A000C, 8, 2⟩
def REL_POLICY_OPEN_WIN : Field := ⟨0x400A000C, 16, 6⟩
/-- REL_FB_CFG (R316): Pair timing and readback. -/
def REL_FB_CFG : Field := ⟨0x400A0010, 0, 32⟩
def REL_FB_CFG_GAP_US : Field := ⟨0x400A0010, 0, 8⟩
def REL_FB_CFG_FB_SETTLE_US : Field := ⟨0x400A0010, 8, 8⟩
def REL_FB_CFG_FB_GLITCH_US : Field := ⟨0x400A0010, 16, 5⟩
/-- REL_ARM (R316): [1:0] mode, 0 DISARMED, 1 ONE_SHOT, 2 PERSISTENT; [31:16] seconds remaining, 0 for none; RO. -/
def REL_ARM : Field := ⟨0x400A0014, 0, 32⟩
def REL_ARM_MODE : Field := ⟨0x400A0014, 0, 2⟩
def REL_ARM_SECONDS : Field := ⟨0x400A0014, 16, 16⟩
/-- REL_OPEN_KEY0 to REL_OPEN_KEY2 (R316): KEY_ID for OPEN, byte 0 in [7:0] of REL_OPEN_KEY0; RW. -/
def REL_OPEN_KEY (i : Nat) : Field := ⟨0x400A0020 + 0x4 * i, 0, 32⟩
/-- REL_OPEN_INFO (R316): Source, role, RUN_ID for OPEN. -/
def REL_OPEN_INFO : Field := ⟨0x400A002C, 0, 32⟩
def REL_OPEN_INFO_RUN_ID : Field := ⟨0x400A002C, 0, 16⟩
def REL_OPEN_INFO_ROLE : Field := ⟨0x400A002C, 16, 3⟩
def REL_OPEN_INFO_START : Field := ⟨0x400A002C, 19, 1⟩
def REL_OPEN_INFO_SOURCE : Field := ⟨0x400A002C, 20, 1⟩
/-- REL_CMD (R316): OPEN, END. -/
def REL_CMD : Field := ⟨0x400A0030, 0, 32⟩
def REL_CMD_OPEN : Field := ⟨0x400A0030, 0, 1⟩
def REL_CMD_END : Field := ⟨0x400A0030, 1, 1⟩
/-- REL_SESSION (R316): [15:0] SESSION_ID, [18:16] last end cause; RO. -/
def REL_SESSION : Field := ⟨0x400A0034, 0, 32⟩
def REL_SESSION_ID : Field := ⟨0x400A0034, 0, 16⟩
def REL_SESSION_CAUSE : Field := ⟨0x400A0034, 16, 3⟩
/-- REL_T_OPEN_LO (R316): Session instant, bits [31:0]; RO. -/
def REL_T_OPEN_LO : Field := ⟨0x400A0038, 0, 32⟩
/-- REL_T_OPEN_HI (R316): Bits [63:32]; RO. -/
def REL_T_OPEN_HI : Field := ⟨0x400A003C, 0, 32⟩
/-- REL_OPENS (R316): Openings and extensions. -/
def REL_OPENS : Field := ⟨0x400A0040, 0, 32⟩
/-- REL_ENDS_DOOR (R316): Sessions ended by DOOR. -/
def REL_ENDS_DOOR : Field := ⟨0x400A0044, 0, 32⟩
/-- REL_ENDS_TIMEOUT (R316): Sessions ended by TIMEOUT. -/
def REL_ENDS_TIMEOUT : Field := ⟨0x400A0048, 0, 32⟩
/-- REL_REFUSALS (R316): Openings refused. -/
def REL_REFUSALS : Field := ⟨0x400A004C, 0, 32⟩
/-- EWAKE_PRED0 (R316): [15:0] PRED_APPROACH, [31:16] PRED_HANDLE, ms. -/
def EWAKE_PRED0 : Field := ⟨0x400A0100, 0, 32⟩
def EWAKE_PRED0_APPROACH : Field := ⟨0x400A0100, 0, 16⟩
def EWAKE_PRED0_HANDLE : Field := ⟨0x400A0100, 16, 16⟩
/-- EWAKE_PRED1 (R316): [15:0] PRED_UNLOCK, [31:16] PRED_DOOR, ms. -/
def EWAKE_PRED1 : Field := ⟨0x400A0104, 0, 32⟩
def EWAKE_PRED1_UNLOCK : Field := ⟨0x400A0104, 0, 16⟩
def EWAKE_PRED1_DOOR : Field := ⟨0x400A0104, 16, 16⟩
/-- EWAKE_PRED2 (R316): [15:0] PRED_RELEASE, [31:16] PRED_FD_WAKE, ms. -/
def EWAKE_PRED2 : Field := ⟨0x400A0108, 0, 32⟩
def EWAKE_PRED2_RELEASE : Field := ⟨0x400A0108, 0, 16⟩
def EWAKE_PRED2_FD_WAKE : Field := ⟨0x400A0108, 16, 16⟩
/-- EWAKEl_CFG (R316): Line l settings. -/
def EWAKE_CFG (i : Nat) : Field := ⟨0x400A0110 + 0x10 * i, 0, 32⟩
def EWAKE_CFG_EN (i : Nat) : Field := ⟨0x400A0110 + 0x10 * i, 0, 1⟩
def EWAKE_CFG_POL (i : Nat) : Field := ⟨0x400A0110 + 0x10 * i, 1, 1⟩
def EWAKE_CFG_MODE (i : Nat) : Field := ⟨0x400A0110 + 0x10 * i, 2, 1⟩
def EWAKE_CFG_SRC_MASK (i : Nat) : Field := ⟨0x400A0110 + 0x10 * i, 8, 6⟩
def EWAKE_CFG_PULSE_MS (i : Nat) : Field := ⟨0x400A0110 + 0x10 * i, 16, 8⟩
/-- EWAKEl_TIME (R316): [15:0] LEAD_MS, [31:16] HOLD_S. -/
def EWAKE_TIME (i : Nat) : Field := ⟨0x400A0114 + 0x10 * i, 0, 32⟩
def EWAKE_TIME_LEAD_MS (i : Nat) : Field := ⟨0x400A0114 + 0x10 * i, 0, 16⟩
def EWAKE_TIME_HOLD_S (i : Nat) : Field := ⟨0x400A0114 + 0x10 * i, 16, 16⟩
/-- EWAKEl_STATUS (R316): [0] asserted, [1] pending, [7:2] 0, [15:8] calendar slot or 0xFF; RO. -/
def EWAKE_STATUS (i : Nat) : Field := ⟨0x400A0118 + 0x10 * i, 0, 32⟩
def EWAKE_STATUS_ASSERTED (i : Nat) : Field := ⟨0x400A0118 + 0x10 * i, 0, 1⟩
def EWAKE_STATUS_PENDING (i : Nat) : Field := ⟨0x400A0118 + 0x10 * i, 1, 1⟩
def EWAKE_STATUS_SLOT (i : Nat) : Field := ⟨0x400A0118 + 0x10 * i, 8, 8⟩
/-- REL_TT_CFG (R316): Tell-tale current, sense, mode. -/
def REL_TT_CFG : Field := ⟨0x400A0200, 0, 32⟩
def REL_TT_CFG_TT_EN : Field := ⟨0x400A0200, 0, 1⟩
def REL_TT_CFG_TT_MODE : Field := ⟨0x400A0200, 1, 1⟩
def REL_TT_CFG_HOST_PAT : Field := ⟨0x400A0200, 2, 2⟩
def REL_TT_CFG_TT_I : Field := ⟨0x400A0200, 8, 6⟩
def REL_TT_CFG_SENSE_OHM : Field := ⟨0x400A0200, 16, 8⟩
def REL_TT_CFG_TT_MAP : Field := ⟨0x400A0200, 24, 8⟩
/-- REL_TT_PAT (R316): Blink timing. -/
def REL_TT_PAT : Field := ⟨0x400A0204, 0, 32⟩
def REL_TT_PAT_SLOW_ON : Field := ⟨0x400A0204, 0, 8⟩
def REL_TT_PAT_SLOW_OFF : Field := ⟨0x400A0204, 8, 8⟩
def REL_TT_PAT_FAST_ON : Field := ⟨0x400A0204, 16, 8⟩
def REL_TT_PAT_FAST_OFF : Field := ⟨0x400A0204, 24, 8⟩
/-- REL_TT_STATUS (R316): Pattern, latches, measurement. -/
def REL_TT_STATUS : Field := ⟨0x400A0208, 0, 32⟩
def REL_TT_STATUS_PATTERN : Field := ⟨0x400A0208, 0, 2⟩
def REL_TT_STATUS_RESULT : Field := ⟨0x400A0208, 2, 2⟩
def REL_TT_STATUS_I_ON : Field := ⟨0x400A0208, 16, 8⟩
def REL_TT_STATUS_I_OFF : Field := ⟨0x400A0208, 24, 8⟩
/-- AES_CTRL (R354): Enable, lock, host direct keys. -/
def AES_CTRL : Field := ⟨0x400B0000, 0, 32⟩
def AES_CTRL_EN : Field := ⟨0x400B0000, 0, 1⟩
def AES_CTRL_LOCK : Field := ⟨0x400B0000, 1, 1⟩
def AES_CTRL_HOST_DIRECT : Field := ⟨0x400B0000, 2, 1⟩
/-- AES_STATUS (R354): State, activity, slots in use. -/
def AES_STATUS : Field := ⟨0x400B0004, 0, 32⟩
def AES_STATUS_STATE : Field := ⟨0x400B0004, 0, 3⟩
def AES_STATUS_E0_BUSY : Field := ⟨0x400B0004, 3, 1⟩
def AES_STATUS_E1_BUSY : Field := ⟨0x400B0004, 4, 1⟩
def AES_STATUS_MRD_BUSY : Field := ⟨0x400B0004, 5, 1⟩
def AES_STATUS_SLOTS : Field := ⟨0x400B0004, 8, 7⟩
/-- AES_En_CFG (R354): Direction, key source, slot. -/
def AES_E_CFG (i : Nat) : Field := ⟨0x400B0100 + 0x80 * i, 0, 32⟩
def AES_E_CFG_DIR (i : Nat) : Field := ⟨0x400B0100 + 0x80 * i, 0, 1⟩
def AES_E_CFG_KEYSRC (i : Nat) : Field := ⟨0x400B0100 + 0x80 * i, 1, 1⟩
def AES_E_CFG_KLEN (i : Nat) : Field := ⟨0x400B0100 + 0x80 * i, 2, 2⟩
def AES_E_CFG_SLOT (i : Nat) : Field := ⟨0x400B0100 + 0x80 * i, 8, 6⟩
/-- AES_En_STATUS (R354): Busy, done, error. -/
def AES_E_STATUS (i : Nat) : Field := ⟨0x400B0104 + 0x80 * i, 0, 32⟩
def AES_E_STATUS_BUSY (i : Nat) : Field := ⟨0x400B0104 + 0x80 * i, 0, 1⟩
def AES_E_STATUS_DONE (i : Nat) : Field := ⟨0x400B0104 + 0x80 * i, 1, 1⟩
def AES_E_STATUS_ERR (i : Nat) : Field := ⟨0x400B0104 + 0x80 * i, 2, 3⟩
def AES_E_STATUS_WERR (i : Nat) : Field := ⟨0x400B0104 + 0x80 * i, 5, 1⟩
/-- AES_En_CMD (R354): GO, CLEAR. -/
def AES_E_CMD (i : Nat) : Field := ⟨0x400B0108 + 0x80 * i, 0, 32⟩
def AES_E_CMD_GO (i : Nat) : Field := ⟨0x400B0108 + 0x80 * i, 0, 1⟩
def AES_E_CMD_CLEAR (i : Nat) : Field := ⟨0x400B0108 + 0x80 * i, 1, 1⟩
/-- AES_En_KEY0 to AES_En_KEY7 (R354): Direct key, WO. -/
def AES_E_KEY (i j : Nat) : Field := ⟨0x400B0120 + 0x80 * i + 0x4 * j, 0, 32⟩
/-- AES_En_DIN0 to AES_En_DIN3 (R354): Input block, WO. -/
def AES_E_DIN (i j : Nat) : Field := ⟨0x400B0140 + 0x80 * i + 0x4 * j, 0, 32⟩
/-- AES_En_DOUT0 to AES_En_DOUT3 (R354): Output block, RO. -/
def AES_E_DOUT (i j : Nat) : Field := ⟨0x400B0150 + 0x80 * i + 0x4 * j, 0, 32⟩
/-- MRD_CFG (R354): Unwrap target, KEK, attributes. -/
def MRD_CFG : Field := ⟨0x400B0200, 0, 32⟩
def MRD_CFG_TARGET : Field := ⟨0x400B0200, 0, 6⟩
def MRD_CFG_KEK : Field := ⟨0x400B0200, 8, 8⟩
def MRD_CFG_USAGE : Field := ⟨0x400B0200, 16, 2⟩
def MRD_CFG_USERS : Field := ⟨0x400B0200, 18, 2⟩
def MRD_CFG_INLEN : Field := ⟨0x400B0200, 20, 2⟩
def MRD_CFG_REPLACE : Field := ⟨0x400B0200, 22, 1⟩
/-- MRD_CMD (R354): [0] GO, WO; [31:1] reserved. -/
def MRD_CMD : Field := ⟨0x400B0204, 0, 32⟩
def MRD_CMD_GO : Field := ⟨0x400B0204, 0, 1⟩
/-- MRD_STATUS (R354): Busy, done, status. -/
def MRD_STATUS : Field := ⟨0x400B0208, 0, 32⟩
def MRD_STATUS_BUSY : Field := ⟨0x400B0208, 0, 1⟩
def MRD_STATUS_DONE : Field := ⟨0x400B0208, 1, 1⟩
def MRD_STATUS_STATUS : Field := ⟨0x400B0208, 8, 8⟩
/-- MRD_IN0 to MRD_IN9 (R354): Wrapped input, WO, byte 0 in [7:0] of MRD_IN0; zeroed at GO. -/
def MRD_IN (i : Nat) : Field := ⟨0x400B0220 + 0x4 * i, 0, 32⟩
/-- AES_SLOTs (R354): Attributes of slot s, RO. -/
def AES_SLOT (i : Nat) : Field := ⟨0x400B0400 + 0x4 * i, 0, 32⟩
def AES_SLOT_VALID (i : Nat) : Field := ⟨0x400B0400 + 0x4 * i, 0, 1⟩
def AES_SLOT_USAGE (i : Nat) : Field := ⟨0x400B0400 + 0x4 * i, 1, 2⟩
def AES_SLOT_USERS (i : Nat) : Field := ⟨0x400B0400 + 0x4 * i, 3, 2⟩
def AES_SLOT_KLEN (i : Nat) : Field := ⟨0x400B0400 + 0x4 * i, 5, 2⟩
def AES_SLOT_KEK (i : Nat) : Field := ⟨0x400B0400 + 0x4 * i, 8, 8⟩
/-- AES_UNWRAPS (R354): Unwraps completed. -/
def AES_UNWRAPS : Field := ⟨0x400B0500, 0, 32⟩
/-- AES_UNWRAP_FAILS (R354): Unwraps failed. -/
def AES_UNWRAP_FAILS : Field := ⟨0x400B0504, 0, 32⟩
/-- TRNG_CTRL (R356): Enable, lock, RF mixing. -/
def TRNG_CTRL : Field := ⟨0x400C0000, 0, 32⟩
def TRNG_CTRL_EN : Field := ⟨0x400C0000, 0, 1⟩
def TRNG_CTRL_LOCK : Field := ⟨0x400C0000, 1, 1⟩
def TRNG_CTRL_RF_MIX : Field := ⟨0x400C0000, 2, 1⟩
/-- TRNG_STATUS (R356): Unit and generator state. -/
def TRNG_STATUS : Field := ⟨0x400C0004, 0, 32⟩
def TRNG_STATUS_STATE : Field := ⟨0x400C0004, 0, 3⟩
def TRNG_STATUS_GEN : Field := ⟨0x400C0004, 3, 3⟩
def TRNG_STATUS_POOL_READY : Field := ⟨0x400C0004, 6, 1⟩
def TRNG_STATUS_SU_FAILS : Field := ⟨0x400C0004, 8, 2⟩
/-- TRNG_HEALTH (R356): Sticky failure notices. -/
def TRNG_HEALTH : Field := ⟨0x400C0008, 0, 32⟩
def TRNG_HEALTH_RCT : Field := ⟨0x400C0008, 0, 1⟩
def TRNG_HEALTH_APT : Field := ⟨0x400C0008, 1, 1⟩
def TRNG_HEALTH_ALIVE : Field := ⟨0x400C0008, 2, 1⟩
def TRNG_HEALTH_BEAT : Field := ⟨0x400C0008, 3, 1⟩
def TRNG_HEALTH_CORR : Field := ⟨0x400C0008, 4, 1⟩
def TRNG_HEALTH_KAT_COND : Field := ⟨0x400C0008, 5, 1⟩
def TRNG_HEALTH_KAT_DRBG : Field := ⟨0x400C0008, 6, 1⟩
/-- TRNG_REQS (R356): [12:0] requests since last seed; RO. -/
def TRNG_REQS : Field := ⟨0x400C000C, 0, 32⟩
/-- TRNG_RESEEDS (R356): Reseeds. -/
def TRNG_RESEEDS : Field := ⟨0x400C0010, 0, 32⟩
/-- TRNG_FAILS (R356): Health failures. -/
def TRNG_FAILS : Field := ⟨0x400C0014, 0, 32⟩
/-- TRNG_OSCn (R356): [15:0] count of oscillator n in the last window; RO. -/
def TRNG_OSC (i : Nat) : Field := ⟨0x400C0040 + 0x4 * i, 0, 32⟩
/-- TRNG_PAIR (R356): [15:0] least beat count of any pair; [31:16] greatest |agreements − 512|; RO. -/
def TRNG_PAIR : Field := ⟨0x400C0050, 0, 32⟩
def TRNG_PAIR_BEAT : Field := ⟨0x400C0050, 0, 16⟩
def TRNG_PAIR_AGREE : Field := ⟨0x400C0050, 16, 16⟩
/-- TRNG_FIFO (R356): Next 32 random bits for M0; RO. -/
def TRNG_FIFO : Field := ⟨0x400C0060, 0, 32⟩
/-- TRNG_FIFO_STAT (R356): FIFO level, underrun. -/
def TRNG_FIFO_STAT : Field := ⟨0x400C0064, 0, 32⟩
def TRNG_FIFO_STAT_LEVEL : Field := ⟨0x400C0064, 0, 5⟩
def TRNG_FIFO_STAT_UNDERRUN : Field := ⟨0x400C0064, 8, 1⟩
/-- CNT_CTRL (R358): [0] EN, RW, reset 1; [1] LOCK, RWL, reset 0; [31:2] reserved. -/
def CNT_CTRL : Field := ⟨0x40150000, 0, 32⟩
def CNT_CTRL_EN : Field := ⟨0x40150000, 0, 1⟩
def CNT_CTRL_LOCK : Field := ⟨0x40150000, 1, 1⟩
/-- CNT_STATUS (R358): Unit state, load, activity. -/
def CNT_STATUS : Field := ⟨0x40150004, 0, 32⟩
def CNT_STATUS_STATE : Field := ⟨0x40150004, 0, 3⟩
def CNT_STATUS_BUSY : Field := ⟨0x40150004, 3, 1⟩
def CNT_STATUS_LOADED : Field := ⟨0x40150004, 4, 1⟩
/-- CNT_INC (R358): [5:0] INDEX, WO; a write requests an increment, checked under R334; [31:6] reserved. -/
def CNT_INC : Field := ⟨0x40150008, 0, 32⟩
def CNT_INC_INDEX : Field := ⟨0x40150008, 0, 6⟩
/-- CNT_INC_RESULT (R358): Result of the writing master's last increment. -/
def CNT_INC_RESULT : Field := ⟨0x4015000C, 0, 32⟩
def CNT_INC_RESULT_STATUS : Field := ⟨0x4015000C, 0, 8⟩
def CNT_INC_RESULT_INDEX : Field := ⟨0x4015000C, 8, 6⟩
def CNT_INC_RESULT_DONE : Field := ⟨0x4015000C, 14, 1⟩
def CNT_INC_RESULT_BUSY : Field := ⟨0x4015000C, 15, 1⟩
/-- CNT_AT_LIMIT_LO (R358): Bit n: counter n at its limit, counters 0 to 31; RO. -/
def CNT_AT_LIMIT_LO : Field := ⟨0x40150010, 0, 32⟩
/-- CNT_AT_LIMIT_HI (R358): Counters 32 to 63; RO. -/
def CNT_AT_LIMIT_HI : Field := ⟨0x40150014, 0, 32⟩
/-- CNT_n_LO (R358): Counter n, bits [31:0]; RO. -/
def CNT_VAL_LO (i : Nat) : Field := ⟨0x40150100 + 0x8 * i, 0, 32⟩
/-- CNT_n_HI (R358): Counter n, bits [47:32] in [15:0]; RO. -/
def CNT_VAL_HI (i : Nat) : Field := ⟨0x40150104 + 0x8 * i, 0, 32⟩
/-- HFR_CTRL (R388): Enable, lock. -/
def HFR_CTRL : Field := ⟨0x400D0000, 0, 32⟩
def HFR_CTRL_EN : Field := ⟨0x400D0000, 0, 1⟩
def HFR_CTRL_LOCK : Field := ⟨0x400D0000, 1, 1⟩
/-- HFR_STATUS (R388): State, field, port, notices. -/
def HFR_STATUS : Field := ⟨0x400D0004, 0, 32⟩
def HFR_STATUS_STATE : Field := ⟨0x400D0004, 0, 3⟩
def HFR_STATUS_FIELD : Field := ⟨0x400D0004, 3, 1⟩
def HFR_STATUS_PORT : Field := ⟨0x400D0004, 4, 1⟩
def HFR_STATUS_EXT_FIELD : Field := ⟨0x400D0004, 5, 1⟩
def HFR_STATUS_DEG_NO_HFR : Field := ⟨0x400D0004, 6, 1⟩
def HFR_STATUS_OC : Field := ⟨0x400D0004, 7, 1⟩
def HFR_STATUS_FLOW : Field := ⟨0x400D0004, 8, 1⟩
/-- HFR_PORTp_CFG (R388): Drive, Type B modulation, receive gain of port p. -/
def HFR_PORT_CFG (i : Nat) : Field := ⟨0x400D0008 + 0x4 * i, 0, 32⟩
def HFR_PORT_CFG_DRIVE (i : Nat) : Field := ⟨0x400D0008 + 0x4 * i, 0, 6⟩
def HFR_PORT_CFG_MOD_B (i : Nat) : Field := ⟨0x400D0008 + 0x4 * i, 8, 6⟩
def HFR_PORT_CFG_RX_GAIN (i : Nat) : Field := ⟨0x400D0008 + 0x4 * i, 16, 3⟩
/-- HFR_TAP_CFG (R388): Frame delay limit, external field check, automatic key flow. -/
def HFR_TAP_CFG : Field := ⟨0x400D0010, 0, 32⟩
def HFR_TAP_CFG_TAP_FDT_MAX_MS : Field := ⟨0x400D0010, 0, 8⟩
def HFR_TAP_CFG_EXT_CHECK_US : Field := ⟨0x400D0010, 8, 14⟩
def HFR_TAP_CFG_AUTO_KEY : Field := ⟨0x400D0010, 24, 1⟩
/-- HFR_PING_CFG (R388): Ping enables, period, drive, confirmation. -/
def HFR_PING_CFG : Field := ⟨0x400D0020, 0, 32⟩
def HFR_PING_CFG_EN0 : Field := ⟨0x400D0020, 0, 1⟩
def HFR_PING_CFG_EN1 : Field := ⟨0x400D0020, 1, 1⟩
def HFR_PING_CFG_CONFIRM : Field := ⟨0x400D0020, 2, 2⟩
def HFR_PING_CFG_PERIOD_MS : Field := ⟨0x400D0020, 8, 10⟩
def HFR_PING_CFG_PING_DRIVE : Field := ⟨0x400D0020, 24, 6⟩
/-- HFR_PING_THR (R388): Detection thresholds. -/
def HFR_PING_THR : Field := ⟨0x400D0024, 0, 32⟩
def HFR_PING_THR_AMP_THR : Field := ⟨0x400D0024, 0, 10⟩
def HFR_PING_THR_PH_THR : Field := ⟨0x400D0024, 16, 12⟩
/-- HFR_PINGp_BASE (R388): Baseline of port p. -/
def HFR_PING_BASE (i : Nat) : Field := ⟨0x400D0030 + 0x10 * i, 0, 32⟩
def HFR_PING_BASE_AMP (i : Nat) : Field := ⟨0x400D0030 + 0x10 * i, 0, 16⟩
def HFR_PING_BASE_PHASE (i : Nat) : Field := ⟨0x400D0030 + 0x10 * i, 16, 12⟩
def HFR_PING_BASE_VALID (i : Nat) : Field := ⟨0x400D0030 + 0x10 * i, 28, 1⟩
/-- HFR_PINGp_MEAS (R388): Last ping of port p. -/
def HFR_PING_MEAS (i : Nat) : Field := ⟨0x400D0034 + 0x10 * i, 0, 32⟩
def HFR_PING_MEAS_AMP (i : Nat) : Field := ⟨0x400D0034 + 0x10 * i, 0, 16⟩
def HFR_PING_MEAS_PHASE (i : Nat) : Field := ⟨0x400D0034 + 0x10 * i, 16, 12⟩
def HFR_PING_MEAS_DET (i : Nat) : Field := ⟨0x400D0034 + 0x10 * i, 28, 1⟩
/-- HFR_PINGp_STATUS (R388): Detection notices of port p. -/
def HFR_PING_STATUS (i : Nat) : Field := ⟨0x400D0038 + 0x10 * i, 0, 32⟩
def HFR_PING_STATUS_DETECTED (i : Nat) : Field := ⟨0x400D0038 + 0x10 * i, 0, 1⟩
def HFR_PING_STATUS_RUN (i : Nat) : Field := ⟨0x400D0038 + 0x10 * i, 1, 3⟩
/-- HFR_PINGS (R388): Pings made. -/
def HFR_PINGS : Field := ⟨0x400D0060, 0, 32⟩
/-- HFR_PING_SKIP (R388): Pings skipped. -/
def HFR_PING_SKIP : Field := ⟨0x400D0064, 0, 32⟩
/-- HFR_DETECTS (R388): HFR_DETECT events. -/
def HFR_DETECTS : Field := ⟨0x400D0068, 0, 32⟩
/-- HFR_EXT_FIELD (R388): External fields found (R369). -/
def HFR_EXT_FIELD : Field := ⟨0x400D006C, 0, 32⟩
/-- VLT_CTRL (R428): Enable, lock, host writes. -/
def VLT_CTRL : Field := ⟨0x400E0000, 0, 32⟩
def VLT_CTRL_EN : Field := ⟨0x400E0000, 0, 1⟩
def VLT_CTRL_LOCK : Field := ⟨0x400E0000, 1, 1⟩
def VLT_CTRL_HOST_WR : Field := ⟨0x400E0000, 2, 1⟩
/-- VLT_STATUS (R428): Unit, supply and protocol state, notices. -/
def VLT_STATUS : Field := ⟨0x400E0004, 0, 32⟩
def VLT_STATUS_STATE : Field := ⟨0x400E0004, 0, 3⟩
def VLT_STATUS_VPWR : Field := ⟨0x400E0004, 3, 2⟩
def VLT_STATUS_TAG_STATE : Field := ⟨0x400E0004, 5, 2⟩
def VLT_STATUS_SESSION : Field := ⟨0x400E0004, 7, 1⟩
def VLT_STATUS_FD : Field := ⟨0x400E0004, 8, 1⟩
def VLT_STATUS_OWN_FIELD : Field := ⟨0x400E0004, 9, 1⟩
def VLT_STATUS_RECOVERED : Field := ⟨0x400E0004, 10, 1⟩
def VLT_STATUS_STREAM : Field := ⟨0x400E0004, 11, 1⟩
/-- VLT_PWR_CFG (R428): Reserve, charger. -/
def VLT_PWR_CFG : Field := ⟨0x400E0008, 0, 32⟩
def VLT_PWR_CFG_CRES_UF : Field := ⟨0x400E0008, 0, 9⟩
def VLT_PWR_CFG_CHG_MA : Field := ⟨0x400E0008, 12, 4⟩
def VLT_PWR_CFG_CHG_EN : Field := ⟨0x400E0008, 16, 1⟩
/-- VLT_PWR_STATUS (R428): [12:0] VH in mV; [28:16] VRSTORE in mV; RO. -/
def VLT_PWR_STATUS : Field := ⟨0x400E000C, 0, 32⟩
def VLT_PWR_STATUS_VH : Field := ⟨0x400E000C, 0, 13⟩
def VLT_PWR_STATUS_VRSTORE : Field := ⟨0x400E000C, 16, 13⟩
/-- VLT_FD_CFG (R428): Field detect. -/
def VLT_FD_CFG : Field := ⟨0x400E0010, 0, 32⟩
def VLT_FD_CFG_FD_HOLD_MS : Field := ⟨0x400E0010, 0, 8⟩
def VLT_FD_CFG_FD_EN : Field := ⟨0x400E0010, 8, 1⟩
/-- VLT_REL_STATUS (R428): Release arm and parameters; RO. -/
def VLT_REL_STATUS : Field := ⟨0x400E0014, 0, 32⟩
def VLT_REL_STATUS_ARMED : Field := ⟨0x400E0014, 0, 1⟩
def VLT_REL_STATUS_PULSE_10MS : Field := ⟨0x400E0014, 8, 5⟩
def VLT_REL_STATUS_REL_VMIN : Field := ⟨0x400E0014, 16, 6⟩
/-- VLT_LAST_TSEQ (R428): LAST_TSEQ; RO. -/
def VLT_LAST_TSEQ : Field := ⟨0x400E0018, 0, 32⟩
/-- VLT_LAST_TIME (R428): LAST_TIME; RO. -/
def VLT_LAST_TIME : Field := ⟨0x400E001C, 0, 32⟩
/-- VLT_BUSY_CNT (R428): VAULT_BUSY endings. -/
def VLT_BUSY_CNT : Field := ⟨0x400E0030, 0, 32⟩
/-- VLT_WRITES (R428): Wired page writes committed. -/
def VLT_WRITES : Field := ⟨0x400E0034, 0, 32⟩
/-- VLT_INTEG_FAILS (R428): INTEGRITY endings. -/
def VLT_INTEG_FAILS : Field := ⟨0x400E0038, 0, 32⟩
/-- QM_CTRL (R456): Enable, lock. -/
def QM_CTRL : Field := ⟨0x400F0000, 0, 32⟩
def QM_CTRL_EN : Field := ⟨0x400F0000, 0, 1⟩
def QM_CTRL_LOCK : Field := ⟨0x400F0000, 1, 1⟩
/-- QM_STATUS (R456): State, open items, bound pops. -/
def QM_STATUS : Field := ⟨0x400F0004, 0, 32⟩
def QM_STATUS_STATE : Field := ⟨0x400F0004, 0, 3⟩
def QM_STATUS_OPEN : Field := ⟨0x400F0004, 8, 8⟩
def QM_STATUS_BOUND : Field := ⟨0x400F0004, 16, 8⟩
/-- QM_FREE (R456): [13:0] free allocatable cells; RO. -/
def QM_FREE : Field := ⟨0x400F0008, 0, 32⟩
/-- QM_ECC_TOTAL (R456): Corrected single-bit errors. -/
def QM_ECC_TOTAL : Field := ⟨0x400F000C, 0, 32⟩
/-- QM_ECC_UNCORR (R456): Double-bit errors. -/
def QM_ECC_UNCORR : Field := ⟨0x400F0010, 0, 32⟩
/-- QM_POOL_EMPTY (R456): Begins refused for lack of cells. -/
def QM_POOL_EMPTY : Field := ⟨0x400F0014, 0, 32⟩
/-- QM_WM_SUM0 to QM_WM_SUM3 (R456): Bit per queue: HWF or LWF set, queue 0 in bit 0 of QM_WM_SUM0; RO. -/
def QM_WM_SUM (i : Nat) : Field := ⟨0x400F0020 + 0x4 * i, 0, 32⟩
/-- QM_NE_SUM0 to QM_NE_SUM3 (R456): Bit per queue: holds an item; RO. -/
def QM_NE_SUM (i : Nat) : Field := ⟨0x400F0030 + 0x4 * i, 0, 32⟩
/-- QM_PUSHp_BEGIN (R456): Begin an item; WO. -/
def QM_PUSH_BEGIN (i : Nat) : Field := ⟨0x400F0100 + 0x10 * i, 0, 32⟩
def QM_PUSH_BEGIN_QUEUE (i : Nat) : Field := ⟨0x400F0100 + 0x10 * i, 0, 7⟩
def QM_PUSH_BEGIN_LEN_B (i : Nat) : Field := ⟨0x400F0100 + 0x10 * i, 8, 13⟩
/-- QM_PUSHp_DATA (R456): Item data; WO. -/
def QM_PUSH_DATA (i : Nat) : Field := ⟨0x400F0104 + 0x10 * i, 0, 32⟩
/-- QM_PUSHp_STATUS (R456): Port status. -/
def QM_PUSH_STATUS (i : Nat) : Field := ⟨0x400F0108 + 0x10 * i, 0, 32⟩
def QM_PUSH_STATUS_STATUS (i : Nat) : Field := ⟨0x400F0108 + 0x10 * i, 0, 8⟩
def QM_PUSH_STATUS_OPEN (i : Nat) : Field := ⟨0x400F0108 + 0x10 * i, 8, 1⟩
def QM_PUSH_STATUS_BYTES (i : Nat) : Field := ⟨0x400F0108 + 0x10 * i, 16, 13⟩
/-- QM_POPc_SEL (R456): [6:0] queue; pops its head; WO. -/
def QM_POP_SEL (i : Nat) : Field := ⟨0x400F0200 + 0x10 * i, 0, 32⟩
/-- QM_POPc_INFO (R456): Bound item. -/
def QM_POP_INFO (i : Nat) : Field := ⟨0x400F0204 + 0x10 * i, 0, 32⟩
def QM_POP_INFO_STATUS (i : Nat) : Field := ⟨0x400F0204 + 0x10 * i, 0, 8⟩
def QM_POP_INFO_LEN_B (i : Nat) : Field := ⟨0x400F0204 + 0x10 * i, 8, 13⟩
def QM_POP_INFO_SRC (i : Nat) : Field := ⟨0x400F0204 + 0x10 * i, 24, 8⟩
/-- QM_POPc_DATA (R456): Item data; RO. -/
def QM_POP_DATA (i : Nat) : Field := ⟨0x400F0208 + 0x10 * i, 0, 32⟩
/-- QM_POPc_DONE (R456): [0] release; WO. -/
def QM_POP_DONE (i : Nat) : Field := ⟨0x400F020C + 0x10 * i, 0, 32⟩
/-- QM_Qn_CFG (R456): Enable, rights, packing, notices. -/
def QM_Q_CFG (i : Nat) : Field := ⟨0x400F1000 + 0x20 * i, 0, 32⟩
def QM_Q_CFG_EN (i : Nat) : Field := ⟨0x400F1000 + 0x20 * i, 0, 1⟩
def QM_Q_CFG_HOST_POP (i : Nat) : Field := ⟨0x400F1000 + 0x20 * i, 1, 1⟩
def QM_Q_CFG_HOST_PUSH (i : Nat) : Field := ⟨0x400F1000 + 0x20 * i, 2, 1⟩
def QM_Q_CFG_PACK (i : Nat) : Field := ⟨0x400F1000 + 0x20 * i, 3, 1⟩
def QM_Q_CFG_IRQ_NE (i : Nat) : Field := ⟨0x400F1000 + 0x20 * i, 4, 1⟩
def QM_Q_CFG_IRQ_WM (i : Nat) : Field := ⟨0x400F1000 + 0x20 * i, 5, 1⟩
def QM_Q_CFG_EVT_WM (i : Nat) : Field := ⟨0x400F1000 + 0x20 * i, 6, 1⟩
/-- QM_Qn_LIMITS (R456): Quota, cut-through. -/
def QM_Q_LIMITS (i : Nat) : Field := ⟨0x400F1004 + 0x20 * i, 0, 32⟩
def QM_Q_LIMITS_QUOTA (i : Nat) : Field := ⟨0x400F1004 + 0x20 * i, 0, 14⟩
def QM_Q_LIMITS_CT_THR (i : Nat) : Field := ⟨0x400F1004 + 0x20 * i, 16, 7⟩
/-- QM_Qn_WM (R456): Watermarks. -/
def QM_Q_WM (i : Nat) : Field := ⟨0x400F1008 + 0x20 * i, 0, 32⟩
def QM_Q_WM_HIGH (i : Nat) : Field := ⟨0x400F1008 + 0x20 * i, 0, 14⟩
def QM_Q_WM_LOW (i : Nat) : Field := ⟨0x400F1008 + 0x20 * i, 16, 14⟩
/-- QM_Qn_LEVEL (R456): Level and items; RO. -/
def QM_Q_LEVEL (i : Nat) : Field := ⟨0x400F100C + 0x20 * i, 0, 32⟩
def QM_Q_LEVEL_LEVEL (i : Nat) : Field := ⟨0x400F100C + 0x20 * i, 0, 14⟩
def QM_Q_LEVEL_ITEMS (i : Nat) : Field := ⟨0x400F100C + 0x20 * i, 16, 15⟩
/-- QM_Qn_STATUS (R456): Flags. -/
def QM_Q_STATUS (i : Nat) : Field := ⟨0x400F1010 + 0x20 * i, 0, 32⟩
def QM_Q_STATUS_HWF (i : Nat) : Field := ⟨0x400F1010 + 0x20 * i, 0, 1⟩
def QM_Q_STATUS_LWF (i : Nat) : Field := ⟨0x400F1010 + 0x20 * i, 1, 1⟩
def QM_Q_STATUS_OPEN (i : Nat) : Field := ⟨0x400F1010 + 0x20 * i, 2, 1⟩
def QM_Q_STATUS_ABOVE (i : Nat) : Field := ⟨0x400F1010 + 0x20 * i, 3, 1⟩
def QM_Q_STATUS_OVF (i : Nat) : Field := ⟨0x400F1010 + 0x20 * i, 4, 1⟩
/-- QM_Qn_XCNT (R456): Crossing counters. -/
def QM_Q_XCNT (i : Nat) : Field := ⟨0x400F1014 + 0x20 * i, 0, 32⟩
def QM_Q_XCNT_HCROSS (i : Nat) : Field := ⟨0x400F1014 + 0x20 * i, 0, 16⟩
def QM_Q_XCNT_LCROSS (i : Nat) : Field := ⟨0x400F1014 + 0x20 * i, 16, 16⟩
/-- QM_Qn_ECC (R456): [15:0] corrected errors, RC, saturating at 0xFFFF. -/
def QM_Q_ECC (i : Nat) : Field := ⟨0x400F1018 + 0x20 * i, 0, 32⟩
/-- QM_Qn_DROPS (R456): Begins refused and items lost. -/
def QM_Q_DROPS (i : Nat) : Field := ⟨0x400F101C + 0x20 * i, 0, 32⟩
/-- HIF_CTRL (R503): Sideband enable, lock. -/
def HIF_CTRL : Field := ⟨0x40100000, 0, 32⟩
def HIF_CTRL_SIDE_EN : Field := ⟨0x40100000, 0, 1⟩
def HIF_CTRL_LOCK : Field := ⟨0x40100000, 1, 1⟩
/-- HIF_STATUS (R503): Port states. -/
def HIF_STATUS : Field := ⟨0x40100004, 0, 32⟩
def HIF_STATUS_SPI_FLAGS : Field := ⟨0x40100004, 0, 7⟩
def HIF_STATUS_SIDE_FLAGS : Field := ⟨0x40100004, 8, 7⟩
def HIF_STATUS_CMDQ_LEVEL : Field := ⟨0x40100004, 16, 14⟩
/-- HIF_IRQ_EN (R503): Interrupt enables, bit layout as HIF_IRQ_STATUS; RW; reset 0x3C. -/
def HIF_IRQ_EN : Field := ⟨0x40100008, 0, 32⟩
/-- HIF_IRQ_STATUS (R503): Interrupt sources. -/
def HIF_IRQ_STATUS : Field := ⟨0x4010000C, 0, 32⟩
def HIF_IRQ_STATUS_REPLY : Field := ⟨0x4010000C, 0, 1⟩
def HIF_IRQ_STATUS_SIDE_REPLY : Field := ⟨0x4010000C, 1, 1⟩
def HIF_IRQ_STATUS_QM : Field := ⟨0x4010000C, 2, 1⟩
def HIF_IRQ_STATUS_FAULT : Field := ⟨0x4010000C, 3, 1⟩
def HIF_IRQ_STATUS_FW_READY : Field := ⟨0x4010000C, 4, 1⟩
def HIF_IRQ_STATUS_WAKE : Field := ⟨0x4010000C, 5, 1⟩
def HIF_IRQ_STATUS_REJECT : Field := ⟨0x4010000C, 6, 1⟩
/-- HIF_SIDE_CFG (R503): Sideband address. -/
def HIF_SIDE_CFG : Field := ⟨0x40100010, 0, 32⟩
def HIF_SIDE_CFG_SIDE_ADDR : Field := ⟨0x40100010, 0, 7⟩
/-- HIF_CMD_TO (R503): [13:0] CMD_TO_MS, RWL, reset 2000, 10 to 10,000. -/
def HIF_CMD_TO : Field := ⟨0x40100014, 0, 32⟩
def HIF_CMD_TO_CMD_TO_MS : Field := ⟨0x40100014, 0, 14⟩
/-- HIF_SPI_REQS (R503): SPI requests accepted. -/
def HIF_SPI_REQS : Field := ⟨0x40100020, 0, 32⟩
/-- HIF_SPI_ERRS (R503): SPI transactions ignored or discarded, and BAD_CRC and BAD_LENGTH replies. -/
def HIF_SPI_ERRS : Field := ⟨0x40100024, 0, 32⟩
/-- HIF_SIDE_REQS (R503): Sideband requests accepted. -/
def HIF_SIDE_REQS : Field := ⟨0x40100028, 0, 32⟩
/-- HIF_SIDE_ERRS (R503): As HIF_SPI_ERRS, for the sideband port. -/
def HIF_SIDE_ERRS : Field := ⟨0x4010002C, 0, 32⟩
/-- HIF_REPLY_LOST (R503): Replies discarded (R471, R474). -/
def HIF_REPLY_LOST : Field := ⟨0x40100030, 0, 32⟩
/-- HIF_TIMEOUTS (R503): TIMEOUT replies under R474. -/
def HIF_TIMEOUTS : Field := ⟨0x40100034, 0, 32⟩
/-- HIF_XSPI_STATUS (R503): Flash state. -/
def HIF_XSPI_STATUS : Field := ⟨0x40100100, 0, 32⟩
def HIF_XSPI_STATUS_MODE : Field := ⟨0x40100100, 0, 2⟩
def HIF_XSPI_STATUS_BUSY : Field := ⟨0x40100100, 2, 1⟩
def HIF_XSPI_STATUS_SUSPENDED : Field := ⟨0x40100100, 3, 1⟩
def HIF_XSPI_STATUS_LATENCY : Field := ⟨0x40100100, 8, 6⟩
def HIF_XSPI_STATUS_DENSITY : Field := ⟨0x40100100, 16, 8⟩
/-- HIF_XSPI_ID (R503): Manufacturer and device identification bytes 0 to 3; RO. -/
def HIF_XSPI_ID : Field := ⟨0x40100104, 0, 32⟩
/-- HIF_XSPI_SUSP (R503): [15:0] longest suspend latency measured, 0.1 µs; RC. -/
def HIF_XSPI_SUSP : Field := ⟨0x40100108, 0, 32⟩
/-- ACC_CTRL (R505): [0] LOCK_ALL, RWL, reset 0; [31:1] reserved. -/
def ACC_CTRL : Field := ⟨0x40130000, 0, 32⟩
def ACC_CTRL_LOCK_ALL : Field := ⟨0x40130000, 0, 1⟩
/-- ACC_FAULT_ADDR (R505): Address of the last denied or undecoded access; RO. -/
def ACC_FAULT_ADDR : Field := ⟨0x40130004, 0, 32⟩
/-- ACC_FAULT_INFO (R505): Master, kind, target of that access; RO. -/
def ACC_FAULT_INFO : Field := ⟨0x40130008, 0, 32⟩
def ACC_FAULT_INFO_MASTER : Field := ⟨0x40130008, 0, 3⟩
def ACC_FAULT_INFO_WRITE : Field := ⟨0x40130008, 3, 1⟩
def ACC_FAULT_INFO_KIND : Field := ⟨0x40130008, 4, 1⟩
def ACC_FAULT_INFO_TARGET : Field := ⟨0x40130008, 8, 5⟩
/-- ACC_DENIES (R505): Accesses denied; RC, saturating. -/
def ACC_DENIES : Field := ⟨0x4013000C, 0, 32⟩
/-- ACC_Tt_CTRL (R505): [0] LOCK, RWL, reset 0; [31:1] reserved. -/
def ACC_T_CTRL (i : Nat) : Field := ⟨0x40131000 + 0x200 * i, 0, 32⟩
def ACC_T_CTRL_LOCK (i : Nat) : Field := ⟨0x40131000 + 0x200 * i, 0, 1⟩
/-- ACC_Tt_DEFAULT (R505): Default rights, layout as RIGHTS, bit 31 reserved. -/
def ACC_T_DEFAULT (i : Nat) : Field := ⟨0x40131004 + 0x200 * i, 0, 32⟩
/-- ACC_Tt_Rr_START (R505): First offset of the region. -/
def ACC_R_START (i j : Nat) : Field := ⟨0x40131100 + 0x200 * i + 0x10 * j, 0, 32⟩
def ACC_R_START_OFFSET (i j : Nat) : Field := ⟨0x40131100 + 0x200 * i + 0x10 * j, 2, 24⟩
/-- ACC_Tt_Rr_END (R505): Last offset of the region, inclusive. -/
def ACC_R_END (i j : Nat) : Field := ⟨0x40131104 + 0x200 * i + 0x10 * j, 0, 32⟩
def ACC_R_END_OFFSET (i j : Nat) : Field := ⟨0x40131104 + 0x200 * i + 0x10 * j, 2, 24⟩
/-- ACC_Tt_Rr_RIGHTS (R505): Rights and validity. -/
def ACC_R_RIGHTS (i j : Nat) : Field := ⟨0x40131108 + 0x200 * i + 0x10 * j, 0, 32⟩
def ACC_R_RIGHTS_RIGHTS (i j : Nat) : Field := ⟨0x40131108 + 0x200 * i + 0x10 * j, 0, 21⟩
def ACC_R_RIGHTS_VALID (i j : Nat) : Field := ⟨0x40131108 + 0x200 * i + 0x10 * j, 31, 1⟩
/-- PWR_CTRL (R535): Firmware consent, lock. -/
def PWR_CTRL : Field := ⟨0x40010000, 0, 32⟩
def PWR_CTRL_FW_DEEP_OK : Field := ⟨0x40010000, 0, 1⟩
def PWR_CTRL_LOCK : Field := ⟨0x40010000, 1, 1⟩
/-- PWR_STATUS (R535): State, entry step, DVFS, modes. -/
def PWR_STATUS : Field := ⟨0x40010004, 0, 32⟩
def PWR_STATUS_STATE : Field := ⟨0x40010004, 0, 3⟩
def PWR_STATUS_ENTRY : Field := ⟨0x40010004, 3, 2⟩
def PWR_STATUS_LEVEL : Field := ⟨0x40010004, 5, 2⟩
def PWR_STATUS_DVFS_BUSY : Field := ⟨0x40010004, 7, 1⟩
def PWR_STATUS_REDUCED : Field := ⟨0x40010004, 8, 1⟩
def PWR_STATUS_RET_MODE : Field := ⟨0x40010004, 9, 1⟩
def PWR_STATUS_PADS_HELD : Field := ⟨0x40010004, 10, 1⟩
/-- PWR_POLICY (R535): [3:0] ALLOW, bit k for P(k + 1), RW, reset 0x3; [31:4] reserved. -/
def PWR_POLICY : Field := ⟨0x40010008, 0, 32⟩
def PWR_POLICY_ALLOW : Field := ⟨0x40010008, 0, 4⟩
/-- PWR_IDLE0 (R535): Idle timers of P1 and P2. -/
def PWR_IDLE0 : Field := ⟨0x4001000C, 0, 32⟩
def PWR_IDLE0_IDLE_P1_US : Field := ⟨0x4001000C, 0, 16⟩
def PWR_IDLE0_IDLE_P2_MS : Field := ⟨0x4001000C, 16, 16⟩
/-- PWR_IDLE1 (R535): Idle timers of P3 and P4. -/
def PWR_IDLE1 : Field := ⟨0x40010010, 0, 32⟩
def PWR_IDLE1_IDLE_P3_MS : Field := ⟨0x40010010, 0, 16⟩
def PWR_IDLE1_IDLE_P4_S : Field := ⟨0x40010010, 16, 16⟩
/-- PWR_WAKE_EN (R535): Bit n enables source code n, for n from 1 to 11; bits 0, 3 and [31:12] reserved; RW; reset 0x0000_0046. -/
def PWR_WAKE_EN : Field := ⟨0x40010014, 0, 32⟩
/-- PWR_WAKE_CFG (R535): WAKE mode, classes, senses. -/
def PWR_WAKE_CFG : Field := ⟨0x40010018, 0, 32⟩
def PWR_WAKE_CFG_WAKE_MODE : Field := ⟨0x40010018, 0, 2⟩
def PWR_WAKE_CFG_WAKE_POL : Field := ⟨0x40010018, 2, 1⟩
def PWR_WAKE_CFG_DOOR_LVL : Field := ⟨0x40010018, 4, 4⟩
def PWR_WAKE_CFG_HANDLE_LVL : Field := ⟨0x40010018, 8, 5⟩
def PWR_WAKE_CFG_HANDLE_POL : Field := ⟨0x40010018, 16, 5⟩
/-- PWR_WAKE_PEND (R535): Latched level sources, bit per code; W1C. -/
def PWR_WAKE_PEND : Field := ⟨0x4001001C, 0, 32⟩
/-- PWR_LAST_WAKE (R535): Last wake record. -/
def PWR_LAST_WAKE : Field := ⟨0x40010020, 0, 32⟩
def PWR_LAST_WAKE_SOURCE : Field := ⟨0x40010020, 0, 8⟩
def PWR_LAST_WAKE_DETAIL : Field := ⟨0x40010020, 8, 8⟩
def PWR_LAST_WAKE_LEFT : Field := ⟨0x40010020, 16, 3⟩
/-- PWR_WAKE_TIMER (R535): Low-power cycles to fire; RW; reads the remaining count. -/
def PWR_WAKE_TIMER : Field := ⟨0x40010024, 0, 32⟩
/-- PWR_WAKE_FAIL (R535): Wake failures. -/
def PWR_WAKE_FAIL : Field := ⟨0x40010028, 0, 32⟩
def PWR_WAKE_FAIL_FAIL_COUNT : Field := ⟨0x40010028, 0, 2⟩
def PWR_WAKE_FAIL_LAST_CAUSE : Field := ⟨0x40010028, 2, 2⟩
def PWR_WAKE_FAIL_LOCKOUT_SEEN : Field := ⟨0x40010028, 4, 1⟩
def PWR_WAKE_FAIL_TOTAL : Field := ⟨0x40010028, 8, 8⟩
/-- PWR_LAST_ABORT (R535): Last aborted entry. -/
def PWR_LAST_ABORT : Field := ⟨0x4001002C, 0, 32⟩
def PWR_LAST_ABORT_SOURCE : Field := ⟨0x4001002C, 0, 8⟩
def PWR_LAST_ABORT_BLOCK : Field := ⟨0x4001002C, 8, 8⟩
def PWR_LAST_ABORT_TARGET : Field := ⟨0x4001002C, 16, 3⟩
/-- PWR_DVFS_CFG (R535): [7:0] SETTLE_US, RWL, reset 50, 10 to 255; [31:8] reserved. -/
def PWR_DVFS_CFG : Field := ⟨0x40010030, 0, 32⟩
def PWR_DVFS_CFG_SETTLE_US : Field := ⟨0x40010030, 0, 8⟩
/-- PWR_BUDGET (R535): Budget and use. -/
def PWR_BUDGET : Field := ⟨0x40010034, 0, 32⟩
def PWR_BUDGET_BUDGET_MW : Field := ⟨0x40010034, 0, 12⟩
def PWR_BUDGET_USED_MW : Field := ⟨0x40010034, 16, 12⟩
/-- PWR_BUDGET_STAT (R535): [11:0] PEAK_MW, RC; [31:16] REFUSALS, RC. -/
def PWR_BUDGET_STAT : Field := ⟨0x40010038, 0, 32⟩
def PWR_BUDGET_STAT_PEAK_MW : Field := ⟨0x40010038, 0, 12⟩
def PWR_BUDGET_STAT_REFUSALS : Field := ⟨0x40010038, 16, 16⟩
/-- PWR_RET_CFG (R535): Retention banks, firmware save area. -/
def PWR_RET_CFG : Field := ⟨0x4001003C, 0, 32⟩
def PWR_RET_CFG_RETAIN_MASK : Field := ⟨0x4001003C, 0, 8⟩
def PWR_RET_CFG_FWSAVE_BASE : Field := ⟨0x4001003C, 8, 7⟩
def PWR_RET_CFG_FWSAVE_LEN : Field := ⟨0x4001003C, 16, 5⟩
/-- PWR_CMD (R535): [2:0] ENTER, WO: 2 to 4 start an entry as PWR_ENTER; [31:3] reserved. -/
def PWR_CMD : Field := ⟨0x40010040, 0, 32⟩
def PWR_CMD_ENTER : Field := ⟨0x40010040, 0, 3⟩
/-- PWR_PAD_HELD (R535): [9:0] groups held (R523); RO. -/
def PWR_PAD_HELD : Field := ⟨0x40010044, 0, 32⟩
/-- PWR_REFUSEb (R535): Block b, 0x00 to 0x16: [15:0] REFUSE, [31:16] ABORT; RC, saturating at 0xFFFF. -/
def PWR_REFUSE (i : Nat) : Field := ⟨0x40010100 + 0x4 * i, 0, 32⟩
def PWR_REFUSE_REFUSE (i : Nat) : Field := ⟨0x40010100 + 0x4 * i, 0, 16⟩
def PWR_REFUSE_ABORT (i : Nat) : Field := ⟨0x40010100 + 0x4 * i, 16, 16⟩
/-- PWR_RESIDs (R535): Milliseconds in P0 to P4, s from 0 to 4; RO. -/
def PWR_RESID (i : Nat) : Field := ⟨0x40010200 + 0x4 * i, 0, 32⟩
/-- PWR_ENTRIESs (R535): Entries into P1 to P4, s from 1 to 4; RO. -/
def PWR_ENTRIES (i : Nat) : Field := ⟨0x40010220 + 0x4 * i, 0, 32⟩
/-- FLT_CTRL (R566): Lock, nFAULT policy. -/
def FLT_CTRL : Field := ⟨0x40110000, 0, 32⟩
def FLT_CTRL_LOCK : Field := ⟨0x40110000, 0, 1⟩
def FLT_CTRL_NF_SEVERE : Field := ⟨0x40110000, 1, 1⟩
/-- FLT_STAT (R566): Highest severity, safe state, notice. -/
def FLT_STAT : Field := ⟨0x40110004, 0, 32⟩
def FLT_STAT_HIGHEST : Field := ⟨0x40110004, 0, 3⟩
def FLT_STAT_SAFE : Field := ⟨0x40110004, 3, 1⟩
def FLT_STAT_FATAL : Field := ⟨0x40110004, 4, 1⟩
def FLT_STAT_NFAULT : Field := ⟨0x40110004, 5, 1⟩
def FLT_STAT_NOTE : Field := ⟨0x40110004, 6, 1⟩
def FLT_STAT_TEST : Field := ⟨0x40110004, 7, 1⟩
/-- FLT_FENCED (R566): Bit b: block b fenced; RO. -/
def FLT_FENCED : Field := ⟨0x40110008, 0, 32⟩
/-- FLT_DEG (R566): [5:0] modes in force, [13:8] modes forced; RO. -/
def FLT_DEG : Field := ⟨0x4011000C, 0, 32⟩
def FLT_DEG_MODES : Field := ⟨0x4011000C, 0, 6⟩
def FLT_DEG_FORCED : Field := ⟨0x4011000C, 8, 6⟩
/-- FLT_SAFE_FID (R566): [15:0] FID that entered the safe state, 0xFFFF none; RO. -/
def FLT_SAFE_FID : Field := ⟨0x40110010, 0, 32⟩
/-- FLT_LAST (R566): [15:0] last FID, [16] consequential, [17] injected; RO. -/
def FLT_LAST : Field := ⟨0x40110014, 0, 32⟩
def FLT_LAST_FID : Field := ⟨0x40110014, 0, 16⟩
def FLT_LAST_CONSEQ : Field := ⟨0x40110014, 16, 1⟩
def FLT_LAST_INJ : Field := ⟨0x40110014, 17, 1⟩
/-- FLT_EVENTS (R566): Events taken. -/
def FLT_EVENTS : Field := ⟨0x40110018, 0, 32⟩
/-- FLT_CONSEQ (R566): Consequential events. -/
def FLT_CONSEQ : Field := ⟨0x4011001C, 0, 32⟩
/-- FLT_INJ_EVENTS (R566): Injected events. -/
def FLT_INJ_EVENTS : Field := ⟨0x40110020, 0, 32⟩
/-- FLT_LATCHED (R566): [15:0] sources SEVERE or FATAL; RO. -/
def FLT_LATCHED : Field := ⟨0x40110024, 0, 32⟩
/-- FLT_Sx_CFG (R566): Count, window, severe reaction. -/
def FLT_S_CFG (i : Nat) : Field := ⟨0x40111000 + 0x10 * i, 0, 32⟩
def FLT_S_CFG_N (i : Nat) : Field := ⟨0x40111000 + 0x10 * i, 0, 5⟩
def FLT_S_CFG_W (i : Nat) : Field := ⟨0x40111000 + 0x10 * i, 8, 16⟩
def FLT_S_CFG_W_UNIT (i : Nat) : Field := ⟨0x40111000 + 0x10 * i, 24, 2⟩
def FLT_S_CFG_SEV_REACT (i : Nat) : Field := ⟨0x40111000 + 0x10 * i, 28, 3⟩
/-- FLT_Sx_CFG2 (R566): Mode, base severity and reaction. -/
def FLT_S_CFG2 (i : Nat) : Field := ⟨0x40111004 + 0x10 * i, 0, 32⟩
def FLT_S_CFG2_DEG_MODE (i : Nat) : Field := ⟨0x40111004 + 0x10 * i, 0, 3⟩
def FLT_S_CFG2_BASE_SEV (i : Nat) : Field := ⟨0x40111004 + 0x10 * i, 4, 1⟩
def FLT_S_CFG2_NOTIFY (i : Nat) : Field := ⟨0x40111004 + 0x10 * i, 5, 1⟩
def FLT_S_CFG2_FIXED (i : Nat) : Field := ⟨0x40111004 + 0x10 * i, 6, 1⟩
def FLT_S_CFG2_UNIT (i : Nat) : Field := ⟨0x40111004 + 0x10 * i, 7, 1⟩
/-- FLT_Sx_STATUS (R566): Latch, window count, total. -/
def FLT_S_STATUS (i : Nat) : Field := ⟨0x40111008 + 0x10 * i, 0, 32⟩
def FLT_S_STATUS_STATE (i : Nat) : Field := ⟨0x40111008 + 0x10 * i, 0, 2⟩
def FLT_S_STATUS_SHADOWED (i : Nat) : Field := ⟨0x40111008 + 0x10 * i, 2, 1⟩
def FLT_S_STATUS_WCOUNT (i : Nat) : Field := ⟨0x40111008 + 0x10 * i, 8, 5⟩
def FLT_S_STATUS_TOTAL (i : Nat) : Field := ⟨0x40111008 + 0x10 * i, 16, 16⟩
/-- FLT_Sx_TIME (R566): Reference time bits [63:32] of the last event; RO. -/
def FLT_S_TIME (i : Nat) : Field := ⟨0x4011100C + 0x10 * i, 0, 32⟩
/-- BBX_STATUS (R568): Scan, erase, write position. -/
def BBX_STATUS : Field := ⟨0x40120000, 0, 32⟩
def BBX_STATUS_READY : Field := ⟨0x40120000, 0, 1⟩
def BBX_STATUS_ERASING : Field := ⟨0x40120000, 1, 1⟩
def BBX_STATUS_HALF : Field := ⟨0x40120000, 2, 1⟩
def BBX_STATUS_SLOT : Field := ⟨0x40120000, 4, 10⟩
def BBX_STATUS_BUF : Field := ⟨0x40120000, 16, 7⟩
/-- BBX_GEN (R568): GEN of the current half; RO. -/
def BBX_GEN : Field := ⟨0x40120004, 0, 32⟩
/-- BBX_TOKENS (R568): [8:0] tokens, 0 to 256; RO. -/
def BBX_TOKENS : Field := ⟨0x40120008, 0, 32⟩
/-- BBX_ERASE_A (R568): ERASES of half A; RO. -/
def BBX_ERASE_A : Field := ⟨0x4012000C, 0, 32⟩
/-- BBX_ERASE_B (R568): ERASES of half B; RO. -/
def BBX_ERASE_B : Field := ⟨0x40120010, 0, 32⟩
/-- BBX_WRITTEN (R568): Records written. -/
def BBX_WRITTEN : Field := ⟨0x40120014, 0, 32⟩
/-- BBX_SUPPRESSED (R568): Records refused under R562. -/
def BBX_SUPPRESSED : Field := ⟨0x40120018, 0, 32⟩
/-- BBX_LOST (R568): Records lost under R560. -/
def BBX_LOST : Field := ⟨0x4012001C, 0, 32⟩
/-- BBX_BADCRC (R568): [15:0] records failing their CRC at the last scan; RO. -/
def BBX_BADCRC : Field := ⟨0x40120020, 0, 32⟩
/-- BBX_UNMETERED (R568): Protected records written without a token (R562). -/
def BBX_UNMETERED : Field := ⟨0x40120024, 0, 32⟩
/-- SYS_UPD_CFG (R600): Apply timeout, switch wait. -/
def SYS_UPD_CFG : Field := ⟨0x40000100, 0, 32⟩
def SYS_UPD_CFG_APPLY_TO_MS : Field := ⟨0x40000100, 0, 10⟩
def SYS_UPD_CFG_SWITCH_WAIT_MS : Field := ⟨0x40000100, 16, 10⟩
/-- SYS_CFG_STATUS (R600): Apply state, epoch in force. -/
def SYS_CFG_STATUS : Field := ⟨0x40000104, 0, 32⟩
def SYS_CFG_STATUS_CSTATE : Field := ⟨0x40000104, 0, 2⟩
def SYS_CFG_STATUS_DEFAULTS : Field := ⟨0x40000104, 2, 1⟩
def SYS_CFG_STATUS_COMMITTED : Field := ⟨0x40000104, 3, 1⟩
def SYS_CFG_STATUS_EPOCH : Field := ⟨0x40000104, 16, 16⟩
/-- SYS_CFG_PEND (R600): Bit b: block b not yet switched or reverted; RO. -/
def SYS_CFG_PEND : Field := ⟨0x40000108, 0, 32⟩
/-- SYS_CFG_STAGED (R600): [15:0] staged EPOCH; [28:16] LENGTH; RO. -/
def SYS_CFG_STAGED : Field := ⟨0x4000010C, 0, 32⟩
def SYS_CFG_STAGED_EPOCH : Field := ⟨0x4000010C, 0, 16⟩
def SYS_CFG_STAGED_LENGTH : Field := ⟨0x4000010C, 16, 13⟩
/-- SYS_FW_STATUS (R600): Slots and switch. -/
def SYS_FW_STATUS : Field := ⟨0x40000110, 0, 32⟩
def SYS_FW_STATUS_SLOT : Field := ⟨0x40000110, 0, 1⟩
def SYS_FW_STATUS_TRIAL : Field := ⟨0x40000110, 1, 1⟩
def SYS_FW_STATUS_VERIFIED_A : Field := ⟨0x40000110, 2, 1⟩
def SYS_FW_STATUS_VERIFIED_B : Field := ⟨0x40000110, 3, 1⟩
def SYS_FW_STATUS_SWITCH : Field := ⟨0x40000110, 4, 3⟩
def SYS_FW_STATUS_RECOVERY : Field := ⟨0x40000110, 7, 1⟩
def SYS_FW_STATUS_TRIAL_S : Field := ⟨0x40000110, 8, 8⟩
/-- SYS_FW_VERSION (R600): FW_VERSION running; RO. -/
def SYS_FW_VERSION : Field := ⟨0x40000114, 0, 32⟩
/-- SYS_FW_SECVER (R600): Counter 46, bits [31:0]; RO. -/
def SYS_FW_SECVER : Field := ⟨0x40000118, 0, 32⟩
/-- WLK_CTRL (R602): Enable, lock, index. -/
def WLK_CTRL : Field := ⟨0x40140000, 0, 32⟩
def WLK_CTRL_EN : Field := ⟨0x40140000, 0, 1⟩
def WLK_CTRL_LOCK : Field := ⟨0x40140000, 1, 1⟩
def WLK_CTRL_INDEX : Field := ⟨0x40140000, 2, 2⟩
/-- WLK_STATUS (R602): State, role, lock. -/
def WLK_STATUS : Field := ⟨0x40140004, 0, 32⟩
def WLK_STATUS_STATE : Field := ⟨0x40140004, 0, 3⟩
def WLK_STATUS_ROLE : Field := ⟨0x40140004, 3, 2⟩
def WLK_STATUS_LOCKED : Field := ⟨0x40140004, 5, 1⟩
def WLK_STATUS_PRESENT : Field := ⟨0x40140004, 8, 4⟩
/-- WLK_QCFG (R602): Destination queues. -/
def WLK_QCFG : Field := ⟨0x40140008, 0, 32⟩
def WLK_QCFG_Q_FRAME : Field := ⟨0x40140008, 0, 7⟩
def WLK_QCFG_Q_EVENT : Field := ⟨0x40140008, 8, 7⟩
/-- WLK_DELAYw (R602): Delay of worker w. -/
def WLK_DELAY (i : Nat) : Field := ⟨0x40140010 + 0x4 * i, 0, 32⟩
def WLK_DELAY_DELAY (i : Nat) : Field := ⟨0x40140010 + 0x4 * i, 0, 12⟩
def WLK_DELAY_SPREAD (i : Nat) : Field := ⟨0x40140010 + 0x4 * i, 16, 8⟩
def WLK_DELAY_VALID (i : Nat) : Field := ⟨0x40140010 + 0x4 * i, 31, 1⟩
/-- WLK_TX_FRAMES (R602): Frames sent. -/
def WLK_TX_FRAMES : Field := ⟨0x40140020, 0, 32⟩
/-- WLK_RX_FRAMES (R602): Frames received. -/
def WLK_RX_FRAMES : Field := ⟨0x40140024, 0, 32⟩
/-- WLK_CRC_ERRS (R602): Frames failing CRC. -/
def WLK_CRC_ERRS : Field := ⟨0x40140028, 0, 32⟩
/-- PAD_CTRL (R631): [0] LOCK, RWL, reset 0; [31:1] reserved. -/
def PAD_CTRL : Field := ⟨0x40160000, 0, 32⟩
def PAD_CTRL_LOCK : Field := ⟨0x40160000, 0, 1⟩
/-- PAD_IN (R631): Synchronised input levels; RO. -/
def PAD_IN : Field := ⟨0x40160004, 0, 32⟩
def PAD_IN_GPIO : Field := ⟨0x40160004, 0, 16⟩
def PAD_IN_DOOR : Field := ⟨0x40160004, 16, 4⟩
def PAD_IN_HANDLE : Field := ⟨0x40160004, 20, 5⟩
def PAD_IN_WAKE : Field := ⟨0x40160004, 25, 1⟩
def PAD_IN_REF_SYNC : Field := ⟨0x40160004, 26, 1⟩
def PAD_IN_FB_A : Field := ⟨0x40160004, 27, 1⟩
def PAD_IN_FB_B : Field := ⟨0x40160004, 28, 1⟩
def PAD_IN_PG : Field := ⟨0x40160004, 29, 1⟩
def PAD_IN_ROLE : Field := ⟨0x40160004, 30, 2⟩
/-- PAD_GPIO_OUT (R631): [15:0] output levels; RW; reset 0. -/
def PAD_GPIO_OUT : Field := ⟨0x40160008, 0, 32⟩
/-- PAD_GPIO_SET (R631): [15:0] writing 1 sets the bit of PAD_GPIO_OUT; WO. -/
def PAD_GPIO_SET : Field := ⟨0x4016000C, 0, 32⟩
/-- PAD_GPIO_CLR (R631): [15:0] writing 1 clears the bit; WO. -/
def PAD_GPIO_CLR : Field := ⟨0x40160010, 0, 32⟩
/-- PAD_GPIO_OE (R631): [15:0] 1 enables the output; RWL; reset 0. -/
def PAD_GPIO_OE : Field := ⟨0x40160014, 0, 32⟩
/-- PAD_GPIOn_CFG (R631): GPIO n, 0 to 15. -/
def PAD_GPIO_CFG (i : Nat) : Field := ⟨0x40160100 + 0x4 * i, 0, 32⟩
def PAD_GPIO_CFG_PULL (i : Nat) : Field := ⟨0x40160100 + 0x4 * i, 0, 2⟩
def PAD_GPIO_CFG_OD (i : Nat) : Field := ⟨0x40160100 + 0x4 * i, 2, 1⟩
def PAD_GPIO_CFG_DRIVE (i : Nat) : Field := ⟨0x40160100 + 0x4 * i, 3, 1⟩
def PAD_GPIO_CFG_FILT (i : Nat) : Field := ⟨0x40160100 + 0x4 * i, 4, 2⟩

def rowsSys0 : List RegRow := [
  ⟨0x100, 1, 0x0, 1, 0x0, [⟨0, 10, .rw, 50, 5, 1000⟩, ⟨16, 10, .rw, 500, 10, 1000⟩]⟩,
  ⟨0x104, 1, 0x0, 1, 0x0, [⟨0, 2, .ro, 0, 0, 3⟩, ⟨2, 1, .ro, 0, 0, 1⟩, ⟨3, 1, .ro, 0, 0, 1⟩, ⟨16, 16, .ro, 0, 0, 65535⟩]⟩,
  ⟨0x108, 1, 0x0, 1, 0x0, [⟨0, 23, .ro, 0, 0, 8388607⟩]⟩,
  ⟨0x10C, 1, 0x0, 1, 0x0, [⟨0, 16, .ro, 0, 0, 65535⟩, ⟨16, 13, .ro, 0, 0, 8191⟩]⟩,
  ⟨0x110, 1, 0x0, 1, 0x0, [⟨0, 1, .ro, 0, 0, 1⟩, ⟨1, 1, .ro, 0, 0, 1⟩, ⟨2, 1, .ro, 0, 0, 1⟩, ⟨3, 1, .ro, 0, 0, 1⟩, ⟨4, 3, .ro, 0, 0, 7⟩, ⟨7, 1, .ro, 0, 0, 1⟩, ⟨8, 8, .ro, 0, 0, 255⟩]⟩,
  ⟨0x114, 1, 0x0, 1, 0x0, [⟨0, 32, .ro, 0, 0, 4294967295⟩]⟩,
  ⟨0x118, 1, 0x0, 1, 0x0, [⟨0, 32, .ro, 0, 0, 4294967295⟩]⟩]

/-- The register rows of block 0x00 SYS. -/
def rowsSys : List RegRow := rowsSys0

def rowsPwr0 : List RegRow := [
  ⟨0x0, 1, 0x0, 1, 0x0, [⟨0, 1, .rw, 0, 0, 1⟩, ⟨1, 1, .rwl, 0, 0, 1⟩]⟩,
  ⟨0x4, 1, 0x0, 1, 0x0, [⟨0, 3, .ro, 0, 0, 7⟩, ⟨3, 2, .ro, 0, 0, 3⟩, ⟨5, 2, .ro, 1, 0, 3⟩, ⟨7, 1, .ro, 0, 0, 1⟩, ⟨8, 1, .ro, 0, 0, 1⟩, ⟨9, 1, .ro, 0, 0, 1⟩, ⟨10, 1, .ro, 0, 0, 1⟩]⟩,
  ⟨0x8, 1, 0x0, 1, 0x0, [⟨0, 4, .rw, 3, 0, 15⟩]⟩,
  ⟨0xC, 1, 0x0, 1, 0x0, [⟨0, 16, .rw, 10, 0, 65535⟩, ⟨16, 16, .rw, 5, 0, 65535⟩]⟩,
  ⟨0x10, 1, 0x0, 1, 0x0, [⟨0, 16, .rw, 100, 0, 65535⟩, ⟨16, 16, .rw, 0, 0, 65535⟩]⟩,
  ⟨0x14, 1, 0x0, 1, 0x0, [⟨0, 32, .rw, 70, 0, 4294967295⟩]⟩,
  ⟨0x18, 1, 0x0, 1, 0x0, [⟨0, 2, .rwl, 0, 0, 3⟩, ⟨2, 1, .rwl, 0, 0, 1⟩, ⟨4, 4, .rwl, 15, 0, 15⟩, ⟨8, 5, .rwl, 31, 0, 31⟩, ⟨16, 5, .rwl, 0, 0, 31⟩]⟩,
  ⟨0x1C, 1, 0x0, 1, 0x0, [⟨0, 13, .w1c, 0, 0, 8191⟩]⟩,
  ⟨0x20, 1, 0x0, 1, 0x0, [⟨0, 8, .ro, 0, 0, 255⟩, ⟨8, 8, .ro, 0, 0, 255⟩, ⟨16, 3, .ro, 0, 0, 7⟩]⟩,
  ⟨0x24, 1, 0x0, 1, 0x0, [⟨0, 32, .rw, 0, 0, 4294967295⟩]⟩,
  ⟨0x28, 1, 0x0, 1, 0x0, [⟨0, 2, .ro, 0, 0, 3⟩, ⟨2, 2, .ro, 0, 0, 3⟩, ⟨4, 1, .w1c, 0, 0, 1⟩, ⟨8, 8, .ro, 0, 0, 255⟩]⟩,
  ⟨0x2C, 1, 0x0, 1, 0x0, [⟨0, 8, .ro, 255, 0, 255⟩, ⟨8, 8, .ro, 255, 0, 255⟩, ⟨16, 3, .ro, 0, 0, 7⟩]⟩]

def rowsPwr1 : List RegRow := [
  ⟨0x30, 1, 0x0, 1, 0x0, [⟨0, 8, .rwl, 50, 10, 255⟩]⟩,
  ⟨0x34, 1, 0x0, 1, 0x0, [⟨0, 12, .rwl, 2000, 1000, 2000⟩, ⟨16, 12, .ro, 120, 0, 4095⟩]⟩,
  ⟨0x38, 1, 0x0, 1, 0x0, [⟨0, 12, .rc, 0, 0, 4095⟩, ⟨16, 16, .rc, 0, 0, 65535⟩]⟩,
  ⟨0x3C, 1, 0x0, 1, 0x0, [⟨0, 8, .rw, 0, 0, 255⟩, ⟨8, 7, .rw, 0, 0, 87⟩, ⟨16, 5, .rw, 0, 0, 24⟩]⟩,
  ⟨0x40, 1, 0x0, 1, 0x0, [⟨0, 3, .wo, 0, 0, 7⟩]⟩,
  ⟨0x44, 1, 0x0, 1, 0x0, [⟨0, 10, .ro, 0, 0, 1023⟩]⟩,
  ⟨0x100, 23, 0x4, 1, 0x0, [⟨0, 16, .rc, 0, 0, 65535⟩, ⟨16, 16, .rc, 0, 0, 65535⟩]⟩,
  ⟨0x200, 5, 0x4, 1, 0x0, [⟨0, 32, .ro, 0, 0, 4294967295⟩]⟩,
  ⟨0x224, 4, 0x4, 1, 0x0, [⟨0, 32, .ro, 0, 0, 4294967295⟩]⟩]

/-- The register rows of block 0x01 PWR. -/
def rowsPwr : List RegRow := rowsPwr0 ++ rowsPwr1

def rowsTime0 : List RegRow := [
  ⟨0x0, 1, 0x0, 1, 0x0, [⟨0, 1, .rw, 0, 0, 1⟩, ⟨1, 1, .rw, 0, 0, 1⟩, ⟨2, 1, .rw, 1, 0, 1⟩, ⟨8, 8, .rw, 3, 0, 255⟩]⟩,
  ⟨0x4, 1, 0x0, 1, 0x0, [⟨0, 2, .ro, 0, 0, 3⟩, ⟨2, 4, .ro, 0, 0, 15⟩, ⟨6, 1, .ro, 0, 0, 1⟩, ⟨8, 8, .rc, 0, 0, 255⟩, ⟨16, 1, .w1c, 0, 0, 1⟩, ⟨17, 1, .w1c, 0, 0, 1⟩]⟩,
  ⟨0x8, 1, 0x0, 1, 0x0, [⟨0, 32, .ro, 0, 0, 4294967295⟩]⟩,
  ⟨0xC, 1, 0x0, 1, 0x0, [⟨0, 32, .ro, 0, 0, 4294967295⟩]⟩,
  ⟨0x10, 1, 0x0, 1, 0x0, [⟨0, 32, .ro, 0, 0, 4294967295⟩]⟩,
  ⟨0x14, 1, 0x0, 1, 0x0, [⟨0, 32, .ro, 0, 0, 4294967295⟩]⟩,
  ⟨0x18, 1, 0x0, 1, 0x0, [⟨0, 20, .rw, 1000000, 1000, 1000000⟩]⟩,
  ⟨0x1C, 1, 0x0, 1, 0x0, [⟨0, 16, .rw, 100, 1, 65535⟩, ⟨16, 8, .rw, 100, 1, 255⟩, ⟨24, 8, .rw, 5, 1, 255⟩]⟩,
  ⟨0x20, 1, 0x0, 1, 0x0, [⟨0, 32, .ro, 0, 0, 4294967295⟩]⟩,
  ⟨0x24, 1, 0x0, 1, 0x0, [⟨0, 32, .ro, 0, 0, 4294967295⟩]⟩,
  ⟨0x28, 1, 0x0, 1, 0x0, [⟨0, 32, .ro, 0, 0, 4294967295⟩]⟩,
  ⟨0x2C, 1, 0x0, 1, 0x0, [⟨0, 16, .rw, 0, 0, 65535⟩]⟩]

def rowsTime1 : List RegRow := [
  ⟨0x30, 1, 0x0, 1, 0x0, [⟨0, 16, .rw, 0, 0, 65535⟩]⟩,
  ⟨0x34, 1, 0x0, 1, 0x0, [⟨0, 32, .ro, 0, 0, 4294967295⟩]⟩,
  ⟨0x38, 1, 0x0, 1, 0x0, [⟨0, 16, .ro, 0, 0, 65535⟩]⟩,
  ⟨0x3C, 1, 0x0, 1, 0x0, [⟨0, 32, .ro, 312500000, 0, 4294967295⟩]⟩,
  ⟨0x40, 1, 0x0, 1, 0x0, [⟨0, 32, .ro, 312500000, 0, 4294967295⟩]⟩,
  ⟨0x44, 1, 0x0, 1, 0x0, [⟨0, 8, .rw, 5, 1, 255⟩, ⟨8, 8, .rw, 50, 1, 255⟩]⟩,
  ⟨0x48, 1, 0x0, 1, 0x0, [⟨0, 32, .ro, 0, 0, 4294967295⟩]⟩,
  ⟨0x4C, 1, 0x0, 1, 0x0, [⟨0, 32, .ro, 0, 0, 4294967295⟩]⟩,
  ⟨0x50, 1, 0x0, 1, 0x0, [⟨0, 16, .rw, 3000, 2600, 20000⟩, ⟨16, 16, .rw, 10000, 8600, 65535⟩]⟩,
  ⟨0x54, 1, 0x0, 1, 0x0, [⟨0, 32, .rc, 0, 0, 4294967295⟩]⟩,
  ⟨0x58, 1, 0x0, 1, 0x0, [⟨0, 32, .rc, 0, 0, 4294967295⟩]⟩,
  ⟨0x400, 64, 0x20, 8, 0x4, [⟨0, 32, .ro, 0, 0, 4294967295⟩]⟩]

/-- The register rows of block 0x02 TIME. -/
def rowsTime : List RegRow := rowsTime0 ++ rowsTime1

def rowsTmr0 : List RegRow := [
  ⟨0x0, 16, 0x40, 1, 0x0, [⟨0, 1, .rw, 0, 0, 1⟩, ⟨1, 2, .rw, 0, 0, 3⟩, ⟨3, 3, .rw, 0, 0, 7⟩, ⟨6, 1, .rw, 0, 0, 1⟩, ⟨7, 1, .rw, 0, 0, 1⟩, ⟨8, 2, .rw, 0, 0, 3⟩, ⟨10, 1, .rw, 0, 0, 1⟩]⟩,
  ⟨0x4, 16, 0x40, 1, 0x0, [⟨0, 6, .rw, 41, 0, 63⟩, ⟨6, 2, .rw, 0, 0, 3⟩, ⟨8, 6, .rw, 41, 0, 63⟩, ⟨14, 2, .rw, 0, 0, 3⟩, ⟨16, 1, .rw, 0, 0, 1⟩]⟩,
  ⟨0x8, 16, 0x40, 1, 0x0, [⟨0, 16, .rw, 0, 0, 65535⟩]⟩,
  ⟨0xC, 16, 0x40, 1, 0x0, [⟨0, 32, .rw, 4294967295, 0, 4294967295⟩]⟩,
  ⟨0x10, 16, 0x40, 1, 0x0, [⟨0, 32, .rw, 0, 0, 4294967295⟩]⟩,
  ⟨0x14, 16, 0x40, 1, 0x0, [⟨0, 32, .rw, 0, 0, 4294967295⟩]⟩,
  ⟨0x18, 16, 0x40, 1, 0x0, [⟨0, 32, .ro, 0, 0, 4294967295⟩]⟩,
  ⟨0x1C, 16, 0x40, 1, 0x0, [⟨0, 1, .w1c, 0, 0, 1⟩, ⟨1, 1, .w1c, 0, 0, 1⟩, ⟨2, 1, .ro, 0, 0, 1⟩, ⟨3, 1, .w1c, 0, 0, 1⟩, ⟨4, 1, .ro, 0, 0, 1⟩]⟩,
  ⟨0x400, 1, 0x0, 1, 0x0, [⟨0, 16, .wo, 0, 0, 65535⟩]⟩]

/-- The register rows of block 0x03 TMR. -/
def rowsTmr : List RegRow := rowsTmr0

def rowsLf0 : List RegRow := [
  ⟨0x0, 1, 0x0, 1, 0x0, [⟨0, 1, .rw, 0, 0, 1⟩, ⟨1, 1, .rwl, 0, 0, 1⟩]⟩,
  ⟨0x4, 1, 0x0, 1, 0x0, [⟨0, 3, .ro, 0, 0, 7⟩, ⟨3, 1, .ro, 0, 0, 1⟩, ⟨4, 1, .ro, 0, 0, 1⟩, ⟨5, 1, .ro, 0, 0, 1⟩, ⟨6, 1, .ro, 0, 0, 1⟩, ⟨8, 12, .ro, 0, 0, 4095⟩]⟩,
  ⟨0x8, 1, 0x0, 1, 0x0, [⟨0, 18, .rwl, 125000, 20000, 140000⟩]⟩,
  ⟨0xC, 1, 0x0, 1, 0x0, [⟨0, 16, .rwl, 0, 0, 65535⟩, ⟨16, 10, .rwl, 625, 125, 1000⟩]⟩,
  ⟨0x10, 1, 0x0, 1, 0x0, [⟨0, 5, .rw, 0, 0, 31⟩, ⟨8, 5, .rw, 0, 0, 31⟩, ⟨13, 1, .rw, 0, 0, 1⟩, ⟨16, 5, .rw, 0, 0, 16⟩]⟩,
  ⟨0x14, 1, 0x0, 1, 0x0, [⟨0, 3, .ro, 0, 0, 7⟩, ⟨16, 16, .ro, 0, 0, 65535⟩]⟩,
  ⟨0x20, 1, 0x0, 1, 0x0, [⟨0, 11, .rw, 250, 100, 2000⟩, ⟨11, 5, .rw, 0, 0, 31⟩, ⟨16, 4, .rw, 0, 0, 15⟩, ⟨20, 5, .rw, 0, 0, 31⟩, ⟨25, 6, .rw, 14, 1, 63⟩]⟩,
  ⟨0x24, 1, 0x0, 1, 0x0, [⟨0, 8, .rw, 8, 0, 255⟩, ⟨8, 8, .rw, 12, 1, 255⟩, ⟨16, 13, .rw, 2000, 0, 8000⟩]⟩,
  ⟨0x28, 1, 0x0, 1, 0x0, [⟨0, 16, .rw, 200, 100, 5000⟩, ⟨16, 16, .rw, 2000, 500, 10000⟩]⟩,
  ⟨0x2C, 1, 0x0, 1, 0x0, [⟨0, 4, .ro, 0, 0, 15⟩, ⟨4, 13, .ro, 0, 0, 8191⟩, ⟨17, 1, .ro, 0, 0, 1⟩, ⟨18, 1, .w1c, 0, 0, 1⟩, ⟨19, 6, .ro, 0, 0, 63⟩]⟩,
  ⟨0x30, 4, 0x4, 1, 0x0, [⟨0, 32, .rw, 0, 0, 4294967295⟩]⟩,
  ⟨0x40, 1, 0x0, 1, 0x0, [⟨0, 32, .rc, 0, 0, 4294967295⟩]⟩]

def rowsLf1 : List RegRow := [
  ⟨0x44, 1, 0x0, 1, 0x0, [⟨0, 32, .rc, 0, 0, 4294967295⟩]⟩,
  ⟨0x48, 1, 0x0, 1, 0x0, [⟨0, 32, .rc, 0, 0, 4294967295⟩]⟩,
  ⟨0x4C, 1, 0x0, 1, 0x0, [⟨0, 1, .wo, 0, 0, 1⟩, ⟨1, 1, .wo, 0, 0, 1⟩]⟩,
  ⟨0x50, 4, 0x4, 1, 0x0, [⟨0, 32, .wo, 0, 0, 4294967295⟩]⟩,
  ⟨0x100, 12, 0x20, 1, 0x0, [⟨0, 1, .rw, 0, 0, 1⟩, ⟨1, 4, .rw, 4, 0, 15⟩, ⟨5, 8, .rw, 0, 0, 255⟩]⟩,
  ⟨0x104, 4, 0x20, 1, 0x0, [⟨0, 16, .rwl, 5500, 100, 5500⟩, ⟨16, 16, .rwl, 100, 10, 1000⟩]⟩,
  ⟨0x184, 8, 0x20, 1, 0x0, [⟨0, 16, .rwl, 900, 20, 900⟩]⟩,
  ⟨0x108, 12, 0x20, 1, 0x0, [⟨0, 3, .ro, 0, 0, 7⟩, ⟨3, 1, .ro, 0, 0, 1⟩, ⟨4, 1, .w1c, 0, 0, 1⟩, ⟨5, 1, .w1c, 0, 0, 1⟩, ⟨6, 1, .w1c, 0, 0, 1⟩, ⟨7, 1, .w1c, 0, 0, 1⟩, ⟨8, 1, .w1c, 0, 0, 1⟩, ⟨9, 1, .w1c, 0, 0, 1⟩, ⟨10, 1, .w1c, 0, 0, 1⟩, ⟨11, 1, .ro, 0, 0, 1⟩]⟩,
  ⟨0x10C, 12, 0x20, 1, 0x0, [⟨0, 16, .ro, 0, 0, 65535⟩, ⟨16, 8, .ro, 0, 0, 255⟩]⟩,
  ⟨0x110, 12, 0x20, 1, 0x0, [⟨0, 18, .ro, 0, 0, 262143⟩, ⟨18, 10, .ro, 0, 0, 1023⟩]⟩,
  ⟨0x800, 32, 0x10, 4, 0x4, [⟨0, 32, .ro, 0, 0, 4294967295⟩]⟩]

/-- The register rows of block 0x04 LF. -/
def rowsLf : List RegRow := rowsLf0 ++ rowsLf1

def rowsUrx0 : List RegRow := [
  ⟨0x0, 1, 0x0, 1, 0x0, [⟨0, 1, .rw, 0, 0, 1⟩, ⟨1, 1, .rwl, 0, 0, 1⟩, ⟨2, 1, .rw, 1, 0, 1⟩]⟩,
  ⟨0x4, 1, 0x0, 1, 0x0, [⟨0, 12, .ro, 0, 0, 4095⟩, ⟨12, 1, .ro, 0, 0, 1⟩, ⟨13, 1, .ro, 0, 0, 1⟩, ⟨14, 1, .ro, 0, 0, 1⟩, ⟨15, 1, .ro, 0, 0, 1⟩, ⟨16, 1, .ro, 0, 0, 1⟩, ⟨17, 4, .ro, 0, 0, 15⟩, ⟨21, 2, .ro, 0, 0, 3⟩]⟩,
  ⟨0x8, 1, 0x0, 1, 0x0, [⟨0, 8, .rwl, 72, 0, 255⟩, ⟨8, 8, .rwl, 248, 0, 255⟩, ⟨16, 8, .rwl, 0, 0, 255⟩]⟩,
  ⟨0xC, 1, 0x0, 1, 0x0, [⟨0, 8, .rwl, 60, 20, 120⟩, ⟨8, 8, .rwl, 20, 1, 255⟩, ⟨16, 1, .rwl, 1, 0, 1⟩]⟩,
  ⟨0x10, 1, 0x0, 1, 0x0, [⟨0, 4, .w1c, 0, 0, 15⟩, ⟨4, 1, .w1c, 0, 0, 1⟩]⟩,
  ⟨0x14, 1, 0x0, 1, 0x0, [⟨0, 1, .rw, 0, 0, 1⟩, ⟨1, 1, .rw, 0, 0, 1⟩, ⟨8, 8, .rw, 80, 20, 120⟩, ⟨16, 4, .rw, 4, 1, 15⟩]⟩,
  ⟨0x18, 1, 0x0, 1, 0x0, [⟨0, 30, .rw, 0, 0, 1073741823⟩]⟩,
  ⟨0x1C, 1, 0x0, 1, 0x0, [⟨0, 16, .ro, 0, 0, 65535⟩, ⟨16, 4, .ro, 0, 0, 15⟩]⟩,
  ⟨0x20, 1, 0x0, 1, 0x0, [⟨0, 32, .rc, 0, 0, 4294967295⟩]⟩,
  ⟨0x24, 1, 0x0, 1, 0x0, [⟨0, 32, .rc, 0, 0, 4294967295⟩]⟩,
  ⟨0x28, 1, 0x0, 1, 0x0, [⟨0, 2, .ro, 0, 0, 3⟩, ⟨16, 16, .ro, 0, 0, 65535⟩]⟩,
  ⟨0x2C, 1, 0x0, 1, 0x0, [⟨0, 32, .rc, 0, 0, 4294967295⟩]⟩]

def rowsUrx1 : List RegRow := [
  ⟨0x100, 4, 0x10, 1, 0x0, [⟨0, 30, .rw, 0, 0, 1073741823⟩]⟩,
  ⟨0x104, 4, 0x10, 1, 0x0, [⟨0, 1, .rw, 0, 0, 1⟩, ⟨1, 2, .rw, 0, 0, 3⟩]⟩,
  ⟨0x108, 4, 0x10, 1, 0x0, [⟨0, 16, .ro, 0, 0, 65535⟩]⟩,
  ⟨0x1000, 64, 0x40, 1, 0x0, [⟨0, 1, .rw, 0, 0, 1⟩, ⟨1, 2, .rw, 0, 0, 3⟩, ⟨3, 3, .rw, 0, 0, 7⟩, ⟨6, 2, .rw, 0, 0, 3⟩, ⟨8, 2, .rw, 0, 0, 3⟩, ⟨10, 2, .rw, 0, 0, 3⟩, ⟨12, 1, .rw, 0, 0, 1⟩, ⟨16, 7, .rw, 0, 0, 127⟩]⟩,
  ⟨0x1004, 64, 0x40, 1, 0x0, [⟨0, 24, .rw, 0, 0, 16777215⟩]⟩,
  ⟨0x1008, 64, 0x40, 1, 0x0, [⟨0, 17, .rw, 0, 0, 131071⟩]⟩,
  ⟨0x100C, 64, 0x40, 1, 0x0, [⟨0, 18, .rw, 0, 0, 262143⟩]⟩,
  ⟨0x1010, 64, 0x40, 1, 0x0, [⟨0, 32, .rw, 0, 0, 4294967295⟩]⟩,
  ⟨0x1014, 64, 0x40, 1, 0x0, [⟨0, 6, .rw, 32, 0, 63⟩, ⟨6, 2, .rw, 0, 0, 3⟩, ⟨8, 6, .rw, 16, 0, 63⟩, ⟨16, 8, .rw, 1, 0, 255⟩]⟩,
  ⟨0x1018, 64, 0x40, 1, 0x0, [⟨0, 1, .ro, 0, 0, 1⟩, ⟨16, 16, .ro, 32768, 0, 65535⟩]⟩,
  ⟨0x101C, 64, 0x40, 1, 0x0, [⟨0, 32, .rc, 0, 0, 4294967295⟩]⟩,
  ⟨0x1020, 64, 0x40, 1, 0x0, [⟨0, 32, .rc, 0, 0, 4294967295⟩]⟩]

def rowsUrx2 : List RegRow := [
  ⟨0x1024, 64, 0x40, 1, 0x0, [⟨0, 32, .rc, 0, 0, 4294967295⟩]⟩]

/-- The register rows of block 0x05 URX. -/
def rowsUrx : List RegRow := rowsUrx0 ++ rowsUrx1 ++ rowsUrx2

def rowsUtx0 : List RegRow := [
  ⟨0x0, 1, 0x0, 1, 0x0, [⟨0, 1, .rw, 0, 0, 1⟩, ⟨1, 1, .rwl, 0, 0, 1⟩, ⟨2, 1, .rwl, 0, 0, 1⟩]⟩,
  ⟨0x4, 1, 0x0, 1, 0x0, [⟨0, 3, .ro, 0, 0, 7⟩, ⟨3, 1, .ro, 0, 0, 1⟩, ⟨4, 1, .ro, 0, 0, 1⟩, ⟨5, 1, .ro, 0, 0, 1⟩, ⟨6, 1, .ro, 0, 0, 1⟩, ⟨7, 4, .ro, 0, 0, 15⟩]⟩,
  ⟨0x8, 1, 0x0, 1, 0x0, [⟨0, 8, .ro, 0, 0, 255⟩, ⟨8, 8, .ro, 0, 0, 255⟩, ⟨16, 4, .ro, 0, 0, 15⟩, ⟨20, 1, .ro, 0, 0, 1⟩, ⟨21, 1, .ro, 0, 0, 1⟩]⟩,
  ⟨0xC, 1, 0x0, 1, 0x0, [⟨0, 8, .rwl, 60, 0, 255⟩, ⟨8, 8, .rwl, 55, 0, 255⟩, ⟨16, 8, .rwl, 50, 41, 255⟩]⟩,
  ⟨0x10, 1, 0x0, 1, 0x0, [⟨0, 8, .rwl, 20, 20, 50⟩, ⟨8, 8, .rwl, 30, 0, 255⟩, ⟨16, 8, .rwl, 40, 0, 50⟩]⟩,
  ⟨0x14, 1, 0x0, 1, 0x0, [⟨0, 1, .rwl, 0, 0, 1⟩, ⟨1, 1, .rwl, 0, 0, 1⟩, ⟨2, 1, .rwl, 0, 0, 1⟩, ⟨3, 1, .rwl, 0, 0, 1⟩, ⟨4, 1, .rwl, 0, 0, 1⟩]⟩,
  ⟨0x18, 1, 0x0, 1, 0x0, [⟨0, 1, .rwl, 0, 0, 1⟩, ⟨1, 1, .rwl, 1, 0, 1⟩, ⟨2, 1, .rwl, 1, 0, 1⟩, ⟨3, 1, .rwl, 0, 0, 1⟩, ⟨8, 8, .rwl, 20, 1, 255⟩]⟩,
  ⟨0x1C, 1, 0x0, 1, 0x0, [⟨0, 1, .ro, 0, 0, 1⟩, ⟨1, 1, .w1c, 0, 0, 1⟩, ⟨2, 1, .w1c, 0, 0, 1⟩]⟩,
  ⟨0x20, 1, 0x0, 1, 0x0, [⟨0, 1, .rw, 1, 0, 1⟩, ⟨1, 1, .rw, 1, 0, 1⟩, ⟨8, 8, .rw, 24, 1, 255⟩, ⟨16, 8, .rw, 10, 5, 30⟩]⟩,
  ⟨0x24, 1, 0x0, 1, 0x0, [⟨0, 5, .ro, 0, 0, 31⟩, ⟨5, 5, .ro, 0, 0, 31⟩, ⟨10, 3, .ro, 0, 0, 7⟩, ⟨13, 7, .ro, 0, 0, 127⟩, ⟨24, 8, .ro, 0, 0, 255⟩]⟩,
  ⟨0x28, 1, 0x0, 1, 0x0, [⟨0, 32, .rc, 0, 0, 4294967295⟩]⟩,
  ⟨0x2C, 1, 0x0, 1, 0x0, [⟨0, 32, .rc, 0, 0, 4294967295⟩]⟩]

def rowsUtx1 : List RegRow := [
  ⟨0x30, 1, 0x0, 1, 0x0, [⟨0, 32, .rc, 0, 0, 4294967295⟩]⟩,
  ⟨0x34, 1, 0x0, 1, 0x0, [⟨0, 32, .rc, 0, 0, 4294967295⟩]⟩,
  ⟨0x38, 1, 0x0, 1, 0x0, [⟨0, 32, .rc, 0, 0, 4294967295⟩]⟩,
  ⟨0x3C, 1, 0x0, 1, 0x0, [⟨0, 32, .rc, 0, 0, 4294967295⟩]⟩,
  ⟨0x100, 8, 0x10, 1, 0x0, [⟨0, 32, .ro, 0, 0, 4294967295⟩]⟩,
  ⟨0x104, 8, 0x10, 1, 0x0, [⟨0, 32, .ro, 0, 0, 4294967295⟩]⟩,
  ⟨0x108, 8, 0x10, 1, 0x0, [⟨0, 32, .rw, 4294967295, 0, 4294967295⟩]⟩,
  ⟨0x10C, 8, 0x10, 1, 0x0, [⟨0, 8, .ro, 0, 0, 255⟩, ⟨8, 1, .ro, 0, 0, 1⟩]⟩,
  ⟨0x1000, 128, 0x8, 1, 0x0, [⟨0, 30, .ro, 0, 0, 1073741823⟩, ⟨30, 1, .ro, 0, 0, 1⟩, ⟨31, 1, .ro, 0, 0, 1⟩]⟩,
  ⟨0x1004, 128, 0x8, 1, 0x0, [⟨0, 4, .ro, 0, 0, 15⟩, ⟨4, 8, .ro, 0, 0, 255⟩, ⟨12, 6, .ro, 0, 0, 63⟩, ⟨18, 8, .ro, 0, 0, 255⟩, ⟨26, 3, .ro, 0, 0, 7⟩]⟩]

/-- The register rows of block 0x06 UTX. -/
def rowsUtx : List RegRow := rowsUtx0 ++ rowsUtx1

def rowsRange0 : List RegRow := [
  ⟨0x0, 1, 0x0, 1, 0x0, [⟨0, 1, .rw, 0, 0, 1⟩, ⟨1, 1, .rwl, 0, 0, 1⟩, ⟨2, 1, .rwl, 0, 0, 1⟩]⟩,
  ⟨0x4, 1, 0x0, 1, 0x0, [⟨0, 3, .ro, 0, 0, 7⟩, ⟨3, 1, .ro, 0, 0, 1⟩, ⟨4, 1, .ro, 0, 0, 1⟩, ⟨5, 2, .ro, 0, 0, 3⟩, ⟨7, 1, .ro, 0, 0, 1⟩]⟩,
  ⟨0x8, 1, 0x0, 1, 0x0, [⟨0, 30, .rwl, 0, 0, 1073741823⟩]⟩,
  ⟨0xC, 1, 0x0, 1, 0x0, [⟨0, 21, .rwl, 100000, 100000, 2000000⟩]⟩,
  ⟨0x10, 1, 0x0, 1, 0x0, [⟨0, 7, .rwl, 8, 8, 80⟩, ⟨8, 7, .rwl, 0, 0, 127⟩, ⟨16, 7, .rwl, 0, 0, 127⟩, ⟨24, 6, .rwl, 40, 0, 63⟩]⟩,
  ⟨0x14, 1, 0x0, 1, 0x0, [⟨0, 14, .rwl, 0, 0, 10000⟩]⟩,
  ⟨0x18, 1, 0x0, 1, 0x0, [⟨0, 16, .rwl, 0, 0, 65535⟩, ⟨16, 16, .rwl, 0, 0, 65535⟩]⟩,
  ⟨0x1C, 1, 0x0, 1, 0x0, [⟨0, 7, .rwl, 8, 4, 127⟩, ⟨8, 6, .rwl, 12, 0, 40⟩, ⟨16, 6, .rwl, 16, 1, 63⟩]⟩,
  ⟨0x20, 1, 0x0, 1, 0x0, [⟨0, 10, .rwl, 60, 10, 1000⟩, ⟨16, 8, .rwl, 20, 0, 255⟩]⟩,
  ⟨0x24, 1, 0x0, 1, 0x0, [⟨0, 8, .rwl, 30, 5, 255⟩, ⟨8, 8, .rwl, 10, 0, 255⟩, ⟨16, 8, .rwl, 64, 0, 255⟩]⟩,
  ⟨0x30, 1, 0x0, 1, 0x0, [⟨0, 1, .rw, 0, 0, 1⟩, ⟨1, 1, .rw, 0, 0, 1⟩, ⟨2, 1, .rw, 0, 0, 1⟩, ⟨3, 1, .rw, 0, 0, 1⟩, ⟨4, 1, .rw, 0, 0, 1⟩, ⟨8, 6, .rw, 0, 0, 63⟩, ⟨16, 8, .rw, 255, 0, 255⟩]⟩,
  ⟨0x34, 1, 0x0, 1, 0x0, [⟨0, 32, .rw, 0, 0, 4294967295⟩]⟩]

def rowsRange1 : List RegRow := [
  ⟨0x38, 1, 0x0, 1, 0x0, [⟨0, 32, .rw, 0, 0, 4294967295⟩]⟩,
  ⟨0x40, 8, 0x4, 1, 0x0, [⟨0, 32, .wo, 0, 0, 4294967295⟩]⟩,
  ⟨0x60, 1, 0x0, 1, 0x0, [⟨0, 1, .wo, 0, 0, 1⟩, ⟨1, 1, .wo, 0, 0, 1⟩]⟩,
  ⟨0x64, 1, 0x0, 1, 0x0, [⟨0, 16, .ro, 0, 0, 65535⟩, ⟨16, 16, .ro, 0, 0, 65535⟩]⟩,
  ⟨0x70, 1, 0x0, 1, 0x0, [⟨0, 32, .rc, 0, 0, 4294967295⟩]⟩,
  ⟨0x74, 1, 0x0, 1, 0x0, [⟨0, 32, .rc, 0, 0, 4294967295⟩]⟩,
  ⟨0x78, 1, 0x0, 1, 0x0, [⟨0, 32, .rc, 0, 0, 4294967295⟩]⟩,
  ⟨0x7C, 1, 0x0, 1, 0x0, [⟨0, 32, .rc, 0, 0, 4294967295⟩]⟩,
  ⟨0x100, 16, 0x4, 1, 0x0, [⟨0, 32, .ro, 0, 0, 4294967295⟩]⟩]

/-- The register rows of block 0x07 RANGE. -/
def rowsRange : List RegRow := rowsRange0 ++ rowsRange1

def rowsZone0 : List RegRow := [
  ⟨0x0, 1, 0x0, 1, 0x0, [⟨0, 1, .rw, 0, 0, 1⟩, ⟨1, 1, .rwl, 0, 0, 1⟩, ⟨2, 1, .rwl, 1, 0, 1⟩]⟩,
  ⟨0x4, 1, 0x0, 1, 0x0, [⟨0, 3, .ro, 0, 0, 7⟩, ⟨3, 1, .ro, 0, 0, 1⟩, ⟨4, 1, .ro, 0, 0, 1⟩, ⟨5, 1, .ro, 0, 0, 1⟩, ⟨8, 5, .ro, 0, 0, 31⟩, ⟨16, 9, .ro, 0, 0, 511⟩]⟩,
  ⟨0x8, 1, 0x0, 1, 0x0, [⟨0, 5, .rwl, 3, 1, 16⟩, ⟨8, 8, .rwl, 6, 0, 40⟩, ⟨16, 16, .rwl, 400, 0, 65535⟩]⟩,
  ⟨0xC, 1, 0x0, 1, 0x0, [⟨0, 1, .wo, 0, 0, 1⟩]⟩,
  ⟨0x10, 1, 0x0, 1, 0x0, [⟨0, 3, .ro, 7, 0, 7⟩, ⟨8, 8, .ro, 0, 0, 255⟩, ⟨16, 8, .ro, 0, 0, 255⟩, ⟨24, 5, .ro, 0, 0, 31⟩]⟩,
  ⟨0x14, 1, 0x0, 1, 0x0, [⟨0, 16, .ro, 0, 0, 65535⟩, ⟨16, 16, .ro, 0, 0, 65535⟩]⟩,
  ⟨0x18, 1, 0x0, 1, 0x0, [⟨0, 8, .ro, 0, 0, 255⟩, ⟨8, 8, .ro, 0, 0, 255⟩]⟩,
  ⟨0x1C, 1, 0x0, 1, 0x0, [⟨0, 32, .ro, 0, 0, 4294967295⟩]⟩,
  ⟨0x20, 1, 0x0, 1, 0x0, [⟨0, 32, .rc, 0, 0, 4294967295⟩]⟩,
  ⟨0x40, 8, 0x4, 1, 0x0, [⟨0, 8, .rwl, 0, 0, 255⟩, ⟨8, 8, .rwl, 0, 0, 255⟩, ⟨16, 1, .rwl, 0, 0, 1⟩]⟩,
  ⟨0x60, 4, 0x8, 1, 0x0, [⟨0, 32, .rwl, 4294967295, 0, 4294967295⟩]⟩,
  ⟨0x64, 4, 0x8, 1, 0x0, [⟨0, 32, .rwl, 4294967295, 0, 4294967295⟩]⟩]

def rowsZone1 : List RegRow := [
  ⟨0x100, 12, 0x4, 1, 0x0, [⟨0, 32, .rw, 0, 0, 4294967295⟩]⟩,
  ⟨0x130, 4, 0x4, 1, 0x0, [⟨0, 32, .rw, 4294967295, 0, 4294967295⟩]⟩]

/-- The register rows of block 0x08 ZONE. -/
def rowsZone : List RegRow := rowsZone0 ++ rowsZone1

def rowsCred0 : List RegRow := [
  ⟨0x0, 1, 0x0, 1, 0x0, [⟨0, 1, .rw, 0, 0, 1⟩, ⟨1, 1, .rwl, 0, 0, 1⟩, ⟨2, 1, .rwl, 1, 0, 1⟩, ⟨3, 1, .rwl, 1, 0, 1⟩]⟩,
  ⟨0x4, 1, 0x0, 1, 0x0, [⟨0, 3, .ro, 0, 0, 7⟩, ⟨3, 2, .ro, 0, 0, 3⟩, ⟨5, 1, .ro, 0, 0, 1⟩, ⟨6, 1, .ro, 0, 0, 1⟩, ⟨7, 1, .ro, 0, 0, 1⟩, ⟨8, 12, .ro, 0, 0, 4095⟩, ⟨20, 8, .ro, 0, 0, 255⟩]⟩,
  ⟨0x8, 1, 0x0, 1, 0x0, [⟨0, 8, .rwl, 30, 10, 200⟩, ⟨8, 2, .rwl, 2, 1, 3⟩, ⟨16, 5, .rwl, 5, 3, 20⟩, ⟨24, 5, .rwl, 5, 1, 30⟩]⟩,
  ⟨0xC, 1, 0x0, 1, 0x0, [⟨0, 8, .ro, 0, 0, 255⟩, ⟨8, 24, .ro, 0, 0, 16777215⟩]⟩,
  ⟨0x10, 1, 0x0, 1, 0x0, [⟨0, 32, .ro, 0, 0, 4294967295⟩]⟩,
  ⟨0x14, 1, 0x0, 1, 0x0, [⟨0, 32, .ro, 0, 0, 4294967295⟩]⟩,
  ⟨0x20, 3, 0x4, 1, 0x0, [⟨0, 32, .rw, 0, 0, 4294967295⟩]⟩,
  ⟨0x2C, 1, 0x0, 1, 0x0, [⟨0, 1, .wo, 0, 0, 1⟩, ⟨1, 1, .rw, 0, 0, 1⟩, ⟨8, 5, .rw, 16, 16, 23⟩]⟩,
  ⟨0x30, 1, 0x0, 1, 0x0, [⟨0, 8, .ro, 0, 0, 255⟩, ⟨8, 2, .ro, 0, 0, 3⟩, ⟨10, 1, .ro, 0, 0, 1⟩, ⟨11, 1, .ro, 0, 0, 1⟩, ⟨12, 18, .ro, 0, 0, 262143⟩]⟩,
  ⟨0x34, 1, 0x0, 1, 0x0, [⟨0, 32, .ro, 0, 0, 4294967295⟩]⟩,
  ⟨0x40, 1, 0x0, 1, 0x0, [⟨0, 32, .rc, 0, 0, 4294967295⟩]⟩,
  ⟨0x44, 1, 0x0, 1, 0x0, [⟨0, 32, .rc, 0, 0, 4294967295⟩]⟩]

def rowsCred1 : List RegRow := [
  ⟨0x48, 1, 0x0, 1, 0x0, [⟨0, 32, .rc, 0, 0, 4294967295⟩]⟩,
  ⟨0x4C, 1, 0x0, 1, 0x0, [⟨0, 32, .rc, 0, 0, 4294967295⟩]⟩,
  ⟨0x50, 1, 0x0, 1, 0x0, [⟨0, 32, .rc, 0, 0, 4294967295⟩]⟩,
  ⟨0x54, 1, 0x0, 1, 0x0, [⟨0, 32, .rc, 0, 0, 4294967295⟩]⟩,
  ⟨0x80, 16, 0x4, 1, 0x0, [⟨0, 16, .ro, 0, 0, 65535⟩]⟩]

/-- The register rows of block 0x09 CRED. -/
def rowsCred : List RegRow := rowsCred0 ++ rowsCred1

def rowsRel0 : List RegRow := [
  ⟨0x0, 1, 0x0, 1, 0x0, [⟨0, 1, .rw, 0, 0, 1⟩, ⟨1, 1, .rwl, 0, 0, 1⟩]⟩,
  ⟨0x4, 1, 0x0, 1, 0x0, [⟨0, 3, .ro, 0, 0, 7⟩, ⟨3, 3, .ro, 0, 0, 7⟩, ⟨6, 1, .ro, 0, 0, 1⟩, ⟨7, 1, .ro, 0, 0, 1⟩, ⟨8, 1, .ro, 0, 0, 1⟩, ⟨9, 4, .ro, 0, 0, 15⟩]⟩,
  ⟨0x8, 1, 0x0, 1, 0x0, [⟨0, 7, .rwl, 30, 5, 120⟩, ⟨8, 4, .rwl, 15, 0, 15⟩, ⟨12, 4, .rwl, 0, 0, 15⟩, ⟨16, 10, .rwl, 100, 0, 1000⟩]⟩,
  ⟨0xC, 1, 0x0, 1, 0x0, [⟨0, 6, .rwl, 31, 0, 63⟩, ⟨8, 2, .rwl, 1, 0, 3⟩, ⟨16, 6, .rwl, 10, 2, 50⟩]⟩,
  ⟨0x10, 1, 0x0, 1, 0x0, [⟨0, 8, .rwl, 5, 1, 50⟩, ⟨8, 8, .rwl, 20, 5, 250⟩, ⟨16, 5, .rwl, 2, 1, 20⟩]⟩,
  ⟨0x14, 1, 0x0, 1, 0x0, [⟨0, 2, .ro, 0, 0, 3⟩, ⟨16, 16, .ro, 0, 0, 65535⟩]⟩,
  ⟨0x20, 3, 0x4, 1, 0x0, [⟨0, 32, .rw, 0, 0, 4294967295⟩]⟩,
  ⟨0x2C, 1, 0x0, 1, 0x0, [⟨0, 16, .rw, 65535, 0, 65535⟩, ⟨16, 3, .rw, 0, 0, 7⟩, ⟨19, 1, .rw, 0, 0, 1⟩, ⟨20, 1, .rw, 0, 0, 1⟩]⟩,
  ⟨0x30, 1, 0x0, 1, 0x0, [⟨0, 1, .wo, 0, 0, 1⟩, ⟨1, 1, .wo, 0, 0, 1⟩]⟩,
  ⟨0x34, 1, 0x0, 1, 0x0, [⟨0, 16, .ro, 0, 0, 65535⟩, ⟨16, 3, .ro, 0, 0, 7⟩]⟩,
  ⟨0x38, 1, 0x0, 1, 0x0, [⟨0, 32, .ro, 0, 0, 4294967295⟩]⟩,
  ⟨0x3C, 1, 0x0, 1, 0x0, [⟨0, 32, .ro, 0, 0, 4294967295⟩]⟩]

def rowsRel1 : List RegRow := [
  ⟨0x40, 1, 0x0, 1, 0x0, [⟨0, 32, .rc, 0, 0, 4294967295⟩]⟩,
  ⟨0x44, 1, 0x0, 1, 0x0, [⟨0, 32, .rc, 0, 0, 4294967295⟩]⟩,
  ⟨0x48, 1, 0x0, 1, 0x0, [⟨0, 32, .rc, 0, 0, 4294967295⟩]⟩,
  ⟨0x4C, 1, 0x0, 1, 0x0, [⟨0, 32, .rc, 0, 0, 4294967295⟩]⟩,
  ⟨0x100, 1, 0x0, 1, 0x0, [⟨0, 16, .rw, 0, 0, 65535⟩, ⟨16, 16, .rw, 0, 0, 65535⟩]⟩,
  ⟨0x104, 1, 0x0, 1, 0x0, [⟨0, 16, .rw, 0, 0, 65535⟩, ⟨16, 16, .rw, 0, 0, 65535⟩]⟩,
  ⟨0x108, 1, 0x0, 1, 0x0, [⟨0, 16, .rw, 0, 0, 65535⟩, ⟨16, 16, .rw, 0, 0, 65535⟩]⟩,
  ⟨0x110, 4, 0x10, 1, 0x0, [⟨0, 1, .rw, 0, 0, 1⟩, ⟨1, 1, .rw, 0, 0, 1⟩, ⟨2, 1, .rw, 0, 0, 1⟩, ⟨8, 6, .rw, 0, 0, 63⟩, ⟨16, 8, .rw, 10, 1, 255⟩]⟩,
  ⟨0x114, 4, 0x10, 1, 0x0, [⟨0, 16, .rw, 0, 0, 65535⟩, ⟨16, 16, .rw, 0, 0, 65535⟩]⟩,
  ⟨0x118, 4, 0x10, 1, 0x0, [⟨0, 1, .ro, 0, 0, 1⟩, ⟨1, 1, .ro, 0, 0, 1⟩, ⟨8, 8, .ro, 255, 0, 255⟩]⟩,
  ⟨0x200, 1, 0x0, 1, 0x0, [⟨0, 1, .rwl, 0, 0, 1⟩, ⟨1, 1, .rwl, 0, 0, 1⟩, ⟨2, 2, .rw, 0, 0, 3⟩, ⟨8, 6, .rwl, 10, 4, 40⟩, ⟨16, 8, .rwl, 20, 5, 50⟩, ⟨24, 8, .rwl, 177, 0, 255⟩]⟩,
  ⟨0x204, 1, 0x0, 1, 0x0, [⟨0, 8, .rw, 10, 5, 255⟩, ⟨8, 8, .rw, 190, 5, 255⟩, ⟨16, 8, .rw, 25, 5, 255⟩, ⟨24, 8, .rw, 25, 5, 255⟩]⟩]

def rowsRel2 : List RegRow := [
  ⟨0x208, 1, 0x0, 1, 0x0, [⟨0, 2, .ro, 0, 0, 3⟩, ⟨2, 2, .ro, 0, 0, 3⟩, ⟨16, 8, .ro, 0, 0, 255⟩, ⟨24, 8, .ro, 0, 0, 255⟩]⟩]

/-- The register rows of block 0x0A REL. -/
def rowsRel : List RegRow := rowsRel0 ++ rowsRel1 ++ rowsRel2

def rowsAes0 : List RegRow := [
  ⟨0x0, 1, 0x0, 1, 0x0, [⟨0, 1, .rw, 0, 0, 1⟩, ⟨1, 1, .rwl, 0, 0, 1⟩, ⟨2, 1, .rwl, 1, 0, 1⟩]⟩,
  ⟨0x4, 1, 0x0, 1, 0x0, [⟨0, 3, .ro, 0, 0, 7⟩, ⟨3, 1, .ro, 0, 0, 1⟩, ⟨4, 1, .ro, 0, 0, 1⟩, ⟨5, 1, .ro, 0, 0, 1⟩, ⟨8, 7, .ro, 0, 0, 127⟩]⟩,
  ⟨0x100, 2, 0x80, 1, 0x0, [⟨0, 1, .rw, 0, 0, 1⟩, ⟨1, 1, .rw, 0, 0, 1⟩, ⟨2, 2, .rw, 0, 0, 3⟩, ⟨8, 6, .rw, 0, 0, 63⟩]⟩,
  ⟨0x104, 2, 0x80, 1, 0x0, [⟨0, 1, .ro, 0, 0, 1⟩, ⟨1, 1, .ro, 0, 0, 1⟩, ⟨2, 3, .ro, 0, 0, 7⟩, ⟨5, 1, .w1c, 0, 0, 1⟩]⟩,
  ⟨0x108, 2, 0x80, 1, 0x0, [⟨0, 1, .wo, 0, 0, 1⟩, ⟨1, 1, .wo, 0, 0, 1⟩]⟩,
  ⟨0x120, 2, 0x80, 8, 0x4, [⟨0, 32, .wo, 0, 0, 4294967295⟩]⟩,
  ⟨0x140, 2, 0x80, 4, 0x4, [⟨0, 32, .wo, 0, 0, 4294967295⟩]⟩,
  ⟨0x150, 2, 0x80, 4, 0x4, [⟨0, 32, .ro, 0, 0, 4294967295⟩]⟩,
  ⟨0x200, 1, 0x0, 1, 0x0, [⟨0, 6, .rw, 0, 0, 63⟩, ⟨8, 8, .rw, 254, 0, 255⟩, ⟨16, 2, .rw, 0, 0, 3⟩, ⟨18, 2, .rw, 1, 0, 3⟩, ⟨20, 2, .rw, 2, 0, 3⟩, ⟨22, 1, .rw, 0, 0, 1⟩]⟩,
  ⟨0x204, 1, 0x0, 1, 0x0, [⟨0, 1, .wo, 0, 0, 1⟩]⟩,
  ⟨0x208, 1, 0x0, 1, 0x0, [⟨0, 1, .ro, 0, 0, 1⟩, ⟨1, 1, .ro, 0, 0, 1⟩, ⟨8, 8, .ro, 0, 0, 255⟩]⟩,
  ⟨0x220, 10, 0x4, 1, 0x0, [⟨0, 32, .wo, 0, 0, 4294967295⟩]⟩]

def rowsAes1 : List RegRow := [
  ⟨0x400, 64, 0x4, 1, 0x0, [⟨0, 1, .ro, 0, 0, 1⟩, ⟨1, 2, .ro, 0, 0, 3⟩, ⟨3, 2, .ro, 0, 0, 3⟩, ⟨5, 2, .ro, 0, 0, 3⟩, ⟨8, 8, .ro, 0, 0, 255⟩]⟩,
  ⟨0x500, 1, 0x0, 1, 0x0, [⟨0, 32, .rc, 0, 0, 4294967295⟩]⟩,
  ⟨0x504, 1, 0x0, 1, 0x0, [⟨0, 32, .rc, 0, 0, 4294967295⟩]⟩]

/-- The register rows of block 0x0B AES. -/
def rowsAes : List RegRow := rowsAes0 ++ rowsAes1

def rowsTrng0 : List RegRow := [
  ⟨0x0, 1, 0x0, 1, 0x0, [⟨0, 1, .rw, 1, 0, 1⟩, ⟨1, 1, .rwl, 0, 0, 1⟩, ⟨2, 1, .rwl, 1, 0, 1⟩]⟩,
  ⟨0x4, 1, 0x0, 1, 0x0, [⟨0, 3, .ro, 0, 0, 7⟩, ⟨3, 3, .ro, 0, 0, 7⟩, ⟨6, 1, .ro, 0, 0, 1⟩, ⟨8, 2, .ro, 0, 0, 3⟩]⟩,
  ⟨0x8, 1, 0x0, 1, 0x0, [⟨0, 1, .w1c, 0, 0, 1⟩, ⟨1, 1, .w1c, 0, 0, 1⟩, ⟨2, 1, .w1c, 0, 0, 1⟩, ⟨3, 1, .w1c, 0, 0, 1⟩, ⟨4, 1, .w1c, 0, 0, 1⟩, ⟨5, 1, .w1c, 0, 0, 1⟩, ⟨6, 1, .w1c, 0, 0, 1⟩]⟩,
  ⟨0xC, 1, 0x0, 1, 0x0, [⟨0, 13, .ro, 0, 0, 8191⟩]⟩,
  ⟨0x10, 1, 0x0, 1, 0x0, [⟨0, 32, .rc, 0, 0, 4294967295⟩]⟩,
  ⟨0x14, 1, 0x0, 1, 0x0, [⟨0, 32, .rc, 0, 0, 4294967295⟩]⟩,
  ⟨0x40, 4, 0x4, 1, 0x0, [⟨0, 16, .ro, 0, 0, 65535⟩]⟩,
  ⟨0x50, 1, 0x0, 1, 0x0, [⟨0, 16, .ro, 0, 0, 65535⟩, ⟨16, 16, .ro, 0, 0, 65535⟩]⟩,
  ⟨0x60, 1, 0x0, 1, 0x0, [⟨0, 32, .ro, 0, 0, 4294967295⟩]⟩,
  ⟨0x64, 1, 0x0, 1, 0x0, [⟨0, 5, .ro, 0, 0, 31⟩, ⟨8, 1, .w1c, 0, 0, 1⟩]⟩]

/-- The register rows of block 0x0C TRNG. -/
def rowsTrng : List RegRow := rowsTrng0

def rowsHfr0 : List RegRow := [
  ⟨0x0, 1, 0x0, 1, 0x0, [⟨0, 1, .rw, 0, 0, 1⟩, ⟨1, 1, .rwl, 0, 0, 1⟩]⟩,
  ⟨0x4, 1, 0x0, 1, 0x0, [⟨0, 3, .ro, 0, 0, 7⟩, ⟨3, 1, .ro, 0, 0, 1⟩, ⟨4, 1, .ro, 0, 0, 1⟩, ⟨5, 1, .w1c, 0, 0, 1⟩, ⟨6, 1, .ro, 0, 0, 1⟩, ⟨7, 1, .w1c, 0, 0, 1⟩, ⟨8, 1, .ro, 0, 0, 1⟩]⟩,
  ⟨0x8, 2, 0x4, 1, 0x0, [⟨0, 6, .rwl, 40, 0, 63⟩, ⟨8, 6, .rwl, 11, 8, 14⟩, ⟨16, 3, .rwl, 3, 0, 7⟩]⟩,
  ⟨0x10, 1, 0x0, 1, 0x0, [⟨0, 8, .rwl, 20, 2, 100⟩, ⟨8, 14, .rwl, 1000, 500, 10000⟩, ⟨24, 1, .rwl, 1, 0, 1⟩]⟩,
  ⟨0x20, 1, 0x0, 1, 0x0, [⟨0, 1, .rw, 0, 0, 1⟩, ⟨1, 1, .rw, 0, 0, 1⟩, ⟨2, 2, .rw, 0, 0, 3⟩, ⟨8, 10, .rw, 300, 100, 1000⟩, ⟨24, 6, .rw, 16, 1, 63⟩]⟩,
  ⟨0x24, 1, 0x0, 1, 0x0, [⟨0, 10, .rw, 20, 1, 1023⟩, ⟨16, 12, .rw, 12, 1, 2048⟩]⟩,
  ⟨0x30, 2, 0x10, 1, 0x0, [⟨0, 16, .ro, 0, 0, 65535⟩, ⟨16, 12, .ro, 0, 0, 4095⟩, ⟨28, 1, .ro, 0, 0, 1⟩]⟩,
  ⟨0x34, 2, 0x10, 1, 0x0, [⟨0, 16, .ro, 0, 0, 65535⟩, ⟨16, 12, .ro, 0, 0, 4095⟩, ⟨28, 1, .ro, 0, 0, 1⟩]⟩,
  ⟨0x38, 2, 0x10, 1, 0x0, [⟨0, 1, .w1c, 0, 0, 1⟩, ⟨1, 3, .ro, 0, 0, 7⟩]⟩,
  ⟨0x60, 1, 0x0, 1, 0x0, [⟨0, 32, .rc, 0, 0, 4294967295⟩]⟩,
  ⟨0x64, 1, 0x0, 1, 0x0, [⟨0, 32, .rc, 0, 0, 4294967295⟩]⟩,
  ⟨0x68, 1, 0x0, 1, 0x0, [⟨0, 32, .rc, 0, 0, 4294967295⟩]⟩]

def rowsHfr1 : List RegRow := [
  ⟨0x6C, 1, 0x0, 1, 0x0, [⟨0, 32, .rc, 0, 0, 4294967295⟩]⟩]

/-- The register rows of block 0x0D HFR. -/
def rowsHfr : List RegRow := rowsHfr0 ++ rowsHfr1

def rowsVlt0 : List RegRow := [
  ⟨0x0, 1, 0x0, 1, 0x0, [⟨0, 1, .rw, 0, 0, 1⟩, ⟨1, 1, .rwl, 0, 0, 1⟩, ⟨2, 1, .rwl, 0, 0, 1⟩]⟩,
  ⟨0x4, 1, 0x0, 1, 0x0, [⟨0, 3, .ro, 0, 0, 7⟩, ⟨3, 2, .ro, 0, 0, 3⟩, ⟨5, 2, .ro, 0, 0, 3⟩, ⟨7, 1, .ro, 0, 0, 1⟩, ⟨8, 1, .ro, 0, 0, 1⟩, ⟨9, 1, .w1c, 0, 0, 1⟩, ⟨10, 1, .w1c, 0, 0, 1⟩, ⟨11, 1, .ro, 0, 0, 1⟩]⟩,
  ⟨0x8, 1, 0x0, 1, 0x0, [⟨0, 9, .rwl, 100, 30, 470⟩, ⟨12, 4, .rwl, 5, 1, 10⟩, ⟨16, 1, .rwl, 1, 0, 1⟩]⟩,
  ⟨0xC, 1, 0x0, 1, 0x0, [⟨0, 13, .ro, 0, 0, 8191⟩, ⟨16, 13, .ro, 0, 0, 8191⟩]⟩,
  ⟨0x10, 1, 0x0, 1, 0x0, [⟨0, 8, .rwl, 20, 1, 255⟩, ⟨8, 1, .rwl, 1, 0, 1⟩]⟩,
  ⟨0x14, 1, 0x0, 1, 0x0, [⟨0, 1, .ro, 0, 0, 1⟩, ⟨8, 5, .ro, 5, 0, 31⟩, ⟨16, 6, .ro, 45, 0, 63⟩]⟩,
  ⟨0x18, 1, 0x0, 1, 0x0, [⟨0, 32, .ro, 0, 0, 4294967295⟩]⟩,
  ⟨0x1C, 1, 0x0, 1, 0x0, [⟨0, 32, .ro, 0, 0, 4294967295⟩]⟩,
  ⟨0x30, 1, 0x0, 1, 0x0, [⟨0, 32, .rc, 0, 0, 4294967295⟩]⟩,
  ⟨0x34, 1, 0x0, 1, 0x0, [⟨0, 32, .rc, 0, 0, 4294967295⟩]⟩,
  ⟨0x38, 1, 0x0, 1, 0x0, [⟨0, 32, .rc, 0, 0, 4294967295⟩]⟩]

/-- The register rows of block 0x0E VLT. -/
def rowsVlt : List RegRow := rowsVlt0

def rowsQm0 : List RegRow := [
  ⟨0x0, 1, 0x0, 1, 0x0, [⟨0, 1, .rw, 1, 0, 1⟩, ⟨1, 1, .rwl, 0, 0, 1⟩]⟩,
  ⟨0x4, 1, 0x0, 1, 0x0, [⟨0, 3, .ro, 2, 0, 7⟩, ⟨8, 8, .ro, 0, 0, 255⟩, ⟨16, 8, .ro, 0, 0, 255⟩]⟩,
  ⟨0x8, 1, 0x0, 1, 0x0, [⟨0, 14, .ro, 8191, 0, 16383⟩]⟩,
  ⟨0xC, 1, 0x0, 1, 0x0, [⟨0, 32, .rc, 0, 0, 4294967295⟩]⟩,
  ⟨0x10, 1, 0x0, 1, 0x0, [⟨0, 32, .rc, 0, 0, 4294967295⟩]⟩,
  ⟨0x14, 1, 0x0, 1, 0x0, [⟨0, 32, .rc, 0, 0, 4294967295⟩]⟩,
  ⟨0x20, 4, 0x4, 1, 0x0, [⟨0, 32, .ro, 0, 0, 4294967295⟩]⟩,
  ⟨0x30, 4, 0x4, 1, 0x0, [⟨0, 32, .ro, 0, 0, 4294967295⟩]⟩,
  ⟨0x100, 8, 0x10, 1, 0x0, [⟨0, 7, .wo, 0, 0, 127⟩, ⟨8, 13, .wo, 0, 0, 8191⟩]⟩,
  ⟨0x104, 8, 0x10, 1, 0x0, [⟨0, 32, .wo, 0, 0, 4294967295⟩]⟩,
  ⟨0x108, 8, 0x10, 1, 0x0, [⟨0, 8, .ro, 0, 0, 255⟩, ⟨8, 1, .ro, 0, 0, 1⟩, ⟨16, 13, .ro, 0, 0, 8191⟩]⟩,
  ⟨0x200, 8, 0x10, 1, 0x0, [⟨0, 7, .wo, 0, 0, 127⟩]⟩]

def rowsQm1 : List RegRow := [
  ⟨0x204, 8, 0x10, 1, 0x0, [⟨0, 8, .ro, 0, 0, 255⟩, ⟨8, 13, .ro, 0, 0, 8191⟩, ⟨24, 8, .ro, 0, 0, 255⟩]⟩,
  ⟨0x208, 8, 0x10, 1, 0x0, [⟨0, 32, .ro, 0, 0, 4294967295⟩]⟩,
  ⟨0x20C, 8, 0x10, 1, 0x0, [⟨0, 1, .wo, 0, 0, 1⟩]⟩,
  ⟨0x1000, 1, 0x0, 1, 0x0, [⟨0, 1, .rw, 1, 0, 1⟩, ⟨1, 1, .rwl, 1, 0, 1⟩, ⟨2, 1, .rwl, 0, 0, 1⟩, ⟨3, 1, .rwl, 1, 0, 1⟩, ⟨4, 1, .rw, 1, 0, 1⟩, ⟨5, 1, .rw, 1, 0, 1⟩, ⟨6, 1, .rw, 0, 0, 1⟩]⟩,
  ⟨0x1020, 2, 0x20, 1, 0x0, [⟨0, 1, .rw, 1, 0, 1⟩, ⟨1, 1, .rwl, 0, 0, 1⟩, ⟨2, 1, .rwl, 0, 0, 1⟩, ⟨3, 1, .rwl, 0, 0, 1⟩, ⟨4, 1, .rw, 0, 0, 1⟩, ⟨5, 1, .rw, 0, 0, 1⟩, ⟨6, 1, .rw, 0, 0, 1⟩]⟩,
  ⟨0x1060, 125, 0x20, 1, 0x0, [⟨0, 1, .rw, 0, 0, 1⟩, ⟨1, 1, .rwl, 0, 0, 1⟩, ⟨2, 1, .rwl, 0, 0, 1⟩, ⟨3, 1, .rwl, 0, 0, 1⟩, ⟨4, 1, .rw, 0, 0, 1⟩, ⟨5, 1, .rw, 0, 0, 1⟩, ⟨6, 1, .rw, 0, 0, 1⟩]⟩,
  ⟨0x1004, 1, 0x0, 1, 0x0, [⟨0, 14, .rwl, 1024, 1, 8191⟩, ⟨16, 7, .rwl, 0, 0, 64⟩]⟩,
  ⟨0x1024, 1, 0x0, 1, 0x0, [⟨0, 14, .rwl, 128, 1, 8191⟩, ⟨16, 7, .rwl, 0, 0, 64⟩]⟩,
  ⟨0x1044, 1, 0x0, 1, 0x0, [⟨0, 14, .rwl, 640, 1, 8191⟩, ⟨16, 7, .rwl, 0, 0, 64⟩]⟩,
  ⟨0x1064, 125, 0x20, 1, 0x0, [⟨0, 14, .rwl, 64, 1, 8191⟩, ⟨16, 7, .rwl, 0, 0, 64⟩]⟩,
  ⟨0x1008, 1, 0x0, 1, 0x0, [⟨0, 14, .rw, 768, 0, 16383⟩, ⟨16, 14, .rw, 0, 0, 16383⟩]⟩,
  ⟨0x1028, 2, 0x20, 1, 0x0, [⟨0, 14, .rw, 0, 0, 16383⟩, ⟨16, 14, .rw, 0, 0, 16383⟩]⟩]

def rowsQm2 : List RegRow := [
  ⟨0x1068, 125, 0x20, 1, 0x0, [⟨0, 14, .rw, 0, 0, 16383⟩, ⟨16, 14, .rw, 0, 0, 16383⟩]⟩,
  ⟨0x100C, 128, 0x20, 1, 0x0, [⟨0, 14, .ro, 0, 0, 16383⟩, ⟨16, 15, .ro, 0, 0, 32767⟩]⟩,
  ⟨0x1010, 128, 0x20, 1, 0x0, [⟨0, 1, .w1c, 0, 0, 1⟩, ⟨1, 1, .w1c, 0, 0, 1⟩, ⟨2, 1, .ro, 0, 0, 1⟩, ⟨3, 1, .ro, 0, 0, 1⟩, ⟨4, 1, .w1c, 0, 0, 1⟩]⟩,
  ⟨0x1014, 128, 0x20, 1, 0x0, [⟨0, 16, .rc, 0, 0, 65535⟩, ⟨16, 16, .rc, 0, 0, 65535⟩]⟩,
  ⟨0x1018, 128, 0x20, 1, 0x0, [⟨0, 16, .rc, 0, 0, 65535⟩]⟩,
  ⟨0x101C, 128, 0x20, 1, 0x0, [⟨0, 32, .rc, 0, 0, 4294967295⟩]⟩]

/-- The register rows of block 0x0F QM. -/
def rowsQm : List RegRow := rowsQm0 ++ rowsQm1 ++ rowsQm2

def rowsHif0 : List RegRow := [
  ⟨0x0, 1, 0x0, 1, 0x0, [⟨0, 1, .rwl, 1, 0, 1⟩, ⟨1, 1, .rwl, 0, 0, 1⟩]⟩,
  ⟨0x4, 1, 0x0, 1, 0x0, [⟨0, 7, .ro, 0, 0, 127⟩, ⟨8, 7, .ro, 0, 0, 127⟩, ⟨16, 14, .ro, 0, 0, 16383⟩]⟩,
  ⟨0x8, 1, 0x0, 1, 0x0, [⟨0, 7, .rw, 60, 0, 127⟩]⟩,
  ⟨0xC, 1, 0x0, 1, 0x0, [⟨0, 1, .ro, 0, 0, 1⟩, ⟨1, 1, .ro, 0, 0, 1⟩, ⟨2, 1, .ro, 0, 0, 1⟩, ⟨3, 1, .ro, 0, 0, 1⟩, ⟨4, 1, .w1c, 0, 0, 1⟩, ⟨5, 1, .w1c, 0, 0, 1⟩, ⟨6, 1, .w1c, 0, 0, 1⟩]⟩,
  ⟨0x10, 1, 0x0, 1, 0x0, [⟨0, 7, .rwl, 76, 8, 119⟩]⟩,
  ⟨0x14, 1, 0x0, 1, 0x0, [⟨0, 14, .rwl, 2000, 10, 10000⟩]⟩,
  ⟨0x20, 1, 0x0, 1, 0x0, [⟨0, 32, .rc, 0, 0, 4294967295⟩]⟩,
  ⟨0x24, 1, 0x0, 1, 0x0, [⟨0, 32, .rc, 0, 0, 4294967295⟩]⟩,
  ⟨0x28, 1, 0x0, 1, 0x0, [⟨0, 32, .rc, 0, 0, 4294967295⟩]⟩,
  ⟨0x2C, 1, 0x0, 1, 0x0, [⟨0, 32, .rc, 0, 0, 4294967295⟩]⟩,
  ⟨0x30, 1, 0x0, 1, 0x0, [⟨0, 32, .rc, 0, 0, 4294967295⟩]⟩,
  ⟨0x34, 1, 0x0, 1, 0x0, [⟨0, 32, .rc, 0, 0, 4294967295⟩]⟩]

def rowsHif1 : List RegRow := [
  ⟨0x100, 1, 0x0, 1, 0x0, [⟨0, 2, .ro, 0, 0, 3⟩, ⟨2, 1, .ro, 0, 0, 1⟩, ⟨3, 1, .ro, 0, 0, 1⟩, ⟨8, 6, .ro, 0, 0, 63⟩, ⟨16, 8, .ro, 0, 0, 255⟩]⟩,
  ⟨0x104, 1, 0x0, 1, 0x0, [⟨0, 32, .ro, 0, 0, 4294967295⟩]⟩,
  ⟨0x108, 1, 0x0, 1, 0x0, [⟨0, 16, .rc, 0, 0, 65535⟩]⟩]

/-- The register rows of block 0x10 HIF. -/
def rowsHif : List RegRow := rowsHif0 ++ rowsHif1

def rowsFlt0 : List RegRow := [
  ⟨0x0, 1, 0x0, 1, 0x0, [⟨0, 1, .rwl, 0, 0, 1⟩, ⟨1, 1, .rwl, 0, 0, 1⟩]⟩,
  ⟨0x4, 1, 0x0, 1, 0x0, [⟨0, 3, .ro, 0, 0, 7⟩, ⟨3, 1, .ro, 0, 0, 1⟩, ⟨4, 1, .ro, 0, 0, 1⟩, ⟨5, 1, .ro, 0, 0, 1⟩, ⟨6, 1, .w1c, 0, 0, 1⟩, ⟨7, 1, .ro, 0, 0, 1⟩]⟩,
  ⟨0x8, 1, 0x0, 1, 0x0, [⟨0, 23, .ro, 0, 0, 8388607⟩]⟩,
  ⟨0xC, 1, 0x0, 1, 0x0, [⟨0, 6, .ro, 0, 0, 63⟩, ⟨8, 6, .ro, 0, 0, 63⟩]⟩,
  ⟨0x10, 1, 0x0, 1, 0x0, [⟨0, 16, .ro, 65535, 0, 65535⟩]⟩,
  ⟨0x14, 1, 0x0, 1, 0x0, [⟨0, 16, .ro, 0, 0, 65535⟩, ⟨16, 1, .ro, 0, 0, 1⟩, ⟨17, 1, .ro, 0, 0, 1⟩]⟩,
  ⟨0x18, 1, 0x0, 1, 0x0, [⟨0, 32, .rc, 0, 0, 4294967295⟩]⟩,
  ⟨0x1C, 1, 0x0, 1, 0x0, [⟨0, 32, .rc, 0, 0, 4294967295⟩]⟩,
  ⟨0x20, 1, 0x0, 1, 0x0, [⟨0, 32, .rc, 0, 0, 4294967295⟩]⟩,
  ⟨0x24, 1, 0x0, 1, 0x0, [⟨0, 16, .ro, 0, 0, 65535⟩]⟩,
  ⟨0x1000, 736, 0x10, 1, 0x0, [⟨0, 5, .rwl, 0, 0, 16⟩, ⟨8, 16, .rwl, 0, 1, 65535⟩, ⟨24, 2, .rwl, 0, 0, 2⟩, ⟨28, 3, .rwl, 0, 0, 7⟩]⟩,
  ⟨0x1004, 736, 0x10, 1, 0x0, [⟨0, 3, .rwl, 0, 0, 7⟩, ⟨4, 1, .rwl, 0, 0, 1⟩, ⟨5, 1, .rwl, 0, 0, 1⟩, ⟨6, 1, .ro, 0, 0, 1⟩, ⟨7, 1, .ro, 0, 0, 1⟩]⟩]

def rowsFlt1 : List RegRow := [
  ⟨0x1008, 736, 0x10, 1, 0x0, [⟨0, 2, .ro, 0, 0, 3⟩, ⟨2, 1, .ro, 0, 0, 1⟩, ⟨8, 5, .ro, 0, 0, 31⟩, ⟨16, 16, .rc, 0, 0, 65535⟩]⟩,
  ⟨0x100C, 736, 0x10, 1, 0x0, [⟨0, 32, .ro, 0, 0, 4294967295⟩]⟩]

/-- The register rows of block 0x11 FLT. -/
def rowsFlt : List RegRow := rowsFlt0 ++ rowsFlt1

def rowsBbx0 : List RegRow := [
  ⟨0x0, 1, 0x0, 1, 0x0, [⟨0, 1, .ro, 0, 0, 1⟩, ⟨1, 1, .ro, 0, 0, 1⟩, ⟨2, 1, .ro, 0, 0, 1⟩, ⟨4, 10, .ro, 0, 0, 1023⟩, ⟨16, 7, .ro, 0, 0, 127⟩]⟩,
  ⟨0x4, 1, 0x0, 1, 0x0, [⟨0, 32, .ro, 0, 0, 4294967295⟩]⟩,
  ⟨0x8, 1, 0x0, 1, 0x0, [⟨0, 9, .ro, 256, 0, 511⟩]⟩,
  ⟨0xC, 1, 0x0, 1, 0x0, [⟨0, 32, .ro, 0, 0, 4294967295⟩]⟩,
  ⟨0x10, 1, 0x0, 1, 0x0, [⟨0, 32, .ro, 0, 0, 4294967295⟩]⟩,
  ⟨0x14, 1, 0x0, 1, 0x0, [⟨0, 32, .rc, 0, 0, 4294967295⟩]⟩,
  ⟨0x18, 1, 0x0, 1, 0x0, [⟨0, 32, .rc, 0, 0, 4294967295⟩]⟩,
  ⟨0x1C, 1, 0x0, 1, 0x0, [⟨0, 32, .rc, 0, 0, 4294967295⟩]⟩,
  ⟨0x20, 1, 0x0, 1, 0x0, [⟨0, 16, .ro, 0, 0, 65535⟩]⟩,
  ⟨0x24, 1, 0x0, 1, 0x0, [⟨0, 32, .rc, 0, 0, 4294967295⟩]⟩]

/-- The register rows of block 0x12 BBX. -/
def rowsBbx : List RegRow := rowsBbx0

def rowsAcc0 : List RegRow := [
  ⟨0x0, 1, 0x0, 1, 0x0, [⟨0, 1, .rwl, 0, 0, 1⟩]⟩,
  ⟨0x4, 1, 0x0, 1, 0x0, [⟨0, 32, .ro, 0, 0, 4294967295⟩]⟩,
  ⟨0x8, 1, 0x0, 1, 0x0, [⟨0, 3, .ro, 0, 0, 7⟩, ⟨3, 1, .ro, 0, 0, 1⟩, ⟨4, 1, .ro, 0, 0, 1⟩, ⟨8, 5, .ro, 0, 0, 31⟩]⟩,
  ⟨0xC, 1, 0x0, 1, 0x0, [⟨0, 32, .rc, 0, 0, 4294967295⟩]⟩,
  ⟨0x1000, 31, 0x200, 1, 0x0, [⟨0, 1, .rwl, 0, 0, 1⟩]⟩,
  ⟨0x1004, 31, 0x200, 1, 0x0, [⟨0, 21, .rwl, 0, 0, 2097151⟩]⟩,
  ⟨0x1100, 31, 0x200, 16, 0x10, [⟨2, 24, .rwl, 0, 0, 16777215⟩]⟩,
  ⟨0x1104, 31, 0x200, 16, 0x10, [⟨2, 24, .rwl, 0, 0, 16777215⟩]⟩,
  ⟨0x1108, 31, 0x200, 16, 0x10, [⟨0, 21, .rwl, 0, 0, 2097151⟩, ⟨31, 1, .rwl, 0, 0, 1⟩]⟩]

/-- The register rows of block 0x13 ACC. -/
def rowsAcc : List RegRow := rowsAcc0

def rowsWlk0 : List RegRow := [
  ⟨0x0, 1, 0x0, 1, 0x0, [⟨0, 1, .rw, 0, 0, 1⟩, ⟨1, 1, .rwl, 0, 0, 1⟩, ⟨2, 2, .rwl, 0, 0, 3⟩]⟩,
  ⟨0x4, 1, 0x0, 1, 0x0, [⟨0, 3, .ro, 0, 0, 7⟩, ⟨3, 2, .ro, 0, 0, 3⟩, ⟨5, 1, .ro, 0, 0, 1⟩, ⟨8, 4, .ro, 0, 0, 15⟩]⟩,
  ⟨0x8, 1, 0x0, 1, 0x0, [⟨0, 7, .rwl, 0, 0, 127⟩, ⟨8, 7, .rwl, 0, 0, 127⟩]⟩,
  ⟨0x10, 4, 0x4, 1, 0x0, [⟨0, 12, .ro, 0, 0, 4095⟩, ⟨16, 8, .ro, 0, 0, 255⟩, ⟨31, 1, .ro, 0, 0, 1⟩]⟩,
  ⟨0x20, 1, 0x0, 1, 0x0, [⟨0, 32, .rc, 0, 0, 4294967295⟩]⟩,
  ⟨0x24, 1, 0x0, 1, 0x0, [⟨0, 32, .rc, 0, 0, 4294967295⟩]⟩,
  ⟨0x28, 1, 0x0, 1, 0x0, [⟨0, 32, .rc, 0, 0, 4294967295⟩]⟩]

/-- The register rows of block 0x14 WLK. -/
def rowsWlk : List RegRow := rowsWlk0

def rowsCnt0 : List RegRow := [
  ⟨0x0, 1, 0x0, 1, 0x0, [⟨0, 1, .rw, 1, 0, 1⟩, ⟨1, 1, .rwl, 0, 0, 1⟩]⟩,
  ⟨0x4, 1, 0x0, 1, 0x0, [⟨0, 3, .ro, 0, 0, 7⟩, ⟨3, 1, .ro, 0, 0, 1⟩, ⟨4, 1, .ro, 0, 0, 1⟩]⟩,
  ⟨0x8, 1, 0x0, 1, 0x0, [⟨0, 6, .wo, 0, 0, 63⟩]⟩,
  ⟨0xC, 1, 0x0, 1, 0x0, [⟨0, 8, .ro, 0, 0, 255⟩, ⟨8, 6, .ro, 0, 0, 63⟩, ⟨14, 1, .ro, 0, 0, 1⟩, ⟨15, 1, .ro, 0, 0, 1⟩]⟩,
  ⟨0x10, 1, 0x0, 1, 0x0, [⟨0, 32, .ro, 0, 0, 4294967295⟩]⟩,
  ⟨0x14, 1, 0x0, 1, 0x0, [⟨0, 32, .ro, 0, 0, 4294967295⟩]⟩,
  ⟨0x100, 64, 0x8, 1, 0x0, [⟨0, 32, .ro, 0, 0, 4294967295⟩]⟩,
  ⟨0x104, 64, 0x8, 1, 0x0, [⟨0, 16, .ro, 0, 0, 65535⟩]⟩]

/-- The register rows of block 0x15 CNT. -/
def rowsCnt : List RegRow := rowsCnt0

def rowsPad0 : List RegRow := [
  ⟨0x0, 1, 0x0, 1, 0x0, [⟨0, 1, .rwl, 0, 0, 1⟩]⟩,
  ⟨0x4, 1, 0x0, 1, 0x0, [⟨0, 16, .ro, 0, 0, 65535⟩, ⟨16, 4, .ro, 0, 0, 15⟩, ⟨20, 5, .ro, 0, 0, 31⟩, ⟨25, 1, .ro, 0, 0, 1⟩, ⟨26, 1, .ro, 0, 0, 1⟩, ⟨27, 1, .ro, 0, 0, 1⟩, ⟨28, 1, .ro, 0, 0, 1⟩, ⟨29, 1, .ro, 0, 0, 1⟩, ⟨30, 2, .ro, 0, 0, 3⟩]⟩,
  ⟨0x8, 1, 0x0, 1, 0x0, [⟨0, 16, .rw, 0, 0, 65535⟩]⟩,
  ⟨0xC, 1, 0x0, 1, 0x0, [⟨0, 16, .wo, 0, 0, 65535⟩]⟩,
  ⟨0x10, 1, 0x0, 1, 0x0, [⟨0, 16, .wo, 0, 0, 65535⟩]⟩,
  ⟨0x14, 1, 0x0, 1, 0x0, [⟨0, 16, .rwl, 0, 0, 65535⟩]⟩,
  ⟨0x100, 16, 0x4, 1, 0x0, [⟨0, 2, .rwl, 1, 0, 3⟩, ⟨2, 1, .rwl, 0, 0, 1⟩, ⟨3, 1, .rwl, 1, 0, 1⟩, ⟨4, 2, .rwl, 0, 0, 3⟩]⟩]

/-- The register rows of block 0x16 PAD. -/
def rowsPad : List RegRow := rowsPad0

/-- The register rows of block number `b` of R16. -/
def blockRows : Nat → List RegRow
  | 0 => rowsSys
  | 1 => rowsPwr
  | 2 => rowsTime
  | 3 => rowsTmr
  | 4 => rowsLf
  | 5 => rowsUrx
  | 6 => rowsUtx
  | 7 => rowsRange
  | 8 => rowsZone
  | 9 => rowsCred
  | 10 => rowsRel
  | 11 => rowsAes
  | 12 => rowsTrng
  | 13 => rowsHfr
  | 14 => rowsVlt
  | 15 => rowsQm
  | 16 => rowsHif
  | 17 => rowsFlt
  | 18 => rowsBbx
  | 19 => rowsAcc
  | 20 => rowsWlk
  | 21 => rowsCnt
  | 22 => rowsPad
  | _ => []

/-- The settings a fault source takes at reset (R548): count N, window W with its unit, severe reaction
(0 NOTIFY, 1 FENCE_UNIT, 2 DEGRADE, 3 SAFE_STATE, 4 FATAL), degraded mode bit, base severity (1 MINOR), NOTIFY, fixed. -/
structure SourceRow where
  fid : Nat
  n : Nat
  w : Nat
  unit : Nat
  react : Nat
  mode : Nat
  sev : Nat
  notify : Nat
  fixed : Nat
  deriving DecidableEq, Repr

def faultSources0 : List SourceRow := [
  ⟨0x0000, 3, 60, 2, 3, 0, 1, 1, 1⟩,
  ⟨0x0001, 0, 1, 0, 0, 0, 0, 0, 0⟩,
  ⟨0x0002, 2, 60, 2, 3, 0, 1, 1, 0⟩,
  ⟨0x0003, 0, 1, 0, 0, 0, 0, 0, 0⟩,
  ⟨0x0004, 0, 1, 0, 0, 0, 1, 1, 0⟩,
  ⟨0x0005, 0, 1, 0, 0, 0, 1, 1, 0⟩,
  ⟨0x0006, 0, 1, 0, 0, 0, 0, 1, 0⟩,
  ⟨0x0007, 1, 1, 0, 3, 0, 1, 1, 1⟩,
  ⟨0x0008, 0, 1, 0, 0, 0, 1, 1, 0⟩,
  ⟨0x0009, 0, 1, 0, 0, 0, 1, 1, 0⟩,
  ⟨0x000A, 1, 1, 0, 3, 0, 1, 1, 0⟩,
  ⟨0x000B, 1, 1, 0, 2, 1, 1, 1, 0⟩,
  ⟨0x000C, 1, 1, 0, 2, 2, 1, 1, 0⟩,
  ⟨0x000D, 1, 1, 0, 3, 0, 1, 1, 0⟩,
  ⟨0x000E, 0, 1, 0, 0, 0, 1, 1, 0⟩,
  ⟨0x000F, 0, 1, 0, 0, 0, 1, 1, 0⟩,
  ⟨0x0010, 0, 1, 0, 0, 0, 0, 1, 0⟩,
  ⟨0x0011, 0, 1, 0, 0, 0, 1, 1, 0⟩,
  ⟨0x0012, 3, 60, 1, 3, 0, 1, 1, 0⟩,
  ⟨0x0100, 0, 1, 0, 0, 0, 1, 1, 0⟩]

def faultSources1 : List SourceRow := [
  ⟨0x0101, 0, 1, 0, 0, 0, 1, 1, 0⟩,
  ⟨0x0102, 0, 1, 0, 0, 0, 1, 1, 0⟩,
  ⟨0x0103, 3, 60, 1, 3, 0, 1, 1, 0⟩,
  ⟨0x0104, 2, 10, 2, 3, 0, 1, 1, 0⟩,
  ⟨0x0105, 0, 1, 0, 0, 0, 1, 1, 0⟩,
  ⟨0x0200, 0, 1, 0, 0, 0, 1, 1, 0⟩,
  ⟨0x0201, 3, 60, 2, 2, 5, 1, 1, 0⟩,
  ⟨0x0300, 1, 1, 0, 1, 0, 1, 1, 0⟩,
  ⟨0x0400, 0, 1, 0, 0, 0, 1, 1, 0⟩,
  ⟨0x0401, 0, 1, 0, 0, 0, 1, 1, 0⟩,
  ⟨0x0402, 0, 1, 0, 0, 0, 1, 1, 0⟩,
  ⟨0x0403, 3, 60, 1, 1, 0, 1, 1, 0⟩,
  ⟨0x0404, 0, 1, 0, 0, 0, 1, 1, 0⟩,
  ⟨0x0405, 0, 1, 0, 0, 0, 1, 1, 0⟩,
  ⟨0x0406, 0, 1, 0, 0, 0, 1, 1, 0⟩,
  ⟨0x0407, 0, 1, 0, 0, 0, 1, 1, 0⟩,
  ⟨0x0408, 3, 60, 1, 1, 0, 1, 1, 0⟩,
  ⟨0x0409, 1, 1, 0, 1, 0, 1, 1, 0⟩,
  ⟨0x040A, 0, 1, 0, 0, 0, 1, 1, 0⟩,
  ⟨0x0500, 0, 1, 0, 0, 0, 1, 1, 0⟩]

def faultSources2 : List SourceRow := [
  ⟨0x0501, 0, 1, 0, 0, 0, 1, 1, 0⟩,
  ⟨0x0502, 3, 1, 1, 1, 0, 1, 1, 0⟩,
  ⟨0x0503, 0, 1, 0, 0, 0, 1, 1, 0⟩,
  ⟨0x0504, 0, 1, 0, 0, 0, 0, 1, 0⟩,
  ⟨0x0505, 0, 1, 0, 0, 0, 0, 0, 0⟩,
  ⟨0x0506, 3, 60, 1, 1, 0, 1, 1, 0⟩,
  ⟨0x0600, 3, 60, 1, 1, 0, 1, 1, 0⟩,
  ⟨0x0601, 0, 1, 0, 0, 0, 1, 1, 0⟩,
  ⟨0x0602, 0, 1, 0, 0, 0, 1, 1, 0⟩,
  ⟨0x0603, 0, 1, 0, 0, 0, 0, 0, 0⟩,
  ⟨0x0604, 2, 10, 2, 1, 0, 1, 1, 0⟩,
  ⟨0x0605, 3, 60, 1, 1, 0, 1, 1, 0⟩,
  ⟨0x0606, 0, 1, 0, 0, 0, 0, 0, 0⟩,
  ⟨0x0607, 0, 1, 0, 0, 0, 0, 0, 0⟩,
  ⟨0x0700, 3, 60, 1, 1, 0, 1, 1, 0⟩,
  ⟨0x0701, 3, 60, 1, 1, 0, 1, 1, 0⟩,
  ⟨0x0702, 1, 1, 0, 1, 0, 1, 1, 0⟩,
  ⟨0x0703, 0, 1, 0, 0, 0, 1, 1, 0⟩,
  ⟨0x0704, 0, 1, 0, 0, 0, 0, 1, 0⟩,
  ⟨0x0705, 0, 1, 0, 0, 0, 0, 1, 0⟩]

def faultSources3 : List SourceRow := [
  ⟨0x0800, 0, 1, 0, 0, 0, 1, 1, 0⟩,
  ⟨0x0801, 1, 1, 0, 1, 0, 1, 1, 0⟩,
  ⟨0x0900, 5, 60, 1, 2, 2, 1, 1, 0⟩,
  ⟨0x0901, 0, 1, 0, 0, 0, 1, 1, 0⟩,
  ⟨0x0902, 0, 1, 0, 0, 0, 1, 1, 0⟩,
  ⟨0x0903, 0, 1, 0, 0, 0, 1, 1, 0⟩,
  ⟨0x0904, 1, 1, 0, 2, 2, 1, 1, 0⟩,
  ⟨0x0905, 0, 1, 0, 0, 0, 0, 0, 0⟩,
  ⟨0x0906, 0, 1, 0, 0, 0, 1, 1, 0⟩,
  ⟨0x0907, 0, 1, 0, 0, 0, 1, 1, 0⟩,
  ⟨0x0908, 0, 1, 0, 0, 0, 0, 1, 0⟩,
  ⟨0x0A00, 1, 1, 0, 1, 0, 1, 1, 1⟩,
  ⟨0x0A01, 1, 1, 0, 1, 0, 1, 1, 1⟩,
  ⟨0x0A02, 0, 1, 0, 0, 0, 1, 1, 0⟩,
  ⟨0x0A03, 0, 1, 0, 0, 0, 1, 1, 0⟩,
  ⟨0x0A04, 0, 1, 0, 0, 0, 1, 1, 0⟩,
  ⟨0x0A05, 0, 1, 0, 0, 0, 1, 1, 0⟩,
  ⟨0x0A06, 3, 10, 2, 1, 0, 1, 1, 0⟩,
  ⟨0x0B00, 1, 1, 0, 1, 0, 1, 1, 0⟩,
  ⟨0x0B01, 0, 1, 0, 0, 0, 1, 1, 0⟩]

def faultSources4 : List SourceRow := [
  ⟨0x0B02, 3, 60, 2, 1, 0, 1, 1, 0⟩,
  ⟨0x0C00, 0, 1, 0, 0, 0, 1, 1, 0⟩,
  ⟨0x0C01, 0, 1, 0, 0, 0, 1, 1, 0⟩,
  ⟨0x0C02, 0, 1, 0, 0, 0, 1, 1, 0⟩,
  ⟨0x0C03, 0, 1, 0, 0, 0, 1, 1, 0⟩,
  ⟨0x0C04, 0, 1, 0, 0, 0, 1, 1, 0⟩,
  ⟨0x0D00, 3, 60, 1, 1, 0, 1, 1, 0⟩,
  ⟨0x0D01, 0, 1, 0, 0, 0, 1, 1, 0⟩,
  ⟨0x0D02, 0, 1, 0, 0, 0, 1, 1, 0⟩,
  ⟨0x0D03, 3, 60, 1, 1, 0, 1, 1, 0⟩,
  ⟨0x0D04, 1, 1, 0, 1, 0, 1, 1, 0⟩,
  ⟨0x0E00, 3, 1440, 2, 1, 0, 1, 1, 0⟩,
  ⟨0x0E01, 0, 1, 0, 0, 0, 1, 1, 0⟩,
  ⟨0x0E02, 0, 1, 0, 0, 0, 1, 1, 0⟩,
  ⟨0x0E03, 0, 1, 0, 0, 0, 1, 1, 0⟩,
  ⟨0x0E04, 0, 1, 0, 0, 0, 0, 0, 0⟩,
  ⟨0x0E05, 0, 1, 0, 0, 0, 0, 1, 0⟩,
  ⟨0x0F00, 3, 60, 1, 1, 0, 1, 1, 0⟩,
  ⟨0x0F01, 0, 1, 0, 0, 0, 0, 1, 0⟩,
  ⟨0x0F02, 2, 60, 1, 1, 0, 1, 1, 0⟩]

def faultSources5 : List SourceRow := [
  ⟨0x0F03, 0, 1, 0, 0, 0, 0, 1, 0⟩,
  ⟨0x1000, 0, 1, 0, 0, 0, 1, 1, 0⟩,
  ⟨0x1001, 5, 60, 1, 2, 2, 1, 1, 0⟩,
  ⟨0x1002, 0, 1, 0, 0, 0, 1, 1, 0⟩,
  ⟨0x1003, 0, 1, 0, 0, 0, 0, 1, 0⟩,
  ⟨0x1100, 1, 1, 0, 4, 0, 1, 1, 1⟩,
  ⟨0x1200, 0, 1, 0, 0, 0, 1, 1, 0⟩,
  ⟨0x1201, 0, 1, 0, 0, 0, 0, 0, 0⟩,
  ⟨0x1202, 0, 1, 0, 0, 0, 1, 1, 0⟩,
  ⟨0x1300, 0, 1, 0, 0, 0, 0, 0, 0⟩,
  ⟨0x1301, 0, 1, 0, 0, 0, 0, 0, 0⟩,
  ⟨0x1302, 2, 60, 2, 3, 0, 1, 1, 0⟩,
  ⟨0x1400, 3, 60, 1, 1, 0, 1, 1, 0⟩,
  ⟨0x1401, 0, 1, 0, 0, 0, 0, 0, 0⟩,
  ⟨0x1402, 0, 1, 0, 0, 0, 1, 1, 0⟩,
  ⟨0x1403, 0, 1, 0, 0, 0, 1, 1, 0⟩,
  ⟨0x1500, 3, 60, 2, 1, 0, 1, 1, 0⟩,
  ⟨0x1501, 0, 1, 0, 0, 0, 1, 1, 0⟩,
  ⟨0x1502, 0, 1, 0, 0, 0, 1, 1, 0⟩,
  ⟨0x1600, 1, 1, 0, 3, 0, 1, 1, 0⟩]

def faultSources6 : List SourceRow := [
  ⟨0x1601, 1, 1, 0, 3, 0, 1, 1, 0⟩]

/-- Every fault source of the manual with its reset settings (R543, R548), in ascending FID order. -/
def faultSources : List SourceRow := faultSources0 ++ faultSources1 ++ faultSources2 ++ faultSources3 ++ faultSources4 ++ faultSources5 ++ faultSources6

end Sys2Proof.Machine
end

