-- ==== Sys2Proof/Machine/Sparse.lean ====
section
/-!
DEFINITION. Machine/Sparse.lean: the one canonical form of memory and of the register file: a list of (address, value)
pairs with strictly rising addresses and no entry equal to what an unlisted address reads as.
-/
namespace Sys2Proof.Machine

/-- What address `a` reads as; `d` is what an unlisted address reads as. -/
def sparseGet {α : Type} (d : Nat → α) : List (Nat × α) → Nat → α
  | [], a => d a
  | (k, v) :: l, a => if k = a then v else sparseGet d l a

/-- Address `a` written with `v`, in canonical form. -/
def sparseSet {α : Type} [DecidableEq α] (d : Nat → α) : List (Nat × α) → Nat → α → List (Nat × α)
  | [], a, v => if v = d a then [] else [(a, v)]
  | (k, w) :: l, a, v =>
    if a < k then (if v = d a then (k, w) :: l else (a, v) :: (k, w) :: l)
    else if a = k then (if v = d a then l else (a, v) :: l)
    else (k, w) :: sparseSet d l a v

/-- The canonical form: addresses strictly rising, no entry equal to the default of its address. -/
def sparseWf {α : Type} [DecidableEq α] (d : Nat → α) : List (Nat × α) → Bool
  | [] => true
  | [(k, v)] => v ≠ d k
  | (k, v) :: (k', v') :: l => v ≠ d k && k < k' && sparseWf d ((k', v') :: l)

end Sys2Proof.Machine
end

