-- ==== Sys2Proof/Machine/State.lean ====
section
/-!
DEFINITION. Machine/State.lean: the state of the KH880 as plain data, block by block, and the state after power-on reset.
The default value of a field is its value at reset. Every register of the register summaries is held in `State.regs`
(sparse, canonical; Machine/Regs.lean gives each its reset value), unless its value is a function of another field: such
a register is a view computed when it is read (Machine/Flags.lean). What the registers do not show stands here in a field
of its own, with the rule that gives it.
-/
namespace Sys2Proof.Machine

/-- Why the machine stops: nothing does. The spec gives every command an effect or a status in every state, so no
meaning raises a fault (notes/assumptions/3.md). Safe: a constructor that is never raised stops nothing. -/
inductive Fault where
  /-- Raised by nothing. -/
  | none
  deriving DecidableEq, Repr

/-- Why the machine refuses a command. -/
inductive Refusal where
  /-- Raised by the dispatch for a row without a meaning; safe, the machine stops. No row is left without one. -/
  | notModelled (mnemonic : String)
  deriving DecidableEq, Repr

/-- The unit states of R80 and R590. -/
inductive UnitState | off | starting | on | disabling | restartPending | fenced
  deriving DecidableEq, Repr

/-- A request of a port that the firmware is serving: port (1 SPI, 2 sideband), SEQ and TAG (R473). -/
structure ReqCtx where
  port : Nat
  seq : Nat
  tag : Nat
  deriving DecidableEq, Repr

/-- A reply: to whom, to which opcode, its status (R482) and data. -/
structure Reply where
  master : Master
  op : Nat
  status : Nat
  data : List Byte
  deriving DecidableEq, Repr

/-- A field change waiting for the quiescent boundary of a block. -/
structure Staged where
  block : Nat
  addr : Nat
  lsb : Nat
  width : Nat
  value : Nat
  deriving DecidableEq, Repr

/-! ### TIME (R33 to R60) and TMR (R61 to R71) -/

/-- The servo states of R37. -/
inductive Servo | free | acquiring | locked | holdover
  deriving DecidableEq, Repr

/-- What R43 saves in Lehr at an entry and at a reset. -/
structure SavedTime where
  dev : Nat
  refOff : Int
  rate : Int
  lp : Nat
  ratio : Nat
  rcRatio : Nat
  rcAtSave : Bool
  deriving DecidableEq, Repr

/-- A high word held for a master that has read the low register at `low` (R44). -/
structure Shadow where
  master : Master
  low : Nat
  high : Nat
  deriving DecidableEq, Repr

/-- The servo as it stood before the last REF_SYNC edge, for a command in the edge's own cycle (R41). -/
structure ServoSnap where
  servo : Servo
  good : Nat
  outliers : Nat
  missed : Nat
  lastEdge : Option Nat
  anchorNext : Bool
  assignNext : Bool
  phaseErr : Nat
  /-- STEPPED and OUTLIERS of TIME_STATUS. -/
  stepped : Nat
  outCount : Nat
  slewLeft : Int
  slewPpb : Nat
  rate : Int
  /-- Reference time less device time. -/
  offset : Int
  deriving DecidableEq, Repr

/-- The law by which reference time runs from an instant on, and the quality of a timestamp then (R38, R42): reference time at `at_`
with its part of a tick, the rate and the slew. -/
structure RefMark where
  at_ : Nat
  ref : Nat
  refFrac : Nat
  rate : Int
  slewLeft : Int
  slewPpb : Nat
  quality : Nat
  deriving DecidableEq, Repr

structure TimeState where
  /-- Ticks of 0.4 ns since power-on: the model's own measure of when a command comes (notes/assumptions/5.md). -/
  now : Nat := 0
  /-- Device time (R33). -/
  dev : Nat := 0
  /-- A worker's device time still to be slewed, in 1/10000 tick, and the part of a tick not yet counted (R593). -/
  devLeft : Int := 0
  devFrac : Nat := 0
  /-- Reference time (R34). -/
  ref : Nat := 0
  /-- Part of a reference tick not yet counted, in 1e-9 tick. -/
  refFrac : Nat := 0
  /-- Rate adjustment in ppb (R38). -/
  rate : Int := 0
  /-- Correction still to be slewed, in 1e-9 tick (R38). -/
  slewLeft : Int := 0
  /-- Rate of the slew in ppb. -/
  slewPpb : Nat := 0
  /-- The timing clock runs (P0, P1; R27), from the lock of the PLLs on (R619). -/
  running : Bool := false
  /-- Ticks for which it has run: what the timer channels count (R61, R62). -/
  ran : Nat := 0
  /-- The laws of the last second, the newest first: what an instant that lies back carried (R35, R42, R58). -/
  marks : List RefMark := []
  /-- The 48-bit 32.768 kHz count (R43) and the elapsed part of its present cycle in 1/4096 tick. -/
  lp : Nat := 0
  lpPhase : Nat := 0
  /-- TIME_LP_RATIO and TIME_LP_RC_RATIO. -/
  lpRatio : Nat := 312500000
  rcRatio : Nat := 312500000
  /-- TIME_STATUS.LPX_OK. -/
  lpxOk : Bool := false
  /-- The RC oscillator is the low-power clock now (R42, R43). -/
  rcNow : Bool := false
  servo : Servo := .free
  /-- Consecutive accepted samples within ±1 µs (R37). -/
  good : Nat := 0
  /-- Consecutive outliers (R39). -/
  outliers : Nat := 0
  /-- Expected samples passed with none accepted, and the reference instant of the last due instant counted (R38). -/
  missed : Nat := 0
  dueBase : Nat := 0
  /-- Reference time of the last accepted REF_SYNC edge: the grid (R38). -/
  lastEdge : Option Nat := none
  /-- No edge has been accepted since the last assignment in IMMEDIATE or SAMPLE mode (R38). -/
  anchorNext : Bool := false
  /-- The next edge is assigned to the grid after REF_JUMP (R39). -/
  assignNext : Bool := false
  /-- Device time of the last REF_SYNC edge (R41). -/
  edgeAt : Option Nat := none
  preEdge : Option ServoSnap := none
  /-- Device time at which TIME_SET_REF last took effect (R41). -/
  cmdAt : Option Nat := none
  /-- The value waiting for the next edge (R58, AT_NEXT_PULSE). -/
  pulseRef : Option Nat := none
  /-- TIME_UNCERT at `uncertAt` (device time), from which it grows in HOLDOVER (R40). -/
  uncertBase : Nat := 0
  uncertAt : Nat := 0
  /-- Device time of the entry into HOLDOVER (R57). -/
  holdAt : Nat := 0
  /-- Quality bit 2 (R42), and whether the RC counted part of the interval it covers. -/
  recon : Bool := false
  rcUsed : Bool := false
  saved : Option SavedTime := none
  shadows : List Shadow := []
  deriving DecidableEq, Repr

/-- One calendar slot in use (R45, R59). -/
structure CalSlot where
  target : Nat
  action : Nat
  wake : Bool
  periodic : Bool
  exclusive : Bool
  resources : Nat
  prepLead : Nat
  time : Nat
  duration : Nat
  period : Nat
  arg : Nat
  prepDone : Bool := false
  fired : Bool := false
  /-- Device time at which it last fired, was missed or was skipped (R45), and of its last FIRE delivered (R49). -/
  firedAt : Option Nat := none
  gaveAt : Option Nat := none
  /-- The start of the last occurrence of a periodic slot that has fired: it may still be in progress (R51, R52). -/
  lastAt : Option Nat := none
  /-- Reference time at which its target still stops what the last FIRE started (R150). -/
  stopAt : Option Nat := none
  /-- A wake for the slot has been started (R48). -/
  woken : Bool := false
  /-- The owning block frees the slot, not TIME + DURATION (R45, R220). -/
  ownerFrees : Bool := false
  deriving DecidableEq, Repr

/-- The last fire record of a slot (R46 to R50): its delivery time and quality, whether it fired (0), was missed (1) or was
skipped (2), its target and status, the STEPPED and LATE flags, and the parent FID of a fire missed under a fence. -/
structure FireRec where
  slot : Nat
  target : Nat
  at_ : Nat
  quality : Nat
  kind : Nat
  status : Nat
  stepped : Bool
  late : Bool
  parent : Nat
  deriving DecidableEq, Repr

/-- One timer channel beside its registers: when its count was last brought up to date, in ticks for which the timing clock ran and in
low-power cycles, whether a compare match is still to come since CMP was written or, with TOP below the full range, since the count
moved, and the low words held for a chained pair (R62 to R68). -/
structure TmrChan where
  since : Nat := 0
  sinceLp : Nat := 0
  frac : Nat := 0
  cmpArmed : Bool := true
  /-- The timing-clock cycle of the last RESET edge, and of the last update with UPDF and EN as they stood before it (R69). -/
  resetCyc : Option Nat := none
  /-- Timing-clock cycle of the last software write to CNT (R69). -/
  wrCyc : Option Nat := none
  /-- Its TRGO, or a calendar FIRE addressed to it, is in its pulse of one cycle (R62, R64). -/
  hi : Bool := false
  fire : Bool := false
  upd : Option (Nat × Bool × Bool) := none
  /-- The timing-clock cycle of the last capture, and what TMR_CHn_CAP held before it (R68). -/
  capCyc : Option Nat := none
  capPrev : Nat := 0
  lowCnt : Option Nat := none
  lowTop : Option Nat := none
  lowCmp : Option Nat := none
  deriving DecidableEq, Repr

/-! ### PWR (R507 to R542) -/

/-- The power states of R507. -/
inductive PState | p0 | p1 | p2 | p3 | p4
  deriving DecidableEq, Repr

/-- A power entry in progress (R510 to R512): target, step (1 consent given and waiting to begin, 2 saving and then the commit
window), window cycles done, the low-power count whose edge opens the window, and whether it is a deeper move from P2. -/
structure Entry where
  target : Nat
  step : Nat
  cycle : Nat := 0
  winLp : Nat := 0
  fromP2 : Bool := false
  deriving DecidableEq, Repr

/-- The stages of a wake or of the power-on sequence (R519, R619). -/
inductive WakeStage | refStart | vcoreWait | boot
  deriving DecidableEq, Repr

/-- A wake in progress: source, DETAIL, state left, its instant and low-power count (R518), the instant its stage began, flags of
PWR_WAKE. -/
structure WakeSeq where
  source : Nat
  detail : Nat
  left : Nat
  at_ : Nat
  stage : WakeStage
  stageAt : Nat
  lp : Nat := 0
  powerOn : Bool := false
  reduced : Bool := false
  badImage : Bool := false
  banks : Bool := false
  deriving DecidableEq, Repr

/-- A DVFS change in progress or held: target level, its instant, the request it answers, and whether it is the level restore
after a wake, which answers none (R519, R528). -/
structure Dvfs where
  target : Nat
  at_ : Nat
  master : Master
  ctx : Option ReqCtx
  restore : Bool := false
  deriving DecidableEq, Repr

/-- A PWR_ENTER accepted and waiting for its reply to be read (R538). -/
structure EnterWait where
  target : Nat
  at_ : Nat
  port : Nat
  deriving DecidableEq, Repr

structure PwrState where
  st : PState := .p0
  /-- HIF is operational (R470, R519). -/
  hifUp : Bool := false
  /-- The cores run the firmware (R26): set at BOOT_DONE, cleared by a reset and by a lockstep reset. -/
  fwRun : Bool := false
  /-- The firmware is serving the command queue (R474). -/
  fwServing : Bool := false
  entry : Option Entry := none
  /-- Both cores wait for an interrupt since this instant (R509). -/
  idleSince : Option Nat := none
  /-- Blocks that have refused in the present idle interval (R510). -/
  refusedNow : Nat := 0
  /-- The last refused automatic entry of the present idle interval (R510). -/
  triedAt : Option Nat := none
  enterWait : Option EnterWait := none
  /-- The wake or power-on sequence; power-on reset begins with the start of the reference (R619). -/
  wake : Option WakeSeq := some { source := 0, detail := 0, left := 0, at_ := 0, stage := .refStart, stageAt := 0, powerOn := true }
  lockout : Bool := false
  reduced : Bool := false
  reducedRetries : Nat := 0
  /-- The last start of the reference in reduced function (R521). -/
  reducedAt : Nat := 0
  /-- The DETAIL of each latched level source (R515). -/
  details : List Nat := List.replicate 13 0
  /-- The DVFS level in force (1 to 3), the change in progress, the requests held behind it, oldest first (R530), and the level
  before entry. -/
  level : Nat := 1
  dvfs : Option Dvfs := none
  dvfsHeld : List Dvfs := []
  savedLevel : Nat := 1
  /-- VID[2:0] as driven (R508). -/
  vid : Nat := 0
  /-- LIST retention mode (R525). -/
  list : Bool := false
  /-- Pad groups held at their clamp values (R523). -/
  padsHeld : Nat := 0
  /-- The groups held by SAFE_STATE alone, not by an entry into P3 or P4 (R523, R551, R599). -/
  safeHeld : Nat := 0
  /-- The levels at which GPIO outputs are held (R523, R632). -/
  gpioHeld : Nat := 0
  /-- The isolation clamps are applied (R512). -/
  isolated : Bool := false
  /-- Cause of the last reset (R486). -/
  resetCause : Nat := 0
  /-- Retention SRAM: the register image of the last entry in LIST mode (R526). -/
  image : List (Nat × Word) := []
  imageOk : Bool := true
  /-- The instant the present low-power state was reached and the time asleep of the last one in ms (R539). -/
  asleepAt : Nat := 0
  lastAsleepMs : Nat := 0
  lastWakeUncert : Nat := 0
  /-- Ticks spent in P0 to P4 (PWR_RESIDs). -/
  resid : List Nat := [0, 0, 0, 0, 0]
  /-- PWR_WAKE_TIMER as loaded, and the low-power count at the load (R518). -/
  timerLoad : Nat := 0
  timerLp : Nat := 0
  /-- The first active pulse of WAKE in PATTERN mode: its start and end instants (R517). -/
  wakePulse : Option (Nat × Nat) := none
  wakeIgnoreUntil : Nat := 0
  /-- A wake retry is due at this instant (R520). -/
  retryAt : Option Nat := none
  /-- Faults of failed wakes to be reported at the next completed wake (R520): fault and instant. -/
  heldFaults : List (Nat × Nat) := []
  deriving DecidableEq, Repr

/-! ### QM (R435 to R463) -/

/-- An item of a queue (R437, R441): its bytes, SRC and FLAGS, the cells charged to it, its place in a packed cell
(0 alone, 1 first half with the second free, 2 first half with the second taken, 3 second half) and whether it is the
overflow notice of R451. -/
structure Item where
  bytes : List Byte
  src : Nat
  flags : Nat := 0
  cells : Nat
  half : Nat := 0
  notice : Bool := false
  deriving DecidableEq, Repr

/-- An item that a push port is writing (R443). -/
structure OpenItem where
  queue : Nat
  len : Nat
  data : List Byte
  cells : Nat
  src : Nat
  deriving DecidableEq, Repr

structure PushPort where
  item : Option OpenItem := none
  status : Nat := 0
  bytes : Nat := 0
  deriving DecidableEq, Repr

structure PopPort where
  item : Option Item := none
  status : Nat := 0
  pos : Nat := 0
  failed : Bool := false
  queue : Nat := 0
  len : Nat := 0
  src : Nat := 0
  deriving DecidableEq, Repr

/-- A Q_CONFIG waiting until no item addressed to its queue is open (R453). -/
structure QueueCfg where
  queue : Nat
  cfg : Nat
  quota : Nat
  ct : Nat
  high : Nat
  low : Nat
  deriving DecidableEq, Repr

structure QmState where
  queues : List (List Item) := List.replicate 128 []
  push : List PushPort := List.replicate 8 {}
  pop : List PopPort := List.replicate 8 {}
  waiting : List QueueCfg := []
  /-- A record of queue 0 has been lost since it was last non-full, how many, and the first lost code (R451). -/
  evtLost : Bool := false
  lost : Nat := 0
  firstLost : Nat := 0
  /-- Event items raised in P2 to P4, with their SRC, which queue 0 takes at the next wake (notes/assumptions/12.md). -/
  heldEvts : List (List Byte × Nat) := []
  deriving DecidableEq, Repr

/-! ### HIF and ACC (R464 to R506) -/

/-- A request accepted on a port and not yet answered (R471, R473). -/
structure PendReq where
  seq : Nat
  tag : Nat
  op : Nat
  params : List Byte
  at_ : Nat
  deriving DecidableEq, Repr

/-- One of the two ports of HIF. -/
structure Port where
  pending : Option PendReq := none
  reply : Option (List Byte) := none
  /-- The reply has been read once (R477). -/
  read : Bool := false
  rejected : Bool := false
  deriving DecidableEq, Repr

/-- A program, erase or read of the flash in progress: kind (0 read, 1 page program, 2 sector erase), flash address, the
bytes it programs, whether it is suspended (R24), and what waits for it (a tag the owning block reads). -/
structure FlashOp where
  kind : Nat
  addr : Nat
  data : List Byte
  owner : Nat
  suspended : Bool := false
  deriving DecidableEq, Repr

/-- A reply of the firmware waiting for room in queue 2 (R473). -/
structure HeldReply where
  ctx : ReqCtx
  status : Nat
  data : List Byte
  deriving DecidableEq, Repr

structure HifState where
  spi : Port := {}
  side : Port := {}
  /-- The last reply formed for a command, whoever sent it. -/
  lastReply : Option Reply := none
  held : List HeldReply := []
  /-- The sequence number of the last request (R473). -/
  seq : Nat := 0
  /-- What the device drove during the last read transaction or transfer (R469, R479). -/
  out : List Byte := []
  flash : List FlashOp := []
  /-- Discovery has found a supported flash device (R497, R498). -/
  flashOk : Bool := true
  /-- SCL is held low after an address match, since this instant (R480). -/
  stretch : Option Nat := none
  /-- A SOFT_RESET accepted: when, and the port whose reply it waits for (R487). -/
  softReset : Option (Nat × Nat) := none
  /-- Targets whose table has a parity error not yet written again (R494). -/
  accParity : List Nat := []
  deriving DecidableEq, Repr

/-! ### FLT (R543 to R575) and BBX (R559 to R574) -/

/-- A fault event reported to the collector and not yet taken: FID, INSTANCE, source data, timestamp (none: now),
quality bit 2 forced, and injection (react, override). -/
structure Raised where
  fid : Nat
  inst : Nat := 0xFF
  data : List Byte := []
  ts : Option Nat := none
  recon : Bool := false
  deriving DecidableEq, Repr

/-- The collector's state of one source (R545, R550, R555): the low-power counts of its last 16 counted events, its
latch (0 clear, 1 SEVERE, 2 FATAL), what it holds, and the same for injected events. -/
structure SrcState where
  fid : Nat
  times : List Nat := []
  /-- WCOUNT at the last counted event, and whether the source has reported since its last clear. -/
  wcount : Nat := 0
  out : Bool := false
  latch : Nat := 0
  fence : Bool := false
  safe : Bool := false
  mode : Option Nat := none
  injTimes : List Nat := []
  injLatch : Nat := 0
  injFence : Bool := false
  injSafe : Bool := false
  injMode : Option Nat := none
  lastRef : Nat := 0
  /-- INSTANCE of the records that latched it, by real and by injected events (R553). -/
  inst : Nat := 0xFF
  injInst : Nat := 0xFF
  deriving DecidableEq, Repr

/-- A fenced unit, or one within 10 µs of its release, with the FID that decided it (R554). -/
structure FenceRec where
  block : Nat
  fid : Nat
  /-- The end of the shadow interval once released. -/
  until_ : Option Nat := none
  injected : Bool := false
  deriving DecidableEq, Repr

/-- An FLT_INJECT in progress: events still to come of those asked for, and the reply it owes (R575). -/
structure Injection where
  fid : Nat
  react : Bool
  override_ : Option Nat
  left : Nat
  count : Nat
  inst : Nat
  data : List Byte
  at_ : Nat
  master : Master
  ctx : Option ReqCtx
  deriving DecidableEq, Repr

structure FltState where
  raised : List Raised := []
  /-- Events of Lehr held while the device is in P2 to P4 (R547). -/
  held : List Raised := []
  srcs : List SrcState := []
  fences : List FenceRec := []
  /-- The FID that entered the safe state, and the end of its shadow (R551, R554). -/
  safe : Option Nat := none
  safeInjected : Bool := false
  safeShadow : Option (Nat × Nat) := none
  inject : Option Injection := none
  /-- The degraded modes whose entry stands recorded (R553), and under which FID (0xFFFF: its condition) and whether injected. -/
  modes : Nat := 0
  modeBy : List (Nat × Bool) := List.replicate 6 (0xFFFF, false)
  deriving DecidableEq, Repr

/-- A record waiting in the Lehr buffer of BBX: its 32 bytes, the source it is counted under and whether it is protected
(R560, R562). -/
structure BbxRec where
  bytes : List Byte
  key : Nat
  protected_ : Bool
  deriving DecidableEq, Repr

/-- What BBX keeps of one source (R562): the low-power counts of its last 8 records, and the records refused with the
beginning of their 60 s interval, as a low-power count and in reference time. -/
structure BbxSrc where
  key : Nat
  times : List Nat := []
  startLp : Nat := 0
  startRef : Nat := 0
  refused : Nat := 0
  deriving DecidableEq, Repr

structure BbxState where
  ready : Bool := false
  erasing : Bool := false
  half : Nat := 0
  slot : Nat := 1
  gen : Nat := 0
  erasesA : Nat := 0
  erasesB : Nat := 0
  buf : List BbxRec := []
  tokens : Nat := 256
  tickLp : Nat := 0
  srcs : List BbxSrc := []
  lostSinceHalf : Nat := 0
  deriving DecidableEq, Repr

/-! ### AES, Mordant and the key slots (R324 to R333) -/

/-- A key slot that holds a key (R330). -/
structure KeySlot where
  key : List Byte
  usage : Nat
  users : Nat
  kek : Nat
  deriving DecidableEq, Repr

/-- An engine beside its registers: the key that stands expanded (slot number, 64 for the direct key; R325), and the block
in progress: its result and the instant it completes. -/
structure Engine where
  expanded : Option Nat := none
  run : Option (List Byte × Nat) := none
  deriving DecidableEq, Repr

/-- An unwrap of Mordant in progress (R331): the slot as it will stand, or `none` where the check value is wrong; the instant it started,
and whether a clear of the slot waits for its end (R332). -/
structure UnwrapRun where
  target : Nat
  wrapped : List Byte
  result : Option KeySlot
  at_ : Nat := 0
  clear : Bool := false
  deriving DecidableEq, Repr

/-- A request of the Mordant registers that waits for the unwrap in progress (R332): MRD_CFG and MRD_IN as its GO found them. -/
structure UnwrapAsk where
  target : Nat
  kek : Nat
  usage : Nat
  users : Nat
  wrapped : List Byte
  replace : Bool
  master : Master
  deriving DecidableEq, Repr

structure AesState where
  slots : List (Option KeySlot) := List.replicate 64 none
  eng : List Engine := List.replicate 2 {}
  mrd : Option UnwrapRun := none
  mrdWait : Option UnwrapAsk := none
  /-- The slots have been zeroed as a whole and the firmware has not reinstalled its keys since (R333). -/
  wiped : Bool := true
  deriving DecidableEq, Repr

/-! ### CNT (R334 to R339) and TRNG (R340 to R350) -/

/-- An increment waiting: the counter, who asked (0 command, 1 CNT_INC, 2 REL, 3 CRED, 4 FW_SWITCH), for which master and
reply, and bytes its owner needs when it completes. -/
structure CntReq where
  n : Nat
  src : Nat
  master : Master
  ctx : Option ReqCtx
  aux : List Byte := []
  deriving DecidableEq, Repr

structure CntState where
  vals : List Nat := List.replicate 64 0
  /-- The ceilings of the RESERVED counters (R338). -/
  ceil : List Nat := List.replicate 64 0
  /-- The next record of each counter, 0 to 15 (R336), and the half waiting for its erase. -/
  pos : List Nat := List.replicate 64 0
  erase : List (Option Nat) := List.replicate 64 none
  pend : List CntReq := []
  /-- CNT_INC_RESULT, one word per master (R359). -/
  results : List Nat := List.replicate 7 0
  /-- Counters whose first refusal has been reported (R335). -/
  told : List Nat := []
  deriving DecidableEq, Repr

/-- A request to the generator (R347): rank, consumer (1 RANGE, 2 LF, 3 VLT, 4 TRNG_FIFO, 5 RNG_READ) with its tag, the
master and reply of an RNG_READ, bytes still to come and bytes generated. -/
structure RngReq where
  rank : Nat
  kind : Nat
  tag : Nat
  master : Master
  ctx : Option ReqCtx
  left : Nat
  got : List Byte := []
  deriving DecidableEq, Repr

/-- The state of the DRBG (R343): its AES-256 key and its counter block. -/
structure Drbg where
  key : List Byte
  v : List Byte
  deriving DecidableEq, Repr

structure RngState where
  /-- The DRBG; `none` while it is not instantiated. -/
  drbg : Option Drbg := none
  /-- The reseed pool once it is full: three conditioner outputs (R344). -/
  pool : Option (List Byte) := none
  reqs : List RngReq := []
  /-- Start of the present start-up and its cause, or the cause of the next (R345, R353). -/
  startAt : Nat := 0
  cause : Nat := 0
  /-- The instant from which the present start-up gathers raw bits (R345). -/
  gatherAt : Nat := 0
  /-- The master of the RNG_READ served last at rank 5 (R347). -/
  lastHost : Option Master := none
  /-- The instant since which the reseed pool has been filling (R344). -/
  poolAt : Nat := 0
  fifo : List Nat := []
  deriving DecidableEq, Repr

/-! ### Region table (R179 to R181) -/

/-- A band of the region table (R179). -/
structure Band where
  lo : Nat
  hi : Nat
  dutyUs : Nat
  maxPwr : Nat
  lbt : Bool := false
  lbtUs : Nat := 0
  lbtThr : Nat := 0
  deriving DecidableEq, Repr

/-- The region table as the check at reset left it (R180): `ok` is CHECK_OK; where it is false no band is used. -/
structure Region where
  ok : Bool
  /-- The LOCK word is written (R3). -/
  locked : Bool
  id : Nat
  version : Nat
  lfMin : Nat
  lfMax : Nat
  bands : List Band
  /-- NBANDS as the table has it (R180, R196). -/
  nbands : Nat
  deriving DecidableEq, Repr

/-- No table has been checked since power-on reset. -/
def Region.blank : Region :=
  { ok := false, locked := false, id := 0, version := 0, lfMin := 0, lfMax := 0, bands := [], nbands := 0 }

/-! ### LF (R72 to R118) -/

/-- An entry of a pattern (R81): channel, phase in 1/256 cycle, amplitude in mA. -/
structure LfEntry where
  ch : Nat
  phase : Nat
  amp : Nat
  deriving DecidableEq, Repr

/-- A pending LF_SEND (R99, R114): `nb` is its base nonce once drawn. -/
structure LfSend where
  id : Nat
  typ : Nat
  pats : List Nat
  preempt : Bool
  atTime : Option Nat
  nb : Option (List Byte)
  deriving DecidableEq, Repr

/-- One part of a diagnostic (R102): its channel, the test (0 STATIC, 1 a SWEEP point, 2 CURRENT), its carrier and its ticks. -/
structure DiagPart where
  ch : Nat
  test : Nat
  freq : Nat
  ticks : Nat
  deriving DecidableEq, Repr

/-- A transmission in progress: kind (0 send, 1 handle telegram, 2 poll burst, 3 diagnostic), the send it carries, the
patterns of its telegram and slots as they stood at its start (an empty list is an empty slot), SLOT_MASK so far, its start,
carrier, the carrier cycle counts at which its preburst, its telegram and its end gap end, its length in cycles, the cycle
it was cut at, its LF charge in quarter mW, the bits it carries after the preburst in the order sent (R84, R85, R91),
RAMP_CYC and PHASE_TRIM of every channel at its start (R73, R78), and the parts of a diagnostic (R102). -/
structure LfTx where
  kind : Nat
  send : LfSend
  tel : List LfEntry
  slots : List (List LfEntry)
  mask : Nat
  start : Nat
  freq : Nat
  pre : Nat
  body : Nat
  gap : Nat
  len : Nat
  cut : Option Nat := none
  charge : Nat := 0
  bits : List Bool := []
  ramps : List Nat := []
  trims : List Nat := []
  parts : List DiagPart := []
  deriving DecidableEq, Repr

/-- A diagnostic in progress (R102, R117): once it has begun, the parts still to come when its transmission last began, and the
mask of the channels it tests. -/
structure LfDiag where
  id : Nat
  chmask : Nat
  tests : Nat
  span : Nat
  step : Nat
  left : Option (List DiagPart) := none
  tested : Nat := 0
  deriving DecidableEq, Repr

/-- The response window of the last burst (R91, R143): its start and end, whether a hit came and at what RSSI, whether a UHF
transmission or a fault voids it, whether the sentinel is on, whether a sync was accepted in it, and whether its RSSI stayed
above SENT_JAM_THR. -/
structure PollWindow where
  start : Nat
  stop : Nat
  hit : Option Int := none
  /-- The timestamp of the hit. -/
  hitRef : Nat := 0
  void : Bool := false
  on : Bool := false
  /-- The sync word the sentinel compares with in this window (R136, R142). -/
  sync : Nat := 0
  /-- The end of the last frame taken in the window, where it runs past the window. -/
  busy : Nat := 0
  /-- The burst the window follows. -/
  burst : Option LfTx := none
  deriving DecidableEq, Repr

/-- A HANDLE_IN edge in its filter or waiting for its telegram (R97): input, instant, reference timestamp and its quality byte (R42). -/
structure HandleEdge where
  idx : Nat
  at_ : Nat
  ref : Nat
  quality : Nat := 0
  nb : List Byte := []
  deriving DecidableEq, Repr

/-- A transmission that has ended since the firmware last looked: its SEND_ID (0xFFFF a handle telegram), outcome and status
as LF_TX_DONE gives them, its end, and the NB it carried. -/
structure LfFin where
  id : Nat
  outcome : Nat
  status : Nat
  at_ : Nat
  nb : List Byte
  /-- SLOT_MASK of LF_TX_DONE (R83, R107). -/
  mask : Nat := 0
  deriving DecidableEq, Repr

structure LfState where
  fin : List LfFin := []
  chans : List UnitState := List.replicate 12 .off
  /-- Causes of unavailability of each channel (R103): 1 a fault that only STATIC clears, 2 LF_VLF. -/
  unavail : List Nat := List.replicate 12 0
  pats : List (List LfEntry) := List.replicate 32 []
  /-- Pattern changes waiting for the quiescent boundary (R82). -/
  patPend : List (Nat × List LfEntry) := []
  sends : List LfSend := []
  sendId : Nat := 0
  diagId : Nat := 0
  tx : Option LfTx := none
  /-- The last transmission that ended of itself or was cut: its carrier falls, or is quenched, after its end (R78). -/
  last : Option LfTx := none
  diag : Option LfDiag := none
  /-- Back-off (R93): current period, misses, count, reference RSSI. -/
  period : Nat := 250
  misses : Nat := 0
  count : Nat := 0
  rssiRef : Option Int := none
  window : Option PollWindow := none
  /-- A deferred burst starts at this reference time (R92). -/
  deferred : Option Nat := none
  /-- The low-power count at the last restart event, and whether IDLE_STOP waits for the present window (R94). -/
  restartLp : Nat := 0
  idleWait : Bool := false
  /-- Register changes waiting for the end of the response window (R111). -/
  pollPend : List Staged := []
  nonce : Option (List Byte) := none
  /-- HANDLE_IN edges in their filter, and the edge whose telegram waits or plays (R97). -/
  filt : List HandleEdge := []
  htel : Option HandleEdge := none
  /-- Current calibration (R104): temperature and low-power count of each channel's last, and the due channels, each with
  the calendar slot of its place. Every channel is due at start-up. -/
  calTemp : List (Option Int) := List.replicate 12 none
  calAt : List Nat := List.replicate 12 0
  calDue : List (Nat × Option Nat) := (List.range 12).map fun n => (n, none)
  /-- Channels whose start-up calibration is still to come (R104), the CAL_ID of the RF_CALIBRATE that made each channel due (0xFFFF
  none), whether a foreground run's SAVE waits for them, and whether a new result waits to be saved (R188, R199). -/
  calFirst : List Nat := List.range 12
  calIds : List Nat := List.replicate 12 0xFFFF
  calFgSave : Bool := false
  calNew : Bool := false
  /-- The phase correction of each channel's current loop, in 1/256 cycle (R76). -/
  corr : List Int := List.replicate 12 0
  /-- The generator had passed its start-up tests when the core domain last lost power (R95, R96). -/
  genPassed : Bool := false
  deriving DecidableEq, Repr

/-! ### URX (R119 to R161) -/

/-- A channel (R123 to R127): phase (0 preamble search, 1 comparing with the sync word, 2 in a frame), the instant it
began, the end of the preamble, the reference timestamp and quality of the frame instant, and the sync bit errors. -/
structure UrxChan where
  phase : Nat := 0
  /-- The byte that follows the sync word. -/
  hdr : Nat := 0
  at_ : Nat := 0
  preEnd : Nat := 0
  ref : Nat := 0
  quality : Nat := 0
  errs : Nat := 0
  /-- ADC A or B has been out of service during the frame in progress (R128). -/
  noA : Bool := false
  noB : Bool := false
  deriving DecidableEq, Repr

/-- A window (R149): its state, whether a stop waits for the end of STARTING, whether it starts after a loss of lock, the
cause of its last change, JAM and since when, and the calendar slot that started it. -/
structure UrxWin where
  st : UnitState := .off
  stop : Bool := false
  pll : Bool := false
  cause : Nat := 0
  jam : Bool := false
  jamAt : Nat := 0
  slot : Option Nat := none
  /-- The jamming monitor (R144): when its blocks began to count, the block the present run may start from, the blocks skipped
  since, the first block not yet looked at for skipping, and since when a channel of the window is in a frame. -/
  onAt : Nat := 0
  runBlk : Nat := 0
  skipped : Nat := 0
  skipTo : Nat := 0
  frameAt : Option Nat := none
  deriving DecidableEq, Repr

/-- Gather (R146 to R148): GSTATE, CAPTURE_ID held and next, what is armed, the trigger's instant once it has come, the
base of the held samples among the free values, the trigger's sample index, and the read in progress. -/
structure Gather where
  st : Nat := 0
  id : Nat := 0
  next : Nat := 0
  source : Nat := 0
  trigger : Nat := 0
  arg : Nat := 0
  pre : Nat := 0
  armedAt : Nat := 0
  trigAt : Option Nat := none
  base : Nat := 0
  index : Nat := 0
  queue : Nat := 0
  item : Nat := 0
  readAt : Nat := 0
  deriving DecidableEq, Repr

structure UrxState where
  wins : List UrxWin := List.replicate 4 {}
  chans : List UrxChan := List.replicate 64 {}
  /-- ADC A and B out of service, and whether their self-check runs (R128). -/
  adcBad : List Bool := [false, false]
  adcCheck : List Bool := [false, false]
  bypass : Bool := false
  /-- An engagement or a release of bypass that waits for the end of the frames in progress (R129). -/
  bypassWant : Option Bool := none
  gather : Gather := {}
  /-- The RF PLL has lost lock (R29, R153). -/
  pllLost : Bool := false
  /-- R145 has fired and no unjammed window has come since, and when. -/
  sentJam : Bool := false
  sentJamAt : Nat := 0
  sentBad : Bool := false
  deriving DecidableEq, Repr

/-! ### UTX (R162 to R201) -/

/-- The words UTX_FEM_ON, UTX_FEM_OFF and UTX_FEM_CTRL of a sequence (R165). -/
structure FemSeq where
  on : Nat := 0
  off : Nat := 0
  ctl : Nat := 0
  deriving DecidableEq, Repr

/-- The last FEM sequence (R165): its words, T and E, and whether coexistence asks for the arbiter and with priority (R176). -/
structure FemRun where
  seq : FemSeq
  t : Nat
  e : Nat
  high : Bool
  deriving DecidableEq, Repr

/-- A held send (R169, R197): trigger (0 ASAP, 1 AT_TIME, 2 AFTER_RX), the entry, POWER and FORMAT asked for, bit rate and
bits on the air (CW: rate 1,000,000 and its microseconds), half of the occupied span in Hz (R164), ON_LNA_LEAD in force at
acceptance in 0.1 µs, the busy interval of an AT_TIME send in reference time, and of an AFTER_RX send the nominal end N of
its trigger frame, the instant it was committed, and whether its CRC failed or the frame was lost with the RF PLL. -/
structure UtxSend where
  id : Nat
  trig : Nat
  prio : Bool
  entry : Nat
  power : Nat
  format : Nat
  rate : Nat
  bits : Nat
  halfSpan : Nat
  rxCh : Nat
  tol : Nat
  start : Nat
  lead : Nat
  from_ : Nat := 0
  to_ : Nat := 0
  trigN : Option Nat := none
  commit : Nat := 0
  crcFail : Bool := false
  lost : Bool := false
  /-- The bytes to send: HDR and payload of a KAP frame, or a raw bit string (R197); once on the air, every byte of the frame (R170). -/
  data : List Byte := []
  /-- The modulation (R135, R170): MOD as URX_CHn_CFG.MOD has it, 3 for unmodulated carrier, and the deviation in Hz. -/
  mod : Nat := 0
  dev : Nat := 0
  /-- The FEM words in force at acceptance, which an AFTER_RX send keeps (R201). -/
  fem : FemSeq := {}
  /-- The instant from which it may hop, where its acceptance stopped a step of the synthesiser (R175). -/
  preAt : Option Nat := none
  deriving DecidableEq, Repr

/-- The send whose turn has come: phase (0 hop, 1 listening, 2 waiting for grant, 3 on air), the hop and lock instants and
whether the lock timeout has passed, the instant T asked for, the start of the present listen, since when it waits for a
clear channel or grant, and what its completion record shows. -/
structure UtxTx where
  send : UtxSend
  phase : Nat
  hopAt : Nat
  lockAt : Nat
  lockLate : Bool := false
  reqT : Option Nat
  listenFrom : Nat := 0
  since : Option Nat := none
  band : Nat
  power : Nat
  clip : Bool
  stored : Bool
  /-- It listens before it talks (R178). -/
  listen : Bool := false
  overrode : Bool := false
  /-- The instant of the first bit at the antenna, and of its launch at the ball (R36). -/
  tAt : Nat := 0
  launchAt : Nat := 0
  eAt : Nat := 0
  tRef : Nat := 0
  slip : Int := 0
  quality : Nat := 0
  bin : Nat := 0
  deriving DecidableEq, Repr

/-- A calibration step that is due (R185): item, entry or port, CAL_ID (0xFFFF none), its calendar slot, and whether it fell
due in P2 to P4. -/
structure CalDue where
  item : Nat
  idx : Nat
  calId : Nat
  slot : Option Nat := none
  asleep : Bool := false
  deriving DecidableEq, Repr

/-- The running step (R183); `again` says that UTX_HOP_TABLE has made its entry due anew meanwhile (R198). -/
structure CalRun where
  due : CalDue
  start : Nat
  dur : Nat
  fg : Bool
  again : Bool := false
  deriving DecidableEq, Repr

/-- A calibration item (R184, R200): VALID, STALE, the temperature and low-power count of its last result. -/
structure CalItem where
  valid : Bool := false
  stale : Bool := true
  temp : Int := 0
  at_ : Nat := 0
  deriving DecidableEq, Repr

/-- What the calibration store holds of an item: its temperature, the low-power count of the save, and for SYNTH the words
of the table (R163, R188). -/
structure CalStored where
  temp : Int
  at_ : Nat
  words : List Word := []
  deriving DecidableEq, Repr

/-- A send that has ended since the firmware last looked: SEND_ID, outcome, status, the instant. -/
structure UtxFin where
  id : Nat
  outcome : Nat
  status : Nat
  at_ : Nat
  deriving DecidableEq, Repr

structure UtxState where
  fin : List UtxFin := []
  sends : List UtxSend := []
  sendId : Nat := 0
  tx : Option UtxTx := none
  /-- The transmitter is busy until this instant (R169). -/
  freeAt : Nat := 0
  /-- The last blanking of reception (R166). -/
  blankFrom : Nat := 0
  blankTo : Nat := 0
  /-- The entry on which the synthesiser is locked. -/
  synth : Option Nat := none
  /-- The last FEM sequence of a transmission (R165). -/
  fem : Option FemRun := none
  /-- The level at COEX_GNT (R176). -/
  gntPin : Bool := false
  /-- When the RF PLL last regained lock (R192). -/
  pllAt : Nat := 0
  /-- An ADC result that waits for the end of the frames on its port (R188). -/
  adcHeld : Option CalItem := none
  items : List CalItem := List.replicate 5 {}
  /-- The low-power count of each entry's last calibration. -/
  entAt : List Nat := List.replicate 128 0
  due : List CalDue := []
  run : Option CalRun := none
  /-- Steps of a foreground run still to come, its items and its SAVE flag (R199). -/
  fg : List CalDue := []
  fgItems : Nat := 0
  fgSave : Bool := false
  calId : Nat := 0
  stored : List (Option CalStored) := List.replicate 5 none
  /-- Items that CAL_STAGE is to replace at their boundary: the item, and whether by the OTP trims (R610). -/
  back : List (Nat × Bool) := []
  /-- The duty bins of each band, the present bin first, its number and the low-power count of its start, and the bands
  whose first refusal in it has been reported (R182). -/
  bins : List (List Nat) := List.replicate 8 (List.replicate 61 0)
  binNo : Nat := 0
  binLp : Nat := 0
  told : List Nat := []
  deriving DecidableEq, Repr

/-! ### RANGE and ZONE (R202 to R239) -/

/-- A tone measured in a run (R213, R214): its index, the phases of the returned and the own tone in 1/65536 cycle and the
SNR in 0.25 dB. -/
structure Tone where
  i : Nat
  psi : Nat
  beta : Nat
  snr : Nat
  deriving DecidableEq, Repr

/-- The armed or running run (R209, R219, R235): its options, the plan in force, O as an instant and in reference time once
fixed, its calendar slot, how far it has come (0 armed, 1 slot begun, 2 burst sent, 3 window past; tone steps done in
`k`), the random start phases, and what it has measured. -/
structure RangeRun where
  id : Nat
  mode : Nat
  skipRtt : Bool
  skipTones : Bool
  workers : Bool
  rep : Bool
  rxCh : Nat
  zone : Option (Nat × Nat)
  org : Nat
  seed : List Byte
  chips : List Byte
  f0 : Nat
  sp : Nat
  n : Nat
  first : Nat
  rttEntry : Nat
  power : Nat
  delay : Nat
  trig : Option Nat := none
  o : Option (Nat × Nat) := none
  slot : Option Nat := none
  stage : Nat := 0
  k : Nat := 0
  rnd : List Byte := []
  b2 : Option (Nat × Nat) := none
  eps : Int := 0
  tones : List Tone := []
  dsum : List (Option Nat) := [none, none, none, none]
  /-- The workers that were sent the tone order (R224), as a mask. -/
  told : Nat := 0
  /-- An abort that waits for the next tone boundary, since when (R219). -/
  abortAt : Option Nat := none
  deriving DecidableEq, Repr

/-- A ranging transmission on the air (R209, R210, R221): the frequency of each chip of a burst or of the tone, in Hz, what the base
adds to the tone's start phase in 1/256 cycle, the POWER code, and the instant of the launch, which comes before that at the antenna
plane by the delay of the external path (R36). -/
structure RangeTx where
  hz : List Nat
  phase : Nat
  power : Nat
  launchAt : Nat := 0
  deriving DecidableEq, Repr

structure RangeState where
  run : Option RangeRun := none
  /-- The last transmission of a run. -/
  air : Option RangeTx := none
  nextId : Nat := 0
  /-- The last four results in the RANGE_RESULT layout, newest first (R236). -/
  results : List (List Byte) := []
  /-- RUN_ID and run end (reference time) of the last four runs, newest first. -/
  ends : List (Nat × Nat) := []
  deriving DecidableEq, Repr

/-- One point of a field map (R203). -/
structure MapPoint where
  zone : Nat
  m : List Nat
  deriving DecidableEq, Repr

/-- A field map (R203). -/
structure FieldMap where
  freq : Nat
  id : Nat
  pats : List Nat
  pts : List MapPoint
  deriving DecidableEq, Repr

/-- A solve in progress (R205, R206): the map at its start, when, the slot values and patterns, and the reply it owes. -/
structure Solve where
  map : Option FieldMap
  out : List Nat
  at_ : Nat
  vals : List Nat
  pats : List Nat
  master : Master
  ctx : Option ReqCtx
  query : Bool
  deriving DecidableEq, Repr

structure ZoneState where
  map : Option FieldMap := none
  /-- The copy in force (0 A, 1 B) and its sequence number (R204). -/
  copy : Nat := 1
  seq : Nat := 0
  /-- Patterns left out under R82 with FORCE. -/
  out : List Nat := []
  solve : Option Solve := none
  /-- The staged image: TOTAL and the bytes so far (R239); `none` before a BEGIN. -/
  stage : Option (Nat × List Byte) := none
  /-- A committed map being written, and whether its copy has been written and read back well (R207). -/
  pend : Option (FieldMap × List Byte) := none
  written : Bool := false
  deriving DecidableEq, Repr

/-! ### CRED (R240 to R289) -/

/-- A directory row write in progress (R244): the row, its new bytes, and what it completes: 0 CRED_ADD, 1 CRED_REMOVE, 2 a
counter, 3 a promotion, 4 CRED_POP_LOAD DELETE; with the reply it owes. -/
structure RowWrite where
  idx : Nat
  row : List Byte
  kind : Nat
  master : Master := .m0
  ctx : Option ReqCtx := none
  deriving DecidableEq, Repr

/-- A lookup waiting for the engine (R249): who asked (0 CRED_LK_CMD, 1 the attempt, 2 the tap flow), the KEY_ID, the slot
for the key, and whether it stops before the unwrap. -/
structure LookReq where
  who : Nat
  id : List Byte
  kslot : Nat
  noUnwrap : Bool
  deriving DecidableEq, Repr

/-- What a lookup found (R249, R255): its request, its status, its source (0 none, 1 directory, 2 population), the index, the
first 64 bytes of the entry or blob, and the stored counter. -/
structure LookRes where
  req : LookReq
  status : Nat
  source : Nat := 0
  index : Nat := 0
  row : List Byte := []
  ctr : Nat := 0
  deriving DecidableEq, Repr

/-- The CRED_POP_LOAD operation whose flash write is in progress (R274, R284): its OP, the reply it owes, and for ADD the
index entry still to be programmed: its flash address and value. -/
structure PopOp where
  op : Nat
  master : Master
  ctx : Option ReqCtx
  index : Nat := 0
  entry : Option (Nat × Nat) := none
  key : List Byte := []
  /-- A fence has ended the command: the write in progress goes on, and nobody is answered any more (R267, R277). -/
  told : Bool := false
  deriving DecidableEq, Repr

/-- A row of the lock-out table (R269, R271): low-power counts of the counted failures and of the last one, and the end of
the lock. -/
structure LockRow where
  id : List Byte
  fails : List Nat := []
  last : Nat := 0
  until_ : Option Nat := none
  deriving DecidableEq, Repr

/-- A CRED_REVOKE_EPOCH under way (R285). -/
structure EpochOp where
  issuer : Nat
  target : Nat
  master : Master
  ctx : Option ReqCtx
  deriving DecidableEq, Repr

structure CredState where
  rows : List RowWrite := []
  looks : List LookReq := []
  /-- Lookups of the firmware that have completed and that it has not yet taken. -/
  found : List LookRes := []
  /-- The eviction cursor (R273). -/
  cursor : Nat := 0
  /-- The revocation map is being loaded (R251). -/
  mapLoading : Bool := true
  /-- A full rebuild (R275): 0 none, 1 erasing, 2 taking data, 3 verifying; and the header to be programmed. -/
  build : Nat := 0
  header : List Byte := []
  popFailed : Bool := false
  pop : Option PopOp := none
  epoch : Option EpochOp := none
  /-- The KEY_IDs of exchanges in progress, each with whether a change has taken it out of use since its lookup (R272). -/
  held : List (List Byte × Bool) := []
  /-- The lock-out table and the global state (R269 to R271). -/
  locks : List LockRow := []
  fails : List Nat := []
  lockedUntil : Option Nat := none
  deriving DecidableEq, Repr

/-! ### AUTH: the access attempt (R256 to R267, R286, R287) -/

/-- An answer of a round (R262): its channel, frame instant (ticks, reference time), and bytes after the sync word. -/
structure AuthAnswer where
  ch : Nat
  at_ : Nat
  ref : Nat
  bytes : List Byte
  /-- Zone and confidence of its solve, once made (R206). -/
  zone : Option (Nat × Nat) := none
  deriving DecidableEq, Repr

/-- A selected key (R262): its answer, its lookup, the key slot, and what its exchange has shown. -/
structure AuthKey where
  ans : AuthAnswer
  look : LookRes
  kslot : Nat
  status : Nat := 0
  zone : Nat := 0xFF
  conf : Nat := 0
  kstat : Nat := 0
  ctr : Nat := 0
  verdict : Nat := 0xFF
  dist : Nat := 0
  authed : Bool := false
  told : Bool := false
  run : Nat := 0xFFFF
  /-- The order in which the exchanges of the attempt ended. -/
  order : Nat := 0
  deriving DecidableEq, Repr

/-- An attempt (R262): its origin in reference time with the quality of that timestamp and in ticks, what it sends, the round,
and its stage: 0 the telegram is to be sent, 1 it is on its way, 2 the answer window is open, 3 answers are being checked,
4 the next exchange begins, 5 BASE_PROOF is on its way, 6 KEY_PROOF is awaited, 7 the run is awaited. -/
structure Attempt where
  id : Nat
  locate : Bool
  origin : Nat
  quality : Nat
  start : Nat
  pats : List Nat
  round : Nat := 0
  stage : Nat := 0
  /-- SEND_ID of the telegram, its NB, and the end of its pattern sequence in ticks. -/
  sendId : Nat := 0xFFFF
  nb : List Byte := []
  /-- SLOT_MASK of the telegram, and the answer whose solve is under way (R206). -/
  mask : Nat := 0
  solving : Option AuthAnswer := none
  seqEnd : Nat := 0
  /-- The vehicle's channel list as open answer channels, and CRC failures counted on them (R264). -/
  chans : List Nat := []
  crc : Nat := 0
  answers : List AuthAnswer := []
  /-- The answer being looked up, whether its lookup is asked for, and the statuses of the answers so far. -/
  idx : Nat := 0
  asked : Bool := false
  outcomes : List Nat := []
  keys : List AuthKey := []
  cur : Nat := 0
  /-- The exchange channel, the window the firmware started for it, KS and PB, the send awaited, the expected instant of
  KEY_PROOF, the run awaited and its index. -/
  xch : Option Nat := none
  xwin : Option Nat := none
  /-- The exchange-class channels opened where an answer has arrived: the answer's channel, and the one opened beside it (R262). -/
  xchs : List (Nat × Nat) := []
  ks : List Byte := []
  pb : List Byte := []
  txId : Option Nat := none
  exp : Nat := 0
  run : Option Nat := none
  runU : Nat := 0
  ended : Nat := 0
  deriving DecidableEq, Repr

/-- A release the firmware is about to ask REL for (R263, R290): KEY_ID, ROLE, SOURCE (0 KAP, 1 TAP), START and RUN_ID. -/
structure OpenReq where
  id : List Byte
  role : Nat
  source : Nat
  start : Bool
  run : Nat
  deriving DecidableEq, Repr

structure AuthState where
  att : Option Attempt := none
  nextId : Nat := 0
  /-- AUTH_RESULT images of the last four attempts, newest first (R287). -/
  results : List (List Byte) := []
  /-- The SEND_IDs of the frames the firmware has queued in the attempt (R267). -/
  sent : List Nat := []
  release : Option OpenReq := none
  /-- The origin of an attempt that has named an unlock key, until REL has taken the early-wake event (R303). -/
  unlocked : Option Nat := none
  /-- A qualified handle edge of P2 to P4 for which the firmware starts an attempt after the wake (R30, R262). -/
  edge : Option HandleEdge := none
  /-- The further handle edges recorded during the attempt in progress, or the last one, with their timestamps (R32). -/
  further : List HandleEdge := []
  deriving DecidableEq, Repr

/-! ### REL (R290 to R323) -/

/-- A DOOR_IN open edge in its filter (R297): input, instant, reference timestamp. -/
structure DoorEdge where
  idx : Nat
  at_ : Nat
  ref : Nat
  quality : Nat := 0
  deriving DecidableEq, Repr

/-- One EWAKE line (R304, R305): asserted, the source that scheduled or asserted it, the pending assertion and the
deassertion in reference time, the calendar slot of whichever it has. -/
structure EwLine where
  on : Bool := false
  /-- Ticks of reference time for which the pending assertion is to hold: what MODE, HOLD_S and PULSE_MS gave at its source event (R322). -/
  span : Nat := 0
  src : Nat := 0xFF
  pend : Option Nat := none
  off : Option Nat := none
  slot : Option Nat := none
  deriving DecidableEq, Repr

/-- The tell-tale (R308 to R310): pattern in force, its phase and when that began, whether the phase has been measured, the
first measurements of a new pattern still to be recorded, the last result of an on and an off phase, latched faults by
FID offset (bit 0 TT_OPEN, 1 TT_REG, 2 TT_STUCK_ON), extremes of the on current, and the start of the summary interval; TT_I as it
stood when the last on phase began (R323). -/
structure TellTale where
  amps : Nat := 10
  pat : Nat := 0
  on : Bool := false
  at_ : Nat := 0
  measured : Bool := false
  fresh : Bool := true
  gotOn : Bool := false
  gotOff : Bool := false
  resOn : Nat := 0
  resOff : Nat := 0
  faults : Nat := 0
  least : Option Nat := none
  greatest : Option Nat := none
  sumLp : Nat := 0
  deriving DecidableEq, Repr

/-- An end cause (R297, R298): its code, the DOOR_IN index or 0xFF, its timestamp with that instant's quality, and the instant it arose. -/
structure RelEnd where
  cause : Nat
  door : Nat := 0xFF
  ts : Nat
  quality : Nat
  at_ : Nat
  deriving DecidableEq, Repr

structure RelState where
  /-- The session state of R296. -/
  sess : Nat := 0
  /-- START_EN_A and START_EN_B as driven, the instants of their last changes, and the readback inputs with theirs. -/
  a : Bool := false
  b : Bool := true
  aAt : Nat := 0
  bAt : Nat := 0
  fbA : Bool := false
  fbB : Bool := true
  fbAAt : Nat := 0
  fbBAt : Nat := 0
  /-- When the present transition moved its first line. -/
  gapAt : Nat := 0
  /-- Latched readback faults: bit 0 REL_FB_A, bit 1 REL_FB_B. -/
  fbFault : Nat := 0
  armMode : Nat := 0
  armUntil : Option Nat := none
  /-- The session key: KEY_ID, ROLE, SOURCE, RUN_ID, zone and confidence; SSEQ; the session instant, and the instant the
  timeout counts from, in reference time; whether it comes from RESTART_PENDING. -/
  key : List Byte := []
  role : Nat := 0
  source : Nat := 0
  run : Nat := 0xFFFF
  zone : Nat := 0xFF
  conf : Nat := 0
  sseq : Nat := 0
  tOpen : Nat := 0
  toBase : Nat := 0
  restarted : Bool := false
  /-- An opening or extension that passed checks 1 to 7 and waits for counter 47 (R338, R339); the value says whether it is a
  restart. -/
  waits : Option Bool := none
  /-- An end cause held in OPENING (R298). -/
  held : Option RelEnd := none
  lastCause : Option Nat := none
  doors : List DoorEdge := []
  lines : List EwLine := List.replicate 4 {}
  /-- EWAKE source events of P2 to P4, which REL takes at the wake (R303). -/
  heldSrc : List (Nat × Nat) := []
  tt : TellTale := {}
  /-- The last console-port authentication HFR has reported (R290): KEY_ID and reference time. -/
  tap : Option (List Byte × Nat) := none
  /-- A session has ended and VLT has not yet taken it (R419). -/
  ended : Bool := false
  deriving DecidableEq, Repr

/-! ### HFR (R367 to R394) -/

/-- An activation (R369, R392): ACT_ID, the request's PORT, TECH, RATE and FLAGS, its time-out in ticks, whether the external
field check is over, and the instant the check or the search for a target began. -/
structure HfrAct where
  id : Nat
  port : Nat
  tech : Nat
  rate : Nat
  flags : Nat
  afi : Nat
  timeout : Nat
  searching : Bool := false
  since : Nat
  deriving DecidableEq, Repr

/-- A key flow (R378 to R383): stage 0 NB is being drawn, 1 HELLO reply awaited, 2 lookup, 3 PROOF reply awaited, 4 CLOSE
reply awaited. -/
structure HfrFlow where
  id : Nat
  port : Nat
  stage : Nat := 0
  nb : List Byte := []
  key : List Byte := []
  nk : List Byte := []
  look : Option LookRes := none
  ks : List Byte := []
  pb : List Byte := []
  deriving DecidableEq, Repr

/-- An HFR_EXCHANGE in progress (R393): its port, the reply it owes, and its deadline. -/
structure HfrExch where
  port : Nat
  master : Master
  ctx : Option ReqCtx
  due : Nat
  deriving DecidableEq, Repr

structure HfrState where
  /-- The port that carries the field. -/
  field : Option Nat := none
  act : Option HfrAct := none
  nextAct : Nat := 0
  /-- The activated target: its port and whether it is an ISO-DEP activation. -/
  target : Option (Nat × Bool) := none
  flow : Option HfrFlow := none
  exch : Option HfrExch := none
  /-- The end of the last activation or exchange (R370). -/
  lastAt : Nat := 0
  /-- The last frame sent to a target. -/
  sent : List Byte := []
  /-- The next ping of each port, as a low-power count (R373). -/
  pingLp : List Nat := [0, 0]
  /-- Ports whose next ping sets the baseline anew, and a configuration that waits for the next grid step (R391). -/
  relearn : List Bool := [true, true]
  /-- The present run of detecting pings of each port has been reported (R374). -/
  told : List Bool := [false, false]
  pend : Option (Word × Word) := none
  /-- The reference runs for a ping in P2 or P3 (R377). -/
  pingRef : Bool := false
  /-- VHF is outside its range, and fields are refused (R386). -/
  vhfBad : Bool := false
  /-- A port on which the firmware is to activate with KEY (AUTO_KEY). -/
  auto : Option Nat := none
  deriving DecidableEq, Repr

/-! ### VLT and the vault (R395 to R434) -/

/-- What the vault keeps in its CONTROL and KEYS pages and loads at power-up (R407): release parameters, LAST_TSEQ,
LAST_TIME, the committed images of VLT_PWR_CFG and VLT_FD_CFG, the count of authentication failures, and keys 0 to 9 with
their rights (R414). The default values are those of erased pages (notes/assumptions/21.md). -/
structure VaultLogic where
  armed : Bool := false
  pulse : Nat := 5
  vmin : Nat := 45
  lastTseq : Nat := 0
  lastTime : Nat := 0
  pwr : Nat := 0x15064
  fd : Nat := 0x114
  fails : Nat := 0
  keys : List (Option (Nat × List Byte)) := List.replicate 10 none
  deriving DecidableEq, Repr

/-- A page write of the vault in progress (R403): the page, its slot, SEQ and data, whether the slot is erased first, the
stage (1 while steps 1 to 3 run, 4 while steps 4 and 5 run) with the instant it began, and what its commit completes: 0 a
wired job, 1 a field WRITE, 2 a ticket, 3 a log record, 4 the failure count. -/
structure PageWrite where
  page : Nat
  slot : Nat
  seq : Nat
  data : List Byte
  erase : Bool
  stage : Nat := 1
  at_ : Nat
  owner : Nat
  deriving DecidableEq, Repr

/-- An operation of the vault's own that waits for the memory (R407, R422): a log record (its EVENT, SOURCE and DATA), or a
write of the failure count. -/
inductive VaultOwn
  | log (event source : Nat) (data : List Byte)
  | failCount
  deriving DecidableEq, Repr

/-- What a wired job does (R419, R423, R430 to R434): VLT_READ, a stream, VLT_WRITE, VLT_CONFIG POWER, KEY, TIME and LOG_APPEND,
VLT_REL_ARM, and the writes of LAST_TIME at a session end and every 24 h. -/
inductive VltKind
  | read
  | stream
  | write (expect : Bool)
  | power (pwr fd : Nat)
  | key (k rights : Nat) (key : List Byte)
  | time
  | logAppend (event : Nat) (data : List Byte)
  | arm (on : Bool) (pulse vmin floor : Nat)
  | lastTime
  deriving DecidableEq, Repr

/-- A wired job (R420): its kind, who asked, the pages it covers and how many are done, the bytes read or to be written, the
SEQs it has written, and since when its next operation waits; `running` while a page write of its own is in progress. -/
structure VltJob where
  kind : VltKind
  master : Master
  ctx : Option ReqCtx := none
  first : Nat := 0
  n : Nat := 1
  done : Nat := 0
  buf : List Byte := []
  seqs : List Nat := []
  since : Nat
  running : Bool := false
  deriving DecidableEq, Repr

/-- The stream in progress (R423, R424): STREAM_ID, its pages and queue, its phase (0 START waits, 1 pages are read, 2 a DATA
item waits, 3 END waits), the unit's first page, the pages read of it with their data, the END status, the failing page, and
since when the item waits. -/
structure VltStream where
  id : Nat
  first : Nat
  n : Nat
  queue : Nat
  phase : Nat := 0
  unit_ : Nat
  pages : Nat := 0
  buf : List Byte := []
  status : Nat := 0
  bad : Nat := 0xFFFF
  since : Nat
  deriving DecidableEq, Repr

/-- A secure request verified and waiting for the memory (R412, R413). -/
structure VaultReq where
  scmd : Nat
  body : List Byte
  deriving DecidableEq, Repr

structure VltState where
  /-- The 32 KiB of R400, in canonical form over erased memory. -/
  nv : List (Nat × Byte) := []
  /-- VDDIO is present; VH has risen through 1.90 V; recovery is complete; the protocol has a field or MAIN (R395, R408). -/
  vddio : Bool := true
  powered : Bool := false
  ready : Bool := false
  live : Bool := false
  /-- FIELD in 0.1 A/m, VH and VRSTORE in mV as last measured (R397, R399). -/
  field : Nat := 0
  vh : Nat := 0
  vrstore : Nat := 0
  fdWake : Bool := false
  logic : VaultLogic := {}
  /-- The slot taken by the last page write (R403). -/
  lastSlot : Nat := 15
  write : Option PageWrite := none
  own : List VaultOwn := []
  /-- The newest log record: its LSEQ and TAG (R422). -/
  lseq : Nat := 0
  lastTag : List Byte := []
  /-- Protocol state (R408): 0 IDLE, 1 READY, 2 ACTIVE, 3 HALTED; H; the Q of the request whose handle is being drawn. -/
  proto : Nat := 0
  h : Nat := 0
  ask : Option Nat := none
  nv16 : List Byte := []
  kidx : Nat := 0
  sk : List Byte := []
  pv : List Byte := []
  /-- An AUTH1 has been answered, and the session is open (R411). -/
  auth1 : Bool := false
  session : Bool := false
  rseq : Nat := 0
  vseq : Nat := 0
  req : Option VaultReq := none
  /-- The vault's last answer frame (empty: none), the slot it started in, and whether it was delayed by 1 s (R407, R411). -/
  out : List Byte := []
  outSlot : Nat := 0
  delayed : Bool := false
  rngFail : Bool := false
  /-- VAULT_REL is high until this instant (R418). -/
  relUntil : Option Nat := none
  /-- Faults and events that wait for MAIN (R404, R418, R426): code and data. -/
  later : List (Nat × List Byte) := []
  /-- Counts of R427 and R433. -/
  powerUps : Nat := 0
  sessions : Nat := 0
  fired : Nat := 0
  recovered : Nat := 0
  jobs : List VltJob := []
  /-- The second-rank master served last was M6 (R420). -/
  lastM6 : Bool := false
  stream : Option VltStream := none
  streamId : Nat := 0
  /-- The instant of the last periodic write of LAST_TIME (R419). -/
  timeAt : Nat := 0
  deriving DecidableEq, Repr

/-! ### Configuration, firmware, factory test (R576 to R589, R598) -/

/-- An apply in progress (R579, R580): the staged EPOCH, the entries of its image, the blocks it names, those still pending (to
switch, or while reverting to return), the words the switched registers held before, those that never switched, and the
reply it owes. -/
structure CfgApply where
  epoch : Nat
  named : List Nat
  pending : List Nat
  reverting : Bool := false
  old : List (Nat × Word) := []
  never : Nat := 0
  at_ : Nat
  commit : Bool
  master : Master
  ctx : Option ReqCtx
  deriving DecidableEq, Repr

/-- A firmware switch in progress (R587, R588): its target slot, whether it is a fallback, its stage (1 loading, 2 waiting for a
handover point, 3 handover) and since when it waits. -/
structure FwSwitch where
  slot : Nat
  fallback : Bool
  stage : Nat := 1
  since : Nat
  deriving DecidableEq, Repr

/-- A FW_SWITCH CONFIRM whose counter increments are under way (R588): the target and the reply it owes. -/
structure FwConfirm where
  target : Nat
  master : Master
  ctx : Option ReqCtx
  deriving DecidableEq, Repr

/-- A command whose last flash program is under way (R582, R607, R608): its opcode, the image copy written (CFG_COMMIT_NV), what its
readback finds, and the reply it owes. -/
structure FlashProg where
  op : Nat
  copy : Nat := 0
  ok : Bool
  master : Master
  ctx : Option ReqCtx
  deriving DecidableEq, Repr

structure UpdState where
  /-- The image being assembled: TOTAL and the bytes so far (R605). -/
  stage : Option (Nat × List Byte) := none
  /-- The staged image that has passed its checks, and the image in force (R578, R607). -/
  staged : Option (List Byte) := none
  inForce : List Byte := []
  /-- The copy that holds the image in force (0 A, 1 B), and a copy to be rewritten with the instant of its reset (R564). -/
  copy : Option Nat := none
  repair : Option (Nat × Nat) := none
  apply : Option CfgApply := none
  /-- The slot being erased, and whether a population read has suspended it (R24, R608). -/
  erase : Option Nat := none
  eraseHeld : Bool := false
  /-- FW_WRITE_SLOT PROGRAM and CFG_COMMIT_NV in progress, oldest first (R24). -/
  progs : List FlashProg := []
  switch : Option FwSwitch := none
  /-- The code bank running, and the TAG recorded for it (R526, R584). -/
  bank : Nat := 0
  digest : List Byte := []
  /-- A firmware slot runs (R485). -/
  booted : Bool := false
  /-- The trial began at this instant; the slot it would return to (R588). -/
  trialAt : Option Nat := none
  prev : Nat := 0
  confirm : Option FwConfirm := none
  /-- Key records appended to the archive (R589). -/
  archNext : Nat := 0
  /-- The challenge of TEST_ENTER and its wrong responses since the reset (R598). -/
  challenge : Option (List Byte) := none
  wrong : Nat := 0
  deriving DecidableEq, Repr

/-! ### WLK (R591 to R597, R602 to R612) -/

/-- A WL_FORWARD in progress (R594, R612): the worker, the packet, how often its frames have been sent, the instant of the last
frame, whether a REPLY has arrived, the REPLY bytes assembled with the next SEG, and the reply it owes. -/
structure WlForward where
  worker : Nat
  packet : List Byte
  tries : Nat := 1
  at_ : Nat
  got : Bool := false
  asm : List Byte := []
  seg : Nat := 0
  master : Master
  ctx : Option ReqCtx
  deriving DecidableEq, Repr

/-- What the manager knows of a worker (R593, R597): a measurement in progress with the doubled delays it has found, in ps;
whether the worker answered its last measurement, and whether it is locked; the start of its last measurement. -/
structure WlWorker where
  meas : Option (List Int) := none
  present : Bool := false
  locked : Bool := false
  since : Nat := 0
  deriving DecidableEq, Repr

structure WlkState where
  workers : List WlWorker := List.replicate 4 {}
  fwd : Option WlForward := none
  /-- A worker: the FWD bytes assembled and the next SEG; the instant its link was lost or it last tried to lock. -/
  asm : List Byte := []
  seg : Nat := 0
  lost : Option Nat := none
  /-- A worker: the run it takes part in: index, O, and tone order (R224, R594). -/
  run : Option (Nat × Nat × List Byte) := none
  /-- The run index, O where it is known and the tone order last sent down (RUN), and a worker's last result as sent up: its valid
  tones and distance (RANGE_W; R224, R594). -/
  sentRun : Option (Nat × Option Nat × List Nat) := none
  sentW : Option (Nat × Nat) := none
  /-- A worker: its PLLs take their reference from WL_CLK, and its device time has been set over the link (R592, R593). -/
  clkRef : Bool := false
  slaved : Bool := false
  /-- A WL_DISCOVER in progress: its start and the reply it owes (R611). -/
  discover : Option (Master × Option ReqCtx × Nat) := none
  deriving DecidableEq, Repr

/-! ### The whole state -/

/-- The ordering codes of R1 (R485: 0 -EU, 1 -NA, 2 -JP, 3 -CN, 4 -WW). -/
inductive Part | eu | na | jp | cn | ww
  deriving DecidableEq, Repr

structure SysState where
  part : Part := .eu
  /-- ROLE1 and ROLE0 as last sampled (R591), and whether they make the device a worker (1) or not (0). -/
  straps : Nat := 0
  role : Nat := 0
  /-- Factory test mode (R598). -/
  test : Bool := false
  /-- Configuration epoch in force, and whether it is the factory defaults (R565). -/
  epoch : Nat := 0
  cfgDefaults : Bool := true
  region : Region := .blank
  /-- Register fields that a command has set and that take effect at a quiescent boundary (R579): block, address of the
  register, lowest bit, width, value. -/
  staged : List Staged := []
  /-- The die temperature in °C as last measured. -/
  temp : Int := 25
  deriving DecidableEq, Repr

structure State where
  regs : List (Nat × Word) := []
  mem : List Host.Cell := []
  units : List UnitState := List.replicate 23 .off
  sys : SysState := {}
  time : TimeState := {}
  cal : List (Option CalSlot) := List.replicate 64 none
  fires : List FireRec := []
  tmr : List TmrChan := List.replicate 16 {}
  /-- Bit k: the level of trigger source k (0x10 to 0x29) as its last edge left it (R63). -/
  tmrIn : Nat := 0
  pwr : PwrState := {}
  qm : QmState := {}
  hif : HifState := {}
  flt : FltState := {}
  bbx : BbxState := {}
  aes : AesState := {}
  lf : LfState := {}
  urx : UrxState := {}
  utx : UtxState := {}
  range : RangeState := {}
  zone : ZoneState := {}
  cred : CredState := {}
  auth : AuthState := {}
  rel : RelState := {}
  hfr : HfrState := {}
  vlt : VltState := {}
  upd : UpdState := {}
  wlk : WlkState := {}
  cnt : CntState := {}
  rng : RngState := {}
  /-- Free values drawn so far (notes/assumptions/1.md). -/
  free : Nat := 0
  /-- Commands waiting, first in, first out. -/
  pending : List Instr := []
  deriving DecidableEq, Repr

/-- The machine right after power-on reset. -/
def State.reset : State := {}

end Sys2Proof.Machine
end

