-- ==== Sys2Proof/Machine/Ops.lean ====
section
/-!
DEFINITION. Machine/Ops.lean: the named operations every meaning is written over: the register file, the memories, time,
free values, the report of a fault.
-/
namespace Sys2Proof.Machine

/-! ### The register file (R9, R16, R20) -/

/-- Block number and offset of a peripheral address, if it lies in the peripheral range of R17. -/
def blockOf (a : Nat) : Option (Nat × Nat) :=
  if 0x40000000 ≤ a ∧ a < 0x40170000 then some ((a - 0x40000000) / 0x10000, a % 0x10000) else none

/-- Offset `o` is one of the words of row `r`. -/
def RegRow.covers (r : RegRow) (o : Nat) : Bool :=
  r.off ≤ o &&
    let d := o - r.off
    if r.s1 = 0 then d == 0
    else if r.s2 = 0 then d % r.s1 == 0 && d / r.s1 < r.n1
    else d / r.s1 < r.n1 && d % r.s1 % r.s2 == 0 && d % r.s1 / r.s2 < r.n2

/-- The row that lists offset `o` of block `b`. -/
def findRow (b o : Nat) : Option RegRow := (blockRows b).find? (·.covers o)

/-- The settings of the source with this FID (R548). -/
def sourceRow (fid : Nat) : Option SourceRow := faultSources.find? (·.fid == fid)

/-- `b` is the number of a unit that the collector can fence (R16). -/
def isUnit (b : Nat) : Bool := (3 ≤ b && b ≤ 15) || b == 20 || b == 21

/-- The reset value of a source's CFG (`k` = 0) or CFG2 (`k` = 1) register (R548, R567). -/
def sourceReset (r : SourceRow) (k : Nat) : Nat :=
  if k = 0 then r.n + 2 ^ 8 * r.w + 2 ^ 24 * r.unit + 2 ^ 28 * r.react
  else r.mode + r.sev * 2 ^ 4 + r.notify * 2 ^ 5 + r.fixed * 2 ^ 6 + bit01 (isUnit (r.fid / 256)) * 2 ^ 7

/-- The FID whose registers stand at offset `o` of the FLT block (R566). -/
def fidAt (o : Nat) : Nat := let x := (o - 0x1000) / 0x10; x / 32 * 256 + x % 32

/-- The DEFAULT word of target `t` at reset (R495): one octal digit per master, M0 lowest; R 1, W 2, C 4. -/
def accDefaultReset (t : Nat) : Nat :=
  match t with
  | 0 => 0o1000001
  | 1 => 0o3003003
  | 2 => 0o3303003
  | 3 => 0o3000001
  | 4 => 0o3000003
  | 5 => 0o3000011
  | 6 => 0o1001001
  | 7 => 0o3030003
  | 23 => 0o7003577
  | 27 => 0o7000557
  | _ => 0o7000577

/-- One preset region of R495: target, region, first and last offset, rights. -/
structure AccPreset where
  target : Nat
  region : Nat
  first : Nat
  last : Nat
  rights : Nat
  deriving DecidableEq, Repr

/-- The regions preset at reset (R495). -/
def accPresets : List AccPreset :=
  [⟨12, 0, 0x50, 0x5C, 0o3000113⟩,
   ⟨15, 0, 0x40, 0x5C, 0o3000113⟩,
   ⟨17, 0, 0x20, 0x30, 0o3000003⟩,
   ⟨18, 0, 0x20, 0x30, 0o3000113⟩,
   ⟨19, 0, 0x120, 0x13C, 0o3000003⟩,
   ⟨19, 1, 0x1A0, 0x1BC, 0o3000003⟩,
   ⟨19, 2, 0x200, 0x24C, 0o3000003⟩,
   ⟨20, 0, 0x60, 0x64, 0o3000003⟩,
   ⟨23, 0, 0x100, 0x13C, 0o3000003⟩,
   ⟨23, 1, 0x140, 0x15C, 0o3003000⟩,
   ⟨23, 2, 0x160, 0x16C, 0o3300000⟩,
   ⟨23, 3, 0x170, 0x17C, 0o3000030⟩,
   ⟨23, 4, 0x200, 0x23C, 0o3000003⟩,
   ⟨23, 5, 0x240, 0x25C, 0o3003000⟩,
   ⟨23, 6, 0x260, 0x26C, 0o3300000⟩,
   ⟨23, 7, 0x270, 0x27C, 0o3000030⟩]

/-- The reset value of offset `o` of the ACC block where R495 gives one. -/
def accReset (o : Nat) : Nat :=
  if o < 0x1000 then 0
  else
    let t := (o - 0x1000) / 0x200
    let k := (o - 0x1000) % 0x200
    if k = 4 then accDefaultReset t
    else if k < 0x100 then 0
    else
      match accPresets.find? fun p => p.target == t && p.region == (k - 0x100) / 0x10 with
      | none => 0
      | some p => if k % 0x10 = 0 then p.first else if k % 0x10 = 4 then p.last
                  else if k % 0x10 = 8 then p.rights + 2 ^ 31 else 0

/-- The reset value of the register at `a` (R8 conventions: the Reset column; R495; R548). -/
def regDefault (a : Nat) : Word :=
  match blockOf a with
  | none => 0
  | some (b, o) =>
    if b = 17 ∧ 0x1000 ≤ o then
      match sourceRow (fidAt o) with
      | some r => if o % 0x10 = 0 then BitVec.ofNat 32 (sourceReset r 0)
                  else if o % 0x10 = 4 then BitVec.ofNat 32 (sourceReset r 1) else 0
      | none => 0
    else if b = 19 then BitVec.ofNat 32 (accReset o)
    else
      match findRow b o with
      | some r => BitVec.ofNat 32 (sumNat (r.fields.map fun f => f.reset * 2 ^ f.lsb))
      | none => 0

/-- Offset `o` of block `b` is listed by the block's register summary (R20; R566 for the sources). -/
def listedOffset (b o : Nat) : Bool :=
  o % 4 == 0 &&
    (if b = 17 ∧ 0x1000 ≤ o then (sourceRow (fidAt o)).isSome && o < 0x3E00
     else if b = 19 ∧ 0x1100 ≤ o ∧ 0x100 ≤ (o - 0x1000) % 0x200 then
       o < 0x1000 + 0x200 * 31 && o % 0x10 < 0xC
     else (findRow b o).isSome)

/-- The stored word of the register at `a`. -/
def State.reg (s : State) (a : Nat) : Word := sparseGet regDefault s.regs a

/-- The register at `a` holds `v`. -/
def State.setReg (s : State) (a : Nat) (v : Word) : State := { s with regs := sparseSet regDefault s.regs a v }

/-- The stored value of a field. -/
def State.get (s : State) (f : Field) : Nat := bitsAt (s.reg f.addr).toNat f.lsb f.width

/-- A word with field `f` replaced by `v`. -/
def Field.insert (f : Field) (w : Word) (v : Nat) : Word :=
  BitVec.ofNat 32 (w.toNat - bitsAt w.toNat f.lsb f.width * 2 ^ f.lsb + v % 2 ^ f.width * 2 ^ f.lsb)

/-- Field `f` holds `v` (its low bits). -/
def State.put (s : State) (f : Field) (v : Nat) : State := s.setReg f.addr (f.insert (s.reg f.addr) v)

/-- A one-bit field reads 1. -/
def State.flag (s : State) (f : Field) : Bool := s.get f == 1

/-- A one-bit field takes a truth value. -/
def State.putB (s : State) (f : Field) (b : Bool) : State := s.put f (bit01 b)

/-- A counter field grows by `n`, saturating at its greatest value (R53, R156 and the other summaries). -/
def State.bump (s : State) (f : Field) (n : Nat := 1) : State := s.put f (min (s.get f + n) (2 ^ f.width - 1))

/-- Bit `i` of a field. -/
def State.bit (s : State) (f : Field) (i : Nat) : Bool := bitAt (s.get f) i == 1

/-- Bit `i` of a field set or cleared. -/
def State.putBit (s : State) (f : Field) (i : Nat) (b : Bool) : State :=
  s.put f (s.get f - bitAt (s.get f) i * 2 ^ i + bit01 b * 2 ^ i)

/-! ### Units (R80, R590, R549) -/

/-- The state of the unit with block number `b`. -/
def State.unit (s : State) (b : Nat) : UnitState := s.units.getD b .off

/-- The unit with block number `b` is in state `u`. -/
def State.setUnit (s : State) (b : Nat) (u : UnitState) : State := { s with units := s.units.set b u }

/-- The unit with block number `b` is fenced (R549). -/
def State.fenced (s : State) (b : Nat) : Bool := s.unit b == .fenced

/-- The unit is ON. -/
def State.unitOn (s : State) (b : Nat) : Bool := s.unit b == .on

/-- The STATE code of a unit state (R80). -/
def UnitState.code : UnitState → Nat
  | .off => 0 | .starting => 1 | .on => 2 | .disabling => 3 | .restartPending => 4 | .fenced => 5

/-! ### Memories (R17, R18, R559, R563) -/

/-- What a byte nothing has written reads as: erased non-volatile and flash memory reads 0xFF, the directory, the OTP and
RAM read 0 (notes/assumptions/4.md). -/
def memDefault (a : Nat) : Byte :=
  if 0x20000000 ≤ a ∧ a < 0x2002EE00 then 0
  else if 0x2002EE00 ≤ a ∧ a < 0x20080000 then 0xFF
  else if 0x30000000 ≤ a ∧ a < 0x34000000 then 0xFF
  else 0

/-- The byte at address `a`. -/
def State.mem8 (s : State) (a : Nat) : Byte := sparseGet memDefault s.mem a

/-- The byte at address `a` becomes `v`. -/
def State.setMem8 (s : State) (a : Nat) (v : Byte) : State := { s with mem := sparseSet memDefault s.mem a v }

/-- `n` bytes from address `a`. -/
def State.readMem (s : State) (a : Nat) : Nat → List Byte
  | 0 => []
  | n + 1 => s.mem8 a :: s.readMem (a + 1) n

/-- The bytes `bs` stored from address `a` on. -/
def State.writeMem (s : State) (a : Nat) : List Byte → State
  | [] => s
  | b :: bs => (s.setMem8 a b).writeMem (a + 1) bs

/-- The bytes of flash address `a` (R499). -/
def State.readFlash (s : State) (a n : Nat) : List Byte := s.readMem (0x30000000 + a) n

/-- Programming flash clears bits: it stores the AND of the old byte and the new one (R499, a page program). -/
def State.programFlash (s : State) (a : Nat) : List Byte → State
  | [] => s
  | b :: bs => (s.setMem8 (0x30000000 + a) (s.mem8 (0x30000000 + a) &&& b)).programFlash (a + 1) bs

/-- `n` bytes from address `a` erased to 0xFF. -/
def State.eraseMem (s : State) (a n : Nat) : State := s.writeMem a (List.replicate n 0xFF)

/-- The `n` bytes from `dst` on become those from `src` on; in both places an unlisted byte reads 0. -/
def State.moveMem (s : State) (src dst n : Nat) : State :=
  let cells := s.mem.filter fun c => src ≤ c.1 && c.1 < src + n
  let rest : State := { s with mem := s.mem.filter fun c => !(dst ≤ c.1 && c.1 < dst + n) }
  { s with mem := (cells.foldl (fun (s : State) c => s.setMem8 (dst + (c.1 - src)) c.2) rest).mem }

/-! ### Free values (notes/assumptions/1.md) -/

/-- A fresh free value of `w` bits. -/
def State.fresh (s : State) (w : Nat) : Nat × State :=
  (Config.freeValue s.free % 2 ^ w, { s with free := s.free + 1 })

/-- `n` fresh free bytes. -/
def State.freshBytes (s : State) : Nat → List Byte × State
  | 0 => ([], s)
  | n + 1 => let (v, s) := s.fresh 8; let (l, s) := s.freshBytes n; (byte v :: l, s)

/-- `n` bytes from address `a` on take contents that the spec does not lay out: free bytes. -/
def State.freeFill (s : State) (a n : Nat) : State :=
  let b := (List.range n).map fun k => byte (Config.freeValue (s.free + k))
  { s with mem := (s.writeMem a b).mem, free := s.free + n }

/-- A fresh free truth value: an outcome the spec leaves open either way. -/
def State.freshBool (s : State) : Bool × State := let (v, s) := s.fresh 1; (v == 1, s)

/-- The quotient of two integers where the spec states no rounding: either neighbour (notes/assumptions/13.md). -/
def State.rounded (s : State) (n d : Int) : Int × State :=
  if n % d = 0 then (n / d, s) else let (b, s) := s.freshBool; (n / d + (if b then 1 else 0), s)

/-! ### Time (R33, R34, R38, R43) -/

/-- The rate of the low-power source now, in 1/4096 tick per cycle (R43). -/
def TimeState.lpPeriod (t : TimeState) : Nat := max 1 (if t.rcNow then t.rcRatio else t.lpRatio)

/-- The rate adjustment in force, slew included, in ppb (R38, TIME_RATE_ADJ). -/
def TimeState.rateNow (t : TimeState) : Int :=
  t.rate + (if t.slewLeft = 0 then 0 else if t.slewLeft < 0 then -(t.slewPpb : Int) else t.slewPpb)

/-- The 48-bit count after `dt` ticks (R43). -/
def TimeState.lpAdvance (t : TimeState) (dt : Nat) : TimeState :=
  let ph := t.lpPhase + 4096 * dt
  { t with lp := (t.lp + ph / t.lpPeriod) % 2 ^ 48, lpPhase := ph % t.lpPeriod }

/-- Both counts after `dt` ticks of the timing clock (R33, R34, R38). -/
def TimeState.clockAdvance (t : TimeState) (dt : Nat) : TimeState :=
  let slew : Int := min (t.slewLeft.natAbs : Int) (dt * t.slewPpb : Nat)
  let slew := if t.slewLeft < 0 then -slew else slew
  let n := (t.refFrac + dt * (1000000000 + t.rate) + slew).toNat
  let v : Int := min (t.devLeft.natAbs : Int) dt
  let v := if t.devLeft < 0 then -v else v
  let m := (t.devFrac + 10000 * dt + v).toNat
  { t with ran := t.ran + dt, dev := t.dev + m / 10000, devFrac := m % 10000, devLeft := t.devLeft - v
           ref := t.ref + n / 1000000000, refFrac := n % 1000000000, slewLeft := t.slewLeft - slew }

/-- The device time count is set. -/
def State.setDev (s : State) (t : Nat) : State := { s with time := { s.time with dev := t, devLeft := 0, devFrac := 0 } }

/-- The index of a power state in the residency counts. -/
def PState.num : PState → Nat
  | .p0 => 0 | .p1 => 1 | .p2 => 2 | .p3 => 3 | .p4 => 4

/-- The quality byte, bits 0 to 3, of a timestamp taken now (R42; R29 while the RF PLL has no lock). -/
def State.quality (s : State) : Nat :=
  bit01 (s.time.servo == .locked) + 2 * bit01 (s.time.servo == .holdover || s.urx.pllLost) + 4 * bit01 s.time.recon
    + 8 * bit01 (s.time.rcNow || (s.time.recon && s.time.rcUsed))

/-- The clock as the mark `m` has it, `dt` ticks after. -/
def RefMark.after (m : RefMark) (dt : Nat) : TimeState :=
  let t : TimeState := { ref := m.ref, refFrac := m.refFrac, rate := m.rate, slewLeft := m.slewLeft, slewPpb := m.slewPpb }
  t.clockAdvance dt

/-- The newest mark still gives the clock and the quality of now. -/
def State.markStands (s : State) (m : RefMark) : Bool :=
  let t := m.after (s.time.now - m.at_)
  t.ref == s.time.ref && t.refFrac == s.time.refFrac && t.slewLeft == s.time.slewLeft && m.slewPpb == s.time.slewPpb
    && m.rate == s.time.rate && m.quality == s.quality

/-- The marks from the newest to the first that is no later than `lim`. -/
def marksFrom (lim : Nat) : List RefMark → List RefMark
  | [] => []
  | m :: l => if m.at_ ≤ lim then [m] else m :: marksFrom lim l

/-- The marks with one for now, where the timing clock runs and the newest no longer holds. -/
def State.marked (s : State) : List RefMark :=
  if !s.time.running || s.time.marks.head?.any s.markStands then s.time.marks
  else
    { at_ := s.time.now, ref := s.time.ref, refFrac := s.time.refFrac, rate := s.time.rate, slewLeft := s.time.slewLeft
      slewPpb := s.time.slewPpb, quality := s.quality } :: marksFrom (s.time.now - Config.sTicks) s.time.marks

/-- Time passes until `at_` (ticks since power-on); an instant already past changes nothing. -/
def State.advance (s : State) (at_ : Nat) : State :=
  let dt := at_ - s.time.now
  if dt = 0 then s
  else
    let t := { s.time.lpAdvance dt with marks := s.marked }
    let t := if t.running then t.clockAdvance dt else t
    { s with time := { t with now := at_ }
             pwr := { s.pwr with resid := s.pwr.resid.modify s.pwr.st.num (· + dt) } }

/-- Time passes for `dt` ticks. -/
def State.wait (s : State) (dt : Nat) : State := s.advance (dt + s.time.now)

/-- The ticks from now until reference time reaches `r` (R46): at the rate with the slew while that lasts, and without it after. -/
def TimeState.ticksToRef (t : TimeState) (r : Nat) : Nat :=
  if r ≤ t.ref then 0
  else
    let need : Int := 1000000000 * ((r : Int) - t.ref) - t.refFrac
    let at_ (n rate : Int) : Nat := ((n + (1000000000 + rate) - 1) / max 1 (1000000000 + rate)).toNat
    let x := at_ need t.rateNow
    if x * t.slewPpb ≤ t.slewLeft.natAbs then x
    else max (t.slewLeft.natAbs / max 1 t.slewPpb + 1) (at_ (need - t.slewLeft) t.rate)

/-- The low-power count whose edge is the first at or after reference time `r`, converted under R43 from what was saved
(R48). -/
def TimeState.lpAtRef (t : TimeState) (r : Nat) : Nat :=
  match t.saved with
  | none => t.lp
  | some v =>
    let ratio := max 1 (if v.rcAtSave || t.rcNow then v.rcRatio else v.ratio)
    v.lp + (4096 * ((r : Int) - v.refOff - v.dev).toNat + ratio - 1) / ratio

/-- The ticks from now until the low-power count has grown by `n` cycles. -/
def TimeState.ticksToLp (t : TimeState) (n : Nat) : Nat :=
  if n = 0 then 0 else (4095 + (n * t.lpPeriod - t.lpPhase)) / 4096

/-- Time passes until reference time reaches `r` (R46): on the timing clock, or where that stands on the first low-power edge
at or after it (R48). -/
def State.advanceRef (s : State) (r : Nat) : State :=
  if s.time.running then s.wait (s.time.ticksToRef r) else s.wait (s.time.ticksToLp (s.time.lpAtRef r - s.time.lp))

/-- Time passes until the low-power count has reached `n`. -/
def State.advanceLp (s : State) (n : Nat) : State := s.wait (s.time.ticksToLp (n - s.time.lp))

/-- Low-power cycles in `ms` milliseconds, rounded up (32.768 kHz, R545). -/
def lpOfMs (ms : Nat) : Nat := (32768 * ms + 999) / 1000

/-- The first step after `now` of the grid with step `t` and period `period`, both in low-power cycles. -/
def lpStepAfter (t period now : Nat) : Nat := if now < t then t else t + period * ((now - t) / period + 1)

/-- Low-power cycles in a second (R545). -/
def lpOfS (n : Nat) : Nat := 32768 * n

/-- Device time now: where the timing clock stands, what the restore of R43 would make it (R521). -/
def State.devNow (s : State) : Nat :=
  match s.time.running, s.time.saved with
  | false, some v =>
    let n := (s.time.lp + 2 ^ 48 - v.lp) % 2 ^ 48
    v.dev + n * (if v.rcAtSave || s.time.rcNow then v.rcRatio else v.ratio) / 4096
  | _, _ => s.time.dev

/-- Reference time now, likewise. -/
def State.refNow (s : State) : Nat :=
  match s.time.running, s.time.saved with
  | false, some v => ((s.devNow : Int) + v.refOff).toNat
  | _, _ => s.time.ref

/-- The reference timestamp of a pin edge or RF event now: the 40 ns of the capture path are taken off by the hardware
and were added by the path, so the instant itself is recorded (R35); in P2 to P4 it is reconstructed (R42, R43). -/
def State.stamp (s : State) : Nat := s.refNow

/-- Reference time as it stood at instant `at_`, not later than now (R34, R58). -/
def State.refAt (s : State) (at_ : Nat) : Nat :=
  if s.time.now ≤ at_ then s.time.ref
  else
    match s.time.marks.find? (·.at_ ≤ at_), s.time.marks.getLast? with
    | some m, _ => (m.after (at_ - m.at_)).ref
    | none, some m => m.ref - (m.at_ - at_)
    | none, none => s.time.ref - (s.time.now - at_)

/-- The quality of a timestamp of instant `at_`, not later than now (R42). -/
def State.qualityAt (s : State) (at_ : Nat) : Nat :=
  if s.time.now ≤ at_ then s.quality else ((s.time.marks.find? (·.at_ ≤ at_)).map (·.quality)).getD s.quality

/-- A pin edge is recorded on the 3.2 ns grid at or before its instant (R35). -/
def State.pinStamp (s : State) : Nat := if s.time.running then s.time.ref - s.time.dev % 8 else s.refNow

/-! ### Fault reports (R543) -/

/-- The fault `fid` is reported to the collector, with its INSTANCE and source data. -/
def State.raise (s : State) (fid : Nat) (inst : Nat := 0xFF) (data : List Byte := []) : State :=
  { s with flt := { s.flt with raised := s.flt.raised ++ [{ fid := fid, inst := inst, data := data }] } }

/-- The device is in P0 or P1, and its core domain is out of reset (R507, R619). -/
def State.awake (s : State) : Bool :=
  (s.pwr.st == .p0 || s.pwr.st == .p1) && (match s.pwr.wake with | some w => w.stage == .boot | none => true)

/-- The recovery path runs (R586). -/
def State.recovery (s : State) : Bool := s.flag SYS_FW_STATUS_RECOVERY

/-- HIF is operational and the firmware, or the ROM in the recovery path, serves the command queue (R26, R470, R474, R586). -/
def State.hostReady (s : State) : Bool :=
  s.awake && s.pwr.hifUp && ((s.pwr.fwRun && s.pwr.fwServing) || s.recovery)

/-- Pad group `g` is held (R523). -/
def State.padHeld (s : State) (g : Nat) : Bool := bitAt s.pwr.padsHeld g == 1

/-- The device is in the safe state (R551). -/
def State.safeState (s : State) : Bool := s.flt.safe.isSome

/-! ### Changes that wait for a quiescent boundary (R579) -/

/-- Field `f` of block `b` takes `v` now where the block is quiet, else at its next quiescent boundary. -/
def State.stage (s : State) (quiet : Bool) (b : Nat) (f : Field) (v : Nat) : State :=
  if quiet then s.put f v
  else { s with sys := { s.sys with staged :=
    s.sys.staged ++ [{ block := b, addr := f.addr, lsb := f.lsb, width := f.width, value := v }] } }

/-- The fields of the register at offset `o` of block `b`. -/
def regFields (b o : Nat) : List FieldRow := match findRow b o with | some r => r.fields | none => []

/-- The lock that covers the RWL fields of offset `o` of block `b` is set (R11, R494; each block's summary). -/
def State.lockSet (s : State) (b o : Nat) : Bool :=
  let ctrl := (s.reg (0x40000000 + 0x10000 * b)).toNat
  if b = 17 ∨ b = 22 then bitAt ctrl 0 == 1
  else if b = 19 then bitAt ctrl 0 == 1 || (0x1000 ≤ o && s.flag (ACC_T_CTRL_LOCK ((o - 0x1000) / 0x200)))
  else bitAt ctrl 1 == 1

/-- The word `new` of the register at `a`, in which the RWL fields under a lock that is set stand as in `old` (R11). -/
def State.keepLocked (s : State) (a : Nat) (old new : Word) : Word :=
  match blockOf a with
  | some (b, o) =>
    if s.lockSet b o then
      ((regFields b o).filter (·.acc == .rwl)).foldl (fun w f => Field.insert ⟨a, f.lsb, f.width⟩ w (bitsAt old.toNat f.lsb f.width)) new
    else new
  | none => new

/-- Field `f` takes `v`, but for what a lock that is set holds (R11). -/
def State.putFree (s : State) (f : Field) (v : Nat) : State :=
  s.setReg f.addr (s.keepLocked f.addr (s.reg f.addr) (f.insert (s.reg f.addr) v))

/-- The changes that waited for the boundary of block `b` take effect, but for fields that have been locked meanwhile (R11). -/
def State.applyStaged (s : State) (b : Nat) : State :=
  let (now, later) := s.sys.staged.partition (·.block == b)
  now.foldl (fun s c => s.putFree ⟨c.addr, c.lsb, c.width⟩ c.value) { s with sys := { s.sys with staged := later } }

/-- Register `a` takes the bits of `v` in field `f` only. -/
def State.putField (s : State) (f : Field) (w : Nat) : State := s.put f (bitsAt w f.lsb f.width)

end Sys2Proof.Machine
end

