-- ==== Sys2Proof/Machine/Queue.lean ====
section
/-!
DEFINITION. Machine/Queue.lean: the queues of Cullet as every producer and consumer uses them (R435 to R451): begin,
commit, pop, flush, watermarks, the event record of R440 and the record buffer of the black box (R560).
-/
namespace Sys2Proof.Machine

/-- The complete items of queue `q`, oldest first. -/
def State.queue (s : State) (q : Nat) : List Item := s.qm.queues.getD q []

/-- Queue `q` holds these items. -/
def State.setQueue (s : State) (q : Nat) (l : List Item) : State :=
  { s with qm := { s.qm with queues := s.qm.queues.set q l } }

/-- Cells reserved by the open items of queue `q` (R438). -/
def State.openCells (s : State) (q : Nat) : Nat :=
  sumNat (s.qm.push.map fun p => match p.item with | some o => if o.queue = q then o.cells else 0 | none => 0)

/-- The level of queue `q`: its cells in use (R438). The notice of R451 adds nothing. -/
def State.level (s : State) (q : Nat) : Nat := sumNat ((s.queue q).map (·.cells)) + s.openCells q

/-- Cells of items bound to pop ports. -/
def State.boundCells (s : State) : Nat :=
  sumNat (s.qm.pop.map fun p => match p.item with | some i => i.cells | none => 0)

/-- Free allocatable cells (R436). -/
def State.freeCells (s : State) : Nat :=
  Config.poolCells - (sumNat (s.qm.queues.map fun l => sumNat (l.map (·.cells)))
    + sumNat (s.qm.push.map fun p => match p.item with | some o => o.cells | none => 0) + s.boundCells)

/-- The cells of an item of `n` bytes (R437). -/
def cellsOf (n : Nat) : Nat := (n + 63) / 64

/-- The flags and counts of a level change of queue `q` (R447), and which crossings occurred (high, low). -/
def State.cross (s : State) (q old new : Nat) : State × Bool × Bool :=
  let hi := s.get (QM_Q_WM_HIGH q)
  let lo := s.get (QM_Q_WM_LOW q)
  let up := hi ≠ 0 && old ≤ hi && hi < new
  let down := lo ≠ 0 && lo ≤ old && new < lo
  let s := if up then (s.put (QM_Q_STATUS_HWF q) 1).bump (QM_Q_XCNT_HCROSS q) else s
  let s := if down then (s.put (QM_Q_STATUS_LWF q) 1).bump (QM_Q_XCNT_LCROSS q) else s
  (s, up, down)

/-- The item that `bytes` becomes when appended to queue `q`, and the queue with the tail cell marked (R437, R441). -/
def State.packItem (s : State) (q : Nat) (bytes : List Byte) (src : Nat) : List Item × Item :=
  let l := s.queue q
  if s.flag (QM_Q_CFG_PACK q) && bytes.length == 32 then
    match l.getLast? with
    | some t =>
      if t.half == 1 then
        (l.dropLast ++ [{ t with half := 2 }], { bytes := bytes, src := src, cells := 0, half := 3 })
      else (l, { bytes := bytes, src := src, cells := 1, half := 1 })
    | none => (l, { bytes := bytes, src := src, cells := 1, half := 1 })
  else (l, { bytes := bytes, src := src, cells := cellsOf bytes.length })

/-- The refusal of a begin that needs `cells` cells at queue `q` (R438): QUEUE_FULL counts. -/
def State.beginRefused (s : State) (q cells : Nat) : Bool :=
  s.get (QM_Q_LIMITS_QUOTA q) < s.level q + cells || s.freeCells < cells

/-- A begin that its quota would not have refused has found too few free cells (R438). -/
def State.poolEmpty (s : State) (q cells : Nat) : State :=
  if s.get (QM_Q_LIMITS_QUOTA q) < s.level q + cells then s else (s.bump QM_POOL_EMPTY).raise FID_QM_POOL_EMPTY q

/-- The counts of a refused begin (R438). -/
def State.refuseBegin (s : State) (q cells : Nat) : State :=
  ((s.bump (QM_Q_DROPS q)).put (QM_Q_STATUS_OVF q) 1).poolEmpty q cells

/-- The 32-byte record of R440. -/
def mkRecord (ts code src quality epoch : Nat) (data : List Byte) : List Byte :=
  let b := le 8 ts ++ le 2 code ++ [byte src, byte quality] ++ le 2 epoch ++ padTo 14 data
  b ++ le 2 (crc16 b) ++ [0, 0]

/-- The configuration epoch in force in block `b` (R579, R580): while an apply is under way a block that has switched carries
the new one, while it is withdrawn a block that has not yet returned. -/
def State.cfgEpoch (s : State) (b : Nat) : Nat :=
  match s.upd.apply with
  | none => s.sys.epoch
  | some a => if a.pending.contains b == a.reverting then a.epoch else s.sys.epoch

/-- The notice of R451 as it stands: `n` records lost, the first with code `first`. -/
def State.noticeBytes (s : State) (n first : Nat) : List Byte :=
  mkRecord s.stamp EV_QM_OVERFLOW 0x0F s.quality (s.cfgEpoch 15) (le 4 n ++ le 2 first)

/-- A record that queue 0 refuses is lost: it is counted, and the notice in cell 8191 says so until it is popped (R451). -/
def State.loseRecord (s : State) (code : Nat) : State :=
  let s := (s.bump (QM_Q_DROPS 0)).put (QM_Q_STATUS_OVF 0) 1
  let first := !s.qm.evtLost
  let noticed := (s.queue 0).any (·.notice)
  let s :=
    if noticed || !first then
      let n := s.qm.lost + 1
      let l := (s.queue 0).map fun i =>
        let b := mkRecord (u64 i.bytes 0) EV_QM_OVERFLOW 0x0F (u8 i.bytes 11) (u16 i.bytes 12)
          (le 4 n ++ le 2 s.qm.firstLost)
        if i.notice then { i with bytes := b } else i
      let s := s.setQueue 0 l
      { s with qm := { s.qm with evtLost := true, lost := n } }
    else
      let s := { s with qm := { s.qm with evtLost := true, lost := 1, firstLost := code } }
      if s.fenced 15 then s
      else s.setQueue 0 (s.queue 0 ++ [{ bytes := s.noticeBytes 1 code, src := 0x0F, cells := 0, notice := true }])
  if first then s.raise FID_QM_EVT_LOST else s

/-- Queue `q` refuses the begin of an item with event code `code` (R438, R451). -/
def State.refuse (s : State) (q cells code : Nat) : State :=
  if q = 0 then (s.poolEmpty 0 cells).loseRecord code else s.refuseBegin q cells

/-- A locked worker sends a frame up the link for each frame record and each event or fault record (R594, R597). -/
def State.linkSent (s : State) : State :=
  if s.sys.role ≠ 0 && s.unitOn 20 && s.flag WLK_STATUS_LOCKED then s.bump WLK_TX_FRAMES else s

/-- A record of 32 bytes, or a longer event item, goes to queue 0 (R438, R441, R447, R451). Crossings of queue 0 set flags
and counts only (R447). -/
def State.pushEvtItem (s : State) (bytes : List Byte) (src : Nat) : State :=
  let code := u16 bytes 8
  if !s.awake then { s with qm := { s.qm with heldEvts := s.qm.heldEvts ++ [(bytes, src)] } }
  else
  let s := s.linkSent
  if s.fenced 15 then s.loseRecord code
  else
    let (l, it) := s.packItem 0 bytes src
    if s.beginRefused 0 it.cells then s.refuse 0 it.cells code
    else
      let old := s.level 0
      let s := s.setQueue 0 (l ++ [it])
      let s := { s with qm := { s.qm with evtLost := false } }
      (s.cross 0 old (s.level 0)).1

/-- The records held in P2 to P4 are queued once the core domain is back (notes/assumptions/12.md). -/
def State.flushHeld (s : State) : State :=
  s.qm.heldEvts.foldl (fun s (b, src) => s.pushEvtItem b src) { s with qm := { s.qm with heldEvts := [] } }

/-- An event record with timestamp `ts` and quality `qual` is queued to queue 0. -/
def State.eventAt (s : State) (ts qual code : Nat) (data : List Byte) : State :=
  s.pushEvtItem (mkRecord ts code (code / 256) qual (s.cfgEpoch (code / 256)) data) (code / 256)

/-- An event record stamped now is queued to queue 0. -/
def State.event (s : State) (code : Nat) (data : List Byte) : State := s.eventAt s.stamp s.quality code data

/-- A record enters the 64-record buffer of the black box, or is lost (R560, R562). -/
def State.bbxPut (s : State) (bytes : List Byte) (key : Nat) (prot : Bool) : State :=
  if 64 ≤ s.bbx.buf.length then
    State.bump { s with bbx := { s.bbx with lostSinceHalf := s.bbx.lostSinceHalf + 1 } } BBX_LOST
  else { s with bbx := { s.bbx with buf := s.bbx.buf ++ [{ bytes := bytes, key := key, protected_ := prot }] } }

/-- An event that its chapter places in the black box as well: queued to queue 0 and buffered for BBX (R562). -/
def State.eventBbx (s : State) (code : Nat) (data : List Byte) (prot : Bool) : State :=
  let r := mkRecord s.stamp code (code / 256) s.quality (s.cfgEpoch (code / 256)) data
  (s.pushEvtItem r (code / 256)).bbxPut r code prot

/-- QM_WM records of a level change of queue `q`, where its EVT_WM asks for them (R447, R455). -/
def State.wmEvents (s : State) (q new : Nat) (up down : Bool) : State :=
  if q = 0 || !s.flag (QM_Q_CFG_EVT_WM q) then s
  else
    let d (k : Nat) (s : State) := [byte q, byte k] ++ le 2 new ++ le 2 (s.get (QM_Q_XCNT_HCROSS q))
      ++ le 2 (s.get (QM_Q_XCNT_LCROSS q))
    let s := if up then s.event EV_QM_WM (d 0 s) else s
    if down then s.event EV_QM_WM (d 1 s) else s

/-- The level of queue `q` has changed from `old`: flags, counts and records of R447. -/
def State.levelChanged (s : State) (q old : Nat) : State :=
  let new := s.level q
  let (s, up, down) := s.cross q old new
  s.wmEvents q new up down

/-- A hardware producer, or HIF and the firmware, puts a whole item into queue `q`: `none` when the begin is refused
(R438), else the state with the item committed (R437). -/
def State.pushItem (s : State) (q : Nat) (bytes : List Byte) (src : Nat) : Option State :=
  if s.fenced 15 || !s.flag (QM_Q_CFG_EN q) then none
  else
    let (l, it) := s.packItem q bytes src
    if s.beginRefused q it.cells then none
    else
      let old := s.level q
      some ((s.setQueue q (l ++ [it])).levelChanged q old)

/-- As `pushItem`, with the counts of a refusal (R438). -/
def State.pushOrCount (s : State) (q : Nat) (bytes : List Byte) (src : Nat) : State × Bool :=
  match s.pushItem q bytes src with
  | some s => (s, true)
  | none => (s.refuseBegin q (s.packItem q bytes src).2.cells, false)

/-- The charge of a packed cell passes to the record that stays in it (R441, R444). -/
def passCharge (hd : Item) (tl : List Item) : Item × List Item :=
  match hd.half, tl with
  | 2, n :: tl => ({ hd with cells := 0 }, { n with cells := 1 } :: tl)
  | _, tl => (hd, tl)

/-- The head item of queue `q` leaves it (R444): the item and the state, the level and watermarks evaluated (R445). -/
def State.popItem (s : State) (q : Nat) : Option (Item × State) :=
  match s.queue q with
  | [] => none
  | hd :: tl =>
    let (hd, tl) := passCharge hd tl
    let old := s.level q
    let s := s.setQueue q tl
    let full := s.qm.evtLost && decide (s.get (QM_Q_LIMITS_QUOTA 0) ≤ s.level 0)
    let s := if q = 0 then { s with qm := { s.qm with evtLost := full, lost := if hd.notice then 0 else s.qm.lost } } else s
    some (hd, s.levelChanged q old)

/-- The firmware takes the first `fuel` items of queue `q`. -/
def State.drainQueue (s : State) (q : Nat) : Nat → State
  | 0 => s
  | fuel + 1 => match s.popItem q with | some (_, s) => s.drainQueue q fuel | none => s

/-- The push ports whose open item is addressed to queue `q` end with `st` (R448). -/
def abortPorts (ports : List PushPort) (q st : Nat) : List PushPort :=
  ports.map fun p => match p.item with
    | some o => if o.queue = q then { p with item := none, status := st } else p
    | none => p

/-- Open items addressed to queue `q`. -/
def State.openItems (s : State) (q : Nat) : Nat :=
  (s.qm.push.filter fun p => match p.item with | some o => o.queue == q | none => false).length

/-- Every item of queue `q`, complete or open, is discarded (R448): items discarded, cells returned, open items aborted. -/
def State.flushQueue (s : State) (q st : Nat) : State × Nat × Nat × Nat :=
  let old := s.level q
  let items := (s.queue q).length
  let opens := s.openItems q
  let s := s.setQueue q []
  let s := { s with qm := { s.qm with push := abortPorts s.qm.push q st } }
  let s := if q = 0 then { s with qm := { s.qm with evtLost := false, lost := 0 } } else s
  (s.levelChanged q old, items, old, opens)

/-- The record of a flush (R455). -/
def State.flushedEvent (s : State) (q cause items cells opens : Nat) : State :=
  s.event EV_QM_FLUSHED ([byte q, byte cause] ++ le 2 items ++ le 2 cells ++ [byte opens])

/-- The QM interrupt request to HIF (R447). -/
def State.qmRequest (s : State) : Bool :=
  (List.range 128).any fun q =>
    (s.flag (QM_Q_CFG_IRQ_NE q) && !(s.queue q).isEmpty)
      || (s.flag (QM_Q_CFG_IRQ_WM q) && (s.flag (QM_Q_STATUS_HWF q) || s.flag (QM_Q_STATUS_LWF q)))

end Sys2Proof.Machine
end

