-- ==== Sys2Proof/Machine/Operands.lean ====
section
/-!
DEFINITION. Machine/Operands.lean: the operands of host commands: the opcode index of R483, the C rights of R492, the
order of checks of R466, the segments of requests and replies (R473), and the reply of a command.
-/
namespace Sys2Proof.Machine

/-- One row of the opcode index (R483): opcode, the block whose C right it needs (none for 0x00 to 0x02, 0x04 to 0x07),
and whether M2 may send it. -/
structure OpRow where
  op : Nat
  block : Option Nat
  side : Bool
  deriving DecidableEq, Repr

/-- The opcode index of R483. -/
def opRows : List OpRow :=
  [⟨0x00, none, true⟩, ⟨0x01, none, true⟩, ⟨0x02, none, true⟩, ⟨0x03, some 0, false⟩, ⟨0x04, none, true⟩,
   ⟨0x05, none, true⟩, ⟨0x06, none, true⟩, ⟨0x07, none, true⟩] ++
  [⟨0x10, some 1, false⟩, ⟨0x11, some 1, false⟩, ⟨0x12, some 1, true⟩, ⟨0x13, some 1, false⟩, ⟨0x14, some 1, false⟩,
   ⟨0x15, some 1, false⟩] ++
  [⟨0x20, some 2, true⟩, ⟨0x21, some 2, false⟩, ⟨0x22, some 2, false⟩, ⟨0x23, some 2, false⟩, ⟨0x24, some 3, false⟩,
   ⟨0x25, some 3, true⟩] ++
  (List.range 8).map (fun i => ⟨0x30 + i, some 4, false⟩) ++
  [⟨0x40, some 5, false⟩, ⟨0x41, some 5, false⟩, ⟨0x42, some 5, false⟩, ⟨0x47, some 5, false⟩] ++
  [⟨0x43, some 6, false⟩, ⟨0x44, some 6, false⟩, ⟨0x45, some 6, false⟩, ⟨0x46, some 6, true⟩, ⟨0x48, some 6, false⟩,
   ⟨0x49, some 6, false⟩] ++
  [⟨0x50, some 7, false⟩, ⟨0x51, some 7, false⟩, ⟨0x52, some 7, true⟩, ⟨0x53, some 8, false⟩, ⟨0x54, some 8, true⟩] ++
  (List.range 9).map (fun i => ⟨0x60 + i, some 9, false⟩) ++
  (List.range 6).map (fun i => ⟨0x70 + i, some 10, false⟩) ++
  [⟨0x80, some 11, false⟩, ⟨0x81, some 11, false⟩, ⟨0x82, some 11, false⟩, ⟨0x83, some 21, false⟩, ⟨0x84, some 21, true⟩,
   ⟨0x85, some 12, true⟩, ⟨0x86, some 12, false⟩] ++
  (List.range 5).map (fun i => ⟨0x90 + i, some 13, false⟩) ++
  [⟨0xA0, some 14, false⟩, ⟨0xA1, some 14, false⟩, ⟨0xA2, some 14, false⟩, ⟨0xA3, some 14, true⟩,
   ⟨0xA4, some 14, false⟩] ++
  [⟨0xB0, some 15, false⟩, ⟨0xB1, some 15, false⟩, ⟨0xB2, some 15, false⟩, ⟨0xB3, some 15, false⟩, ⟨0xB4, some 15, true⟩,
   ⟨0xB5, some 15, false⟩] ++
  [⟨0xC0, some 17, true⟩, ⟨0xC1, some 17, false⟩, ⟨0xC2, some 17, false⟩, ⟨0xC3, some 18, true⟩,
   ⟨0xC4, some 17, false⟩] ++
  [⟨0xD0, some 0, false⟩, ⟨0xD1, some 0, false⟩, ⟨0xD2, some 0, true⟩, ⟨0xD3, some 0, false⟩, ⟨0xD4, some 0, false⟩,
   ⟨0xD5, some 0, false⟩, ⟨0xD6, some 0, false⟩, ⟨0xD7, some 0, false⟩] ++
  [⟨0xE0, some 20, false⟩, ⟨0xE1, some 20, false⟩, ⟨0xE2, some 20, true⟩, ⟨0xE3, some 20, false⟩, ⟨0xF0, some 0, false⟩,
   ⟨0xF1, some 0, false⟩]

/-- The row of an opcode, if it is listed. -/
def opRow (op : Nat) : Option OpRow := opRows.find? (·.op == op)

/-- The rights target of an opcode as a block number; a block without fence where it names none. -/
def opBlock (op : Nat) : Nat := ((opRow op).bind (·.block)).getD 0

/-- Master `m` holds right `k` (0 R, 1 W, 2 C) in a rights word (R495 layout). -/
def rightIn (w : Nat) (m : Master) (k : Nat) : Bool := bitAt w (3 * m.num + k) == 1

/-- A parity error in the table of target `t` bars every master but M0 and M6 (R494). -/
def State.parityBars (s : State) (m : Master) (t : Nat) : Bool :=
  s.hif.accParity.contains t && m != .m0 && m != .m6

/-- The C right of master `m` on the block that the opcode names (R492: the DEFAULT word alone decides it). -/
def State.mayCommand (s : State) (m : Master) (op : Nat) : Bool :=
  match opRow op with
  | none => false
  | some r =>
    (m != .m2 || r.side) &&
      match r.block with
      | none => true
      | some b => rightIn (s.get (ACC_T_DEFAULT (8 + b))) m 2 && !s.parityBars m (8 + b)

/-- The first failing check decides the status (R466). -/
def firstFail : List (Bool × Nat) → Option Nat
  | [] => none
  | (ok, st) :: l => if ok then firstFail l else some st

/-! ### Requests and replies in queues 1 and 2 (R473) -/

/-- The port numbers of a master's requests: those of R473, and 3 for a request that came by the worker link, which acts as M1
(R596; notes/assumptions/22.md). -/
def portsOf : Master → List Nat
  | .m1 => [1, 3] | .m2 => [2] | _ => []

/-- The packet bytes and the remaining items of the first request of queue 1, its header given. -/
def takeSegs (port seq : Nat) : List Item → List Byte → Option (List Byte × List Item)
  | [], _ => none
  | i :: l, acc =>
    if u8 i.bytes 0 = port ∧ u8 i.bytes 1 = seq then
      let acc := acc ++ i.bytes.drop 4
      if bitAt (u8 i.bytes 3) 0 = 1 then some (acc, l) else takeSegs port seq l acc
    else none

/-- The request at the head of queue 1, if it is one from one of `ports` with this opcode and these parameters: its context
and the queue without its segments. -/
def State.headRequest (s : State) (ports : List Nat) (op : Nat) (p : List Byte) : Option (ReqCtx × List Item) :=
  match s.queue 1 with
  | [] => none
  | i :: l =>
    let port := u8 i.bytes 0
    if ports.contains port then
      match takeSegs port (u8 i.bytes 1) (i :: l) [] with
      | some (b, rest) =>
        if u8 b 0 = op ∧ b.drop 4 = p then some ({ port := port, seq := u8 i.bytes 1, tag := u8 b 1 }, rest) else none
      | none => none
    else none

/-- The firmware takes the request it is about to serve out of queue 1 (R473), if the command came by a port. -/
def State.takeRequest (s : State) (m : Master) (op : Nat) (p : List Byte) : Option ReqCtx × State :=
  match s.headRequest (portsOf m) op p with
  | some (c, rest) =>
    let old := s.level 1
    (some c, (s.setQueue 1 rest).levelChanged 1 old)
  | none => (none, s)

/-- The segment items of a packet body of which the first segment holds `first` (R473). -/
def segItems (port seq : Nat) : Nat → Nat → List Byte → List (List Byte)
  | 0, _, _ => []
  | fuel + 1, k, b =>
    let last := b.length ≤ 4092
    let hd := [byte port, byte seq, byte k, byte (bit01 last)]
    if last then [hd ++ b] else (hd ++ b.take 4092) :: segItems port seq fuel (k + 1) (b.drop 4092)

/-- Items go into queue `q` in order, all or none (R473, R474). -/
def State.pushAll (s : State) (q src : Nat) (its : List (List Byte)) : Option State :=
  if s.get (QM_Q_LIMITS_QUOTA q) < s.level q + sumNat (its.map fun b => cellsOf b.length) then none
  else its.foldl (fun o b => o.bind fun s => s.pushItem q b src) (some s)

/-- The reply segments of R473 for a request context. -/
def replySegs (c : ReqCtx) (st : Nat) (data : List Byte) : List (List Byte) :=
  segItems c.port c.seq 10 0 ([byte st, byte c.tag, 0, 0] ++ data)

/-- The firmware returns a reply to queue 2, or holds it until queue 2 has room for all of it (R473). -/
def State.sendReply (s : State) (c : ReqCtx) (st : Nat) (data : List Byte) : State :=
  let hold := { s with hif := { s.hif with held := s.hif.held ++ [{ ctx := c, status := st, data := data }] } }
  if s.hif.held.isEmpty then (s.pushAll 2 0x80 (replySegs c st data)).getD hold else hold

/-- The reply of a command to master `m`, sent to its port where it came by one (R465, R473). -/
def State.answer (s : State) (m : Master) (op : Nat) (c : Option ReqCtx) (st : Nat) (data : List Byte) : State :=
  let r : Reply := { master := m, op := op, status := st, data := data }
  let s := { s with hif := { s.hif with lastReply := some r } }
  match c with
  | some c => s.sendReply c st data
  | none => s

/-- What a command does once its checks pass: the new state, the status and the reply data. -/
abbrev Effect := State × Nat × List Byte

/-- The checks that come before a command's own: the master's right (R466, row 3), and a fenced QM, under which HIF
answers every request FENCED (R453, R475). -/
def State.rightChecks (s : State) (m : Master) (op : Nat) : List (Bool × Nat) :=
  [(s.mayCommand m op, ACCESS_DENIED), (!s.fenced 15, FENCED)]

/-- The opcodes that the recovery path serves (R586). -/
def recoveryOps : List Nat := [0x00, 0x01, 0x02, 0x03, 0x07, 0xD4, 0xD5, 0xD6]

/-- The state that the addressed unit and the recovery path must have (R549, R586). -/
def State.stateChecks (s : State) (op : Nat) : List (Bool × Nat) :=
  [(!s.recovery || recoveryOps.contains op, BAD_STATE), (!s.fenced (opBlock op), FENCED)]

/-- A host command served by the firmware, which takes its request out of queue 1 (R466, R473): the master's right, the length
and values of the parameters (`syn`), the fence of the unit it addresses (R549), then its own checks and effect. `body` gets the
context of the reply; where it answers `some`, the reply is given now. While the firmware does not serve the queue the command
does not come about (R474). -/
def hostCmdLater (op : Nat) (m : Master) (p : List Byte) (syn : List (Bool × Nat))
    (body : Option ReqCtx → State → State × Option (Nat × List Byte)) (s : State) : State :=
  if !s.hostReady then s
  else
    let (c, t) := s.takeRequest m op p
    match firstFail (s.rightChecks m op ++ syn ++ s.stateChecks op) with
    | some st => t.answer m op c st []
    | none =>
      match body c t with
      | (t, some (st, d)) => t.answer m op c st d
      | (t, none) => t

/-- A host command that replies at once. -/
def hostCmd (op : Nat) (m : Master) (p : List Byte) (syn : List (Bool × Nat)) (body : State → Effect) (s : State) :
    State :=
  hostCmdLater op m p syn (fun _ s => let (s, st, d) := body s; (s, some (st, d))) s

/-- A reply with a status alone. -/
def State.ends (s : State) (st : Nat) : Effect := (s, st, [])

/-- A reply OK without data. -/
def State.ok (s : State) : Effect := (s, OK, [])

/-- The parameters have exactly `n` bytes (R466, row 4). -/
def lenIs (p : List Byte) (n : Nat) : Bool × Nat := (p.length == n, BAD_LENGTH)

/-- A parameter value is permitted (R466, row 5; R8). -/
def paramOk (b : Bool) : Bool × Nat := (b, BAD_PARAM)

/-! ### Bus accesses (R20 to R22, R491 to R494, R549) -/

/-- The target that an address lies in, and its offset there (R17, R491). The vault memory, target 7, has no address. -/
def targetOf (a : Nat) : Option (Nat × Nat) :=
  if a < 0x10000 then some (0, a)
  else if within 0x10000000 0x100FFFFF a then some (1, a - 0x10000000)
  else if within 0x18000000 0x1807FFFF a then some (2, a - 0x18000000)
  else if within 0x1C000000 0x1C01FFFF a then some (3, a - 0x1C000000)
  else if within 0x20000000 0x2007FFFF a then some (4, a - 0x20000000)
  else if within 0x28000000 0x28001FFF a then some (5, a - 0x28000000)
  else if within 0x30000000 0x33FFFFFF a then some (6, a - 0x30000000)
  else (blockOf a).map fun (b, o) => (8 + b, o)

/-- Offset `o` of QM lies in its queue windows: the push and the pop ports (R22, R442). -/
def queueWindow (o : Nat) : Bool := within 0x100 0x17F o || within 0x200 0x27F o

/-- The crossbar of R22 connects master `m` to offset `o` of target `t` for a read (`k` = 0) or a write (`k` = 1). M3 reaches the
queue windows alone among the peripherals, M5 no peripheral (notes/assumptions/6.md). -/
def connected (m : Master) (t o k : Nat) : Bool :=
  match m with
  | .m0 | .m6 => true
  | .m1 => 8 ≤ t || (t == 5 && k == 0)
  | .m2 => 8 ≤ t
  | .m3 => t == 1 || t == 2 || (t == 6 && k == 0) || (t == 23 && queueWindow o)
  | .m5 => t == 2
  | .m4 => false

/-- M6 issues accesses only in factory test mode: outside it there is no access (R22). -/
def State.silent (s : State) (m : Master) : Bool := m == .m6 && !s.sys.test

/-- The rights word that decides an access at offset `o` of target `t`: the lowest-numbered valid region that contains the
offset, or the DEFAULT word (R492). -/
def State.rightsAt (s : State) (t o : Nat) : Nat :=
  match (List.range 16).find? fun r =>
      s.flag (ACC_R_RIGHTS_VALID t r) && s.get (ACC_R_START t r) ≤ o && o ≤ s.get (ACC_R_END t r) + 3 with
  | some r => s.get (ACC_R_RIGHTS t r)
  | none => s.get (ACC_T_DEFAULT t)

/-- What becomes of a bus access (R20, R493, R549). -/
inductive BusOutcome | decode | denied | fenced | ok
  deriving DecidableEq, Repr

/-- The outcome of an access by `m` to address `a`: `k` is 0 for a read, 1 for a write. Only M0 and M6 write the ACC block
(R494). -/
def State.busOutcome (s : State) (m : Master) (a k : Nat) : BusOutcome :=
  match targetOf a with
  | none => .decode
  | some (t, o) =>
    if 8 ≤ t && !listedOffset (t - 8) o then .decode
    else if !connected m t o k || s.parityBars m t || !rightIn (s.rightsAt t o) m k
        || (k = 1 && t = 27 && m != .m0 && m != .m6) then .denied
    else if 8 ≤ t && s.fenced (t - 8) then .fenced else .ok

/-- The target number of an address in ACC_FAULT_INFO: 31 where it lies in none (R506; notes/assumptions/7.md). -/
def faultTarget (a : Nat) : Nat := ((targetOf a).map (·.1)).getD 31

/-- An access to an unlisted address: ACC records it and reports ACC_DECODE (R20). -/
def State.decodeFault (s : State) (m : Master) (a k : Nat) : State :=
  let s := s.put ACC_FAULT_ADDR a
  (s.put ACC_FAULT_INFO (m.num + 8 * k + 2 ^ 8 * faultTarget a)).raise FID_ACC_DECODE 0xFF (byte m.num :: le 4 a)

/-- A denied access: it is counted, recorded and reported as ACC_DENY (R493). -/
def State.denyFault (s : State) (m : Master) (a k : Nat) : State :=
  let s := (s.bump ACC_DENIES).put ACC_FAULT_ADDR a
  (s.put ACC_FAULT_INFO (m.num + 8 * k + 16 + 2 ^ 8 * faultTarget a)).raise FID_ACC_DENY 0xFF (byte m.num :: le 4 a)

/-- A bus access by `m` to `a`, whose effect is `f` where the access is permitted and reaches its block. No access comes while
the core domain is without power or in reset. -/
def State.onBus (s : State) (m : Master) (a k : Nat) (f : State → State) : State :=
  if !s.awake || s.silent m then s
  else
  match s.busOutcome m a k with
  | .decode => s.decodeFault m a k
  | .denied => s.denyFault m a k
  | .fenced => s
  | .ok => f s

/-- The answer of a bus read, kept as the last reply. -/
def State.readBack (s : State) (m : Master) (v : Nat) : State :=
  { s with hif := { s.hif with lastReply := some { master := m, op := 0x04, status := OK, data := le 4 v } } }

/-- A bus read by `m` of the register at `a`: the value returned is `v` where the access reaches its block, else 0
(R20, R493, R549), and its effect is `f`. -/
def State.onRead (s : State) (m : Master) (a v : Nat) (f : State → State) : State :=
  if !s.awake || s.silent m then s else (s.readBack m (if s.busOutcome m a 0 == .ok then v else 0)).onBus m a 0 f

end Sys2Proof.Machine
end

