-- ==== Sys2Proof/Machine/PwrOps.lean ====
section
/-!
DEFINITION. Machine/PwrOps.lean: what every block needs of PWR: wake sources (R513, R515, R516), the abort of an entry,
interrupts to the cores (R509, R511), and activities that begin or are refused around an entry (R513).
-/
namespace Sys2Proof.Machine

/-- A power state code 0 to 4 (R507). -/
def PState.ofNum : Nat → PState
  | 0 => .p0 | 1 => .p1 | 2 => .p2 | 3 => .p3 | _ => .p4

/-- The device moves to power state `p`; entries into P1 to P4 are counted (PWR_ENTRIESs). -/
def State.toState (s : State) (p : PState) : State :=
  let s := { s with pwr := { s.pwr with st := p } }
  if p.num = 0 then s else s.bump (PWR_ENTRIES p.num)

/-- The device is in P2, P3 or P4. -/
def State.asleep (s : State) : Bool := !s.awake

/-- The source with code `c` is enabled by PWR_WAKE_EN (R515: PATTERN is enabled by the bit of WAKE, the retry always). -/
def State.wakeEnabled (s : State) (c : Nat) : Bool :=
  if c = 3 then s.bit PWR_WAKE_EN 2 else if c = 12 then true else s.bit PWR_WAKE_EN c

/-- The states from which source code `c` wakes the device (R515). -/
def wakesFrom (c : Nat) (p : PState) : Bool :=
  match p with
  | .p2 | .p3 => c != 12 && within 1 11 c
  | .p4 => [1, 2, 3, 6, 7, 12].contains c
  | _ => false

/-- An enabled level source is pending (R510, R538). -/
def State.wakePending (s : State) : Bool := (List.range 13).any fun c => s.bit PWR_WAKE_PEND c && s.wakeEnabled c

/-- The commit window of an entry is open (R512): its first low-power edge has come. -/
def State.inWindow (s : State) : Bool :=
  match s.pwr.entry with | some e => e.step == 2 && e.winLp ≤ s.time.lp | none => false

/-- An entry is past consent but not yet in its commit window (R513). -/
def State.entryAbortable (s : State) : Bool := s.pwr.entry.isSome && !s.inWindow

/-- An entry ends before its commit window: the device is in P1, PWR_ABORT is queued and the abort counted against
`block` (R513, R534). -/
def State.abortEntry (s : State) (src block cnt : Nat) : State :=
  match s.pwr.entry with
  | none => s
  | some e =>
    let s := { s with pwr := { s.pwr with entry := none, enterWait := none }
                      time := { s.time with saved := if e.fromP2 then s.time.saved else none } }
    let s := s.bump (PWR_REFUSE_ABORT cnt)
    let s := ((s.put PWR_LAST_ABORT_SOURCE src).put PWR_LAST_ABORT_BLOCK block).put PWR_LAST_ABORT_TARGET e.target
    let s := if e.fromP2 then s else { s with pwr := { s.pwr with st := .p1 } }
    s.event EV_PWR_ABORT [byte e.target, byte src, byte block, byte e.step]

/-- The wake sequence starts (R519): the reference is started and, from P3 and P4, VID set to 0b001. -/
def State.startWake (s : State) (c detail : Nat) : State :=
  let w : WakeSeq := { source := c, detail := detail, left := s.pwr.st.num, at_ := s.time.now, stage := .refStart,
                       stageAt := s.time.now, lp := s.time.lp }
  { s with pwr := { s.pwr with wake := some w, retryAt := none, vid := if 3 ≤ s.pwr.st.num then 1 else s.pwr.vid } }

/-- A level source is latched in PWR_WAKE_PEND, with its DETAIL, from the start of an entry and in P2 to P4 (R516). -/
def State.latchWake (s : State) (c detail : Nat) : State :=
  State.putBit { s with pwr := { s.pwr with details := s.pwr.details.set c detail } } PWR_WAKE_PEND c true

/-- A source that fires in the low-power cycle in which a wake began: the lowest code is recorded (R518). -/
def State.wakeTogether (s : State) (w : WakeSeq) (c detail : Nat) : State :=
  if w.lp = s.time.lp && c < w.source then
    { s with pwr := { s.pwr with wake := some { w with source := c, detail := detail } } }
  else s

/-- Source `c` fires (R513, R515, R516): from the start of an entry, and in P2 to P4, a level event is latched, enabled or not.
An enabled source aborts an entry before its commit window, does nothing more inside it, and starts the wake in P2 to P4. -/
def State.wakeSource (s : State) (c detail : Nat) (level : Bool) : State :=
  if s.pwr.lockout then s
  else
    let s := if level && (s.asleep || s.pwr.entry.isSome) then s.latchWake c detail else s
    if !s.wakeEnabled c || s.inWindow then s
    else if s.asleep then
      if !wakesFrom c s.pwr.st then s
      else
        match s.pwr.wake with
        | some w => s.wakeTogether w c detail
        | none => ({ s with pwr := { s.pwr with entry := none } }).startWake c detail
    else if s.pwr.entry.isNone then s
    else s.abortEntry c 0xFF 1

/-- An interrupt to the cores: idle time ends, FW_DEEP_OK is cleared, an entry before its window is aborted and the device
runs (R509, R511, R513). Inside the window and in P2 to P4 it is held for the next wake. -/
def State.coreInterrupt (s : State) : State :=
  if s.asleep || s.inWindow then s
  else
    let s := s.put PWR_CTRL_FW_DEEP_OK 0
    let s := s.abortEntry 0xFF 0xFF 1
    let s := { s with pwr := { s.pwr with idleSince := none, refusedNow := 0 } }
    if s.pwr.st == .p1 then { s with pwr := { s.pwr with st := .p0 } } else s

/-- An enable (`en`) or disable of the unit with block number `b` (R590); `busy` where it must first finish something. -/
def State.unitSwitch (s : State) (b : Nat) (en busy : Bool) : State :=
  match s.unit b, en with
  | .off, true => s.setUnit b .starting
  | .disabling, true => s.setUnit b .restartPending
  | .restartPending, false => s.setUnit b .disabling
  | .on, false => s.setUnit b (if busy then .disabling else .off)
  | _, _ => s

/-- What kept unit `b` in DISABLING has ended (R590). -/
def State.unitSettle (s : State) (b : Nat) : State :=
  match s.unit b with
  | .disabling => s.setUnit b .off
  | .restartPending => s.setUnit b .starting
  | _ => s

/-- Block `b` starts an activity: before the commit window it withdraws its consent and the entry is aborted (R513). -/
def State.withdraw (s : State) (b : Nat) : State := if s.entryAbortable then s.abortEntry 0xFF b b else s

/-- Core-side activities cannot start: in P2 to P4, and inside the commit window (R513). -/
def State.coreOff (s : State) : Bool := s.asleep || s.inWindow

/-- Activities that need the timing clock, RADIO, the LF clock or the reader clock cannot start: in reduced function as well
(R521). -/
def State.noRadio (s : State) : Bool := s.coreOff || s.pwr.reduced

end Sys2Proof.Machine
end

