-- ==== Sys2Proof/Machine/HifOps.lean ====
section
/-!
DEFINITION. Machine/HifOps.lean: the two ports of HIF: flag bytes, packets, requests taken and replies formed (R464 to
R481). The commands HIF executes itself are in Machine/RegAccess.lean and the port events in Machine/Hif.lean.
-/
namespace Sys2Proof.Machine

/-- The SPI port (`false`) or the sideband port (`true`). -/
def State.port (s : State) (side : Bool) : Port := if side then s.hif.side else s.hif.spi

/-- A port becomes `p`. -/
def State.setPort (s : State) (side : Bool) (p : Port) : State :=
  if side then { s with hif := { s.hif with side := p } } else { s with hif := { s.hif with spi := p } }

/-- HIF_IRQ_STATUS as it stands (R477, R504): REPLY and SIDE_REPLY while a reply waits to be read, the QM request, the
collector's notification, and the sticky bits. -/
def State.irqStatus (s : State) : Nat :=
  bit01 (s.hif.spi.reply.isSome && !s.hif.spi.read) + 2 * bit01 (s.hif.side.reply.isSome && !s.hif.side.read)
    + 4 * bit01 s.qmRequest + 8 * s.get FLT_STAT_NOTE + 16 * s.get HIF_IRQ_STATUS_FW_READY
    + 32 * s.get HIF_IRQ_STATUS_WAKE + 64 * s.get HIF_IRQ_STATUS_REJECT

/-- nIRQ is asserted (R477). -/
def State.irq (s : State) : Bool :=
  (List.range 7).any fun i => bitAt s.irqStatus i == 1 && s.bit HIF_IRQ_EN i

/-- HIF accepts a request on the port (R469, R470, R478). -/
def State.portReady (s : State) (side : Bool) : Bool :=
  s.awake && s.pwr.hifUp && (s.port side).pending.isNone && (!side || s.flag HIF_CTRL_SIDE_EN)

/-- The flag byte of R469. -/
def State.flagByte (s : State) (side : Bool) : Nat :=
  bit01 (s.portReady side) + 2 * bit01 (s.port side).pending.isSome + 4 * bit01 (s.port side).reply.isSome
    + 8 * bit01 (s.port side).rejected + 16 * bit01 s.irq + 32 * bit01 (!(s.queue 0).isEmpty)
    + 64 * bit01 s.pwr.fwServing

/-- BUSY (R470): HIF cannot accept a request on the SPI link. -/
def State.busyPin (s : State) : Bool := !s.portReady false

/-- The reply packet of R465. -/
def replyPacket (st tag : Nat) (data : List Byte) : List Byte :=
  let b := [0xA5, byte st, byte tag] ++ le 2 data.length ++ data
  b ++ le 2 (crc16 b)

/-- The port's error counter (R503). -/
def errCounter (side : Bool) : Field := if side then HIF_SIDE_ERRS else HIF_SPI_ERRS

/-- The reply to the pending request of a port is ready (R465, R470). -/
def State.formReply (s : State) (side : Bool) (st tag : Nat) (data : List Byte) : State :=
  let s := if st = BAD_CRC ∨ st = BAD_LENGTH then s.bump (errCounter side) else s
  s.setPort side { s.port side with pending := none, reply := some (replyPacket st tag data), read := false }

/-- A request is taken on a port: it is counted, the sequence number rises, and an unread reply is discarded (R471). -/
def State.acceptRequest (s : State) (side : Bool) : State :=
  let s := s.bump (if side then HIF_SIDE_REQS else HIF_SPI_REQS)
  let p := s.port side
  let s := if p.reply.isSome && !p.read then s.bump HIF_REPLY_LOST else s
  let s := { s with hif := { s.hif with seq := (s.hif.seq + 1) % 256 } }
  s.setPort side { s.port side with reply := none, read := false }

/-- A request that HIF does not execute goes into queue 1 for the firmware, or is answered BUSY (R473, R474). The request
interrupts the cores (R509). -/
def State.enqueueRequest (s : State) (side : Bool) (op tag : Nat) (params : List Byte) : State :=
  let port := if side then 2 else 1
  let body := [byte op, byte tag] ++ le 2 params.length ++ params
  match s.pushAll 1 0x10 (segItems port s.hif.seq 3 0 body) with
  | none => s.formReply side BUSY tag []
  | some s =>
    let r : PendReq := { seq := s.hif.seq, tag := tag, op := op, params := params, at_ := s.time.now }
    (s.setPort side { s.port side with pending := some r }).coreInterrupt

/-- A request packet received whole or cut on a port that can take it (R466, R467). `reg` executes REG_READ, REG_WRITE and
REG_MODIFY (R472). -/
def State.receivePacket (s : State) (side : Bool) (b : List Byte)
    (reg : Master → Nat → List Byte → State → Effect) : State :=
  let m := if side then Master.m2 else Master.m1
  let tag := u8 b 2
  let n := u16 b 3
  if b.length < 5 then s.bump (errCounter side)
  else
    let s := s.acceptRequest side
    if 4104 < n || b.length < 7 + n then s.formReply side BAD_LENGTH tag []
    else if crc16 (b.take (5 + n)) ≠ u16 b (5 + n) then s.formReply side BAD_CRC tag []
    else
      let op := u8 b 1
      let params := (b.drop 5).take n
      if (opRow op).isNone then s.formReply side BAD_OPCODE tag []
      else if !s.mayCommand m op then s.formReply side ACCESS_DENIED tag []
      else if op = 0x04 ∨ op = 0x05 ∨ op = 0x06 then
        let (s, st, d) := reg m op params s
        s.formReply side st tag d
      else if s.fenced 15 then s.formReply side FENCED tag []
      else s.enqueueRequest side op tag params

/-- The port takes part in bus traffic: HIF is operational, and the sideband port is enabled (R470, R478). -/
def State.portUp (s : State) (side : Bool) : Bool := s.awake && s.pwr.hifUp && (!side || s.flag HIF_CTRL_SIDE_EN)

/-- A flag byte leaves the port: it shows REJECTED and clears it (R469, R479). -/
def State.flagSent (s : State) (side : Bool) (out : List Byte) : State :=
  State.setPort { s with hif := { s.hif with out := out } } side { s.port side with rejected := false }

/-- A read of `n` bytes returns: the flag byte, then the reply packet, then zeros (R469, R479). -/
def State.readBytes (s : State) (side : Bool) (n : Nat) : List Byte :=
  padTo n (byte (s.flagByte side) :: (s.port side).reply.getD [])

/-- The reply of the port is read when the transaction covers the whole packet. -/
def State.readsReply (s : State) (side : Bool) (n : Nat) : Bool :=
  match (s.port side).reply with | some r => r.length < n | none => false

/-- A read transaction or transfer of `n` bytes (R469, R471, R477, R479). -/
def State.readOn (s : State) (side : Bool) (n : Nat) : State :=
  if !s.portUp side || n = 0 then s
  else
    let got := s.readsReply side n
    let s := s.flagSent side (s.readBytes side n)
    s.setPort side { s.port side with read := (s.port side).read || got }

/-- A transaction on the SPI link or a write transfer on the sideband port, with the bytes the host sends (R467, R469 to R471, R478,
R479). On the SPI link every transaction begins with a flag byte, and the first byte 0xA5 begins a read. -/
def State.requestOn (s : State) (side : Bool) (b : List Byte)
    (reg : Master → Nat → List Byte → State → Effect) : State :=
  if !s.portUp side || b.isEmpty then s
  else if u8 b 0 = 0xA5 then (if side then s else s.readOn false b.length)
  else
    let s := if side then s else s.flagSent false (padTo b.length [byte (s.flagByte false)])
    if u8 b 0 ≠ 0x5A then s.bump (errCounter side)
    else if (s.port side).pending.isSome then
      let s := s.setPort side { s.port side with rejected := true }
      (s.put HIF_IRQ_STATUS_REJECT 1).bump (errCounter side)
    else s.receivePacket side b reg

end Sys2Proof.Machine
end

