-- ==== Sys2Proof/Machine/Crypto.lean ====
section
/-!
DEFINITION. Machine/Crypto.lean: AES of FIPS 197, CMAC, CCM and key unwrap KW-AD, the standards R13, R324 and R329 name; the
block orders of the standards are taken from them (notes/assumptions/10.md).
-/
namespace Sys2Proof.Machine

/-- The S-box of FIPS 197, row by row. -/
def sboxRows : List (List Byte) :=
  [
   [0x63, 0x7C, 0x77, 0x7B, 0xF2, 0x6B, 0x6F, 0xC5, 0x30, 0x01, 0x67, 0x2B, 0xFE, 0xD7, 0xAB, 0x76],
   [0xCA, 0x82, 0xC9, 0x7D, 0xFA, 0x59, 0x47, 0xF0, 0xAD, 0xD4, 0xA2, 0xAF, 0x9C, 0xA4, 0x72, 0xC0],
   [0xB7, 0xFD, 0x93, 0x26, 0x36, 0x3F, 0xF7, 0xCC, 0x34, 0xA5, 0xE5, 0xF1, 0x71, 0xD8, 0x31, 0x15],
   [0x04, 0xC7, 0x23, 0xC3, 0x18, 0x96, 0x05, 0x9A, 0x07, 0x12, 0x80, 0xE2, 0xEB, 0x27, 0xB2, 0x75],
   [0x09, 0x83, 0x2C, 0x1A, 0x1B, 0x6E, 0x5A, 0xA0, 0x52, 0x3B, 0xD6, 0xB3, 0x29, 0xE3, 0x2F, 0x84],
   [0x53, 0xD1, 0x00, 0xED, 0x20, 0xFC, 0xB1, 0x5B, 0x6A, 0xCB, 0xBE, 0x39, 0x4A, 0x4C, 0x58, 0xCF],
   [0xD0, 0xEF, 0xAA, 0xFB, 0x43, 0x4D, 0x33, 0x85, 0x45, 0xF9, 0x02, 0x7F, 0x50, 0x3C, 0x9F, 0xA8],
   [0x51, 0xA3, 0x40, 0x8F, 0x92, 0x9D, 0x38, 0xF5, 0xBC, 0xB6, 0xDA, 0x21, 0x10, 0xFF, 0xF3, 0xD2],
   [0xCD, 0x0C, 0x13, 0xEC, 0x5F, 0x97, 0x44, 0x17, 0xC4, 0xA7, 0x7E, 0x3D, 0x64, 0x5D, 0x19, 0x73],
   [0x60, 0x81, 0x4F, 0xDC, 0x22, 0x2A, 0x90, 0x88, 0x46, 0xEE, 0xB8, 0x14, 0xDE, 0x5E, 0x0B, 0xDB],
   [0xE0, 0x32, 0x3A, 0x0A, 0x49, 0x06, 0x24, 0x5C, 0xC2, 0xD3, 0xAC, 0x62, 0x91, 0x95, 0xE4, 0x79],
   [0xE7, 0xC8, 0x37, 0x6D, 0x8D, 0xD5, 0x4E, 0xA9, 0x6C, 0x56, 0xF4, 0xEA, 0x65, 0x7A, 0xAE, 0x08],
   [0xBA, 0x78, 0x25, 0x2E, 0x1C, 0xA6, 0xB4, 0xC6, 0xE8, 0xDD, 0x74, 0x1F, 0x4B, 0xBD, 0x8B, 0x8A],
   [0x70, 0x3E, 0xB5, 0x66, 0x48, 0x03, 0xF6, 0x0E, 0x61, 0x35, 0x57, 0xB9, 0x86, 0xC1, 0x1D, 0x9E],
   [0xE1, 0xF8, 0x98, 0x11, 0x69, 0xD9, 0x8E, 0x94, 0x9B, 0x1E, 0x87, 0xE9, 0xCE, 0x55, 0x28, 0xDF],
   [0x8C, 0xA1, 0x89, 0x0D, 0xBF, 0xE6, 0x42, 0x68, 0x41, 0x99, 0x2D, 0x0F, 0xB0, 0x54, 0xBB, 0x16]]

/-- The S-box. -/
def subByte (b : Byte) : Byte := (sboxRows.getD (b.toNat / 16) []).getD (b.toNat % 16) 0

/-- The place of `b` in a row of the S-box, if it stands there. -/
def rowFind (b : Byte) : List Byte → Nat → Option Nat
  | [], _ => none
  | x :: l, i => if x = b then some i else rowFind b l (i + 1)

/-- The inverse S-box: the place of `b` in the rows. -/
def invFind (b : Byte) : List (List Byte) → Nat → Byte
  | [], _ => 0
  | r :: l, i => match rowFind b r 0 with | some j => byte (16 * i + j) | none => invFind b l (i + 1)

/-- The inverse S-box. -/
def invSubByte (b : Byte) : Byte := invFind b sboxRows 0

/-- Multiplication by x in GF(2^8) with the polynomial of FIPS 197. -/
def xtime (b : Byte) : Byte := if b.msb then (b <<< 1) ^^^ 0x1B else b <<< 1

/-- Multiplication in GF(2^8) by a number below 16. -/
def gmul (k : Nat) (b : Byte) : Byte :=
  let p (i : Nat) (v : Byte) : Byte := if bitAt k i = 1 then v else 0
  p 0 b ^^^ p 1 (xtime b) ^^^ p 2 (xtime (xtime b)) ^^^ p 3 (xtime (xtime (xtime b)))

/-- Bytes XORed pairwise. -/
def xorBytes (a b : List Byte) : List Byte := List.zipWith (· ^^^ ·) a b

/-- The words of the key schedule, newest first: `i` is the number of the next word, `n` words are still to be made. -/
def keyWords (nk : Nat) : Nat → Nat → Byte → List (List Byte) → List (List Byte)
  | 0, _, _, ws => ws
  | n + 1, i, rc, ws =>
    let t := ws.headD []
    let u := if i % nk = 0 then xorBytes ((t.drop 1 ++ t.take 1).map subByte) [rc, 0, 0, 0]
      else if 6 < nk ∧ i % nk = 4 then t.map subByte else t
    let w := xorBytes (ws.getD (nk - 1) []) u
    keyWords nk n (i + 1) (if i % nk = 0 then xtime rc else rc) (w :: ws)

/-- The round keys of 16 bytes for a key of 16, 24 or 32 bytes. -/
def roundKeys (key : List Byte) : List (List Byte) :=
  let nk := key.length / 4
  let ws := keyWords nk (4 * (nk + 7) - nk) nk 1 (chunks 4 nk key).reverse
  chunks 16 (nk + 7) (ws.reverse.flatMap id)

/-- Byte `i` of a block. -/
def blk (b : List Byte) (i : Nat) : Byte := b.getD i 0

/-- ShiftRows (and its inverse with `d` = 3), on column-major blocks. -/
def shiftRows (d : Nat) (b : List Byte) : List Byte :=
  (List.range 16).map fun i => blk b ((i / 4 + d * (i % 4)) % 4 * 4 + i % 4)

/-- One column multiplied by the circulant of `m`. -/
def mixColumn (m : List Nat) (c : List Byte) : List Byte :=
  (List.range 4).map fun r => (List.range 4).foldl (fun a j => a ^^^ gmul (m.getD ((j + 4 - r) % 4) 0) (blk c j)) 0

/-- MixColumns with the circulant of `m`. -/
def mixColumns (m : List Nat) (b : List Byte) : List Byte := (chunks 4 4 b).flatMap (mixColumn m)

/-- The rounds of the cipher over the remaining round keys. -/
def encRounds : List (List Byte) → List Byte → List Byte
  | [], b => b
  | [k], b => xorBytes (shiftRows 1 (b.map subByte)) k
  | k :: l, b => encRounds l (xorBytes (mixColumns [2, 3, 1, 1] (shiftRows 1 (b.map subByte))) k)

/-- AES encryption of one block (R324). -/
def aesEncrypt (key b : List Byte) : List Byte :=
  match roundKeys key with
  | [] => b
  | k :: l => encRounds l (xorBytes (padTo 16 b) k)

/-- The rounds of the inverse cipher over the remaining round keys, last first. -/
def decRounds : List (List Byte) → List Byte → List Byte
  | [], b => b
  | [k], b => xorBytes ((shiftRows 3 b).map invSubByte) k
  | k :: l, b => decRounds l (mixColumns [14, 11, 13, 9] (xorBytes ((shiftRows 3 b).map invSubByte) k))

/-- AES decryption of one block (R324). -/
def aesDecrypt (key b : List Byte) : List Byte :=
  match (roundKeys key).reverse with
  | [] => b
  | k :: l => decRounds l (xorBytes (padTo 16 b) k)

/-- Doubling in GF(2^128) as CMAC makes its subkeys. -/
def cmacDouble (b : List Byte) : List Byte :=
  let sh := (List.range 16).map fun i => (blk b i <<< 1) ||| (if i < 15 then blk b (i + 1) >>> 7 else 0)
  if (blk b 0).msb then sh.take 15 ++ [blk sh 15 ^^^ 0x87] else sh

/-- The CBC chain over whole blocks. -/
def cbcMac (key : List Byte) : List (List Byte) → List Byte → List Byte
  | [], x => x
  | b :: l, x => cbcMac key l (aesEncrypt key (xorBytes x b))

/-- AES-CMAC (NIST SP 800-38B). -/
def cmac (key msg : List Byte) : List Byte :=
  let l := cmacDouble (aesEncrypt key (List.replicate 16 0))
  let n := (msg.length + 15) / 16
  let whole := chunks 16 (n - 1) msg
  let last := msg.drop (16 * (n - 1))
  let m := if last.length = 16 then xorBytes last l
    else xorBytes (padTo 16 (last ++ [0x80])) (cmacDouble l)
  aesEncrypt key (xorBytes (cbcMac key whole (List.replicate 16 0)) m)

/-- The steps of the unwrap of NIST SP 800-38F (KW-AD): `t` counts down from 6n, `rs` are the semiblocks. -/
def kwSteps (kek : List Byte) (n : Nat) : Nat → List Byte → List (List Byte) → List Byte × List (List Byte)
  | 0, a, rs => (a, rs)
  | t + 1, a, rs =>
    let i := t % n
    let tb := (le 8 (t + 1)).reverse
    let b := aesDecrypt kek (xorBytes a tb ++ rs.getD i [])
    kwSteps kek n t (b.take 8) (rs.set i (b.drop 8))

/-- KW-AD (R329): the key in 24, 32 or 40 wrapped bytes, or `none` where the check value is wrong. -/
def kwUnwrap (kek c : List Byte) : Option (List Byte) :=
  let n := c.length / 8 - 1
  let (a, rs) := kwSteps kek n (6 * n) (c.take 8) (chunks 8 n (c.drop 8))
  if a = List.replicate 8 0xA6 then some (rs.flatMap id) else none

/-- Counter-mode keystream blocks from counter `i` on, `n` of them, with a nonce and a counter field of `q` bytes. -/
def ctrStream (key nonce : List Byte) (q : Nat) : Nat → Nat → List Byte
  | 0, _ => []
  | n + 1, i =>
    aesEncrypt key (byte (q - 1) :: nonce ++ (le q i).reverse) ++ ctrStream key nonce q n (i + 1)

/-- The CBC-MAC of CCM (NIST SP 800-38C): nonce, associated data, plaintext, tag length. -/
def ccmMac (key nonce ad pt : List Byte) (tlen : Nat) : List Byte :=
  let q := 15 - nonce.length
  let flags := (if ad.isEmpty then 0 else 64) + 8 * ((tlen - 2) / 2) + (q - 1)
  let b0 := byte flags :: nonce ++ (le q pt.length).reverse
  let pad (l : List Byte) := padTo (16 * ((l.length + 15) / 16)) l
  let a := if ad.isEmpty then [] else pad ((le 2 ad.length).reverse ++ ad)
  let m := b0 ++ a ++ pad pt
  (cbcMac key (chunks 16 (m.length / 16) m) (List.replicate 16 0)).take tlen

/-- The encryption, which is also the decryption, of CCM. -/
def ccmCrypt (key nonce pt : List Byte) : List Byte :=
  xorBytes pt (ctrStream key nonce (15 - nonce.length) ((pt.length + 15) / 16) 1)

/-- CCM: ciphertext followed by the tag (NIST SP 800-38C). -/
def ccmSeal (key nonce ad pt : List Byte) (tlen : Nat) : List Byte :=
  ccmCrypt key nonce pt ++
    xorBytes (ccmMac key nonce ad pt tlen) (ctrStream key nonce (15 - nonce.length) 1 0)

/-- CCM: the plaintext, or `none` where the tag is wrong. -/
def ccmOpen (key nonce ad c : List Byte) (tlen : Nat) : Option (List Byte) :=
  let pt := ccmCrypt key nonce (c.take (c.length - tlen))
  if ccmSeal key nonce ad pt tlen = c then some pt else none

end Sys2Proof.Machine
end

