-- ==== Sys2Proof/Machine/Aes.lean ====
section
/-!
DEFINITION. Machine/Aes.lean: the two block engines, Mordant and the 64 key slots (R324 to R333, R360 to R362).
-/
namespace Sys2Proof.Machine

/-- Key slot `i`. -/
def State.slot (s : State) (i : Nat) : Option KeySlot := s.aes.slots.getD i none
/-- Key slot `i` becomes `v`. -/
def State.setSlot (s : State) (i : Nat) (v : Option KeySlot) : State :=
  let eng := s.aes.eng.map fun e => if e.expanded = some i then { e with expanded := none } else e
  { s with aes := { s.aes with slots := s.aes.slots.set i v, eng := eng } }

/-- The number of slots with VALID 1 (R355). -/
def State.slotsUsed (s : State) : Nat := (s.aes.slots.filter (·.isSome)).length

/-- The KLEN code of a key length in bytes (R355). -/
def klenCode (n : Nat) : Nat := (n - 16) / 8

/-- The AES_SLOTs image (R355). -/
def State.slotWord (s : State) (i : Nat) : Nat :=
  match s.slot i with
  | none => 0
  | some k => 1 + k.usage * 2 + k.users * 8 + klenCode k.key.length * 32 + 256 * k.kek

/-- Engine `e`. -/
def State.engine (s : State) (e : Nat) : Engine := s.aes.eng.getD e {}
/-- Engine `e` becomes `v`. -/
def State.setEngine (s : State) (e : Nat) (v : Engine) : State :=
  { s with aes := { s.aes with eng := s.aes.eng.set e v } }

/-- The bytes of `n` consecutive registers, byte 0 in bits [7:0] of the first. -/
def State.regBytes (s : State) (f : Nat → Field) (n : Nat) : List Byte :=
  (List.range n).flatMap fun k => le 4 (s.get (f k))
/-- `n` consecutive registers take these bytes. -/
def State.putRegBytes (s : State) (f : Nat → Field) (n : Nat) (b : List Byte) : State :=
  (List.range n).foldl (fun s k => s.put (f k) (u32 b (4 * k))) s

/-- The USERS bit of a master (R330). -/
def userBit : Master → Nat
  | .m0 => 1 | .m1 => 2 | _ => 0

/-- USERS names the master. -/
def usersHave (users : Nat) (m : Master) : Bool := users &&& userBit m != 0

/-- The error code of a block under slot `k` for master `m` (R332, R355): 1 empty, 2 USAGE, 3 USERS. -/
def slotErr (k : Option KeySlot) (m : Master) (decrypt : Bool) : Nat :=
  match k with
  | none => 1
  | some k => if k.usage = 0 || (decrypt && k.usage = 1) then 2 else if !usersHave k.users m then 3 else 0

/-- Ticks of `n` interconnect cycles at the DVFS level in force (R27). -/
def State.busTicks (s : State) (n : Nat) : Nat :=
  (2500 * n + Config.busMHz s.pwr.level - 1) / Config.busMHz s.pwr.level

/-- A GO that reaches engine `e` (R324, R325, R327, R332). -/
def aesGoOn (m : Master) (e : Nat) (s : State) : State :=
  if !s.unitOn 11 || (s.engine e).run.isSome then s
  else
    let direct := s.get (AES_E_CFG_KEYSRC e) = 1
    let sl := s.get (AES_E_CFG_SLOT e)
    let dec := s.get (AES_E_CFG_DIR e) = 1
    let klen := 16 + 8 * min 2 (s.get (AES_E_CFG_KLEN e))
    let err := if direct then 0 else slotErr (s.slot sl) m dec
    let s := (s.put (AES_E_STATUS_DONE e) 0).put (AES_E_STATUS_ERR e) err
    if err ≠ 0 then s
    else
      let key := if direct then (s.regBytes (AES_E_KEY e) 8).take klen
        else match s.slot sl with | some k => k.key | none => []
      let src := if direct then 64 else sl
      let n := 6 + key.length / 4 + 2 + (if (s.engine e).expanded = some src then 0 else 20)
      let din := s.regBytes (AES_E_DIN e) 4
      let out := if dec then aesDecrypt key din else aesEncrypt key din
      (s.setEngine e { expanded := some src, run := some (out, s.time.now + s.busTicks n) }).put (AES_E_STATUS_BUSY e) 1

/-- A write of AES_En_CMD.GO by master `m` (R324, R325). -/
def aesGo (m : Master) (e : Fin 2) (s : State) : State := s.onBus m (AES_E_CMD e).addr 1 (aesGoOn m e)

/-- The block of engine `e` completes (R325, R327). -/
def State.blockDone (s : State) (e : Nat) : State :=
  match (s.engine e).run with
  | none => s
  | some (out, due) =>
    let s := s.advance due
    let s := s.setEngine e { s.engine e with run := none }
    ((s.putRegBytes (AES_E_DOUT e) 4 out).put (AES_E_STATUS_BUSY e) 0).put (AES_E_STATUS_DONE e) 1

/-- AES_BLOCK_DONE (R325). -/
def aesBlockDone (e : Fin 2) (s : State) : State := s.blockDone e

/-- KEY, DIN and DOUT of engine `e` are zeroed (R327). -/
def State.engineClear (s : State) (e : Nat) : State :=
  let s := s.putRegBytes (AES_E_KEY e) 8 []
  let s := (s.putRegBytes (AES_E_DIN e) 4 []).putRegBytes (AES_E_DOUT e) 4 []
  let en := s.engine e
  (s.setEngine e { en with expanded := if en.expanded = some 64 then none else en.expanded }).put (AES_E_STATUS_DONE e) 0

/-- A write of AES_En_CMD.CLEAR by master `m` (R327). -/
def aesClear (m : Master) (e : Fin 2) (s : State) : State := s.onBus m (AES_E_CMD e).addr 1 (State.engineClear · e)

/-- The firmware has worked on engine 0 (R326) under slot `src`, or under a direct key (64), which it clears after its use (R327): `out` is
the last block. A block that stood in progress there is done first. -/
def State.engineWork (s : State) (src : Nat) (out : List Byte) : State :=
  let s := s.blockDone 0
  let s := ((s.putRegBytes (AES_E_DOUT 0) 4 out).put (AES_E_STATUS_DONE 0) 1).put (AES_E_STATUS_ERR 0) 0
  let s := s.setEngine 0 { expanded := some src }
  if src = 64 then s.engineClear 0 else s

/-- A write to the CFG, KEY or DIN registers of engine `e` while it is BUSY is discarded with WERR (R327). The new state,
and whether the write is discarded. -/
def State.engineWerr (s : State) (e : Nat) : State × Bool :=
  if (s.engine e).run.isSome then (s.put (AES_E_STATUS_WERR e) 1, true) else (s, false)

/-- The rights of R330 on an unwrap into `t` under `kek` (0xFE DEVICE), asked for by `m`; `cred` is the lookup engine. The reserved USAGE 3
and a KEK that is no slot lie outside its table. -/
def unwrapAllowed (t kek usage users : Nat) (m : Master) (cred : Bool) : Bool :=
  if 3 ≤ usage || (64 ≤ kek && kek ≠ 0xFE) then false
  else if within 16 23 t then cred && kek < 16 && usage = 1 && users = 1
  else if cred then false
  else if t < 16 then m == .m0 && kek = 0xFE && usage = 0 && users = 1
  else if t = 24 then m == .m0 && kek = 0xFE && usage = 1 && users = 1
  else if t < 32 then m == .m0 && users = 1
  else (m == .m0 || m == .m1) && usersHave users m

/-- The wrapping key (R328, R330, R361): the device key, or a slot of usage KEK that the requester may use. -/
def State.kekFor (s : State) (t kek : Nat) (m : Master) : Except Nat (List Byte) :=
  if kek = 0xFE then .ok ((List.range 32).map Config.deviceKek)
  else
    match s.slot kek with
    | none => .error NOT_FOUND
    | some k => if k.usage ≠ 0 || (32 ≤ t && !usersHave k.users m) then .error ACCESS_DENIED else .ok k.key

/-- An unwrap starts (R330, R331): its refusal, or the run; with REPLACE the old key is zeroed now. -/
def State.unwrapStart (s : State) (t kek usage users : Nat) (wrapped : List Byte) (replace cred : Bool) (m : Master) :
    State × Nat :=
  if !unwrapAllowed t kek usage users m cred then (s, ACCESS_DENIED)
  else
    match s.kekFor t kek m with
    | .error st => (s, st)
    | .ok kk =>
      if (s.slot t).isSome && !replace && !cred then (s, BAD_STATE)
      else
        let r := (kwUnwrap kk wrapped).map fun k : List Byte =>
          ({ key := k, usage := usage, users := users, kek := kek } : KeySlot)
        let s := s.setSlot t none
        ({ s with aes := { s.aes with mrd := some { target := t, wrapped := wrapped, result := r, at_ := s.time.now } } }, OK)

/-! ### The key archive (R589) -/

/-- The slots whose keys the firmware archives. -/
def archived (t : Nat) : Bool := t < 16 || within 24 31 t

/-- A key record is appended (R589); a full archive takes no more (notes/assumptions/23.md). -/
def State.archive (s : State) (slot usage users kek : Nat) (wrapped : List Byte) : State :=
  if !archived slot || 1024 ≤ s.upd.archNext then s
  else
    let n := s.upd.archNext
    let b := [byte slot, byte usage, byte users, byte wrapped.length, byte kek, 0, 0, 0] ++ le 4 (n + 1) ++ padTo 40 wrapped
      ++ List.replicate 8 0
    (State.programFlash { s with upd := { s.upd with archNext := n + 1 } } (0x300000 + 64 * n) (b ++ le 4 (crc32 b)))

/-- The standing record of a slot (R589): the last good one. -/
def State.standing (s : State) (slot : Nat) : Option (List Byte) :=
  (List.range s.upd.archNext).foldl (fun best i =>
    let b := s.readFlash (0x300000 + 64 * i) 64
    if u8 b 0 = slot ∧ crc32 (b.take 60) = u32 b 60 then some b else best) none

/-- The key of one standing record goes back into its slot. -/
def State.reinstallOne (s : State) (b : List Byte) : State :=
  let t := u8 b 0
  match s.kekFor t (u8 b 4) .m0 with
  | .error _ => s
  | .ok kk =>
    match kwUnwrap kk ((b.drop 12).take (u8 b 3)) with
    | some k => (s.setSlot t (some { key := k, usage := u8 b 1, users := u8 b 2, kek := u8 b 4 })).bump AES_UNWRAPS
    | none => s

/-- The firmware reinstalls the standing keys, KEK slots first (R333, R589): those under the device key, other KEKs, the rest. -/
def State.reinstall (s : State) : State :=
  let recs := (((List.range 16) ++ (List.range 8).map (24 + ·)).filterMap s.standing).filter fun b => u8 b 3 ≠ 0
  let kek (b : List Byte) : Bool := u8 b 1 == 0
  let root (b : List Byte) : Bool := u8 b 4 == 0xFE
  ((recs.filter fun b => kek b && root b) ++ (recs.filter fun b => kek b && !root b) ++ recs.filter fun b => !kek b).foldl
    State.reinstallOne { s with aes := { s.aes with wiped := false } }

/-- The unwrap in progress completes (R331): the key enters its slot, or the slot is left empty; a clear of the slot that waited acts then
(R332). The status; `report` says that a failure is reported as AES_UNWRAP. -/
def State.unwrapEnd (s : State) (report : Bool) : State × Nat :=
  match s.aes.mrd with
  | none => (s, OK)
  | some r =>
    let s := { s with aes := { s.aes with mrd := none } }
    let cleared (s : State) : State := if r.clear then (s.setSlot r.target none).archive r.target 0 0 0 [] else s
    match r.result with
    | some k =>
      (cleared (((s.setSlot r.target (some k)).bump AES_UNWRAPS).archive r.target k.usage k.users k.kek r.wrapped), OK)
    | none =>
      let s := s.bump AES_UNWRAP_FAILS
      (cleared (if report then s.raise FID_AES_UNWRAP r.target else s), UNWRAP)

/-- The longest an unwrap of `n` input bytes takes, in ticks (R329). -/
def unwrapTicks (n : Nat) : Nat := Config.usTicks * n / 20 - Config.usTicks * 2 / 5

/-- The end of an unwrap as the Mordant registers show it (R355). -/
def State.mrdFinish (s : State) : State :=
  let (s, st) := s.unwrapEnd true
  ((s.put MRD_STATUS_BUSY 0).put MRD_STATUS_DONE 1).put MRD_STATUS_STATUS st

/-- A request of the Mordant registers begins (R331, R361): a refusal shows in STATUS. -/
def State.mrdBegin (s : State) (a : UnwrapAsk) : State :=
  let s := s.put MRD_STATUS_DONE 0
  if !s.unitOn 11 then s.put MRD_STATUS_STATUS BAD_STATE
  else
    let (s, st) := s.unwrapStart a.target a.kek a.usage a.users a.wrapped a.replace false a.master
    if st = OK then s.put MRD_STATUS_BUSY 1 else (s.put MRD_STATUS_DONE 1).put MRD_STATUS_STATUS st

/-- The register request that waited for Mordant begins (R332). -/
def State.mrdNext (s : State) : State :=
  match s.aes.mrdWait with
  | some a => if s.aes.mrd.isSome then s else State.mrdBegin { s with aes := { s.aes with mrdWait := none } } a
  | none => s

/-- Mordant serves one unwrap at a time (R332): what is in progress completes first. -/
def State.mrdYield (s : State) : State :=
  match s.aes.mrd with
  | some r => (s.advance (r.at_ + unwrapTicks r.wrapped.length)).mrdFinish
  | none => s

/-- A GO that reaches Mordant (R331, R332, R361): MRD_IN is zeroed, and the request waits while another unwrap is in progress; one more GO is
ignored while one waits (DESIGN CHOICE, notes/assumptions/174.md). -/
def mrdGoOn (m : Master) (s : State) : State :=
  if s.aes.mrdWait.isSome then s
  else
    let n := 24 + 8 * min 2 (s.get MRD_CFG_INLEN)
    let a : UnwrapAsk := { target := s.get MRD_CFG_TARGET, kek := s.get MRD_CFG_KEK, usage := s.get MRD_CFG_USAGE, users := s.get MRD_CFG_USERS
                           wrapped := (s.regBytes MRD_IN 10).take n, replace := s.flag MRD_CFG_REPLACE, master := m }
    let s := s.putRegBytes MRD_IN 10 []
    if s.aes.mrd.isSome then { s with aes := { s.aes with mrdWait := some a } } else s.mrdBegin a

/-- A write of MRD_CMD.GO by master `m` (R331). -/
def mrdGo (m : Master) (s : State) : State := s.onBus m MRD_CMD.addr 1 (mrdGoOn m)

/-- UNWRAP_DONE (R331) at instant `at_`. -/
def unwrapDone (at_ : Nat) (s : State) : State :=
  let s := s.advance at_
  if s.aes.mrd.isNone then s else s.mrdFinish.mrdNext

/-- AES_BLOCK (R325, R326, R360): the blocks run on engine 1, whose DOUT holds the last; a key that does not stand expanded there takes its
expansion, and a direct key is cleared after its use (R327). -/
def aesBlock (m : Master) (p : List Byte) (s : State) : State :=
  let dec := u8 p 0 = 1
  let direct := u8 p 1 = 1
  let sl := u8 p 2
  let klen := u8 p 3
  let n := u8 p 4
  let kb := 16 + 8 * klen
  hostCmd 0x80 m p
    [(40 ≤ p.length && (!within 1 16 n || p.length == 40 + 16 * n), BAD_LENGTH),
     paramOk (within 1 16 n), paramOk (u8 p 0 < 2 && u8 p 1 < 2 && zeroAt p 5 3),
     paramOk (if direct then sl = 0 && klen < 3 && zeroAt p (8 + kb) (32 - kb)
       else sl < 64 && klen = 0 && zeroAt p 8 32)]
    (fun s =>
      if !s.unitOn 11 then s.ends BAD_STATE
      else
        let err := if direct then (if m == .m1 && !s.flag AES_CTRL_HOST_DIRECT then 3 else 0) else slotErr (s.slot sl) m dec
        if err = 1 then s.ends NOT_FOUND
        else if err ≠ 0 then s.ends ACCESS_DENIED
        else
          let s := s.blockDone 1
          let key := if direct then (p.drop 8).take kb else match s.slot sl with | some k => k.key | none => []
          let outs := (chunks 16 n (p.drop 40)).map fun b => if dec then aesDecrypt key b else aesEncrypt key b
          let new : Bool := direct || (s.engine 1).expanded != some sl
          let s := s.wait (s.busTicks ((if new then 20 else 0) + n * (8 + key.length / 4)))
          let s := (s.putRegBytes (AES_E_DOUT 1) 4 (outs.getLastD [])).put (AES_E_STATUS_DONE 1) 1
          let s := s.setEngine 1 { expanded := some (if direct then 64 else sl) }
          (if direct then s.engineClear 1 else s, OK, outs.flatMap id)) s

/-- KEY_UNWRAP (R361). The firmware's request comes after what Mordant has in progress and waiting (R332). -/
def keyUnwrap (m : Master) (p : List Byte) (s : State) : State :=
  let t := u8 p 0
  let kek := u8 p 1
  let usage := u8 p 2
  let users := u8 p 3
  let n := u8 p 5
  hostCmd 0x81 m p
    [lenIs p 48, paramOk (t < 64 && (kek < 64 || kek = 0xFE) && usage < 3 && users < 4 && u8 p 4 < 2),
     paramOk ([24, 32, 40].contains n && zeroAt p 6 2 && zeroAt p (8 + n) (40 - n))]
    (fun s =>
      if !s.unitOn 11 || (s.sys.role ≠ 0 && t < 32) then s.ends BAD_STATE
      else
        let s := (s.mrdYield.mrdNext).mrdYield
        let (s, st) := s.unwrapStart t kek usage users ((p.drop 8).take n) (u8 p 4 = 1) false m
        if st ≠ OK then s.ends st
        else
          let (s, st) := (s.wait (unwrapTicks n)).unwrapEnd true
          match s.slot t with
          | some k =>
            (s, st, [byte t, byte k.key.length, byte usage, byte users] ++
              (aesEncrypt k.key (List.replicate 16 0)).take 3 ++ [0])
          | none => s.ends st) s

/-- The mask of the named slots that hold a key. -/
def State.heldMask (s : State) (mask : Nat) : Nat :=
  sumNat ((List.range 64).map fun i => bit01 (bitAt mask i == 1 && (s.slot i).isSome) * 2 ^ i)

/-- Slot `i` is the target of the unwrap in progress. -/
def State.unwraps (s : State) (i : Nat) : Bool := s.aes.mrd.any (·.target == i)

/-- Slot `i` is cleared (R332, R333, R589): at once, or at the end of an unwrap into it. -/
def State.clearSlot (s : State) (i : Nat) : State :=
  if s.unwraps i then { s with aes := { s.aes with mrd := s.aes.mrd.map fun r => { r with clear := true } } }
  else (s.setSlot i none).archive i 0 0 0 []

/-- The named slots are cleared. -/
def State.clearSlots (s : State) (mask : Nat) : State :=
  (List.range 64).foldl (fun s i => if bitAt mask i = 1 then s.clearSlot i else s) s

/-- KEY_SLOT_CLEAR (R362). -/
def keySlotClear (m : Master) (p : List Byte) (s : State) : State :=
  let mask := u64 p 0
  hostCmd 0x82 m p [lenIs p 8]
    (fun s =>
      let barred := m == .m1 && (List.range 64).any fun i => bitAt mask i == 1 &&
        (match s.slot i with | some k => !usersHave k.users .m1 | none => false)
      if barred then s.ends ACCESS_DENIED
      else
        let d := le 8 (s.heldMask mask)
        (s.clearSlots mask, OK, d)) s

/-- Every slot is zeroed, an unwrap or block in progress ends (R333, R351): at a reset, at P3 and P4, and on a fence. -/
def State.aesWipe (s : State) : State :=
  { s with aes := {} }

/-- A fence of AES (R351): every slot and both engines are zeroed, and an operation ends with FENCED. -/
def State.aesFence (s : State) : State :=
  let s := if s.aes.mrd.isSome then
      ((s.put MRD_STATUS_BUSY 0).put MRD_STATUS_DONE 1).put MRD_STATUS_STATUS FENCED else s
  let s := (s.put (AES_E_STATUS_BUSY 0) 0).put (AES_E_STATUS_BUSY 1) 0
  ((s.engineClear 0).engineClear 1).aesWipe

/-- AES is at its quiescent boundary (R351). -/
def State.aesIdle (s : State) : Bool := s.aes.mrd.isNone && s.aes.eng.all (·.run.isNone)

end Sys2Proof.Machine
end

