-- ==== Sys2Proof/Machine/Budget.lean ====
section
/-!
DEFINITION. Machine/Budget.lean: the region table's LF range and bands (R2, R74, R181), and the power budget (R531, R532).
-/
namespace Sys2Proof.Machine

/-- The LF carrier range in force: none while the table fails its checks (R2, R180). -/
def State.lfRangeOk (s : State) (f : Nat) : Bool := s.sys.region.ok && within s.sys.region.lfMin s.sys.region.lfMax f

/-- The LF charge of a pattern in quarter mW (R531): 0.25 mW per mA of an LFI channel, 15 mW per LFP channel. -/
def lfCharge (p : List LfEntry) : Nat := sumNat (p.map fun e => if e.ch < 4 then 60 else e.amp)

/-- The greatest charge of a list of patterns. -/
def maxCharge (l : List (List LfEntry)) : Nat := l.foldl (fun a p => max a (lfCharge p)) 0

/-- The pattern with index `i` (R81). -/
def State.lfPat (s : State) (i : Nat) : List LfEntry := s.lf.pats.getD i []

/-- The handle pattern list (R97): the first H_NPAT entries of LF_POLL_HPAT0 to 3. -/
def State.handlePats (s : State) : List Nat :=
  (List.range (s.get LF_TEL_PAT_H_NPAT)).map fun k => bitsAt (s.get (LF_POLL_HPAT (k / 4))) (8 * (k % 4)) 8

/-- The permanent reservation of the poll sequencer while polling is not STOPPED (R531). -/
def State.pollCharge (s : State) : Nat :=
  if s.get LF_POLL_STATUS_PSTATE = 0 then 0
  else maxCharge ((s.get LF_POLL_CFG_POLL_PAT :: s.handlePats).map s.lfPat)

/-- The core charge of a DVFS level in quarter mW (R531). -/
def coreCharge (level : Nat) : Nat := if level = 1 then 360 else if level = 2 then 1120 else 1680

/-- The level that the core is charged for: that of a raise in progress, reserved when it began (R532), or the one in force. -/
def State.dvfsLevel (s : State) : Nat := match s.pwr.dvfs with | some d => max d.target s.pwr.level | none => s.pwr.level

/-- RADIO is powered: a window is not OFF or Gather is ARMED (R149), or a send needs its ADC to listen (R178). -/
def State.radioOn (s : State) : Bool :=
  s.urx.wins.any (·.st != .off) || s.urx.gather.st == 1 || s.utx.tx.any fun t => t.listen && t.phase < 2

/-- A program or erase of the flash is in progress: one of CRED_POP_LOAD, or the erase of a firmware slot (R24, R499). -/
def State.flashBusy (s : State) : Bool := s.hif.flash.any (·.kind != 0) || s.upd.erase.isSome

/-- USED_MW in quarter mW (R531). A poll burst or handle telegram draws on the reservation and adds nothing (R532). -/
def State.used4 (s : State) : Nat :=
  480 + (if s.awake then coreCharge s.dvfsLevel else 0) + s.pollCharge
    + (match s.lf.tx with | some t => if t.kind = 0 || t.kind = 3 then t.charge else 0 | none => 0)
    + (if s.radioOn then 2240 else 0) + 160 * (s.urx.wins.filter (·.st != .off)).length
    + (if s.urx.gather.st = 1 || s.urx.gather.st = 3 then 120 else 0)
    + (if s.utx.tx.isSome || s.utx.run.isSome then 440 else 0) + (if s.range.run.isSome then 560 else 0)
    + (if s.hfr.field.isSome then 960 else 0)
    + (if s.flashBusy then 160 else 0)

/-- The budget in quarter mW. -/
def State.budget4 (s : State) : Nat := 4 * s.get PWR_BUDGET_BUDGET_MW

/-- A start with this charge in quarter mW fits (R532). -/
def State.fits (s : State) (charge : Nat) : Bool := s.used4 + charge ≤ s.budget4

/-- A start refused for budget is counted (R532). -/
def State.refuseBudget (s : State) : State := s.bump PWR_BUDGET_STAT_REFUSALS

/-- PEAK follows USED_MW after a start. -/
def State.notePeak (s : State) : State :=
  s.put PWR_BUDGET_STAT_PEAK_MW (max (s.get PWR_BUDGET_STAT_PEAK_MW) (s.used4 / 4))

end Sys2Proof.Machine
end

