-- ==== Sys2Proof/Machine/Cnt.lean ====
section
/-!
DEFINITION. Machine/Cnt.lean: the monotonic counters and their backing records (R334 to R339, R363, R364).
-/
namespace Sys2Proof.Machine

/-- The limit of counter `n` (R334). -/
def cntLimit (n : Nat) : Nat := if 48 ≤ n then 0xFFFF else 0xFFFFFFFFFFFF

/-- Counter `n` is RESERVED (R334, R338). -/
def cntReserved (n : Nat) : Bool := within 32 45 n || n == 47

/-- The increment path of R334: `src` is 0 for CNT_INCREMENT, 1 for CNT_INC, 2 REL, 3 CRED_REVOKE_EPOCH, 4 FW_SWITCH. -/
def cntPath (n src : Nat) (m : Master) : Bool :=
  if n < 32 then src < 2 && (m == .m0 || m == .m1)
  else if n < 46 then src = 1 && m == .m0
  else if n = 46 then src = 4
  else if n = 47 then src = 2
  else src = 3

/-- The value of counter `n`. -/
def State.cntVal (s : State) (n : Nat) : Nat := s.cnt.vals.getD n 0

/-- Counter `n` shows `v`. -/
def State.setCnt (s : State) (n v : Nat) : State := { s with cnt := { s.cnt with vals := s.cnt.vals.set n v } }

/-- The ceiling of counter `n` (R338). -/
def State.cntCeil (s : State) (n : Nat) : Nat := s.cnt.ceil.getD n 0

/-- CNT has loaded its counters (R339). -/
def State.cntLoaded (s : State) : Bool := s.flag CNT_STATUS_LOADED

/-- CNT serves increments: loaded, ON and not fenced (R339, R590). -/
def State.cntOn (s : State) : Bool := s.cntLoaded && s.unitOn 21

/-- The address of record `k` (0 to 15) of counter `n` (R336). -/
def recordAddr (n k : Nat) : Nat := 0x20060000 + 128 * n + 8 * k

/-- The bytes of a record that holds `v` (R336). -/
def recordBytes (v : Nat) : List Byte := le 6 v ++ le 2 (crc16 (le 6 v))

/-- The value of a record whose CRC is correct. -/
def recordValue (b : List Byte) : Option Nat := if crc16 (b.take 6) = u16 b 6 then some (fieldLe b 0 6) else none

/-- The next record position after `k`: writing moves to the other half when a half is full (R336). -/
def nextPos (k : Nat) : Nat := (k + 1) % 16

/-- The half that the next record of counter `n` goes to is waiting for its erase (R336, R337). -/
def State.cntStalled (s : State) (n : Nat) : Bool :=
  s.cnt.erase.getD n none == some (s.cnt.pos.getD n 0 / 8)

/-- The 16 records of counter `n` as they stand. -/
def State.records (s : State) (n : Nat) : List (List Byte) := (List.range 16).map fun k => s.readMem (recordAddr n k) 8

/-- A record that nothing has written since the erase. -/
def recordErased (b : List Byte) : Bool := b == List.replicate 8 0xFF

/-- The number of records written in half `h`. -/
def halfUsed (rs : List (List Byte)) (h : Nat) : Nat :=
  ((rs.drop (8 * h)).take 8).foldl (fun (a : Nat × Nat) b => (a.1 + 1, if recordErased b then a.2 else a.1 + 1)) (0, 0) |>.2

/-- A record with value `v` is programmed for counter `n`; `verified` says whether it reads back right. A record that fails
its verify holds free bytes. Once this half holds a good record, the other, where anything stands in it, is to be erased (R336, R337). -/
def State.writeRecord (s : State) (n v : Nat) (verified : Bool) : State :=
  let k := s.cnt.pos.getD n 0
  let (b, s) := if verified then (recordBytes v, s) else s.freshBytes 8
  let s := s.writeMem (recordAddr n k) b
  let o := 1 - k / 8
  let er := if verified && 0 < halfUsed (s.records n) o then s.cnt.erase.set n (some o) else s.cnt.erase
  { s with cnt := { s.cnt with pos := s.cnt.pos.set n (nextPos k), erase := er } }

/-- The greatest value among records with a correct CRC, or 0 where there is none (notes/assumptions/11.md). -/
def greatest (rs : List (List Byte)) : Nat := rs.foldl (fun a b => match recordValue b with | some v => max a v | none => a) 0

/-- The stored value, next position and half to erase of counter `n`, and whether a record other than the last written has a
bad CRC (R336): the half in use is the one with the greatest value, and whatever stands in the other is erased before it is used again. -/
def loadRecords (rs : List (List Byte)) : Nat × Nat × Option Nat × Bool :=
  let v := greatest rs
  let h := if greatest (rs.take 8) < greatest (rs.drop 8) then 1 else 0
  let o := 1 - h
  let used := halfUsed rs h
  let usedO := halfUsed rs o
  let pos := if used < 8 then 8 * h + used else 8 * o
  let er := if 0 < usedO then some o else none
  let cut : Bool := 0 < usedO && ((rs.drop (8 * o)).take 8).all fun b => (recordValue b).isNone
  let last := if used = 8 && cut then 8 * o + usedO - 1 else (8 * h + used + 15) % 16
  let bad := (List.range 16).any fun k =>
    let b := rs.getD k []
    k != last && !recordErased b && (recordValue b).isNone
  (v, pos, er, bad)

/-- Counter `n` is loaded (R336, R338, R339): a RESERVED counter takes its ceiling as its value; it hands out no value before the next
ceiling is written (CEILING_WRITE). -/
def State.loadCounter (s : State) (n : Nat) : State :=
  let (v, pos, er, bad) := loadRecords (s.records n)
  let c := { s.cnt with vals := s.cnt.vals.set n v, pos := s.cnt.pos.set n pos, erase := s.cnt.erase.set n er
                        ceil := s.cnt.ceil.set n v }
  let s := { s with cnt := c }
  if bad then s.raise FID_CNT_RECORD n else s

/-- A request finds counter `n` at its limit (R335): the first refusal is reported. -/
def State.cntRefuse (s : State) (n : Nat) : State :=
  if s.cnt.told.contains n then s
  else
    let s := { s with cnt := { s.cnt with told := s.cnt.told ++ [n] } }
    (s.raise FID_CNT_EXHAUSTED n).event EV_CNT_EXHAUSTED_EVT (byte n :: le 6 (cntLimit n))

/-- A RESERVED counter below its ceiling hands out its next value (R338). -/
def State.cntTake (s : State) (n : Nat) : Option (Nat × State) :=
  if s.cntOn && s.cntVal n < s.cntCeil n && !s.cnt.pend.any (·.n == n) then
    some (s.cntVal n + 1, s.setCnt n (s.cntVal n + 1))
  else none

/-- An increment is asked for (R334, R335, R338, R339): the status and value at once, or a request that waits. -/
def State.cntAsk (s : State) (r : CntReq) : State × Option (Nat × Nat) :=
  if s.fenced 21 then (s, some (FENCED, 0))
  else if !cntPath r.n r.src r.master then (s, some (ACCESS_DENIED, 0))
  else if s.cntLoaded && cntLimit r.n ≤ s.cntVal r.n then (s.cntRefuse r.n, some (COUNTER_EXHAUSTED, 0))
  else
    match (if cntReserved r.n then s.cntTake r.n else none) with
    | some (v, s) => (s, some (OK, v))
    | none => ({ s with cnt := { s.cnt with pend := s.cnt.pend ++ [r] } }, none)

/-- CNT_INC_RESULT of master `m` becomes `w`. -/
def State.setIncResult (s : State) (m : Master) (w : Nat) : State :=
  { s with cnt := { s.cnt with results := s.cnt.results.set m.num w } }

/-- The CNT_INC_RESULT word of a finished increment (R359). -/
def incResult (st n : Nat) : Nat := st + 2 ^ 8 * n + 2 ^ 14

/-- A write of CNT_INC that reaches the block (R334, R358, R359). -/
def cntIncOn (m : Master) (n : Nat) (s : State) : State :=
  match s.cntAsk { n := n, src := 1, master := m, ctx := none } with
  | (s, some (st, _)) => s.setIncResult m (incResult st n)
  | (s, none) => s.setIncResult m (2 ^ 8 * n + 2 ^ 15)

/-- A write of CNT_INC by master `m` (R334). -/
def cntInc (m : Master) (n : Fin 64) (s : State) : State := s.onBus m CNT_INC.addr 1 (cntIncOn m n)

/-- CNT_INCREMENT (R363): the reply comes once the value is written. -/
def cntIncrement (m : Master) (p : List Byte) (s : State) : State :=
  let n := u8 p 0
  hostCmdLater 0x83 m p [lenIs p 4, paramOk (n < 64 && zeroAt p 1 3)]
    (fun c s =>
      match s.cntAsk { n := n, src := 0, master := m, ctx := c } with
      | (s, some (st, v)) => (s, some (st, if st = OK then le 8 v else []))
      | (s, none) => (s, none)) s

/-- CNT_READ (R364). -/
def cntRead (m : Master) (p : List Byte) (s : State) : State :=
  let n := u8 p 0
  hostCmd 0x84 m p [lenIs p 1, paramOk (n < 64 || n = 0xFF)]
    (fun s =>
      if n = 0xFF then (s, OK, s.cnt.vals.flatMap (le 6))
      else
        (s, OK, le 8 (s.cntVal n) ++ le 6 (cntLimit n)
          ++ [byte (bit01 (cntReserved n)), byte (bit01 (cntLimit n ≤ s.cntVal n))])) s

/-- A finished increment goes to the reply or the result register of its owner; the others are dealt with by their blocks. -/
def State.cntFinish (s : State) (r : CntReq) (st v : Nat) : State :=
  if r.src = 0 then s.answer r.master 0x83 r.ctx st (if st = OK then le 8 v else [])
  else if r.src = 1 then s.setIncResult r.master (incResult st r.n)
  else s

/-- Waiting increments of RESERVED counter `n` are served up to its ceiling (R338). -/
def State.serveReserved (s : State) (n : Nat) : State :=
  if !cntReserved n || !s.cntLoaded then s
  else
    let (now, later) := s.cnt.pend.partition (·.n == n)
    now.foldl (fun s r =>
      if s.cntVal n < s.cntCeil n then (s.setCnt n (s.cntVal n + 1)).cntFinish r OK (s.cntVal n + 1)
      else if cntLimit n ≤ s.cntVal n then (s.cntRefuse n).cntFinish r COUNTER_EXHAUSTED 0
      else { s with cnt := { s.cnt with pend := s.cnt.pend ++ [r] } }) { s with cnt := { s.cnt with pend := later } }

/-- All counters are loaded at instant `at_` (R339). -/
def State.cntLoadAll (s : State) (at_ : Nat) : State :=
  let s := s.advance at_
  if s.cntLoaded || !s.awake || s.fenced 21 then s
  else (List.range 64).foldl State.serveReserved (((List.range 64).foldl State.loadCounter s).put CNT_STATUS_LOADED 1)

/-- The oldest waiting EXACT increment whose record can be written now (R335, R337). -/
def State.cntNext (s : State) : Option CntReq := s.cnt.pend.find? fun r => !cntReserved r.n && !s.cntStalled r.n

/-- The record of the oldest EXACT increment is written (R337): the request, its status and its value. -/
def State.cntRecord (s : State) (verified : Bool) : Option (State × CntReq × Nat × Nat) :=
  match (if s.cntLoaded && s.awake then s.cntNext else none) with
  | none => none
  | some r =>
    let s := { s with cnt := { s.cnt with pend := s.cnt.pend.erase r } }
    if cntLimit r.n ≤ s.cntVal r.n then some (s.cntRefuse r.n, r, COUNTER_EXHAUSTED, 0)
    else
      let v := s.cntVal r.n + 1
      let s := s.writeRecord r.n v verified
      if verified then some (s.setCnt r.n v, r, OK, v) else some (s.raise FID_CNT_NV r.n, r, INTEGRITY, 0)

/-- The ceiling of RESERVED counter `n` is being written (R338): its value has come within 8 of it, and its half is erased. -/
def State.ceilDue (s : State) (n : Nat) : Bool :=
  s.cntLoaded && cntReserved n && s.cntCeil n < cntLimit n && s.cntCeil n ≤ s.cntVal n + 8 && !s.cntStalled n

/-- Increments of counter `n` that wait for its ceiling end with INTEGRITY (R339). -/
def State.ceilingFailed (s : State) (n : Nat) : State :=
  let (out, keep) := s.cnt.pend.partition (·.n == n)
  out.foldl (fun s r => s.cntFinish r INTEGRITY 0) { s with cnt := { s.cnt with pend := keep } }

/-- The ceiling of RESERVED counter `n` has been written in the background (R338), and increments that waited are served; where it fails its
verify, they end with INTEGRITY (R339). -/
def State.ceilingWritten (s : State) (n : Fin 64) (verified : Bool) (at_ : Nat) : State :=
  let s := s.advance at_
  if !s.awake || !s.ceilDue n then s
  else
    let c := min (s.cntCeil n + 16) (cntLimit n)
    let s := s.writeRecord n c verified
    if !verified then (s.raise FID_CNT_NV n).ceilingFailed n
    else
      State.serveReserved { s with cnt := { s.cnt with ceil := s.cnt.ceil.set n c } } n

/-- The background erase of the full half of counter `n` completes (R336). -/
def counterHalfErased (n : Fin 64) (at_ : Nat) (s : State) : State :=
  let s := s.advance at_
  match s.cnt.erase.getD n none with
  | none => s
  | some h =>
    if !s.awake then s
    else
      let s := s.eraseMem (recordAddr n (8 * h)) 64
      { s with cnt := { s.cnt with erase := s.cnt.erase.set n none } }

/-- The EXACT increment whose record is being written. -/
def State.cntWriting (s : State) : Option CntReq := if s.cntLoaded then s.cntNext else none

/-- CNT is at its quiescent boundary: no record write in progress (R351). -/
def State.cntIdle (s : State) : Bool := s.cntWriting.isNone && (List.range 64).all fun n => !s.ceilDue n

/-- CNT_STATUS.BUSY (R359). -/
def State.cntBusy (s : State) : Bool := !s.cntIdle || s.cnt.erase.any (·.isSome)

/-- The AT_LIMIT image of 32 counters from `b` on (R358). -/
def State.atLimit (s : State) (b : Nat) : Nat :=
  sumNat ((List.range 32).map fun i => bit01 (cntLimit (b + i) ≤ s.cntVal (b + i)) * 2 ^ i)

/-- CNT loses what it holds at a reset and on entry to P3 and P4; the backing stays (R339). -/
def State.cntWipe (s : State) : State := State.put { s with cnt := {} } CNT_STATUS_LOADED 0

/-- A fence of CNT (R339, R351): the record write in progress goes on, every other waiting increment ends with FENCED. -/
def State.cntFence (s : State) : State :=
  let first := s.cntWriting
  let (keep, out) := s.cnt.pend.partition fun r => some r == first
  out.foldl (fun s r => s.cntFinish r FENCED 0) { s with cnt := { s.cnt with pend := keep } }

end Sys2Proof.Machine
end

