-- ==== Sys2Proof/Machine/TimeOps.lean ====
section
/-!
DEFINITION. Machine/TimeOps.lean: the servo of reference time (R37 to R43), the 64-bit shadows (R44) and the timer
channels (R61 to R71).
-/
namespace Sys2Proof.Machine

/-- Degraded mode `k` is forced by a latched source (R553). -/
def State.forcedMode (s : State) (k : Nat) : Bool :=
  s.flt.srcs.any fun r => r.mode == some k || r.injMode == some k

/-- REF_PERIOD_US in ticks. -/
def State.refPeriod (s : State) : Nat := Config.usTicks * s.get TIME_REF_CFG_REF_PERIOD_US

/-- Ticks of 0.4 ns as nanoseconds, a part of a nanosecond dropped (DESIGN CHOICE, notes/assumptions/150.md). -/
def nsOfTicks (t : Nat) : Nat := t * 2 / 5

/-- Signed ticks as signed nanoseconds. -/
def nsOfTicksI (t : Int) : Int := if t < 0 then -(nsOfTicks t.natAbs : Int) else nsOfTicks t.natAbs

/-- TIME_UNCERT now: it grows in HOLDOVER by HOLD_PPM_X10 / 10 ppm from the last accepted sample, restore or assignment
(R40). -/
def State.uncert (s : State) : Nat :=
  let g := if s.time.servo == .holdover then
      nsOfTicks (s.time.dev - s.time.uncertAt) * s.get TIME_SERVO_CFG_HOLD_PPM_X10 / 10000000 else 0
  satNat 32 (s.time.uncertBase + g)

/-- The servo takes state `v`; entering HOLDOVER notes the instant, LOCKED ends the reconstruction mark (R37, R42). A slew in progress goes
on in HOLDOVER, where the rate is frozen (DESIGN CHOICE, notes/assumptions/148.md). -/
def State.setServo (s : State) (v : Servo) : State :=
  let t := s.time
  let t := if v == .holdover && t.servo != .holdover then { t with holdAt := t.dev } else t
  let t := if v == .locked then { t with recon := false, rcUsed := false } else t
  { s with time := { t with servo := v } }

/-- A correction that raises reference time by `c` ticks, or lowers it where `c` is negative (R38): above STEP_THR_US a
step, otherwise a slew that removes it over eight sample periods at most at SLEW_PPM. The result says whether it stepped. -/
def State.correct (s : State) (c : Int) : State × Bool :=
  if (Config.usTicks * s.get TIME_SERVO_CFG_STEP_THR_US : Nat) < c then
    let t := { s.time with ref := s.time.ref + c.toNat, slewLeft := 0 }
    (State.put { s with time := t } TIME_STATUS_STEPPED 1, true)
  else
    let p := 8 * max 1 s.refPeriod
    let ppb := min (1000 * s.get TIME_SERVO_CFG_SLEW_PPM) ((1000000000 * c.natAbs + p - 1) / p)
    ({ s with time := { s.time with slewLeft := 1000000000 * c, slewPpb := ppb } }, false)

/-- In LOCKED the servo tracks the rate (R37). The spec states no estimator; the change at a sample with a phase error `e` other
than 0 is a free value within SLEW_PPM (R38; notes/assumptions/29.md). -/
def State.trackRate (s : State) (e : Int) : State :=
  if s.time.servo != .locked || e == 0 then s
  else
    let lim := 1000 * s.get TIME_SERVO_CFG_SLEW_PPM
    let (v, s) := s.fresh 32
    { s with time := { s.time with rate := s.time.rate + (v % (2 * lim + 1) : Nat) - lim } }

/-- An accepted sample with phase error `e` (measured minus expected) (R37, R38, R40). An anchor applies no correction. `due`
is the instant from which the next expected sample counts, where the sample moves it. -/
def State.acceptSample (s : State) (e : Int) (anchor : Bool) (due : Option Nat) : State × Bool :=
  let u := s.uncert
  let s := s.put TIME_PHASE_ERR (satSigned 32 (nsOfTicksI e))
  let (s, stepped) := if anchor then (s, false) else s.correct (-e)
  let near := e.natAbs ≤ Config.usTicks
  let good := if near then (if s.time.servo == .holdover then 1 else s.time.good + 1) else 0
  let t := { s.time with good := good, outliers := 0, missed := 0, dueBase := due.getD s.time.dueBase
                         uncertBase := u, uncertAt := s.time.dev }
  let s := { s with time := t }
  let s := if anchor then s else s.trackRate e
  let s := if s.time.servo == .holdover then s.setServo .acquiring else s
  (if s.time.servo == .acquiring && 3 ≤ good then s.setServo .locked else s, stepped)

/-- A reference time is assigned (R58): `value` is the reference time of instant `at_`. The servo enters ACQUIRING unless
DEG_HOLDOVER holds it; the uncertainty the command sets is not stated and is a free value (notes/assumptions/8.md). -/
def State.assignRef (s : State) (value at_ : Nat) : State × Bool × Int :=
  let c : Int := value - s.refAt at_
  let (s, stepped) := s.correct c
  let (u, s) := s.fresh 32
  let t := { s.time with good := 0, outliers := 0, missed := 0, assignNext := false, uncertBase := u
                         uncertAt := s.time.dev, dueBase := s.time.ref, cmdAt := some s.time.dev }
  let s := { s with time := t }
  let s := if s.forcedMode 5 && s.time.servo == .holdover then s else s.setServo .acquiring
  (s, stepped, c)

/-- The servo and the correction in force before an edge (R41). -/
def State.servoSnap (s : State) : ServoSnap :=
  { slewLeft := s.time.slewLeft, slewPpb := s.time.slewPpb, rate := s.time.rate, offset := (s.time.ref : Int) - s.time.dev
    servo := s.time.servo, good := s.time.good, outliers := s.time.outliers, missed := s.time.missed
    lastEdge := s.time.lastEdge, anchorNext := s.time.anchorNext, assignNext := s.time.assignNext
    phaseErr := s.get TIME_PHASE_ERR, stepped := s.get TIME_STATUS_STEPPED, outCount := s.get TIME_STATUS_OUTLIERS }

/-- The edge that fell in the command's cycle is taken back as a sample (R41), with the step, the slew and the rate it brought, and with
STEPPED and OUTLIERS. What a step of it has delivered in this cycle stands, and so does a REF_JUMP (DESIGN CHOICE,
notes/assumptions/148.md). -/
def State.unuseEdge (s : State) : State :=
  match s.time.preEdge with
  | none => s
  | some p =>
    let t := { s.time with servo := p.servo, good := p.good, outliers := p.outliers, missed := p.missed
                           lastEdge := p.lastEdge, anchorNext := p.anchorNext, assignNext := p.assignNext
                           slewLeft := p.slewLeft, slewPpb := p.slewPpb, rate := p.rate
                           ref := ((s.time.dev : Int) + p.offset).toNat, preEdge := none }
    let s := State.put { s with time := t } TIME_PHASE_ERR p.phaseErr
    ((s.put TIME_STATUS_STEPPED p.stepped).put TIME_STATUS_OUTLIERS p.outCount).put TIME_STATUS_SAMPLE_DROP 1

/-- The last REF_SYNC edge falls in the timing-clock cycle of device time `d` (R41). -/
def State.edgeInCycle (s : State) (d : Nat) : Bool :=
  match s.time.edgeAt with | some e => e / 8 == d / 8 | none => false

/-- The last REF_SYNC edge falls in the timing-clock cycle of now (R41). -/
def State.edgeThisCycle (s : State) : Bool := s.edgeInCycle s.time.dev

/-- The whole multiple of REF_PERIOD_US from the last accepted edge that lies nearest to `m` (R38): the first at least, so that an edge
soon after the last accepted one is an outlier (DESIGN CHOICE, notes/assumptions/148.md). -/
def nearestGrid (last p m : Nat) : Nat := last + max 1 ((m - last + p / 2) / max 1 p) * p

/-- A REF_SYNC edge that counts as an edge of the reference, with REF_EN at 1 (R38, R39, R41). The result says whether a
step was applied. An edge at which AT_NEXT_PULSE takes effect is no sample, and SAMPLE_DROP says so (R41). An outlier ends the run of
accepted samples that R37 counts (DESIGN CHOICE, notes/assumptions/148.md). -/
def State.refEdge (s : State) : State × Bool :=
  let s := { s with time := { s.time with edgeAt := some s.time.dev, preEdge := some s.servoSnap } }
  let cmdCycle := match s.time.cmdAt with | some d => d / 8 == s.time.dev / 8 | none => false
  if cmdCycle then (s.put TIME_STATUS_SAMPLE_DROP 1, false)
  else
    match s.time.pulseRef with
    | some v =>
      let s := { s with time := { s.time with pulseRef := none } }
      let (s, stepped, _) := s.assignRef v s.time.now
      (State.put { s with time := { s.time with lastEdge := some v, anchorNext := false } } TIME_STATUS_SAMPLE_DROP 1, stepped)
    | none =>
      if s.time.servo == .free || s.forcedMode 5 then (s, false)
      else
        let m := s.pinStamp
        match s.time.lastEdge, s.time.anchorNext with
        | none, _ | _, true =>
          let s := { s with time := { s.time with good := 0 } }
          let (s, stepped) := s.acceptSample 0 true (some m)
          ({ s with time := { s.time with lastEdge := some m, anchorNext := false } }, stepped)
        | some last, false =>
          let x := nearestGrid last s.refPeriod m
          let e : Int := m - x
          if s.refPeriod / 4 < e.natAbs && !s.time.assignNext then
            let s := s.bump TIME_STATUS_OUTLIERS
            let n := s.time.outliers + 1
            if 4 ≤ n then
              let s := { s with time := { s.time with outliers := 0, good := 0, assignNext := true } }
              ((s.setServo .acquiring).raise FID_REF_JUMP, false)
            else ({ s with time := { s.time with outliers := n, good := 0 } }, false)
          else
            let s := { s with time := { s.time with assignNext := false } }
            let (s, stepped) := s.acceptSample e false (some x)
            ({ s with time := { s.time with lastEdge := some x } }, stepped)

/-- An expected sample has passed with none accepted by a quarter period after its due instant (R38, R40). -/
def expectedSampleMissed (s : State) : State :=
  if s.time.servo == .free || !s.time.running then s
  else
    let p := s.refPeriod
    let s := s.advanceRef (s.time.dueBase + p + p / 4)
    let n := s.time.missed + 1
    let s := { s with time := { s.time with missed := n, dueBase := s.time.dueBase + p } }
    if s.time.servo == .locked && max 1 (s.get TIME_CTRL_MISS_LIMIT) ≤ n then
      (s.setServo .holdover).raise FID_REF_LOST
    else s

/-- What R43 saves in Lehr in one cycle. -/
def State.saveTime (s : State) : State :=
  let sv : SavedTime := { dev := s.time.dev, refOff := (s.time.ref : Int) - s.time.dev, rate := s.time.rate
                          lp := s.time.lp, ratio := s.time.lpRatio, rcRatio := s.time.rcRatio, rcAtSave := s.time.rcNow }
  { s with time := { s.time with saved := some sv, running := false } }

/-- The timing clock runs again and device time is restored (R43). The RC oscillator counted part of what quality bit 2 covers where it
did in this interval or in an earlier one that the bit still covers (R42). -/
def State.restoreTime (s : State) : State :=
  match s.time.saved with
  | none => { s with time := { s.time with running := true, marks := [] } }
  | some sv =>
    let n := (s.time.lp + 2 ^ 48 - sv.lp) % 2 ^ 48
    let rc := sv.rcAtSave || s.time.rcNow
    let dev := sv.dev + n * (if rc then sv.rcRatio else sv.ratio) / 4096
    let ppm := if rc then 100 * s.get TIME_LP_CFG_RC_PPM_X100 else s.get TIME_LP_CFG_XTAL_PPM
    let un := satNat 32 (nsOfTicks (dev - sv.dev) * ppm / 1000000 + 30518)
    let t := { s.time with running := true, dev := dev, ref := ((dev : Int) + sv.refOff).toNat, rate := sv.rate
                           recon := true, rcUsed := rc || (s.time.recon && s.time.rcUsed), uncertBase := un, uncertAt := dev, saved := none, marks := [], missed := 0
                           good := 0, outliers := 0, dueBase := ((dev : Int) + sv.refOff).toNat }
    let s := { s with time := t }
    if s.time.servo == .free then s
    else if s.forcedMode 5 then s.setServo .holdover else s.setServo .acquiring

/-- The end of a measurement window of 1024 low-power cycles (R43): the measured ratios; `crystal` says whether the LPX
crystal runs. -/
def lpRatioUpdate (ratio rcRatio : BitVec 32) (crystal : Bool) (at_ : Nat) (s : State) : State :=
  let s := s.advance at_
  if !s.time.running then s
  else
    let lost := s.time.lpxOk && !crystal
    let t := { s.time with lpRatio := ratio.toNat, rcRatio := rcRatio.toNat, lpxOk := crystal, rcNow := !crystal }
    let s := { s with time := t }
    if lost then s.raise FID_SYS_LPX else s

/-- TIME_GET (R57). -/
def timeGet (m : Master) (p : List Byte) (s : State) : State :=
  hostCmd 0x20 m p [lenIs p 0]
    (fun s =>
      let hold := if s.time.servo == .holdover then (s.time.dev - s.time.holdAt) / Config.msTicks else 0
      let servo := match s.time.servo with | .free => 0 | .acquiring => 1 | .locked => 2 | .holdover => 3
      (s, OK, le 8 s.refNow ++ le 8 s.devNow ++ [byte s.quality, byte servo, 0, 0] ++ le 4 (s.get TIME_PHASE_ERR)
        ++ le 4 (satSigned 32 s.time.rateNow) ++ le 4 s.uncert ++ le 4 (satNat 32 hold))) s

/-- The code of the servo state (R37). -/
def Servo.code : Servo → Nat
  | .free => 0 | .acquiring => 1 | .locked => 2 | .holdover => 3

/-! ### Timer channels (R61 to R71) -/

/-- Channel `n`. -/
def State.tmrCh (s : State) (n : Nat) : TmrChan := s.tmr.getD n {}
/-- Channel `n` becomes `c`. -/
def State.setTmrCh (s : State) (n : Nat) (c : TmrChan) : State := { s with tmr := s.tmr.set n c }

/-- Channel `n` is the low word of a chained pair. -/
def State.chained (s : State) (n : Nat) : Bool := n % 2 == 0 && s.flag (TMR_CH_CTRL_CHAIN n)
/-- Channel `n` is the high word of a chained pair (TMR_CHn_STATUS.CHAINED). -/
def State.chainHigh (s : State) (n : Nat) : Bool := n % 2 == 1 && s.flag (TMR_CH_CTRL_CHAIN (n - 1))

/-- A 64-bit value held by the registers of a chained pair, or the 32-bit one of a single channel. -/
def State.pairVal (s : State) (n : Nat) (f : Nat → Field) : Nat :=
  if s.chained n then s.get (f n) + 2 ^ 32 * s.get (f (n + 1)) else s.get (f n)

/-- The pair or channel register takes `v`. -/
def State.setPair (s : State) (n : Nat) (f : Nat → Field) (v : Nat) : State :=
  if s.chained n then (s.put (f n) v).put (f (n + 1)) (v / 2 ^ 32) else s.put (f n) v

/-- TOP of channel or pair `n`. -/
def State.tmrTop (s : State) (n : Nat) : Nat := s.pairVal n TMR_CH_TOP

/-- The level of TRGO of channel `n` (R62): that of EN where it shows it, else high in its pulses alone. -/
def State.tmrLevel (s : State) (n : Nat) : Bool :=
  !s.chainHigh n && (if s.get (TMR_CH_CTRL_TRGO n) = 1 then s.flag (TMR_CH_CTRL_EN n) else (s.tmrCh n).hi)

/-- The level of trigger source `src` of R63: a TRGO, or an input as its last edge left it (notes/assumptions/152.md). -/
def State.sourceLevel (s : State) (src : Nat) : Bool := if src < 16 then s.tmrLevel src else bitAt s.tmrIn src == 1

/-- The source 0x2A: a calendar FIRE addressed to TMR (R63). -/
def srcFire : Nat := 0x2A

/-- The gate of channel `n`: the level of the source its TRG_SEL names (R62 to R64). -/
def State.tmrGate (s : State) (n : Nat) : Bool :=
  let src := s.get (TMR_CH_TRIG_TRG_SEL n)
  if src = srcFire then (s.tmrCh n).fire else s.sourceLevel src

/-- The channel is enabled and TMR is powered and not fenced. -/
def State.tmrLive (s : State) (n : Nat) : Bool := s.flag (TMR_CH_CTRL_EN n) && s.awake && !s.fenced 3 && !s.chainHigh n

/-- The channel counts now: its clock runs (R521), and its gate is high where it is GATED (R62). -/
def State.tmrRuns (s : State) (n : Nat) : Bool :=
  s.tmrLive n && (s.time.running || 2 ≤ s.get (TMR_CH_CTRL_CLK n)) && (s.get (TMR_CH_CTRL_SLAVE n) != 1 || s.tmrGate n)

/-- Clock edges of the selected counting clock since the count was last brought up to date: timing clock (8 ticks), the
40 MHz reference (62.5 ticks), or 32.768 kHz; trigger edges count one by one (R62). In reduced function neither the timing clock nor
the reference runs (R521); a channel on the low-power clock counts on (notes/assumptions/166.md). -/
def State.tmrEdges (s : State) (n : Nat) : Nat :=
  let c := s.tmrCh n
  match s.get (TMR_CH_CTRL_CLK n) with
  | 0 => s.time.ran / 8 - c.since / 8
  | 1 => s.time.ran * 2 / 125 - c.since * 2 / 125
  | 2 => s.time.lp - c.sinceLp
  | _ => 0

/-- The count of channel or pair `n` now (R62, R66): it returns to 0 after TOP. A count above TOP goes on modulo TOP + 1 (DESIGN CHOICE,
notes/assumptions/166.md). -/
def State.tmrCount (s : State) (n : Nat) : Nat :=
  let base := s.pairVal n TMR_CH_CNT
  if s.tmrRuns n then
    let e := ((s.tmrCh n).frac + s.tmrEdges n) / (s.get (TMR_CH_PSC n) + 1)
    (base + e) % (s.tmrTop n + 1)
  else base

/-- The width of channel or pair `n` in bits (R66). -/
def State.tmrWidth (s : State) (n : Nat) : Nat := if s.chained n then 64 else 32

/-- Compare uses half-range ordering: TOP is the full range (R67). -/
def State.tmrFull (s : State) (n : Nat) : Bool := s.tmrTop n == 2 ^ s.tmrWidth n - 1

/-- The count of channel or pair `n` has come to a value: with TOP below the full range it may meet CMP again (R67). -/
def State.tmrMoved (s : State) (n : Nat) : State :=
  if s.tmrFull n then s else s.setTmrCh n { s.tmrCh n with cmpArmed := true }

/-- The stored count is brought up to date. -/
def State.tmrSync (s : State) (n : Nat) : State :=
  let v := s.tmrCount n
  let psc := s.get (TMR_CH_PSC n) + 1
  let c := s.tmrCh n
  let e := if s.tmrRuns n then c.frac + s.tmrEdges n else c.frac
  let s := (s.setPair n TMR_CH_CNT v).setTmrCh n { c with since := s.time.ran, sinceLp := s.time.lp, frac := e % psc }
  if e < psc then s else s.tmrMoved n

/-- Every channel is brought up to date: before the clocks stop, and before a change of a channel's control. -/
def State.tmrSyncAll (s : State) : State := (List.range 16).foldl State.tmrSync s

/-- The timing-clock cycle of now. -/
def State.cycleNow (s : State) : Nat := s.time.now / 8

/-- The count takes `v`. -/
def State.tmrSetCount (s : State) (n v : Nat) : State :=
  ((s.tmrSync n).setPair n TMR_CH_CNT v).tmrMoved n

/-- Channels that the TRGO of channel `n` gates. -/
def State.tmrGated (s : State) (src : Nat) : List Nat :=
  (List.range 16).filter fun k => s.get (TMR_CH_CTRL_SLAVE k) == 1 && s.get (TMR_CH_TRIG_TRG_SEL k) == src

/-- An event of TRGO: the edge of a level, or the start of a pulse of one cycle (R62). -/
structure TrgEdge where
  rising : Bool
  pulse : Bool
  deriving DecidableEq, Repr

/-- The pulse that TRGO of channel `n` gives for an event of kind `k` (R62): 0 a reset, 2 an update, 3 a compare match. -/
def State.tmrPulse (s : State) (n k : Nat) : List TrgEdge := if s.get (TMR_CH_CTRL_TRGO n) = k then [⟨true, true⟩] else []

/-- EN of channel `n` takes `b`: the state, and the edge of a TRGO that shows EN (R62). -/
def State.tmrSetEn (s : State) (n : Nat) (b : Bool) : State × List TrgEdge :=
  let s := (s.tmrGated n).foldl State.tmrSync s
  let old := s.tmrLevel n
  let s := (s.tmrSync n).putB (TMR_CH_CTRL_EN n) b
  (s, if s.tmrLevel n == old then [] else [⟨!old, false⟩])

/-- An update of channel `n`, which leaves the count at `v` (R62, R66): UPDF is set, ONE_SHOT clears EN. In the cycle of a software write
to CNT or of a RESET edge it is not taken (R69). -/
def State.tmrUpdated (s : State) (n v : Nat) : State × List TrgEdge :=
  let c := s.tmrCh n
  if c.wrCyc == some s.cycleNow || c.resetCyc == some s.cycleNow then (s, [])
  else
  let s := s.setTmrCh n { c with upd := some (s.cycleNow, s.flag (TMR_CH_STATUS_UPDF n), s.flag (TMR_CH_CTRL_EN n)) }
  let s := ((s.setPair n TMR_CH_CNT v).tmrMoved n).put (TMR_CH_STATUS_UPDF n) 1
  let (s, o) := if s.flag (TMR_CH_CTRL_ONE_SHOT n) then s.tmrSetEn n false else (s, [])
  (s, s.tmrPulse n 2 ++ o)

/-- An update of channel `n` that came earlier in the cycle of a software write to CNT or of a RESET edge is taken back (R69). A pulse
that its TRGO has begun stands (DESIGN CHOICE, notes/assumptions/166.md). -/
def State.tmrWithdraw (s : State) (n : Nat) : State :=
  match (s.tmrCh n).upd with
  | some (c, f, en) =>
    if c = s.cycleNow then
      ((s.putB (TMR_CH_STATUS_UPDF n) f).putB (TMR_CH_CTRL_EN n) en).setTmrCh n { s.tmrCh n with upd := none }
    else s
  | none => s

/-- A RESET edge sets CNT to 0 (R62, R69). -/
def State.tmrReset (s : State) (n : Nat) : State × List TrgEdge :=
  let s := (s.tmrSetCount n 0).tmrWithdraw n
  (s.setTmrCh n { s.tmrCh n with resetCyc := some s.cycleNow }, s.tmrPulse n 0)

/-- A software write of CNT (R69): a RESET edge of the same cycle comes after it. -/
def State.tmrWriteCount (s : State) (n v : Nat) : State :=
  let s := (s.tmrSetCount n (if (s.tmrCh n).resetCyc == some s.cycleNow then 0 else v)).tmrWithdraw n
  s.setTmrCh n { s.tmrCh n with wrCyc := some s.cycleNow }

/-- `e` edges of its counting clock reach channel `n` at once (R62). -/
def State.tmrAdd (s : State) (n e : Nat) : State × List TrgEdge :=
  let c := s.tmrCh n
  let psc := s.get (TMR_CH_PSC n) + 1
  let v := s.pairVal n TMR_CH_CNT + (c.frac + e) / psc
  let s := s.setTmrCh n { c with frac := (c.frac + e) % psc }
  if v ≤ s.tmrTop n then ((s.setPair n TMR_CH_CNT v).tmrMoved n, []) else s.tmrUpdated n (v % (s.tmrTop n + 1))

/-- A channel's flags are reported by the channel or by the even channel of its pair (R66). -/
def State.tmrOwner (s : State) (n : Nat) : Nat := if s.chainHigh n then n - 1 else n

/-- The edge setting `sel` (0 rising, 1 falling, 2 both) takes an edge of this direction (R63). -/
def edgeTaken (sel : Nat) (rising : Bool) : Bool := sel == 2 || (sel == 0 && rising) || (sel == 1 && !rising)

/-- A trigger edge reaches channel `n` (R62, R69): it resets, starts or clocks the channel. Where one edge does both, the count is reset
and then takes the edge (DESIGN CHOICE, notes/assumptions/166.md). -/
def State.tmrTake (s : State) (n : Nat) (rising : Bool) : State × List TrgEdge :=
  let slave := s.get (TMR_CH_CTRL_SLAVE n)
  let clk := s.get (TMR_CH_CTRL_CLK n)
  if s.fenced 3 || !s.awake || s.chainHigh n || (slave = 0 && clk ≠ 3) || !edgeTaken (s.get (TMR_CH_TRIG_TRG_EDGE n)) rising then (s, [])
  else
    let s := s.tmrSync n
    let (s, o1) := if slave = 2 || slave = 4 then s.tmrReset n else (s, [])
    let (s, o2) := if slave = 3 || slave = 4 then s.tmrSetEn n true else (s, [])
    let (s, o3) := if clk = 3 && s.tmrLive n && (slave ≠ 1 || s.tmrGate n) then s.tmrAdd n 1 else (s, [])
    (s, o1 ++ o2 ++ o3)

/-- A capture on channel or pair `n` (R68), with an event record where CAP_EVT asks for one. No chapter gives the record a
code; the code is a free value (notes/assumptions/9.md). A capture and a read of CAP in one cycle act in the order of the queue (DESIGN
CHOICE, notes/assumptions/166.md). -/
def State.tmrCapture (s : State) (n : Nat) : State :=
  let s := s.tmrSync n
  let v := s.pairVal n TMR_CH_CNT
  let s := if s.flag (TMR_CH_STATUS_CAPF n) then s.put (TMR_CH_STATUS_OVR n) 1 else s
  let s := s.setTmrCh n { s.tmrCh n with capCyc := some s.cycleNow, capPrev := s.pairVal n TMR_CH_CAP }
  let s := (s.setPair n TMR_CH_CAP v).put (TMR_CH_STATUS_CAPF n) 1
  if s.flag (TMR_CH_CTRL_CAP_EVT n) then
    let (code, s) := s.fresh 16
    s.pushEvtItem (mkRecord s.pinStamp code 3 s.quality (s.cfgEpoch 3) (byte n :: le 8 v)) 3
  else s

/-- A capture edge reaches channel `n` (R63, R66, R68): the odd channel of a pair ignores it. -/
def State.tmrCapEdge (s : State) (n : Nat) (rising : Bool) : State :=
  if s.fenced 3 || !s.awake || s.chainHigh n || !s.flag (TMR_CH_TRIG_CAP_EN n) || !edgeTaken (s.get (TMR_CH_TRIG_CAP_EDGE n)) rising then s
  else s.tmrCapture n

/-- The TRGO of channel `n`, or its calendar FIRE, begins (`b`) or ends a pulse: the channels it gates are brought up to date. -/
def State.tmrPulseHi (s : State) (n : Nat) (b : Bool) : State :=
  let s := (s.tmrGated n).foldl State.tmrSync s
  s.setTmrCh n { s.tmrCh n with hi := b }

/-- Some channel takes the TRGO of channel `n` as its trigger or as its capture edge. -/
def State.tmrHeard (s : State) (n : Nat) : Bool :=
  (List.range 16).any fun k => k != n && (s.get (TMR_CH_TRIG_TRG_SEL k) == n || s.get (TMR_CH_TRIG_CAP_SEL k) == n)

/-- An edge of source `src` reaches every channel whose TRG_SEL or CAP_SEL names it, and what a TRGO then does reaches the next channels
(R62, R63), `fuel` of them in a row. The channels whose TRGO has begun a pulse on the way are added to `l`. -/
def State.tmrSource : Nat → State → List Nat → Nat → Bool → State × List Nat
  | 0, s, l, _, _ => (s, l)
  | fuel + 1, s, l, src, rising =>
    (List.range 16).foldl (fun (s, l) n =>
      if n = src then (s, l)
      else
        let (s, l) := if s.get (TMR_CH_TRIG_TRG_SEL n) = src then
            let r := s.tmrTake n rising
            r.2.foldl (fun (s, l) e =>
              if !e.pulse then State.tmrSource fuel s l n e.rising
              else if s.tmrHeard n && !l.contains n then State.tmrSource fuel (s.tmrPulseHi n true) (l ++ [n]) n true
              else (s, l)) (r.1, l)
          else (s, l)
        (if s.get (TMR_CH_TRIG_CAP_SEL n) = src then s.tmrCapEdge n rising else s, l)) (s, l)

/-- The pulses of the channels `l` end one timing-clock cycle after they began (R62), and those that begin with that a cycle later. -/
def State.tmrFalls : Nat → State → List Nat → State
  | 0, s, l => l.foldl (fun s n => s.tmrPulseHi n false) s
  | fuel + 1, s, l =>
    if l.isEmpty then s
    else
      let r := l.foldl (fun (s, l) n => State.tmrSource 16 (s.tmrPulseHi n false) l n false) (s.wait 8, [])
      State.tmrFalls fuel r.1 r.2

/-- What TRGO of channel `n` does reaches the other channels. -/
def State.tmrOuts (s : State) (n : Nat) (o : List TrgEdge) : State :=
  let r := o.foldl (fun (s, l) e =>
    if !e.pulse then State.tmrSource 16 s l n e.rising
    else if s.tmrHeard n && !l.contains n then State.tmrSource 16 (s.tmrPulseHi n true) (l ++ [n]) n true
    else (s, l)) (s, [])
  State.tmrFalls 16 r.1 r.2

/-- An edge of input `src` (0x10 to 0x29) (R63). -/
def State.tmrInput (s : State) (src : Nat) (rising : Bool) : State :=
  let s := (s.tmrGated src).foldl State.tmrSync s
  let r := State.tmrSource 16 { s with tmrIn := s.tmrIn - bitAt s.tmrIn src * 2 ^ src + bit01 rising * 2 ^ src } [] src rising
  State.tmrFalls 16 r.1 r.2

/-- A change `f` of the control of channel `n`, with the edge that a TRGO which shows EN then gives (R62). -/
def State.tmrChange (s : State) (n : Nat) (f : State → State) : State :=
  let s := (s.tmrGated n).foldl State.tmrSync s
  let old := s.tmrLevel n
  let s := f (s.tmrSync n)
  s.tmrOuts n (if s.tmrLevel n == old then [] else [⟨!old, false⟩])

/-- EN of channel `n` takes `b`. -/
def State.tmrEnable (s : State) (n : Nat) (b : Bool) : State := s.tmrChange n fun s => s.putB (TMR_CH_CTRL_EN n) b

/-- EN of every channel of the mask is set in one cycle (R61). -/
def State.tmrStartMask (s : State) (mask : Nat) : State :=
  (List.range 16).foldl (fun s n => if bitAt mask n = 1 then s.tmrEnable n true else s) s

/-- A write of 1 bits to TMR_START by `m` (R61). -/
def tmrStart (m : Master) (mask : BitVec 16) (s : State) : State :=
  s.onBus m TMR_START.addr 1 fun s => s.tmrStartMask mask.toNat

/-- The source is a GPIO input: its edges have no other command of their own (R63). -/
def isGpio (src : Nat) : Bool := within 0x10 0x1F src

/-- A trigger edge at instant `at_` of the GPIO input that TRG_SEL of channel `n` names (R62, R63). Edges of the other sources come with
their own commands, or from the channels. -/
def tmrTrigger (n : Fin 16) (rising : Bool) (at_ : Nat) (s : State) : State :=
  let s := s.advance at_
  let src := s.get (TMR_CH_TRIG_TRG_SEL n)
  if isGpio src then s.tmrInput src rising else s

/-- A capture edge at instant `at_` of the GPIO input that CAP_SEL of channel `n` names (R63, R68). -/
def tmrCapture (n : Fin 16) (rising : Bool) (at_ : Nat) (s : State) : State :=
  let s := s.advance at_
  let src := s.get (TMR_CH_TRIG_CAP_SEL n)
  if isGpio src then s.tmrInput src rising else s

/-- Ticks until a running channel has counted `k` more counts. -/
def State.tmrTicks (s : State) (n k : Nat) : Nat :=
  let e := k * (s.get (TMR_CH_PSC n) + 1) - (s.tmrCh n).frac
  match s.get (TMR_CH_CTRL_CLK n) with
  | 0 => (s.time.ran / 8 + e) * 8 - s.time.ran
  | 1 => (125 * (s.time.ran * 2 / 125 + e) + 1) / 2 - s.time.ran
  | 2 => s.time.ticksToLp e
  | _ => 0

/-- Channel or pair `n` counts past TOP and returns to 0 (R62, R66). A channel clocked by trigger edges does so with the edge itself. -/
def tmrUpdate (n : Fin 16) (s : State) : State :=
  let s := s.tmrSync n
  if !s.tmrRuns n || s.get (TMR_CH_CTRL_CLK n) = 3 then s
  else
    let s := (s.wait (s.tmrTicks n (s.tmrTop n + 1 - s.pairVal n TMR_CH_CNT))).tmrSync n
    let r := s.tmrUpdated n 0
    r.1.tmrOuts n r.2

/-- The compare condition of R67 for a width of `w` bits: half-range ordering with TOP full, equality otherwise. -/
def tmrMatch (w top cnt cmp : Nat) : Bool :=
  if top = 2 ^ w - 1 then (cnt + 2 ^ w - cmp) % 2 ^ w < 2 ^ (w - 1) else cnt == cmp

/-- The counts until channel or pair `n` meets the compare condition (R67): with TOP full once per write of CMP, with a lower TOP each
time CNT comes to equal CMP, by counting or otherwise. -/
def State.tmrToMatch (s : State) (n : Nat) : Option Nat :=
  let w := s.tmrWidth n
  let top := s.tmrTop n
  let cmp := s.pairVal n TMR_CH_CMP
  let cnt := s.pairVal n TMR_CH_CNT
  let armed := (s.tmrCh n).cmpArmed
  if top < cmp || (top = 2 ^ w - 1 && !armed) then none
  else if tmrMatch w top cnt cmp then some (if armed then 0 else top + 1)
  else some ((cmp + top + 1 - cnt) % (top + 1))

/-- The count of channel or pair `n` next meets the compare condition (R67). A channel clocked by trigger edges meets it at its present
count or not at all. -/
def tmrCompare (n : Fin 16) (s : State) : State :=
  let s := s.tmrSync n
  match s.tmrToMatch n with
  | none => s
  | some k =>
    if !s.tmrRuns n || (s.get (TMR_CH_CTRL_CLK n) = 3 && k ≠ 0) then s
    else
      let s := (s.wait (s.tmrTicks n k)).tmrSync n
      let s := (s.put (TMR_CH_STATUS_CMPF n) 1).setTmrCh n { s.tmrCh n with cmpArmed := false }
      s.tmrOuts n (s.tmrPulse n 3)

/-- TMR_CHn_CAP of channel `n` was written by a capture in the cycle of now (R68). -/
def State.capThisCycle (s : State) (n : Nat) : Bool := (s.tmrCh (s.tmrOwner n)).capCyc == some s.cycleNow

/-- A read of TMR_CHn_CAP clears CAPF of that channel (R65), but in the cycle of a capture (R68): a pair's CAPF is the even channel's, so
that a read of its high word clears nothing (R66). -/
def State.capRead (s : State) (n : Nat) : State := if s.capThisCycle n then s else s.put (TMR_CH_STATUS_CAPF n) 0

/-- What a read of the captured count of channel or pair `n` returns: in the cycle of a capture the previous value (R68). -/
def State.capVal (s : State) (n : Nat) : Nat := if s.capThisCycle n then (s.tmrCh n).capPrev else s.pairVal n TMR_CH_CAP

/-- The TMR_CHn_STATUS image (R65). -/
def State.tmrStatusWord (s : State) (n : Nat) : Nat := s.get (TMR_CH_STATUS n) + 16 * bit01 (s.chainHigh n)

/-- A calendar FIRE addressed to TMR with argument `arg` takes the level `b` (R64): the edge reaches that channel's trigger and capture,
where its selects name the FIRE. -/
def State.fireEdge (s : State) (arg : Nat) (b : Bool) : State :=
  let s := s.tmrSync arg
  let s := s.setTmrCh arg { s.tmrCh arg with fire := b }
  let s := if s.get (TMR_CH_TRIG_TRG_SEL arg) = srcFire then let r := s.tmrTake arg b; r.1.tmrOuts arg r.2 else s
  if s.get (TMR_CH_TRIG_CAP_SEL arg) = srcFire then s.tmrCapEdge arg b else s

/-- A calendar FIRE addressed to TMR with argument `arg` (R64): a pulse one timing-clock cycle long, whose edges meet every edge setting
of channel `arg`. -/
def tmrFire (arg : Nat) (s : State) : State :=
  if s.get (TMR_CH_TRIG_TRG_SEL arg) ≠ srcFire && s.get (TMR_CH_TRIG_CAP_SEL arg) ≠ srcFire then s
  else ((s.fireEdge arg true).wait 8).fireEdge arg false

/-- A select value that R63 permits for channel `n`. -/
def selOk (n v : Nat) : Bool := v ≤ 0x2A && v != n

/-- TMR_CONFIG (R70). A chained TOP of 0, which R66 does not permit, is BAD_PARAM (DEDUCED, notes/assumptions/151.md). -/
def tmrConfig (m : Master) (p : List Byte) (s : State) : State :=
  let n := u8 p 0
  let ctrl := u32 p 4
  let trig := u32 p 8
  let chain := bitAt ctrl 6 == 1
  hostCmd 0x24 m p
    [lenIs p 32, paramOk (n < 16), paramOk (zeroAt p 1 3), paramOk (ctrl < 2048), paramOk (bitsAt ctrl 3 3 ≤ 4),
     paramOk (!chain || n % 2 == 0), paramOk (!s.chainHigh n), paramOk (trig < 2 ^ 17),
     paramOk (selOk n (bitsAt trig 0 6) && selOk n (bitsAt trig 8 6)),
     paramOk (bitsAt trig 6 2 < 3 && bitsAt trig 14 2 < 3), paramOk (u32 p 12 < 2 ^ 16),
     paramOk (if chain then u64 p 16 ≠ 0 else u32 p 20 = 0 && u32 p 28 = 0)]
    (fun s =>
      if s.flag (TMR_CH_CTRL_EN n) || (chain && s.flag (TMR_CH_CTRL_EN (n + 1))) then s.ends BAD_STATE
      else
        let s := (s.tmrChange n fun s => s.put (TMR_CH_CTRL n) (ctrl - bitAt ctrl 0)).put (TMR_CH_TRIG n) trig
        let s := s.put (TMR_CH_PSC n) (u32 p 12)
        let s := (s.setPair n TMR_CH_TOP (u64 p 16)).setPair n TMR_CH_CMP (u64 p 24)
        let s := s.setTmrCh n { s.tmrCh n with cmpArmed := true, lowTop := none, lowCmp := none, frac := 0 }
        (s.tmrEnable n (bitAt ctrl 0 == 1)).ok) s

/-- TMR_READ (R71). The odd channel of a pair answers with the pair's count and capture (DESIGN CHOICE, notes/assumptions/166.md). -/
def tmrRead (m : Master) (p : List Byte) (s : State) : State :=
  let n := u8 p 0
  hostCmd 0x25 m p [lenIs p 1, paramOk (n < 16)]
    (fun s =>
      let k := s.tmrOwner n
      (s.capRead k, OK, le 8 (s.tmrCount k) ++ le 8 (s.capVal k) ++ le 4 (s.tmrStatusWord n))) s

end Sys2Proof.Machine
end

