-- ==== Sys2Proof/Machine/Cred.lean ====
section
/-!
DEFINITION. Machine/Cred.lean: the directory, the population, lookups, lock-out and the CRED commands (R240 to R255, R268 to
R285, R288, R289).
-/
namespace Sys2Proof.Machine

/-- CRED as `f` makes it. -/
def State.modCred (s : State) (f : CredState → CredState) : State := { s with cred := f s.cred }

/-! ### The directory (R242 to R244) -/

/-- Entries of the directory. -/
def dirSize : Nat := 3000

/-- Address of directory entry `i` (R242). -/
def dirAddr (i : Nat) : Nat := 0x20000000 + 64 * i

/-- STATE codes of an entry (R242): ACTIVE. -/
def stActive : Nat := 0x5A
/-- PROMOTED. -/
def stPromoted : Nat := 0xA5
/-- SUSPENDED. -/
def stSuspended : Nat := 0x3C

/-- Directory entry `i` as it stands. -/
def State.dirRow (s : State) (i : Nat) : List Byte := s.readMem (dirAddr i) 64

/-- Directory entry `i` as the writes in progress leave it. -/
def State.dirNew (s : State) (i : Nat) : List Byte :=
  match (s.cred.rows.filter (·.idx == i)).getLast? with
  | some w => w.row
  | none => s.dirRow i

/-- The entries that hold anything, in ascending order: every other entry is EMPTY. -/
def State.dirListed (s : State) : List Nat :=
  (s.mem.filterMap fun c =>
    if dirAddr 0 ≤ c.1 && c.1 < dirAddr dirSize then some ((c.1 - dirAddr 0) / 64) else none).eraseReps

/-- The STATE byte of an entry. -/
def rowState (r : List Byte) : Nat := u8 r 13

/-- STATE is one that an entry in use may have (R243). -/
def rowUsable (r : List Byte) : Bool := rowState r == stActive || rowState r == stPromoted || rowState r == stSuspended

/-- An entry with a STATE that R243 does not list. -/
def rowInvalid (r : List Byte) : Bool := !rowUsable r && rowState r != 0

/-- A KEY_ID that is never stored (R240). -/
def idVoid (id : List Byte) : Bool := id == List.replicate 12 0 || id == List.replicate 12 0xFF

/-- The entry that holds `id`, as it stands (R244). -/
def State.dirFind (s : State) (id : List Byte) : Option Nat :=
  s.dirListed.find? fun i => rowUsable (s.dirRow i) && (s.dirRow i).take 12 == id

/-- The entry that holds `id` once the writes in progress are done. -/
def State.dirFindNew (s : State) (id : List Byte) : Option Nat :=
  (s.cred.rows.map (·.idx) ++ s.dirListed).find? fun i => rowUsable (s.dirNew i) && (s.dirNew i).take 12 == id

/-- CRED_STATUS.DIR_COUNT. -/
def State.dirCount (s : State) : Nat := (s.dirListed.filter fun i => rowState (s.dirRow i) != 0).length

/-- The lowest EMPTY entry. -/
def State.dirFree (s : State) : Option Nat := (List.range dirSize).find? fun i => rowState (s.dirNew i) == 0

/-- A row write starts (R244). -/
def State.rowWrite (s : State) (w : RowWrite) : State :=
  (s.modCred fun c => { c with rows := c.rows ++ [w] }).withdraw 9

/-- CTR_INDEX of a row replaced (R242). -/
def rowWithCtr (r : List Byte) (c : Nat) : List Byte := r.take 20 ++ le 4 c ++ r.drop 24

/-! ### The population (R245 to R251) -/

/-- The header fields of R246: SALT as bytes. -/
structure PopHdr where
  log2 : Nat
  salt : List Byte
  gen : Nat
  nmax : Nat
  deriving DecidableEq, Repr

/-- Flash address of the bank (R499). -/
def bankBase : Nat := 0x01000000

/-- Bytes of the population bank (R499). -/
def bankSize : Nat := 0x03000000

/-- The header that 256 bytes spell, if it is valid (R246). -/
def parseHdr (b : List Byte) : Option PopHdr :=
  if u16 b 0 = 0x504B ∧ u8 b 2 = 1 ∧ within 10 16 (u8 b 3) ∧ within 1 250000 (u32 b 12) ∧ crc32 (b.take 252) = u32 b 252
  then some { log2 := u8 b 3, salt := (b.drop 4).take 4, gen := u32 b 8, nmax := u32 b 12 }
  else none

/-- The header in flash (R246). -/
def State.popHdr (s : State) : Option PopHdr := if s.hif.flashOk then parseHdr (s.readFlash bankBase 256) else none

/-- Flash address of bucket `b` (R245). -/
def bucketAddr (b : Nat) : Nat := bankBase + 0x9000 + 128 * b

/-- Flash address of blob `i` (R245). -/
def PopHdr.blobAddr (h : PopHdr) (i : Nat) : Nat := bankBase + 0x9000 + 128 * 2 ^ h.log2 + 128 * i

/-- The bucket and TAG of a KEY_ID (R249). -/
def PopHdr.place (h : PopHdr) (id : List Byte) : Nat × Nat :=
  let k := crc32 (h.salt ++ id)
  (k % 2 ^ h.log2, k / 2 ^ 20 % 4096)

/-- What an index entry is (R247); a live one names its TAG and blob. -/
inductive IndexEntry
  | empty
  | deleted
  | live (tag idx : Nat)
  | malformed (tag : Nat)
  deriving DecidableEq, Repr

/-- An index entry of a population of `nmax` blobs (R247): a live index at or above NBLOB_MAX is malformed. -/
def indexEntry (nmax e : Nat) : IndexEntry :=
  if e = 0xFFFFFFFF then .empty
  else if e = 0 then .deleted
  else if bitsAt e 30 2 = 1 ∧ bitsAt e 0 18 < nmax then .live (bitsAt e 18 12) (bitsAt e 0 18)
  else .malformed (bitsAt e 18 12)

/-- The 32 entries of a bucket (R247). -/
def State.bucket (s : State) (h : PopHdr) (b : Nat) : List IndexEntry :=
  let d := s.readFlash (bucketAddr b) 128
  (List.range 32).map fun k => indexEntry h.nmax (u32 d (4 * k))

/-- The place in a bucket and the blob index of the first live entry with this TAG. -/
def tagFind (tag : Nat) : List IndexEntry → Nat → Option (Nat × Nat)
  | [], _ => none
  | .live t i :: l, k => if t = tag then some (k, i) else tagFind tag l (k + 1)
  | _ :: l, k => tagFind tag l (k + 1)

/-- The 128 bytes of blob `i`. -/
def State.blob (s : State) (h : PopHdr) (i : Nat) : List Byte := s.readFlash (h.blobAddr i) 128

/-- A blob's CRC-32 is right (R248). -/
def blobCrcOk (b : List Byte) : Bool := crc32 (b.take 64 ++ (b.drop 80).take 44) == u32 b 124

/-- The counter slots of a blob that are programmed (R248). -/
def blobSlots (b : List Byte) : List Nat := ((List.range 4).map fun k => u32 b (64 + 4 * k)).filter (· != 0xFFFFFFFF)

/-- The stored counter of a blob (R248). -/
def blobCtr (b : List Byte) : Nat := (blobSlots b).foldl max (u32 b 20)

/-- The lowest erased counter slot of a blob. -/
def blobErased (b : List Byte) : Option Nat := (List.range 4).find? fun k => u32 b (64 + 4 * k) == 0xFFFFFFFF

/-- Bit `i` of the revocation map in SRAM (R251, R253). -/
def State.mapRevoked (s : State) (i : Nat) : Bool := bitAt (s.mem8 (0x100F8000 + i / 8)).toNat (i % 8) == 1

/-- DEG_NO_POPULATION is forced, or the flash is unused (R251, R498, R553). -/
def State.popBarred (s : State) : Bool := s.forcedMode 2 || !s.hif.flashOk || !s.flag CRED_CTRL_POP_EN || s.cred.build != 0

/-- The population is in use (R251). -/
def State.popInUse (s : State) : Bool := !s.popBarred && s.flag CRED_STATUS_MAP_LOADED && s.popHdr.isSome

/-- A population lookup waits for the map (R251). -/
def State.popWaits (s : State) : Bool := !s.popBarred && s.cred.mapLoading && s.popHdr.isSome

/-- CRED_STATUS.POP_STATE (R280). -/
def State.popState (s : State) : Nat :=
  if s.cred.build ≠ 0 then 2 else if s.cred.popFailed then 3 else if s.popInUse then 1 else 0

/-- The population entry of a KEY_ID (R249): bucket, place in it, blob index and blob; and whether a malformed entry was
read, and whether one that could match bars it or the blob fails. -/
structure PopFound where
  bucket : Nat := 0
  place : Nat := 0
  index : Nat := 0
  blob : List Byte := []
  malformed : Bool := false
  badBlob : Bool := false
  hit : Bool := false
  deriving DecidableEq, Repr

/-- The search of the population (R249). -/
def State.popFind (s : State) (h : PopHdr) (id : List Byte) : PopFound :=
  let (b, tag) := h.place id
  let es := s.bucket h b
  let mal := es.any fun e => match e with | .malformed _ => true | _ => false
  let bar := es.any fun e => match e with | .malformed t => t == tag | _ => false
  match (if bar then none else tagFind tag es 0) with
  | none => { malformed := mal }
  | some (k, i) =>
    let bl := s.blob h i
    let ok := blobCrcOk bl && bl.take 12 == id
    { bucket := b, place := k, index := i, blob := bl, malformed := mal, badBlob := !ok, hit := ok }

/-! ### Lookups (R249 to R255) -/

/-- The epoch of issuer `j` (R252). -/
def State.epochOf (s : State) (j : Nat) : Nat := s.cntVal (48 + j)

/-- ISSUER of an entry (R242). -/
def rowIssuer (r : List Byte) : Nat := bitsAt (u8 r 14) 0 4

/-- EPOCH of an entry. -/
def rowEpoch (r : List Byte) : Nat := u16 r 15

/-- UNLOCK of an entry. -/
def rowUnlock (r : List Byte) : Bool := bitAt (u8 r 14) 4 == 1

/-- START of an entry. -/
def rowStart (r : List Byte) : Bool := bitAt (u8 r 14) 5 == 1

/-- The credential has expired (R254). -/
def State.rowExpired (s : State) (r : List Byte) : Bool :=
  let e := fieldLe r 17 3
  e != 0 && (s.time.servo == .free || 2 ^ 42 * e ≤ s.time.ref)

/-- The checks of R255 but the unwrap: the status. -/
def State.rowStatus (s : State) (r : List Byte) (source index : Nat) : Nat :=
  if rowState r ≠ stActive ∧ rowState r ≠ stPromoted then REVOKED
  else if rowEpoch r < s.epochOf (rowIssuer r) then REVOKED
  else if source = 2 ∧ s.mapRevoked index then REVOKED
  else if s.rowExpired r then EXPIRED
  else OK

/-- The key of an entry unwrapped under its issuer's slot (R242, R255). -/
def State.unwrapRow (s : State) (r : List Byte) : Option (List Byte) :=
  match s.slot (rowIssuer r) with
  | some k => if k.usage = 0 then kwUnwrap k.key ((r.drop 24).take 40) else none
  | none => none

/-- The issuer key stands in its slot as a key-encryption key. -/
def State.issuerKey (s : State) (r : List Byte) : Bool :=
  match s.slot (rowIssuer r) with | some k => k.usage == 0 | none => false

/-- Row 5 of R255: the key enters slot `k`, or the lookup ends UNWRAP. An unwrap in progress completes first; a register request that waits
comes after (R332). -/
def State.lookUnwrap (s : State) (r : List Byte) (k : Nat) : State × Nat :=
  let s := s.mrdYield.setSlot k none
  match s.unwrapRow r with
  | some key => (((s.setSlot k (some { key := key, usage := 1, users := 1, kek := rowIssuer r })).bump AES_UNWRAPS).mrdNext, OK)
  | none =>
    (if s.issuerKey r then ((s.bump AES_UNWRAP_FAILS).raise FID_CRED_UNWRAP).mrdNext else s.mrdNext, UNWRAP)

/-- The checks of a found entry, and the unwrap (R255). -/
def State.lookChecks (s : State) (q : LookReq) (source index : Nat) (row : List Byte) (ctr : Nat) : State × LookRes :=
  let st := s.rowStatus row source index
  let (s, st) := if st = OK && !q.noUnwrap then s.lookUnwrap row q.kslot else (s, st)
  (s, { req := q, status := st, source := source, index := index, row := row, ctr := ctr })

/-- The answer NOT_FOUND of a lookup. -/
def State.lookMissed (s : State) (q : LookReq) : State × LookRes :=
  (s.bump CRED_MISSES, { req := q, status := NOT_FOUND })

/-- A lookup that meets a program or erase suspends it (R24): HIF_XSPI_SUSP keeps the longest latency measured, at most 30 µs
(R498, R503); what is measured is free (notes/assumptions/16.md). -/
def State.flashSuspend (s : State) : State :=
  if s.flashBusy then
    let (v, s) := s.fresh 16
    s.put HIF_XSPI_SUSP (max (s.get HIF_XSPI_SUSP) (v % 301))
  else s

/-- The population part of a lookup (R249, R250): it took `ns` beside the suspend latency; `flash` is false where a read
failed. -/
def State.lookPop (s : State) (q : LookReq) (h : PopHdr) (ns : Nat) (flash : Bool) : State × LookRes :=
  let s := s.flashSuspend.put CRED_LK_TIME ns
  let s := if 80000 < ns then s.raise FID_CRED_LATE else s
  if !flash then (s.raise FID_CRED_FLASH).lookMissed q
  else
    let f := s.popFind h q.id
    let s := if f.malformed then s.raise FID_CRED_INDEX else s
    if f.badBlob then (s.raise FID_CRED_BLOB).lookMissed q
    else if !f.hit then s.lookMissed q
    else if rowState f.blob ≠ stActive ∧ rowState f.blob ≠ stSuspended then (s.raise FID_CRED_DIR).lookMissed q
    else (s.bump CRED_COLD_HITS).lookChecks q 2 f.index (f.blob.take 64) (blobCtr f.blob)

/-- A lookup runs (R249). -/
def State.lookRun (s : State) (q : LookReq) (ns : Nat) (flash : Bool) : State × LookRes :=
  let s := s.bump CRED_LOOKUPS
  if idVoid q.id then s.lookMissed q
  else
    let s := if s.dirListed.any fun i => rowInvalid (s.dirRow i) then s.raise FID_CRED_DIR else s
    match s.dirFind q.id with
    | some i => (s.bump CRED_HOT_HITS).lookChecks q 1 i (s.dirRow i) (u32 (s.dirRow i) 20)
    | none =>
      match (if s.popInUse then s.popHdr else none) with
      | some h => s.lookPop q h ns flash
      | none => s.lookMissed q

/-- The lookup being served reads the population: the directory has no match (R249). -/
def State.popReading (s : State) : Bool :=
  match s.cred.looks with
  | [] => false
  | q :: _ => !idVoid q.id && s.popInUse && (s.dirFind q.id).isNone

/-- A program or erase is suspended while a lookup reads the population, and goes on afterwards (R24). -/
def State.flashFollow (s : State) : State :=
  let r := s.popReading
  { s with
    hif := { s.hif with flash := s.hif.flash.map fun o => { o with suspended := r && o.kind != 0 } }
    upd := { s.upd with eraseHeld := r && s.upd.erase.isSome } }

/-- A lookup joins the engine's queue (R249). -/
def State.lookAsk (s : State) (q : LookReq) : State :=
  ((s.modCred fun c => { c with looks := c.looks ++ [q] }).withdraw 9).flashFollow

/-- CRED_LK_RESULT at the end of a register lookup (R280). -/
def State.lookShow (s : State) (r : LookRes) : State :=
  s.put CRED_LK_RESULT (r.status + 2 ^ 8 * r.source + 2 ^ 10 + 2 ^ 12 * r.index)

/-- A GO that reaches the block (R280). With CRED not ON the result is BAD_STATE. -/
def State.lookGo (s : State) (v : Word) : State :=
  let s := s.put CRED_LK_CMD_NO_UNWRAP (bitAt v.toNat 1)
  let s := s.put CRED_LK_CMD_KSLOT (clampNat 16 23 (bitsAt v.toNat 8 5))
  if s.flag CRED_LK_RESULT_BUSY then s
  else
    let q : LookReq := { who := 0, id := s.regBytes CRED_LK_ID 3, kslot := s.get CRED_LK_CMD_KSLOT,
                         noUnwrap := s.flag CRED_LK_CMD_NO_UNWRAP }
    if !s.unitOn 9 then s.lookShow { req := q, status := BAD_STATE }
    else (s.put CRED_LK_RESULT (2 ^ 11)).lookAsk q

/-- A write of CRED_LK_CMD with GO set, by master `m` (R280). -/
def credLkGo (m : Master) (v : Word) (s : State) : State := s.onBus m CRED_LK_CMD.addr 1 (·.lookGo v)

/-- No lookup, row write or population operation is in progress: the quiescent boundary of CRED (R276). -/
def State.credQuiet (s : State) : Bool :=
  s.cred.looks.isEmpty && s.cred.rows.isEmpty && s.cred.pop.isNone && s.cred.build != 1 && s.cred.build != 3

/-- What waited for the boundary of CRED takes effect (R276, R590). -/
def State.credBoundary (s : State) : State :=
  if s.credQuiet then (s.applyStaged 9).unitSettle 9 else s

/-- LOOKUP_DONE (R249 to R255) at `at_`: the lookup served ends; its population part took `timeNs`. -/
def lookupDone (timeNs : BitVec 32) (flash : Bool) (at_ : Nat) (s : State) : State :=
  let s := s.advance at_
  match s.cred.looks with
  | [] => s
  | q :: rest =>
    if !s.awake || (s.dirFind q.id).isNone && s.popWaits && !idVoid q.id then s
    else
      let s := s.modCred fun c => { c with looks := rest }
      let (s, r) := s.lookRun q timeNs.toNat flash
      let s := if q.who = 0 then s.lookShow r else s.modCred fun c => { c with found := c.found ++ [r] }
      s.flashFollow.credBoundary

/-- The map load starts: at a reset and at every return to P0 from P3 or P4 (R251). -/
def State.mapLoadStart (s : State) : State :=
  (s.modCred fun c => { c with mapLoading := true }).put CRED_STATUS_MAP_LOADED 0

/-- The POP registers show the header (R279): zeros while none is valid (notes/assumptions/17.md). -/
def State.popShow (s : State) : State :=
  match s.popHdr with
  | some h => ((s.put CRED_POP_INFO (h.log2 + 2 ^ 8 * h.nmax)).put CRED_POP_SALT (ofLe h.salt)).put CRED_POP_GEN h.gen
  | none => ((s.put CRED_POP_INFO 0).put CRED_POP_SALT 0).put CRED_POP_GEN 0

/-- The map bytes copied from flash, every bit inverted (R251): only bytes that flash lists can differ from zero. -/
def State.mapCopy_ (s : State) : State :=
  let src := 0x30000000 + bankBase + 0x1000
  let old := s.mem.filter fun c => !(0x100F8000 ≤ c.1 && c.1 < 31250 + 0x100F8000)
  (s.mem.filter fun c => src ≤ c.1 && c.1 < 31250 + src).foldl
    (fun s c => s.setMem8 (0x100F8000 + (c.1 - src)) (~~~ c.2)) { s with mem := old }

/-- REVMAP_LOADED (R251, R277): the load ends at `at_`; `ok` is false where a flash read of it failed or timed out, which is a CRED_FLASH
too. -/
def revmapLoaded (ok : Bool) (at_ : Nat) (s : State) : State :=
  let s := s.advance at_
  if !s.cred.mapLoading || !s.awake || !s.hif.flashOk then s
  else
    let s := (s.modCred fun c => { c with mapLoading := false }).popShow
    if !ok then (s.raise FID_CRED_FLASH).raise FID_CRED_REVMAP
    else s.mapCopy_.put CRED_STATUS_MAP_LOADED 1

/-! ### Lock-out (R268 to R271) -/

/-- AUTH_LOCK (R278): the key bytes are those of the KEY_ID. -/
def State.lockEvent (s : State) (scope : Nat) (id : List Byte) (secs : Nat) : State :=
  s.event EV_AUTH_LOCK (byte scope :: padTo 4 id ++ le 2 secs)

/-- AUTH_LOCK with no one credential: the record's KEY_ID bytes are free (notes/assumptions/18.md). -/
def State.lockEventAll (s : State) (scope secs : Nat) : State :=
  let (b, s) := s.freshBytes 4
  s.lockEvent scope b secs

/-- The lock-out row of a KEY_ID. -/
def State.lockRow (s : State) (id : List Byte) : Option LockRow := s.cred.locks.find? (·.id == id)

/-- The credential is locked (R269). -/
def State.credLocked (s : State) (id : List Byte) : Bool :=
  match s.lockRow id with | some r => r.until_.isSome | none => false

/-- The global lock runs (R270). -/
def State.globalLocked (s : State) : Bool := s.cred.lockedUntil.isSome

/-- An answer with this KEY_ID ends with LOCKOUT before lookup (R269, R270). -/
def State.lockedOut (s : State) (id : List Byte) : Bool := s.globalLocked || s.credLocked id

/-- Credentials locked. -/
def State.lockedCount (s : State) : Nat := (s.cred.locks.filter (·.until_.isSome)).length

/-- The table row whose last failure is oldest among the unlocked (R271). -/
def oldestUnlocked : List LockRow → Option LockRow
  | [] => none
  | r :: l =>
    match oldestUnlocked l with
    | none => if r.until_.isNone then some r else none
    | some b => if r.until_.isNone && r.last ≤ b.last then some r else some b

/-- The table with a row for `id`, or `none` where it has no place (R271). -/
def State.lockTable (s : State) (id : List Byte) : Option (List LockRow) :=
  if (s.lockRow id).isSome then some s.cred.locks
  else if s.cred.locks.length < 128 then some (s.cred.locks ++ [{ id := id }])
  else (oldestUnlocked s.cred.locks).map fun o => s.cred.locks.erase o ++ [{ id := id }]

/-- A failure counted against a credential (R269, R271). -/
def State.countCred (s : State) (id : List Byte) : State :=
  match s.lockTable id with
  | none => s
  | some t =>
    let now := s.time.lp
    let fails := ((t.find? (·.id == id)).map (·.fails)).getD []
    let fails := fails.filter (fun x => now ≤ x + lpOfS 60) ++ [now]
    let lock := s.get CRED_AUTH_CFG_LOCK_N ≤ fails.length && !s.credLocked id
    let mins := s.get CRED_AUTH_CFG_LOCK_T_MIN
    let t := t.map fun r =>
      if r.id = id then
        if lock then { r with fails := [], last := now, until_ := some (now + lpOfS (60 * mins)) }
        else { r with fails := fails, last := now }
      else r
    let s := s.modCred fun c => { c with locks := t }
    if lock then (s.bump CRED_LOCKOUTS).lockEvent 0 (id.take 4) (60 * mins) else s

/-- A failure counted globally (R270). -/
def State.countGlobal (s : State) : State :=
  let now := s.time.lp
  let s := s.bump CRED_FAILS
  let fails := s.cred.fails.filter (fun x => now ≤ x + lpOfS 600) ++ [now]
  if 20 ≤ fails.length && !s.globalLocked then
    let s := s.modCred fun c => { c with fails := [], lockedUntil := some (now + lpOfS 900) }
    ((s.bump CRED_LOCKOUTS).raise FID_CRED_GLOBAL_LOCK).lockEventAll 1 900
  else s.modCred fun c => { c with fails := fails }

/-- What an outcome counts (R268): `found` says that the KEY_ID was found. -/
def State.countOutcome (s : State) (st : Nat) (id : List Byte) (found : Bool) : State :=
  let s := if st = AUTH_FAIL || (st = RELAY_SUSPECT && found) then s.countCred id else s
  if [AUTH_FAIL, RELAY_SUSPECT, NOT_FOUND, REVOKED, EXPIRED].contains st then s.countGlobal else s

/-- A successful exchange clears the credential's failure count (R269). -/
def State.clearFails (s : State) (id : List Byte) : State :=
  s.modCred fun c => { c with locks := c.locks.map fun r => if r.id = id then { r with fails := [] } else r }

/-- The lock of a credential that ends first. -/
def nextUnlock : List LockRow → Option Nat
  | [] => none
  | r :: l =>
    match r.until_, nextUnlock l with
    | some a, some b => some (min a b)
    | some a, none => some a
    | none, b => b

/-- CRED_LOCK_EXPIRY (R269, R271): the lock that ends first ends. -/
def credLockExpiry (s : State) : State :=
  match nextUnlock s.cred.locks with
  | none => s
  | some t =>
    (s.advanceLp t).modCred fun c =>
      { c with locks := c.locks.map fun r => if r.until_ = some t then { r with until_ := none } else r }

/-- GLOBAL_LOCK_EXPIRY (R270, R271). -/
def globalLockExpiry (s : State) : State :=
  match s.cred.lockedUntil with
  | none => s
  | some t => (s.advanceLp t).modCred fun c => { c with lockedUntil := none }

/-- Milliseconds until low-power count `t`. -/
def State.msUntil (s : State) (t : Nat) : Nat := 1000 * (t - s.time.lp) / 32768

/-- AUTH_LOCKOUT_STATUS (R288). -/
def authLockoutStatus (m : Master) (p : List Byte) (s : State) : State :=
  hostCmd 0x67 m p [(p.length == 0 || p.length == 12, BAD_LENGTH)]
    (fun s =>
      if s.sys.role ≠ 0 then s.ends BAD_STATE
      else
        let row := if p.isEmpty then none else s.lockRow p
        let now := s.time.lp
        let locked := match row with | some r => r.until_.isSome | none => false
        let fl := bit01 s.globalLocked + 2 * bit01 locked + 4 * bit01 row.isSome
        let cnt := match row with | some r => (r.fails.filter fun x => now ≤ x + lpOfS 60).length | none => 0
        let gcnt := (s.cred.fails.filter fun x => now ≤ x + lpOfS 600).length
        let crem := match row with | some r => (match r.until_ with | some t => s.msUntil t | none => 0) | none => 0
        let grem := match s.cred.lockedUntil with | some t => s.msUntil t | none => 0
        (s, OK, [byte fl, byte gcnt, byte s.lockedCount, byte cnt] ++ le 4 grem ++ le 4 crem ++ [0, 0, 0, 0])) s

/-- AUTH_LOCKOUT_CLEAR (R270, R271, R289). -/
def authLockoutClear (m : Master) (p : List Byte) (s : State) : State :=
  let scope := u8 p 0
  hostCmd 0x68 m p
    [(4 ≤ p.length, BAD_LENGTH), paramOk (scope < 3), lenIs p (if scope = 1 then 16 else 4), paramOk (zeroAt p 1 3)]
    (fun s =>
      if s.sys.role ≠ 0 then s.ends BAD_STATE
      else if scope = 1 then
        let id := p.drop 4
        if (s.lockRow id).isNone then s.ends NOT_FOUND
        else ((s.modCred fun c => { c with locks := c.locks.filter (·.id != id) }).lockEvent 2 (id.take 4) 0).ok
      else
        let s := s.modCred fun c =>
          { c with fails := [], lockedUntil := none, locks := if scope = 2 then [] else c.locks }
        (s.lockEventAll 2 0).ok) s

/-! ### Changing credentials (R272 to R275, R281 to R285) -/

/-- CRED_CHANGED (R278). -/
def State.credChanged (s : State) (op idx issuer epoch : Nat) : State :=
  s.event EV_CRED_CHANGED ([byte op, byte OK] ++ le 3 idx ++ [byte issuer] ++ le 2 epoch)

/-- A counter is programmed into the lowest erased CTR_SLOT of blob `i` (R248, R261), if there is one. The program is not
timed (notes/assumptions/19.md). -/
def State.slotStore (s : State) (h : PopHdr) (i ctr : Nat) : Option State :=
  (blobErased (s.blob h i)).map fun k => s.programFlash (h.blobAddr i + 64 + 4 * k) (le 4 ctr)

/-- The indices from the cursor on, then those before it. -/
def rotated (l : List Nat) (c : Nat) : List Nat := l.filter (c ≤ ·) ++ l.filter (· < c)

/-- The eviction of R273 over the candidates `l`: the entry freed. -/
def State.evictFrom (s : State) : List Nat → Option (Nat × State)
  | [] => none
  | i :: l =>
    let r := s.dirNew i
    if rowState r ≠ stPromoted ∨ bitAt (u8 r 14) 6 = 1 ∨ s.cred.rows.any (·.idx == i) then s.evictFrom l
    else
      match (if s.popInUse then s.popHdr else none) with
      | none => s.evictFrom l
      | some h =>
        let f := s.popFind h (r.take 12)
        match (if f.hit then s.slotStore h f.index (u32 r 20) else none) with
        | some s => some (i, s.modCred fun c => { c with cursor := (i + 1) % dirSize })
        | none => s.evictFrom l

/-- An entry for a new row: a free one, or one evicted (R273, R281). -/
def State.takeRow (s : State) : Option (Nat × State) :=
  match s.dirFree with
  | some i => some (i, s)
  | none => s.evictFrom (rotated s.dirListed s.cred.cursor)


/-- A change takes the credential with this KEY_ID out of use (R272). -/
def State.noteGone (s : State) (id : List Byte) : State :=
  s.modCred fun c => { c with held := c.held.map fun h => if h.1 = id then (h.1, true) else h }

/-- An exchange on this KEY_ID begins or ends (R272). -/
def State.holdKey (s : State) (id : List Byte) (begins : Bool) : State :=
  s.modCred fun c => { c with held := if begins then c.held ++ [(id, false)] else c.held.eraseP (·.1 == id) }

/-- A change that ends an exchange on this credential has taken effect since its lookup (R272). -/
def State.credGone (s : State) (f : LookRes) : Bool :=
  rowEpoch f.row < s.epochOf (rowIssuer f.row) || s.cred.held.any fun h => h.1 == f.row.take 12 && h.2

/-- The counter of a blob is stored in its lowest erased CTR_SLOT; where that cannot be, CRED_CTR_SPILL is reported (R261, R277). The blob is
that of the lookup, or the one its KEY_ID leads to now where the lookup hit a PROMOTED row. -/
def State.blobStore (s : State) (f : LookRes) (ctr : Nat) : State :=
  let stored := match s.popHdr with
    | none => none
    | some h =>
      if f.source = 2 then s.slotStore h f.index ctr
      else let b := s.popFind h (f.row.take 12); if b.hit then s.slotStore h b.index ctr else none
  stored.getD (s.raise FID_CRED_CTR_SPILL)

/-- The counter of a key that an exchange accepted becomes the stored counter (R261, R272, R273): in its directory row, else in its
blob, which is promoted where PROMOTE is set, a row is to be had and nothing has taken the credential out of use since its lookup. A row
removed since, which was none of a blob, has no counter any more. -/
def State.storeCounter (s : State) (f : LookRes) (ctr : Nat) : State :=
  match s.dirFindNew (f.row.take 12) with
  | some i =>
    let r := s.dirNew i
    s.rowWrite { idx := i, row := rowWithCtr r (max (u32 r 20) ctr), kind := 2 }
  | none =>
    if f.source ≠ 2 then if rowState f.row = stPromoted then s.blobStore f ctr else s
    else
      match (if s.flag CRED_CTRL_PROMOTE && s.popHdr.isSome && !s.credGone f then s.takeRow else none) with
      | some (i, s) =>
        let r := rowWithCtr (f.row.take 13 ++ [byte stPromoted, byte (u8 f.row 14 % 64)] ++ f.row.drop 15) ctr
        s.rowWrite { idx := i, row := r, kind := 3 }
      | none => s.blobStore f ctr

/-- CRED commands are refused on a worker and with CRED not ON (R596, R281). -/
def State.credOff (s : State) : Bool := s.sys.role != 0 || !s.unitOn 9

/-- An entry of CRED_ADD or a blob is well formed (R240, R242, R243). -/
def entryOk (r : List Byte) (blob : Bool) : Bool :=
  !idVoid (r.take 12) && u8 r 12 ≤ 5 && (rowState r == stActive || rowState r == stSuspended)
    && u8 r 14 < (if blob then 64 else 128)

/-- CRED_ADD (R281): the reply comes after the row write. -/
def credAdd (m : Master) (p : List Byte) (s : State) : State :=
  let e := p.drop 4
  hostCmdLater 0x60 m p [lenIs p 68, paramOk (u8 p 0 < 2 && zeroAt p 1 3 && entryOk e false)]
    (fun c s =>
      let old := s.dirFindNew (e.take 12)
      if s.credOff || (old.isSome && u8 p 0 = 0) then (s, some (BAD_STATE, []))
      else if (s.unwrapRow e).isNone then
        (if s.issuerKey e then (s.bump AES_UNWRAP_FAILS).raise FID_CRED_UNWRAP else s, some (UNWRAP, []))
      else
        let s := s.bump AES_UNWRAPS
        match old with
        | some i =>
          let r := rowWithCtr e (max (u32 e 20) (u32 (s.dirNew i) 20))
          (s.rowWrite { idx := i, row := r, kind := 0, master := m, ctx := c }, none)
        | none =>
          match s.takeRow with
          | some (i, s) => (s.rowWrite { idx := i, row := e, kind := 0, master := m, ctx := c }, none)
          | none => (s, some (TABLE_FULL, []))) s

/-- CRED_REMOVE (R282): the reply comes after the row write. -/
def credRemove (m : Master) (p : List Byte) (s : State) : State :=
  hostCmdLater 0x61 m p [lenIs p 12]
    (fun c s =>
      if s.credOff then (s, some (BAD_STATE, []))
      else
        match s.dirFindNew p with
        | none => (s, some (NOT_FOUND, []))
        | some i => (s.rowWrite { idx := i, row := List.replicate 64 0, kind := 1, master := m, ctx := c }, none)) s

/-- The population entry of a KEY_ID while the population is in use. -/
def State.popEntry (s : State) (id : List Byte) : Option PopFound :=
  match (if s.popInUse then s.popHdr else none) with
  | some h => let f := s.popFind h id; if f.hit && !idVoid id then some f else none
  | none => none

/-- CRED_QUERY (R283). -/
def credQuery (m : Master) (p : List Byte) (s : State) : State :=
  hostCmd 0x62 m p [lenIs p 12]
    (fun s =>
      if s.credOff then s.ends BAD_STATE
      else
        let image (source idx : Nat) (row : List Byte) (ctr : Nat) (also : Bool) : Effect :=
          let fl := bit01 (rowEpoch row < s.epochOf (rowIssuer row)) + 2 * bit01 (source == 2 && s.mapRevoked idx)
            + 4 * bit01 (s.rowExpired row) + 8 * bit01 (s.credLocked p) + 16 * bit01 also
          (s, OK, [byte source, byte fl, 0, 0] ++ le 4 idx ++ row.take 24 ++ le 4 ctr)
        match s.dirFind p, s.popEntry p with
        | some i, f => image 1 i (s.dirRow i) (u32 (s.dirRow i) 20) f.isSome
        | none, some f => image 2 f.index (f.blob.take 64) (blobCtr f.blob) false
        | none, none => s.ends NOT_FOUND) s

/-- A flash operation of CRED joins the queue of the flash port (R24, R499). -/
def State.flashAsk (s : State) (o : FlashOp) : State :=
  (State.notePeak { s with hif := { s.hif with flash := s.hif.flash ++ [o] } }).flashFollow

/-- The population operation in progress. -/
def State.popStart (s : State) (o : PopOp) (addr : Nat) (data : List Byte) : State :=
  ((s.modCred fun c => { c with pop := some o }).flashAsk { kind := 1, addr := addr, data := data, owner := 1 }).withdraw 9

/-- The header bytes of a rebuild (R246). -/
def mkHeader (log2 salt gen nmax : Nat) : List Byte :=
  let b := padTo 252 ([0x4B, 0x50, 1, byte log2] ++ le 4 salt ++ le 4 gen ++ le 4 nmax)
  b ++ le 4 (crc32 b)

/-- CRED_POP_DONE (R278). -/
def State.popDone (s : State) (op st live : Nat) : State :=
  s.event EV_CRED_POP_DONE ([byte op, byte st] ++ le 4 (u32 s.cred.header 8) ++ le 4 live)

/-- The flash address and the bit of a map revocation (R253). -/
def mapBitAddr (i : Nat) : Nat := bankBase + 0x1000 + i / 8

/-- BUILD_BEGIN, BUILD_DATA and BUILD_COMMIT (R275, R284). -/
def State.popBuild (s : State) (m : Master) (c : Option ReqCtx) (p : List Byte) : State × Option (Nat × List Byte) :=
  match u8 p 0 with
  | 0 =>
    if s.cred.build ≠ 0 || !s.hif.flashOk then (s, some (BAD_STATE, []))
    else
      let h := mkHeader (u8 p 4) (u32 p 8) (u32 p 12) (u32 p 16)
      let s := s.modCred fun c => { c with build := 1, header := h, popFailed := false, mapLoading := false }
      ((s.put CRED_STATUS_MAP_LOADED 0).withdraw 9, some (ACCEPTED, []))
  | 1 =>
    if s.cred.build ≠ 2 then (s, some (BAD_STATE, []))
    else (s.popStart { op := 1, master := m, ctx := c } (bankBase + u32 p 4) (p.drop 8), none)
  | _ =>
    if s.cred.build ≠ 2 then (s, some (BAD_STATE, []))
    else ((s.modCred fun c => { c with build := 3 }).withdraw 9, some (ACCEPTED, []))

/-- The place for a new index entry (R284): TABLE_FULL where the bucket has no empty entry or holds the TAG. -/
def emptyPlace (tag : Nat) (es : List IndexEntry) : Option Nat :=
  if es.any fun e => match e with | .live t _ => t == tag | _ => false then none
  else (List.range 32).find? fun k => es.getD k .deleted == .empty

/-- ADD, DELETE and REVOKE (R274, R284). While building, the population is out of use and DELETE finds no KEY_ID. -/
def State.popChange (s : State) (m : Master) (c : Option ReqCtx) (p : List Byte) : State × Option (Nat × List Byte) :=
  match (if s.cred.build ≠ 0 then none else s.popHdr) with
  | none => (s, some (if u8 p 0 = 4 then NOT_FOUND else BAD_STATE, []))
  | some h =>
    match u8 p 0 with
    | 3 =>
      let i := u32 p 4
      let bl := p.drop 8
      let id := bl.take 12
      let (b, tag) := h.place id
      if h.nmax ≤ i then (s, some (BAD_PARAM, []))
      else if s.blob h i ≠ List.replicate 128 0xFF || (s.popFind h id).hit then (s, some (BAD_STATE, []))
      else
        match emptyPlace tag (s.bucket h b) with
        | none => (s, some (TABLE_FULL, []))
        | some k =>
          let e := (bucketAddr b + 4 * k, 2 ^ 30 + 2 ^ 18 * tag + i)
          (s.popStart { op := 3, master := m, ctx := c, index := i, entry := some e, key := bl.take 24 } (h.blobAddr i) bl,
            none)
    | 4 =>
      let id := p.drop 4
      let f := s.popFind h id
      if !f.hit then (s, some (NOT_FOUND, []))
      else
        (s.popStart { op := 4, master := m, ctx := c, index := f.index, key := f.blob.take 24 }
          (bucketAddr f.bucket + 4 * f.place) (le 4 0), none)
    | _ =>
      let i := u32 p 4
      if h.nmax ≤ i then (s, some (BAD_PARAM, []))
      else
        (s.popStart { op := 5, master := m, ctx := c, index := i, key := (s.blob h i).take 24 } (mapBitAddr i)
          [byte (255 - 2 ^ (i % 8))], none)

/-- The length of a CRED_POP_LOAD form is right (R284). -/
def popLenOk (p : List Byte) : Bool :=
  match u8 p 0 with
  | 0 => p.length == 20
  | 1 => within 9 248 p.length
  | 2 => p.length == 4
  | 3 => p.length == 136
  | 4 => p.length == 16
  | _ => p.length == 8

/-- The parameters of a CRED_POP_LOAD form are permitted (R246, R284). -/
def popParamOk (p : List Byte) : Bool :=
  zeroAt p 1 3 &&
    match u8 p 0 with
    | 0 => within 10 16 (u8 p 4) && zeroAt p 5 3 && within 1 250000 (u32 p 16)
    | 1 => 0x1000 ≤ u32 p 4 && u32 p 4 + (p.length - 8) ≤ bankSize
    | 3 => entryOk (p.drop 8) true && zeroAt p 88 44
    | _ => true

/-- CRED_POP_LOAD (R284). One operation that writes flash runs at a time; another is BUSY. -/
def credPopLoad (m : Master) (p : List Byte) (s : State) : State :=
  hostCmdLater 0x63 m p [(1 ≤ p.length, BAD_LENGTH), paramOk (u8 p 0 < 6), (popLenOk p, BAD_LENGTH), paramOk (popParamOk p)]
    (fun c s =>
      if s.credOff then (s, some (BAD_STATE, []))
      else if s.cred.pop.isSome then (s, some (BUSY, []))
      else if u8 p 0 < 3 then s.popBuild m c p else s.popChange m c p) s

/-- The flash write of a population operation has ended with `st`: OK or TIMEOUT (R274, R284, R500). Where a fence has ended the command
meanwhile, the change that has landed in flash takes its effect all the same, nobody is answered, and the index entry of an ADD is not
programmed any more (notes/assumptions/171.md). -/
def State.popFlashDone (s : State) (st : Nat) : State :=
  match s.cred.pop with
  | none => s
  | some o =>
    let done (s : State) : State := s.modCred fun c => { c with pop := none }
    let reply (s : State) : State :=
      (if o.told then done s else (done s).answer o.master 0x63 o.ctx st []).credBoundary
    if st ≠ OK then reply s
    else
      match o.op, o.entry with
      | 1, _ => reply s
      | 3, some (a, e) =>
        if o.told then reply s
        else (s.modCred fun c => { c with pop := some { o with entry := none } }).flashAsk
          { kind := 1, addr := a, data := le 4 e, owner := 1 }
      | _, _ =>
        let s := s.credChanged 0x63 o.index (rowIssuer o.key) (rowEpoch o.key)
        let s := if o.op = 3 then s else s.noteGone (o.key.take 12)
        if o.op = 5 then
          let a := 0x100F8000 + o.index / 8
          reply (s.setMem8 a (s.mem8 a ||| byte (2 ^ (o.index % 8))))
        else if o.op = 4 then
          match s.dirFindNew (o.key.take 12) with
          | some i =>
            if rowState (s.dirNew i) = stPromoted then
              (done s).rowWrite { idx := i, row := List.replicate 64 0, kind := if o.told then 2 else 4, master := o.master, ctx := o.ctx }
            else reply s
          | none => reply s
        else reply s

/-- DIRECTORY_ROW_WRITTEN (R244, R281, R282): the oldest row write completes, and its owner is answered. -/
def directoryRowWritten (at_ : Nat) (s : State) : State :=
  let s := s.advance at_
  match s.cred.rows with
  | [] => s
  | w :: rest =>
    if !s.awake then s
    else
      let old := s.dirRow w.idx
      let s := (s.modCred fun c => { c with rows := rest }).writeMem (dirAddr w.idx) (padTo 64 w.row)
      let s :=
        if w.kind = 0 then
          let s := if rowState w.row = stActive then s else s.noteGone (w.row.take 12)
          (s.credChanged 0x60 w.idx (rowIssuer w.row) (rowEpoch w.row)).answer w.master 0x60 w.ctx OK (le 2 w.idx)
        else if w.kind = 1 then
          ((s.noteGone (old.take 12)).credChanged 0x61 w.idx (rowIssuer old) (rowEpoch old)).answer w.master 0x61 w.ctx OK (le 2 w.idx)
        else if w.kind = 4 then s.answer w.master 0x63 w.ctx OK []
        else s
      s.credBoundary

/-- Flash bytes from `a` on, `n` of them, erased to 0xFF, whatever they held (R499). -/
def State.eraseFlash (s : State) (a n : Nat) : State :=
  { s with mem := s.mem.filter fun c => !(0x30000000 + a ≤ c.1 && c.1 < 0x30000000 + a + n) }

/-- BUILD_ERASE_DONE (R275, R284). -/
def buildEraseDone (at_ : Nat) (s : State) : State :=
  let s := s.advance at_
  if s.cred.build ≠ 1 || !s.awake then s
  else
    let s := (s.eraseFlash bankBase bankSize).modCred fun c => { c with build := 2 }
    (s.popShow.popDone 0 OK 0).credBoundary

/-- The index entries that flash lists: bucket and value. -/
def State.listedEntries (s : State) (h : PopHdr) : List (Nat × Nat) :=
  let a := 0x30000000 + bucketAddr 0
  let ks := (s.mem.filterMap fun c =>
    if a ≤ c.1 && c.1 < a + 128 * 2 ^ h.log2 then some ((c.1 - a) / 4) else none).eraseReps
  ks.map fun k => (k / 32, u32 (s.readFlash (bucketAddr 0 + 4 * k) 4) 0)

/-- No two live entries of one bucket share a TAG. -/
def tagsDistinct : List (Nat × IndexEntry) → Bool
  | [] => true
  | (b, .live t _) :: l =>
    !(l.any fun x => match x with | (b', .live t' _) => b == b' && t == t' | _ => false) && tagsDistinct l
  | _ :: l => tagsDistinct l

/-- The verification of R275 passes; and the number of live entries. -/
def State.verifyBank (s : State) (h : PopHdr) : Bool × Nat :=
  let es := (s.listedEntries h).map fun x => (x.1, indexEntry h.nmax x.2)
  let blobs := es.filterMap fun x => match x with | (b, .live t i) => some (b, t, s.blob h i) | _ => none
  let ids := blobs.map fun x => x.2.2.take 12
  let ok := es.all (fun x => match x with | (_, .malformed _) => false | _ => true) && tagsDistinct es
    && blobs.all (fun x => blobCrcOk x.2.2 && h.place (x.2.2.take 12) == (x.1, x.2.1)) && ids.eraseDups.length == ids.length
  (ok, blobs.length)

/-- BUILD_COMMIT_DONE (R275): the whole image has been read back; `flash` is false where a read failed (R277). -/
def buildCommitDone (flash : Bool) (at_ : Nat) (s : State) : State :=
  let s := s.advance at_
  match (if s.cred.build = 3 && s.awake then parseHdr s.cred.header else none) with
  | none => s
  | some h =>
    let (ok, live) := s.verifyBank h
    let s := if flash then s else s.raise FID_CRED_FLASH
    let s := s.modCred fun c => { c with build := 0, popFailed := !(ok && flash) }
    let s := if ok && flash then (s.programFlash bankBase s.cred.header).popShow.mapLoadStart else s
    (s.popDone 2 (if ok && flash then OK else INTEGRITY) live).credBoundary

/-! ### Issuer epochs (R252, R285) -/

/-- The next increment of a CRED_REVOKE_EPOCH, or its reply (R285). -/
def State.epochStep (s : State) : State :=
  match s.cred.epoch with
  | none => s
  | some e =>
    let ends (s : State) (st : Nat) : State :=
      let s := s.modCred fun c => { c with epoch := none }
      let s := if st = OK then s.credChanged 0x64 0 e.issuer (s.epochOf e.issuer) else s
      s.answer e.master 0x64 e.ctx st (if st = OK then le 2 (s.epochOf e.issuer) else [])
    if e.target ≤ s.epochOf e.issuer then ends s OK
    else
      match s.cntAsk { n := 48 + e.issuer, src := 3, master := e.master, ctx := none } with
      | (s, some (st, _)) => ends s st
      | (s, none) => s

/-- CRED_REVOKE_EPOCH (R252, R285). -/
def credRevokeEpoch (m : Master) (p : List Byte) (s : State) : State :=
  let j := u8 p 0
  hostCmdLater 0x64 m p [lenIs p 4, paramOk (j < 16 && u8 p 1 = 0)]
    (fun c s =>
      if s.credOff then (s, some (BAD_STATE, []))
      else if u16 p 2 ≤ s.epochOf j then (s, some (BAD_PARAM, []))
      else if s.cred.epoch.isSome then (s, some (BUSY, []))
      else ((s.modCred fun k => { k with epoch := some { issuer := j, target := u16 p 2, master := m, ctx := c } }).epochStep,
        none)) s

/-- An increment asked for by CRED has ended with `st` (R285, R337). -/
def State.epochCounted (s : State) (st : Nat) : State :=
  match s.cred.epoch with
  | none => s
  | some e =>
    if st = OK then s.epochStep
    else (s.modCred fun c => { c with epoch := none }).answer e.master 0x64 e.ctx st []

/-- A fence of CRED (R267, R277): every lookup and command in progress ends with FENCED; a write in progress goes on, and a flash
operation that a lookup suspended resumes (R24). -/
def State.credFence (s : State) : State :=
  let s := if s.flag CRED_LK_RESULT_BUSY then
      s.lookShow { req := { who := 0, id := [], kslot := 16, noUnwrap := false }, status := FENCED } else s
  let s := match s.cred.pop with | some o => if o.told then s else s.answer o.master 0x63 o.ctx FENCED [] | none => s
  let s := match s.cred.epoch with | some e => s.answer e.master 0x64 e.ctx FENCED [] | none => s
  let s := s.cred.rows.foldl (fun s w =>
    if w.kind = 0 then s.answer w.master 0x60 w.ctx FENCED []
    else if w.kind = 1 then s.answer w.master 0x61 w.ctx FENCED []
    else if w.kind = 4 then s.answer w.master 0x63 w.ctx FENCED [] else s) s
  let s := s.modCred fun c => { c with looks := [], found := [], pop := c.pop.map fun o => { o with told := true }, epoch := none
                                       rows := c.rows.map fun w => if w.kind < 2 || w.kind = 4 then { w with kind := 2 } else w }
  s.flashFollow

/-- What CRED loses at a reset (R251, R271): the lock-out state of Lehr stays unless power was lost. -/
def State.credReset (s : State) (power : Bool) : State :=
  s.modCred fun c =>
    if power then {} else { locks := c.locks, fails := c.fails, lockedUntil := c.lockedUntil, cursor := c.cursor }

end Sys2Proof.Machine
end

