-- ==== Sys2Proof/Machine/CalOps.lean ====
section
/-!
DEFINITION. Machine/CalOps.lean: the slots of the calendar, their intervals, conflicts and gap queries (R45, R51, R52).
-/
namespace Sys2Proof.Machine

/-- Slot `n`. -/
def State.calSlot (s : State) (n : Nat) : Option CalSlot := s.cal.getD n none
/-- Slot `n` becomes `v`. -/
def State.setCalSlot (s : State) (n : Nat) (v : Option CalSlot) : State := { s with cal := s.cal.set n v }

/-- A DURATION or PERIOD in units of 0.1 µs as ticks (R59). -/
def tenthTicks (n : Nat) : Nat := 250 * n

/-- RESOURCES bits (R59): RADIO. -/
def resRadio : Nat := 1
/-- LF. -/
def resLf : Nat := 2
/-- HFR. -/
def resHfr : Nat := 4

/-- Two intervals overlap (R51): each includes its start and not its end; one of length 0 is its instant. -/
def overlaps (a d b e : Nat) : Bool :=
  if d = 0 && e = 0 then a == b
  else if d = 0 then b ≤ a && a < b + e
  else if e = 0 then a ≤ b && b < a + d
  else a < b + e && b < a + d

/-- The start instants of the first occurrences of a slot: 64 of a periodic one, from the one that may still be in progress (R51). -/
def CalSlot.occurrences (c : CalSlot) : List Nat :=
  if c.periodic then c.lastAt.toList ++ (List.range 64).map fun k => c.time + k * tenthTicks c.period else [c.time]

/-- Some occurrence of `a` overlaps one of `b`. -/
def slotsOverlap (a b : CalSlot) : Bool :=
  a.occurrences.any fun x => b.occurrences.any fun y => overlaps x (tenthTicks a.duration) y (tenthTicks b.duration)

/-- The first slot among `l` (numbered from `n`) that is EXCLUSIVE on a resource shared with `c` and overlaps it (R51). -/
def conflictIn (c : CalSlot) : List (Option CalSlot) → Nat → Option Nat
  | [], _ => none
  | x :: l, n =>
    match x with
    | some o => if o.exclusive && o.resources &&& c.resources != 0 && slotsOverlap c o then some n else conflictIn c l (n + 1)
    | none => conflictIn c l (n + 1)

/-- The start of an occurrence of `c`, in progress or to come, that overlaps `dur` ticks from `t`. -/
def CalSlot.hits (c : CalSlot) (t dur : Nat) : Option Nat :=
  let d := tenthTicks c.duration
  let p := tenthTicks c.period
  let x := if c.periodic && 0 < p && c.time ≤ t + dur then c.time + (t + dur - c.time) / p * p else c.time
  if overlaps x d t dur then some x
  else if c.periodic && c.time + p ≤ x && overlaps (x - p) d t dur then some (x - p)
  else if c.periodic then c.lastAt.filter fun y => overlaps y d t dur
  else none

/-- The end of some slot holding `res` that overlaps `dur` ticks from `t`; slots numbered in `skip` do not count. -/
def State.gapBlock (s : State) (res : Nat) (skip : List Nat) (t dur : Nat) : Option Nat :=
  (List.range 64).findSome? fun n =>
    match s.calSlot n with
    | some c =>
      if skip.contains n || c.resources &&& res = 0 then none
      else (c.hits t dur).map fun x => max (t + 1) (x + tenthTicks c.duration)
    | none => none

/-- The search of a gap query. -/
def State.gapFrom (s : State) (res : Nat) (skip : List Nat) (dur : Nat) : Nat → Nat → Option Nat
  | 0, _ => none
  | fuel + 1, t =>
    match s.gapBlock res skip t dur with
    | none => some t
    | some e => s.gapFrom res skip dur fuel e

/-- The answer to a gap query (R52): the earliest instant of reference time from `lead` on from which `dur` ticks overlap
no slot holding `res`. There may be none, as where a periodic slot leaves only shorter gaps; the owner then places no slot. The search
ends after 65536 occupied intervals in a row (notes/assumptions/149.md). -/
def State.gap (s : State) (res : Nat) (skip : List Nat) (lead dur : Nat) : Option Nat := s.gapFrom res skip dur 65536 lead

/-- The lowest free general slot (R59). -/
def State.freeSlot (s : State) : Option Nat := (List.range 56).find? fun n => (s.calSlot n).isNone

/-- The occupancy mask of slots `b` to `b` + 31 (TIME_CAL_USED). -/
def State.calUsed (s : State) (b : Nat) : Nat :=
  sumNat ((List.range 32).map fun i => bit01 (s.calSlot (b + i)).isSome * 2 ^ i)

/-- A slot of a hardware owner (R45): slot `n`, target, resources, start and length in ticks of reference time. -/
def ownSlot (n target res time dur : Nat) (exclusive : Bool) : CalSlot :=
  { target := target, action := Config.ownAction n % 256, wake := false, periodic := false, exclusive := exclusive,
    resources := res, prepLead := 0, time := time, duration := dur / 250, period := 0, arg := 0, ownerFrees := true }

/-- An EXCLUSIVE slot holding `res` overlaps `dur` ticks from `t`. -/
def State.exclusiveOver (s : State) (res t dur : Nat) : Bool :=
  s.cal.any fun x => match x with
    | some c => c.exclusive && c.resources &&& res != 0 && (c.hits t dur).isSome
    | none => false

/-- The TIME_CAL_SLOTn image as bytes: the TIME_CAL_ADD layout and 4 reserved bytes (R53, R59). -/
def State.slotImage (s : State) (n : Nat) : List Byte :=
  match s.calSlot n with
  | none => List.replicate 32 0
  | some c =>
    [byte n, byte c.target, byte c.action, byte (bit01 c.wake + 2 * bit01 c.periodic + 4 * bit01 c.exclusive),
      byte c.resources, 0] ++ le 2 c.prepLead ++ le 8 c.time ++ le 4 c.duration ++ le 4 c.period ++ le 4 c.arg ++ [0, 0, 0, 0]

end Sys2Proof.Machine
end

