-- ==== Sys2Proof/Machine/Drbg.lean ====
section
/-!
DEFINITION. Machine/Drbg.lean: the conditioner and CTR_DRBG with AES-256 and the derivation function (R342 to R344), as NIST SP 800-90A
writes it, which R343 names.
-/
namespace Sys2Proof.Machine

/-- The fixed key of the conditioner in ROM (R342). -/
def conditionerKey : List Byte := (List.range 16).map Config.trngKey

/-- One conditioner output (R342): 512 raw bits, with the ADC bits appended. -/
def condition (raw adc : List Byte) : List Byte := cmac conditionerKey (raw ++ adc)

/-- A counter block plus 1, modulo 2^128. -/
def counterNext (v : List Byte) : List Byte := (le 16 (ofLe v.reverse + 1)).reverse

/-- `n` counter blocks after `v`, encrypted; and the last counter value. -/
def counterBlocks (key : List Byte) : Nat → List Byte → List Byte × List Byte
  | 0, v => ([], v)
  | n + 1, v =>
    let v := counterNext v
    let (b, w) := counterBlocks key n v
    (aesEncrypt key v ++ b, w)

/-- CTR_DRBG_Update: the state from 48 bytes of provided data. -/
def drbgUpdate (d : Drbg) (data : List Byte) : Drbg :=
  let t := xorBytes (counterBlocks d.key 3 d.v).1 data
  { key := t.take 32, v := t.drop 32 }

/-- BCC over whole blocks. -/
def drbgBcc (key msg : List Byte) : List Byte := cbcMac key (chunks 16 (msg.length / 16) msg) (List.replicate 16 0)

/-- The output of the derivation function: repeated encryption. -/
def dfBlocks (key : List Byte) : Nat → List Byte → List Byte
  | 0, _ => []
  | n + 1, x => let x := aesEncrypt key x; x ++ dfBlocks key n x

/-- Block_Cipher_df to 48 bytes. -/
def drbgDf (input : List Byte) : List Byte :=
  let s := (le 4 input.length).reverse ++ (le 4 48).reverse ++ input ++ [0x80]
  let s := padTo (16 * ((s.length + 15) / 16)) s
  let k := (List.range 32).map byte
  let t := (List.range 3).flatMap fun i => drbgBcc k ((le 4 i).reverse ++ List.replicate 12 0 ++ s)
  dfBlocks (t.take 32) 3 (t.drop 32)

/-- Instantiate (R343): entropy input of 384 bits, nonce of 128, the serial number as the personalisation string. -/
def drbgStart (entropy nonce serial : List Byte) : Drbg :=
  drbgUpdate { key := List.replicate 32 0, v := List.replicate 16 0 } (drbgDf (entropy ++ nonce ++ serial))

/-- Reseed (R343): entropy input of 384 bits, no additional input. -/
def drbgReseed (d : Drbg) (entropy : List Byte) : Drbg := drbgUpdate d (drbgDf entropy)

/-- Generate (R343, R344): `n` bytes, at most 64, and the state after. -/
def drbgGenerate (d : Drbg) (n : Nat) : List Byte × Drbg :=
  let (b, v) := counterBlocks d.key ((n + 15) / 16) d.v
  (b.take n, drbgUpdate { d with v := v } (List.replicate 48 0))

end Sys2Proof.Machine
end

