-- ==== Sys2Proof/Machine/Rng.lean ====
section
/-!
DEFINITION. Machine/Rng.lean: the random generator as its consumers see it (R340 to R348, R356, R365).
-/
namespace Sys2Proof.Machine

/-- GEN codes of TRNG_STATUS (R357). -/
def genUninst : Nat := 0
/-- Raw bits are gathered. -/
def genGathering : Nat := 1
/-- The known-answer tests run. -/
def genKat : Nat := 2
/-- The generator serves requests. -/
def genReady : Nat := 3
/-- A reseed is due or in progress. -/
def genReseeding : Nat := 4
/-- Halted after three failed start-ups. -/
def genHalted : Nat := 5

/-- TRNG is ON and READY (R345, R346). -/
def State.rngReady (s : State) : Bool :=
  s.unitOn 12 && s.awake && !s.pwr.reduced && (s.get TRNG_STATUS_GEN == genReady || s.get TRNG_STATUS_GEN == genReseeding)

/-- GEN as TRNG_STATUS shows it (R345, R357): once the 2048 raw bits of a start-up are gathered, its tests run. -/
def State.genShown (s : State) : Nat :=
  if s.get TRNG_STATUS_GEN = genGathering && s.rng.gatherAt + 1024 * Config.usTicks ≤ s.time.now then genKat
  else s.get TRNG_STATUS_GEN

/-- The generator is HALTED (R349). -/
def State.rngHalted (s : State) : Bool := s.get TRNG_STATUS_GEN == genHalted

/-- A request joins the queue of R347. -/
def State.rngAsk (s : State) (r : RngReq) : State := { s with rng := { s.rng with reqs := s.rng.reqs ++ [r] } }

/-- A request of an internal consumer for `n` bytes. -/
def State.rngAskFor (s : State) (rank kind tag n : Nat) : State :=
  s.rngAsk { rank := rank, kind := kind, tag := tag, master := .m0, ctx := none, left := n }

/-- The FIFO refill of R357: a request at rank 4 whenever fewer than 8 words stand in it. -/
def State.refillFifo (s : State) : State :=
  if s.rng.fifo.length < 8 && !s.rng.reqs.any (·.kind == 4) then
    s.rngAskFor 4 4 0 (4 * (16 - s.rng.fifo.length))
  else s

/-- The reseed pool is full: 1536 raw bits at 2 Mbit/s have been gathered since it was last emptied (R344), in P0 and P1 (R340: the wake
from P2 moves `poolAt` on). -/
def State.poolReady (s : State) : Bool := s.rngReady && 768 * Config.usTicks + s.rng.poolAt ≤ s.time.now

/-- `n` conditioner outputs of fresh raw bits (R340, R342): the raw bits, and the ADC bits that RF_MIX appends while RADIO is on, are free
values. -/
def State.conditioned (s : State) : Nat → List Byte × State
  | 0 => ([], s)
  | n + 1 =>
    let (raw, s) := s.freshBytes 64
    let (adc, s) := if s.flag TRNG_CTRL_RF_MIX && s.radioOn then s.freshBytes 8 else ([], s)
    let (l, s) := s.conditioned n
    (condition raw adc ++ l, s)

/-- The reseed pool fills up (R344). -/
def State.poolFollow (s : State) : State :=
  if !s.poolReady || s.rng.pool.isSome then s
  else let (b, s) := s.conditioned 3; { s with rng := { s.rng with pool := some b } }

/-- The DRBG is instantiated from 2048 conditioned raw bits (R343, R345): of the 512 bits the first 384 are the entropy input
(notes/assumptions/154.md). -/
def State.drbgInstantiate (s : State) : State :=
  let (b, s) := s.conditioned 4
  { s with rng := { s.rng with drbg := some (drbgStart (b.take 48) (b.drop 48) ((List.range 16).map Config.serial)), pool := none } }

/-- The DRBG reseeds from the pool, which is then empty and fills anew (R344). -/
def State.drbgReseeded (s : State) : State :=
  let (b, s) := match s.rng.pool with | some b => (b, s) | none => s.conditioned 3
  { s with rng := { s.rng with drbg := s.rng.drbg.map (drbgReseed · b), pool := none } }

/-- One generate request of the DRBG (R343, R344). -/
def State.drbgDraw (s : State) (n : Nat) : List Byte × State :=
  let (b, d) := drbgGenerate (s.rng.drbg.getD { key := List.replicate 32 0, v := List.replicate 16 0 }) n
  (b, { s with rng := { s.rng with drbg := some d } })

/-- The lowest rank among the requests. -/
def topRank (l : List RngReq) : Nat := l.foldl (fun k r => min k r.rank) 5

/-- The request served next (R347): lowest rank, then oldest; at rank 5, M1 and M2 in turn, `last` being the master served last. -/
def nextReq (last : Option Master) (l : List RngReq) : Option RngReq :=
  let top := l.filter (·.rank == topRank l)
  match (if topRank l = 5 then top.find? (some ·.master != last) else none) with
  | some r => some r
  | none => top.head?

/-- The queue without the first request of a consumer and tag. -/
def dropReq (l : List RngReq) (r : RngReq) : List RngReq := l.erase r

/-- A request is in progress, or about to be served: the generator serves requests and one is there (R351). A request that merely stalls
while TRNG is not READY is none. -/
def State.rngServing (s : State) : Bool := s.rngReady && !s.rng.reqs.isEmpty

/-- The generator starts from uninstantiated with this cause (R345, R353); oscillators that were `stopped` take 100 µs to start. -/
def State.rngStart (s : State) (cause : Nat) (stopped : Bool) : State :=
  let g := s.time.now + Config.usTicks * (if stopped then 100 else 0)
  let s := { s with rng := { s.rng with startAt := s.time.now, gatherAt := g, cause := cause, fifo := [], drbg := none, pool := none } }
  (s.put TRNG_STATUS_GEN genGathering).put TRNG_REQS 0

/-- RNG_READ (R346, R348, R365): the request waits in the queue until it is served. -/
def rngRead (m : Master) (p : List Byte) (s : State) : State :=
  let n := u16 p 0
  hostCmdLater 0x85 m p [lenIs p 2, paramOk (within 1 256 n)]
    (fun c s =>
      if s.unit 12 == .off || s.unit 12 == .disabling || s.pwr.reduced then (s, some (BAD_STATE, []))
      else if s.rngHalted then (s, some (RNG_HEALTH, []))
      else
        (s.rngAsk { rank := if m == .m0 then 4 else 5, kind := 5, tag := 0, master := m, ctx := c, left := n }, none)) s

/-- A read of TRNG_FIFO that reaches the block (R356): the next word, or 0 with UNDERRUN. -/
def State.fifoRead (s : State) : Nat × State :=
  match s.rng.fifo with
  | [] => (0, s.put TRNG_FIFO_STAT_UNDERRUN 1)
  | w :: l => (w, State.refillFifo { s with rng := { s.rng with fifo := l } })

/-- A read of TRNG_FIFO by master `m` (R356). -/
def trngFifoRead (m : Master) (s : State) : State := s.onRead m TRNG_FIFO.addr s.fifoRead.1 (·.fifoRead.2)

end Sys2Proof.Machine
end

