-- ==== Sys2Proof/Machine/Lf.lean ====
section
/-!
DEFINITION. Machine/Lf.lean: the LF channels, patterns, sends, diagnostics and calibration (R72 to R90, R99 to R117). The
poll sequencer is in Machine/Poll.lean.
-/
namespace Sys2Proof.Machine

/-- The state of channel `n` (R80). -/
def State.lfChan (s : State) (n : Nat) : UnitState := s.lf.chans.getD n .off
/-- Channel `n` is in state `u`. -/
def State.setLfChan (s : State) (n : Nat) (u : UnitState) : State := { s with lf := { s.lf with chans := s.lf.chans.set n u } }

/-- A latched LF fault with DEGRADE makes the channel its record names unavailable (R553). -/
def State.lfForcedOut (s : State) (n : Nat) : Bool :=
  s.flt.srcs.any fun r => (r.mode == some 3 && r.inst == n) || (r.injMode == some 3 && r.injInst == n)

/-- Channel `n` is unavailable (R103). -/
def State.lfOut (s : State) (n : Nat) : Bool := s.lf.unavail.getD n 0 != 0 || s.lfForcedOut n

/-- LF_STATUS.CH_UNAVAIL. -/
def State.lfOutMask (s : State) : Nat := sumNat ((List.range 12).map fun n => bit01 (s.lfOut n) * 2 ^ n)

/-- Channel `n` can be driven: ON and not unavailable (R83). -/
def State.lfDrivable (s : State) (n : Nat) : Bool := s.lfChan n == .on && !s.lfOut n

/-- Pattern entries are available: there are some, and every channel they list can be driven (R83). -/
def State.patAvailable (s : State) (p : List LfEntry) : Bool := !p.isEmpty && p.all fun e => s.lfDrivable e.ch

/-- Pattern `i` is defined, a change that waits included (R81, R82). -/
def State.patDefined (s : State) (i : Nat) : Bool :=
  match s.lf.patPend.reverse.find? (·.1 == i) with
  | some (_, p) => !p.isEmpty
  | none => !(s.lfPat i).isEmpty

/-- The telegram pattern: TEL_PAT, or TEL_PAT_ALT with ALT_EN (R83). -/
def State.telPat (s : State) : Option (List LfEntry) :=
  let p := s.lfPat (s.get LF_TEL_PAT_TEL_PAT)
  let q := s.lfPat (s.get LF_TEL_PAT_TEL_PAT_ALT)
  if s.patAvailable p then some p
  else if s.flag LF_TEL_PAT_ALT_EN && s.patAvailable q then some q else none

/-! ### What is on the air (R73, R78, R84 to R88, R91) -/

/-- The bits of a byte, most significant first (R84). -/
def byteBits (b : Nat) : List Bool := (List.range 8).map fun i => bitAt b (7 - i) == 1

/-- The CTRL byte of a telegram (R86). -/
def telegramCtrl (typ npat : Nat) : Byte := byte (typ * 2 ^ 5 + npat)

/-- The bytes of a wake telegram in the order sent (R84 to R86): WAKE_ID low byte first, CTRL, NB, and the CRC over these 19
bytes, its high byte first. -/
def telegramBytes (wakeId typ npat : Nat) (nb : List Byte) : List Byte :=
  let b := le 2 wakeId ++ [telegramCtrl typ npat] ++ padTo 16 nb
  b ++ (le 2 (crc16 b)).reverse

/-- The bits of a wake telegram in the order sent. -/
def telegramBits (wakeId typ npat : Nat) (nb : List Byte) : List Bool :=
  (telegramBytes wakeId typ npat nb).flatMap fun b => byteBits b.toNat

/-- The four bits of POLL_CODE, most significant first (R91). -/
def pollBits (code : Nat) : List Bool := (byteBits code).drop 4

/-- The carrier is on in half `h` (0 or 1) of a bit (R84): a 0 has it on in the first, a 1 in the second. -/
def halfOn (bit : Bool) (h : Nat) : Bool := if h = 0 then !bit else bit

/-- The pattern that transmission `t` drives in carrier cycle `c`; none where the carrier is off (R84, R85, R87). -/
def LfTx.playing (t : LfTx) (c : Nat) : List LfEntry :=
  if t.cut.getD t.len ≤ c then []
  else if t.gap ≤ c then (if (c - t.gap) % 125 < 100 then t.slots.getD ((c - t.gap) / 125) [] else [])
  else if c < t.pre then t.tel
  else
    match t.bits[(c - t.pre) / 32]? with
    | some b => if halfOn b ((c - t.pre) % 32 / 16) then t.tel else []
    | none => []

/-- Transmission `t` drives channel `n` in cycle `c`. -/
def LfTx.drives (t : LfTx) (n c : Nat) : Bool := (t.playing c).any (·.ch == n)

/-- The cycle at which the last carrier of a transmission that runs to its end goes off (R78). -/
def LfTx.lastOff (t : LfTx) : Nat := if t.slots.isEmpty then t.body else t.gap + 125 * (t.slots.length - 1) + 100

/-- What the bridge of a channel does in a carrier cycle (R76, R78): it is off, or drives `num`/`den` of the pattern's amplitude,
with the drive setting held or regulated, or quenches the coil. -/
inductive LfDrive
  | off
  | drive (num den : Nat) (held : Bool)
  | quench
  deriving DecidableEq, Repr

/-- What the bridge of channel `n` does in cycle `c` of transmission `t` (R76, R78): the amplitude rises linearly over RAMP_CYC
cycles from the first, falls over as many from the last carrier-off, and every other carrier-off is quenched for 4 cycles; through
the bits of a telegram the setting reached in the preburst is held. -/
def LfTx.bridge (t : LfTx) (n c : Nat) : LfDrive :=
  let r := t.ramps.getD n 0
  let held := t.pre ≤ c && c < t.body
  if t.drives n c then (if c < r then .drive c r held else .drive 1 1 held)
  else if t.cut.isNone && t.lastOff ≤ c && c < t.lastOff + r && 0 < c && t.drives n (t.lastOff - 1) then
    .drive (t.lastOff + r - c) r held
  else if (List.range 4).any fun k => k < c && t.drives n (c - 1 - k) then .quench
  else .off

/-- The phase of channel `n` against the oscillator in cycle `c` of transmission `t`, in 1/256 cycle (R73): its phase in the
pattern played plus PHASE_TRIM. -/
def LfTx.phaseOf (t : LfTx) (n c : Nat) : Nat :=
  match (t.playing c).find? (·.ch == n) with
  | some e => (e.phase + t.trims.getD n 0) % 256
  | none => 0

/-- The regulation limits of R76 apply to channel `n` in cycle `c`: in a slot from its cycle 24, in a preburst or burst from cycle
RAMP_CYC + 16. -/
def LfTx.limitsApply (t : LfTx) (n c : Nat) : Bool :=
  t.drives n c && (if t.gap ≤ c then 24 ≤ (c - t.gap) % 125 else t.ramps.getD n 0 + 16 ≤ c)

/-- The part of a diagnostic that plays `d` ticks from the start of `l`, with the ticks of it that have passed. -/
def partAt : List DiagPart → Nat → Option (DiagPart × Nat)
  | [], _ => none
  | p :: l, d => if d < p.ticks then some (p, d) else partAt l (d - p.ticks)

/-- The parts of a diagnostic that are not finished `d` ticks from the start of `l`. -/
def partsLeft : List DiagPart → Nat → List DiagPart
  | [], _ => []
  | p :: l, d => if p.ticks ≤ d then partsLeft l (d - p.ticks) else p :: l

/-- The test current of channel `n` in mA (R102). -/
def testCurrent (n : Nat) : Nat := if n < 4 then 50 else 20

/-- Ticks of `n` carrier cycles at `f` Hz. -/
def cycTicks (n f : Nat) : Nat := Config.sTicks * n / max 1 f

/-- The carrier cycle count at which transmission `t` ends. -/
def LfTx.stop (t : LfTx) : Nat := t.cut.getD t.len

/-- The instant at which transmission `t` ends. -/
def LfTx.stopAt (t : LfTx) : Nat := t.start + cycTicks t.stop t.freq

/-- A part of a diagnostic drives its channel `d` ticks after it began (R102): the last 20 carrier cycles of STATIC, before which the
pad comparators see the bridge off, and all of a SWEEP point (DESIGN CHOICE, notes/assumptions/138.md). -/
def DiagPart.drives (p : DiagPart) (d : Nat) : Bool :=
  p.test == 1 || (p.test == 0 && p.ticks ≤ d + cycTicks 20 p.freq)

/-- What a diagnostic drives `d` ticks after its transmission began: a channel, its current in mA and its carrier (R102). -/
def LfTx.diagDrive (t : LfTx) (d : Nat) : Option (Nat × Nat × Nat) :=
  match partAt t.parts d with
  | some (p, k) => if p.drives k && t.start + d < t.stopAt then some (p.ch, testCurrent p.ch, p.freq) else none
  | none => none

/-- No LF transmission is in progress: the quiescent boundary of LF (R101). A poll burst ends of itself (R91). -/
def State.lfQuiet (s : State) : Bool :=
  match s.lf.tx with
  | some t => t.kind == 2 && t.stopAt ≤ s.time.now
  | none => true

/-- Pattern and register changes that waited take effect (R82, R112). -/
def State.lfBoundary (s : State) : State :=
  if !s.lfQuiet then s
  else
    let pats := s.lf.patPend.foldl (fun l (i, p) => l.set i p) s.lf.pats
    State.applyStaged { s with lf := { s.lf with pats := pats, patPend := [] } } 4

/-- Carrier cycles of transmission `t` begun at instant `at_`. -/
def LfTx.cyclesAt (t : LfTx) (at_ : Nat) : Nat := ((at_ - t.start) * t.freq + Config.sTicks - 1) / Config.sTicks

/-- The cycle at which slot `k` starts (R87, R114). -/
def LfTx.slotStart (t : LfTx) (k : Nat) : Nat := t.gap + 125 * k

/-- The transmission that the bridges play now: the one in progress, or the last, whose carrier falls or is quenched. -/
def State.lfPlayed (s : State) : Option LfTx := match s.lf.tx with | some t => some t | none => s.lf.last

/-- What the bridge of channel `n` does now (R75, R78, R79, R102, R106): a channel that is unavailable is off but for a test of it, and
so are all in a fence and in the safe state. -/
def State.lfBridge (s : State) (n : Nat) : LfDrive :=
  if s.fenced 4 || s.safeState then .off
  else
    match s.lfPlayed with
    | some t =>
      let d := s.time.now - t.start
      if t.kind = 3 then (match t.diagDrive d with | some (c, _) => if c = n then .drive 1 1 false else .off | none => .off)
      else if s.lfOut n then .off
      else t.bridge n (d * t.freq / Config.sTicks)
    | none => .off

/-- The current in mA and the carrier in Hz that channel `n` is set to now, where it is driven (R76, R82, R102). -/
def State.lfSetpoint (s : State) (n : Nat) : Option (Nat × Nat) :=
  match s.lfPlayed with
  | some t =>
    let d := s.time.now - t.start
    if t.kind = 3 then (t.diagDrive d).bind fun (c, ma, f) => if c = n then some (ma, f) else none
    else ((t.playing (d * t.freq / Config.sTicks)).find? (·.ch == n)).map fun e => (e.amp, t.freq)
  | none => none

/-- The phase at which the bridge of channel `n` is driven in cycle `c` of transmission `t`: that of R73, with the loop's correction
while CAL_VALID is 1 (R76). -/
def State.lfDrivePhase (s : State) (t : LfTx) (n c : Nat) : Nat :=
  let k : Int := if s.flag (LF_CH_STATUS_CAL_VALID n) then s.lf.corr.getD n 0 else 0
  (((t.phaseOf n c : Int) + k) % 256).toNat

/-- The next bit or slot boundary at or after cycle `c` (R99): any cycle in the preburst and the end gap. A diagnostic has neither
bits nor slots: it is cut at steps of 125 cycles (DESIGN CHOICE, notes/assumptions/138.md). -/
def LfTx.boundary (t : LfTx) (c : Nat) : Nat :=
  if t.gap ≤ c then t.gap + (c - t.gap + 124) / 125 * 125
  else if t.body < c || c ≤ t.pre then c
  else t.pre + (c - t.pre + 31) / 32 * 32

/-- A core-side transmission in progress is cut at its next boundary (R97, R99). -/
def State.lfCut (s : State) : State :=
  match s.lf.tx with
  | none => s
  | some t =>
    let b := t.boundary (t.cyclesAt s.time.now)
    if (t.kind = 0 || t.kind = 3) && t.cut.isNone && b < t.len then
      { s with lf := { s.lf with tx := some { t with cut := some b } } }
    else s

/-- RAMP_CYC of the twelve channels (R110). -/
def State.lfRamps (s : State) : List Nat := (List.range 12).map fun n => s.get (LF_CH_CTRL_RAMP_CYC n)
/-- PHASE_TRIM of the twelve channels (R110). -/
def State.lfTrims (s : State) : List Nat := (List.range 12).map fun n => s.get (LF_CH_CTRL_PHASE_TRIM n)

/-- The transmission of a send or handle telegram as it starts now (R83 to R87, R114). -/
def State.lfMakeTx (s : State) (kind : Nat) (sd : LfSend) (tel : List LfEntry) : LfTx :=
  let slots := sd.pats.map fun i => if s.patAvailable (s.lfPat i) then s.lfPat i else []
  let mask := sumNat ((List.range slots.length).map fun k => bit01 (slots.getD k []).isEmpty * 2 ^ k)
  let carrier := sd.typ = 2
  let pre := if carrier then 0 else s.get LF_TEL_CFG_PREBURST_CYC
  let body := if carrier then 0 else 5376 + pre
  let gap := if carrier then 0 else body + 224
  { kind := kind, send := sd, tel := tel, slots := slots, mask := mask, start := s.time.now
    freq := s.get LF_CARRIER_FREQ_HZ, pre := pre, body := body, gap := gap, len := gap + 125 * slots.length
    charge := maxCharge (tel :: slots)
    bits := if carrier then [] else telegramBits (s.get LF_TEL_CFG_WAKE_ID) sd.typ slots.length (sd.nb.getD [])
    ramps := s.lfRamps, trims := s.lfTrims }

/-- LF_TX_DONE (R107), stamped on the 3.2 ns grid of LF events (R35): a LOCATE send carries its NB, or zeros where it was refused. -/
def State.lfDone (s : State) (sd : LfSend) (outcome status played mask us : Nat) : State :=
  let f : LfFin := { id := sd.id, outcome := outcome, status := status, at_ := s.time.now, nb := sd.nb.getD [], mask := mask }
  let s := { s with lf := { s.lf with fin := s.lf.fin ++ [f] } }
  let r := mkRecord s.pinStamp EV_LF_TX_DONE 4 s.quality (s.cfgEpoch 4)
    (le 2 sd.id ++ [byte sd.typ, byte outcome, byte status, byte played] ++ le 2 mask ++ le 4 us)
  if sd.typ = 1 then
    let nb := if outcome = 2 then [] else sd.nb.getD []
    s.pushEvtItem (r ++ padTo 16 nb ++ List.replicate 16 0) 4
  else s.pushEvtItem r 4

/-- A pending send is refused (R107). -/
def State.lfRefuse (s : State) (sd : LfSend) (status : Nat) : State :=
  let s := { s with lf := { s.lf with sends := s.lf.sends.filter (·.id != sd.id) }
                    rng := { s.rng with reqs := s.rng.reqs.filter fun r => !(r.kind == 2 && r.tag == sd.id) } }
  s.lfDone sd 2 status 0 0 0

/-- Every pending send is refused with this status (R106, R114). -/
def State.lfRefuseAll (s : State) (status : Nat) : State := s.lf.sends.foldl (fun s sd => s.lfRefuse sd status) s

/-- The transmitter is taken or promised to a handle telegram (R97). -/
def State.lfBusy (s : State) : Bool := !s.lfQuiet || s.lf.htel.isSome

/-- A pending send may start but for the transmitter: its NB is drawn (R90). -/
def LfSend.ready (sd : LfSend) : Bool := sd.typ == 2 || sd.nb.isSome

/-- The instant, in reference time, at which a pending send wants to start; now without AT_TIME. -/
def State.sendTime (s : State) (sd : LfSend) : Nat := max s.time.ref (sd.atTime.getD 0)

/-- The pending send whose turn comes first (R99): the earliest instant, then the order of the list. -/
def State.nextSend (s : State) : List LfSend → Option LfSend
  | [] => none
  | sd :: l =>
    match s.nextSend l with
    | none => if sd.ready || sd.atTime.isSome then some sd else none
    | some b =>
      if (sd.ready || sd.atTime.isSome) && s.sendTime sd ≤ s.sendTime b then some sd else some b

/-! ### Current calibration: its places (R104) -/

/-- The first free slot of the RF calibration engine (R45). -/
def State.freeCalSlot (s : State) : Option Nat := [60, 61, 62, 63].find? fun n => (s.calSlot n).isNone

/-- The due calibration of channel `n` stands in slot `k` of the calendar, or in none. -/
def State.setCalDue (s : State) (n : Nat) (k : Option Nat) : State :=
  { s with lf := { s.lf with calDue := s.lf.calDue.map fun d => if d.1 = n then (n, k) else d } }

/-- The reference time at which the transmission in progress ends; now where there is none. -/
def State.lfFreeAt (s : State) : Nat :=
  s.refNow + (match s.lf.tx with | some t => t.stopAt - s.time.now | none => 0)

/-- A due calibration without a place gets one in an LF gap while the engine has a slot free and there is such a gap (R45, R52, R104,
R189). -/
def State.lfCalPlaceOne (s : State) (d : Nat × Option Nat) : State :=
  match d.2, s.freeCalSlot, s.gap resLf [] s.lfFreeAt 1000000 with
  | none, some k, some t => (s.setCalSlot k (some (ownSlot k 4 resLf t 1000000 false))).setCalDue d.1 (some k)
  | _, _, _ => s

/-- Every due calibration is placed, in the order in which they fell due, as far as slots are free. -/
def State.lfCalPlace (s : State) : State := s.lf.calDue.foldl State.lfCalPlaceOne s

/-- The current calibration of channel `n` falls due and is placed in an LF gap (R52, R104, R189). -/
def State.lfCalMark (s : State) (n : Nat) : State :=
  if s.lf.calDue.any (·.1 == n) then s
  else State.lfCalPlace { s with lf := { s.lf with calDue := s.lf.calDue ++ [(n, none)] } }

/-- The calibration of channel `n` is no longer due, and its slot is free. -/
def State.lfCalUndue (s : State) (n : Nat) : State :=
  let s := match (s.lf.calDue.find? (·.1 == n)).bind (·.2) with | some k => s.setCalSlot k none | none => s
  { s with lf := { s.lf with calDue := s.lf.calDue.filter (·.1 != n) } }

/-- RF_CAL_DONE of a step that an RF_CALIBRATE made due (R194, R199); `result` is 0 done, 1 failed, 2 stopped. -/
def State.lfCalReport (s : State) (n result : Nat) (temp : Int) : State :=
  let id := s.lf.calIds.getD n 0xFFFF
  if id = 0xFFFF then s
  else
    let s := s.event EV_RF_CAL_DONE (le 2 id ++ [4, byte n, byte result, byte (ofSigned 8 temp)] ++ le 4 400)
    if result = 2 then s else { s with lf := { s.lf with calIds := s.lf.calIds.set n 0xFFFF } }

/-- The calibration of channel `n` is stopped: it stays due and is placed anew (R104, R107). -/
def State.lfCalStopped (s : State) (n : Nat) (temp : Int) : State :=
  (((s.lfCalUndue n).lfCalMark n).lfCalReport n 2 temp).event EV_LF_CAL_DONE [byte n, 2, byte (ofSigned 8 temp)]

/-- The channel whose current calibration runs now: its slot has come and its 400 µs have not passed (R102, R104). -/
def State.lfCalRunning (s : State) : Option Nat :=
  if !s.awake || !s.unitOn 4 then none
  else
    (s.lf.calDue.find? fun d =>
      match d.2.bind s.calSlot with
      | some c => c.time ≤ s.refNow && s.refNow < 1000000 + c.time
      | none => false).map (·.1)

/-- A transmission that uses the channels `used` stops a calibration that runs on one of them (R104). -/
def State.lfCalPreempt (s : State) (used : Nat → Bool) : State :=
  match s.lfCalRunning with
  | some n => if used n then s.lfCalStopped n s.sys.temp else s
  | none => s

/-- The entry that drives channel `n` in slot `k` of `t`, or in its telegram or burst where `k` is 16. -/
def LfTx.entry (t : LfTx) (k n : Nat) : Option LfEntry :=
  (if k = 16 then t.tel else t.slots.getD k []).find? (·.ch == n)

/-- Transmission `t` drives channel `n` at some time. -/
def LfTx.uses (t : LfTx) (n : Nat) : Bool := (t.tel :: t.slots).any (fun p => p.any (·.ch == n)) || t.parts.any (·.ch == n)

/-- Transmission `t` begins now. -/
def State.lfBegin (s : State) (t : LfTx) : State := State.lfCalPreempt { s with lf := { s.lf with tx := some t } } t.uses

/-- A send starts, or is refused at its start (R74, R83, R99, R100, R532). -/
def State.lfStart (s : State) (sd : LfSend) : State :=
  let tel := if sd.typ = 2 then some [] else s.telPat
  if !s.lfRangeOk (s.get LF_CARRIER_FREQ_HZ) then s.lfRefuse sd REG_CHANNEL
  else
    match tel with
    | none => s.lfRefuse sd BAD_STATE
    | some tel =>
      let t := s.lfMakeTx 0 sd tel
      if !s.fits t.charge then s.refuseBudget.lfRefuse sd POWER_BUDGET
      else
        let s := State.lfBegin { s with lf := { s.lf with sends := s.lf.sends.filter (·.id != sd.id) } } t
        (s.notePeak).withdraw 4

/-- The distance of two phases in 1/256 cycle. -/
def phaseDist (a b : Nat) : Nat := min ((a + 256 - b % 256) % 256) ((b + 256 - a % 256) % 256)

/-- The distance of two currents in mA. -/
def ampDist (a b : Nat) : Nat := max a b - min a b

/-- A measurement lies within the limits of R76 for setpoint `e` at phase `ph`; `cal` is CAL_VALID. -/
def regulationOk (cal : Bool) (e : LfEntry) (ph ma phase : Nat) : Bool :=
  let d := ampDist ma e.amp
  let p := phaseDist phase ph
  if cal then (d * 100 ≤ e.amp || d ≤ 2) && p ≤ 2 else d * 20 ≤ e.amp && p ≤ 8

/-- The phase `a` lies this far ahead of `b`, in 1/256 cycle, as a signed number. -/
def phaseAhead (a b : Nat) : Int :=
  let d := (a + 256 - b % 256) % 256
  if d < 128 then d else d - 256

/-- The loop of channel `n` corrects a phase offset it measures, its correction within ±64/256 cycle (R76). The correction stands until
the next measurement (DESIGN CHOICE, notes/assumptions/167.md). -/
def State.lfCorrect (s : State) (n : Nat) (ahead : Int) : State :=
  if !s.flag (LF_CH_STATUS_CAL_VALID n) then s
  else { s with lf := { s.lf with corr := s.lf.corr.modify n fun k => max (-64) (min 64 (k - ahead)) } }

/-- The channel registers and faults of a measurement (R76, R77, R110): amplitude and phase are judged at cycle 24 of a slot, and
the drive's maximum in every part. -/
def State.lfMeasured (s : State) (t : LfTx) (m : LfMeas) : State :=
  match t.entry m.slot m.ch with
  | none => s
  | some e =>
    let ph := e.phase + t.trims.getD m.ch 0
    let s := (s.put (LF_CH_MEAS_I_MEAS_MA m.ch) m.ma.toNat).put (LF_CH_MEAS_PHASE_MEAS m.ch) m.phase.toNat
    let s := s.putB (LF_CH_STATUS_REG_OK m.ch)
      (regulationOk (s.flag (LF_CH_STATUS_CAL_VALID m.ch)) e ph m.ma.toNat m.phase.toNat)
    let s := s.lfCorrect m.ch (phaseAhead m.phase.toNat ph)
    let slot : Bool := m.slot.val < 16
    let s := if m.atMax || (slot && e.amp < ampDist m.ma24.toNat e.amp * 20) then
        (s.put (LF_CH_STATUS_REG_FAIL m.ch) 1).raise FID_LF_REG_FAIL m.ch else s
    if slot && 8 < phaseDist m.phase24.toNat ph then
      (s.put (LF_CH_STATUS_PHASE_FAIL m.ch) 1).raise FID_LF_PHASE_FAIL m.ch else s

/-- The channels that were to be switched off at the end of the transmission reach OFF, or start again (R80). -/
def State.lfChansOff (s : State) : State :=
  { s with lf := { s.lf with chans := s.lf.chans.map fun u =>
    match u with | .disabling => .off | .restartPending => .starting | u => u } }

/-- Slots of `t` whose start was reached by its end, and SLOT_MASK over them with a slot cut before cycle 95 flagged (R107). -/
def LfTx.played (t : LfTx) : Nat × Nat :=
  let n := (List.range t.slots.length).filter fun k => t.slotStart k < t.stop
  let cut := (List.range t.slots.length).filter fun k =>
    t.slotStart k < t.stop && t.stop < t.slotStart k + 95 && bitAt t.mask k == 0
  (n.length, t.mask % 2 ^ n.length + sumNat (cut.map fun k => 2 ^ k))

/-- The transmission in progress ends now with this status. -/
def State.lfFinish (s : State) (status : Nat) (meas : List LfMeas) : State :=
  match s.lf.tx with
  | none => s
  | some t =>
    let s := meas.foldl (fun s m => s.lfMeasured t m) s
    let htel := if t.kind = 1 then none else s.lf.htel
    let s := { s with lf := { s.lf with tx := none, last := some t, htel := htel } }
    let s := if t.kind = 1 then s.setCalSlot 59 none else s
    let (n, mask) := t.played
    let outcome := if t.cut.isSome then 1 else 0
    let us := (cycTicks t.stop t.freq) / Config.usTicks
    let s := if t.kind < 2 then s.lfDone t.send outcome status n mask us else s
    s.lfChansOff.lfBoundary

/-- A poll burst that has reached its end leaves the transmitter (R91). -/
def State.burstOver (s : State) (meas : List LfMeas) : State :=
  match s.lf.tx with
  | some t => if t.kind = 2 && t.stopAt ≤ s.time.now then s.lfFinish OK meas else s
  | none => s

/-- LF_SEND_START (R99): the next pending send reaches its turn. -/
def lfSendStart (s : State) : State :=
  if s.unit 4 != .on || s.noRadio then s
  else
    match s.nextSend s.lf.sends with
    | none => s
    | some sd =>
      let s := (s.advanceRef (s.sendTime sd)).burstOver []
      let late : Bool := match sd.atTime with | some t => decide (100 * Config.usTicks + t < s.time.ref) | none => false
      if late then s.lfRefuse sd TX_LATE
      else if !sd.ready then s
      else if s.lfBusy then
        (if sd.preempt && s.lf.htel.isNone then s.lfCut else s)
      else s.lfStart sd

/-- What transmission `t` has left of a diagnostic it carried (R99): a diagnostic that was cut goes on when the transmitter is free
again, with the part that was cut played anew (DESIGN CHOICE, notes/assumptions/138.md). -/
def State.lfDiagCut (s : State) (t : LfTx) : State :=
  { s with lf := { s.lf with diag := s.lf.diag.map fun d => { d with left := some (partsLeft t.parts (s.time.now - t.start)) } } }

/-- LF_TX_DONE (R107): the transmission reaches its end or the boundary it was cut at; `meas` is what was measured. The status of
one that pre-emption ended early is OK (DESIGN CHOICE, notes/assumptions/139.md). -/
def lfTxDone (meas : List LfMeas) (s : State) : State :=
  match s.lf.tx with
  | none => s
  | some t =>
    if t.kind < 2 then (s.advance t.stopAt).lfFinish OK meas
    else if t.kind = 3 && t.cut.isSome then ((s.advance t.stopAt).lfDiagCut t).lfFinish OK meas
    else s

/-- The transmission ends at once without quench, with this status (R106). -/
def State.lfAbort (s : State) (status : Nat) : State :=
  match s.lf.tx with
  | none => s
  | some t =>
    let t := { t with cut := some (min t.stop (t.cyclesAt s.time.now)) }
    let s := State.lfFinish { s with lf := { s.lf with tx := some t } } status []
    { s with lf := { s.lf with last := none } }

/-- The channel becomes unavailable for cause `c` (R103), and the rest of the transmission goes on without it: its slots
still to come or under way are flagged (R79). -/
def State.lfLose (s : State) (n c : Nat) : State :=
  let old := s.lf.unavail.getD n 0
  let new := if old &&& c = 0 then old + c else old
  let tx := s.lf.tx.map fun t : LfTx =>
    let now := t.cyclesAt s.time.now
    let hit := (List.range t.slots.length).filter fun k =>
      now < t.slotStart k + 100 && (t.slots.getD k []).any (·.ch == n) && bitAt t.mask k == 0
    { t with mask := t.mask + sumNat (hit.map fun k => 2 ^ k) }
  { s with lf := { s.lf with unavail := s.lf.unavail.set n new, tx := tx } }

/-- LF_OVERCURRENT (R79). -/
def lfOvercurrent (n : Fin 12) (at_ : Nat) (s : State) : State :=
  let s := s.advance at_
  ((s.put (LF_CH_STATUS_OVERCURRENT n) 1).lfLose n 1).raise FID_LF_OVERCURRENT n

/-- LF_VLF (R103, R105): VLF leaves its operating range. -/
def lfVlf (at_ : Nat) (s : State) : State :=
  ((List.range 8).foldl (fun s k => s.lfLose (4 + k) 2) (s.advance at_)).raise FID_LF_VLF

/-- VLF has been back inside its range for 1 ms at `at_` (R103). -/
def vlfReturn (at_ : Nat) (s : State) : State :=
  let s := s.advance at_
  { s with lf := { s.lf with unavail := s.lf.unavail.map fun c => if c &&& 2 = 0 then c else c - 2 } }

/-- The status bit of a channel that a fault of R105 sets, if it has one, and whether it makes the channel unavailable. -/
def lfFaultBit (fid n : Nat) : Option Field × Bool :=
  if fid = FID_LF_OPEN then (some (LF_CH_STATUS_OPEN n), true)
  else if fid = FID_LF_SHORT_GND then (some (LF_CH_STATUS_SHORT_GND n), true)
  else if fid = FID_LF_SHORT_SUP then (some (LF_CH_STATUS_SHORT_SUP n), true)
  else if fid = FID_LF_OVERCURRENT then (some (LF_CH_STATUS_OVERCURRENT n), true)
  else if fid = FID_LF_THERMAL then (some (LF_CH_STATUS_THERMAL n), true)
  else if fid = FID_LF_REG_FAIL then (some (LF_CH_STATUS_REG_FAIL n), false)
  else if fid = FID_LF_PHASE_FAIL then (some (LF_CH_STATUS_PHASE_FAIL n), false)
  else if fid = FID_LF_PREDRV then (none, true)
  else (none, false)

/-- What a fault of the LF block does to the channel it names, beside its report (R77, R79, R103, R104). -/
def State.lfFaultEffect (s : State) (fid n : Nat) : State :=
  if fid = FID_LF_VLF then (List.range 8).foldl (fun s k => s.lfLose (4 + k) 2) s
  else if 12 ≤ n then s
  else
    let (f, out) := lfFaultBit fid n
    let s := match f with | some f => s.put f 1 | none => s
    let s := if fid = FID_LF_CAL_FAIL then s.put (LF_CH_STATUS_CAL_VALID n) 0 else s
    if out then s.lfLose n 1 else s

/-! ### Commands -/

/-- A transmission in progress uses channel `n`: it drives it, or is a diagnostic that tests it. -/
def State.lfUses (s : State) (n : Nat) : Bool :=
  !s.lfQuiet && (match s.lf.tx with | some t => t.uses n | none => false)

/-- Channel self-checks run from the block's STARTING on (R80). -/
def State.lfUp (s : State) : Bool := s.unit 4 == .starting || s.unit 4 == .on || s.unit 4 == .disabling

/-- Channels whose EN is set run their self-checks in parallel with the block's (R80). -/
def State.lfChansStart (s : State) : State :=
  (List.range 12).foldl (fun s n =>
    if s.flag (LF_CH_CTRL_EN n) && (s.lfChan n == .off || s.lfChan n == .on) then s.setLfChan n .starting else s) s

/-- EN of channel `n` (R80): enable, or disable at the end of a transmission that uses it. While the block is OFF the enable waits
for the block's own. -/
def State.lfEnable (s : State) (n : Nat) (en : Bool) : State :=
  let s := s.putB (LF_CH_CTRL_EN n) en
  let used := s.lfUses n
  match s.lfChan n, en with
  | .off, true => if s.lfUp then s.setLfChan n .starting else s
  | .disabling, true => s.setLfChan n .restartPending
  | .restartPending, false => s.setLfChan n .disabling
  | .on, false => s.setLfChan n (if used then .disabling else .off)
  | _, _ => s

/-- The channel range of ILIM_MA (R110). -/
def ilimOk (n v : Nat) : Bool := if n < 4 then within 100 5500 v else within 20 900 v

/-- LF_CONFIG_CH, channel form (R112). A byte 0 of 12 to 254 is taken as a CHANNEL outside its range, so that a length other than 8
comes before it (DEDUCED, notes/assumptions/140.md). -/
def lfConfigChan (m : Master) (p : List Byte) (s : State) : State :=
  let n := u8 p 0
  let fl := u8 p 1
  let ramp := u8 p 2
  let trim := u8 p 3
  let ilim := u16 p 4
  let sense := u16 p 6
  hostCmd 0x30 m p
    [lenIs p 8, paramOk (n < 12 && fl < 2 && ramp < 16 && ilimOk n ilim),
     paramOk (if n < 4 then within 10 1000 sense else sense = 0)]
    (fun s =>
      if s.flag LF_CTRL_LOCK && (ilim ≠ s.get (LF_CH_ILIM_ILIM_MA n) || sense ≠ s.get (LF_CH_ILIM_SENSE_MOHM n)) then
        s.ends ACCESS_DENIED
      else
        let q := s.lfQuiet
        let s := (s.stage q 4 (LF_CH_CTRL_RAMP_CYC n) ramp).stage q 4 (LF_CH_CTRL_PHASE_TRIM n) trim
        let s := (s.stage q 4 (LF_CH_ILIM_ILIM_MA n) ilim).stage q 4 (LF_CH_ILIM_SENSE_MOHM n) sense
        let s := s.lfEnable n (fl = 1)
        (s, OK, [byte (s.lfChan n).code])) s

/-- EN of the LF block (R80, R114): clearing it refuses every pending send. -/
def State.lfBlockEnable (s : State) (en : Bool) : State :=
  let s := s.putB LF_CTRL_EN en
  match s.unit 4, en with
  | .off, true => (s.setUnit 4 .starting).lfChansStart
  | .disabling, true => s.setUnit 4 .restartPending
  | .restartPending, false => s.setUnit 4 .disabling
  | .on, false => (s.lfRefuseAll BAD_STATE).setUnit 4 (if s.lfQuiet then .off else .disabling)
  | _, _ => s

/-- LF_CONFIG_CH, global form (R112). -/
def lfConfigAll (m : Master) (p : List Byte) (s : State) : State :=
  let fl := u8 p 1
  let freq := u32 p 4
  let wid := u16 p 8
  let pre := u16 p 10
  let tel := u8 p 12
  let alt := u8 p 13
  hostCmd 0x30 m p
    [lenIs p 16, paramOk (fl < 2 && zeroAt p 2 2 && zeroAt p 14 2), paramOk (within 20000 140000 freq),
     paramOk (within 125 1000 pre), paramOk (tel < 32 && (alt < 32 || alt = 0xFF))]
    (fun s =>
      if s.flag LF_CTRL_LOCK && (freq ≠ s.get LF_CARRIER_FREQ_HZ || wid ≠ s.get LF_TEL_CFG_WAKE_ID
          || pre ≠ s.get LF_TEL_CFG_PREBURST_CYC) then s.ends ACCESS_DENIED
      else
        let q := s.lfQuiet
        let s := (s.stage q 4 LF_CARRIER_FREQ_HZ freq).stage q 4 LF_TEL_CFG_WAKE_ID wid
        let s := (s.stage q 4 LF_TEL_CFG_PREBURST_CYC pre).stage q 4 LF_TEL_PAT_TEL_PAT tel
        let s := s.stage q 4 LF_TEL_PAT_ALT_EN (bit01 (alt != 0xFF))
        let s := if alt = 0xFF then s else s.stage q 4 LF_TEL_PAT_TEL_PAT_ALT alt
        let s := s.lfBlockEnable (fl = 1)
        (s, OK, [byte (s.unit 4).code])) s

/-- LF_CONFIG_CH (R112): 0xFF in byte 0 selects the global form. -/
def lfConfigCh (m : Master) (p : List Byte) (s : State) : State :=
  if u8 p 0 = 0xFF then lfConfigAll m p s else lfConfigChan m p s

/-- Entry `k` of an LF_PATTERN_DEF request. -/
def patEntry (p : List Byte) (k : Nat) : LfEntry := { ch := u8 p (4 + 4 * k), phase := u8 p (5 + 4 * k), amp := u16 p (6 + 4 * k) }

/-- An entry is permitted: its channel and its amplitude (R72, R113). -/
def State.entryOk (s : State) (e : LfEntry) : Bool :=
  e.ch < 12 && (if e.ch < 4 then within 50 5000 e.amp else within 10 800 e.amp) && e.amp ≤ s.get (LF_CH_ILIM_ILIM_MA e.ch)

/-- A pattern that R82 keeps from deletion: POLL_PAT, TEL_PAT, TEL_PAT_ALT in use, or in the handle list. -/
def State.patNamed (s : State) (i : Nat) : Bool :=
  s.get LF_POLL_CFG_POLL_PAT = i || s.get LF_TEL_PAT_TEL_PAT = i
    || (s.flag LF_TEL_PAT_ALT_EN && s.get LF_TEL_PAT_TEL_PAT_ALT = i) || s.handlePats.contains i

/-- No value occurs twice. -/
def noDup : List Nat → Bool
  | [] => true
  | a :: l => !l.contains a && noDup l

/-- A send joins the pending list and its NB is asked for (R90, R99, R114): the state, the status and the SEND_ID. -/
def State.lfQueue (s : State) (sd : LfSend) : State × Nat × Nat :=
  let id := s.lf.sendId
  if s.unit 4 != .on || s.pwr.reduced || s.safeState || s.padHeld 1 || s.padHeld 2 || !sd.pats.all s.patDefined then (s, BAD_STATE, id)
  else if 4 ≤ s.lf.sends.length then (s, BUSY, id)
  else
    let sd := { sd with id := id }
    let (fst, rest) := s.lf.sends.span (·.preempt)
    let l := if sd.preempt then fst ++ sd :: rest else s.lf.sends ++ [sd]
    let s := { s with lf := { s.lf with sends := l, sendId := (id + 1) % 0xFFFF } }
    let s := s.withdraw 4
    let s := if sd.typ = 2 then s else if s.rngHalted then s.lfRefuse sd RNG_HEALTH else s.rngAskFor 2 2 id 16
    (s, ACCEPTED, id)

/-- A worker sends LF_SEND for its manager alone (R599): a request `c` of its own ports is refused, and TYPE ACCESS and LOCATE
always (R596). -/
def State.workerBars (s : State) (typ : Nat) (c : Option ReqCtx) : Bool :=
  s.sys.role != 0 && (typ < 2 || (match c with | some c => c.port != 3 | none => false))

/-- LF_SEND (R90, R99, R114, R596). -/
def lfSend (m : Master) (p : List Byte) (s : State) : State :=
  let typ := u8 p 0
  let fl := u8 p 1
  let n := u8 p 2
  let at_ := bitAt fl 1 = 1
  let t := u64 p 4
  let pats := (List.range n).map fun k => u8 p (12 + k)
  hostCmdLater 0x32 m p
    [lenIs p 28, paramOk (typ < 3 && fl < 4 && n ≤ 16 && (typ != 2 || 1 ≤ n) && zeroAt p 3 1),
     paramOk (at_ || t = 0), paramOk (pats.all (· < 32) && zeroAt p (12 + n) (16 - n)),
     paramOk (!at_ || 100 * Config.usTicks + s.time.ref ≤ t)]
    (fun c s =>
      if typ = 0 && (m == .m1 || m == .m2) then (s, some (ACCESS_DENIED, []))
      else if s.workerBars typ c then (s, some (BAD_STATE, []))
      else
        match s.lfQueue { id := 0, typ := typ, pats := pats, preempt := bitAt fl 0 = 1
                          atTime := if at_ then some t else none, nb := none } with
        | (s, st, id) => (s, some (st, if st = ACCEPTED then le 2 id else []))) s

/-- The NB of a send has been drawn (R90). -/
def State.lfGotNb (s : State) (id : Nat) (nb : List Byte) : State :=
  { s with lf := { s.lf with sends := s.lf.sends.map fun sd => if sd.id = id then { sd with nb := some nb } else sd } }

/-- The loaded handle nonce and the words it was written in are erased (R30, R90, R111). -/
def State.nonceErase (s : State) : State :=
  let s := (List.range 4).foldl (fun s k => s.put (LF_HNONCE k) 0) { s with lf := { s.lf with nonce := none } }
  s.put LF_POLL_STATUS_NONCE_LOADED 0

/-- A health failure (R90): a preloaded nonce is erased and every pending send that needs an NB is refused. -/
def State.lfRngHealth (s : State) : State :=
  let s := s.nonceErase
  (s.lf.sends.filter (·.typ != 2)).foldl (fun s sd => s.lfRefuse sd RNG_HEALTH) s

/-- The sweep points of a diagnostic at carrier `f` that lie in the region's LF range (R74, R102). -/
def State.sweepPoints (s : State) (d : LfDiag) (f : Nat) : List Nat :=
  ((List.range (2 * d.span / max 1 d.step + 1)).map fun k => f + d.step * k - d.span).filter s.lfRangeOk

/-- The channels of a diagnostic that are tested: those selected that are ON (R117). -/
def State.diagChans (s : State) (d : LfDiag) : List Nat :=
  (List.range 12).filter fun n => bitAt d.chmask n == 1 && s.lfChan n == .on

/-- The parts of the diagnostic `d` on channel `n` (R102): STATIC of 0.2 ms, 1 ms a SWEEP point, CURRENT of 0.4 ms, in this order. -/
def State.diagOne (s : State) (d : LfDiag) (n : Nat) : List DiagPart :=
  let f := s.get LF_CARRIER_FREQ_HZ
  (if bitAt d.tests 0 = 1 then [{ ch := n, test := 0, freq := f, ticks := 200 * Config.usTicks }] else [])
    ++ (if bitAt d.tests 1 = 1 then (s.sweepPoints d f).map fun x => { ch := n, test := 1, freq := x, ticks := Config.msTicks } else [])
    ++ (if bitAt d.tests 2 = 1 then [{ ch := n, test := 2, freq := f, ticks := 400 * Config.usTicks }] else [])

/-- The parts of a diagnostic, one channel at a time (R102). -/
def State.diagParts (s : State) (d : LfDiag) : List DiagPart := (s.diagChans d).flatMap (s.diagOne d)

/-- The ticks that parts take. -/
def partTicks (l : List DiagPart) : Nat := sumNat (l.map (·.ticks))

/-- The mask of a list of channels. -/
def chanMask (l : List Nat) : Nat := sumNat ((List.range 12).map fun n => bit01 (l.contains n) * 2 ^ n)

/-- The charge of a diagnostic in quarter mW (R531): one channel at a time, at 50 mA or 20 mA (R102). -/
def State.diagCharge (s : State) (d : LfDiag) : Nat := if (s.diagChans d).any (· < 4) then 60 else 20

/-- The transmission of a diagnostic as it begins or goes on with the parts `l`. -/
def State.diagTx (s : State) (d : LfDiag) (l : List DiagPart) : LfTx :=
  let f := s.get LF_CARRIER_FREQ_HZ
  { kind := 3, send := { id := 0, typ := 2, pats := [], preempt := false, atTime := none, nb := none }, tel := [], slots := []
    mask := 0, start := s.time.now, freq := f, pre := 0, body := 0, gap := 0, len := (partTicks l * f + Config.sTicks - 1) / Config.sTicks
    charge := s.diagCharge d, parts := l }

/-- LF_DIAG (R2, R74, R100, R102, R117): a STATIC test drives at FREQ_HZ, and a SWEEP needs a range to sweep in. It begins when the
transmitter is free and nothing waits before it (DESIGN CHOICE, notes/assumptions/138.md). -/
def lfDiag (m : Master) (p : List Byte) (s : State) : State :=
  let mask := u16 p 0
  let tests := u8 p 2
  let span := u16 p 4
  let step := u16 p 6
  hostCmd 0x36 m p
    [lenIs p 8, paramOk (mask < 4096), paramOk (within 1 7 tests && zeroAt p 3 1),
     paramOk ((span = 0 || within 1000 20000 span) && (step = 0 || within 100 5000 step))]
    (fun s =>
      if s.lf.diag.isSome then s.ends BUSY
      else if s.padHeld 1 || s.padHeld 2 || s.safeState || s.pwr.reduced || s.unit 4 != .on then s.ends BAD_STATE
      else if (bitAt tests 0 = 1 && !s.lfRangeOk (s.get LF_CARRIER_FREQ_HZ)) || (bitAt tests 1 = 1 && !s.sys.region.ok) then
        s.ends REG_CHANNEL
      else
        let id := s.lf.diagId
        let d : LfDiag := { id := id, chmask := mask, tests := tests, span := if span = 0 then 10000 else span
                            step := if step = 0 then 500 else step }
        if !s.fits (s.diagCharge d) then s.refuseBudget.ends POWER_BUDGET
        else
          let s := { s with lf := { s.lf with diag := some d, diagId := (id + 1) % 0x10000 } }
          (s.withdraw 4, ACCEPTED, le 2 id)) s

/-! ### Current calibration: its ends (R104) -/

/-- The current calibration of channel `n` ends, completed or failed, at die temperature `temp` (R104, R107); the next due
calibration takes its place. -/
def State.lfCalEnd (s : State) (n : Nat) (ok : Bool) (temp : Int) : State :=
  let s := s.lfCalUndue n
  let s := { s with lf := { s.lf with calFirst := s.lf.calFirst.filter (· != n) } }
  let s := if ok then
      State.put { s with lf := { s.lf with calTemp := s.lf.calTemp.set n (some temp), calAt := s.lf.calAt.set n s.time.lp
                                           calNew := true } }
        (LF_CH_STATUS_CAL_VALID n) 1
    else (s.put (LF_CH_STATUS_CAL_VALID n) 0).raise FID_LF_CAL_FAIL n
  ((s.lfCalReport n (bit01 (!ok)) temp).event EV_LF_CAL_DONE [byte n, byte (bit01 (!ok)), byte (ofSigned 8 temp)]).lfCalPlace

/-- A channel in use waits for its start-up calibration, before which no poll burst comes (R104). -/
def State.lfCalFirst (s : State) : Bool :=
  s.lf.calDue.any fun d => s.lfChan d.1 == .on && s.lf.calFirst.contains d.1

/-- LF_CAL_DUE (R104): the die temperature now is `temp`; the channel is due after a move of 10 °C or 24 h. -/
def lfCalDue (n : Fin 12) (temp : BitVec 8) (at_ : Nat) (s : State) : State :=
  let s := s.advance at_
  let moved := match s.lf.calTemp.getD n none with | some t => 10 ≤ (temp.toInt - t).natAbs | none => true
  let old := lpOfS 86400 ≤ s.time.lp - s.lf.calAt.getD n 0
  if moved || old then s.lfCalMark n else s

/-- What LF_DIAG found on channel `n`, with the tests of `d`, acts on the channel (R102 to R104); `sweep` where the sweep had a
point. -/
def State.diagApply (s : State) (d : LfDiag) (sweep : Bool) (n : Nat) (f : LfFinding) : State :=
  let bit (i : Nat) := bitAt f.faults.toNat i == 1
  let s := if bitAt d.tests 0 = 0 then s
    else
      let s := if bit 0 then (s.lfFaultEffect FID_LF_OPEN n).raise FID_LF_OPEN n else s
      let s := if bit 1 then (s.lfFaultEffect FID_LF_SHORT_GND n).raise FID_LF_SHORT_GND n else s
      let s := if bit 2 then (s.lfFaultEffect FID_LF_SHORT_SUP n).raise FID_LF_SHORT_SUP n else s
      if f.faults = 0 then { s with lf := { s.lf with unavail := s.lf.unavail.modify n fun c => c &&& 2 } } else s
  let s := if bitAt d.tests 1 = 0 || !sweep then s
    else (s.put (LF_CH_DIAG_RES_HZ n) f.resHz.toNat).put (LF_CH_DIAG_Q_X10 n) (satNat 10 f.q.toNat)
  if bitAt d.tests 2 = 0 then s else s.lfCalEnd n f.calOk s.sys.temp

/-- The result entry of channel `n` (R117). -/
def diagEntry (d : LfDiag) (n : Nat) (off : Bool) (f : LfFinding) : List Byte :=
  let r := if off then 32
    else bitAt d.tests 0 * f.faults.toNat + 16 * bit01 f.regFail + 64 * bit01 (bitAt d.tests 2 == 1 && f.calOk)
  let v (n x : Nat) := le n (if off then 0 else x)
  [byte n, byte r] ++ v 2 f.ma.toNat ++ v 4 f.resHz.toNat ++ v 2 f.q.toNat ++ v 1 f.phase.toNat ++ [0]
    ++ v 4 f.gain.toNat

/-- The result item and LF_DIAG_DONE of a diagnostic (R117): the channels selected with what was found, and those tested. -/
def State.diagReport (s : State) (d : LfDiag) (ents : List Byte) (n tested : Nat) : State :=
  (s.pushEvtItem (le 2 d.id ++ [byte n, 0, 0, 0, 0, 0] ++ ents) 4).event EV_LF_DIAG_DONE (le 2 d.id ++ le 2 tested)

/-- LF_DIAG_DONE (R102, R117): `found` gives the findings of the selected channels in ascending order. -/
def lfDiagDone (found : List LfFinding) (at_ : Nat) (s : State) : State :=
  match s.lf.diag, s.lf.tx with
  | some d, some t =>
    if t.kind ≠ 3 || t.cut.isSome then s
    else
      let s := s.advance (max at_ t.stopAt)
      let sel := (List.range 12).filter fun n => bitAt d.chmask n = 1
      let pairs := sel.zip found
      let ents := pairs.flatMap fun (n, f) => diagEntry d n (bitAt d.tested n == 0) f
      let tested := pairs.filter fun (n, _) => bitAt d.tested n == 1
      let sweep := !(s.sweepPoints d t.freq).isEmpty
      let s := tested.foldl (fun s (n, f) => s.diagApply d sweep n f) s
      let s := { s with lf := { s.lf with diag := none, tx := none } }
      (s.diagReport d ents pairs.length (sumNat (tested.map fun (n, _) => 2 ^ n))).lfChansOff.lfBoundary
  | _, _ => s

/-- The diagnostic accepted, if there is one, ends with no channel tested: its result item and LF_DIAG_DONE say so (R117). -/
def State.lfDiagEnd (s : State) : State :=
  match s.lf.diag with
  | none => s
  | some d =>
    let sel := (List.range 12).filter fun n => bitAt d.chmask n = 1
    let none_ : LfFinding := { faults := 0, regFail := false, ma := 0, resHz := 0, q := 0, phase := 0, gain := 0, calOk := false }
    State.diagReport { s with lf := { s.lf with diag := none } } d (sel.flatMap fun n => diagEntry d n true none_) sel.length 0

/-- A diagnostic that has waited begins, or goes on with the channels still ON, when the transmitter is free (R99, R102). One that the
carrier range or the budget refuses then, or whose block is no longer ON, ends with no channel tested (R74, R100, R532; DESIGN CHOICE,
notes/assumptions/138.md). -/
def State.lfDiagBegin (s : State) : State :=
  match s.lf.diag with
  | none => s
  | some d =>
    if s.lfBusy then s
    else if !s.unitOn 4 then s.lfDiagEnd
    else if !s.lf.sends.isEmpty || s.noRadio then s
    else
      let old := d.left.getD (s.diagParts d)
      let l := old.filter fun p => s.lfChan p.ch == .on
      let mask := if d.left.isNone then chanMask (s.diagChans d)
        else d.tested - chanMask ((old.filter fun p => s.lfChan p.ch != .on).map (·.ch))
      if l.any fun p => !s.lfRangeOk p.freq && p.test != 2 then s.lfDiagEnd
      else if !s.fits (s.diagCharge d) then s.refuseBudget.lfDiagEnd
      else
        State.notePeak (State.lfBegin { s with lf := { s.lf with diag := some { d with left := some l, tested := mask } } } (s.diagTx d l))

/-- LF_CAL_DONE (R104, R107): the due calibration of channel `n` completes (0), fails (1), or is stopped by a transmission
and stays due (2). -/
def State.lfCalDone (s : State) (n : Nat) (outcome : Nat) (temp : Int) : State :=
  match s.lf.calDue.find? (·.1 == n) with
  | none => s
  | some (_, k) =>
    let s := match k.bind s.calSlot with | some c => s.advanceRef (1000000 + c.time) | none => s
    if !s.awake || s.fenced 4 then s
    else if outcome = 2 then s.lfCalStopped n temp
    else if !s.lfQuiet then s
    else s.lfCalEnd n (outcome = 0) temp

end Sys2Proof.Machine
end

