-- ==== Sys2Proof/Machine/Urx.lean ====
section
/-!
DEFINITION. Machine/Urx.lean: windows, channels, frames, jamming and Gather (R119 to R161).
-/
namespace Sys2Proof.Machine

/-- Window `w`. -/
def State.win (s : State) (w : Nat) : UrxWin := s.urx.wins.getD w {}
/-- Window `w` becomes `v`. -/
def State.setWin (s : State) (w : Nat) (v : UrxWin) : State := { s with urx := { s.urx with wins := s.urx.wins.set w v } }
/-- Channel `n`. -/
def State.uch (s : State) (n : Nat) : UrxChan := s.urx.chans.getD n {}
/-- Channel `n` becomes `v`. -/
def State.setUch (s : State) (n : Nat) (v : UrxChan) : State :=
  { s with urx := { s.urx with chans := s.urx.chans.set n v } }

/-- Width in Hz of a width code (R120). -/
def winWidth (c : Nat) : Nat := 2000000 * 2 ^ c
/-- Bandwidth in Hz of a bandwidth code (R121). -/
def chanBw (c : Nat) : Nat := 25000 * 2 ^ c

/-- URX_STATE (R149, R155). -/
def State.winEvent (s : State) (w : Nat) (u : UnitState) (cause : Nat) : State :=
  s.event EV_URX_STATE [byte w, byte u.code, byte cause]

/-- The record of a capture (R155, R161). -/
def State.captureEvent (s : State) (phase status : Nat) : State :=
  let g := s.urx.gather
  s.event EV_URX_CAPTURE_DONE (le 2 g.id ++ [byte phase, byte status] ++ le 4 g.index ++ [byte g.source])

/-- Gather becomes `g`. -/
def State.setGather (s : State) (g : Gather) : State := { s with urx := { s.urx with gather := g } }

/-- A capture is cancelled: Gather is EMPTY (R147, R153, R161). -/
def State.cancelCapture (s : State) : State :=
  if s.urx.gather.st = 0 then s
  else
    let s := s.setGather { s.urx.gather with index := 0 }
    (s.captureEvent 2 OK).setGather { next := s.urx.gather.next }

/-- Window `w` moves to state `u`, with its record (R149). A window that leaves ON ends a capture armed on it (R147). -/
def State.moveWin (s : State) (w : Nat) (u : UnitState) (cause : Nat) : State :=
  let g := s.urx.gather
  let lost := (s.win w).st == .on && g.st = 1 && bitsAt g.source 2 2 = 1 && bitsAt g.source 4 2 = w
  let v := s.win w
  let onAt := if u == .on then s.time.now else v.onAt
  let run := if u == .on then 0 else v.runBlk
  let s := s.setWin w { v with st := u, cause := cause, slot := if u == .off then none else v.slot, onAt := onAt, runBlk := run
                               stop := false, pll := false, skipped := 0, skipTo := 0 }
  let s := s.winEvent w u cause
  if lost then s.cancelCapture else s

/-- A channel of window `w` is in a frame. -/
def State.winInFrame (s : State) (w : Nat) : Bool := (List.range 16).any fun k => (s.uch (16 * w + k)).phase == 2

/-- The changes of configuration that waited for window `w` or a channel take effect (R151). -/
def State.urxBoundary (s : State) (w : Nat) : State :=
  let s := (List.range 16).foldl (fun s k =>
    let n := 16 * w + k
    if (s.uch n).phase == 2 then s else s.applyStaged (1000 + n)) s
  if s.winInFrame w then s else s.applyStaged (2000 + w)

/-- A DISABLING window without a frame in progress reaches OFF, or starts again (R149). -/
def State.winSettle (s : State) (w : Nat) : State :=
  let cause := (s.win w).cause
  if s.winInFrame w then s
  else
    match (s.win w).st with
    | .disabling => s.moveWin w .off cause
    | .restartPending =>
      let slot := (s.win w).slot
      let s := (s.moveWin w .off cause).moveWin w .starting cause
      s.setWin w { s.win w with slot := slot }
    | _ => s

/-- A window is started (R149, R590). -/
def State.startWin (s : State) (w cause : Nat) : State :=
  match (s.win w).st with
  | .off => s.moveWin w .starting cause
  | .disabling => s.moveWin w .restartPending cause
  | .starting => s.setWin w { s.win w with stop := false, cause := cause }
  | _ => s

/-- A window is stopped (R149, R590): its channels accept no new sync. -/
def State.stopWin (s : State) (w cause : Nat) : State :=
  match (s.win w).st with
  | .on =>
    let s := s.moveWin w .disabling cause
    let s := (List.range 16).foldl (fun s k =>
      if (s.uch (16 * w + k)).phase = 1 then s.setUch (16 * w + k) {} else s) s
    s.winSettle w
  | .starting => s.setWin w { s.win w with stop := true, cause := cause }
  | .restartPending => s.moveWin w .disabling cause
  | _ => s

/-- STARTING of window `w` ends (R149, R590). -/
def State.winStarted (s : State) (w : Nat) : State :=
  let v := s.win w
  if v.st != .starting || s.urx.pllLost then s
  else
    let s := s.setWin w { v with stop := false, pll := false }
    if v.stop then (s.moveWin w .disabling v.cause).winSettle w else s.moveWin w .on v.cause

/-- Offset and bandwidth fit a window of this width (R121). -/
def offsetFits (ofs : Int) (bw width : Nat) : Bool := 10 * (2 * ofs.natAbs + bw) ≤ 9 * width

/-- Modulation, rate, deviation and bandwidth obey R122. -/
def demodOk (mod rate dev bw : Nat) : Bool :=
  within 2400 100000 rate &&
    (if mod = 2 then dev = 0 && 2 * rate ≤ bw else rate ≤ 4 * dev && 2 * dev + rate ≤ bw)

/-- The registers of channel `n` hold no reserved or out-of-range value (R156, R158). -/
def State.chanSound (s : State) (n : Nat) : Bool :=
  s.get (URX_CH_CFG_MOD n) < 3 && s.get (URX_CH_CFG_BW n) < 6 && s.get (URX_CH_CFG_LEN_MODE n) < 3
    && s.get (URX_CH_CFG_CRC_MODE n) < 2 && within 8 32 (s.get (URX_CH_FRAME_SYNC_LEN n))
    && within 8 63 (s.get (URX_CH_FRAME_PRE_MIN n)) && within 1 255 (s.get (URX_CH_FRAME_FIX_LEN n))
    && demodOk (s.get (URX_CH_CFG_MOD n)) (s.get (URX_CH_RATE n)) (s.get (URX_CH_DEV n)) (chanBw (s.get (URX_CH_CFG_BW n)))
    && offsetFits (toSigned 24 (s.get (URX_CH_OFS n))) (chanBw (s.get (URX_CH_CFG_BW n)))
        (winWidth (s.get (URX_WIN_CFG_WIDTH (n / 16))))

/-- ADC A (`false`) or B is out of service, by fault or forced (R128, R553). -/
def State.adcOut (s : State) (b : Bool) : Bool :=
  s.urx.adcBad.getD (bit01 b) false
    || s.flt.srcs.any fun r => (r.mode == some 0 || r.injMode == some 0)
        && r.fid == (if b then FID_URX_ADC_B else FID_URX_ADC_A)

/-- DEG_SINGLE_RX is in force (R128). -/
def State.singleRx (s : State) : Bool := s.adcOut false || s.adcOut true

/-- Channel `n` has a port to receive on, with these ADCs out of service (R128). -/
def State.chanHears (s : State) (n : Nat) (noA noB : Bool) : Bool :=
  match s.get (URX_CH_CFG_DIV n) with
  | 2 => !noA
  | 3 => !noB
  | _ => !(noA && noB)

/-- The delay of the external path of the port whose samples time channel `n` (R36, R127): port B where the channel uses B alone. -/
def State.rxDelay (s : State) (n : Nat) : Nat :=
  s.get (if s.get (URX_CH_CFG_DIV n) = 3 || s.adcOut false then TIME_EXT_DLY_B else TIME_EXT_DLY_A) % 2 ^ 16

/-- An ADC that goes out of service serves no frame in progress again (R128). -/
def State.portsOut (s : State) : State :=
  if !s.singleRx then s
  else
    let a := s.adcOut false
    let b := s.adcOut true
    { s with urx := { s.urx with chans := s.urx.chans.map fun c =>
        if c.phase = 2 then { c with noA := c.noA || a, noB := c.noB || b } else c } }

/-- Channel `n` may accept a sync: its window ON, RF PLL locked, enabled with sound registers, a port in service. -/
def State.chanListens (s : State) (n : Nat) : Bool :=
  s.unitOn 5 && (s.win (n / 16)).st == .on && !s.urx.pllLost && s.flag (URX_CH_CFG_EN n) && s.chanSound n
    && s.chanHears n (s.adcOut false) (s.adcOut true)

/-- Reception is blanked by a transmission (R166). -/
def State.blanked (s : State) : Bool := s.utx.blankFrom ≤ s.time.now && s.time.now < s.utx.blankTo

/-- Ticks of `k` bit periods of channel `n` (R122). -/
def State.bitTicks (s : State) (n k : Nat) : Nat := Config.sTicks * k / max 1 (s.get (URX_CH_RATE n))

/-- PREAMBLE_DETECTED (R123): `bits` alternating bits have been detected at `at_`, and `more` follow. -/
def preambleDetected (n : Fin 64) (bits more : Nat) (at_ : Nat) (s : State) : State :=
  let s := s.advance at_
  if !s.chanListens n || s.blanked || (s.uch n).phase ≠ 0 || bits < s.get (URX_CH_FRAME_PRE_MIN n) then s
  else s.setUch n { phase := 1, at_ := s.time.now, preEnd := s.time.now + s.bitTicks n more }

/-- The bit errors between a received word and the low SYNC_LEN bits of the sync word (R123). -/
def syncErrors (len sync w : Nat) : Nat := sumNat ((List.range len).map fun i => bit01 (bitAt sync i != bitAt w i))

/-- Blocks of 64 µs of the jamming monitor of `v` that are complete at `t` (R144). -/
def UrxWin.block (v : UrxWin) (t : Nat) : Nat := (t - v.onAt) / (64 * Config.usTicks)

/-- Blocks skipped so far in the present run, the frame in progress included (R144). -/
def UrxWin.skips (v : UrxWin) (t : Nat) : Nat :=
  match v.frameAt with
  | some f => v.skipped + (v.block t - max v.skipTo (v.block f))
  | none => v.skipped

/-- JAM_HOLD_MS of consecutive counted blocks have passed since the run began (R144). -/
def State.jamHeld (s : State) (w : Nat) : Bool :=
  let v := s.win w
  1000 * s.get URX_JAM_CFG_JAM_HOLD_MS ≤ 64 * (v.block s.time.now - v.runBlk - v.skips s.time.now)

/-- A run of counted blocks of window `w` begins anew (R144). -/
def State.jamRunNew (s : State) (w : Nat) : State :=
  let v := s.win w
  s.setWin w { v with runBlk := v.block s.time.now, skipped := 0, skipTo := v.block s.time.now }

/-- The monitor has been enabled, where it was not: its runs begin now (R144). -/
def State.jamArmed (s : State) (before : Bool) : State :=
  if before || !s.flag URX_JAM_CFG_JAM_EN then s else (List.range 4).foldl (fun (s : State) w => s.jamRunNew w) s

/-- The first channel of window `w` enters a frame: its blocks are skipped from here on (R144). -/
def State.skipFrom (s : State) (w : Nat) : State :=
  let v := s.win w
  if v.frameAt.isSome then s else s.setWin w { v with frameAt := some s.time.now }

/-- No channel of window `w` is in a frame any more: the blocks the frame touched stay skipped (R144). -/
def State.skipEnd (s : State) (w : Nat) : State :=
  let v := s.win w
  match (if s.winInFrame w then none else v.frameAt) with
  | none => s
  | some f =>
    let b := v.block s.time.now + 1
    s.setWin w { v with frameAt := none, skipped := v.skipped + (b - max v.skipTo (v.block f)), skipTo := b }

/-- SYNC_ACCEPTED (R36, R123, R126, R127): now is the frame instant at the ball, whose timestamp refers to the antenna; `hdr` is
the byte that follows the sync word. -/
def State.syncAccepted (s : State) (n : Nat) (word : BitVec 32) (hdr : Byte) : State :=
  let c := s.uch n
  let e := syncErrors (s.get (URX_CH_FRAME_SYNC_LEN n)) (s.get (URX_CH_SYNC n)) word.toNat
  if !s.chanListens n || s.blanked || c.phase ≠ 1 || c.preEnd + s.bitTicks n 64 < s.time.now
      || s.get (URX_CH_FRAME_SYNC_ERR n) < e then s
  else
    let s := s.setUch n { phase := 2, hdr := hdr.toNat, at_ := s.time.now, ref := s.stamp - s.rxDelay n, quality := s.quality
                          errs := e, noA := s.adcOut false, noB := s.adcOut true }
    s.skipFrom (n / 16)

/-- SYNC_SEARCH_TIMEOUT (R123). -/
def syncSearchTimeout (n : Fin 64) (s : State) : State :=
  let c := s.uch n
  if c.phase ≠ 1 then s else (s.advance (c.preEnd + s.bitTicks n 64)).setUch n {}

/-- The frame types and lengths of R137: bytes after the sync word, or `none` for a reserved header. -/
def kapLen (hdr : Nat) : Option Nat :=
  let t := bitsAt hdr 5 3
  let c := bitsAt hdr 0 5
  if t < 2 then (if c ≤ 16 then some (31 + 3 * c) else none)
  else if t = 2 then (if c = 0 then some 7 else none)
  else if t < 6 then (if 1 ≤ c then some (3 + 2 * c) else none)
  else none

/-- The KAP sync word of a vehicle (R136). -/
def kapSync (wakeId : Nat) : Nat := 0x93D10000 + wakeId % 0x10000

/-- A KAP frame on the air, most significant bit of each byte first (R136): preamble, sync word, HDR and payload, CRC. -/
def kapAir (wakeId : Nat) (b : List Byte) : List Byte :=
  List.replicate 3 0xAA ++ (le 4 (kapSync wakeId)).reverse ++ b ++ (le 2 (crc16 b)).reverse

/-- The bytes the channel takes after the sync, and whether they are a format error (R124). -/
def State.frameLen (s : State) (n first : Nat) : Nat × Bool :=
  let crc := s.get (URX_CH_CFG_CRC_MODE n) = 1
  match s.get (URX_CH_CFG_LEN_MODE n) with
  | 0 => (s.get (URX_CH_FRAME_FIX_LEN n), false)
  | 1 => (1 + first, first = 0 || first = 255 || (crc && first < 2))
  | _ => match kapLen first with | some k => (k, false) | none => (1, true)

/-- The frame's CRC, sent high byte first (R125). -/
def frameCrcOk (b : List Byte) : Bool :=
  2 ≤ b.length && crc16 (b.take (b.length - 2)) == 256 * u8 b (b.length - 2) + u8 b (b.length - 1)

/-- A level at a port referred to the antenna (R133). -/
def State.rssiAtAntenna (s : State) (raw : BitVec 16) : Nat :=
  let g := toSigned 8 (s.get (if s.urx.bypass then URX_FEM_GAIN_BYP_GAIN else URX_FEM_GAIN_LNA_GAIN))
  satSigned 16 (raw.toInt - g + s.get URX_FEM_GAIN_PATH_LOSS)

/-- The diversity code of FLAGS [3:2] of the frame in progress, and whether ports A and B were used (R128, R130). -/
def State.diversity (s : State) (n : Nat) (betterB : Bool) : Nat × Bool × Bool :=
  match s.get (URX_CH_CFG_DIV n) with
  | 2 => (3, true, false)
  | 3 => (3, false, true)
  | d =>
    if (s.uch n).noA then (2, false, true)
    else if (s.uch n).noB then (1, true, false)
    else if d = 0 then (0, true, true)
    else if betterB then (2, false, true) else (1, true, false)

/-- The record and bytes of a delivered frame (R130). -/
def State.frameItem (s : State) (n : Nat) (rx : Reception) (b : List Byte) (crcOk : Bool) : List Byte :=
  let c := s.uch n
  let (d, a, b2) := s.diversity n rx.better
  let fl := bit01 crcOk + 2 * bit01 (c.noA || c.noB) + 4 * d + 16 * bit01 (s.win (n / 16)).jam + 32 * bit01 s.urx.bypass
    + 64 * bit01 rx.clip
  let port (used : Bool) (v : BitVec 16) := if used then s.rssiAtAntenna v else 0x8000
  let h := le 8 c.ref ++ le 2 EV_URX_FRAME ++ [5, byte c.quality] ++ le 2 (s.cfgEpoch 5)
    ++ [byte n, byte b.length, byte fl] ++ le 2 (s.rssiAtAntenna rx.rssi) ++ le 2 (port a rx.rssiA)
    ++ le 2 (port b2 rx.rssiB) ++ le 2 rx.fofs.toNat ++ [rx.snr, byte c.errs, 0]
  h ++ le 2 (crc16 h) ++ [0, 0] ++ b

/-- A frame is lost (R132, R153). -/
def State.frameLost (s : State) (n : Nat) (report : Bool) : State :=
  let s := (s.bump (URX_CH_DROPS n)).bump URX_DROP_TOTAL
  if report then s.raise FID_URX_DROP n else s

/-- Some channel is in a frame. -/
def State.anyFrame (s : State) : Bool := s.urx.chans.any (·.phase == 2)

/-- A change of bypass that waited for the end of the frames takes effect (R129). -/
def State.bypassSettle (s : State) : State :=
  match (if s.anyFrame then none else s.urx.bypassWant) with
  | some b => { s with urx := { s.urx with bypass := b, bypassWant := none } }
  | none => s

/-- An ADC result that waited for the end of the frames is in force (R188). -/
def State.adcSettle (s : State) : State :=
  match (if s.anyFrame then none else s.utx.adcHeld) with
  | some i => { s with utx := { s.utx with items := s.utx.items.set 2 i, adcHeld := none } }
  | none => s

/-- Channel `n` leaves its frame: waiting configuration, bypass and a stop of its window take effect (R129, R149, R151). -/
def State.frameGone (s : State) (n : Nat) : State :=
  ((((s.setUch n {}).skipEnd (n / 16)).winSettle (n / 16)).urxBoundary (n / 16)).bypassSettle.adcSettle

/-- The instant the frame of channel `n` ends (R124). -/
def State.frameEndAt (s : State) (n : Nat) : Nat := (s.uch n).at_ + s.bitTicks n (8 * (s.frameLen n (s.uch n).hdr).1)

/-- A lower channel has a frame that ends in the same timing-clock cycle and is still to be written (R131). -/
def State.frameBefore (s : State) (n : Nat) : Bool :=
  (List.range n).any fun k => (s.uch k).phase = 2 && s.frameEndAt k / 8 = s.frameEndAt n / 8

/-- The frame of channel `n` ends (R124, R125, R128, R130 to R132); one whose only ports went out of service during it delivers
nothing, and frames of one timing-clock cycle are taken in ascending order. The state, and the frame bytes where they were delivered with
a right CRC; a failed CRC shows in the third part. -/
def State.frameEnd (s : State) (n : Nat) (rx : Reception) : State × Option (List Byte) × Bool :=
  let c := s.uch n
  let (len, bad) := s.frameLen n c.hdr
  if c.phase ≠ 2 || rx.bytes.length < len || u8 rx.bytes 0 ≠ c.hdr || s.frameBefore n then (s, none, false)
  else if !s.chanHears n c.noA c.noB then ((s.advance (s.frameEndAt n)).frameGone n, none, false)
  else
    let s := s.advance (s.frameEndAt n)
    let b := (rx.bytes.take len).take 255
    let ok := !bad && (s.get (URX_CH_CFG_CRC_MODE n) = 0 || frameCrcOk b)
    let s := if ok then s else s.bump (URX_CH_CRCERR n)
    if !ok && !s.flag (URX_CH_CFG_DELIVER_BAD n) then (s.frameGone n, none, true)
    else
      match s.pushItem (s.get (URX_CH_CFG_QUEUE n)) (s.frameItem n rx b ok) 5 with
      | some s => ((s.linkSent.bump (URX_CH_FRAMES n)).frameGone n, if ok then some b else none, !ok)
      | none => ((s.frameLost n true).frameGone n, none, !ok)

/-! ### Jamming (R144, R145), bypass (R129), ADC faults (R128) -/

/-- A trigger of kind `k` with argument `a` comes for an armed capture (R147, R161). -/
def State.gatherTrigger (s : State) (k a : Nat) : State :=
  let g := s.urx.gather
  if g.st = 1 && g.trigger = k && g.arg = a && g.trigAt.isNone then
    s.setGather { g with trigAt := some s.time.now }
  else s

/-- URX_JAM (R144): JAM_HOLD_MS of consecutive counted blocks exceed JAM_THR, the last of them with this power. -/
def State.jamOn (s : State) (w : Nat) (power : BitVec 16) : State :=
  let v := s.win w
  if v.st != .on || v.jam || !s.flag URX_JAM_CFG_JAM_EN || !s.jamHeld w
      || toSigned 16 (s.rssiAtAntenna power) ≤ -4 * s.get URX_JAM_CFG_JAM_THR then s
  else
    let p := s.rssiAtAntenna power
    let s := (s.setWin w { v with jam := true, jamAt := s.time.now }).jamRunNew w
    let s := s.putBit URX_JAM_STATUS_JAM_SEEN w true
    ((s.event EV_URX_JAM (byte w :: le 2 p)).raise FID_URX_JAMMING w).gatherTrigger 4 w

/-- URX_JAM_CLEAR (R144): JAM_HOLD_MS of consecutive counted blocks lay 3 dB or more below JAM_THR. JAM of a window that is not ON
stands, as nothing measures it. -/
def urxJamClear (w : Fin 4) (at_ : Nat) (s : State) : State :=
  let s := s.advance at_
  let v := s.win w
  if !v.jam || v.st != .on || !s.flag URX_JAM_CFG_JAM_EN || !s.jamHeld w then s
  else
    let s := (s.setWin w { v with jam := false }).jamRunNew w
    s.event EV_URX_JAM_CLEAR (byte w.val :: le 4 (satNat 32 ((s.time.now - v.jamAt) / Config.msTicks)))

/-- BYPASS_ENGAGE (R129): clipping calls for bypass; it is engaged now, or once no channel is in a frame. -/
def bypassEngage (at_ : Nat) (s : State) : State :=
  let s := s.advance at_
  if !s.flag URX_CTRL_BYP_AUTO || !s.radioOn then s
  else State.bypassSettle { s with urx := { s.urx with bypassWant := some true } }

/-- BYPASS_RELEASE (R129): 100 ms with every sample below −24 dBFS have passed; bypass ends now, or once no channel is in a frame. -/
def bypassRelease (at_ : Nat) (s : State) : State :=
  let s := s.advance at_
  State.bypassSettle { s with urx := { s.urx with bypassWant := some false } }

/-- URX_ADC_FAULT (R128). -/
def urxAdcFault (portB : Bool) (at_ : Nat) (s : State) : State :=
  let s := s.advance at_
  let s := { s with urx := { s.urx with adcBad := s.urx.adcBad.set (bit01 portB) true } }
  s.raise (if portB then FID_URX_ADC_B else FID_URX_ADC_A)

/-- FLT_CLEAR of an ADC source starts its self-check (R128). -/
def State.adcCheckStart (s : State) (b : Bool) : State :=
  { s with urx := { s.urx with adcCheck := s.urx.adcCheck.set (bit01 b) true } }

/-- ADC_SELF_CHECK_DONE (R128). -/
def adcSelfCheckDone (portB passed : Bool) (at_ : Nat) (s : State) : State :=
  let i := bit01 portB
  let s := s.advance at_
  if !s.urx.adcCheck.getD i false then s
  else
    let s := { s with urx := { s.urx with adcCheck := s.urx.adcCheck.set i false } }
    if passed then { s with urx := { s.urx with adcBad := s.urx.adcBad.set i false } }
    else State.raise { s with urx := { s.urx with adcBad := s.urx.adcBad.set i true } } (if portB then FID_URX_ADC_B else FID_URX_ADC_A)

/-! ### Gather (R146 to R148) -/

/-- Ticks per sample of a capture source: 1 for RAW, 1.25 × width for a window (R120, R146), in 1/1000 tick. -/
def State.sampleTicks (s : State) (source : Nat) : Nat :=
  if bitsAt source 2 2 = 0 then 1000
  else 2000000 / (2 ^ s.get (URX_WIN_CFG_WIDTH (bitsAt source 4 2)) * 2)

/-- Samples per port that the buffer holds (R146). -/
def gatherSamples (source : Nat) : Nat :=
  131072 / (if bitsAt source 2 2 = 0 then 1 else 2) / (if bitsAt source 0 2 = 3 then 2 else 1)

/-- CAPTURE_TRIGGER (R147): the post-trigger share of an armed and triggered capture is written and Gather is HELD. The
samples are free values; the record is stamped with the trigger instant. -/
def captureTrigger (at_ : Nat) (s : State) : State :=
  let s := s.advance at_
  let g := s.urx.gather
  match (if g.st = 1 then g.trigAt else none) with
  | none => s
  | some t =>
    let n := gatherSamples g.source
    let pre := n * g.pre / 256
    let st := s.sampleTicks g.source
    let filled := min pre (1000 * (t - g.armedAt) / max 1 st)
    let s := s.advance (t + (n - pre) * st / 1000)
    let s := { s with free := 262144 + s.free, urx := { s.urx with gather := { g with st := 2, index := filled
                                                                                      base := s.free } } }
    let d := le 2 g.id ++ [0, byte OK] ++ le 4 filled ++ [byte g.source]
    s.eventAt (s.refAt t) (s.qualityAt t) EV_URX_CAPTURE_DONE d

/-- Word `i` of the held buffer (R146): a 12-bit sample sign-extended to 16 bits, or a 16-bit I or Q word, free either way. -/
def State.gatherWord (s : State) (i : Nat) : Nat :=
  let v := Config.freeValue (s.urx.gather.base + i)
  if bitsAt s.urx.gather.source 2 2 = 0 then ofSigned 16 (toSigned 12 (v % 4096)) else v % 65536

/-- Item `k` of the held buffer (R148): 4096 bytes, oldest sample first. -/
def State.gatherItem (s : State) (k : Nat) : List Byte := (List.range 2048).flatMap fun i => le 2 (s.gatherWord (2048 * k + i))

/-- GATHER_READ_ITEM (R148): the next item of a read goes into its queue once the queue accepts it. -/
def gatherReadItem (s : State) : State :=
  let g := s.urx.gather
  if g.st ≠ 3 || !s.awake then s
  else
    match s.pushItem g.queue (s.gatherItem g.item) 5 with
    | none => s
    | some s =>
      if g.item < 63 then s.setGather { g with item := g.item + 1, readAt := s.time.now }
      else (s.setGather { g with st := 2, item := 0 }).captureEvent 1 OK

/-- GATHER_READ_TIMEOUT (R148): an item has waited 1 s for space. -/
def gatherReadTimeout (s : State) : State :=
  let g := s.urx.gather
  if g.st ≠ 3 || !s.awake then s
  else
    let s := s.advance (Config.sTicks + g.readAt)
    match s.pushItem g.queue (s.gatherItem g.item) 5 with
    | some _ => s
    | none => (s.setGather { g with st := 2, item := 0 }).captureEvent 3 QUEUE_FULL

/-- RF_CAPTURE (R147, R148, R161). -/
def rfCapture (m : Master) (p : List Byte) (s : State) : State :=
  let act := u8 p 0
  let src := u8 p 1
  let trig := u8 p 2
  let arg := u8 p 3
  let q := u8 p 5
  let raw := bitsAt src 2 2 = 0
  let w := bitsAt src 4 2
  hostCmd 0x47 m p
    [paramOk (act < 3), lenIs p 24, paramOk (zeroAt p 6 18),
     paramOk (if act = 0 then bitsAt src 0 2 ≠ 0 && bitsAt src 2 2 < 2 && src < 64 && trig < 5 && q = 0
         && (if trig = 2 || trig = 3 then arg < 64 else if trig = 4 then arg < 4 else arg = 0)
       else src = 0 && trig = 0 && arg = 0 && u8 p 4 = 0 && (if act = 1 then q < 128 else q = 0))]
    (fun s =>
      let g := s.urx.gather
      if act = 0 then
        let on := if raw then s.urx.wins.any (·.st == .on) else (s.win w).st == .on
        let radio := if s.radioOn then 0 else 2240
        if g.st = 3 || !on then s.ends BAD_STATE
        else if g.st ≠ 1 && !s.fits (120 + radio) then s.refuseBudget.ends POWER_BUDGET
        else
          let g : Gather := { st := 1, id := g.next, next := (g.next + 1) % 0x10000, source := src, trigger := trig
                              arg := arg, pre := if trig = 0 then 0 else u8 p 4, armedAt := s.time.now
                              trigAt := if trig = 0 then some s.time.now else none }
          ((s.setGather g).notePeak.withdraw 5, ACCEPTED, le 2 g.id)
      else if act = 1 then
        if g.st ≠ 2 || s.get (QM_Q_LIMITS_QUOTA q) < 64 then s.ends BAD_STATE
        else if !s.fits 120 then s.refuseBudget.ends POWER_BUDGET
        else (s.setGather { g with st := 3, queue := q, item := 0, readAt := s.time.now }, ACCEPTED, le 2 g.id)
      else s.cancelCapture.ok) s

/-! ### Commands -/

/-- The states of the four windows (R160). -/
def State.winStates (s : State) : List Byte := (List.range 4).map fun w => byte (s.win w).st.code

/-- The windows of a mask. -/
def maskWins (mask : Nat) : List Nat := (List.range 4).filter fun w => bitAt mask w = 1

/-- The charge in quarter mW of starting the windows of a mask: 40 mW for each that is OFF, and RADIO (R531). -/
def State.winCharge (s : State) (mask : Nat) : Nat :=
  let n := (maskWins mask).filter fun w => (s.win w).st == .off
  if n.isEmpty then 0 else 160 * n.length + (if s.radioOn then 0 else 2240)

/-- The interval of R152: after a wake from P3 or P4 and until the pads are released. SAFE_STATE holds pads too, but what it alone holds
lets URX receive (R599). -/
def State.urxPadsHeld (s : State) : Bool := s.padHeld 3 && !(s.safeState && bitAt s.pwr.safeHeld 3 == 1)

/-- The block is EN (R160): its EN is set and it is not OFF. -/
def State.urxEn (s : State) : Bool := s.flag URX_CTRL_EN && s.unit 5 != .off && !s.fenced 5

/-- URX_START as a command or a calendar action does it (R149, R150, R160): the status. -/
def State.urxStartMask (s : State) (mask cause : Nat) (slot : Option Nat) : State × Nat :=
  if (maskWins mask).any (fun w => !s.flag (URX_WIN_CFG_CONF w)) || !s.urxEn || s.urxPadsHeld
      || s.noRadio then (s, BAD_STATE)
  else if !s.fits (s.winCharge mask) then (s.refuseBudget, POWER_BUDGET)
  else
    let s := (maskWins mask).foldl (fun s w =>
      let fresh := (s.win w).st == .off || (s.win w).st == .disabling
      let s := s.startWin w cause
      if fresh then s.setWin w { s.win w with slot := slot } else s) s
    (s.notePeak.withdraw 5, OK)

/-- URX_STOP on a mask. -/
def State.urxStopMask (s : State) (mask cause : Nat) : State := (maskWins mask).foldl (fun s w => s.stopWin w cause) s

/-- URX_START (R160). -/
def urxStart (m : Master) (p : List Byte) (s : State) : State :=
  hostCmd 0x41 m p [lenIs p 1, paramOk (u8 p 0 < 16)]
    (fun s =>
      let (s, st) := s.urxStartMask (u8 p 0) 0 none
      (s, st, if st = OK then s.winStates else [])) s

/-- URX_STOP (R160). -/
def urxStop (m : Master) (p : List Byte) (s : State) : State :=
  hostCmd 0x42 m p [lenIs p 1, paramOk (u8 p 0 < 16)]
    (fun s =>
      let s := s.urxStopMask (u8 p 0) 0
      (s, OK, s.winStates)) s

/-- A window lies inside the receive band (R120). -/
def windowFits (centre width : Nat) : Bool := 300000000 + width / 2 ≤ centre && centre + width / 2 ≤ 1000000000

/-- URX_CONFIG, WINDOW (R159). -/
def urxConfigWin (m : Master) (p : List Byte) (s : State) : State :=
  let w := u8 p 1
  let conf := u8 p 2
  let width := u8 p 3
  let f := u32 p 4
  hostCmd 0x40 m p
    [lenIs p 8, paramOk (w < 4 && conf < 2 && width < 4 && f < 2 ^ 30), paramOk (conf = 0 || windowFits f (winWidth width))]
    (fun s =>
      let bad := (List.range 16).any fun k =>
        let n := 16 * w + k
        s.flag (URX_CH_CFG_EN n) &&
          !offsetFits (toSigned 24 (s.get (URX_CH_OFS n))) (chanBw (s.get (URX_CH_CFG_BW n))) (winWidth width)
      if bad then s.ends BAD_STATE
      else
        let q := !s.winInFrame w
        let s := (s.stage q (2000 + w) (URX_WIN_FREQ w) f).stage q (2000 + w) (URX_WIN_CFG_CONF w) conf
        let s := s.stage q (2000 + w) (URX_WIN_CFG_WIDTH w) width
        (s, OK, [byte (s.win w).st.code])) s

/-- URX_CONFIG, CHANNEL (R159). -/
def urxConfigChan (m : Master) (p : List Byte) (s : State) : State :=
  let n := u8 p 1
  let cfg := u32 p 4
  let ofs := toSigned 32 (u32 p 8)
  let rate := u32 p 12
  let dev := u32 p 16
  let fr := u32 p 24
  let w := n / 16
  let bw := chanBw (bitsAt cfg 3 3)
  hostCmd 0x40 m p
    [lenIs p 28, paramOk (n < 64), (s.flag (URX_WIN_CFG_CONF w), BAD_STATE),
     paramOk (zeroAt p 2 2 && bitsAt cfg 1 2 < 3 && bitsAt cfg 3 3 < 6 && bitsAt cfg 8 2 < 3 && bitsAt cfg 10 2 < 2
       && bitsAt cfg 13 3 = 0 && bitsAt cfg 23 9 = 0),
     paramOk (offsetFits ofs bw (winWidth (s.get (URX_WIN_CFG_WIDTH w)))),
     paramOk (demodOk (bitsAt cfg 1 2) rate dev bw && dev < 2 ^ 18),
     paramOk (within 8 32 (bitsAt fr 0 6) && within 8 63 (bitsAt fr 8 6) && bitsAt fr 14 2 = 0 && within 1 255 (bitsAt fr 16 8)
       && bitsAt fr 24 8 = 0),
     paramOk (bitsAt cfg 8 2 ≠ 2 || (bitsAt fr 0 6 = 32 && bitsAt cfg 10 2 = 1))]
    (fun s =>
      if !s.flag (QM_Q_CFG_EN (bitsAt cfg 16 7)) then s.ends BAD_STATE
      else
        let q := (s.uch n).phase ≠ 2
        let k := 1000 + n
        let s := if q then s.setUch n {} else s
        let s := (s.stage q k (URX_CH_CFG n) cfg).stage q k (URX_CH_OFS n) (ofSigned 24 ofs)
        let s := (s.stage q k (URX_CH_RATE n) rate).stage q k (URX_CH_DEV n) dev
        let s := (s.stage q k (URX_CH_SYNC n) (u32 p 20)).stage q k (URX_CH_FRAME n) fr
        (s, OK, [byte (s.win w).st.code])) s

/-- The sentinel state code of URX_STATUS (R157): OFF, STARTING before its window, and in it LISTENING or RECEIVING: a frame in the
air is known to the model only when it ends, so which of the two shows is free, but for RECEIVING past the end of the window (R142). -/
def State.sentState (s : State) : Nat :=
  match s.lf.window with
  | some w =>
    if !w.on then 0 else if s.time.now < w.start then 1 else if w.stop ≤ s.time.now then 3
    else 2 + Config.freeValue s.free % 2
  | none => 0

/-- URX_CONFIG, SENTINEL (R159). -/
def urxConfigSent (m : Master) (p : List Byte) (s : State) : State :=
  let f := u32 p 4
  let c := u32 p 8
  hostCmd 0x40 m p
    [lenIs p 12, paramOk (zeroAt p 1 3), paramOk (within 300000000 1000000000 f),
     paramOk (bitsAt c 2 6 = 0 && within 20 120 (bitsAt c 8 8) && within 1 15 (bitsAt c 16 4) && bitsAt c 20 12 = 0)]
    (fun s => ((s.put URX_SENT_FREQ f).put URX_SENT_CFG c, OK, [byte s.sentState])) s

/-- URX_CONFIG, GLOBAL (R159). -/
def urxConfigAll (m : Master) (p : List Byte) (s : State) : State :=
  let g := u32 p 4
  let j := u32 p 8
  hostCmd 0x40 m p
    [lenIs p 12, paramOk (zeroAt p 1 3 && bitsAt g 24 8 = 0),
     paramOk (within 20 120 (bitsAt j 0 8) && within 1 255 (bitsAt j 8 8) && bitsAt j 17 15 = 0)]
    (fun s =>
      if s.flag URX_CTRL_LOCK && (g ≠ s.get URX_FEM_GAIN || j ≠ s.get URX_JAM_CFG) then s.ends ACCESS_DENIED
      else
        let on := s.flag URX_JAM_CFG_JAM_EN
        (((s.put URX_FEM_GAIN g).put URX_JAM_CFG j).jamArmed on, OK, [byte (s.unit 5).code])) s

/-- URX_CONFIG (R159): KIND selects the form. -/
def urxConfig (m : Master) (p : List Byte) (s : State) : State :=
  match u8 p 0 with
  | 0 => urxConfigWin m p s
  | 1 => urxConfigChan m p s
  | 2 => urxConfigSent m p s
  | 3 => urxConfigAll m p s
  | _ => hostCmd 0x40 m p [paramOk false] State.ok s

/-! ### Loss of lock, fence -/

/-- Frames in progress are discarded and counted (R153), and what waited for their end takes effect (R129, R151). -/
def State.dropFrames (s : State) : State :=
  let s := (List.range 64).foldl (fun s n =>
    if (s.uch n).phase = 2 then (s.frameLost n false).setUch n {} else s.setUch n {}) s
  ((List.range 4).foldl (fun s w => (s.skipEnd w).urxBoundary w) s).bypassSettle.adcSettle

/-- Loss of RF PLL lock as URX sees it (R153). -/
def State.urxPllLost (s : State) : State :=
  let s := State.dropFrames { s with urx := { s.urx with pllLost := true } }
  (List.range 4).foldl (fun s w =>
    if (s.win w).st == .on then
      let s := s.moveWin w .starting 2
      s.setWin w { s.win w with pll := true }
    else s.winSettle w) s

/-- Lock returns (R153). -/
def State.urxRelock (s : State) : State :=
  let s := { s with urx := { s.urx with pllLost := false }, utx := { s.utx with pllAt := s.time.now } }
  (List.range 4).foldl (fun s w => if (s.win w).pll then s.winStarted w else s) s

/-- A fence of URX (R153): windows FENCED, frames discarded and counted, Gather EMPTY. -/
def State.urxFence (s : State) : State :=
  let s := s.dropFrames.cancelCapture
  let s := match s.lf.window with
    | some w => { s with lf := { s.lf with window := some { w with on := false } } }
    | none => s
  (List.range 4).foldl (fun s w => if (s.win w).st == .fenced then s else s.moveWin w .fenced 3) s

/-- On release every window is OFF (R153). -/
def State.urxRelease (s : State) : State :=
  (List.range 4).foldl (fun s w => if (s.win w).st == .fenced then s.moveWin w .off 3 else s) s

/-- URX has no reason to refuse an entry (R152). -/
def State.urxIdle (s : State) : Bool := s.urx.wins.all (·.st == .off) && s.urx.gather.st != 1

end Sys2Proof.Machine
end

