-- ==== Sys2Proof/Machine/Utx.lean ====
section
/-!
DEFINITION. Machine/Utx.lean: UHF sends, the duty accumulator and the RF calibration engine (R162 to R201).
-/
namespace Sys2Proof.Machine

/-! ### Region bands and duty (R164, R171, R179 to R182) -/

/-- UTX changes a part of its state. -/
def State.modUtx (s : State) (f : UtxState → UtxState) : State := { s with utx := f s.utx }

/-- The bands in force: none while the table fails its checks (R180). -/
def State.bands (s : State) : List Band := if s.sys.region.ok then s.sys.region.bands else []

/-- The first band that contains a span of 2 × `half` Hz around `f`. -/
def State.bandAt (s : State) (f half : Nat) : Option Nat := s.bands.findIdx? fun b => b.lo + half ≤ f && f + half ≤ b.hi

/-- USED of band `b` (R182). -/
def State.dutyUsed (s : State) (b : Nat) : Nat := sumNat (s.utx.bins.getD b [])

/-- UTX_DUTYb_LIMIT. -/
def State.dutyLimit (s : State) (b : Nat) : Nat := match s.bands[b]? with | some d => d.dutyUs | none => 0

/-- UTX_DUTYb_SOFT: its reset value is DUTY_US, and no value above it is held (R195). -/
def State.dutySoft (s : State) (b : Nat) : Nat := min (s.get (UTX_DUTY_SOFT b)) (s.dutyLimit b)

/-- `us` microseconds are added to the bin of band `b` that was the present one when its number was `bin` (R182). -/
def State.addDuty (s : State) (b bin us : Nat) : State :=
  s.modUtx fun u => { u with bins := u.bins.modify b fun l => l.modify (u.binNo - bin) (· + us) }

/-- A REG_DUTY refusal in band `b` (R182): it is counted, and the first in each bin is reported. -/
def State.refuseDuty (s : State) (b : Nat) (high : Bool) : State :=
  let s := s.bump UTX_DUTY_REFUSE
  if s.utx.told.contains b then s
  else
    let s := s.modUtx fun u => { u with told := u.told ++ [b] }
    (s.event EV_UTX_DUTY ([byte b, byte (bit01 high)] ++ le 4 (s.dutyUsed b))).raise FID_UTX_DUTY b

/-- DUTY_BIN_ROLL (R182): 1,966,080 low-power cycles after the bin began, the next begins. -/
def dutyBinRoll (s : State) : State :=
  let s := s.advanceLp (1966080 + s.utx.binLp)
  s.modUtx fun u => { u with bins := u.bins.map fun l => 0 :: l.take 60, binNo := u.binNo + 1
                             binLp := 1966080 + u.binLp, told := [] }

/-! ### Blanking (R166) -/

/-- Reception is blanked from now until `to_`: frames in progress are abandoned and a poll response window is void. -/
def State.blank (s : State) (to_ : Nat) : State :=
  let hit := (List.range 64).filter fun n => (s.uch n).phase = 2
  let s := s.bump UTX_RX_ABANDON hit.length
  let s := s.modUtx fun u => { u with blankFrom := s.time.now, blankTo := to_ }
  let s := { s with urx := { s.urx with chans := s.urx.chans.map fun c : UrxChan => if c.phase = 1 then {} else c } }
  let s := hit.foldl (fun s n => s.frameGone n) s
  match s.lf.window with
  | some w => if s.time.now < w.stop && w.start < to_ then { s with lf := { s.lf with window := some { w with void := true } } } else s
  | none => s

/-! ### The calibration table and engine (R163, R183 to R189) -/

/-- Frequency of entry `e`; 0 for none. -/
def State.entFreq (s : State) (e : Nat) : Nat := s.get (UTX_CALTAB_LO_FREQ_HZ e)

/-- Length of a step in ticks (R183). -/
def stepTicks (item : Nat) : Nat :=
  Config.usTicks * (match item with | 0 => 150 | 1 => 200 | 2 => 2000 | _ => 400)

/-- RF_CAL_DONE (R194). -/
def State.calEvent (s : State) (d : CalDue) (result : Nat) (temp : Int) (us : Nat) : State :=
  s.event EV_RF_CAL_DONE (le 2 d.calId ++ [byte d.item, byte d.idx, byte result, byte (ofSigned 8 temp)] ++ le 4 us)

/-- The place of a step in the order of R185: SYNTH by entry, TXDAC, RSSI, then ADC of a foreground run (R199). -/
def CalDue.rank (d : CalDue) : Nat :=
  (match d.item with | 0 => 0 | 1 => 1000 | 3 => 2000 | _ => 3000) + d.idx

/-- A due step joins the list in its place; one that is due already keeps its slot and takes the later CAL_ID (R194). -/
def insertDue (d : CalDue) : List CalDue → List CalDue
  | [] => [d]
  | x :: l =>
    if x.item = d.item && x.idx = d.idx then { x with calId := if d.calId = 0xFFFF then x.calId else d.calId } :: l
    else if d.rank < x.rank then d :: x :: l
    else x :: insertDue d l

/-- What keeps a step of `dur` ticks from starting at reference time `t`, by its end: an EXCLUSIVE RADIO slot (its PREP where it has
one) less than 20 µs after the step, or the busy interval of an accepted AT_TIME send (R185). -/
def State.calBlock (s : State) (t dur : Nat) : Option Nat :=
  let slotEnd := s.cal.findSome? fun x => match x with
    | some c =>
      let st := c.time - Config.usTicks * c.prepLead
      if c.exclusive && c.resources &&& resRadio != 0 && t < c.time + tenthTicks c.duration
          && st < t + dur + 20 * Config.usTicks then some (max (t + 1) (c.time + tenthTicks c.duration)) else none
    | none => none
  match slotEnd with
  | some e => some e
  | none => s.utx.sends.findSome? fun d =>
      if d.trig = 1 && t < d.to_ && d.from_ < t + dur then some (max (t + 1) d.to_) else none

/-- The earliest instant of reference time from `t` on at which a step of `dur` ticks fits (R52, R185). -/
def State.calGapFrom (s : State) (dur : Nat) : Nat → Nat → Option Nat
  | 0, _ => none
  | fuel + 1, t =>
    match s.gap resRadio [] t dur with
    | none => none
    | some t =>
      match s.calBlock t dur with
      | none => some t
      | some e => s.calGapFrom dur fuel e

/-- Due steps without a place get one, in their order, while slots 60 to 63 are free (R45, R185). -/
def State.calPlaceList (s : State) : List CalDue → State
  | [] => s
  | d :: l =>
    let s :=
      if d.slot.isSome then s
      else
        match s.freeCalSlot, s.calGapFrom (stepTicks d.item) 4096 s.time.ref with
        | none, _ | _, none => s
        | some k, some t =>
          let s := s.setCalSlot k (some (ownSlot k 6 resRadio t (stepTicks d.item) false))
          s.modUtx fun u => { u with due := u.due.map fun x =>
            if x.item = d.item && x.idx = d.idx then { x with slot := some k } else x }
    s.calPlaceList l

/-- Every due step is placed as far as slots and gaps allow: those of UTX with BG_EN at 1, and those of LF (R185, R189). -/
def State.calPlace (s : State) : State :=
  State.lfCalPlace (if s.flag UTX_CAL_CFG_BG_EN then s.calPlaceList s.utx.due else s)

/-- A step falls due (R185). -/
def State.calMark (s : State) (item idx calId : Nat) : State :=
  (s.modUtx fun u => { u with due := insertDue { item := item, idx := idx, calId := calId, asleep := !s.awake } u.due }).calPlace

/-- The place of a due step is withdrawn. -/
def State.calUnplace (s : State) (d : CalDue) : State :=
  let s := match d.slot with | some k => s.setCalSlot k none | none => s
  s.modUtx fun u => { u with due := u.due.map fun x =>
    if x.item = d.item && x.idx = d.idx then { x with slot := none } else x }

/-- A step no longer due; its slot is freed. -/
def State.calDrop (s : State) (d : CalDue) : State :=
  let s := s.calUnplace d
  s.modUtx fun u => { u with due := u.due.filter fun x => !(x.item = d.item && x.idx = d.idx) }

/-- The due step that `d` is, as the list has it now: with its slot and the latest CAL_ID (R194). -/
def State.dueNow (s : State) (d : CalDue) : CalDue :=
  (s.utx.due.find? fun x => x.item = d.item && x.idx = d.idx).getD d

/-- The running step stops, its partial result is discarded and it reruns in a later gap (R175, R186, R190). A foreground run
ends with it. -/
def State.calStop (s : State) : State :=
  match s.utx.run with
  | none => s
  | some r =>
    let d := s.dueNow r.due
    let s := s.modUtx fun u => { u with run := none, fg := [], fgItems := 0 }
    let s := s.calEvent d 2 s.sys.temp ((s.time.now - r.start) / Config.usTicks)
    let s := s.calUnplace d
    (s.modUtx fun u => { u with due := insertDue { d with slot := none } u.due }).calPlace

/-- As `calStop`, counted (R175, R186). -/
def State.calPreempt (s : State) : State :=
  if s.utx.run.isSome then (s.bump UTX_CAL_PREEMPT).calStop else s

/-- An EXCLUSIVE RADIO slot has been added whose intervals are `meets` (R185, R186): a step in progress that one overlaps stops,
and steps placed where one, widened by `wide`, overlaps them are placed again. -/
def State.calYield (s : State) (meets wide : Nat → Nat → Bool) : State :=
  let now := s.time.ref
  let s := match s.utx.run with
    | some r => if meets now (r.start + r.dur - s.time.now) then s.calPreempt else s
    | none => s
  let hit := s.utx.due.filter fun d =>
    match d.slot.bind s.calSlot with
    | some c => wide c.time (stepTicks d.item)
    | none => false
  (hit.foldl (fun s d => s.calUnplace d) s).calPlace

/-- No transmission in progress and no step running: the UTX quiescent boundary (R190). -/
def State.utxQuiet (s : State) : Bool := s.utx.tx.isNone && s.utx.run.isNone

/-- Changes that waited take effect at the boundary (R190, R198, R201). -/
def State.utxBoundary (s : State) : State := if s.utxQuiet then s.applyStaged 6 else s

/-- Item `k`. -/
def State.calItem (s : State) (k : Nat) : CalItem := s.utx.items.getD k {}

/-- The entries that a SYNTH run covers: those with a frequency and PERMITTED (R199). -/
def State.calEntries (s : State) : List Nat :=
  (List.range 128).filter fun e => s.entFreq e ≠ 0 && s.flag (UTX_CALTAB_LO_PERMITTED e)

/-- Entries with VALID at 1. -/
def State.validEntries (s : State) : List Nat := (List.range 128).filter fun e => s.flag (UTX_CALTAB_LO_VALID e)

/-- The VALID entry calibrated longest ago (R200). -/
def State.oldestEntry (s : State) : Option Nat :=
  s.validEntries.foldl (fun o e => match o with
    | none => some e
    | some x => if s.utx.entAt.getD e 0 < s.utx.entAt.getD x 0 then some e else some x) none

/-- VALID, STALE, temperature and low-power count of item `k` (R184, R200). SYNTH shows its oldest VALID entry and LF its
channels (R104). -/
def State.calShown (s : State) (k : Nat) : Bool × Bool × Int × Nat :=
  let i := s.calItem k
  match k with
  | 0 =>
    match s.oldestEntry with
    | some e => (true, i.stale, toSigned 8 (s.get (UTX_CALTAB_HI_CAL_TEMP e)), s.utx.entAt.getD e 0)
    | none => (false, i.stale, 0, 0)
  | 4 =>
    let done := (List.range 12).filter fun n => s.flag (LF_CH_STATUS_CAL_VALID n)
    let n := done.headD 0
    (!done.isEmpty, i.stale || done.length != 12, (s.lf.calTemp.getD n none).getD 0, s.lf.calAt.getD n 0)
  | _ => (i.valid, i.stale, i.temp, i.at_)

/-- The result of item `k` in force is saved to the calibration store (R23, R188, R163 for the table): its bytes in the embedded
memory (R18) are free, as no layout is stated (notes/assumptions/144.md). -/
def State.calSave (s : State) (k : Nat) : State :=
  let (v, _, t, _) := s.calShown k
  if !v then s
  else
    let w := if k = 0 then (List.range 128).flatMap fun e => [s.reg (UTX_CALTAB_LO e).addr, s.reg (UTX_CALTAB_HI e).addr]
      else if k = 4 then (List.range 12).map fun n => BitVec.ofNat 32 (s.get (LF_CH_STATUS_CAL_VALID n)) else []
    (s.modUtx fun u => { u with stored := u.stored.set k (some { temp := t, at_ := s.time.lp, words := w }) }).freeFill 0x20050000 0x10000

/-- SAVE_EN saves an item at most once per 24 h (R188). -/
def State.calAutoSave (s : State) (k : Nat) : State :=
  let due := match s.utx.stored.getD k none with | some c => c.at_ + lpOfS 86400 ≤ s.time.lp | none => true
  if s.flag UTX_CAL_CFG_SAVE_EN && due then s.calSave k else s

/-- A new LF result is in force: the item is no longer STALE, and it is saved: by the SAVE of a foreground run once the last of its
channels is done, or by SAVE_EN (R184, R188, R199). -/
def State.lfSave (s : State) : State :=
  if !s.lf.calNew then s
  else
    let s := s.modUtx fun u => { u with items := u.items.modify 4 fun i => { i with valid := true, stale := false } }
    let all := s.lf.calFgSave && s.lf.calIds.all (· == 0xFFFF)
    let s := { s with lf := { s.lf with calNew := false, calFgSave := s.lf.calFgSave && !all } }
    if all then s.calSave 4 else s.calAutoSave 4

/-- The instant at which a step of this item may start: an RSSI step waits for a poll response window it would meet (R189). -/
def State.calStartAt (s : State) (item : Nat) : Nat :=
  match s.lf.window with
  | some w =>
    let e := max w.stop w.busy
    if item = 3 && w.start < s.time.now + stepTicks 3 && s.time.now < e then e else s.time.now
  | none => s.time.now

/-- A step starts now, or when a poll response window in its way has ended. -/
def State.calStart (s : State) (d : CalDue) (fg : Bool) : State :=
  let s := s.modUtx fun u => { u with run := some { due := d, start := s.calStartAt d.item, dur := stepTicks d.item, fg := fg }
                                      synth := if d.item < 2 then none else u.synth }
  s.notePeak.withdraw 6

/-- The radio and its neighbours let a step of this item run (R183, R185, R189, R191). -/
def State.calMay (s : State) (d : CalDue) : Bool :=
  s.unitOn 6 && s.awake && !s.noRadio && !s.urx.pllLost && !s.padHeld 3 && !s.padHeld 9 && s.utx.tx.isNone && s.utx.run.isNone
    && s.utx.freeAt ≤ s.time.now && s.fits 440
    && (d.item ≠ 3 || (s.urx.wins.all (·.st == .off) && s.lf.window.isNone))
    && (!d.asleep || (s.pwr.st == .p0 && s.radioOn))

/-- The start of a due step's slot in reference time. -/
def State.calTime (s : State) (d : CalDue) : Nat := match d.slot.bind s.calSlot with | some c => c.time | none => s.time.ref

/-- The placed step whose slot comes first. -/
def State.nextCal (s : State) : List CalDue → Option CalDue
  | [] => none
  | d :: l =>
    match s.nextCal l with
    | none => if d.slot.isSome then some d else none
    | some b => if d.slot.isSome && s.calTime d ≤ s.calTime b then some d else some b

/-- CAL_STEP_START (R185, R199): the first placed step reaches its slot and starts, or is placed again; an entry that is no longer
PERMITTED is not calibrated. -/
def calStepStart (s : State) : State :=
  if !s.flag UTX_CAL_CFG_BG_EN then s
  else
    let s := s.calPlace
    match s.nextCal s.utx.due with
    | none => s
    | some d =>
      let t := s.calTime d
      let late : Bool := decide (t < s.time.ref)
      let s := s.advanceRef t
      if late || !s.calMay d || (s.calBlock s.time.ref (stepTicks d.item)).isSome then (s.calUnplace d).calPlace
      else if d.item = 0 && !s.calEntries.contains d.idx then (s.calDrop d).calPlace
      else s.calStart d false

/-- CAL_DUE (R185): the die temperature is `temp`; an item or entry is due after TEMP_STEP_C or CAL_AGE_H. Items: 0 SYNTH with
an entry, 1 TXDAC, 3 RSSI with a port; ADC has no background step. -/
def calDue (item : Fin 4) (idx : Fin 128) (temp : BitVec 8) (at_ : Nat) (s : State) : State :=
  let s := s.advance at_
  let s := { s with sys := { s.sys with temp := temp.toInt } }
  let (v, t, at0) := if item = 0 then
      (s.flag (UTX_CALTAB_LO_VALID idx), toSigned 8 (s.get (UTX_CALTAB_HI_CAL_TEMP idx)), s.utx.entAt.getD idx 0)
    else (let i := s.calItem item; (i.valid, i.temp, i.at_))
  let known := item ≠ 2 && (if item = 0 then s.calEntries.contains idx.val else if item = 1 then idx.val = 0 else idx.val < 2)
  let moved := s.get UTX_CAL_CFG_TEMP_STEP_C ≤ (temp.toInt - t).natAbs
  let old := lpOfS (3600 * s.get UTX_CAL_CFG_CAL_AGE_H) ≤ s.time.lp - at0
  if !s.flag UTX_CAL_CFG_BG_EN || !known || !(moved || old || !v) then s else s.calMark item idx 0xFFFF

/-- The next step of a foreground run starts, or the run ends, with its save (R188, R199). -/
def State.calNextFg (s : State) : State :=
  match s.utx.fg with
  | d :: l => (s.modUtx fun u => { u with fg := l }).calStart d true
  | [] =>
    let s := if s.utx.fgSave then
        (List.range 5).foldl (fun s k => if bitAt s.utx.fgItems k = 1 then s.calSave k else s) s else s
    s.modUtx fun u => { u with fgItems := 0, fgSave := false }

/-- RF_CAL_DONE (R188, R194): the running step ends with this result, within its plausibility limits or not. -/
def rfCalDone (good : Bool) (vco : BitVec 4) (cap : Byte) (gain : BitVec 6) (temp : BitVec 8) (s : State) : State :=
  match s.utx.run with
  | none => s
  | some r =>
    let s := s.advance (r.start + r.dur)
    let s := { s with sys := { s.sys with temp := temp.toInt } }
    let k := r.due.item
    let e := r.due.idx
    let due := s.dueNow r.due
    let s := s.modUtx fun u => { u with run := none }
    let s := if r.again then s.calUnplace due else s.calDrop due
    let s :=
      if !good then
        (s.modUtx fun u => { u with items := u.items.modify k fun i => { i with stale := true } }).raise FID_UTX_CAL_FAIL
          (if k = 0 || k = 1 then 0xFF else e)
      else
        let s := if k ≠ 0 then s
          else
            let s := (s.put (UTX_CALTAB_HI_VCO_BAND e) vco.toNat).put (UTX_CALTAB_HI_CAP_CODE e) cap.toNat
            let s := (s.put (UTX_CALTAB_HI_GAIN_TRIM e) gain.toNat).put (UTX_CALTAB_HI_CAL_TEMP e) temp.toNat
            (s.put (UTX_CALTAB_LO_VALID e) 1).modUtx fun u => { u with entAt := u.entAt.set e s.time.lp }
        let it : CalItem := { valid := true, stale := false, temp := temp.toInt, at_ := s.time.lp }
        let s := if k = 2 && s.anyFrame then s.modUtx fun u => { u with adcHeld := some it }
          else s.modUtx fun u => { u with items := u.items.set k it }
        s.calAutoSave k
    let s := s.calEvent due (if good then 0 else 1) temp.toInt (r.dur / Config.usTicks)
    let s := if r.fg then s.calNextFg else s
    s.utxBoundary.calPlace

/-! ### Sends (R165 to R178) -/

/-- Ticks of 0.1 µs units. -/
def tenths (n : Nat) : Nat := 250 * n

/-- LBT_LISTEN_US of the band of entry `e`; 0 outside a band with LBT. -/
def State.lbtUs (s : State) (e : Nat) : Nat :=
  match s.bands[s.get (UTX_CALTAB_HI_BAND e)]? with
  | some b => if b.lbt && s.flag (UTX_CALTAB_LO_PERMITTED e) then b.lbtUs else 0
  | none => 0

/-- Settling of a hop to entry `e` (R162, R163). -/
def State.settleTicks (s : State) (e : Nat) : Nat := Config.usTicks * (if s.flag (UTX_CALTAB_LO_VALID e) then 12 else 150)

/-- Length on the air in ticks. -/
def UtxSend.ticks (d : UtxSend) : Nat := Config.sTicks * d.bits / max 1 d.rate

/-- Counted airtime in µs (R171). -/
def UtxSend.airUs (d : UtxSend) : Nat := (1000000 * d.bits + d.rate - 1) / max 1 d.rate + 6

/-- The high-priority transmissions of R176. -/
def UtxSend.high (d : UtxSend) : Bool := d.prio || d.trig == 2

/-- The send in progress leaves the transmitter, which is free again at `freeAt`. -/
def State.utxFree (s : State) (freeAt : Nat) : State :=
  let s := s.modUtx fun u => { u with tx := none, freeAt := freeAt }
  let s := s.unitSettle 6
  s.utxBoundary

/-- UTX_TX_DONE (R194); of a send that was never on the air the POWER code used reads 0. -/
def State.utxRecord (s : State) (d : UtxSend) (ts quality outcome status : Nat) (slip : Int) (air power flags band : Nat) :
    State :=
  let fl := flags + 2 * bit01 d.crcFail
  let f : UtxFin := { id := d.id, outcome := outcome, status := status, at_ := s.time.now }
  let s := { s with utx := { s.utx with fin := s.utx.fin ++ [f] } }
  s.eventAt ts quality EV_UTX_TX_DONE
    (le 2 d.id ++ [byte outcome, byte status] ++ le 2 (satSigned 16 slip) ++ le 4 air ++ [byte power, byte fl, byte d.entry, byte band])

/-- A pending send completes without transmitting (R172, R194). -/
def State.utxRefuse (s : State) (d : UtxSend) (outcome status : Nat) (slip : Int) : State :=
  let s := s.modUtx fun u => { u with sends := u.sends.filter (·.id != d.id) }
  let s := if status = TX_LATE then (s.bump UTX_LATE_COUNT).raise FID_UTX_TX_LATE else s
  s.utxRecord d s.stamp s.quality outcome status slip 0 0 0 (s.get (UTX_CALTAB_HI_BAND d.entry))

/-- The FLAGS of the send in progress. -/
def UtxTx.flags (t : UtxTx) : Nat := bit01 t.clip + 4 * bit01 t.stored + 8 * bit01 t.overrode

/-- The send in progress completes without transmitting. -/
def State.utxGiveUp (s : State) (t : UtxTx) (outcome status : Nat) (slip : Int) : State :=
  let s := if status = TX_LATE then (s.bump UTX_LATE_COUNT).raise FID_UTX_TX_LATE else s
  let s := s.utxRecord t.send s.stamp s.quality outcome status slip 0 0 t.flags t.band
  s.utxFree s.time.now

/-- The carrier of the send in progress ramps down from instant `e` (R177, R192): the airtime until the end of the ramp is
counted (R182). Before the carrier rises nothing has been radiated. -/
def State.utxCut (s : State) (t : UtxTx) (e outcome status : Nat) : State :=
  if t.phase ≠ 3 then s.utxGiveUp t outcome status 0
  else
    let on := t.tAt - 4 * Config.usTicks
    let us := if s.time.now < on then 0 else (2 * Config.usTicks + e - on + Config.usTicks - 1) / Config.usTicks
    let s := s.addDuty t.band t.bin us
    let s := s.utxRecord t.send t.tRef t.quality outcome status t.slip us t.power t.flags t.band
    let s := s.modUtx fun u => { u with blankTo := min u.blankTo (6 * Config.usTicks + e)
                                        fem := u.fem.map fun f => { f with e := min f.e e } }
    s.utxFree (6 * Config.usTicks + e)

/-- The reference time `d` ticks from now. -/
def State.refAhead (s : State) (d : Nat) : Nat := (s.time.clockAdvance d).ref

/-- The slip in 0.1 µs of a send whose first bit falls at `t` (R172). -/
def UtxTx.slipAt (u : UtxTx) (t : Nat) : Int :=
  match u.reqT with | some r => ((t : Int) - r) / 250 | none => 0

/-- The first bit at instant `t` lies within the send's tolerance (R172). -/
def UtxTx.inTime (u : UtxTx) (t : Nat) : Bool :=
  match u.reqT with
  | some r => t ≤ r + (if u.send.trig = 1 then Config.usTicks * u.send.tol else 0)
  | none => true

/-- The FEM words in force (R165). -/
def State.femSeq (s : State) : FemSeq := { on := s.get UTX_FEM_ON, off := s.get UTX_FEM_OFF, ctl := s.get UTX_FEM_CTRL }

/-- COEX_GNT is active (R176, R196). -/
def State.gnt (s : State) : Bool := s.utx.gntPin != s.flag UTX_COEX_CFG_GNT_POL

/-- COEX_GNT becomes active or inactive. -/
def State.setGnt (s : State) (active : Bool) : State :=
  s.modUtx fun u => { u with gntPin := active != s.flag UTX_COEX_CFG_GNT_POL }

/-- The launch at the ball comes before the antenna by the delay of the external path of the transmit port (R36), which the image `ctl` of
UTX_FEM_CTRL names (R196). -/
def State.txDelay (s : State) (ctl : Nat) : Nat := s.get (if bitAt ctl 4 = 1 then TIME_EXT_DLY_B else TIME_EXT_DLY_A) % 2 ^ 16

/-- The bytes of send `d` on the air: a KAP frame whole, with the present WAKE_ID (R136, R170). -/
def State.airBytes (s : State) (d : UtxSend) : List Byte :=
  if d.format = 0 then kapAir (s.get LF_TEL_CFG_WAKE_ID) d.data else d.data

/-- The FEM sequence starts now and the send goes on air, or is too late (R36, R165, R166, R170, R172). -/
def State.utxOnAir (s : State) (t : UtxTx) : State :=
  let at_ := s.time.now + tenths t.send.lead
  if !t.inTime at_ then s.utxGiveUp t 1 TX_LATE (t.slipAt at_)
  else
    let e := at_ + t.send.ticks
    let t := { t with phase := 3, tAt := at_, eAt := e, tRef := s.refAhead (tenths t.send.lead), slip := t.slipAt at_
                      quality := s.quality, bin := s.utx.binNo, launchAt := at_ - s.txDelay t.send.fem.ctl
                      send := { t.send with data := s.airBytes t.send } }
    let f : FemRun := { seq := t.send.fem, t := at_, e := e, high := t.send.high }
    (s.modUtx fun u => { u with tx := some t, fem := some f, freeAt := 6 * Config.usTicks + e }).blank (6 * Config.usTicks + e)

/-- Grant is sampled at T − ON_LNA_LEAD (R176). -/
def State.utxAsk (s : State) (t : UtxTx) : State :=
  if !s.flag UTX_COEX_CFG_EN || s.gnt then s.utxOnAir t
  else if t.send.high && s.flag UTX_COEX_CFG_PRIO_OVERRIDE then
    (s.put UTX_COEX_STATUS_OVERRIDDEN 1).utxOnAir { t with overrode := true }
  else if !t.inTime (s.time.now + tenths t.send.lead) then
    s.utxGiveUp t 1 TX_LATE (t.slipAt (s.time.now + tenths t.send.lead))
  else
    let s := s.put UTX_COEX_STATUS_DENIED 1
    s.modUtx fun u => { u with tx := some { t with phase := 2, since := some s.time.now } }

/-- The instant asked for of T − ON_LNA_LEAD. -/
def UtxTx.reqSeq (t : UtxTx) : Nat := match t.reqT with | some r => r - tenths t.send.lead | none => 0

/-- The synthesiser is locked and the channel clear: the sequence starts at the later of now and the instant asked for
(R175). -/
def State.utxSequence (s : State) (t : UtxTx) : State := (s.advance t.reqSeq).utxAsk t

/-- A listen ends (R178): `busy` is the first 16 µs block that exceeded the threshold, none where the channel was clear. -/
def State.utxListen (s : State) (t : UtxTx) (busy : Option Nat) : State :=
  let l := s.lbtUs t.send.entry
  match busy with
  | none => (s.advance (t.listenFrom + Config.usTicks * l)).utxSequence t
  | some k =>
    let us := min l (16 * (k + 1))
    let s := s.advance (t.listenFrom + Config.usTicks * us)
    let s := (s.bump UTX_LBT_BUSY).raise FID_UTX_LBT_BUSY t.band
    let first := s.time.now + Config.usTicks * l + tenths t.send.lead
    if !t.inTime first then s.utxGiveUp t 1 TX_LATE (t.slipAt first)
    else
      let t := { t with since := some (t.since.getD t.listenFrom), listenFrom := s.time.now }
      s.modUtx fun u => { u with tx := some t }

/-- The slot of a ranging run that the `dur` ticks of reference time from `t` meet (R169, R220): its end. -/
def State.rangeSlotEnd (s : State) (t dur : Nat) : Option Nat :=
  match (s.range.run.bind (·.slot)).bind s.calSlot with
  | some c => if overlaps t dur c.time (tenthTicks c.duration) then some (c.time + tenthTicks c.duration) else none
  | none => none

/-- The time the transmitter needs from the hop of send `d` to E + 6 µs. -/
def State.utxNeed (s : State) (d : UtxSend) : Nat :=
  s.settleTicks d.entry + Config.usTicks * s.lbtUs d.entry + tenths d.lead + d.ticks + 6 * Config.usTicks

/-- The end of an accepted AT_TIME send that a transmission of `dur` ticks from reference time `t` would overlap (R169). -/
def State.atTimeEnd (s : State) (t dur : Nat) : Option Nat :=
  s.utx.sends.findSome? fun d => if d.trig = 1 && overlaps t dur d.from_ (d.to_ - d.from_) then some d.to_ else none

/-- The first reference time from `t` on at which the radio is free for send `d`: outside the slot of a ranging run, and an ASAP send
outside every accepted AT_TIME send (R169). -/
def State.utxFreeFrom (s : State) (d : UtxSend) : Nat → Nat → Nat
  | 0, t => t
  | fuel + 1, t =>
    match s.rangeSlotEnd t (s.utxNeed d), if d.trig = 0 then s.atTimeEnd t (s.utxNeed d) else none with
    | some e, _ => s.utxFreeFrom d fuel (max t e)
    | none, some e => s.utxFreeFrom d fuel (max t e)
    | none, none => t

/-- The reference time at which send `d` can start its hop; none while it waits for its trigger (R169, R175). -/
def State.utxTurn (s : State) (d : UtxSend) : Option Nat :=
  let now := s.time.ref + (s.utx.freeAt - s.time.now)
  let free := s.utxFreeFrom d 18
  match d.trig with
  | 0 => some (free now)
  | 1 => some (free (if d.preAt.isSome then now else max now d.from_))
  | _ => d.trigN.map fun _ => free now

/-- The send whose turn comes first. -/
def State.nextUtx (s : State) : List UtxSend → Option UtxSend
  | [] => none
  | d :: l =>
    match s.utxTurn d, s.nextUtx l with
    | none, r => r
    | some _, none => some d
    | some a, some b => match s.utxTurn b with | some c => if a ≤ c then some d else some b | none => some d

/-- Send `d` listens before it talks (R178). -/
def State.listens (s : State) (d : UtxSend) : Bool := d.trig ≠ 2 && s.lbtUs d.entry ≠ 0

/-- The synthesiser hops for send `d` (R163, R175, R201). -/
def State.utxHop (s : State) (d : UtxSend) (band : Nat) : State :=
  let b := s.bands.getD band ⟨0, 0, 0, 0, false, 0, 0⟩
  let runs : Bool := match s.utx.run with | some r => r.due.item < 2 | none => false
  let ran := runs || d.preAt.isSome
  let s := if runs then s.calPreempt else s
  let base := if d.trig = 2 then max (max d.commit s.utx.pllAt) s.utx.freeAt else max s.time.now (d.preAt.getD 0)
  let hop := if runs then s.time.now + Config.usTicks else base
  let req := match d.trig with
    | 1 => some (s.time.now + s.time.ticksToRef d.start)
    | 2 => d.trigN.map (· + 8 * Config.usTicks)
    | _ => none
  let req := if d.trig = 1 && d.start < s.time.ref then some (s.time.now - (s.time.ref - d.start)) else req
  let d := if d.trig = 2 then d else { d with lead := s.get UTX_FEM_ON_ON_LNA_LEAD, fem := s.femSeq }
  let t : UtxTx := { send := d, phase := 0, listen := s.listens d, hopAt := hop, lockAt := hop + s.settleTicks d.entry, reqT := req, band := band
                     power := min d.power b.maxPwr, clip := b.maxPwr < d.power, stored := ran && s.flag (UTX_CALTAB_LO_VALID d.entry) }
  let s := s.modUtx fun u => { u with tx := some t, sends := u.sends.filter (·.id != d.id), synth := none }
  s.notePeak.withdraw 6

/-- The checks at the start of send `d` (R164, R178, R180, R182, R532). -/
def State.utxBegin (s : State) (d : UtxSend) : State :=
  let e := d.entry
  let band := s.get (UTX_CALTAB_HI_BAND e)
  match (if s.flag (UTX_CALTAB_LO_PERMITTED e) then s.bands[band]? else none) with
  | none => s.utxRefuse d 1 REG_CHANNEL 0
  | some b =>
    if s.entFreq e < b.lo + d.halfSpan || b.hi < s.entFreq e + d.halfSpan then s.utxRefuse d 1 REG_CHANNEL 0
    else if (if d.high then b.dutyUs else s.dutySoft band) < s.dutyUsed band + d.airUs then
      (s.refuseDuty band d.high).utxRefuse d 1 REG_DUTY 0
    else if !s.fits ((if s.utx.run.isSome then 0 else 440) + (if s.listens d && !s.radioOn then 2240 else 0)) then
      s.refuseBudget.utxRefuse d 1 POWER_BUDGET 0
    else s.utxHop d band

/-- UTX_SEND_START (R169): the next send's turn comes and the synthesiser hops; while the send in progress listens, one
listen is made, `busy` telling its outcome. -/
def utxSendStart (busy : Option Nat) (s : State) : State :=
  match s.utx.tx with
  | some t => if t.phase = 1 && !s.urx.pllLost then s.utxListen t busy else s
  | none =>
    if !s.unitOn 6 || s.urx.pllLost || s.noRadio then s
    else
      match s.nextUtx s.utx.sends with
      | none => s
      | some d =>
        if d.lost then s.utxRefuse d 1 TX_LATE 0
        else
          let s := s.advance s.utx.freeAt
          let s := s.advanceRef ((s.utxTurn d).getD 0)
          s.utxBegin d

/-- SYNTH_LOCKED (R175): 12 µs or 150 µs after the hop; at `at_` where the lock timeout has passed. -/
def synthLocked (at_ : Nat) (s : State) : State :=
  match s.utx.tx with
  | none => s
  | some t =>
    if t.phase ≠ 0 || s.urx.pllLost then s
    else
      let s := s.advance (if t.lockLate then max at_ t.lockAt else t.lockAt)
      let s := s.modUtx fun u => { u with synth := some t.send.entry }
      let l := s.lbtUs t.send.entry
      if !t.listen then s.utxSequence t
      else
        let from_ := max s.time.now (t.reqSeq - Config.usTicks * l)
        s.modUtx fun u => { u with tx := some { t with phase := 1, listenFrom := from_ } }

/-- UTX_SYNTH_LOCK (R162): no lock within 200 µs of the hop; the send goes on waiting for lock. -/
def utxSynthLock (s : State) : State :=
  match s.utx.tx with
  | none => s
  | some t =>
    if t.phase ≠ 0 || t.lockLate then s
    else
      let s := s.advance (200 * Config.usTicks + t.hopAt)
      State.raise (s.modUtx fun u => { u with tx := some { t with lockLate := true } }) FID_UTX_SYNTH_LOCK

/-- COEX_GNT_RISE (R176). -/
def coexGntRise (at_ : Nat) (s : State) : State :=
  let s := (s.advance at_).setGnt true
  match s.utx.tx with
  | some t => if t.phase = 2 then s.utxOnAir t else s
  | none => s

/-- The next byte boundary of the send on air (R177); carrier without bytes ramps down at once. -/
def State.byteEnd (s : State) (t : UtxTx) : Nat :=
  let b := t.send.rate
  if t.send.format = 2 || s.time.now ≤ t.tAt then max s.time.now t.tAt
  else
    let k := ((s.time.now - t.tAt) * b + 8 * Config.sTicks - 1) / (8 * Config.sTicks)
    min t.eAt (t.tAt + Config.sTicks * (8 * k) / max 1 b)

/-- COEX_GNT_FALL (R177). -/
def coexGntFall (at_ : Nat) (s : State) : State :=
  let s := (s.advance at_).setGnt false
  match s.utx.tx with
  | some t =>
    if t.phase = 3 && s.time.now < t.eAt && !t.send.high && s.flag UTX_COEX_CFG_EN && s.flag UTX_COEX_CFG_HONOR_DROP then
      let e := s.byteEnd t
      (s.advance e).utxCut t e 2 BUSY
    else s
  | none => s

/-- COEX_WAIT_TIMEOUT (R172): an ASAP send has waited 100 ms; another's last instant within its tolerance has passed. -/
def coexWaitTimeout (s : State) : State :=
  match s.utx.tx with
  | none => s
  | some t =>
    match t.since with
    | none => s
    | some w =>
      match t.reqT with
      | none =>
        let s := s.advance (100 * Config.msTicks + w)
        if t.phase = 2 then s.utxGiveUp t 1 TX_LATE 0 else if t.phase = 1 then s.utxGiveUp t 1 BUSY 0 else s
      | some r =>
        if t.phase ≠ 2 then s
        else
          let s := s.advance (r + Config.usTicks * t.send.tol - tenths t.send.lead + 250)
          s.utxGiveUp t 1 TX_LATE (t.slipAt (s.time.now + tenths t.send.lead))

/-- The send waiting for its trigger frame whose START_TIME comes first. -/
def firstWait : List UtxSend → Option UtxSend
  | [] => none
  | d :: l =>
    match firstWait l with
    | none => if d.trig = 2 && d.trigN.isNone then some d else none
    | some x => if d.trig = 2 && d.trigN.isNone && d.start ≤ x.start then some d else some x

/-- AFTER_RX_TIMEOUT (R169): START_TIME comes before a sync on RX_CH. -/
def afterRxTimeout (s : State) : State :=
  match firstWait s.utx.sends with
  | none => s
  | some d => (s.advanceRef d.start).utxRefuse d 3 TIMEOUT 0

/-- UTX_TX_DONE (R168, R171, R194): the transmission reaches its end; `inTol` says whether the launch instant lay within the
turnaround's tolerance. -/
def utxTxDone (inTol : Bool) (s : State) : State :=
  match s.utx.tx with
  | none => s
  | some t =>
    if t.phase ≠ 3 then s
    else
      let s := s.advance t.eAt
      let air := t.send.airUs
      let s := (s.bump UTX_TX_COUNT).addDuty t.band t.bin air
      let s := if inTol then s else s.raise FID_UTX_TURNAROUND
      let s := s.utxRecord t.send t.tRef t.quality 0 OK t.slip air t.power (t.flags + 16 * bit01 !inTol) t.band
      s.utxFree (6 * Config.usTicks + t.eAt)

/-- A sync has been accepted on channel `n` now: AFTER_RX sends that wait for one take the frame as their trigger (R167, R169,
R174). -/
def State.utxTrigger (s : State) (n : Nat) : State :=
  let c := s.uch n
  if c.phase ≠ 2 || c.at_ ≠ s.time.now then s
  else
    let (len, _) := s.frameLen n c.hdr
    let nEnd := c.at_ - s.rxDelay n + s.bitTicks n (8 * len)
    let known := if s.get (URX_CH_CFG_LEN_MODE n) = 0 then c.at_ else c.at_ + s.bitTicks n 8
    s.modUtx fun u => { u with sends := u.sends.map fun d =>
      if d.trig = 2 && d.trigN.isNone && d.rxCh = n && s.stamp ≤ d.start then
        { d with trigN := some nEnd, commit := known } else d }

/-- The trigger frame on channel `n` has failed its CRC (R174). -/
def State.utxTrigCrc (s : State) (n : Nat) : State :=
  let bad (d : UtxSend) := if d.trig = 2 && d.rxCh = n && d.trigN.isSome then { d with crcFail := true } else d
  s.modUtx fun u => { u with sends := u.sends.map bad, tx := u.tx.map fun t => { t with send := bad t.send } }

/-! ### Commands -/

/-- The bit rate, bits and half span of a request (R135, R164, R170). -/
def sendShape (fmt mode rate dev cw len : Nat) : Nat × Nat × Nat :=
  match fmt with
  | 0 =>
    let (r, d) := match mode with | 0 => (50000, 25000) | 2 => (100000, 50000) | 1 => (19200, 12000) | _ => (50000, 25000)
    (r, 56 + 8 * (len + 2), d + r / 2)
  | 1 => (rate, 8 * len, if mode = 2 then rate else dev + (rate + 1) / 2)
  | _ => (1000000, cw, 1000)

/-- MOD and DEV of a request: KAP frames are 2-GFSK with the deviation of their profile and class, RAW as given, CW unmodulated (R135,
R170). -/
def sendMod (fmt mode dev : Nat) : Nat × Nat :=
  match fmt with
  | 0 => (1, match mode with | 2 => 50000 | 1 => 12000 | _ => 25000)
  | 1 => (mode, dev)
  | _ => (3, 0)

/-- The RATE, DEV, CW_US and LEN fields suit the FORMAT (R170, R197). -/
def sendFieldsOk (p : List Byte) : Bool :=
  let fmt := u8 p 4
  let mode := u8 p 5
  let rate := u32 p 16
  let dev := u32 p 20
  let cw := u32 p 24
  let len := u16 p 28
  match fmt with
  | 0 => mode < 4 && rate = 0 && dev = 0 && cw = 0 && within 1 253 len && kapLen (u8 p 32) == some (len + 2)
  | 1 => mode < 3 && within 2400 100000 rate && cw = 0 && within 1 255 len
           && (if mode = 2 then dev = 0 else rate ≤ 4 * dev && 2 * dev + rate ≤ 800000)
  | 2 => mode = 0 && rate = 0 && dev = 0 && within 1 100000 cw && len = 0
  | _ => false

/-- The TRIGGER, RX_CH, TOL_US and START_TIME fields suit one another (R197). -/
def State.sendTimeOk (s : State) (p : List Byte) : Bool :=
  match u8 p 0 with
  | 0 => u8 p 6 = 0 && u8 p 7 = 0 && u64 p 8 = 0
  | 1 => u8 p 6 = 0 && s.time.ref ≤ u64 p 8
  | 2 => u8 p 6 < 64 && u8 p 7 = 0 && s.time.ref ≤ u64 p 8
  | _ => false

/-- A send is accepted or refused (R167, R169, R175, R197): the state, the status and the SEND_ID. A running step of the synthesiser
that would meet an AT_TIME send's interval stops at once, and the send's entry is loaded then. -/
def State.utxQueue (s : State) (d : UtxSend) : State × Nat × Nat :=
  let lead := s.get UTX_FEM_ON_ON_LNA_LEAD
  let pre := tenths lead + Config.usTicks * s.lbtUs d.entry + s.settleTicks d.entry
  let d := { d with id := s.utx.sendId, lead := lead, fem := s.femSeq }
  let d := if d.trig = 1 then { d with from_ := d.start - pre, to_ := d.start + d.ticks + 6 * Config.usTicks } else d
  if 8 ≤ s.utx.sends.length + bit01 s.utx.tx.isSome || s.utx.fgItems ≠ 0 then (s, BUSY, d.id)
  else if !s.unitOn 6 || s.pwr.reduced || s.padHeld 3 || s.padHeld 9 || s.safeState || s.entFreq d.entry = 0 || (d.trig = 2 && 80 < lead)
      || (d.trig = 1 && (s.utx.sends ++ s.utx.tx.toList.map (·.send)).any fun x => x.trig = 1 && overlaps d.from_ (d.to_ - d.from_) x.from_ (x.to_ - x.from_)) then
    (s, BAD_STATE, d.id)
  else
    let meets : Bool := match s.utx.run with
      | some r => d.trig = 1 && r.due.item < 2 && d.from_ < s.time.ref + (r.start + r.dur - s.time.now)
      | none => false
    let s := if meets then s.calPreempt else s
    let d := if meets then { d with preAt := some (s.time.now + Config.usTicks) } else d
    let s := s.modUtx fun u => { u with sends := u.sends ++ [d], sendId := (u.sendId + 1) % 0x10000 }
    (s.withdraw 6, ACCEPTED, d.id)

/-- UTX_SEND (R169, R170, R197, R596). -/
def utxSend (m : Master) (p : List Byte) (s : State) : State :=
  let trig := u8 p 0
  let e := u8 p 2
  hostCmd 0x43 m p
    [(32 ≤ p.length && p.length == 32 + u16 p 28, BAD_LENGTH), paramOk (s.sendTimeOk p),
     paramOk (u8 p 1 < 2 && e < 128 && u8 p 3 < 64 && zeroAt p 30 2), paramOk (sendFieldsOk p)]
    (fun s =>
      let may := m == .m0 || (m == .m1 && u8 p 4 ≠ 0 && s.flag UTX_CTRL_HOST_TX)
      let (rate, bits, half) := sendShape (u8 p 4) (u8 p 5) (u32 p 16) (u32 p 20) (u32 p 24) (u16 p 28)
      let (md, dv) := sendMod (u8 p 4) (u8 p 5) (u32 p 20)
      if !may then s.ends ACCESS_DENIED
      else if s.sys.role ≠ 0 then s.ends BAD_STATE
      else
        match s.utxQueue { id := 0, trig := trig, prio := u8 p 1 = 1, entry := e, power := u8 p 3, format := u8 p 4
                           rate := rate, bits := bits, halfSpan := half, rxCh := u8 p 6, tol := u8 p 7, start := u64 p 8
                           lead := 0, data := p.drop 32, mod := md, dev := dv } with
        | (s, st, id) => (s, st, if st = ACCEPTED then le 2 id else [])) s

/-- The running step is to run again where it is the step of this item and entry, which has become due anew (R198). -/
def State.calAgain (s : State) (item idx : Nat) : State :=
  s.modUtx fun u => { u with run := u.run.map fun r => if r.due.item = item && r.due.idx = idx then { r with again := true } else r }

/-- The steps of a list that are due already take CAL_ID `id` (R194). -/
def State.calRename (s : State) (l : List CalDue) (id : Nat) : State :=
  let name (x : CalDue) : CalDue := if l.any fun d => d.item == x.item && d.idx == x.idx then { x with calId := id } else x
  s.modUtx fun u => { u with due := u.due.map name }

/-- UTX_HOP_TABLE (R164, R198). -/
def utxHopTable (m : Master) (p : List Byte) (s : State) : State :=
  let first := u8 p 0
  let n := u8 p 1
  let fs := (List.range n).map fun k => u32 p (4 + 4 * k)
  hostCmd 0x44 m p
    [(4 ≤ p.length && p.length == 4 + 4 * n, BAD_LENGTH), paramOk (within 1 128 n && first + n ≤ 128 && u8 p 2 < 2 && zeroAt p 3 1),
     paramOk (fs.all fun f => within 300000000 1000000000 f)]
    (fun s =>
      let held (d : UtxSend) := first ≤ d.entry && d.entry < first + n
      if s.utx.sends.any held || (match s.utx.tx with | some t => held t.send | none => false) then s.ends BAD_STATE
      else
        let q := s.utxQuiet
        let s := (List.range n).foldl (fun s k =>
          let f := fs.getD k 0
          let b := s.bandAt f 0
          let e := first + k
          let s := (s.stage q 6 (UTX_CALTAB_LO_FREQ_HZ e) f).stage q 6 (UTX_CALTAB_LO_VALID e) 0
          (s.stage q 6 (UTX_CALTAB_LO_PERMITTED e) (bit01 b.isSome)).stage q 6 (UTX_CALTAB_HI_BAND e) (b.getD 0)) s
        let bad := (fs.filter fun f => (s.bandAt f 0).isNone).length
        let s := if u8 p 2 = 0 then s
          else (List.range n).foldl (fun s k =>
            if (s.bandAt (fs.getD k 0) 0).isSome then (s.calMark 0 (first + k) 0xFFFF).calAgain 0 (first + k) else s) s
        (s, OK, [byte n, byte bad])) s

/-- RF_CALIBRATE (R104, R183, R185, R199). -/
def rfCalibrate (m : Master) (p : List Byte) (s : State) : State :=
  let items := u8 p 0
  let fg := u8 p 1 = 1
  hostCmd 0x45 m p [lenIs p 4, paramOk (within 1 31 items && u8 p 1 < 2 && u8 p 2 < 2 && zeroAt p 3 1)]
    (fun s =>
      let has (k : Nat) := bitAt items k == 1
      let id := s.utx.calId
      let mk (k i : Nat) : CalDue := { item := k, idx := i, calId := id }
      let list := (if has 0 then s.calEntries.map (mk 0) else []) ++ (if has 1 then [mk 1 0] else [])
        ++ (if has 3 then [mk 3 0, mk 3 1] else [])
      let all := list ++ (if fg && has 2 then [mk 2 0, mk 2 1] else [])
      let len := sumNat (all.map fun d => stepTicks d.item)
      let sendHeld := !s.utx.sends.isEmpty || s.utx.tx.isSome
      let off := s.urx.wins.all (·.st == .off)
      let unmet := ((has 0 || has 1) && sendHeld) || ((has 2 || has 3) && !off) || (has 2 && s.urx.gather.st = 1)
      if !s.unitOn 6 || s.pwr.reduced || s.padHeld 3 || s.padHeld 9 || s.safeState then s.ends BAD_STATE
      else if fg && (unmet || s.utx.fgItems ≠ 0 || s.exclusiveOver resRadio s.time.ref len) then s.ends BAD_STATE
      else if fg && !all.isEmpty && s.utx.run.isNone && !s.fits 440 then s.refuseBudget.ends POWER_BUDGET
      else
        let s := s.modUtx fun u => { u with calId := (id + 1) % 0xFFFF }
        let s := if has 4 then
            let s := { s with lf := { s.lf with calIds := List.replicate 12 id, calFgSave := s.lf.calFgSave || (fg && u8 p 2 = 1) } }
            (List.range 12).foldl (fun s n => s.lfCalMark n) s
          else s
        let s := if fg then
            let s := (s.calStop.calRename all id).modUtx fun u => { u with fg := all, fgItems := items, fgSave := u8 p 2 = 1 }
            s.calNextFg
          else list.foldl (fun s d => s.calMark d.item d.idx id) s
        (s, ACCEPTED, le 2 id)) s

/-- RF_CAL_STATUS (R200). -/
def rfCalStatus (m : Master) (p : List Byte) (s : State) : State :=
  hostCmd 0x46 m p [lenIs p 0]
    (fun s =>
      let hd := [byte (ofSigned 8 s.sys.temp), byte s.validEntries.length, byte (satNat 8 (s.utx.due.length + s.lf.calDue.length)), 0]
      let blk (k : Nat) : List Byte :=
        let (v, st, t, at_) := s.calShown k
        let age := if v then (s.time.lp - at_) / 32768 else 0
        [byte (bit01 v), byte (bit01 st), byte (ofSigned 8 t), 0] ++ le 4 (satNat 32 age)
      (s, OK, hd ++ (List.range 5).flatMap blk)) s

/-- COEX_CONFIG (R201). -/
def coexConfig (m : Master) (p : List Byte) (s : State) : State :=
  let v := u32 p 0
  hostCmd 0x48 m p [lenIs p 4, paramOk (bitsAt v 4 4 = 0 && bitsAt v 16 16 = 0 && 1 ≤ bitsAt v 8 8)]
    (fun s =>
      if s.flag UTX_CTRL_LOCK && v ≠ s.get UTX_COEX_CFG then s.ends ACCESS_DENIED
      else (s.stage s.utxQuiet 6 UTX_COEX_CFG v).ok) s

/-- The delays of R165 keep their ranges. -/
def femOk (on off : Nat) : Bool :=
  let lna := bitsAt on 0 8
  let tr := bitsAt on 8 8
  let pa := bitsAt on 16 8
  let opa := bitsAt off 0 8
  let otr := bitsAt off 8 8
  let olna := bitsAt off 16 8
  41 ≤ pa && pa ≤ tr && tr ≤ lna && within 20 50 opa && opa ≤ otr && otr ≤ olna && olna ≤ 50

/-- FEM_SEQ_CONFIG (R165, R201). -/
def femSeqConfig (m : Master) (p : List Byte) (s : State) : State :=
  let on := u32 p 0
  let off := u32 p 4
  let ctl := u32 p 8
  hostCmd 0x49 m p [lenIs p 12, paramOk (femOk on off && on < 2 ^ 24 && off < 2 ^ 24 && ctl < 32)]
    (fun s =>
      if s.flag UTX_CTRL_LOCK && (on ≠ s.get UTX_FEM_ON || off ≠ s.get UTX_FEM_OFF || ctl ≠ s.get UTX_FEM_CTRL) then
        s.ends ACCESS_DENIED
      else
        let q := s.utxQuiet
        (((s.stage q 6 UTX_FEM_ON on).stage q 6 UTX_FEM_OFF off).stage q 6 UTX_FEM_CTRL ctl).ok) s

/-! ### Unit, loss of lock, fence (R190 to R192) -/

/-- Pending sends complete with this status; those waiting for their trigger too. -/
def State.utxRefuseAll (s : State) (status : Nat) : State := s.utx.sends.foldl (fun s d => s.utxRefuse d 1 status 0) s

/-- The sends with these SEND_IDs that are not on the air complete with `status` and transmit nothing: pending ones, and the one that hops,
listens or waits for grant. -/
def State.utxWithdraw (s : State) (ids : List Nat) (status : Nat) : State :=
  let s := (s.utx.sends.filter fun d => ids.contains d.id).foldl (fun s d => s.utxRefuse d 1 status 0) s
  match s.utx.tx with
  | some t => if t.phase ≠ 3 && ids.contains t.send.id then s.utxGiveUp t 1 status 0 else s
  | none => s

/-- EN of UTX is cleared (R190). -/
def State.utxOff (s : State) : State :=
  let s := (s.utxRefuseAll BAD_STATE).calPreempt
  s.unitSwitch 6 false s.utx.tx.isSome

/-- A fence of UTX or the safe state (R192). -/
def State.utxStop (s : State) (status : Nat) : State :=
  let s := s.utxRefuseAll status
  let s := match s.utx.tx with
    | some t => s.utxCut t s.time.now 4 status
    | none => s
  let s := match s.utx.run with
    | some r => (s.modUtx fun u => { u with run := none, fg := [], fgItems := 0 }).calUnplace (s.dueNow r.due)
    | none => s
  s.modUtx fun u => { u with synth := none }

/-- Loss of RF PLL lock as UTX sees it (R192): the carrier stops at once. A send whose trigger frame is lost before its length is
known is never committed, and is late (notes/assumptions/153.md). -/
def State.utxPllLost (s : State) : State :=
  let s := match s.utx.tx with
    | some t =>
      if t.phase = 3 then
        let s := s.utxCut t (s.time.now - 2 * Config.usTicks) 4 BAD_STATE
        s.utxFree s.time.now
      else s.modUtx fun u => { u with tx := none, sends := t.send :: u.sends }
    | none => s
  s.modUtx fun u => { u with synth := none, sends := u.sends.map fun d =>
    if d.trigN.isSome && s.time.now < d.commit then { d with lost := true } else d }

/-- UTX has no reason to refuse an entry (R191). -/
def State.utxIdle (s : State) : Bool := s.utx.sends.isEmpty && s.utxQuiet

end Sys2Proof.Machine
end

