-- ==== Sys2Proof/Machine/Poll.lean ====
section
/-!
DEFINITION. Machine/Poll.lean: the poll sequencer, its response windows and handle telegrams (R91 to R98, R111, R115, R116,
R142, R143, R145).
-/
namespace Sys2Proof.Machine

/-- PSTATE (R95). -/
def State.pstate (s : State) : Nat := s.get LF_POLL_STATUS_PSTATE
/-- PSTATE becomes `v`. -/
def State.setPstate (s : State) (v : Nat) : State := s.put LF_POLL_STATUS_PSTATE v

/-- A period in ms as ticks. -/
def msOf (n : Nat) : Nat := Config.msTicks * n

/-- The period becomes `p` for cause `c` (R93, R107); PSTATE is BACKOFF while it exceeds PERIOD_MS. LF_POLL_BACKOFF carries cause 3
also where a write of PERIOD_MS or LF_POLL_START changes the period (DESIGN CHOICE, notes/assumptions/141.md). -/
def State.setPeriod (s : State) (p c : Nat) : State :=
  let old := s.lf.period
  let s := { s with lf := { s.lf with period := p } }
  let s := if s.pstate = 2 || s.pstate = 3 then s.setPstate (if s.get LF_POLL_CFG_PERIOD_MS < p then 3 else 2) else s
  if old = p then s else s.event EV_LF_POLL_BACKOFF (le 2 old ++ le 2 p ++ [byte c])

/-- restore() of R93. -/
def State.pollRestore (s : State) (c : Nat) : State :=
  State.setPeriod { s with lf := { s.lf with count := 0, misses := 0, rssiRef := none } } (s.get LF_POLL_CFG_PERIOD_MS) c

/-- The next burst falls due at reference time `t`: slot 56 (R45). -/
def State.setBurst (s : State) (t : Nat) : State :=
  s.setCalSlot 56 (some (ownSlot 56 4 resLf t (cycTicks 250 (s.get LF_CARRIER_FREQ_HZ)) false))

/-- The idle-stop deadline: slot 58 (R94). -/
def State.setDeadline (s : State) : State :=
  s.setCalSlot 58 (some (ownSlot 58 4 0 (s.refNow + Config.sTicks * (86400 * s.get LF_POLL_CFG_STOP_DAYS)) 0 false))

/-- Whole days since the last restart event (R94). -/
def State.idleDays (s : State) : Nat := (s.time.lp - s.lf.restartLp) / lpOfS 86400

/-- The count of idle days restarts (R94); a deadline that is set moves with it. -/
def State.restartCount (s : State) : State :=
  let s := { s with lf := { s.lf with restartLp := s.time.lp } }
  if (s.calSlot 58).isSome then s.setDeadline else s

/-- The first burst falls in the earliest LF gap at least 1 ms from now (R94), once no start-up calibration is before it (R104); where
the calendar has no gap it is placed when a slot is freed (R52). -/
def State.firstBurst (s : State) : State :=
  if s.lfCalFirst then s
  else
    match s.gap resLf [56, 57] (Config.msTicks + s.refNow) (cycTicks 250 (s.get LF_CARRIER_FREQ_HZ)) with
    | some t => s.setBurst t
    | none => s

/-- Polling that has waited for the start-up calibration places its first burst (R104). -/
def State.pollHeld (s : State) : State :=
  if (s.pstate = 2 || s.pstate = 3) && (s.calSlot 56).isNone then s.firstBurst else s

/-- LF_CAL_DONE (R104, R107). -/
def lfCalDone (n : Fin 12) (outcome : Fin 3) (temp : BitVec 8) (s : State) : State :=
  (s.lfCalDone n outcome temp.toInt).calPlace.pollHeld

/-- The generator has passed its start-up tests (R95); while the core domain is off, what stood when it lost power holds (R96). -/
def State.rngPassed (s : State) : Bool :=
  (3 ≤ s.pwr.st.num && s.lf.genPassed) || s.get TRNG_STATUS_GEN == genReady || s.get TRNG_STATUS_GEN == genReseeding

/-- Polling enters RUNNING or WAIT_RNG (R95). -/
def State.pollRun (s : State) : State :=
  let s := State.setDeadline { s with lf := { s.lf with period := s.get LF_POLL_CFG_PERIOD_MS, idleWait := false } }
  if s.rngPassed then (s.setPstate 2).firstBurst else s.setPstate 1

/-- The generator is ready, and polling leaves WAIT_RNG (R95). -/
def State.pollRngReady (s : State) : State :=
  if s.pstate = 1 then
    (State.setPstate { s with lf := { s.lf with period := s.get LF_POLL_CFG_PERIOD_MS } } 2).firstBurst
  else s

/-- A restart event (R94): the count restarts and the period is restored. -/
def State.restartEvent (s : State) : State := s.restartCount.pollRestore 3

/-- Polling resumes from IDLE_STOP (R94): cause 0 handle, 1 door, 2 command, 3 FD_WAKE. -/
def State.pollResume (s : State) (cause : Nat) : State :=
  if s.pstate ≠ 4 then s
  else
    let s := (s.setPstate 2).restartEvent.setDeadline
    (s.event EV_LF_POLL_RESUME [byte cause]).firstBurst

/-- LF_POLL_START as the command and as the calendar action (R95, R96, R116): its status. -/
def State.pollStart (s : State) : State × Nat :=
  if s.fenced 4 then (s, FENCED)
  else if s.sys.role ≠ 0 || !s.unitOn 4 || !s.patDefined (s.get LF_POLL_CFG_POLL_PAT) || s.safeState || s.pwr.lockout then (s, BAD_STATE)
  else if !s.lfRangeOk (s.get LF_CARRIER_FREQ_HZ) then (s, REG_CHANNEL)
  else
    match s.pstate with
    | 0 => (s.restartEvent.pollRun, OK)
    | 4 => (s.pollResume 2, OK)
    | 6 => (s.restartEvent.setPstate 7, OK)
    | _ => (s.restartEvent, OK)

/-- A burst or response window is under way. -/
def State.pollBusy (s : State) : Bool :=
  s.lf.window.isSome || (match s.lf.tx with | some t => t.kind == 2 | none => false)

/-- Polling reaches STOPPED: no burst is due (R95). -/
def State.pollHalt (s : State) : State :=
  let s := ((s.setCalSlot 56 none).setCalSlot 57 none).setCalSlot 58 none
  State.setPstate { s with lf := { s.lf with deferred := none, idleWait := false } } 0

/-- LF_POLL_STOP as the command and as the calendar action (R95, R96, R116). With no burst or window under way, polling passes STOPPING
at once and is STOPPED, from IDLE_STOP too (DESIGN CHOICE, notes/assumptions/168.md). -/
def State.pollStop (s : State) : State :=
  match s.pstate with
  | 0 => s
  | 6 => s
  | 7 => s.setPstate 6
  | _ => if s.pollBusy then (s.setCalSlot 56 none).setPstate 6 else s.pollHalt

/-- LF_POLL_START (R116). -/
def lfPollStart (m : Master) (p : List Byte) (s : State) : State :=
  hostCmd 0x34 m p [lenIs p 0]
    (fun s =>
      if s.sys.role ≠ 0 then s.ends BAD_STATE
      else let (s, st) := s.pollStart; (s, st, if st = OK then [byte s.pstate] else [])) s

/-- LF_POLL_STOP (R116). -/
def lfPollStop (m : Master) (p : List Byte) (s : State) : State :=
  hostCmd 0x35 m p [lenIs p 0] (fun s => let s := s.pollStop; (s, OK, [byte s.pstate])) s

/-- A change of a poll setting that waits for the end of the response window. -/
def pollChange (f : Field) (v : Nat) : Staged := { block := 4, addr := f.addr, lsb := f.lsb, width := f.width, value := v }

/-- The changes of a poll configuration (R111, R115). -/
def pollChanges (p : List Byte) : List Staged :=
  [pollChange LF_POLL_CFG (u16 p 0 + 2 ^ 11 * u8 p 2 + 2 ^ 16 * u8 p 3 + 2 ^ 20 * u8 p 13 + 2 ^ 25 * u8 p 12),
   pollChange LF_POLL_BO (u8 p 8 + 2 ^ 8 * u8 p 9 + 2 ^ 16 * u16 p 10),
   pollChange LF_POLL_RWIN (u16 p 4 + 2 ^ 16 * u16 p 6), pollChange LF_TEL_PAT_H_NPAT (u8 p 14)] ++
  (List.range 4).map fun k => pollChange (LF_POLL_HPAT k) (u32 p (16 + 4 * k))

/-- A poll setting takes its new value; BO_MAX_MS follows PERIOD_MS up (R111). -/
def State.pollSet (s : State) (c : Staged) : State :=
  let s := s.put ⟨c.addr, c.lsb, c.width⟩ c.value
  if s.get LF_POLL_BO_BO_MAX_MS < s.get LF_POLL_CFG_PERIOD_MS then s.put LF_POLL_BO_BO_MAX_MS (s.get LF_POLL_CFG_PERIOD_MS) else s

/-- The idle-stop deadline follows STOP_DAYS, which was `old` (R94, R111). -/
def State.moveDeadline (s : State) (old : Nat) : State :=
  match s.calSlot 58 with
  | some c => s.setCalSlot 58 (some { c with time := c.time + Config.sTicks * (86400 * s.get LF_POLL_CFG_STOP_DAYS)
      - Config.sTicks * (86400 * old) })
  | none => s

/-- The poll settings that waited take effect (R111). A PERIOD_MS written during BACKOFF leaves the larger of it and the current period
(DESIGN CHOICE, notes/assumptions/168.md). -/
def State.pollApply (s : State) : State :=
  let old := s.get LF_POLL_CFG_PERIOD_MS
  let days := s.get LF_POLL_CFG_STOP_DAYS
  let s := State.moveDeadline (s.lf.pollPend.foldl State.pollSet { s with lf := { s.lf with pollPend := [] } }) days
  let new := s.get LF_POLL_CFG_PERIOD_MS
  if old ≠ new && (s.pstate = 2 || s.pstate = 3) then s.setPeriod (max new (if s.pstate = 3 then s.lf.period else 0)) 3 else s

/-- Polling enters IDLE_STOP (R94). -/
def State.idleStop (s : State) : State :=
  let s := (s.setCalSlot 56 none).setCalSlot 58 none
  let s := State.setPstate { s with lf := { s.lf with idleWait := false, deferred := none } } 4
  (s.put LF_POLL_STATUS_IDLE_STOPPED 1).event EV_LF_POLL_IDLE_STOP [byte (s.get LF_POLL_CFG_STOP_DAYS)]

/-- Polling enters IDLE_STOP where its days have passed, or the stop that waited for the window comes (R94, R111). -/
def State.idleCheck (s : State) : State :=
  if (s.pstate = 2 || s.pstate = 3) && (s.lf.idleWait || s.get LF_POLL_CFG_STOP_DAYS ≤ s.idleDays) then s.idleStop else s

/-- Poll settings change: at the end of the current response window, or now where none is open (R111). -/
def State.pollStage (s : State) (l : List Staged) : State :=
  let s := { s with lf := { s.lf with pollPend := s.lf.pollPend ++ l } }
  if s.pollBusy then s else s.pollApply.idleCheck

/-- LF_POLL_CONFIG (R115). -/
def lfPollConfig (m : Master) (p : List Byte) (s : State) : State :=
  let n := u8 p 14
  let pats := (List.range n).map fun k => u8 p (16 + k)
  hostCmd 0x33 m p
    [lenIs p 36, paramOk (within 100 2000 (u16 p 0) && u8 p 2 < 32 && u8 p 3 < 16),
     paramOk (within 100 5000 (u16 p 4) && within 500 10000 (u16 p 6)), paramOk (1 ≤ u8 p 9),
     paramOk (u16 p 0 ≤ u16 p 10 && u16 p 10 ≤ 8000), paramOk (within 1 63 (u8 p 12) && u8 p 13 < 32 && n ≤ 16),
     paramOk (zeroAt p 15 1 && zeroAt p 32 4 && pats.all (· < 32) && zeroAt p (16 + n) (16 - n))]
    (fun s =>
      if !s.patDefined (u8 p 2) || !pats.all s.patDefined then s.ends BAD_STATE
      else (s.pollStage (pollChanges p)).ok) s

/-! ### Bursts and windows -/

/-- The entries of POLL_PAT that can be driven (R83). -/
def State.pollPat (s : State) : List LfEntry := (s.lfPat (s.get LF_POLL_CFG_POLL_PAT)).filter fun e => s.lfDrivable e.ch

/-- A burst is skipped and counted (R92). -/
def State.skipBurst (s : State) : State := s.bump LF_POLL_SKIP

/-- The burst starts now (R91): 250 carrier cycles, then the response window in slot 57. -/
def State.beginBurst (s : State) : State :=
  let f := s.get LF_CARRIER_FREQ_HZ
  let sd : LfSend := { id := 0, typ := 2, pats := [], preempt := false, atTime := none, nb := none }
  let t : LfTx := { kind := 2, send := sd, tel := s.pollPat, slots := [], mask := 0, start := s.time.now, freq := f
                    pre := 122, body := 250, gap := 250, len := 250, bits := pollBits (s.get LF_POLL_CFG_POLL_CODE)
                    ramps := s.lfRamps, trims := s.lfTrims }
  let st := t.stopAt + Config.usTicks * s.get LF_POLL_RWIN_RWIN_START_US
  let len := Config.usTicks * s.get LF_POLL_RWIN_RWIN_LEN_US
  let w : PollWindow := { start := st, stop := st + len, burst := some t }
  let s := State.lfBegin { s with lf := { s.lf with deferred := none, window := some w } } t
  (s.bump LF_POLL_BURSTS).setCalSlot 57 (some (ownSlot 57 4 resRadio (s.refNow + (st - s.time.now)) len false))

/-- The response window that a burst starting `d` ticks from now would have is free of EXCLUSIVE RADIO slots (R92). -/
def State.windowFree (s : State) (d : Nat) : Bool :=
  let st := s.refNow + d + cycTicks 250 (s.get LF_CARRIER_FREQ_HZ) + Config.usTicks * s.get LF_POLL_RWIN_RWIN_START_US
  !s.exclusiveOver resRadio st (Config.usTicks * s.get LF_POLL_RWIN_RWIN_LEN_US)

/-- POLL_BURST (R91, R92): the burst of slot 56 falls due; `stable` says whether the reference is stable in time. Polling goes on with
the block OFF (DESIGN CHOICE, notes/assumptions/168.md). -/
def pollBurst (stable : Bool) (s : State) : State :=
  match (if s.pstate = 2 || s.pstate = 3 then s.calSlot 56 else none) with
  | none => s
  | some c =>
    let s := (s.advanceRef c.time).burstOver []
    let s := s.setBurst (c.time + msOf s.lf.period)
    if !stable && s.asleep then s.skipBurst
    else if !s.lfRangeOk (s.get LF_CARRIER_FREQ_HZ) || s.pollPat.isEmpty then s.skipBurst
    else
      match s.lf.tx with
      | some t =>
        let e := s.refNow + (t.stopAt - s.time.now)
        match s.gap resLf [56, 57] e (cycTicks 250 (s.get LF_CARRIER_FREQ_HZ)) with
        | some g =>
          if g ≤ c.time + 20 * Config.msTicks && s.windowFree (g - s.refNow) then
            { s with lf := { s.lf with deferred := some g } }
          else s.skipBurst
        | none => s.skipBurst
      | none =>
        if s.exclusiveOver resLf s.refNow (cycTicks 250 (s.get LF_CARRIER_FREQ_HZ)) then
          (s.bump TIME_CAL_SKIP).skipBurst
        else if s.windowFree 0 then s.beginBurst else s.skipBurst

/-- POLL_BURST_DEFERRED (R92), with the checks of a burst (R74, R83, R95). -/
def pollBurstDeferred (s : State) : State :=
  match (if s.pstate = 2 || s.pstate = 3 then s.lf.deferred else none) with
  | none => s
  | some t =>
    let s := (s.advanceRef t).burstOver []
    if s.lf.tx.isSome || s.pollPat.isEmpty || !s.lfRangeOk (s.get LF_CARRIER_FREQ_HZ) then
      State.skipBurst { s with lf := { s.lf with deferred := none } }
    else s.beginBurst

/-- The response window becomes `w`. -/
def State.setWindow (s : State) (w : Option PollWindow) : State := { s with lf := { s.lf with window := w } }

/-- SENTINEL_POWER_UP (R136, R142): 150 µs before the response window, with the sync word of the current WAKE_ID. -/
def sentinelPowerUp (s : State) : State :=
  match s.lf.window with
  | none => s
  | some w =>
    let s := s.advance (w.start - 150 * Config.usTicks)
    let s := s.burstOver []
    if w.on || !s.flag URX_SENT_CFG_EN || s.fenced 5 || s.urx.sentBad then s
    else s.setWindow (some { w with on := true, sync := kapSync (s.get LF_TEL_CFG_WAKE_ID) })

/-- A bit period of the answer class of the sentinel's profile (R135), times `k`, in ticks. -/
def State.sentBits (s : State) (k : Nat) : Nat :=
  Config.sTicks * k / (if s.flag URX_SENT_CFG_PROFILE then 19200 else 50000)

/-- An RSSI step that waits for the response window starts no earlier than `t` (R189). -/
def State.rssiAfter (s : State) (t : Nat) : State :=
  s.modUtx fun u => { u with run := u.run.map fun r => if r.due.item = 3 && s.time.now ≤ r.start then { r with start := max r.start t } else r }

/-- A frame taken by the sentinel ends at `at_` (R91, R142, R143): an accepted POLL_ANSWER is a hit, counted, queued and a
wake source; a wrong CRC is counted. The hit is stamped with the frame instant, from which the delay of the path to RFA is removed (R35,
R36, R127; DEDUCED, notes/assumptions/169.md). -/
def pollAnswer (frame : List Byte) (rssi : BitVec 16) (at_ : Nat) (s : State) : State :=
  let s := (s.advance at_).burstOver []
  match s.lf.window with
  | none => s
  | some w =>
    let sync := s.time.now - s.sentBits (8 * frame.length)
    if !w.on || w.hit.isSome || sync < w.start || w.stop < sync then s
    else
      let s := s.setWindow (some { w with busy := s.time.now })
      if frame.length ≠ 7 || u8 frame 0 ≠ 0x40 then s
      else if !frameCrcOk frame then s.bump URX_SENT_CRCERR
      else
        let r := s.rssiAtAntenna rssi
        let t := s.refAt sync - s.get TIME_EXT_DLY_A % 2 ^ 16
        let q := s.qualityAt sync
        let s := s.setWindow (some { w with hit := some (toSigned 16 r), hitRef := t, busy := s.time.now })
        let s := (s.put URX_SENT_STATUS_LAST_RSSI r).bump LF_POLL_HITS
        let s := s.rssiAfter s.time.now
        let s := s.eventAt t q EV_LF_POLL_HIT (le 2 r ++ (frame.drop 1).take 4 ++ le 2 s.lf.period ++ [byte s.lf.count])
        s.wakeSource 5 0 true

/-- The jammed run of R145 after a window that was jammed or not. -/
def State.sentJamRun (s : State) (jammed : Bool) (level : Nat) : State :=
  if jammed then
    let s := s.bump URX_SENT_STATUS_JAM_RUN
    if s.get URX_SENT_CFG_SENT_JAM_N ≤ s.get URX_SENT_STATUS_JAM_RUN && !s.urx.sentJam then
      let s := { s with urx := { s.urx with sentJam := true, sentJamAt := s.time.now } }
      let s := (s.put URX_JAM_STATUS_SENT_JAM_SEEN 1).event EV_URX_JAM (0xFF :: le 2 level)
      s.raise FID_URX_JAMMING
    else s
  else
    let s := s.put URX_SENT_STATUS_JAM_RUN 0
    if s.urx.sentJam then
      let d := (s.time.now - s.urx.sentJamAt) / Config.msTicks
      State.event { s with urx := { s.urx with sentJam := false } } EV_URX_JAM_CLEAR (0xFF :: le 4 (satNat 32 d))
    else s

/-- Back-off on a hit (R93). -/
def State.pollHit (s : State) (rssi : Int) : State :=
  let s := { s with lf := { s.lf with misses := 0 } }
  let near : Bool := match s.lf.rssiRef with
    | some r => decide (r + 2 * s.get LF_POLL_BO_BO_RSSI ≤ rssi) | none => false
  if near then s.pollRestore 1
  else
    let ref := match s.lf.rssiRef with | some r => r | none => rssi
    let n := s.lf.count + 1
    let s := { s with lf := { s.lf with rssiRef := some ref, count := n } }
    if s.get LF_POLL_BO_BO_COUNT ≠ 0 && n = s.get LF_POLL_BO_BO_COUNT then
      State.setPeriod { s with lf := { s.lf with count := 0 } }
        (min (2 * s.lf.period) (s.get LF_POLL_BO_BO_MAX_MS)) 0
    else s

/-- Back-off on a miss (R93). -/
def State.pollMiss (s : State) : State :=
  let n := s.lf.misses + 1
  let s := { s with lf := { s.lf with misses := n } }
  if n = 2 then s.pollRestore 2 else s

/-- After the window: waiting settings, the next grid step, and the stop or idle stop that waited (R93 to R95, R111). -/
def State.pollAfter (s : State) (old : Nat) : State :=
  let s := s.pollApply
  let s := match s.calSlot 56 with
    | some c => if s.lf.period ≠ old then s.setBurst (c.time - msOf old + msOf s.lf.period) else s
    | none => s
  match s.pstate with
  | 6 => s.pollHalt
  | 7 => s.pollHalt.restartEvent.pollRun
  | _ => s.idleCheck

/-- The response window ends (R93, R143, R145): `level` is the least RSSI of the sentinel through the window; where a hit
restores the poll period, the result is its timestamp (R303). -/
def State.pollWindowEnd (s : State) (level : BitVec 16) (meas : List LfMeas) : State × Option Nat :=
  match s.lf.window with
  | none => (s, none)
  | some w =>
    let s := (s.advance (max w.stop w.busy)).burstOver []
    let s := match w.burst with | some t => meas.foldl (fun (s : State) m => s.lfMeasured t m) s | none => s
    let lv := s.rssiAtAntenna level
    let jammed := w.on && w.hit.isNone && (-4 * (s.get URX_SENT_CFG_SENT_JAM_THR : Int)) < toSigned 16 lv
    let blanked := s.utx.blankFrom < w.stop && w.start < s.utx.blankTo
    let void := jammed || w.void || blanked || !w.on || s.fenced 5 || !s.flag URX_SENT_CFG_EN || s.urx.sentBad
    let s := (s.setWindow none).setCalSlot 57 none
    let s := s.sentJamRun jammed lv
    let old := s.lf.period
    let s := match w.hit with
      | some r => s.pollHit r
      | none => if void then s.bump URX_SENT_VOID else s.pollMiss
    (s.pollAfter old, if w.hit.isSome && s.lf.period < old then some w.hitRef else none)

/-- LF_POLL_IDLE_STOP (R94): STOP_DAYS days have passed since the last restart event. -/
def lfPollIdleStop (s : State) : State :=
  if s.pstate ≠ 2 && s.pstate ≠ 3 && s.pstate ≠ 5 then s
  else
    let s := s.advanceLp (s.lf.restartLp + s.get LF_POLL_CFG_STOP_DAYS * lpOfS 86400)
    if s.pollBusy || s.pstate = 5 then { s with lf := { s.lf with idleWait := true } } else s.idleStop

/-! ### KICK, nonce, handle edges -/

/-- A KICK that reaches the sequencer (R94): a restart event; in STOPPED the count alone restarts. It does not end IDLE_STOP. -/
def State.pollKick (s : State) : State := if s.pstate = 0 then s.restartCount else s.restartEvent

/-- A write of LF_POLL_CMD.KICK (R94). -/
def kick (m : Master) (s : State) : State := s.onBus m LF_POLL_CMD.addr 1 State.pollKick

/-- The loaded handle nonce is erased, and the words it was written in (R30, R111). -/
def State.nonceClear (s : State) : State := s.nonceErase

/-- A write of LF_POLL_CMD.NONCE_CLR (R111). -/
def nonceClr (m : Master) (s : State) : State := s.onBus m LF_POLL_CMD.addr 1 State.nonceClear

/-- Word `k` of the handle nonce is written; the last completes it (R108). -/
def State.nonceWord (s : State) (k : Nat) (v : Word) : State :=
  let s := s.put (LF_HNONCE k) v.toNat
  if k = 3 then
    let nb := (List.range 4).flatMap fun j => le 4 (s.get (LF_HNONCE j))
    State.put { s with lf := { s.lf with nonce := some nb } } LF_POLL_STATUS_NONCE_LOADED 1
  else s

/-- LF_HNONCE3_WRITE (R108). -/
def lfHnonce3Write (m : Master) (v : Word) (s : State) : State := s.onBus m (LF_HNONCE 3).addr 1 (State.nonceWord · 3 v)

/-- HANDLE_IN input `i` starts telegrams (R97). -/
def State.handleOn (s : State) (i : Nat) : Bool := s.bit LF_POLL_CFG_HANDLE_MASK i

/-- The level of HANDLE_IN input `i` that counts as a handle edge: PWR_WAKE_CFG.HANDLE_POL (R515). -/
def State.handleActive (s : State) (i : Nat) (high : Bool) : Bool := high != s.bit PWR_WAKE_CFG_HANDLE_POL i

/-- HANDLE_IN_EDGE (R93, R94, R97, R515): the edge is timestamped, restores the poll period, resumes polling, is a wake
source, and enters the 100 µs filter. -/
def State.handleEdge (s : State) (i : Nat) (high : Bool) : State :=
  let s := s.putBit PAD_IN_HANDLE i high
  if !s.handleActive i high then { s with lf := { s.lf with filt := s.lf.filt.filter (·.idx != i) } }
  else
    let e : HandleEdge := { idx := i, at_ := s.time.now, ref := s.pinStamp, quality := s.quality }
    let s := s.wakeSource 10 i (s.bit PWR_WAKE_CFG_HANDLE_LVL i)
    if !s.handleOn i then s
    else
      let s := { s with lf := { s.lf with filt := s.lf.filt ++ [e] } }
      if s.pstate = 4 then s.pollResume 0 else if s.pstate = 0 then s else s.pollRestore 3

/-- A handle edge passes its filter (R97, R98): the edge, where it stood; with a nonce loaded its telegram is scheduled. One that comes
while the block is neither ON nor STARTING sends nothing and keeps the nonce (DESIGN CHOICE, notes/assumptions/168.md), nor does one in
SAFE_STATE or lock-out (R599). -/
def State.handleQualified (s : State) (i : Nat) : State × Option HandleEdge :=
  match s.lf.filt.find? (·.idx == i) with
  | none => (s, none)
  | some e =>
    let s := s.advance (100 * Config.usTicks + e.at_)
    let s := { s with lf := { s.lf with filt := s.lf.filt.filter (·.idx != i) } }
    match s.lf.nonce with
    | some nb =>
      if s.lf.htel.isSome || s.fenced 4 || s.safeState || s.pwr.lockout || s.sys.role ≠ 0 || !(s.unitOn 4 || s.unit 4 == .starting) then (s, some e)
      else
        let s := s.nonceClear
        (State.lfCut { s with lf := { s.lf with htel := some { e with nb := nb } } }, some { e with nb := nb })
    | none => (s, some e)

/-- The telegram of edge `e` starts at `at_`; a burst in the way ends at `burstEnd`. Where the edge fell in the last 200 µs of the burst,
the telegram starts at the later of the burst's end and edge + 200 µs (DESIGN CHOICE, notes/assumptions/168.md). -/
def State.htelBegin (s : State) (e : HandleEdge) (at_ burstEnd : Nat) : State :=
  let s := (s.advance (max at_ (200 * Config.usTicks + e.at_))).burstOver []
  let sd : LfSend := { id := 0xFFFF, typ := 0, pats := s.handlePats, preempt := false, atTime := none, nb := some e.nb }
  let gone := { s with lf := { s.lf with htel := none } }
  if s.lf.tx.isSome then s
  else if !s.lfRangeOk (s.get LF_CARRIER_FREQ_HZ) then gone.lfDone sd 2 REG_CHANNEL 0 0 0
  else
    match s.telPat with
    | none => gone.lfDone sd 2 BAD_STATE 0 0 0
    | some tel =>
      let f := s.get LF_CARRIER_FREQ_HZ
      let t := s.lfMakeTx 1 sd tel
      let late := if burstEnd = 0 then 0 else (s.time.now - (200 * Config.usTicks + e.at_)) * f / Config.sTicks
      let cutPre := min late (t.pre - min t.pre 125)
      let t := { t with pre := t.pre - cutPre, body := t.body - cutPre, gap := t.gap - cutPre, len := t.len - cutPre }
      let s := s.lfBegin t
      let s := s.setCalSlot 59 (some (ownSlot 59 4 resLf s.refNow (cycTicks t.len f) true))
      s.eventAt s.pinStamp s.quality EV_LF_HTEL_START (byte e.idx :: le 2 (satNat 16 ((s.time.now - e.at_) / Config.usTicks)))

/-- The end of the last burst, where edge `e` fell in it; else 0. -/
def State.burstAt (s : State) (e : HandleEdge) : Nat :=
  match s.lf.last with
  | some t => if t.kind = 2 && t.start ≤ e.at_ && e.at_ < t.stopAt then t.stopAt else 0
  | none => 0

/-- LF_HTEL_START (R97, R98): the telegram's first carrier cycle falls 200 µs after the edge, once the reference is stable
(`stableAt`) and the transmission in progress has ended; behind a burst the preburst is shortened. -/
def lfHtelStart (stableAt : Nat) (s : State) : State :=
  match s.lf.htel with
  | none => s
  | some e =>
    match s.lf.tx with
    | some t => if t.kind = 2 then s.htelBegin e (max t.stopAt stableAt) t.stopAt else s
    | none => s.htelBegin e (max (200 * Config.usTicks + e.at_) stableAt) (s.burstAt e)

/-! ### Fence, safe state, P4 -/

/-- A fence of LF, or the safe state (R106): the transmission ends, pending sends are refused, and polling is STOPPED. A handle
telegram that has still to start is refused as a pending send is, and a diagnostic ends with no channel tested (DESIGN CHOICE,
notes/assumptions/142.md). The poll settings that waited for the window take effect, since it ends (R111). -/
def State.lfStop (s : State) (status : Nat) : State :=
  let s := s.lfAbort status
  let s := match s.lf.htel with
    | some e =>
      let sd : LfSend := { id := 0xFFFF, typ := 0, pats := [], preempt := false, atTime := none, nb := some e.nb }
      State.lfDone { s with lf := { s.lf with htel := none } } sd 2 status 0 0 0
    | none => s
  let s := (s.lfRefuseAll status).lfDiagEnd.pollHalt
  State.pollApply { s with lf := { s.lf with window := none, last := none } }

/-- A fence of the LF block (R80, R106). -/
def State.lfFence (s : State) : State :=
  let s := s.lfStop FENCED
  { s with lf := { s.lf with chans := List.replicate 12 .fenced } }

/-- On release the block and its channels are OFF (R106). -/
def State.lfRelease (s : State) : State := { s with lf := { s.lf with chans := List.replicate 12 .off } }

/-- Entry to P4 suspends polling (R95). -/
def State.pollSuspend (s : State) : State :=
  if s.pstate = 2 || s.pstate = 3 then
    State.setPstate { s.setCalSlot 56 none with lf := { (s.setCalSlot 56 none).lf with deferred := none } } 5
  else s

/-- The return from P4 (R95): RUNNING at PERIOD_MS. -/
def State.pollUnsuspend (s : State) : State :=
  if s.pstate ≠ 5 then s
  else
    let s := (s.setPstate 2).pollRestore 3
    if s.lf.idleWait then s.idleStop else s.firstBurst

end Sys2Proof.Machine
end

