-- ==== Sys2Proof/Machine/Zone.lean ====
section
/-!
DEFINITION. Machine/Zone.lean: the zone solver, the field map and the pattern table it names (R82, R113, R202 to R207, R232,
R233, R237 to R239).
-/
namespace Sys2Proof.Machine

/-- ZONE changes a part of its state. -/
def State.modZone (s : State) (f : ZoneState → ZoneState) : State := { s with zone := f s.zone }

/-! ### Field maps (R203, R204, R207) -/

/-- Address of copy `c` (R204). -/
def mapAddr (c : Nat) : Nat := if c = 0 then 0x2005A000 else 0x2005C000

/-- A map image as R203 lays it out, once its CRC is right. -/
def parseMap (b : List Byte) : FieldMap :=
  let npat := u8 b 3
  { freq := u32 b 8, id := u32 b 12, pats := (List.range npat).map fun k => u8 b (16 + k)
    pts := (List.range (u16 b 4)).map fun p =>
      { zone := u8 b (32 + 20 * p), m := (List.range npat).map fun k => u8 b (36 + 20 * p + k) } }

/-- MAGIC, VERSION, NPAT, NPTS, the length, the zone codes and the PAT entries are those of R203. Reserved bytes 6 and 7 must be 0 and the
other bytes that R203 reserves or leaves unused may hold anything (DESIGN CHOICE, notes/assumptions/170.md). -/
def mapFieldsOk (b : List Byte) : Bool :=
  let npat := u8 b 3
  let npts := u16 b 4
  u16 b 0 = 0x4D5A && u8 b 2 = 1 && within 1 16 npat && within 1 256 npts && zeroAt b 6 2 && b.length = 36 + 20 * npts
    && (List.range npts).all (fun p => u8 b (32 + 20 * p) < 8) && (List.range npat).all fun k => u8 b (16 + k) < 32

/-- The CRC-32 in the last four bytes is right (R7). -/
def mapCrcOk (b : List Byte) : Bool := 4 ≤ b.length && crc32 (b.take (b.length - 4)) == u32 b (b.length - 4)

/-- Copy `c` as it stands: its sequence number and map, where MAGIC and CRC-32 are correct; and whether it carries MAGIC. -/
def State.mapCopy (s : State) (c : Nat) : Option (Nat × FieldMap) × Bool :=
  let hd := s.readMem (mapAddr c) 10
  let npts := u16 hd 8
  let magic := u16 hd 4 == 0x4D5A
  if magic && within 1 256 npts then
    let b := s.readMem (mapAddr c + 4) (36 + 20 * npts)
    if mapCrcOk b then (some (u32 hd 0, parseMap b), true) else (none, true)
  else (none, magic)

/-- The sequence order of R204: `a` over `b`. -/
def seqNewer (a b : Nat) : Bool := (a + 2 ^ 32 - b) % 2 ^ 32 < 2 ^ 31

/-- A map is in force (R207): every exclusion is cleared. -/
def State.useMap (s : State) (c seq : Nat) (m : Option FieldMap) : State :=
  let s := s.modZone fun z => { z with map := m, copy := c, seq := seq, out := [] }
  let s := s.putB ZONE_STATUS_MAP_VALID m.isSome
  match m with
  | some m => ((s.put ZONE_STATUS_NPAT m.pats.length).put ZONE_STATUS_NPTS m.pts.length).put ZONE_MAP_ID m.id
  | none => ((s.put ZONE_STATUS_NPAT 0).put ZONE_STATUS_NPTS 0).put ZONE_MAP_ID 0

/-- The selection of the map at a reset or wake (R204). -/
def State.zoneSelect (s : State) : State :=
  let (a, ma) := s.mapCopy 0
  let (b, mb) := s.mapCopy 1
  match a, b with
  | some (sa, x), some (sb, y) => if seqNewer sa sb then s.useMap 0 sa (some x) else s.useMap 1 sb (some y)
  | some (sa, x), none => s.useMap 0 sa (some x)
  | none, some (sb, y) => s.useMap 1 sb (some y)
  | none, none =>
    let s := s.useMap 1 0 none
    if ma || mb then s.raise FID_ZONE_MAP else s

/-- The load of the map at a reset or wake (R204): the exclusions of R82 stand where the map is the one that was in force. -/
def State.zoneLoad (s : State) : State :=
  let t := s.zoneSelect
  if t.zone.copy = s.zone.copy && t.zone.seq = s.zone.seq then t.modZone fun z => { z with out := s.zone.out } else t

/-- A committed map is being written: it is not read back yet (R207). -/
def State.mapWriting (s : State) : Bool := s.zone.pend.isSome && !s.zone.written

/-- No solve runs and no map is being written: the ZONE quiescent boundary (R223). -/
def State.zoneQuiet (s : State) : Bool := s.zone.solve.isNone && !s.mapWriting

/-- A reset or the loss of the core interrupts the write of a map (R207): the copy fails its check. A copy that has been written stands,
and the next selection takes it (R204). -/
def State.mapCut (s : State) : State :=
  match (if s.mapWriting then s.zone.pend else none) with
  | some (_, b) => (s.eraseMem (mapAddr (1 - s.zone.copy)) (4 + b.length)).modZone fun z => { z with pend := none }
  | none => s

/-- Changes that waited take effect, that of EN with them (R237). -/
def State.zoneBoundary (s : State) : State :=
  if !s.zoneQuiet then s
  else
    let t := (s.applyStaged 8).unitSettle 8
    if s.sys.staged.any (·.block == 8) then t.unitSwitch 8 (t.flag ZONE_CTRL_EN) false else t

/-! ### The solver (R205, R206) -/

/-- 10^(j/40) for j from 0 to 39, times 10^30. -/
def pow40 : List Nat :=
  [
   1000000000000000000000000000000, 1059253725177288878809280373278, 1122018454301963435591038946477,
   1188502227437018437730122464892, 1258925411794167210423954106395, 1333521432163324025675931715295,
   1412537544622754302155607863930, 1496235656094433411880285114387, 1584893192461113485202101373391,
   1678804018122560313971950080415, 1778279410038922801225421195192, 1883649089489800535000891150208,
   1995262314968879601352455396739, 2113489039836646795560345317379, 2238721138568339611954950852465,
   2371373705661655261651752757478, 2511886431509580111085032067799, 2660725059798809634991311702630,
   2818382931264453819101923699155, 2985382618917959617913276962521, 3162277660168379331998893544432,
   3349654391578276595487726190897, 3548133892335754584332187022644, 3758374042884441673777109591503,
   3981071705534972507702523050877, 4216965034285822485690133595094, 4466835921509631185562505243193,
   4731512589614804789032711120198, 5011872336272722850015541868849, 5308844442309883522004618683677,
   5623413251903490803949510397764, 5956621435290104605097982825271, 6309573444801932494343601366223,
   6683439175686146083625744673876, 7079457843841379108022149421893, 7498942093324558273021842756151,
   7943282347242815020659182828363, 8413951416451950911527418938004, 8912509381337455299531086810782,
   9440608762859233803643804966022]

/-- 10^(j/40) times 10^30. -/
def tenTo40 (j : Nat) : Nat := pow40.getD (j % 40) 0 * 10 ^ (j / 40)

/-- round(20 × log10(10^(x/20) + 10^(y/20) + 10^(z/20))), at most 255 (R205): the least m whose upper rounding bound
10^((2m + 1)/40) lies above the sum. -/
def logSum (x y z : Nat) : Nat :=
  let t := tenTo40 (2 * x) + tenTo40 (2 * y) + tenTo40 (2 * z)
  let lo := max x (max y z)
  ((List.range 12).find? fun k => t < tenTo40 (2 * (lo + k) + 1)).elim 255 fun k => min 255 (lo + k)

/-- The magnitude of map pattern `p`, where it is valid (R205). -/
def Solve.magnitude (v : Solve) (p : Nat) : Option Nat :=
  match v.pats.findIdx? (· == p) with
  | none => none
  | some i =>
    let x := v.vals.getD (3 * i) 0
    let y := v.vals.getD (3 * i + 1) 0
    let z := v.vals.getD (3 * i + 2) 0
    if v.out.contains p || (x = 0 && y = 0 && z = 0) || x = 255 || y = 255 || z = 255 then none else some (logSum x y z)

/-- The differences of a point over the valid patterns. -/
def MapPoint.diffs (p : MapPoint) (ms : List (Option Nat)) : List Int :=
  (ms.zip p.m).filterMap fun (m, e) => m.map fun m => (m : Int) - e

/-- The sum of integers. -/
def sumInt (l : List Int) : Int := l.foldl (· + ·) 0

/-- The offset of a point is clamped at OFS_MAX (R205). -/
def ofsClamped (d : List Int) (ofsMax : Nat) : Bool := ofsMax * d.length < (sumInt d).natAbs

/-- D of a point (R205). -/
def pointDist (d : List Int) (free : Bool) (ofsMax : Nat) : Nat :=
  let n := d.length
  let sum := sumInt d
  let sq := sumInt (d.map fun x => x * x)
  let v : Nat :=
    if !free then (sq / n).toNat
    else if ofsClamped d ofsMax then
      let o : Int := if sum < 0 then -(ofsMax : Int) else ofsMax
      (sumInt (d.map fun x => (x - o) * (x - o)) / n).toNat
    else ((n * sq - sum * sum) / (n * n)).toNat
  min 65535 v

/-- The index and value of the least element, lowest index on a tie. -/
def leastOf : List Nat → Nat → Option (Nat × Nat)
  | [], _ => none
  | d :: l, i => match leastOf l (i + 1) with
    | none => some (i, d)
    | some (j, e) => if d ≤ e then some (i, d) else some (j, e)

/-- A solve completes (R205): results latched, ZONE_SOLVED queued. Where no valid pattern or no map leaves D1, D2, the offset
and the best point without a stated value, they are free values (notes/assumptions/14.md). -/
def State.zoneFinish (s : State) (v : Solve) : State :=
  let free := s.flag ZONE_CTRL_OFFSET_FREE
  let ofsMax := s.get ZONE_CFG_OFS_MAX
  let pats := match v.map with | some m => m.pats | none => []
  let pts := match v.map with | some m => m.pts | none => []
  let ms := pats.map v.magnitude
  let n := (ms.filter (·.isSome)).length
  let ds := pts.map fun p => p.diffs ms
  let dist := ds.map fun d => pointDist d free ofsMax
  let few := n < s.get ZONE_CFG_MIN_PAT
  let freq : Bool := match v.map with | some m => decide (m.freq ≠ s.get LF_CARRIER_FREQ_HZ) | none => false
  let zoneOf (i : Nat) : Nat := match pts[i]? with | some p => p.zone | none => 7
  let (best, d1, d2, ofs, clamp, s) :=
    match (if n = 0 then none else leastOf dist 0) with
    | none =>
      let (w, s) := s.fresh 48
      (bitsAt w 0 8, bitsAt w 8 16, bitsAt w 24 16, toSigned 8 (bitsAt w 40 8), false, s)
    | some (i, d1) =>
      let others := (List.range dist.length).filter fun j => zoneOf j ≠ zoneOf i
      let d2 := (others.map fun j => dist.getD j 0).foldl min 65535
      let d := ds.getD i []
      if !free then (i, d1, d2, (0 : Int), false, s)
      else if ofsClamped d ofsMax then (i, d1, d2, if sumInt d < 0 then -(ofsMax : Int) else ofsMax, true, s)
      else let (o, s) := s.rounded (sumInt d) n; (i, d1, d2, o, false, s)
  let poor := s.get ZONE_CFG_FIT_MAX < d1 && n ≠ 0 && v.map.isSome
  let none_ := few || v.map.isNone
  let zone := if none_ then 7 else zoneOf best
  let conf := if none_ || poor || freq || d2 + d1 = 0 then 0 else 255 * (d2 - d1) / (d2 + d1)
  let fl := bit01 v.map.isNone + 2 * bit01 few + 4 * bit01 poor + 8 * bit01 freq + 16 * bit01 clamp
  let s := ((s.put ZONE_RESULT_ZONE zone).put ZONE_RESULT_CONF conf).put ZONE_RESULT_FLAGS fl
  let s := ((s.put ZONE_RESULT_NVALID n).put ZONE_FIT_D1 d1).put ZONE_FIT_D2 d2
  let s := ((s.put ZONE_OFS_APPLIED (ofSigned 8 ofs)).put ZONE_OFS_BEST best).bump ZONE_SOLVES
  s.event EV_ZONE_SOLVED ([byte zone, byte conf, byte fl, byte n] ++ le 4 (s.get ZONE_MAP_ID) ++ le 2 d1 ++ le 2 d2)

/-- The 16 bytes of a ZONE_QUERY reply (R238). -/
def State.zoneReply (s : State) : List Byte :=
  [byte (s.get ZONE_RESULT_ZONE), byte (s.get ZONE_RESULT_CONF), byte (s.get ZONE_RESULT_FLAGS), byte (s.get ZONE_RESULT_NVALID)]
    ++ le 4 (s.get ZONE_MAP_ID) ++ le 2 (s.get ZONE_FIT_D1) ++ le 2 (s.get ZONE_FIT_D2)
    ++ [byte (s.get ZONE_OFS_APPLIED), byte (s.get ZONE_OFS_BEST), 0, 0]

/-- A solve of the ZONE_IN and ZONE_SLOTPAT registers starts (R206). -/
def State.zoneStart (s : State) (m : Master) (c : Option ReqCtx) (query : Bool) : State :=
  let bytes (f : Nat → Field) (n : Nat) := (List.range n).flatMap fun i => (le 4 (s.get (f i))).map (·.toNat)
  let v : Solve := { map := s.zone.map, out := s.zone.out, at_ := s.time.now, vals := bytes ZONE_IN 12, pats := bytes ZONE_SLOTPAT 4
                     master := m, ctx := c, query := query }
  State.withdraw (s.modZone fun z => { z with solve := some v }) 8

/-- ZONE can start a solve. -/
def State.zoneFree (s : State) : Bool := s.unitOn 8 && s.zone.solve.isNone && !s.coreOff

/-- ZONE_CMD_START (R206): a write of ZONE_CMD.START; while a solve runs it changes nothing. -/
def zoneCmdStart (m : Master) (s : State) : State :=
  s.onBus m ZONE_CMD.addr 1 fun s => if s.zoneFree then s.zoneStart m none false else s

/-- ZONE_SOLVED (R206): a solve completes within 1.0 ms of its start. -/
def zoneSolved (at_ : Nat) (s : State) : State :=
  match s.zone.solve with
  | none => s
  | some v =>
    let s := s.advance (min at_ (Config.msTicks + v.at_))
    let s := State.zoneFinish (s.modZone fun z => { z with solve := none }) v
    let s := if v.query then s.answer v.master 0x54 v.ctx OK s.zoneReply else s
    s.zoneBoundary

/-- The record of a map load (R207). -/
def State.mapEvent (s : State) (m : FieldMap) (st : Nat) : State :=
  s.event EV_ZONE_MAP_LOADED (le 4 m.id ++ [byte m.pats.length] ++ le 2 m.pts.length ++ [byte st])

/-- The sequence number of the copy being written (R207). -/
def State.mapSeq (s : State) : Nat := (s.zone.seq + 1) % 2 ^ 32

/-- A map that has been written replaces the one in force at the first instant at which LF is at its boundary and no solve runs
(R207). -/
def State.mapSwitch (s : State) : State :=
  match (if s.zone.written && s.lfQuiet && s.zone.solve.isNone then s.zone.pend else none) with
  | none => s
  | some (m, _) =>
    let c := 1 - s.zone.copy
    let seq := s.mapSeq
    let s := s.modZone fun z => { z with pend := none, written := false }
    (((s.useMap c seq (some m)).put ZONE_STATUS_MAP_PENDING 0).mapEvent m OK).zoneBoundary

/-- ZONE_MAP_LOADED (R207): the copy of a committed map has been written and read back (`ok`), and the map is switched in once
LF is at its boundary and no solve runs; a failed write leaves that copy erased (notes/assumptions/15.md). -/
def zoneMapLoaded (ok : Bool) (at_ : Nat) (s : State) : State :=
  let s := s.advance at_
  match (if s.mapWriting then s.zone.pend else none) with
  | none => s
  | some (m, b) =>
    if ok then
      let s := s.writeMem (mapAddr (1 - s.zone.copy)) (le 4 s.mapSeq ++ b)
      (s.modZone fun z => { z with written := true }).mapSwitch.zoneBoundary
    else ((s.mapCut.put ZONE_STATUS_MAP_PENDING 0).mapEvent m INTEGRITY).zoneBoundary

/-! ### Commands -/

/-- ZONE_CONFIG (R237). -/
def zoneConfig (m : Master) (p : List Byte) (s : State) : State :=
  let cfg := u32 p 0
  let fl := u8 p 4
  let dz (z : Nat) := u8 p (8 + 4 * z) + 256 * u8 p (9 + 4 * z) + 65536 * u8 p (10 + 4 * z)
  let wd (w : Nat) := (u32 p (40 + 8 * w), u32 p (44 + 8 * w))
  hostCmd 0x53 m p
    [lenIs p 72, paramOk (within 1 16 (bitsAt cfg 0 5) && bitsAt cfg 5 3 = 0 && bitsAt cfg 8 8 ≤ 40),
     paramOk (bitAt fl 1 = 0 && fl < 8 && zeroAt p 5 3),
     paramOk ((List.range 8).all fun z => u8 p (10 + 4 * z) < 2 && u8 p (11 + 4 * z) = 0
       && (u8 p (10 + 4 * z) = 0 || u8 p (8 + 4 * z) ≤ u8 p (9 + 4 * z)))]
    (fun s =>
      let same := cfg = s.get ZONE_CFG && bitAt fl 2 = s.get ZONE_CTRL_OFFSET_FREE && (List.range 8).all (fun z => dz z = s.get (ZONE_D z))
        && (List.range 4).all fun w => (wd w).1 = s.get (ZONE_WD_LO w) && (wd w).2 = s.get (ZONE_WD_HI w)
      if s.flag ZONE_CTRL_LOCK && !same then s.ends ACCESS_DENIED
      else
        let q := s.zoneQuiet
        let s := (s.stage q 8 ZONE_CFG cfg).stage q 8 ZONE_CTRL_OFFSET_FREE (bitAt fl 2)
        let s := (List.range 8).foldl (fun s z => s.stage q 8 (ZONE_D z) (dz z)) s
        let s := (List.range 4).foldl (fun s w => (s.stage q 8 (ZONE_WD_LO w) (wd w).1).stage q 8 (ZONE_WD_HI w) (wd w).2) s
        let s := s.stage q 8 ZONE_CTRL_EN (bitAt fl 0)
        let s := if q then s.unitSwitch 8 (bitAt fl 0 == 1) false else s
        (s, OK, [byte (s.unit 8).code])) s

/-- ZONE_QUERY (R238): LAST answers at once, SOLVE when the solve completes. -/
def zoneQuery (m : Master) (p : List Byte) (s : State) : State :=
  let n := u8 p 1
  hostCmdLater 0x54 m p
    [(m != .m2 || u8 p 0 = 0, ACCESS_DENIED), paramOk (u8 p 0 < 2), (p.length == (if u8 p 0 = 1 then 68 else 1), BAD_LENGTH),
     paramOk (u8 p 0 = 0 || (within 1 16 n && zeroAt p 2 2
       && (List.range 16).all fun k => u8 p (4 + k) < 32 || u8 p (4 + k) = 0xFF))]
    (fun c s =>
      if u8 p 0 = 0 then (s, some (OK, s.zoneReply))
      else if s.unit 8 != .on then (s, some (BAD_STATE, []))
      else if s.zone.solve.isSome then (s, some (BUSY, []))
      else
        let pat (k : Nat) := if k < n then u8 p (4 + k) else 0xFF
        let s := (List.range 4).foldl (fun s i =>
          s.put (ZONE_SLOTPAT i) (pat (4 * i) + 256 * pat (4 * i + 1) + 65536 * pat (4 * i + 2) + 16777216 * pat (4 * i + 3))) s
        let s := (List.range 12).foldl (fun s i => s.put (ZONE_IN i) (u32 p (20 + 4 * i))) s
        (s.zoneStart m c true, none)) s

/-- LF_MAP_LOAD (R118, R207, R239): OP selects the form. A COMMIT while a map that is written waits for its switch takes that map's place
(DESIGN CHOICE, notes/assumptions/15.md). -/
def lfMapLoad (m : Master) (p : List Byte) (s : State) : State :=
  let op := u8 p 0
  let n := p.length
  hostCmd 0x37 m p
    [paramOk (op < 4), (if op = 1 then 5 ≤ n && n ≤ 244 else n == 4, BAD_LENGTH), paramOk (u8 p 1 = 0),
     paramOk (match op with | 0 => within 56 5156 (u16 p 2) | 1 => true | _ => zeroAt p 2 2)]
    (fun s =>
      match op, s.zone.stage with
      | 0, _ => (s.modZone fun z => { z with stage := some (u16 p 2, []) }).ok
      | 1, none => s.ends BAD_STATE
      | 1, some (t, b) =>
        if u16 p 2 ≠ b.length || t < b.length + (n - 4) then s.ends BAD_PARAM
        else
          let b := b ++ p.drop 4
          (s.modZone fun z => { z with stage := some (t, b) }, OK, le 2 b.length)
      | 2, some (t, b) =>
        let map := parseMap b
        if b.length < t then s.ends BAD_STATE
        else if s.mapWriting then s.ends BUSY
        else if !mapCrcOk b then s.ends INTEGRITY
        else if !mapFieldsOk b then s.ends BAD_PARAM
        else if !map.pats.all s.patDefined then s.ends BAD_STATE
        else
          let s := s.modZone fun z => { z with stage := none, pend := some (map, b), written := false }
          ((s.put ZONE_STATUS_MAP_PENDING 1).withdraw 8, ACCEPTED, le 4 map.id)
      | 2, none => s.ends BAD_STATE
      | _, _ => (s.modZone fun z => { z with stage := none }).ok) s

/-- LF_PATTERN_DEF (R81, R82, R113). -/
def lfPatternDef (m : Master) (p : List Byte) (s : State) : State :=
  let i := u8 p 0
  let force := u8 p 1 = 1
  let n := u8 p 2
  let ents := (List.range n).map (patEntry p)
  hostCmd 0x31 m p
    [lenIs p 20, paramOk (i < 32 && u8 p 1 < 2 && n ≤ 4 && zeroAt p 3 1 && zeroAt p (4 + 4 * n) (4 * (4 - n))),
     paramOk (noDup (ents.map (·.ch)) && ents.all s.entryOk)]
    (fun s =>
      let used := match s.zone.map with | some f => f.pats.contains i | none => false
      if (used && !force) || (n = 0 && s.patNamed i) then s.ends BAD_STATE
      else
        let s := if used then s.modZone fun z => { z with out := i :: z.out.filter (· != i) } else s
        (if s.lfQuiet then { s with lf := { s.lf with pats := s.lf.pats.set i ents } }
         else { s with lf := { s.lf with patPend := s.lf.patPend ++ [(i, ents)] } }).ok) s

/-- A fence of ZONE: a solve in progress ends without a result; its query is answered FENCED (R549). -/
def State.zoneStop (s : State) (status : Nat) : State :=
  match s.zone.solve with
  | none => s
  | some v =>
    let s := s.modZone fun z => { z with solve := none }
    if v.query then s.answer v.master 0x54 v.ctx status [] else s

end Sys2Proof.Machine
end

