-- ==== Sys2Proof/Machine/Range.lean ====
section
/-!
DEFINITION. Machine/Range.lean: ranging runs, distances and the relay verdict (R208 to R231, R234 to R236).
-/
namespace Sys2Proof.Machine

/-- The run in progress becomes `r`. -/
def State.setRun (s : State) (r : Option RangeRun) : State := { s with range := { s.range with run := r } }

/-! ### The plan (R208) -/

/-- The band that holds every tone ± 1 kHz and the burst ± 750 kHz, where the plan is valid. -/
def State.planBand (s : State) (f0 sp n first rtt : Nat) : Option Nat :=
  let tone (i : Nat) := first + i < 128 && s.entFreq (first + i) = f0 + i * sp && s.flag (UTX_CALTAB_LO_PERMITTED (first + i))
  if !(within 100000 2000000 sp && within 8 80 n && (List.range n).all tone && s.flag (UTX_CALTAB_LO_PERMITTED rtt)) then none
  else
    s.bands.findIdx? fun b =>
      b.lo + 1000 ≤ f0 && f0 + (n - 1) * sp + 1000 ≤ b.hi && b.lo + 750000 ≤ s.entFreq rtt && s.entFreq rtt + 750000 ≤ b.hi

/-- The band of the plan that the registers hold. -/
def State.regPlanBand (s : State) : Option Nat :=
  s.planBand (s.get RANGE_PLAN_F0_F0_HZ) (s.get RANGE_PLAN_SP_SPACING_HZ) (s.get RANGE_PLAN_CFG_N)
    (s.get RANGE_PLAN_CFG_FIRST_ENTRY) (s.get RANGE_PLAN_CFG_RTT_ENTRY)

/-- PLAN_OK after a load of the registers from an image (R231). -/
def State.rangeCheckPlan (s : State) : State := s.putB RANGE_STATUS_PLAN_OK s.regPlanBand.isSome

/-- RANGE_CONFIG (R234). -/
def rangeConfig (m : Master) (p : List Byte) (s : State) : State :=
  let f0 := u32 p 0
  let sp := u32 p 4
  let n := u8 p 8
  let cfg := n + 2 ^ 8 * u8 p 9 + 2 ^ 16 * u8 p 10 + 2 ^ 24 * u8 p 11
  let qual := u8 p 18 + 2 ^ 8 * u8 p 19 + 2 ^ 16 * u8 p 20
  let thr := u16 p 22 + 2 ^ 16 * u8 p 24
  let thr2 := u8 p 25 + 2 ^ 8 * u8 p 26 + 2 ^ 16 * u8 p 27
  let vals : List (Field × Nat) := [(RANGE_PLAN_F0, f0), (RANGE_PLAN_SP, sp), (RANGE_PLAN_CFG, cfg), (RANGE_TIMING, u16 p 12),
    (RANGE_TRIM, u32 p 14), (RANGE_QUAL_CFG, qual), (RANGE_THR, thr), (RANGE_THR2, thr2)]
  hostCmd 0x50 m p
    [lenIs p 28, paramOk (f0 < 2 ^ 30 && within 100000 2000000 sp && within 8 80 n),
     paramOk (u8 p 9 < 128 && u8 p 10 < 128 && u8 p 11 < 64 && u16 p 12 ≤ 10000),
     paramOk (within 4 n (u8 p 18) && u8 p 19 ≤ 40 && within 1 63 (u8 p 20) && u8 p 21 = 0),
     paramOk (within 10 1000 (u16 p 22) && within 5 255 (u8 p 25))]
    (fun s =>
      if s.flag RANGE_CTRL_LOCK && vals.any (fun (f, v) => s.get f ≠ v) then s.ends ACCESS_DENIED
      else
        match (if s.range.run.isSome then none else s.planBand f0 sp n (u8 p 9) (u8 p 10)) with
        | none => s.ends BAD_STATE
        | some b =>
          let s := vals.foldl (fun s (f, v) => s.put f v) s
          let (amb, s) := s.rounded 1498962290 sp
          (s.put RANGE_STATUS_PLAN_OK 1, OK, [byte b, byte n] ++ le 2 (satNat 16 amb.toNat))) s

/-! ### The tone order (R209) -/

/-- The step of the tone order: the first value from `st` on, cyclically below `n` and never 0, with no factor shared with
`n`. -/
def toneStep (n : Nat) : Nat → Nat → Nat
  | 0, st => st
  | fuel + 1, st => if Nat.gcd st n = 1 then st else toneStep n fuel (if st + 1 = n then 1 else st + 1)

/-- tone(k). -/
def RangeRun.tone (r : RangeRun) (k : Nat) : Nat :=
  let st := u16 r.seed 0 % r.n
  (u16 r.seed 2 % r.n + k * toneStep r.n r.n (if st = 0 then 1 else st)) % r.n

/-! ### Arming (R209, R219, R221, R235) -/

/-- What a run is asked for: MODE, the FLAGS of R235, RX_CH, ZONE_SRC, ORIGIN, rseed and chips. -/
structure RangeAsk where
  mode : Nat
  flags : Nat
  rxCh : Nat
  zoneSrc : Nat
  org : Nat
  seed : List Byte
  chips : List Byte
  /-- The zone and confidence that the firmware names, where it does. -/
  used : Option (Option (Nat × Nat)) := none
  deriving DecidableEq, Repr

/-- The parameter values that R219, R221 and R235 permit. -/
def State.rangeAskOk (s : State) (a : RangeAsk) : Bool :=
  let lbt := s.lbtUs (s.get RANGE_PLAN_CFG_RTT_ENTRY)
  a.mode < 2 && a.flags < 16 && a.flags % 4 ≠ 3 && (if a.mode = 1 then a.rxCh < 64 else a.rxCh = 0)
    && (a.zoneSrc < 8 || a.zoneSrc = 0xFE || a.zoneSrc = 0xFF)
    && (a.mode = 1 || s.time.ref + 300 * Config.usTicks ≤ a.org)
    && (lbt = 0 || lbt + 50 ≤ s.get RANGE_TIMING_RUN_DELAY_US)

/-- The zone and confidence check C uses (R225, R231): an explicit zone is taken with confidence 255. -/
def State.zoneUsed (s : State) (src : Nat) : Option (Nat × Nat) :=
  if src < 8 then some (src, 255)
  else if src = 0xFE then some (s.get ZONE_RESULT_ZONE, s.get ZONE_RESULT_CONF) else none

/-- The state checks of R235: BUSY, BAD_STATE, RNG_HEALTH, POWER_BUDGET. -/
def State.rangeRefusal (s : State) : Option Nat :=
  let ents := s.get RANGE_PLAN_CFG_RTT_ENTRY :: (List.range (s.get RANGE_PLAN_CFG_N)).map (· + s.get RANGE_PLAN_CFG_FIRST_ENTRY)
  if s.range.run.isSome then some BUSY
  else if s.sys.role ≠ 0 || !s.unitOn 7 || !s.unitOn 6 || s.fenced 5 || s.forcedMode 1 || !s.flag RANGE_STATUS_PLAN_OK || s.padHeld 3 || s.padHeld 9 || s.safeState || s.urx.pllLost
      || s.noRadio || s.adcOut (s.flag UTX_FEM_CTRL_TX_PORT) || !ents.all (fun e => s.flag (UTX_CALTAB_LO_VALID e)) then some BAD_STATE
  else if s.rngHalted then some RNG_HEALTH
  else if !s.fits 560 then some POWER_BUDGET
  else none

/-- RUN goes to each worker that is locked (R224, R594): the tone order, O where it is known, and the run index. -/
def State.tellWorkers (s : State) (r : RangeRun) : State :=
  let ws := (List.range 4).filter fun w => (s.wlk.workers.getD w {}).locked
  if !r.workers || ws.isEmpty then s
  else
    let order := (List.range r.n).map r.tone
    let s := { s with wlk := { s.wlk with sentRun := some (bit01 r.rep, if r.mode = 0 then some r.org else none, order) } }
    (s.bump WLK_TX_FRAMES ws.length).setRun (some { r with told := sumNat (ws.map fun w => 2 ^ w) })

/-- A run is armed (R209, R219, R224): its start phases are asked of the generator. -/
def State.rangeArm (s : State) (a : RangeAsk) : State :=
  let id := s.range.nextId
  let n := s.get RANGE_PLAN_CFG_N
  let r : RangeRun := {
    id := id, mode := a.mode, skipRtt := bitAt a.flags 0 = 1, skipTones := bitAt a.flags 1 = 1, workers := bitAt a.flags 2 = 1
    rep := bitAt a.flags 3 = 1, rxCh := a.rxCh, zone := a.used.getD (s.zoneUsed a.zoneSrc), org := a.org, seed := a.seed, chips := a.chips
    f0 := s.get RANGE_PLAN_F0_F0_HZ, sp := s.get RANGE_PLAN_SP_SPACING_HZ, n := n, first := s.get RANGE_PLAN_CFG_FIRST_ENTRY
    rttEntry := s.get RANGE_PLAN_CFG_RTT_ENTRY, power := s.get RANGE_PLAN_CFG_TX_POWER
    delay := s.get RANGE_TIMING_RUN_DELAY_US }
  let s := State.tellWorkers { s with range := { s.range with run := some r, nextId := (id + 1) % 0xFFFF } } r
  let s := (s.put RANGE_STATUS_ARMED 1).put RANGE_RUN_ID_ARMED id
  ((s.rngAskFor 1 1 id n).notePeak).withdraw 7

/-- RANGE_RUN (R235). -/
def rangeRun (m : Master) (p : List Byte) (s : State) : State :=
  let a : RangeAsk := { mode := u8 p 0, flags := u8 p 1, rxCh := u8 p 2, zoneSrc := u8 p 3, org := u64 p 4
                        seed := (p.drop 12).take 16, chips := (p.drop 28).take 16 }
  hostCmd 0x51 m p [lenIs p 48, paramOk (s.rangeAskOk a && zeroAt p 44 4)]
    (fun s =>
      if m == .m2 || (m == .m1 && !s.flag RANGE_CTRL_HOST_RUN) then s.ends ACCESS_DENIED
      else
        match s.rangeRefusal with
        | some st => (if st = POWER_BUDGET then s.refuseBudget else s).ends st
        | none => (s.rangeArm a, ACCEPTED, le 2 s.range.nextId)) s

/-- What the ARM and SEED registers ask for. -/
def State.regAsk (s : State) : RangeAsk :=
  let seed := (List.range 8).flatMap fun i => le 4 (s.get (RANGE_SEED i))
  let c := s.get RANGE_ARM_CFG
  { mode := bitAt c 0, flags := bitsAt c 1 4, rxCh := if bitAt c 0 = 1 then bitsAt c 8 6 else 0, zoneSrc := bitsAt c 16 8
    org := s.get RANGE_ARM_ORG_LO + 2 ^ 32 * s.get RANGE_ARM_ORG_HI, seed := seed.take 16, chips := seed.drop 16 }

/-- A write of RANGE_CMD.GO arms under the same checks; where one fails, nothing is armed. -/
def State.rangeGo (s : State) : State :=
  if s.rangeAskOk s.regAsk && s.rangeRefusal.isNone then s.rangeArm s.regAsk
  else if s.rangeAskOk s.regAsk && s.rangeRefusal = some POWER_BUDGET then s.refuseBudget else s

/-- RANGE_CMD_GO (R231, R235). -/
def rangeCmdGo (m : Master) (s : State) : State := s.onBus m RANGE_CMD.addr 1 State.rangeGo

/-! ### Distances (R214) -/

/-- The greatest k below 2^16 with k² ≤ v, found bit by bit. -/
def isqrt16 (v : Nat) : Nat := (List.range 16).foldl (fun r i => let t := r + 2 ^ (15 - i); if t * t ≤ v then t else r) 0

/-- The phase of a tone in units of 1 / (2^16 × 10^14) cycle (R214): ψ − β − f × ε × 22 µs. -/
def RangeRun.phase (r : RangeRun) (t : Tone) : Int :=
  ((t.psi : Int) - t.beta) * 10 ^ 14 - (r.f0 + t.i * r.sp : Nat) * r.eps * 22 * 2 ^ 16

/-- One cycle in those units. -/
def phaseCycle : Int := 2 ^ 16 * 10 ^ 14

/-- Unwrapping by the nearest whole cycle between neighbours, in rising frequency. -/
def unwrap (prev : Int) : List (Nat × Int) → List (Nat × Int)
  | [] => []
  | (i, v) :: l =>
    let k := (prev - v + phaseCycle / 2) / phaseCycle
    (i, v + k * phaseCycle) :: unwrap (v + k * phaseCycle) l

/-- The valid tones in rising frequency with their unwrapped phases. -/
def RangeRun.phases (r : RangeRun) : List (Nat × Int) :=
  let sorted := (List.range r.n).filterMap fun i => r.tones.find? (·.i == i)
  match sorted.map fun t => (t.i, r.phase t) with
  | [] => []
  | (i, v) :: l => (i, v) :: unwrap v l

/-- The least-squares sums of phase against tone index: numerator and denominator of the slope, and of the mean square
residual (its denominator divided by one cycle squared). -/
structure Fit where
  num : Int
  den : Int
  rNum : Int
  rDen : Int
  deriving DecidableEq, Repr

/-- The fit over the valid tones. -/
def fitOf (l : List (Nat × Int)) : Fit :=
  let n : Int := l.length
  let sx := sumInt (l.map fun (i, _) => (i : Int))
  let sxx := sumInt (l.map fun (i, _) => (i : Int) * i)
  let sy := sumInt (l.map (·.2))
  let syy := sumInt (l.map fun (_, v) => v * v)
  let sxy := sumInt (l.map fun (i, v) => (i : Int) * v)
  let dd := n * sxx - sx * sx
  let b := n * sxy - sx * sy
  { num := b, den := dd, rNum := (n * syy - sy * sy) * dd - b * b, rDen := n * n * dd }

/-- d_phase in mm as a fraction (R214): the principal value of −slope − 2 ext_dly − ph_trim within 1 / SPACING, times c / 2. -/
def State.phaseDistance (s : State) (r : RangeRun) (f : Fit) : Int × Int :=
  let q : Int := f.den * phaseCycle * r.sp
  let ext := s.get (if s.flag UTX_FEM_CTRL_TX_PORT then TIME_EXT_DLY_B else TIME_EXT_DLY_A)
  let ps : Int := 2 * ext * 400 + toSigned 16 (s.get RANGE_TRIM_PH_TRIM_PS)
  let t := -f.num * 1000000000000 - ps * q
  let t := t % (f.den * phaseCycle * 1000000000000)
  (149896229000 * t, q * 1000000000000)

/-- resid in 1/256 cycle. -/
def residOf (f : Fit) : Nat := isqrt16 (65536 * f.rNum / (f.rDen * phaseCycle * phaseCycle)).toNat

/-- rtt in ps as a fraction (R214). -/
def State.rttOf (s : State) (r : RangeRun) (raw : Nat) : Int × Int :=
  let d : Int := 100000000 + r.eps
  ((raw - toSigned 16 (s.get RANGE_TRIM_RTT_TRIM_PS)) * d - 100000000 * 100000000, d)

/-! ### The verdict (R215, R225, R226) -/

/-- The verdict of R226 from the checks A, B and C as CHECKS codes them. -/
def rangeVerdict (valid rep : Bool) (a b c : Nat) : Nat :=
  if !valid || a = 3 || b = 3 || c = 3 then 4
  else if a = 2 || b = 2 then 1
  else if a = 1 && rep then 1
  else if (a = 1 || b = 1) && !rep then 3
  else if b = 1 then 4
  else if c = 1 then 2
  else if c = 2 then 4
  else 0

/-- What a finished run measured: rtt, d_rtt, d_phase and their difference as fractions, resid, the checks, and whether the
run is valid. -/
structure RangeFound where
  rtt : Int × Int
  dRtt : Int × Int
  dPhase : Int × Int
  diff : Int × Int
  resid : Nat
  a : Nat
  b : Nat
  c : Nat
  valid : Bool
  workers : Nat
  deriving DecidableEq, Repr

/-- The limit of worker `w` for zone `z` in 0.1 m; 0xFF none (R232). -/
def State.workerLimit (s : State) (w z : Nat) : Nat :=
  bitsAt (s.get (if z < 4 then ZONE_WD_LO w else ZONE_WD_HI w)) (8 * (z % 4)) 8

/-- Check C (R225): its code, where a phase distance stands. -/
def State.checkC (s : State) (r : RangeRun) (dPhase : Int × Int) : Nat :=
  match r.zone with
  | none => 2
  | some (z, conf) =>
    if conf < s.get RANGE_THR2_CONF_MIN || !s.flag (ZONE_D_VALID z) then 2
    else
      let (n, d) := dPhase
      let tol : Int := s.get RANGE_THR2_ZONE_TOL_DM
      let inside := ((s.get (ZONE_D_DMIN_DM z) : Int) - tol) * 100 * d ≤ n && n ≤ ((s.get (ZONE_D_DMAX_DM z) : Int) + tol) * 100 * d
      let bounds := (List.range 4).all fun w =>
        match r.dsum.getD w none with
        | none => true
        | some sum => s.workerLimit w z = 0xFF || (sum : Int) * d - n ≤ ((s.workerLimit w z : Int) + tol) * 100 * d
      if inside && bounds then 0 else 1

/-- The distances, checks and validity of a run that has completed. -/
def State.rangeFound (s : State) (r : RangeRun) : RangeFound :=
  let f := fitOf r.phases
  let hasT := !r.skipTones && 2 ≤ r.tones.length
  let (rn, rd) := match r.b2 with | some (raw, _) => s.rttOf r raw | none => ((0 : Int), (1 : Int))
  let (dn, dd) := (rn * 149896229, rd * 1000000000)
  let (pn, pd) := if hasT then s.phaseDistance r f else ((0 : Int), (1 : Int))
  let diff : Int × Int := (((pn * dd - dn * pd).natAbs : Nat), pd * dd)
  let resid := if hasT then residOf f else 0
  let thr : Int := s.get RANGE_THR_RTT_THR_NS
  let mar : Int := s.get RANGE_THR_RTT_MARGIN_NS
  let a := if r.b2.isNone then 3 else if rn ≤ thr * 1000 * rd then 0 else if rn ≤ (thr + mar) * 1000 * rd then 1 else 2
  let b := if r.b2.isNone || !hasT then 3 else if diff.1 ≤ (s.get RANGE_THR2_DIFF_THR_DM : Int) * 100 * diff.2 then 0
    else if s.get RANGE_QUAL_CFG_RESID_MAX < resid then 1 else 2
  let c := if !hasT then 3 else s.checkC r (pn, pd)
  let valid := (r.skipRtt || r.b2.isSome) && (r.skipTones || s.get RANGE_QUAL_CFG_MIN_TONES ≤ r.tones.length)
  { rtt := (rn, rd), dRtt := (dn, dd), dPhase := (pn, pd), diff := diff, resid := resid, a := a, b := b, c := c, valid := valid
    workers := sumNat ((List.range 4).map fun w => bit01 (r.dsum.getD w none).isSome * 2 ^ w) }

/-- An integer figure of a result, or a free value where the run did not measure it (notes/assumptions/16.md). -/
def State.figure (s : State) (has : Bool) (q : Int × Int) : Int × State :=
  if has then s.rounded q.1 q.2 else let (v, s) := s.fresh 32; ((v : Int), s)

/-- The result words and RANGE_LAST (R236, R230). -/
def State.setLast (s : State) (b : List Byte) : State :=
  let s := { s with range := { s.range with results := (b :: s.range.results).take 4 } }
  (List.range 16).foldl (fun s i => s.put (RANGE_LAST i) (u32 b (4 * i))) s

/-- The run ends (R220, R222, R227): its slot is freed, its result stands in RANGE_LAST and RANGE_DONE is queued with the run
end as its timestamp. `whole` says that it ran to its end. -/
def State.rangeEnd (s : State) (r : RangeRun) (status : Nat) (aborted whole : Bool) (endRef : Nat) : State :=
  let f := s.rangeFound r
  let hasR := whole && r.b2.isSome
  let hasT := whole && !r.skipTones && 2 ≤ r.tones.length
  let a := if whole then f.a else 3
  let b := if whole then f.b else 3
  let c := if whole then f.c else 3
  let valid := whole && f.valid
  let v := if aborted then 5 else rangeVerdict valid r.rep a b c
  let (rtt, s) := s.figure hasR f.rtt
  let (dr, s) := s.figure hasR f.dRtt
  let (dp, s) := s.figure hasT f.dPhase
  let (df, s) := s.figure (hasR && hasT) f.diff
  let (amb, s) := s.rounded 1498962290 (max 1 r.sp)
  let (x, s) := s.fresh 40
  let resid := if hasT then f.resid else bitsAt x 0 16
  let low := match r.tones.map (·.snr / 4) with | [] => bitsAt x 16 8 | l => l.foldl min 255
  let b2 := match r.b2 with | some (_, q) => q | none => bitsAt x 24 8
  let checks := a + 4 * b + 16 * c + 64 * bit01 r.rep
  let (z, conf) := match r.zone with | some (z, c) => (z, c) | none => (0xFF, 0)
  let oRef := match r.o with | some (_, t) => t | none => r.org
  let res := le 2 r.id ++ [byte v, byte status, byte checks, byte z, byte conf, byte r.tones.length] ++ le 8 oRef
    ++ le 4 (ofSigned 32 rtt) ++ le 4 (ofSigned 32 dr) ++ le 4 (ofSigned 32 dp) ++ le 4 (ofSigned 32 df) ++ le 2 resid
    ++ [byte low, byte b2] ++ le 2 (ofSigned 16 r.eps) ++ le 2 (satNat 16 amb.toNat) ++ [byte f.workers, 0, 0, 0]
    ++ (List.range 4).flatMap (fun w => le 4 ((r.dsum.getD w none).getD 0)) ++ [0, 0, 0, 0]
  let s := match r.slot with | some k => s.setCalSlot k none | none => s
  let s := { s with rng := { s.rng with reqs := s.rng.reqs.filter fun q => !(q.kind == 1 && q.tag == r.id) } }
  let s := ((s.setRun none).put RANGE_STATUS_ARMED 0).put RANGE_STATUS_PHASE 0
  let s := ((s.put RANGE_RUN_ID_LAST r.id).setLast res).bump RANGE_RUNS
  let s := { s with range := { s.range with ends := ((r.id, endRef) :: s.range.ends).take 4 } }
  let s := if valid then s else s.bump RANGE_INVALID
  let s := if v = 1 then (s.bump RANGE_RELAY_CNT).raise FID_RANGE_RELAY else s
  let s := if v = 2 then (s.bump RANGE_ZONE_CNT).raise FID_RANGE_ZONE else s
  let s := if whole && r.workers && (f.workers ≠ r.told || r.told = 0) then s.raise FID_RANGE_WORKER else s
  let s := s.eventAt endRef s.quality EV_RANGE_DONE
    (le 2 r.id ++ [byte v, byte status, byte checks, byte z, byte conf, byte r.tones.length] ++ le 2 (satSigned 16 (rtt / 100))
      ++ le 2 (satNat 16 (dp / 10).toNat) ++ le 2 (satSigned 16 (dr / 10)))
  (s.unitSettle 7).applyStaged 7

/-- A run ends early with this status and verdict UNDECIDED (R219 to R222). -/
def State.rangeFail (s : State) (r : RangeRun) (status : Nat) : State := s.rangeEnd r status false false s.stamp

/-- A run in progress ends with this status, if there is one (R222). -/
def State.rangeStop (s : State) (status : Nat) : State :=
  match s.range.run with
  | some r => s.rangeFail r status
  | none => s

/-! ### The course of a run (R211, R219 to R221) -/

/-- The instant `us` microseconds after O. -/
def RangeRun.at_ (r : RangeRun) (us : Int) : Nat := match r.o with | some (t, _) => ((t : Int) + Config.usTicks * us).toNat | none => 0

/-- O of a run has passed: RANGE_STATUS.RUNNING (R231). -/
def State.rangeRunning (s : State) : Bool := s.range.run.any fun r => r.o.isSome && r.at_ 0 ≤ s.time.now

/-- The run end after O in µs. -/
def RangeRun.lenUs (r : RangeRun) : Nat := 500 + 95 * r.n

/-- The run end in reference time. -/
def RangeRun.endRef (r : RangeRun) : Nat := match r.o with | some (_, t) => t + Config.usTicks * r.lenUs | none => 0

/-- RANGE_CMD.ABORT (R219): before O nothing is transmitted and the run ends; after O the carrier ends at the next tone boundary, and
the run with it. -/
def State.rangeAbort (s : State) : State :=
  match s.range.run with
  | none => s
  | some r =>
    if s.time.now ≤ r.at_ 0 || r.o.isNone then s.rangeEnd r OK true false s.stamp
    else if r.abortAt.isSome then s
    else s.setRun (some { r with abortAt := some s.time.now })

/-- The tone boundary at which a run aborted at `t` ends (R219): the start of the first tone step after it. -/
def RangeRun.abortEnd (r : RangeRun) (t : Nat) : Nat :=
  let us := (t - r.at_ 0) / Config.usTicks
  r.at_ ((if us < 500 then 500 else 500 + 95 * ((us - 500) / 95 + 1) : Nat) : Int)

/-- RANGE_CMD_ABORT (R219, R231). -/
def rangeCmdAbort (m : Master) (s : State) : State := s.onBus m RANGE_CMD.addr 1 State.rangeAbort

/-- A sync has been accepted on channel `n` now: an AFTER_RX run without a trigger takes the frame (R219). -/
def State.rangeTrigger (s : State) (n : Nat) : State :=
  let c := s.uch n
  match s.range.run with
  | some r =>
    if r.mode = 1 && r.trig.isNone && r.rxCh = n && c.phase = 2 && c.at_ = s.time.now && s.stamp ≤ r.org then
      let (len, _) := s.frameLen n c.hdr
      s.setRun (some { r with trig := some (c.at_ - s.rxDelay n + s.bitTicks n (8 * len)) })
    else s
  | none => s

/-- RANGE_ORIGIN_FIXED (R211, R220): O stands, and the run takes its calendar slot or ends. -/
def rangeOriginFixed (s : State) : State :=
  match s.range.run with
  | none => s
  | some r =>
    if r.o.isSome then s
    else
      let o := if r.mode = 0 then some (s.time.now + s.time.ticksToRef r.org, r.org)
        else r.trig.map fun n => let t := n + Config.usTicks * (200 + r.delay); (t, s.refAhead (t - s.time.now))
      match o with
      | none => s
      | some (t, ref) =>
        let r := { r with o := some (t, ref) }
        let from_ := ref - 50 * Config.usTicks
        let dur := Config.usTicks * (100 + r.lenUs)
        match s.freeSlot with
        | none => s.rangeFail r TABLE_FULL
        | some k =>
          if s.exclusiveOver resRadio from_ dur then s.rangeFail r BAD_STATE
          else
            let s := s.setCalSlot k (some (ownSlot k 7 resRadio from_ dur true))
            let lead := 20 * Config.usTicks
            (s.setRun (some { r with slot := some k })).calYield (overlaps · · from_ dur) (overlaps · · (from_ - lead) (dur + lead))

/-- The transmitter is left to the run (R169, R220): a UTX send that is not on the air waits again. -/
def State.utxYield (s : State) : State :=
  match s.utx.tx with
  | some t => if t.phase = 3 then s else s.modUtx fun u => { u with tx := none, sends := t.send :: u.sends }
  | none => s

/-- RANGE_SLOT_BEGIN (R211, R221): at O − 50 µs RTT_ENTRY is loaded and the duty of the whole run is checked. -/
def rangeSlotBegin (s : State) : State :=
  match s.range.run with
  | none => s
  | some r =>
    if r.o.isNone || r.stage ≠ 0 then s
    else
      let s := (s.advance (r.at_ (-50))).utxYield
      let b := s.get (UTX_CALTAB_HI_BAND r.rttEntry)
      if !s.sys.region.ok || !s.flag (UTX_CALTAB_LO_PERMITTED r.rttEntry) then s.rangeFail r REG_CHANNEL
      else if s.dutyLimit b < s.dutyUsed b + 133 + 24 * r.n then (s.refuseDuty b true).rangeFail r REG_DUTY
      else
        let s := s.setRun (some { r with stage := if r.skipRtt then 3 else 1 })
        ((s.put RANGE_STATUS_ARMED 0).put RANGE_STATUS_PHASE 1).modUtx fun u => { u with synth := some r.rttEntry }

/-- Chip `j` of the run (R209). -/
def RangeRun.chip (r : RangeRun) (j : Nat) : Nat := bitAt (u8 r.chips (j / 8)) (7 - j % 8)

/-- The frequency of each of the 127 chips of B1 on a carrier (R210): a 1 is the upper one. -/
def RangeRun.burst (r : RangeRun) (hz : Nat) : List Nat :=
  (List.range 127).map fun j => if r.chip j = 1 then hz + 250000 else hz - 250000

/-- The POWER code of a ranging transmission in band `b` (R173, R221). -/
def State.rangePower (s : State) (r : RangeRun) (b : Nat) : Nat :=
  match s.bands[b]? with | some d => min r.power d.maxPwr | none => r.power

/-- A ranging transmission with its first bit at `t` and reception restored at `to_` starts (R36, R166, R176, R178, R221); `busy` where a
listen it needs found the channel busy. The second part is false where it may not start. -/
def State.rangeSend (s : State) (r : RangeRun) (busy : Bool) (t to_ entry us : Nat) (hz : List Nat) (phase : Nat) : State × Bool :=
  let b := s.get (UTX_CALTAB_HI_BAND r.rttEntry)
  let s := s.advance (t - tenths (s.get UTX_FEM_ON_ON_LNA_LEAD))
  let grant := !s.flag UTX_COEX_CFG_EN || s.gnt
  if busy then ((s.bump UTX_LBT_BUSY).raise FID_UTX_LBT_BUSY b, false)
  else if !grant && !s.flag UTX_COEX_CFG_PRIO_OVERRIDE then (s.put UTX_COEX_STATUS_DENIED 1, false)
  else
    let s := if grant then s else s.put UTX_COEX_STATUS_OVERRIDDEN 1
    let f : FemRun := { seq := s.femSeq, t := t, e := to_ - 6 * Config.usTicks, high := true }
    let s := (s.addDuty b s.utx.binNo us).modUtx fun u => { u with synth := some entry, fem := some f }
    let x : RangeTx := { hz := hz, phase := phase, power := s.rangePower r b, launchAt := t - s.txDelay (s.get UTX_FEM_CTRL) }
    (State.blank { s with range := { s.range with air := some x } } to_, true)

/-- The synthesiser is not locked at a step start (R222). -/
def State.rangeMissed (s : State) (r : RangeRun) : State := (s.raise FID_RANGE_TIMING).rangeFail r TX_LATE

/-- RANGE_STEP (R211, R219): the burst B1, the window of B2, or the next tone step, with what it measures; a run that has been aborted
ends at its tone boundary instead. `blocked` counts for B1 in an LBT band, which alone listens (R221). -/
def rangeStep (meas : RangeMeas) (s : State) : State :=
  match s.range.run with
  | none => s
  | some r =>
    match (if r.stage = 3 then r.abortAt else none) with
    | some t =>
      let s := s.advance (r.abortEnd t)
      s.rangeEnd r OK true false s.stamp
    | none =>
    let min4 := 4 * s.get RANGE_QUAL_CFG_MIN_SNR_DB
    match r.stage with
    | 1 =>
      let t := r.at_ 20
      if !meas.locked || t < s.utx.freeAt then (s.advance t).rangeMissed r
      else
        match s.rangeSend r (meas.blocked && s.lbtUs r.rttEntry ≠ 0) t (r.at_ 153) r.rttEntry 133 (r.burst (s.entFreq r.rttEntry)) 0 with
        | (s, false) => (s.advance t).rangeFail r TX_LATE
        | (s, true) => s.setRun (some { r with stage := 2 })
    | 2 =>
      let s := s.advance (r.at_ 374)
      let s := s.put RANGE_STATUS_PHASE (if r.skipTones then 3 else 2)
      if min4 ≤ meas.snr.toNat then
        s.setRun (some { r with stage := 3, b2 := some (meas.delayPs.toNat, meas.snr.toNat), eps := meas.eps.toInt })
      else s.setRun (some { r with stage := 3 })
    | 3 =>
      if r.skipTones || r.n ≤ r.k then s
      else
        let us : Int := 500 + 95 * r.k
        let t := r.at_ us
        if !meas.locked || t < s.utx.freeAt then (s.advance t).rangeMissed r
        else
          match s.rangeSend r false t (r.at_ (us + 24)) (r.first + r.tone r.k) 24 [r.f0 + r.tone r.k * r.sp] (u8 r.rnd r.k) with
          | (s, false) => (s.advance t).rangeFail r TX_LATE
          | (s, true) =>
            let s := (s.put RANGE_STATUS_PHASE (if r.k + 1 = r.n then 3 else 2)).advance (r.at_ (us + 38))
            let s := if meas.loopback then s else s.raise FID_RANGE_LOOPBACK
            let good := meas.loopback && min4 ≤ meas.snr.toNat
            let tone : Tone := { i := r.tone r.k, psi := meas.psi.toNat, beta := meas.beta.toNat, snr := meas.snr.toNat }
            s.setRun (some { r with k := r.k + 1, tones := if good then r.tones ++ [tone] else r.tones
                                    eps := if r.b2.isNone then meas.eps.toInt else r.eps })
    | _ => s

/-- RANGE_TIMEOUT (R219): the latest instant passes without a trigger frame. -/
def rangeTimeout (s : State) : State :=
  match s.range.run with
  | some r => if r.mode = 1 && r.trig.isNone then (s.advanceRef r.org).rangeFail r TIMEOUT else s
  | none => s

/-- RANGE_DONE (R227): at `at_`, at most 200 µs after the run end, the verdict is formed; with USE_WORKERS not before the
150 µs that results of workers have (R224). -/
def State.rangeDone (s : State) (at_ : Nat) : State :=
  match s.range.run with
  | none => s
  | some r =>
    if r.o.isNone || r.stage ≠ 3 || !(r.skipTones || r.n ≤ r.k) then s
    else
      let e := r.at_ r.lenUs
      let s := s.advance (clampNat (e + (if r.workers then 150 * Config.usTicks else 0)) (e + 200 * Config.usTicks) at_)
      if r.abortAt.isSome then s.rangeEnd r OK true false r.endRef else s.rangeEnd r OK false true r.endRef

/-- A worker's result reaches the run in progress by its end + 150 µs (R224). -/
def State.rangeWorker (s : State) (w tones dsum : Nat) : State :=
  match s.range.run with
  | some r =>
    if r.workers && r.o.isSome && s.get RANGE_QUAL_CFG_MIN_TONES ≤ tones && s.time.now ≤ r.at_ (r.lenUs + 150) then
      s.setRun (some { r with dsum := r.dsum.set w (some dsum) })
    else s
  | none => s

/-- RANGE_RESULT (R236). -/
def rangeResult (m : Master) (p : List Byte) (s : State) : State :=
  let id := u16 p 0
  hostCmd 0x52 m p [lenIs p 2]
    (fun s =>
      let cur : Bool := match s.range.run with | some r => r.id == id | none => false
      if id ≠ 0xFFFF && cur then s.ends BAD_STATE
      else
        match (if id = 0xFFFF then s.range.results.head? else s.range.results.find? fun b => u16 b 0 == id) with
        | some b => (s, OK, b)
        | none => s.ends NOT_FOUND) s

end Sys2Proof.Machine
end

