-- ==== Sys2Proof/Machine/Auth.lean ====
section
/-!
DEFINITION. Machine/Auth.lean: the access attempt as the firmware runs it (R256 to R267, R286, R287). What the firmware
itself chooses (channels, entries, power, limits of a wait) is in notes/assumptions/20.md.
-/
namespace Sys2Proof.Machine

/-- AUTH as `f` makes it. -/
def State.modAuth (s : State) (f : AuthState → AuthState) : State := { s with auth := f s.auth }

/-- The attempt becomes `a`. -/
def State.setAtt (s : State) (a : Attempt) : State := s.modAuth fun x => { x with att := some a }

/-- Channel `n` is enabled in KAP mode at bit rate `r` (R135, R136). -/
def State.kapChan (s : State) (n r : Nat) : Bool :=
  s.flag (URX_CH_CFG_EN n) && s.get (URX_CH_CFG_LEN_MODE n) == 2 && s.get (URX_CH_CFG_CRC_MODE n) == 1 && s.get (URX_CH_RATE n) == r

/-- The vehicle uses profile L (R135), as the registers show it to the firmware: the sentinel is set to it, or an enabled KAP
channel has its answer class. -/
def State.profileL (s : State) : Bool := s.flag URX_SENT_CFG_PROFILE || (List.range 64).any fun n => s.kapChan n 19200

/-- Bit rate of the answer class (R135). -/
def State.answerRate (s : State) : Nat := if s.profileL then 19200 else 50000

/-- Bit rate of the exchange class (R135). -/
def State.exchRate (s : State) : Nat := if s.profileL then 50000 else 100000

/-- Ticks of `k` bits at rate `r`. -/
def bitsAtRate (k r : Nat) : Nat := Config.sTicks * k / max 1 r

/-- The vehicle's channel list as the base has it (R139, R141): the enabled channels with answer-class KAP settings, in
ascending order. -/
def State.answerChans (s : State) : List Nat :=
  (List.range 64).filter fun n => s.kapChan n s.answerRate

/-- The frequency in Hz of channel `n` (R121). -/
def State.chanFreq (s : State) (n : Nat) : Nat :=
  ((s.get (URX_WIN_FREQ (n / 16)) : Int) + toSigned 24 (s.get (URX_CH_OFS n))).toNat

/-- The windows that hold these channels, as a mask. -/
def winMask (l : List Nat) : Nat := sumNat ((List.range 4).map fun w => bit01 (l.any (· / 16 == w)) * 2 ^ w)

/-! ### The end of an attempt (R262, R263, R278, R287) -/

/-- AUTH_KEY for one answer (R278): positions as in the table; `second` is bit 2 of FLAGS. -/
def State.keyEvent (s : State) (a : Attempt) (st : Nat) (f : LookRes) (second : Bool) (ctr verdict : Nat) : State :=
  let fl := bit01 (f.source == 2) + 2 * bit01 (f.source == 1 && rowState f.row == stPromoted) + 4 * bit01 second
  s.eventAt a.origin a.quality EV_AUTH_KEY
    (le 2 a.id ++ [byte a.round, byte st, byte (u8 f.row 12), byte fl] ++ le 3 f.index ++ le 4 ctr ++ [byte verdict])

/-- AUTH_KEY for a selected key. -/
def State.keyTold (s : State) (a : Attempt) (k : AuthKey) (second : Bool) : State :=
  s.keyEvent a k.status k.look second k.ctr k.verdict

/-- A key may be named for release (R263). -/
def State.releasable (s : State) (k : AuthKey) : Bool :=
  k.authed && k.status == OK && k.verdict == 0 && k.zone == 0 && s.get RANGE_THR2_CONF_MIN ≤ k.conf && rowStart k.look.row

/-- The better of two release candidates (R263): least distance, then earliest. -/
def betterKey (l : List AuthKey) (i j : Nat) : Nat :=
  match l[i]?, l[j]? with
  | some a, some b => if b.dist < a.dist || (b.dist == a.dist && b.order < a.order) then j else i
  | _, _ => i

/-- DEG_NO_RANGING is in force (R222, R553). -/
def State.noRanging (s : State) : Bool := s.forcedMode 1 || s.fenced 5 || s.fenced 6 || s.fenced 7

/-- The position of the release key, or 0xFF (R263). -/
def State.releaseKey (s : State) (a : Attempt) : Nat :=
  match (List.range a.keys.length).filter fun i => (a.keys[i]?.map s.releasable).getD false with
  | [] => 0xFF
  | i :: l => if s.noRanging then 0xFF else l.foldl (betterKey a.keys) i

/-- The position of the unlock key, or 0xFF (R263): the first to complete. -/
def State.unlockKey (s : State) (a : Attempt) : Nat :=
  if s.noRanging then 0xFF
  else
    let ok (i : Nat) : Bool := match a.keys[i]? with
      | some k => k.authed && k.status == OK && k.verdict == 0 && rowUnlock k.look.row
      | none => false
    match (List.range a.keys.length).filter ok with
    | [] => 0xFF
    | i :: l => l.foldl (fun i j => if ((a.keys[j]?.map (·.order)).getD 0) < ((a.keys[i]?.map (·.order)).getD 0) then j else i) i

/-- One key of the AUTH_RESULT image (R287). -/
def AuthKey.image (k : AuthKey) : List Byte :=
  padTo 12 (k.ans.bytes.drop 1) ++ [byte k.status, byte (u8 k.look.row 12), byte k.look.source, byte k.verdict, byte k.zone,
    byte k.conf] ++ le 2 k.kstat ++ le 4 k.ctr ++ le 4 k.dist ++ le 4 k.look.index

/-- The AUTH_RESULT image (R287). -/
def Attempt.image (a : Attempt) (st rel unl : Nat) : List Byte :=
  padTo 72 (le 2 a.id ++ [byte st, byte a.round, byte a.keys.length, byte rel, byte unl, 0] ++ a.keys.flatMap AuthKey.image)

/-- The exchange ends on its channel: the window that the firmware started for it is stopped again. -/
def State.closeXch (s : State) (a : Attempt) : State × Attempt :=
  let s := match a.xwin with | some w => s.stopWin w 0 | none => s
  (s, { a with xch := none, xwin := none })

/-- Channel `n` is closed at its next instant outside a frame (R151). -/
def State.closeChan (s : State) (n : Nat) : State :=
  let q := (s.uch n).phase ≠ 2
  let s := if q then s.setUch n {} else s
  s.stage q (1000 + n) (URX_CH_CFG_EN n) 0

/-- The exchange-class channels of an attempt are closed again. -/
def State.closeXchs (s : State) (a : Attempt) : State := a.xchs.foldl (fun s x => s.closeChan x.2) s

/-- The attempt's own ranging run is aborted (R219, R260). -/
def State.abortRun (s : State) (a : Attempt) : State :=
  match a.run, s.range.run with
  | some id, some r => if r.id = id then s.rangeAbort else s
  | _, _ => s

/-- The attempt ends with `st` (R262, R263, R278). The release key's request goes to REL. -/
def State.authEnd (s : State) (a : Attempt) (st : Nat) : State :=
  let (s, a) := s.closeXch a
  let s := s.closeXchs a
  let rel := s.releaseKey a
  let unl := s.unlockKey a
  let keys := (a.keys.filter (·.authed)).length
  let dur := satNat 32 ((s.time.now - a.start) / Config.usTicks)
  let open_ : Option OpenReq := a.keys[rel]?.map fun k : AuthKey =>
    ({ id := k.look.row.take 12, role := u8 k.look.row 12, source := 0, start := true, run := k.run } : OpenReq)
  let s := a.keys.foldl (fun s k => s.holdKey (k.look.row.take 12) false) s
  let s := s.modAuth fun x =>
    let u := if unl = 0xFF then x.unlocked else some a.origin
    { x with att := none, results := (a.image st rel unl :: x.results).take 4, release := open_, unlocked := u }
  s.eventAt a.origin a.quality EV_AUTH_DONE
    (le 2 a.id ++ [byte st, byte a.round, byte keys, byte rel, byte unl] ++ le 4 dur)

/-- The status of an attempt that has run its course (R278). -/
def Attempt.status (a : Attempt) : Nat :=
  if a.keys.any (·.authed) then OK else (a.outcomes.head?).getD TIMEOUT

/-- The attempt ends at once with `st` (R267): the keys and answers not yet reported are reported with it, the flash operation that its
lookup suspended goes on (R24), and none of its frames that is not on the air is sent any more. -/
def State.authBreak (s : State) (st : Nat) : State :=
  match s.auth.att with
  | none => s
  | some a =>
    let s := s.abortRun a
    let keys := a.keys.map fun k => if k.told then k else { k with status := st }
    let s := (List.range keys.length).foldl (fun s i =>
      match keys[i]? with | some k => if k.told then s else s.keyTold a k (i = 1) | none => s) s
    let s := (a.answers.drop a.idx).foldl (fun s _ => s.keyEvent a st { req := ⟨1, [], 16, true⟩, status := st } false 0 0xFF) s
    let s := { s with cred := { s.cred with looks := s.cred.looks.filter (·.who != 1)
                                            found := s.cred.found.filter (·.req.who != 1) } }
    let s := s.flashFollow.utxWithdraw s.auth.sent st
    s.authEnd { a with keys := keys } st

/-! ### The telegram and the answers (R262 to R266) -/

/-- An attempt starts (R262): `origin` is the reference timestamp of its edge, `start` the instant in ticks. -/
def State.authBegin (s : State) (locate : Bool) (pats : List Nat) (origin quality start : Nat) (nb : Option (List Byte)) :
    State :=
  let a : Attempt := { id := s.auth.nextId, locate := locate, origin := origin, quality := quality, start := start, pats := pats }
  let a := if nb.isSome then { a with stage := 1, round := 1 } else a
  ((s.modAuth fun x => { x with nextId := (x.nextId + 1) % 0xFFFF, further := [], sent := [] }).setAtt a).withdraw 9

/-- The units an attempt needs are ON (R286). -/
def State.authUnits (s : State) : Bool := s.unitOn 4 && s.unitOn 5 && s.unitOn 6 && s.unitOn 9 && s.sys.role == 0

/-- The telegram of a round is handed to LF (R262). -/
def State.authSend (s : State) (a : Attempt) : State :=
  let a := { a with round := a.round + 1, crc := 0, answers := [], idx := 0, asked := false, solving := none }
  match s.lfQueue { id := 0, typ := bit01 a.locate, pats := a.pats, preempt := true, atTime := none, nb := none } with
  | (s, st, id) => if st = ACCEPTED then s.setAtt { a with stage := 1, sendId := id } else s.authEnd a st

/-- The end of the answer window in ticks (R141). -/
def State.windowEnd (s : State) (a : Attempt) : Nat := a.seqEnd + 2790 * Config.usTicks + bitsAtRate 56 s.answerRate

/-- The telegram has ended (R141, R262): the calendar opens the answer windows. -/
def State.authWindow (s : State) (a : Attempt) (f : LfFin) : State :=
  if f.outcome = 2 then s.authEnd a f.status
  else
    let chans := s.answerChans
    let a := { a with stage := 2, nb := f.nb, mask := f.mask, seqEnd := f.at_, chans := chans }
    let lead := s.time.ref - (s.time.now - f.at_)
    let slot : CalSlot := { target := 5, action := 1, wake := false, periodic := false, exclusive := false, resources := 0
                            prepLead := 500, time := 900 * Config.usTicks + lead
                            duration := (1890 * Config.usTicks + bitsAtRate 56 s.answerRate) / 250 + 1, period := 0
                            arg := winMask chans }
    let s := match (if chans.isEmpty then none else s.freeSlot) with
      | some n => s.setCalSlot n (some slot)
      | none => s
    s.setAtt a

/-- ANSWER_WINDOW_END (R141, R264): the window ends once no frame is in progress on an answer channel. -/
def answerWindowEnd (s : State) : State :=
  match s.auth.att with
  | none => s
  | some a =>
    if a.stage ≠ 2 || a.chans.any (fun n => (s.uch n).phase == 2) then s
    else
      let s := s.advance (s.windowEnd a)
      if a.answers.isEmpty && 0 < a.crc && a.round < s.get CRED_AUTH_CFG_MAX_ROUNDS then s.setAtt { a with stage := 0 }
      else s.setAtt { a with stage := 3, answers := a.answers.mergeSort fun x y => x.at_ ≤ y.at_ }

/-- The KEY_ID of an answer (R138). -/
def AuthAnswer.id (r : AuthAnswer) : List Byte := (r.bytes.drop 1).take 12

/-- The answer checks of R260: list entry and frame instant. -/
def State.answerOk (s : State) (a : Attempt) (r : AuthAnswer) : Bool :=
  let sel := crc16 (padTo 16 a.nb ++ r.id)
  let t := a.seqEnd + 1000 * Config.usTicks + 250 * Config.usTicks * (sel / 2 ^ 13) + bitsAtRate 56 s.answerRate
  let tol := Config.usTicks * s.get CRED_AUTH_CFG_SLOT_TOL_US
  a.chans[sel % max 1 a.chans.length]? == some r.ch && within (t - tol) (t + tol) r.at_

/-- The same answer: no two have one channel and one frame instant. -/
def AuthAnswer.same (x y : AuthAnswer) : Bool := x.ch == y.ch && x.at_ == y.at_

/-- The field-strength values of an answer (R138): 3 × NPAT bytes. -/
def AuthAnswer.fields (r : AuthAnswer) : List Byte := (r.bytes.drop 29).take (3 * bitsAt (u8 r.bytes 0) 0 5)

/-- The solve of an answer starts (R205, R206): its values and the telegram's slot list, in which the slots flagged in SLOT_MASK are
empty. -/
def State.authZone (s : State) (a : Attempt) (r : AuthAnswer) : State :=
  let s := s.putRegBytes ZONE_IN 12 (padTo 48 r.fields)
  let s := s.putRegBytes ZONE_SLOTPAT 4 ((List.range 16).map fun k => byte (if bitAt a.mask k = 1 then 0xFF else a.pats.getD k 0xFF))
  (s.zoneStart .m0 none false).setAtt { a with solving := some r }

/-- The solve of answer `r` has given zone and confidence. -/
def Attempt.solved (a : Attempt) (r : AuthAnswer) (z : Nat × Nat) : Attempt :=
  { a with solving := none, answers := a.answers.map fun x => if x.same r then { x with zone := some z } else x }

/-- Zone and confidence of an answer, once its solve is made. -/
def Attempt.zoneOf (a : Attempt) (r : AuthAnswer) : Option (Nat × Nat) := (a.answers.find? (·.same r)).bind (·.zone)

/-- The solves of the answers, in the order of their records (R206): the firmware starts one as soon as ZONE is free, and takes its result;
where ZONE is not ON there is no zone, 0xFF with confidence 0. `none` where nothing has come. -/
def State.authSolve (s : State) (a : Attempt) : Option State :=
  match a.solving with
  | some r =>
    if s.zone.solve.isSome then none
    else some (s.setAtt (a.solved r (if s.unit 8 != .on then (0xFF, 0) else (s.get ZONE_RESULT_ZONE, s.get ZONE_RESULT_CONF))))
  | none =>
    match a.answers.find? (·.zone.isNone) with
    | none => none
    | some r => if s.unit 8 != .on then some (s.setAtt (a.solved r (0xFF, 0))) else if s.zoneFree then some (s.authZone a r) else none

/-- An answer ends with `st` and uses no exchange (R265): it is counted and reported. -/
def State.authRefuse (s : State) (a : Attempt) (r : AuthAnswer) (st : Nat) (f : LookRes) : State :=
  let s := s.countOutcome st r.id (f.source != 0)
  (s.keyEvent a st f false 0 0xFF).setAtt { a with idx := a.idx + 1, asked := false, outcomes := a.outcomes ++ [st] }

/-- What no lookup has found. -/
def nothingFound (id : List Byte) (st : Nat) : LookRes := { req := ⟨1, id, 16, true⟩, status := st }

/-- A LOCATE answer is reported once it is solved (R266). -/
def State.authLocate (s : State) (a : Attempt) (r : AuthAnswer) (z c : Nat) : State :=
  let k : AuthKey := { ans := r, look := nothingFound r.id OK, kslot := 16, zone := z, conf := c, told := true }
  (s.keyTold a k false).setAtt
    { a with idx := a.idx + 1, outcomes := a.outcomes ++ [OK], keys := if a.keys.length < 2 then a.keys ++ [k] else a.keys }

/-- The next answer is taken (R262, R265, R269, R270): LOCKOUT before lookup, else a lookup. An answer that fails a check
is looked up without unwrap; one that comes third is looked up in full, since it is BUSY only where it passes. -/
def State.authTake (s : State) (a : Attempt) (r : AuthAnswer) : State :=
  if a.locate then
    match a.zoneOf r with
    | some (z, c) => s.authLocate a r z c
    | none => s
  else if s.lockedOut r.id then s.authRefuse a r LOCKOUT (nothingFound r.id LOCKOUT)
  else
    let q : LookReq := { who := 1, id := r.id, kslot := 16 + a.keys.length, noUnwrap := !s.answerOk a r }
    (s.lookAsk q).setAtt { a with asked := true }

/-- The lookup of the answer being taken has ended (R260, R265). -/
def State.authFound (s : State) (a : Attempt) (r : AuthAnswer) (f : LookRes) : State :=
  let s := s.modCred fun c => { c with found := c.found.filter (·.req.who != 1) }
  if !s.answerOk a r then s.authRefuse a r RELAY_SUSPECT f
  else if f.status ≠ OK then s.authRefuse a r f.status f
  else if 2 ≤ a.keys.length then s.authRefuse a r BUSY f
  else
    (s.holdKey r.id true).setAtt { a with idx := a.idx + 1, asked := false, outcomes := a.outcomes ++ [OK]
                                          keys := a.keys ++ [{ ans := r, look := f, kslot := f.req.kslot }] }

/-! ### The exchange (R256 to R261) -/

/-- KS of R256. -/
def State.sessionKey (s : State) (k nb nk id : List Byte) : List Byte :=
  cmac k ([0x4B, 0x41, 0x50, 0x53, 0x01] ++ le 2 (s.get LF_TEL_CFG_WAKE_ID) ++ id ++ padTo 16 nb ++ nk)

/-- PB of R257, over the header and payload of the answer. -/
def proofBase (ks ans : List Byte) : List Byte := (cmac ks ([0x42, 0x50, 0x64] ++ ans)).take 8

/-- TAG_K of R258, over CTR and KSTAT. -/
def proofKey (ks ck pb : List Byte) : List Byte := (cmac ks ([0x4B, 0x50, 0x87] ++ ck ++ pb)).take 8

/-- A RANGE_CTRL frame (R217): HDR and payload. -/
def ctrlFrame (ks : List Byte) (op arg : Nat) : List Byte :=
  [0xA2, byte op, byte arg] ++ (cmac ks [0x52, 0x43, 0xA2, byte op, byte arg]).take 2

/-- The hop entry on a frequency. -/
def State.entryOn (s : State) (hz : Nat) : Option Nat := (List.range 128).find? fun e => s.entFreq e == hz && hz != 0

/-- The firmware sends HDR and payload in the exchange class on the frequency of channel `n` (R136, R257): at once, or with its
first bit at `start`. -/
def State.authTx (s : State) (n : Nat) (data : List Byte) (start : Option Nat := none) : State × Nat × Nat :=
  match s.entryOn (s.chanFreq n) with
  | none => (s, BAD_STATE, 0)
  | some e =>
    let (rate, bits, half) := sendShape 0 (if s.profileL then 3 else 2) 0 0 0 data.length
    match s.utxQueue { id := 0, trig := bit01 start.isSome, prio := true, entry := e, power := s.get RANGE_PLAN_CFG_TX_POWER
                       format := 0, mod := 1, dev := if s.profileL then 25000 else 50000, rate := rate, bits := bits
                       halfSpan := half, rxCh := 0, tol := 0, start := start.getD 0, lead := 0, data := data } with
    | (s, st, id) => (if st = ACCEPTED then s.modAuth fun x => { x with sent := x.sent ++ [id] } else s, st, id)

/-- A free channel of the answer channel's window on which an exchange-class channel fits. -/
def State.spareChan (s : State) (n : Nat) : Option Nat :=
  let w := n / 16
  let bw := if s.profileL then 200000 else 400000
  if !offsetFits (toSigned 24 (s.get (URX_CH_OFS n))) bw (winWidth (s.get (URX_WIN_CFG_WIDTH w))) then none
  else ((List.range 16).map (16 * w + ·)).find? fun k => !s.flag (URX_CH_CFG_EN k)

/-- The exchange channel `k` is set up beside answer channel `n` and opened (R262). -/
def State.openXch (s : State) (n k : Nat) : State :=
  let s := s.setReg (URX_CH_CFG k).addr (s.reg (URX_CH_CFG n).addr)
  let s := s.put (URX_CH_CFG_BW k) (if s.profileL then 3 else 4)
  let s := s.setReg (URX_CH_OFS k).addr (s.reg (URX_CH_OFS n).addr)
  let s := (s.put (URX_CH_RATE k) s.exchRate).put (URX_CH_DEV k) (if s.profileL then 25000 else 50000)
  let s := s.setReg (URX_CH_SYNC k).addr (s.reg (URX_CH_SYNC n).addr)
  s.setReg (URX_CH_FRAME k).addr (s.reg (URX_CH_FRAME n).addr)

/-- The run of an exchange is armed with the secrets of R209 and the zone and confidence of the key (R225); its RUN_ID, or `none` where it is refused or ranging is off. -/
def State.authArm (s : State) (ks : List Byte) (z c u mode rxCh org : Nat) : State × Option Nat :=
  let secret (j : Nat) := cmac ks [0x52, 0x41, 0x4E, 0x47, byte j]
  let a : RangeAsk := { mode := mode, flags := 8 * u, rxCh := rxCh, zoneSrc := 0xFE, org := org, seed := secret (2 * u + 1)
                        chips := secret (2 * u + 2), used := some (if z = 0xFF then none else some (z, c)) }
  if s.noRanging || s.rangeRefusal.isSome || !s.rangeAskOk a then (s, none)
  else (s.rangeArm a, some s.range.nextId)

/-- Key `k` of the attempt becomes `v`. -/
def Attempt.setKey (a : Attempt) (i : Nat) (f : AuthKey → AuthKey) : Attempt := { a with keys := a.keys.modify i f }

/-- RESULT and CLOSE are sent where a verdict was formed; else CLOSE (R218). -/
def State.authClose (s : State) (a : Attempt) (verdict : Option Nat) : State :=
  match a.xch with
  | none => s
  | some n =>
    let s := match verdict with | some v => (s.authTx n (ctrlFrame a.ks 2 v)).1 | none => s
    (s.authTx n (ctrlFrame a.ks 3 0)).1

/-- The exchange in progress ends (R261, R262, R268, R269, R272): its status and verdict are known, and engine 0 is cleared (R327). -/
def State.authKeyEnd (s : State) (a : Attempt) (st : Nat) : State :=
  match a.keys[a.cur]? with
  | none => s
  | some k =>
    let gone := s.credGone k.look
    let st := if gone then REVOKED else st
    let s := s.countOutcome st k.ans.id true
    let s := if st = OK then s.clearFails k.ans.id else s
    let k := { k with status := st, told := true, order := a.ended }
    let s := s.keyTold a k (a.cur = 1)
    let a := a.setKey a.cur fun _ => k
    let a := { a with ended := a.ended + 1, cur := a.cur + 1, stage := 4, ks := [], pb := [], txId := none, run := none }
    let a := { a with runU := 0 }
    let oc := if st = OK then a.outcomes
      else a.outcomes.set ((a.answers.findIdx? (·.same k.ans)).getD a.outcomes.length) st
    let (s, a) := s.closeXch { a with outcomes := oc }
    (s.engineClear 0).setAtt a

/-- The next exchange begins (R256, R257, R262) with the key's zone: the channel, KS, the run armed, BASE_PROOF. -/
def State.authExchange (s : State) (a : Attempt) (k : AuthKey) (z c : Nat) : State :=
  let a := a.setKey a.cur fun k => { k with zone := z, conf := c }
  match s.slot k.kslot, (a.xchs.find? (·.1 == k.ans.ch)).map (·.2) with
  | none, _ => s.authKeyEnd a UNWRAP
  | _, none => s.authKeyEnd a BAD_STATE
  | some key, some x =>
    let w := x / 16
    let wasOn := (s.win w).st == .on && !(s.win w).stop
    let (s, st) := if wasOn then (s, OK) else s.urxStartMask (2 ^ w) 0 none
    if st ≠ OK then s.authKeyEnd a st
    else
      let a := { a with xch := some x, xwin := if wasOn then none else some w }
      let body := k.ans.bytes.take (k.ans.bytes.length - 2)
      let ks := s.sessionKey key.key a.nb ((body.drop 13).take 16) k.ans.id
      let pb := proofBase ks body
      let s := (s.engineWork k.kslot ks).engineWork 64 pb
      let (s, run) := s.authArm ks z c 0 1 x (20 * Config.msTicks + s.time.ref)
      let a := { (a.setKey a.cur fun k => { k with run := run.getD 0xFFFF }) with ks := ks, pb := pb, run := run, runU := 0 }
      match s.authTx x (0x64 :: pb) with
      | (s, st, id) =>
        if st = ACCEPTED then s.setAtt { a with stage := 5, txId := some id } else (s.abortRun a).authKeyEnd a st

/-- BASE_PROOF has ended (R260): KEY_PROOF is awaited, or the exchange ends with the send's status. -/
def State.authProofSent (s : State) (a : Attempt) (f : UtxFin) : State :=
  if f.outcome ≠ 0 then (s.abortRun a).authKeyEnd a f.status
  else s.setAtt { a with stage := 6, txId := none, exp := f.at_ + 200 * Config.usTicks + bitsAtRate 56 s.exchRate }

/-- The status of a KEY_PROOF with frame instant `at_` (R258, R260); the stored counter is that of the lookup (R272). -/
def State.proofStatus (s : State) (a : Attempt) (k : AuthKey) (b : List Byte) (at_ : Nat) : Nat :=
  let tol := Config.usTicks * s.get CRED_AUTH_CFG_SLOT_TOL_US
  let ctr := u32 b 1
  if !within (a.exp - tol) (a.exp + tol) at_ then RELAY_SUSPECT
  else if proofKey a.ks ((b.drop 1).take 6) a.pb ≠ (b.drop 7).take 8 then AUTH_FAIL
  else if ctr = 0xFFFFFFFF then COUNTER_EXHAUSTED
  else if ctr ≤ k.look.ctr then AUTH_FAIL
  else OK

/-- KEY_PROOF is in (R260, R261). -/
def State.authProof (s : State) (a : Attempt) (b : List Byte) (at_ : Nat) : State :=
  match a.keys[a.cur]? with
  | none => s
  | some k =>
    let st := s.proofStatus a k b at_
    if st ≠ OK then (s.abortRun a).authKeyEnd a st
    else
      let ctr := u32 b 1
      let s := s.storeCounter k.look ctr
      s.setAtt { a.setKey a.cur (fun k => { k with authed := true, ctr := ctr, kstat := u16 b 5 }) with stage := 7 }

/-- KEY_PROOF_TIMEOUT (R260): no KEY_PROOF by its expected instant plus SLOT_TOL_US, and no frame in progress. -/
def keyProofTimeout (s : State) : State :=
  match s.auth.att with
  | none => s
  | some a =>
    let busy := match a.xch with | some n => (s.uch n).phase == 2 | none => false
    if a.stage ≠ 6 || busy then s
    else
      let s := s.advance (a.exp + Config.usTicks * s.get CRED_AUTH_CFG_SLOT_TOL_US)
      (s.abortRun a).authKeyEnd a TIMEOUT

/-- An attempt listens on channel `n`: as an answer channel, or as the exchange channel (R141, R262). -/
def State.authHears (s : State) (n : Nat) : Bool :=
  match s.auth.att with
  | some a => (a.stage = 2 && a.chans.contains n) || a.xch == some n
  | none => false

/-- An answer has arrived on channel `n`: an ACCESS attempt opens an exchange-class channel on its frequency, where it has none and one is
to be had (R262). -/
def State.xchFor (s : State) (a : Attempt) (n : Nat) : State × Attempt :=
  if a.locate || a.xchs.any (·.1 == n) then (s, a)
  else
    match s.spareChan n with
    | some x => (s.openXch n x, { a with xchs := a.xchs ++ [(n, x)] })
    | none => (s, a)

/-- A frame has ended on channel `n` during an attempt (R141, R264): its frame instant, and its bytes where it passed its
CRC. -/
def State.authFrame (s : State) (n at_ ref : Nat) (b : Option (List Byte)) : State :=
  match s.auth.att with
  | none => s
  | some a =>
    if a.stage = 2 && a.chans.contains n && at_ ≤ s.windowEnd a && a.seqEnd ≤ at_ then
      match b with
      | none => s.setAtt { a with crc := a.crc + 1 }
      | some b =>
        if u8 b 0 / 32 = bit01 a.locate && 31 ≤ b.length then
          let (s, a) := s.xchFor a n
          s.setAtt { a with answers := a.answers ++ [{ ch := n, at_ := at_, ref := ref, bytes := b }] }
        else s
    else if a.stage = 6 && a.xch = some n then
      match b with
      | some b => if u8 b 0 = 0x87 && b.length = 17 then s.authProof a b at_ else s
      | none => s
    else s

/-- No run was armed: the exchange ends with verdict UNDECIDED (R263). -/
def State.authUnranged (s : State) (a : Attempt) : State :=
  (s.authClose a none).authKeyEnd (a.setKey a.cur fun k => { k with verdict := 4 }) OK

/-- REPEAT (R211, R227): the frame is to start 200 µs from now, later by a listen its band asks for, and run 1 is armed AT_ORIGIN
from its end. -/
def State.authRepeat (s : State) (a : Attempt) (n : Nat) : State :=
  let data := ctrlFrame a.ks 1 1
  let (rate, bits, _) := sendShape 0 (if s.profileL then 3 else 2) 0 0 0 data.length
  let lbt := match s.entryOn (s.chanFreq n) with | some e => s.lbtUs e | none => 0
  let t := s.time.ref + Config.usTicks * (200 + lbt)
  let o := t + Config.sTicks * bits / max 1 rate + Config.usTicks * (200 + s.get RANGE_TIMING_RUN_DELAY_US)
  let (z, c) := match a.keys[a.cur]? with | some k => (k.zone, k.conf) | none => (0xFF, 0)
  match s.authArm a.ks z c 1 0 0 o with
  | (s, none) => s.authUnranged a
  | (s, some r) =>
    let a := { a with run := some r, runU := 1 }
    match s.authTx n data (some t) with
    | (s, st, id) => if st = ACCEPTED then s.setAtt { a with txId := some id } else (s.abortRun a).authUnranged a

/-- The run has ended (R226, R227, R261, R263): REPEAT gets run 1; any other verdict ends the exchange. -/
def State.authRanged (s : State) (a : Attempt) (res : List Byte) : State :=
  let v := u8 res 2
  let a := a.setKey a.cur fun k => { k with dist := u32 res 24, run := u16 res 0 }
  match (if v = 3 && a.runU = 0 then a.xch else none) with
  | some n => s.authRepeat a n
  | none =>
    let v := if s.noRanging || v = 3 then 4 else v
    let a := a.setKey a.cur fun k => { k with verdict := v }
    (s.authClose a (some v)).authKeyEnd a (if v = 1 then RELAY_SUSPECT else if v = 2 then ZONE_MISMATCH else OK)

/-- One step of the firmware in an attempt, where something it waits for has come. -/
def State.authStep (s : State) : State :=
  match s.auth.att with
  | none => s
  | some a =>
    match s.authSolve a with
    | some t => t
    | none =>
    match a.stage with
    | 0 => if s.awake && s.pwr.fwRun then s.authSend a else s
    | 1 => match s.lf.fin.find? (·.id == a.sendId) with | some f => s.authWindow a f | none => s
    | 3 =>
      match a.answers[a.idx]? with
      | none => s.setAtt { a with stage := 4 }
      | some r =>
        if a.asked then
          match s.cred.found.find? (·.req.who == 1) with | some f => s.authFound a r f | none => s
        else s.authTake a r
    | 4 =>
      match (if a.locate then none else a.keys[a.cur]?) with
      | some k => match a.zoneOf k.ans with | some (z, c) => s.authExchange a k z c | none => s
      | none => s.authEnd a a.status
    | 5 => match s.utx.fin.find? (some ·.id == a.txId) with | some f => s.authProofSent a f | none => s
    | 7 =>
      match a.run with
      | none => s.authUnranged a
      | some id =>
        if s.range.run.any (·.id == id) then s
        else
          match s.range.results.find? fun r => u16 r 0 == id with
          | some r => s.authRanged a r
          | none => s.authUnranged a
    | _ => s

/-- The firmware goes on with the attempt as far as it can (`fuel` steps at most). -/
def State.authRun (s : State) : Nat → State
  | 0 => s
  | fuel + 1 => if s.auth.att.isNone then s else let t := s.authStep; if t.auth == s.auth then s else t.authRun fuel

/-! ### Commands (R286, R287) -/

/-- AUTH_START (R286). -/
def authStart (m : Master) (p : List Byte) (s : State) : State :=
  let hl := u8 p 1 = 1
  let n := u8 p 2
  let pats := (List.range n).map fun k => u8 p (4 + k)
  hostCmd 0x65 m p
    [lenIs p 20, paramOk (u8 p 0 < 2 && u8 p 1 < 2 && u8 p 3 = 0),
     paramOk (hl || (n ≤ 16 && pats.all (· < 32) && zeroAt p (4 + n) (16 - n)))]
    (fun s =>
      if s.auth.att.isSome then s.ends BUSY
      else if s.globalLocked then s.ends LOCKOUT
      else if !s.authUnits then s.ends BAD_STATE
      else
        let id := s.auth.nextId
        (s.authBegin (u8 p 0 = 1) (if hl then s.handlePats else pats) s.stamp s.quality s.time.now none, ACCEPTED, le 2 id)) s

/-- AUTH_RESULT (R287). -/
def authResult (m : Master) (p : List Byte) (s : State) : State :=
  let id := u16 p 0
  hostCmd 0x66 m p [lenIs p 2]
    (fun s =>
      if s.sys.role ≠ 0 then s.ends BAD_STATE
      else if s.auth.att.any fun a => a.id == id || id == 0xFFFF then s.ends BAD_STATE
      else
        match (if id = 0xFFFF then s.auth.results.head? else s.auth.results.find? fun r => u16 r 0 == id) with
        | some r => (s, OK, r)
        | none => s.ends NOT_FOUND) s

/-- A handle edge during an attempt is recorded, with its timestamp, until the next attempt begins (R32; notes/assumptions/147.md). -/
def State.furtherEdge (s : State) (e : HandleEdge) : State := s.modAuth fun a => { a with further := a.further ++ [e] }

/-- A handle edge has passed its filter (R32, R97, R262): an attempt starts unless one runs, when the edge is recorded alone, or its
units are not ON. `e` carries the nonce of a telegram that LF plays by itself. -/
def State.authHandle (s : State) (e : HandleEdge) : State :=
  if s.auth.att.isSome then s.furtherEdge e
  else if !s.authUnits then s
  else s.authBegin false s.handlePats e.ref e.quality e.at_ (if e.nb.isEmpty then none else some e.nb)

/-- AUTH refuses an entry (R276). -/
def State.authIdle (s : State) : Bool := s.auth.att.isNone && s.credQuiet

end Sys2Proof.Machine
end

