-- ==== Sys2Proof/Machine/Rel.lean ====
section
/-!
DEFINITION. Machine/Rel.lean: the start-enable pair, the release session, the early-wake lines and the tell-tale (R290 to
R323).
-/
namespace Sys2Proof.Machine

/-- REL as `f` makes it. -/
def State.modRel (s : State) (f : RelState → RelState) : State := { s with rel := f s.rel }

/-! ### Early wake (R303 to R306) -/

/-- Line `l`. -/
def State.ewLine (s : State) (l : Nat) : EwLine := s.rel.lines.getD l {}

/-- Line `l` becomes `v`. -/
def State.setEwLine (s : State) (l : Nat) (v : EwLine) : State := s.modRel fun r => { r with lines := r.lines.set l v }

/-- PRED of source `k` in ms (R303, R316). -/
def State.ewPred (s : State) (k : Nat) : Nat :=
  match k with
  | 0 => s.get EWAKE_PRED0_APPROACH
  | 1 => s.get EWAKE_PRED0_HANDLE
  | 2 => s.get EWAKE_PRED1_UNLOCK
  | 3 => s.get EWAKE_PRED1_DOOR
  | 4 => s.get EWAKE_PRED2_RELEASE
  | _ => s.get EWAKE_PRED2_FD_WAKE

/-- The calendar slot of line `l` is given up. -/
def State.ewFreeSlot (s : State) (l : Nat) : State :=
  match (s.ewLine l).slot with
  | some n => (s.setCalSlot n none).setEwLine l { s.ewLine l with slot := none }
  | none => s

/-- A general slot for line `l` with action `act` at reference time `t` (R305): none where no general slot is free. -/
def State.ewTakeSlot (s : State) (l act t : Nat) : State :=
  let s := s.ewFreeSlot l
  match s.freeSlot with
  | none => s
  | some n =>
    let c : CalSlot := { target := 10, action := act, wake := true, periodic := false, exclusive := false, resources := 0
                         prepLead := 0, time := t, duration := 0, period := 0, arg := l }
    (s.setCalSlot n (some c)).setEwLine l { s.ewLine l with slot := some n }

/-- EWAKE_EVT (R306, R315), stamped in the unit of an EWAKE edge (R35). -/
def State.ewEvent (s : State) (l level src : Nat) (noslot : Bool) : State :=
  s.eventAt s.pinStamp s.quality EV_EWAKE_EVT [byte l, byte level, byte src, byte (bit01 noslot)]

/-- How long an assertion of line `l` holds, in ticks of reference time (R304). -/
def State.ewSpan (s : State) (l : Nat) : Nat :=
  if s.get (EWAKE_CFG_MODE l) = 1 then Config.msTicks * (10 * s.get (EWAKE_CFG_PULSE_MS l))
  else Config.sTicks * s.get (EWAKE_TIME_HOLD_S l)

/-- Line `l` asserts now for source `src`, for `span` (R304, R305); `hurried` where it could get no slot to wait in. -/
def State.ewAssert (s : State) (l src span : Nat) (hurried : Bool) : State :=
  let off := s.time.ref + span
  let s := (s.ewFreeSlot l).setEwLine l { on := true, src := src, off := some off }
  let s := s.ewTakeSlot l 2 off
  (s.ewEvent l 1 src (hurried || (s.ewLine l).slot.isNone)).withdraw 10

/-- Line `l` deasserts (R304, R306). -/
def State.ewDrop (s : State) (l : Nat) : State :=
  let noslot := (s.ewLine l).slot.isNone
  ((s.ewFreeSlot l).setEwLine l {}).ewEvent l 0 (s.ewLine l).src noslot

/-- An assertion of line `l` for source `src` at reference time `a`, or at once (R304, R305), with the settings of the line as they stand
(R322). -/
def State.ewPlace (s : State) (l src a : Nat) : State :=
  let span := s.ewSpan l
  if a ≤ s.time.ref then s.ewAssert l src span false
  else
    let old := s.ewLine l
    if old.pend.any (· ≤ a) then s
    else
      let s := (s.setEwLine l { old with src := src, pend := some a, span := span }).ewTakeSlot l 1 a
      if (s.ewLine l).slot.isNone then s.ewAssert l src span true else s.withdraw 10

/-- A source event at `t` for line `l`, which is asserted (R304): in LEVEL mode it holds the line on, in PULSE mode it is ignored. -/
def State.ewExtend (s : State) (l t : Nat) : State :=
  let e := s.ewLine l
  if s.get (EWAKE_CFG_MODE l) = 1 then s
  else
    let off := max (e.off.getD 0) (t + s.ewSpan l)
    (s.setEwLine l { e with off := some off }).ewTakeSlot l 2 off

/-- Source `src` fires at reference time `t` for line `l` (R304). -/
def State.ewSource (s : State) (src t l : Nat) : State :=
  let e := s.ewLine l
  if !s.flag (EWAKE_CFG_EN l) || !s.bit (EWAKE_CFG_SRC_MASK l) src then s
  else if e.on then s.ewExtend l t
  else s.ewPlace l src (t + Config.msTicks * s.ewPred src - Config.msTicks * s.get (EWAKE_TIME_LEAD_MS l))

/-- EWAKE acts: on a manager, with REL ON and not fenced (R313, R596). -/
def State.ewActive (s : State) : Bool := s.unitOn 10 && s.sys.role == 0

/-- EWAKE source `src` fires at reference time `t` (R303). In P2 to P4, and until REL is ON again after them, it is kept. -/
def State.ewFire (s : State) (src t : Nat) : State :=
  if s.sys.role ≠ 0 || s.fenced 10 then s
  else if s.asleep || s.unit 10 == .starting && !s.rel.heldSrc.isEmpty then
    s.modRel fun r => { r with heldSrc := r.heldSrc ++ [(src, t)] }
  else if !s.ewActive then s
  else (List.range 4).foldl (fun s l => s.ewSource src t l) s

/-- The source events of P2 to P4 are taken at the wake, or once REL has left STARTING after it. -/
def State.ewWake (s : State) : State :=
  if s.unit 10 == .starting then s
  else s.rel.heldSrc.foldl (fun s x => s.ewFire x.1 x.2) (s.modRel fun r => { r with heldSrc := [] })

/-- A calendar fire addressed to REL (R305): action 1 EWAKE_ON, 2 EWAKE_OFF, the line in ARG; `slot` is the slot that fired. -/
def State.relFire (s : State) (action arg slot : Nat) : State :=
  let l := arg % 4
  let own := (s.ewLine l).slot == some slot
  if !s.ewActive || 4 ≤ arg then s
  else if action = 1 then
    let e := s.ewLine l
    if e.on then s else s.ewAssert l (if own then e.src else 0xFF) (if own then e.span else s.ewSpan l) false
  else if action = 2 && (s.ewLine l).on then s.ewDrop l
  else s

/-- EWAKE_DEASSERT (R305): a line without a slot reaches its deadline. -/
def ewakeDeassert (l : Fin 4) (s : State) : State :=
  let e := s.ewLine l
  match e.off with
  | some t => if e.on && e.slot.isNone && s.awake && s.ewActive then (s.advanceRef t).ewDrop l else s
  | none => s

/-- REL_EWAKE_RB (R306). -/
def relEwakeRb (l : Fin 4) (at_ : Nat) (s : State) : State := (s.advance at_).raise FID_REL_EWAKE_RB l

/-- A fence of REL: every line is inactive and its slot is recorded as missed when it fires (R50, R313). -/
def State.ewFence (s : State) : State := s.modRel fun r => { r with lines := List.replicate 4 {} }

/-- EWAKE_CONFIG (R322). -/
def ewakeConfig (m : Master) (p : List Byte) (s : State) : State :=
  let k := u8 p 0
  let l := u8 p 1
  let mask := u8 p 1
  let t := u64 p 4
  hostCmd 0x74 m p
    [(1 ≤ p.length, BAD_LENGTH), paramOk (k < 3), lenIs p (if k = 1 then 16 else 12),
     paramOk (match k with
       | 0 => l < 4 && u8 p 2 < 8 && u8 p 3 < 64 && u16 p 4 ≤ 10000 && within 1 3600 (u16 p 6) && 1 ≤ u8 p 8 && zeroAt p 9 3
       | 1 => zeroAt p 1 3 && (List.range 6).all fun i => u16 p (4 + 2 * i) ≤ 60000
       | _ => mask < 16 && zeroAt p 2 2 && (t = 0 || s.time.ref ≤ t))]
    (fun s =>
      match k with
      | 0 =>
        let s := s.setReg (EWAKE_CFG l).addr (BitVec.ofNat 32 (u8 p 2 + 2 ^ 8 * u8 p 3 + 2 ^ 16 * u8 p 8))
        (s.setReg (EWAKE_TIME l).addr (BitVec.ofNat 32 (u32 p 4))).ok
      | 1 => (((s.put EWAKE_PRED0 (u32 p 4)).put EWAKE_PRED1 (u32 p 8)).put EWAKE_PRED2 (u32 p 12)).ok
      | _ =>
        let ls := (List.range 4).filter fun l => bitAt mask l == 1
        if !s.ewActive || ls.any fun l => !s.flag (EWAKE_CFG_EN l) then s.ends BAD_STATE
        else
          let s := ls.foldl (fun s l => if (s.ewLine l).on then s.ewExtend l (max t s.time.ref) else s.ewPlace l 0xFF t) s
          let up := ls.filter fun l => (s.ewLine l).on || (s.ewLine l).pend.isSome
          (s, OK, [byte (sumNat (up.map fun l => 2 ^ l))])) s

/-! ### The tell-tale (R307 to R311) -/

/-- The state of R308, 0 FAULT to 3 IDLE. -/
def State.ttState (s : State) : Nat :=
  if s.rel.fbFault ≠ 0 || s.rel.tt.faults ≠ 0 || s.safeState || s.fenced 10 then 0
  else if s.rel.sess ≠ 0 then 1
  else if s.auth.att.isSome then 2 else 3

/-- The pattern that R308 asks for; during a fence that of FAULT, in either mode (R311). -/
def State.ttWanted (s : State) : Nat :=
  if !s.flag REL_TT_CFG_TT_EN || s.sys.role ≠ 0 then 0
  else if s.fenced 10 then bitsAt (s.get REL_TT_CFG_TT_MAP) 0 2
  else if s.flag REL_TT_CFG_TT_MODE then s.get REL_TT_CFG_HOST_PAT
  else bitsAt (s.get REL_TT_CFG_TT_MAP) (2 * s.ttState) 2

/-- The tell-tale becomes `t`. -/
def State.setTt (s : State) (t : TellTale) : State := s.modRel fun r => { r with tt := t }

/-- The length in ticks of the present phase of a blinking pattern. -/
def State.ttPhaseTicks (s : State) : Nat :=
  let t := s.rel.tt
  let f := if t.pat = 2 then (if t.on then REL_TT_PAT_SLOW_ON else REL_TT_PAT_SLOW_OFF)
    else (if t.on then REL_TT_PAT_FAST_ON else REL_TT_PAT_FAST_OFF)
  Config.msTicks * (10 * s.get f)

/-- A new pattern begins (R308, R310). -/
def State.ttBegin (s : State) (p : Nat) : State :=
  s.setTt { s.rel.tt with pat := p, on := p ≠ 0, at_ := s.time.now, measured := false, fresh := true, gotOn := false, gotOff := false
                          amps := if p ≠ 0 then s.get REL_TT_CFG_TT_I else s.rel.tt.amps }

/-- TT_PHASE (R308, R311): the present phase ends, and a pattern change takes effect; OFF and ON have no end of phase and
change at `at_`. In P3 and P4 the pattern of the entry goes on, whatever becomes of REL. An on phase takes TT_I as it finds it (R323). -/
def ttPhase (at_ : Nat) (s : State) : State :=
  let t := s.rel.tt
  let holds := s.pwr.st == .p3 || s.pwr.st == .p4
  let want := if holds then t.pat else s.ttWanted
  if !(s.unitOn 10 || s.fenced 10 || holds) then s
  else if t.pat < 2 then
    let s := s.advance at_
    if want = t.pat then s else s.ttBegin want
  else
    let s := s.advance (t.at_ + s.ttPhaseTicks)
    if want ≠ t.pat then s.ttBegin want
    else s.setTt { t with on := !t.on, at_ := s.time.now, measured := false
                          amps := if t.on then t.amps else s.get REL_TT_CFG_TT_I }

/-- TT_STATE (R310, R315). -/
def State.ttRecord (s : State) (result : Nat) : State :=
  let t := s.rel.tt
  let (x, s) := s.fresh 16
  let (y, s) := s.fresh 16
  s.eventBbx EV_TT_STATE
    ([byte t.pat, byte s.ttState] ++ le 2 (s.get REL_TT_STATUS_I_ON) ++ le 2 (s.get REL_TT_STATUS_I_OFF) ++ [byte result]
      ++ le 2 (t.least.getD x) ++ le 2 (t.greatest.getD y)) true

/-- The result of a measurement in 0.1 mA (R309). -/
def State.ttResult (s : State) (on : Bool) (i : Nat) : Nat :=
  let want := 5 * s.rel.tt.amps
  if on then
    if 100 * (max i want - min i want) ≤ 15 * want then 0 else if want ≤ 2 * i then 1 else 2
  else if 10 ≤ i then 3 else 0

/-- The FID and the latch bit of a result. -/
def ttFault (result : Nat) : Option (Nat × Nat) :=
  match result with
  | 1 => some (FID_TT_REG, 1)
  | 2 => some (FID_TT_OPEN, 0)
  | 3 => some (FID_TT_STUCK_ON, 2)
  | _ => none

/-- TT_MEASURE (R307, R309, R310): 0.5 ms to 1.0 ms into a phase the lamp current is `current` in 0.1 mA, which is the quotient of R307
for the SENSE_OHM in force (notes/assumptions/172.md). -/
def ttMeasure (current : Byte) (at_ : Nat) (s : State) : State :=
  let t := s.rel.tt
  if t.measured || !s.unitOn 10 || !s.awake || !s.flag REL_TT_CFG_TT_EN
      || !within (t.at_ + Config.msTicks / 2) (Config.msTicks + t.at_) at_ then s
  else
    let s := s.advance at_
    let i := current.toNat
    let res := s.ttResult t.on i
    let s := (s.put (if t.on then REL_TT_STATUS_I_ON else REL_TT_STATUS_I_OFF) i).put REL_TT_STATUS_RESULT res
    let changed := res ≠ (if t.on then t.resOn else t.resOff)
    let t := if t.on then
        { t with measured := true, gotOn := true, resOn := res, least := some (min i (t.least.getD i))
                 greatest := some (max i (t.greatest.getD i)) }
      else { t with measured := true, gotOff := true, resOff := res }
    let all := if t.pat = 0 then t.gotOff else if t.pat = 1 then t.gotOn else t.gotOn && t.gotOff
    let rec_ := if t.fresh then all else changed
    let s := s.setTt { t with fresh := t.fresh && !all }
    let s := match ttFault res with
      | some (fid, k) =>
        let f := s.rel.tt.faults
        (s.setTt { s.rel.tt with faults := f - bitAt f k * 2 ^ k + 2 ^ k }).raise fid
      | none => s
    if rec_ then s.ttRecord (if t.fresh && t.pat ≥ 2 then max t.resOn t.resOff else res) else s

/-- TT_SUMMARY (R310): every 24 h. -/
def ttSummary (s : State) : State :=
  if !s.unitOn 10 || !s.awake || !s.flag REL_TT_CFG_TT_EN then s
  else
    let s := s.advanceLp (s.rel.tt.sumLp + lpOfS 86400)
    let s := s.ttRecord 4
    s.setTt { s.rel.tt with least := none, greatest := none, sumLp := s.time.lp }

/-- TELLTALE_CONFIG (R323): a change of a locked field returns ACCESS_DENIED (R11). -/
def telltaleConfig (m : Master) (p : List Byte) (s : State) : State :=
  let w := u8 p 0 + u8 p 1 * 4 + 2 ^ 8 * u8 p 2 + 2 ^ 16 * u8 p 3 + 2 ^ 24 * u8 p 4
  hostCmd 0x75 m p
    [lenIs p 12, paramOk (u8 p 0 < 4 && u8 p 1 < 4 && within 4 40 (u8 p 2) && within 5 50 (u8 p 3) && zeroAt p 5 3
       && (List.range 4).all fun i => 5 ≤ u8 p (8 + i))]
    (fun s =>
      let locked := s.flag REL_CTRL_LOCK && w - u8 p 1 * 4 ≠ s.get REL_TT_CFG - s.get REL_TT_CFG_HOST_PAT * 4
      if locked then s.ends ACCESS_DENIED
      else
        let s := (s.put REL_TT_CFG w).put REL_TT_PAT (u32 p 8)
        (s, OK, [byte s.rel.tt.pat])) s

/-! ### The session (R290 to R302) -/

/-- The pads of group 0 are held off (R312, R523, R596). -/
def State.relHeld (s : State) : Bool := s.padHeld 0 || s.sys.role != 0

/-- START_EN_A or START_EN_B (`b`) is driven to `v` (R293). -/
def State.driveLine (s : State) (b v : Bool) : State :=
  if b then (if s.rel.b = v then s else s.modRel fun r => { r with b := v, bAt := s.time.now })
  else (if s.rel.a = v then s else s.modRel fun r => { r with a := v, aAt := s.time.now })

/-- The readback agrees with the lines as driven. -/
def State.fbAgrees (s : State) : Bool := s.rel.fbA == s.rel.a && s.rel.fbB == s.rel.b

/-- The RUN_ID a record carries: 0xFFFF for a tap. -/
def State.openRun (s : State) : Nat := s.get REL_OPEN_INFO_RUN_ID

/-- The KEY_ID in REL_OPEN_KEY. -/
def State.openKey (s : State) : List Byte := (List.range 3).flatMap fun k => le 4 (s.get (REL_OPEN_KEY k))

/-- An opening is refused (R290, R315). -/
def State.relRefuse (s : State) (reason st : Nat) : State :=
  let s := s.bump REL_REFUSALS
  let s := if reason = 6 ∨ reason = 7 then s.raise FID_REL_INTERLOCK else s
  s.eventBbx EV_REL_REFUSED ([byte reason, byte st] ++ le 2 s.openRun ++ s.openKey.take 4) true

/-- OPEN_WIN in ticks. -/
def State.openWin (s : State) : Nat := Config.msTicks * (10 * s.get REL_POLICY_OPEN_WIN)

/-- Check 6 of R290: the status of its failure, or `none`. -/
def State.kapCheck (s : State) : Option Nat :=
  match s.range.results.find? (fun r => u16 r 0 == s.openRun), s.range.ends.find? (·.1 == s.openRun) with
  | some r, some e =>
    if u8 r 2 ≠ 0 then some RELAY_SUSPECT
    else if u8 r 5 ≠ 0 || u8 r 6 < s.get RANGE_THR2_CONF_MIN || e.2 + s.openWin < s.time.ref then some ZONE_MISMATCH
    else none
  | _, _ => some RELAY_SUSPECT

/-- Check 7 of R290 (R291). -/
def State.tapCheck (s : State) : Bool :=
  let may := match s.get REL_POLICY_TAP_MODE with
    | 1 => s.forcedMode 1 || s.fenced 5 || s.fenced 6 || s.fenced 7
    | 2 => true
    | _ => false
  may && match s.rel.tap with | some (id, t) => id == s.openKey && s.time.ref ≤ t + s.openWin | none => false

/-- The checks of R290 but the counter: reason and status of the first that fails. -/
def State.openChecks (s : State) : Option (Nat × Nat) :=
  if s.fenced 10 then some (1, FENCED)
  else if !s.unitOn 10 || s.safeState || !s.pwr.fwRun then some (1, BAD_STATE)
  else if s.relHeld then some (2, BAD_STATE)
  else if s.rel.fbFault ≠ 0 || !s.fbAgrees then some (3, BAD_STATE)
  else if s.rel.armMode = 0 then some (4, BAD_STATE)
  else if !s.bit REL_POLICY_ROLE_MASK (s.get REL_OPEN_INFO_ROLE) || 6 ≤ s.get REL_OPEN_INFO_ROLE || !s.flag REL_OPEN_INFO_START then
    some (5, ACCESS_DENIED)
  else if s.get REL_OPEN_INFO_SOURCE = 0 then s.kapCheck.map fun st => (6, st)
  else if !s.tapCheck then some (7, BAD_STATE) else none

/-- The CMAC under slot 24 of which TOKEN is the first half (R302). -/
def State.tokenMac (s : State) : List Byte :=
  let r := s.rel
  cmac (((s.aes.slots.getD 24 none).map (·.key)).getD [])
    ([0x52, 0x54] ++ le 6 r.sseq ++ padTo 12 r.key ++ [byte r.role, byte r.source] ++ le 8 r.tOpen)

/-- TOKEN of R302, and whether slot 24 is empty. -/
def State.relToken (s : State) : List Byte × Bool :=
  if (s.aes.slots.getD 24 none).isNone then (List.replicate 8 0, true) else (s.tokenMac.take 8, false)

/-- REL_OPEN (R302, R315): the record goes to the black box, the 64-byte item to the event queue; EWAKE source RELEASE
(R303). -/
def State.relOpened (s : State) (extended : Bool) : State :=
  let r := s.rel
  let (tok, none_) := s.relToken
  let s := if none_ then s else s.engineWork 24 s.tokenMac
  let fl := bit01 extended + 2 * bit01 none_ + 4 * bit01 r.restarted
  let rec_ := mkRecord s.stamp EV_REL_OPEN 0x0A s.quality (s.cfgEpoch 10)
    (le 2 r.sseq ++ le 4 r.sseq ++ [byte r.source, byte r.role, byte r.zone, byte r.conf, byte fl] ++ le 2 r.run)
  let s := s.bump REL_OPENS
  let s := s.pushEvtItem (rec_ ++ padTo 12 r.key ++ le 6 r.sseq ++ tok ++ List.replicate 6 0) 0x0A
  let s := s.bbxPut rec_ EV_REL_OPEN true
  if extended then s else s.ewFire 4 r.tOpen

/-- The session key is taken from the OPEN registers, with the counter's new value (R292, R300). -/
def State.relTakeKey (s : State) (sseq : Nat) (restarted : Bool) : State :=
  let kap := s.get REL_OPEN_INFO_SOURCE = 0
  let res := s.range.results.find? fun r => u16 r 0 == s.openRun
  let s := s.put REL_SESSION_ID sseq
  let (z, s) := s.fresh 8
  let (c, s) := s.fresh 8
  let zc := match (if kap then res else none) with | some r => (u8 r 5, u8 r 6) | none => (z, c)
  s.modRel fun r =>
    { r with key := s.openKey, role := s.get REL_OPEN_INFO_ROLE, source := s.get REL_OPEN_INFO_SOURCE
             run := if kap then s.openRun else 0xFFFF, zone := zc.1, conf := zc.2, sseq := sseq, restarted := restarted }

/-- ONE_SHOT disarms at the first opening (R301). -/
def State.oneShot (s : State) : State :=
  if s.rel.armMode = 1 then s.modRel fun r => { r with armMode := 0, armUntil := none } else s

/-- The opening moves START_EN_B low (R294). -/
def State.relStart (s : State) (sseq : Nat) (restarted : Bool) : State :=
  let s := (s.relTakeKey sseq restarted).oneShot
  let s := s.modRel fun r => { r with sess := 1, gapAt := s.time.now, held := none }
  (s.driveLine true false).withdraw 10

/-- OPEN acts (R290, R296, R300): an opening, an extension, or a refusal; `restarted` from RESTART_PENDING. Where counter 47
stands at its ceiling or is not loaded, the increment waits (R338, R339). -/
def State.relTryOpen (s : State) (restarted : Bool) : State :=
  match s.openChecks with
  | some (r, st) => s.relRefuse r st
  | none =>
    match s.cntTake 47 with
    | none =>
      if s.fenced 21 then s.relRefuse 8 COUNTER_EXHAUSTED
      else if s.cntLoaded && cntLimit 47 ≤ s.cntVal 47 then (s.cntRefuse 47).relRefuse 8 COUNTER_EXHAUSTED
      else s.modRel fun r => { r with waits := some restarted }
    | some (v, s) =>
      if s.rel.sess = 2 then
        let s := (s.relTakeKey v false).oneShot
        let s := s.modRel fun r => { r with toBase := s.stamp }
        s.relOpened true
      else s.relStart v restarted

/-- An opening that waits for counter 47 is tried again, every check with it (R338, R339). -/
def State.relServe (s : State) : State :=
  match s.rel.waits with
  | none => s
  | some restarted => (s.modRel fun r => { r with waits := none }).relTryOpen restarted

/-- A fence of CNT, or a ceiling write that fails: an opening that waits fails check 8 (R339). -/
def State.relCntFailed (s : State) : State :=
  if s.rel.waits.isSome then (s.modRel fun r => { r with waits := none }).relRefuse 8 COUNTER_EXHAUSTED else s

/-- A write of OPEN (R290, R296). -/
def State.relOpenCmd (s : State) : State :=
  match s.rel.sess with
  | 1 => s
  | 3 => s.modRel fun r => { r with sess := 4 }
  | 4 => s
  | _ => s.relTryOpen false

/-- The session that ended by `e` is reported (R297, R315); `opening` says that it ended in OPENING. -/
def State.relEndRecord (s : State) (e : RelEnd) (opening : Bool) : State :=
  let r := s.rel
  let ms := if opening then 0 else (e.ts - r.tOpen) / Config.msTicks
  let data := le 2 r.sseq ++ [byte e.cause, byte e.door] ++ le 4 (satNat 32 ms) ++ [byte (bit01 opening)]
  let rec_ := mkRecord e.ts EV_REL_END 0x0A e.quality (s.cfgEpoch 10) data
  let s := if e.cause = 0 then s.bump REL_ENDS_DOOR else if e.cause = 1 then s.bump REL_ENDS_TIMEOUT else s
  let s := (s.put REL_SESSION_CAUSE e.cause).modRel fun r => { r with lastCause := some e.cause, ended := true }
  (s.pushEvtItem rec_ 0x0A).bbxPut rec_ EV_REL_END true

/-- End cause `c` arises now. -/
def State.endNow (s : State) (c : Nat) : RelEnd := { cause := c, ts := s.stamp, quality := s.quality, at_ := s.time.now }

/-- Closing begins (R294): START_EN_A falls, START_EN_B follows GAP_US later. -/
def State.relClose (s : State) : State :=
  let s := s.driveLine false false
  s.modRel fun r => { r with sess := 3, gapAt := s.time.now, held := none }

/-- The place of an end cause in the order of R298: FAULT, FENCE, DOOR, TIMEOUT, HOST, DISABLE. -/
def endRank (c : Nat) : Nat := [3, 4, 0, 1, 2, 5].idxOf c

/-- Of two end causes of one cycle, the one that the session records (R298). -/
def RelEnd.first (x y : RelEnd) : RelEnd := if endRank y.cause < endRank x.cause then y else x

/-- Two instants lie in one cycle of the timing clock. -/
def sameCycle (t u : Nat) : Bool := t / 8 == u / 8

/-- The readback of a line disagrees with the level driven. -/
def State.fbBad (s : State) (lineB : Bool) : Bool := if lineB then s.rel.fbB != s.rel.b else s.rel.fbA != s.rel.a

/-- The instant at which the present disagreement of a line is a fault (R295). -/
def State.fbDue (s : State) (lineB : Bool) : Nat :=
  let r := s.rel
  let (line, fb) := if lineB then (r.bAt, r.fbBAt) else (r.aAt, r.fbAAt)
  let settled := line + Config.usTicks * s.get REL_FB_CFG_FB_SETTLE_US
  if fb < settled then settled else fb + Config.usTicks * s.get REL_FB_CFG_FB_GLITCH_US

/-- The instant at which a door edge is qualified (R297). -/
def State.doorDue (s : State) (e : DoorEdge) : Nat := e.at_ + Config.usTicks * s.get REL_CFG_DOOR_FILT_US

/-- A qualified door edge ends the session: its input is selected, and it is qualified after the cycle of OPEN (R297). -/
def State.doorEnds (s : State) (e : DoorEdge) : Bool :=
  s.bit REL_CFG_DOOR_MASK e.idx && s.unitOn 10 && s.rel.gapAt / 8 < s.doorDue e / 8

/-- The end cause of a door edge: its record carries the raw edge. -/
def DoorEdge.ends (e : DoorEdge) (at_ : Nat) : RelEnd := { cause := 0, door := e.idx, ts := e.ref, quality := e.quality, at_ := at_ }

/-- The end causes that the block's own state brings in the present cycle: a readback fault, a door edge, the timeout. -/
def State.endsDue (s : State) : List RelEnd :=
  let now := s.time.now
  let fault := [false, true].filter fun b => s.fbBad b && sameCycle (s.fbDue b) now
  let door := s.rel.doors.filter fun e => s.doorEnds e && sameCycle (s.doorDue e) now
  let timed := s.rel.toBase + Config.sTicks * s.get REL_CFG_SESSION_TO_S ≤ s.time.ref + (7 - now % 8)
  fault.map (fun _ => s.endNow 3) ++ door.map (·.ends now) ++ (if timed then [s.endNow 1] else [])

/-- The end cause recorded where `e` arises in an open session (R298). A cause that another command of the same cycle is still to bring
is not known yet (notes/assumptions/173.md). -/
def State.endOf (s : State) (e : RelEnd) : RelEnd := s.endsDue.foldl RelEnd.first e

/-- An end cause arises (R297, R298): it ends an open session, is held in OPENING, and changes nothing else. -/
def State.relEndCause (s : State) (e : RelEnd) : State :=
  match s.rel.sess with
  | 2 => (s.relEndRecord (s.endOf e) false).relClose
  | 1 =>
    match s.rel.held with
    | none => s.modRel fun r => { r with held := some e }
    | some h => if sameCycle h.at_ e.at_ then s.modRel fun r => { r with held := some (h.first e) } else s
  | _ => s

/-- The pair has reached the released state (R296, R298): the session is OPEN, and a held end cause takes effect; but for DOOR, its record
carries this instant (R315). -/
def State.relReached (s : State) : State :=
  let held := s.rel.held
  let s := s.modRel fun r => { r with sess := 2, held := none }
  let s := s.relOpened false
  match held with
  | some e => s.relEndCause (if e.cause = 0 then e else s.endNow e.cause)
  | none => s

/-- START_EN_A rises (R294): its edge is the session instant. -/
def State.relRaiseA (s : State) : State :=
  let s := s.driveLine false true
  let t := s.pinStamp
  let s := s.modRel fun r => { r with tOpen := t, toBase := t }
  ((s.put REL_T_OPEN_LO (t % 2 ^ 32)).put REL_T_OPEN_HI (t / 2 ^ 32))

/-- GAP_US in ticks. -/
def State.relGap (s : State) : Nat := Config.usTicks * s.get REL_FB_CFG_GAP_US

/-- OPENING_GAP (R294): GAP_US after START_EN_B fell, START_EN_A rises if START_FB_B reads low. -/
def openingGap (s : State) : State :=
  if s.rel.sess ≠ 1 || s.rel.a || s.rel.fbB then s
  else (s.advance (s.rel.gapAt + s.relGap)).relRaiseA

/-- Changes of configuration and a disable that waited for CLOSED take effect (R312). -/
def State.relBoundary (s : State) : State :=
  if s.rel.sess = 0 then (s.applyStaged 10).unitSettle 10 else s

/-- The pair has reached the off state (R296). -/
def State.relOff (s : State) : State :=
  let restart := s.rel.sess = 4
  if s.rel.fbFault ≠ 0 then s.modRel fun r => { r with sess := 5 }
  else
    let s := (s.modRel fun r => { r with sess := 0 }).relBoundary
    if restart then s.relTryOpen true else s

/-- CLOSING_GAP (R294): GAP_US after START_EN_A fell, START_EN_B rises, whatever the readback shows. -/
def closingGap (s : State) : State :=
  if s.rel.sess ≠ 3 && s.rel.sess ≠ 4 then s
  else ((s.advance (s.rel.gapAt + s.relGap)).driveLine true true).relOff

/-- START_FB_CHANGE (R294, R295, R296): a readback input changes to `high` at `at_`. -/
def startFbChange (lineB high : Bool) (at_ : Nat) (s : State) : State :=
  let s := s.advance at_
  let now := s.time.now
  let s := s.modRel fun r =>
    if lineB then (if r.fbB = high then r else { r with fbB := high, fbBAt := now })
    else (if r.fbA = high then r else { r with fbA := high, fbAAt := now })
  if s.rel.sess ≠ 1 then s
  else if s.rel.a && s.rel.fbA then s.relReached
  else if !s.rel.a && lineB && !high && s.rel.gapAt + s.relGap ≤ now then s.relRaiseA
  else s

/-- A readback fault is latched and acts on the session (R295, R296): an opening in which START_FB_B has not read low is refused; any
other, and an open session, ends with cause FAULT. -/
def State.relFbFault (s : State) (lineB : Bool) : State :=
  let k := bit01 lineB
  let s := s.raise (if lineB then FID_REL_FB_B else FID_REL_FB_A)
  let s := s.modRel fun r => { r with fbFault := r.fbFault - bitAt r.fbFault k * 2 ^ k + 2 ^ k }
  match s.rel.sess with
  | 0 => s.modRel fun r => { r with sess := 5 }
  | 1 => if lineB && !s.rel.a then (s.relRefuse 3 BAD_STATE).relClose else (s.relEndRecord (s.endNow 3) true).relClose
  | 2 => s.relEndCause (s.endNow 3)
  | _ => s

/-- READBACK_FAULT (R295, R312): the disagreement of a line outlasts its limit. During a fence it is reported too, and FLT shadows it
(R313). -/
def readbackFault (lineB : Bool) (s : State) : State :=
  if !s.fbBad lineB || s.unit 10 == .off || s.asleep then s
  else (s.advance (s.fbDue lineB)).relFbFault lineB

/-- The clearing of a readback fault (R295): only while the readback agrees with the off state. -/
def State.relClearFault (s : State) (lineB : Bool) : State :=
  let k := bit01 lineB
  if s.rel.fbA || !s.rel.fbB then s
  else
    let s := s.modRel fun r => { r with fbFault := r.fbFault - bitAt r.fbFault k * 2 ^ k }
    if s.rel.sess = 5 && s.rel.fbFault = 0 then (s.modRel fun r => { r with sess := 0 }).relBoundary else s

/-- STARTING of REL ends (R312): the readback must match the off state. The tell-tale's pattern goes on as it is, the phase in progress is
not measured (R311), and its first summary interval begins (R310). -/
def State.relStarted (s : State) : State :=
  let s := if s.rel.fbA then s.relFbFault false else s
  let s := if !s.rel.fbB then s.relFbFault true else s
  let t := s.rel.tt
  let s := s.setTt { t with sumLp := if t.sumLp = 0 then s.time.lp else t.sumLp, measured := decide (2 ≤ t.pat)
                            at_ := if t.pat < 2 then s.time.now else t.at_ }
  s.ewWake

/-- REL_CMD_OPEN (R290): a write of OPEN by master `m`. A fence is answered by R290 itself. -/
def relCmdOpen (m : Master) (s : State) : State :=
  if s.awake && !s.silent m && s.busOutcome m REL_CMD.addr 1 == .fenced then s.relRefuse 1 FENCED else s.onBus m REL_CMD.addr 1 State.relOpenCmd

/-- REL_CMD_END (R297). -/
def relCmdEnd (m : Master) (s : State) : State := s.onBus m REL_CMD.addr 1 fun s => s.relEndCause (s.endNow 2)

/-- DOOR_IN_EDGE (R63, R297, R515): the open edge enters its filter; a return of the level takes it out. -/
def doorInEdge (i : Fin 4) (high : Bool) (at_ : Nat) (s : State) : State :=
  let s := ((s.advance at_).tmrInput (0x20 + i) high).putBit PAD_IN_DOOR i high
  let s := s.modRel fun r => { r with doors := r.doors.filter (·.idx != i) }
  if high == s.bit REL_CFG_DOOR_POL i then s
  else
    let e : DoorEdge := { idx := i, at_ := s.time.now, ref := s.pinStamp, quality := s.quality }
    (s.modRel fun r => { r with doors := r.doors ++ [e] }).wakeSource 9 i (s.bit PWR_WAKE_CFG_DOOR_LVL i)

/-- DOOR_QUALIFIED (R297, R303): the edge ends the session, unless it is qualified in or before the cycle of OPEN. -/
def doorQualified (i : Fin 4) (s : State) : State :=
  match s.rel.doors.find? (·.idx == i.val) with
  | none => s
  | some e =>
    let s := s.advance (s.doorDue e)
    let s := s.modRel fun r => { r with doors := r.doors.filter (·.idx != i.val) }
    let s := if s.doorEnds e then s.relEndCause (e.ends (s.doorDue e)) else s
    s.ewFire 3 e.ref

/-- SESSION_TIMEOUT (R297, R299). -/
def sessionTimeout (s : State) : State :=
  if s.rel.sess ≠ 2 then s
  else
    let s := s.advanceRef (s.rel.toBase + Config.sTicks * s.get REL_CFG_SESSION_TO_S)
    s.relEndCause (s.endNow 1)

/-- ARM_EXPIRY (R301). -/
def armExpiry (s : State) : State :=
  match s.rel.armUntil with
  | some t => (s.advanceLp t).modRel fun r => { r with armMode := 0, armUntil := none }
  | none => s

/-- The pads go to the off state at once, through the clamps, and the session ends with cause FENCE (R313). A restart that was pending
finds the first check of R290 failed with `st` (R296). -/
def State.relForceOff (s : State) (st : Nat) : State :=
  let restart := s.rel.sess = 4 && s.rel.fbFault = 0
  let s := match s.rel.sess with
    | 1 => s.relEndRecord (s.endNow 4) true
    | 2 => s.relEndRecord (s.endOf (s.endNow 4)) false
    | _ => s
  let s := (s.driveLine false false).driveLine true true
  let s := s.modRel fun r => { r with sess := if r.fbFault ≠ 0 then 5 else 0, held := none }
  let s := s.relBoundary
  if restart then s.relRefuse 1 st else s

/-- A fence of REL (R313). -/
def State.relFence (s : State) : State := (s.relForceOff FENCED).ewFence

/-- REL_CTRL.EN changes (R312, R590): REL is OFF once the session is CLOSED, which FAULT is not. -/
def State.relEnable (s : State) (en : Bool) : State :=
  let s := s.unitSwitch 10 en (s.rel.sess ≠ 0)
  if en then s else s.relEndCause (s.endNow 5)

/-- REL refuses an entry to state `t` (2 to 4) (R305, R312). -/
def State.relRefuses (s : State) (t : Nat) : Bool :=
  s.rel.sess != 0 || (3 ≤ t && s.rel.lines.any fun l : EwLine => l.on || l.pend.isSome)

/-- Seconds left of the arm time, rounded up (R316, R319). -/
def State.armSeconds (s : State) : Nat :=
  match s.rel.armUntil with | some t => (t - s.time.lp + 32767) / 32768 | none => 0

/-! ### Commands (R318 to R321) -/

/-- REL_CONFIG (R318, R312): a change of a locked field returns ACCESS_DENIED (R11). -/
def relConfig (m : Master) (p : List Byte) (s : State) : State :=
  let cfg := u8 p 2 + 2 ^ 8 * bitsAt (u8 p 4) 0 4 + 2 ^ 12 * bitsAt (u8 p 4) 4 4 + 2 ^ 16 * u16 p 6
  let pol := u8 p 3 + 2 ^ 8 * u8 p 1 + 2 ^ 16 * u8 p 5
  let fb := u8 p 8 + 2 ^ 8 * u8 p 9 + 2 ^ 16 * u8 p 10
  hostCmd 0x70 m p
    [lenIs p 16, paramOk (u8 p 0 < 2 && u8 p 1 < 3 && within 5 120 (u8 p 2) && u8 p 3 < 64 && within 2 50 (u8 p 5)
       && u16 p 6 ≤ 1000 && within 1 50 (u8 p 8) && within 5 250 (u8 p 9) && within 1 20 (u8 p 10) && zeroAt p 11 5)]
    (fun s =>
      if s.flag REL_CTRL_LOCK && (cfg ≠ s.get REL_CFG || pol ≠ s.get REL_POLICY || fb ≠ s.get REL_FB_CFG) then
        s.ends ACCESS_DENIED
      else
        let q := s.rel.sess = 0
        let s := ((s.stage q 10 REL_CFG cfg).stage q 10 REL_POLICY pol).stage q 10 REL_FB_CFG fb
        let en := u8 p 0 = 1
        let s := if en != s.flag REL_CTRL_EN then (s.putB REL_CTRL_EN en).relEnable en else s
        (s, OK, [byte (bit01 !q)])) s

/-- REL_ARM (R319, R565, R596, R598). -/
def relArm (m : Master) (p : List Byte) (s : State) : State :=
  hostCmd 0x71 m p [lenIs p 4, paramOk (u8 p 0 < 3 && u8 p 1 = 0 && u16 p 2 ≤ 3600)]
    (fun s =>
      if s.sys.role ≠ 0 || s.sys.test || s.sys.cfgDefaults then s.ends BAD_STATE
      else
        let mode := u8 p 0
        let t := if mode ≠ 0 ∧ u16 p 2 ≠ 0 then some (s.time.lp + lpOfS (u16 p 2)) else none
        let s := s.modRel fun r => { r with armMode := mode, armUntil := t }
        (s, OK, [byte mode, 0] ++ le 2 s.armSeconds)) s

/-- Bits [12:6] of REL_STATUS (R317). -/
def State.relBits (s : State) : Nat :=
  bit01 s.relHeld + 2 * bit01 (s.rel.fbFault != 0) + 4 * bit01 (s.rel.tt.faults != 0) + 8 * bit01 s.rel.a + 16 * bit01 s.rel.b
    + 32 * bit01 s.rel.fbA + 64 * bit01 s.rel.fbB

/-- REL_STATUS (R320). -/
def relStatus (m : Master) (p : List Byte) (s : State) : State :=
  hostCmd 0x72 m p [lenIs p 0]
    (fun s =>
      let r := s.rel
      let left := if r.sess = 2 then
          (r.toBase + Config.sTicks * s.get REL_CFG_SESSION_TO_S - s.time.ref) / Config.msTicks else 0
      let lv := sumNat ((List.range 4).map fun l =>
        bit01 (s.ewLine l).on * 2 ^ l + bit01 (s.ewLine l).pend.isSome * 2 ^ (4 + l))
      (s, OK, [byte (s.unit 10).code, byte r.sess, byte r.armMode, byte (r.lastCause.getD 0xFF)] ++ le 2 (s.get REL_SESSION_ID)
        ++ le 2 s.armSeconds ++ le 8 (if r.sess = 0 then 0 else r.tOpen) ++ le 4 left ++ padTo 4 r.key
        ++ [byte r.role, byte r.source, byte s.relBits, byte lv, byte r.tt.pat, byte (s.get REL_TT_STATUS_I_ON),
            byte (s.get REL_TT_STATUS_I_OFF), 0])) s

/-- REL_END (R321). -/
def relEnd (m : Master) (p : List Byte) (s : State) : State :=
  hostCmd 0x73 m p [lenIs p 0]
    (fun s =>
      if s.rel.sess = 0 || s.rel.sess = 5 then s.ends BAD_STATE
      else
        let s := s.relEndCause (s.endNow 2)
        (s, OK, le 2 (s.get REL_SESSION_ID))) s

/-! ### The firmware's part (R263, R290, R380) -/

/-- The release the firmware is to ask for is written to REL (R290), unless a session that the other path has opened is open
(R382). -/
def State.relFollow (s : State) : State :=
  match s.auth.release with
  | none => s
  | some o =>
    let s := { s with auth := { s.auth with release := none } }
    if (s.rel.sess = 1 || s.rel.sess = 2) && s.rel.source ≠ o.source then s
    else if s.fenced 10 then s.relRefuse 1 FENCED
    else
      let s := (List.range 3).foldl (fun s k => s.put (REL_OPEN_KEY k) (u32 o.id (4 * k))) s
      let s := s.put REL_OPEN_INFO (o.run % 2 ^ 16 + o.role % 8 * 2 ^ 16 + 2 ^ 19 * bit01 o.start + 2 ^ 20 * o.source)
      s.relOpenCmd

/-- What REL loses at nRESET, SOFT_RESET or power-on (R294, R301): the pads hold the off state. -/
def State.relReset (s : State) : State :=
  s.modRel fun r => { fbA := r.fbA, fbB := r.fbB, fbAAt := r.fbAAt, fbBAt := r.fbBAt }

end Sys2Proof.Machine
end

