-- ==== Sys2Proof/Machine/Vault.lean ====
section
/-!
DEFINITION. Machine/Vault.lean: the vault domain: its supply, page memory, atomic writes, recovery, log, field protocol and
tickets (R395 to R418, R422).
-/
namespace Sys2Proof.Machine

/-- The vault as `f` makes it. -/
def State.modVlt (s : State) (f : VltState → VltState) : State := { s with vlt := f s.vlt }

/-! ### Supply and field (R395 to R399) -/

/-- VPWR (R395). -/
def State.vpwr (s : State) : Nat := if !s.vlt.powered then 0 else if s.vlt.vddio then 2 else 1

/-- What the vault measures now. -/
def State.setMeas (s : State) (v : VaultMeas) : State :=
  s.modVlt fun t => { t with field := v.field.toNat, vh := v.vh.toNat, vrstore := v.vrstore.toNat }

/-- CRES_UF in force (R396). -/
def State.cres (s : State) : Nat := bitsAt s.vlt.logic.pwr 0 9

/-- The field check of R397: VH at or above VCHK, in mV 1900 + 48000 / CRES_UF. -/
def State.fieldCheck (s : State) : Bool :=
  (s.vpwr == 2 || 15 ≤ s.vlt.field) && 1900 * s.cres + 48000 ≤ s.vlt.vh * s.cres

/-- The storage charger runs (R397, R399). -/
def State.chargerOn (s : State) : Bool :=
  bitAt s.vlt.logic.pwr 16 == 1 && s.vpwr == 1 && 3000 ≤ s.vlt.vh
    && !(match s.vlt.write with | some w => w.stage == 1 | none => false)

/-! ### Page memory (R400 to R404) -/

/-- Erased memory reads 0xFF. -/
def nvDefault (_ : Nat) : Byte := 0xFF

/-- Byte `a` of the vault memory. -/
def State.nv8 (s : State) (a : Nat) : Byte := sparseGet nvDefault s.vlt.nv a

/-- Byte `a` of the vault memory becomes `v`. -/
def State.setNv8 (s : State) (a : Nat) (v : Byte) : State := s.modVlt fun t => { t with nv := sparseSet nvDefault t.nv a v }

/-- `n` bytes of the vault memory from `a`. -/
def State.nvRead (s : State) (a : Nat) : Nat → List Byte
  | 0 => []
  | n + 1 => s.nv8 a :: s.nvRead (a + 1) n

/-- The bytes `bs` stand from `a` on. -/
def State.nvWrite (s : State) (a : Nat) : List Byte → State
  | [] => s
  | b :: bs => (s.setNv8 a b).nvWrite (a + 1) bs

/-- Programming clears bits: from `a` on, the AND of the old byte and the new one. -/
def State.nvProgram (s : State) (a : Nat) : List Byte → State
  | [] => s
  | b :: bs => (s.setNv8 a (s.nv8 a &&& b)).nvProgram (a + 1) bs

/-- One program (16 bytes, 80 µs) or erase (64 bytes, 1.0 ms) of a unit (R400). -/
structure NvStep where
  erase : Bool
  addr : Nat
  bytes : List Byte
  deriving DecidableEq, Repr

/-- The time a step takes (R400). -/
def NvStep.ticks (t : NvStep) : Nat := if t.erase then Config.msTicks else 80 * Config.usTicks

/-- A step done whole. -/
def State.nvStep (s : State) (t : NvStep) : State :=
  if t.erase then s.nvWrite t.addr (List.replicate 64 0xFF) else s.nvProgram t.addr t.bytes

/-- Steps cut after `e` ticks: those that were complete are done, the one under way leaves its unit with free bytes. -/
def nvRun (s : State) : List NvStep → Nat → State
  | [], _ => s
  | t :: l, e =>
    if t.ticks ≤ e then nvRun (s.nvStep t) l (e - t.ticks)
    else if e = 0 then s
    else let (b, s) := s.freshBytes (if t.erase then 64 else 16); s.nvWrite t.addr b

/-- Steps done whole. -/
def State.nvSteps (s : State) (l : List NvStep) : State := l.foldl State.nvStep s

/-- The bytes programmed in units of 16 from `a`. -/
def programs (a : Nat) (b : List Byte) : List NvStep :=
  (chunks 16 16 b).zipIdx.map fun (c, i) => { erase := false, addr := a + 16 * i, bytes := c }

/-- The address of a page, and of a shadow slot (R400). -/
def pageAddr (p : Nat) : Nat := 64 * p
/-- The address of shadow slot `k`. -/
def slotAddr (k : Nat) : Nat := 0x7000 + 128 * k

/-- The 64 bytes of a page (R401). -/
def pageImage (data : List Byte) (seq : Nat) : List Byte :=
  let b := padTo 56 data ++ le 4 seq
  b ++ le 4 (crc32 b)

/-- The 64 bytes are all 0xFF (R401). -/
def pageErased (b : List Byte) : Bool := b.all (· == 0xFF)

/-- The data and SEQ of a page image; none where it is corrupt (R401). -/
def pageParse (b : List Byte) : Option (List Byte × Nat) :=
  if pageErased b then some (b.take 56, 0)
  else if crc32 (b.take 60) = u32 b 60 then some (b.take 56, u32 b 56) else none

/-- The SEQ that a page image shows. -/
def imageSeq (b : List Byte) : Nat := if pageErased b then 0 else u32 b 56

/-- The 128 bytes of shadow slot `k`. -/
def State.shadowSlot (s : State) (k : Nat) : List Byte := s.nvRead (slotAddr k) 128

/-- The COMMIT marker of a slot is valid (R402). -/
def slotCommitted (b : List Byte) : Bool :=
  u32 b 80 == 0x4B434D54 && u32 b 84 == u32 b 56 && u32 b 88 == crc32 (b.take 66)
    && u32 b 92 == crc32 ((b.drop 80).take 12)

/-- RETIRE has been programmed (R402). -/
def slotRetired (b : List Byte) : Bool := ((b.drop 96).take 16).all (· == 0)

/-- The slot is erased. -/
def slotErased (b : List Byte) : Bool := b.all (· == 0xFF)

/-- The image of the committed shadow of page `p` that is not retired, highest SEQ first (R403, R404). -/
def State.shadowOf (s : State) (p : Nat) : Option (List Byte) :=
  (List.range 16).foldl (fun best k =>
    let b := s.shadowSlot k
    if slotCommitted b && !slotRetired b && u16 b 64 == p then
      match best with
      | some o => if imageSeq o < u32 b 56 then some (b.take 64) else best
      | none => some (b.take 64)
    else best) none

/-- The image of page `p` as it reads (R403). -/
def State.pageImg (s : State) (p : Nat) : List Byte := (s.shadowOf p).getD (s.nvRead (pageAddr p) 64)

/-- Page `p` as it reads: its data and SEQ, none where it is corrupt. -/
def State.pageRead (s : State) (p : Nat) : Option (List Byte × Nat) := pageParse (s.pageImg p)

/-- The slots in the order in which they are taken, from the one after the last (R403). -/
def State.slotOrder (s : State) : List Nat := (List.range 16).map fun i => (s.vlt.lastSlot + 1 + i) % 16

/-- The slot of the next page write, and whether it must be erased first: an erased one, else the oldest retired one
(R403). -/
def State.takeSlot (s : State) : Nat × Bool :=
  match s.slotOrder.find? fun k => slotErased (s.shadowSlot k) with
  | some k => (k, false)
  | none => ((s.slotOrder.find? fun k => slotRetired (s.shadowSlot k)).getD ((s.vlt.lastSlot + 1) % 16), true)

/-- The RETIRE field of slot `k` programmed (R402). -/
def retireStep (k : Nat) : NvStep := { erase := false, addr := slotAddr k + 96, bytes := List.replicate 16 0 }

/-- Steps 2 and 3 of a page write (R403). -/
def PageWrite.shadowSteps (w : PageWrite) : List NvStep :=
  let a := slotAddr w.slot
  let img := pageImage w.data w.seq
  let home := img ++ le 2 w.page
  let mk := le 4 0x4B434D54 ++ le 4 w.seq ++ le 4 (crc32 home)
  (if w.erase then [{ erase := true, addr := a, bytes := [] }, { erase := true, addr := a + 64, bytes := [] }] else [])
    ++ programs a (home ++ List.replicate 14 0xFF) ++ programs (a + 80) (mk ++ le 4 (crc32 mk))

/-- Steps 4 and 5 (R403) for page `p` with this image from slot `k`. -/
def copySteps (p k : Nat) (img : List Byte) : List NvStep :=
  { erase := true, addr := pageAddr p, bytes := [] } :: programs (pageAddr p) img ++ [retireStep k]

/-- The time of steps 1 to 3 (R403). -/
def PageWrite.commitTicks (w : PageWrite) : Nat := 10 * Config.usTicks + Config.usTicks * (if w.erase then 2480 else 480)

/-- The time of steps 4 and 5 (R403). -/
def copyTicks : Nat := 1400 * Config.usTicks

/-! ### Contents of the CONTROL and KEYS pages (notes/assumptions/21.md) -/

/-- The data of the pages as the model lays them out. -/
def relPage (armed : Bool) (pulse vmin tseq : Nat) : List Byte := [byte (bit01 armed), byte pulse, byte vmin, 0] ++ le 4 tseq
/-- The page of LAST_TIME. -/
def timePage (t : Nat) : List Byte := le 4 t
/-- The page of the power and field-detect images. -/
def powerPage (pwr fd : Nat) : List Byte := le 4 pwr ++ le 4 fd
/-- The page of the failure count. -/
def failPage (n : Nat) : List Byte := le 2 n
/-- The page of a key. -/
def keyPage (rights : Nat) (key : List Byte) : List Byte := [1, byte rights] ++ key

/-- The vault logic with what page `p` holds; an erased or corrupt page leaves the values of erased memory. -/
def State.loadPage (s : State) (l : VaultLogic) (p : Nat) : VaultLogic :=
  let img := s.pageImg p
  let d := if pageErased img then none else (pageParse img).map (·.1)
  match p, d with
  | 0, some d => { l with armed := u8 d 0 == 1, pulse := u8 d 1, vmin := u8 d 2, lastTseq := u32 d 4 }
  | 1, some d => { l with lastTime := u32 d 0 }
  | 2, some d => { l with pwr := u32 d 0, fd := u32 d 4 }
  | 3, some d => { l with fails := u16 d 0 }
  | p, some d => if 481 ≤ p then { l with keys := l.keys.set (p - 481) (some (u8 d 1, (d.drop 2).take 16)) } else l
  | _, none => l

/-- What the vault loads at power-up (R407). -/
def State.loadLogic (s : State) : VaultLogic := ([0, 1, 2, 3] ++ (List.range 10).map (481 + ·)).foldl s.loadPage {}

/-- The logic is reloaded after a write of page `p` (R407). -/
def State.reload (s : State) (p : Nat) : State := s.modVlt fun t => { t with logic := s.loadPage t.logic p }

/-- Key `k` of R414. -/
def State.vaultKey (s : State) (k : Nat) : Option (Nat × List Byte) := s.vlt.logic.keys.getD k none

/-! ### Faults, events, page writes -/

/-- The timestamp of a log record (R422). -/
def State.vaultTime (s : State) : Nat := if s.vlt.vddio then bitsAt s.refNow 32 32 else 0xFFFFFFFF

/-- A log record waits for the memory (R407). -/
def State.vaultLog (s : State) (ev src : Nat) (data : List Byte) : State :=
  s.modVlt fun t => { t with own := t.own ++ [.log ev src data] }

/-- A log record of a fault: the spec states no DATA for it (notes/assumptions/1.md). -/
def State.vaultLogFault (s : State) (fid src : Nat) : State := let (d, s) := s.freshBytes 12; s.vaultLog fid src d

/-- A fault of VLT is reported in MAIN, or held for the next MAIN (R426). -/
def State.vaultFault (s : State) (fid : Nat) : State :=
  if s.vlt.vddio then s.raise fid else s.modVlt fun t => { t with later := t.later ++ [(fid, [])] }

/-- A fault that is logged only where it arises in HARVEST (R426). -/
def State.vaultFaultLog (s : State) (fid : Nat) : State :=
  if s.vlt.vddio then s.raise fid else (s.vaultFault fid).vaultLogFault fid 0x0E

/-- An event that MAIN alone reports (R427). -/
def State.vaultEvent (s : State) (ev : Nat) (data : List Byte) : State := if s.vlt.vddio then s.event ev data else s

/-- What waited for MAIN is reported (R404, R418, R426). -/
def State.vaultReports (s : State) : State :=
  if !s.vlt.vddio || !s.vlt.powered then s
  else
    s.vlt.later.foldl (fun s (c, d) =>
      if c = EV_VLT_RECOVERED then
        ((s.put VLT_STATUS_RECOVERED 1).event c (d ++ le 2 (min s.vlt.powerUps 0xFFFF))).modVlt fun t => { t with powerUps := 0 }
      else if c = EV_VLT_REL_FIRED then s.event c d
      else { s with flt := { s.flt with raised := s.flt.raised ++ [{ fid := c, recon := true }] } })
      (s.modVlt fun t => { t with later := [] })

/-- The main supply is present (POWER_ON_RESET). -/
def State.vaultMain (s : State) : State := (s.modVlt fun t => { t with vddio := true }).vaultReports

/-- A page write begins (R403): OK once step 1 has passed. -/
def State.startWrite (s : State) (page : Nat) (data : List Byte) (owner : Nat) : State × Nat :=
  let seq := imageSeq (s.pageImg page) + 1
  if 0xFFFFFFFF ≤ seq then (s, COUNTER_EXHAUSTED)
  else if !s.fieldCheck then (s, FIELD_LOW)
  else
    let (k, e) := s.takeSlot
    let w : PageWrite := { page := page, slot := k, seq := seq, data := data, erase := e, at_ := s.time.now, owner := owner }
    (s.modVlt fun t => { t with write := some w, lastSlot := k }, OK)

/-- The tag of a log record over these 24 bytes (R422); with no VLOG key the spec states none. -/
def State.logTag (s : State) (prev b : List Byte) : List Byte × State :=
  match s.vaultKey 8 with
  | some k => ((cmac k.2 (prev ++ b)).take 4, s)
  | none => s.freshBytes 4

/-- The tag before the first record. -/
def firstTag : List Byte := (List.range 4).map Config.vaultTag

/-- Where log record `n` stands: its page and offset (R400, R422). -/
def logPlace (n : Nat) : Nat × Nat := let i := (n - 1) % 512; (8 + i / 2, 28 * (i % 2))

/-- A log append begins (R422): the page write of the next record. -/
def State.startLog (s : State) (ev src : Nat) (data : List Byte) (owner : Nat) : State × Nat :=
  let n := s.vlt.lseq + 1
  let b := le 4 n ++ le 4 s.vaultTime ++ le 2 ev ++ [byte src, 0] ++ padTo 12 data
  let (tag, s) := s.logTag (if s.vlt.lseq = 0 then firstTag else s.vlt.lastTag) b
  let (p, o) := logPlace n
  let old := ((s.pageRead p).map (·.1)).getD (List.replicate 56 0xFF)
  s.startWrite p (old.take o ++ b ++ tag ++ old.drop (o + 28)) owner

/-- A log append that has been committed is the newest record: only appends write LOG pages (R400). -/
def State.logDone (s : State) (w : PageWrite) : State :=
  let n := s.vlt.lseq + 1
  if !within 8 263 w.page then s
  else s.modVlt fun t => { t with lseq := n, lastTag := (w.data.drop ((logPlace n).2 + 24)).take 4 }

/-- A write of the vault's own begins; one that its field check refuses is lost (R422). -/
def State.startOwn (s : State) : VaultOwn → State
  | .log ev src d => (s.startLog ev src d 3).1
  | .failCount => (s.startWrite 3 (failPage s.vlt.logic.fails) 4).1

/-- The vault's own writes begin while the memory is free, `n` at most. -/
def State.ownRun : Nat → State → State
  | 0, s => s
  | n + 1, s =>
    if s.vlt.write.isSome || !s.vlt.ready then s
    else
      match s.vlt.own with
      | [] => s
      | o :: l => State.ownRun n ((s.modVlt fun t => { t with own := l }).startOwn o)

/-- The vault goes on with its own work (R407). -/
def State.vaultOwn (s : State) : State := State.ownRun s.vlt.own.length s

/-! ### Frames (R405 to R413) -/

/-- The two CRC bytes of a frame, high byte first (R406). -/
def frameCrc (b : List Byte) : List Byte := let c := crc16 b; [byte (c / 256), byte c]

/-- A frame with its CRC. -/
def frameOf (b : List Byte) : List Byte := b ++ frameCrc b

/-- The CRC of a frame is right. -/
def frameGood (b : List Byte) : Bool := frameCrc (b.take (b.length - 2)) == b.drop (b.length - 2)

/-- The session ends and SK is zeroed (R411). -/
def State.sessionEnd (s : State) : State :=
  s.modVlt fun t => { t with session := false, auth1 := false, sk := [], pv := [], req := none }

/-- The protocol state becomes `p` (R408) with no session. -/
def State.toProto (s : State) (p : Nat) : State := s.sessionEnd.modVlt fun t => { t with proto := p, ask := none }

/-- The vault answers with this frame in slot `k` (R407). -/
def State.vaultSend (s : State) (b : List Byte) (k : Nat) (delayed : Bool) : State :=
  s.modVlt fun t => { t with out := frameOf b, outSlot := k, delayed := delayed }

/-- A frame error (R406). -/
def State.frameError (s : State) : State := if s.vlt.proto = 2 then s.sessionEnd else s

/-- A reader frame `b` with first byte `first` and one of the lengths `lens`, at `at_`: what a good one does is `f`. The vault
takes no frame before recovery is complete or without field (R404, R408). -/
def State.onFrame (s : State) (b : List Byte) (parityOk : Bool) (first : Nat) (lens : List Nat) (at_ : Nat)
    (f : State → State) : State :=
  if u8 b 0 ≠ first || !s.vlt.ready || !s.vlt.live then s
  else
    let s := (s.advance at_).modVlt fun t => { t with out := [], outSlot := 0, delayed := false }
    if !parityOk || !lens.contains b.length || !frameGood b then s.frameError else f s

/-- The frame is accepted in these states; any other returns to IDLE without an answer (R408). -/
def State.inProto (s : State) (ps : List Nat) (f : State → State) : State :=
  if ps.contains s.vlt.proto then f s else s.toProto 0

/-- VAULT_ID as four bytes. -/
def vaultIdBytes : List Byte := le 4 Config.vaultId.toNat

/-- A fresh handle has been drawn (R409): `q` is 0 to 4 where the vault answers. -/
def State.vaultHandle (s : State) (q v : Nat) : State :=
  let s := s.modVlt fun t => { t with h := v, ask := none }
  if q ≤ 4 then s.vaultSend (0xA1 :: le 2 v) (v % 2 ^ q) false else s

/-- A handle from the vault's own source, never 0x0000 or 0xFFFF. -/
def State.ownHandle (s : State) (q : Nat) : State := let (v, s) := s.fresh 16; s.vaultHandle q (v % 0xFFFE + 1)

/-- The two bytes the CTR_DRBG has served for a handle; 0x0000 and 0xFFFF are drawn again (R409). -/
def State.vaultGotH (s : State) (b : List Byte) : State :=
  match s.vlt.ask with
  | none => s
  | some q =>
    let v := u16 b 0
    if v = 0 ∨ v = 0xFFFF then s.rngAskFor 3 3 0 2 else s.vaultHandle q v

/-- The CTR_DRBG has failed: the handle comes from the vault's own source (R409). -/
def State.vaultRngHealth (s : State) : State :=
  match s.vlt.ask with
  | none => s
  | some q => s.ownHandle q

/-- VREQ and VWUP (R409), accepted in the states `ps`. -/
def State.anticoll (s : State) (b : List Byte) (ps : List Nat) : State :=
  if s.vlt.rngFail then s.inProto ps id
  else if 4 < u8 b 1 then s.toProto 0
  else
    s.inProto ps fun s =>
      let s := s.toProto 1
      let q := if u32 b 2 = 0 ∨ u32 b 2 = Config.vaultId.toNat then u8 b 1 else 99
      if s.vpwr == 2 && s.rngReady then (s.modVlt fun t => { t with ask := some q }).rngAskFor 3 3 0 2
      else s.ownHandle q

/-- VREQ (R408, R409). -/
def vreq (b : List Byte) (parityOk : Bool) (at_ : Nat) (s : State) : State :=
  s.onFrame b parityOk 0x52 [8] at_ fun s => s.anticoll b [0, 1]

/-- VWUP (R408, R409). -/
def vwup (b : List Byte) (parityOk : Bool) (at_ : Nat) (s : State) : State :=
  s.onFrame b parityOk 0x53 [8] at_ fun s => s.anticoll b [0, 1, 3]

/-- VSEL (R408 to R410). -/
def vsel (b : List Byte) (parityOk : Bool) (at_ : Nat) (s : State) : State :=
  s.onFrame b parityOk 0x5C [5] at_ fun s => s.inProto [1] fun s =>
    if u16 b 1 ≠ s.vlt.h then s.toProto 0
    else
      let (nv, s) := s.freshBytes 16
      ((s.toProto 2).modVlt fun t => { t with nv16 := nv }).vaultSend (0xA2 :: vaultIdBytes ++ nv) 0 false

/-- HALT (R408). -/
def halt (b : List Byte) (parityOk : Bool) (at_ : Nat) (s : State) : State :=
  s.onFrame b parityOk 0x50 [3] at_ fun s => s.inProto [1, 2] fun s => s.toProto 3

/-- VLT_SESSION (R427) data: LSEQ is that of the record the session's log append will be. -/
def State.sessionData (s : State) (st : Nat) : List Byte :=
  let run := match s.vlt.write with | some w => bit01 (w.owner == 3 && w.stage == 1) | none => 0
  let logs := (s.vlt.own.filter fun o => match o with | .log _ _ _ => true | .failCount => false).length
  [byte s.vlt.kidx, byte st] ++ le 2 s.vlt.h ++ le 4 (s.vlt.lseq + run + logs + 1)

/-- The failure count becomes `n`; the write waits for the memory (R407, R411). -/
def State.setFails (s : State) (n : Nat) : State :=
  if n = s.vlt.logic.fails then s
  else s.modVlt fun t => { t with logic := { t.logic with fails := n }, own := t.own ++ [.failCount] }

/-- An authentication failure (R411). -/
def State.authFailed (s : State) : State :=
  let s := (s.toProto 0).setFails (min (s.vlt.logic.fails + 1) 0xFFFF)
  ((s.vaultLogFault FID_VLT_AUTH 0x04).vaultFault FID_VLT_AUTH).vaultOwn

/-- AUTH1 (R411): the session key and PV. -/
def auth1 (b : List Byte) (parityOk : Bool) (at_ : Nat) (s : State) : State :=
  s.onFrame b parityOk 0x70 [20] at_ fun s => s.inProto [2] fun s =>
    let k := u8 b 1
    let s := s.sessionEnd.modVlt fun t => { t with kidx := k }
    match (if k < 8 then s.vaultKey k else none) with
    | none => s.authFailed
    | some vk =>
      let sk := cmac vk.2 ([0x56, 0x53, 0x01] ++ vaultIdBytes ++ s.vlt.nv16 ++ (b.drop 2).take 16)
      let pv := (cmac sk ([0x56, 0x50] ++ le 2 s.vlt.h ++ [byte k])).take 8
      (s.modVlt fun t => { t with sk := sk, pv := pv, auth1 := true }).vaultSend (0xA3 :: pv) 0 (16 ≤ s.vlt.logic.fails)

/-- AUTH2 (R411, R427): a right PR opens the session. -/
def auth2 (b : List Byte) (parityOk : Bool) (at_ : Nat) (s : State) : State :=
  s.onFrame b parityOk 0x71 [11] at_ fun s => s.inProto [2] fun s =>
    if !s.vlt.auth1 || (cmac s.vlt.sk ([0x52, 0x50] ++ s.vlt.pv)).take 8 ≠ (b.drop 1).take 8 then
      (s.vaultEvent EV_VLT_SESSION (s.sessionData AUTH_FAIL)).authFailed
    else
      let s := s.setFails 0
      let s := s.modVlt fun t => { t with session := true, auth1 := false, rseq := 0, vseq := 0, sessions := t.sessions + 1 }
      let d := s.sessionData OK
      let s := (s.vaultSend [0xA4] 0 false).vaultEvent EV_VLT_SESSION d
      (s.vaultLog EV_VLT_SESSION 0x04 d).vaultOwn

/-- The CCM nonce of R412. -/
def State.vaultNonce (s : State) (dir seq : Nat) : List Byte := [byte dir] ++ le 4 seq ++ vaultIdBytes ++ s.vlt.nv16.take 4

/-- A secure answer (R412): STATUS and data. -/
def State.secureAnswer (s : State) (st : Nat) (d : List Byte) : State :=
  let c := ccmSeal s.vlt.sk (s.vaultNonce 1 s.vlt.vseq) [0xAE] (byte st :: d) 8
  (s.vaultSend (0xAE :: c) 0 false).modVlt fun t => { t with vseq := t.vseq + 1 }

/-- RIGHTS of the session key (R414). -/
def State.sessionRights (s : State) : Nat := match s.vaultKey s.vlt.kidx with | some k => k.1 | none => 0

/-- Secure READ once the memory is free (R413). -/
def State.secureReadRun (s : State) (b : List Byte) : State :=
  let p := u16 b 0
  let ok := (within 8 263 p && bitAt s.sessionRights 2 == 1) || (within 264 447 p && bitAt s.sessionRights 0 == 1)
  if !ok then s.secureAnswer ACCESS_DENIED []
  else
    match s.pageRead p with
    | none => ((s.secureAnswer INTEGRITY []).vaultFaultLog FID_VLT_INTEGRITY).vaultOwn
    | some (d, seq) => s.secureAnswer OK (d ++ le 4 seq)

/-- Secure WRITE once the memory is free (R403, R413): the answer comes with the commit. -/
def State.secureWriteRun (s : State) (b : List Byte) : State :=
  let p := u16 b 0
  let ex := u32 b 2
  if !(within 264 447 p && bitAt s.sessionRights 1 == 1) then s.secureAnswer ACCESS_DENIED []
  else if ex ≠ 0xFFFFFFFF ∧ ex ≠ imageSeq (s.pageImg p) then s.secureAnswer BAD_STATE []
  else
    match s.startWrite p (b.drop 6) 1 with
    | (s, st) => if st = OK then s else s.secureAnswer st []

/-- The status of a ticket under checks 1 to 6 of R417. -/
def State.ticketStatus (s : State) (b : List Byte) : Nat :=
  let l := s.vlt.logic
  let tagOk := match s.vaultKey 9 with
    | some k => (cmac k.2 ([0x54, 0x4B] ++ b.take 16)).take 8 == (b.drop 16).take 8
    | none => false
  let good := u8 b 0 == 1 && u8 b 1 == 0 && u32 b 2 == Config.vaultId.toNat && u16 b 14 == 0 && tagOk
  if bitAt s.sessionRights 3 = 0 then ACCESS_DENIED
  else if !l.armed then BAD_STATE
  else if !good then AUTH_FAIL
  else if u32 b 6 ≤ l.lastTseq then ROLLBACK
  else if u32 b 10 < l.lastTime then EXPIRED
  else if s.vlt.vrstore < 100 * l.vmin then FIELD_LOW
  else OK

/-- Secure TICKET once the memory is free (R417): LAST_TSEQ is written before anything fires. -/
def State.ticketRun (s : State) (b : List Byte) : State :=
  let st := s.ticketStatus b
  if st ≠ OK then s.secureAnswer st []
  else
    let l := s.vlt.logic
    match s.startWrite 0 (relPage l.armed l.pulse l.vmin (u32 b 6)) 2 with
    | (s, st) => if st = OK then s else s.secureAnswer st []

/-- VAULT_REL fires and the ticket is answered (R417, R418). -/
def State.ticketFire (s : State) : State :=
  let d := le 4 s.vlt.logic.lastTseq ++ le 2 s.vlt.vrstore ++ [byte OK]
  let s := s.modVlt fun t => { t with relUntil := some (s.time.now + Config.msTicks * (t.logic.pulse * 10)), fired := t.fired + 1 }
  let s := if s.vlt.session then s.secureAnswer OK (le 2 s.vlt.vrstore) else s
  let s := s.vaultLog EV_VLT_REL_FIRED 0x0E d
  if s.vlt.vddio then s.event EV_VLT_REL_FIRED d else s.modVlt fun t => { t with later := t.later ++ [(EV_VLT_REL_FIRED, d)] }

/-- A verified request that needs the memory is served (R413). -/
def State.secureRun (s : State) (r : VaultReq) : State :=
  if r.scmd = 1 then s.secureReadRun r.body
  else if r.scmd = 2 then s.secureWriteRun r.body
  else s.ticketRun r.body

/-- The memory has become free: a waiting field request first, then the vault's own work (R407, R420). -/
def State.vaultNext (s : State) : State :=
  if s.vlt.write.isSome then s
  else
    match s.vlt.req with
    | some r => ((s.modVlt fun t => { t with req := none }).secureRun r).vaultOwn
    | none => s.vaultOwn

/-- A secure frame (R412): its tag verified, an inner message of `scmd` with `n` bytes after it runs `f`. Another inner
message is another row's. -/
def State.onSecure (s : State) (b : List Byte) (parityOk : Bool) (scmd n at_ : Nat) (f : State → List Byte → State) : State :=
  s.onFrame b parityOk 0x7E [12, 14, 36, 74] at_ fun s => s.inProto [2] fun s =>
    if !s.vlt.session then s.toProto 0
    else
      match ccmOpen s.vlt.sk (s.vaultNonce 0 s.vlt.rseq) [0x7E] ((b.drop 1).take (b.length - 3)) 8 with
      | none => s.frameError
      | some m =>
        if u8 m 0 ≠ scmd then s
        else if m.length ≠ n + 1 then s.frameError
        else f (s.modVlt fun t => { t with rseq := t.rseq + 1 }) (m.drop 1)

/-- A request that needs the memory runs now or waits (R407, R420). -/
def State.secureAsk (s : State) (scmd : Nat) (body : List Byte) : State :=
  let r : VaultReq := { scmd := scmd, body := body }
  if s.vlt.write.isSome then s.modVlt fun t => { t with req := some r } else s.secureRun r

/-- SECURE_READ (R413). -/
def secureRead (b : List Byte) (parityOk : Bool) (v : VaultMeas) (at_ : Nat) (s : State) : State :=
  s.onSecure b parityOk 1 2 at_ fun s m => (s.setMeas v).secureAsk 1 m

/-- SECURE_WRITE (R403, R413). -/
def secureWrite (b : List Byte) (parityOk : Bool) (v : VaultMeas) (at_ : Nat) (s : State) : State :=
  s.onSecure b parityOk 2 62 at_ fun s m => (s.setMeas v).secureAsk 2 m

/-- SECURE_STATUS (R413). -/
def secureStatus (b : List Byte) (parityOk : Bool) (v : VaultMeas) (at_ : Nat) (s : State) : State :=
  s.onSecure b parityOk 3 0 at_ fun s _ =>
    let s := s.setMeas v
    s.secureAnswer OK ([byte s.vpwr, byte s.vlt.field] ++ le 2 s.vlt.vh ++ le 2 s.vlt.vrstore ++ [byte s.sessionRights]
      ++ le 4 s.vlt.logic.lastTseq)

/-- TICKET (R413, R416, R417). -/
def ticket (b : List Byte) (parityOk : Bool) (v : VaultMeas) (at_ : Nat) (s : State) : State :=
  s.onSecure b parityOk 4 24 at_ fun s m => (s.setMeas v).secureAsk 4 m

/-- SECURE_END (R408, R413): the session ends after the answer. -/
def secureEnd (b : List Byte) (parityOk : Bool) (at_ : Nat) (s : State) : State :=
  s.onSecure b parityOk 5 0 at_ fun s _ => (s.secureAnswer OK []).toProto 0

/-! ### Supply events -/

/-- The slots that recovery must copy (R404): committed, the highest SEQ for their page, the home page corrupt or older. -/
def State.slotsToCopy (s : State) : List Nat :=
  (List.range 16).filter fun k =>
    let b := s.shadowSlot k
    let p := u16 b 64
    let home := s.nvRead (pageAddr p) 64
    slotCommitted b && p < 512
      && ((pageParse home).isNone || imageSeq home < u32 b 56)
      && (List.range 16).all fun j =>
        let c := s.shadowSlot j
        !(slotCommitted c && u16 c 64 == p && (u32 b 56 < u32 c 56 || (u32 b 56 == u32 c 56 && j < k)))

/-- Slots that are neither erased, committed nor retired: partial shadows (R404). -/
def State.partialSlots (s : State) : List Nat :=
  (List.range 16).filter fun k =>
    let b := s.shadowSlot k
    !slotErased b && !slotCommitted b && !slotRetired b

/-- Recovery (R404): copies, then every other slot that is not erased is retired. -/
def State.recover (s : State) : State :=
  let copies := s.slotsToCopy
  let partials := s.partialSlots
  let rest := (List.range 16).filter fun k =>
    let b := s.shadowSlot k
    !copies.contains k && !slotErased b && !slotRetired b
  let s := copies.foldl (fun s k =>
    let b := s.shadowSlot k
    (s.wait copyTicks).nvSteps (copySteps (u16 b 64) k (b.take 64))) s
  let s := rest.foldl (fun s k => (s.wait (80 * Config.usTicks)).nvStep (retireStep k)) s
  let s := partials.foldl (fun s _ => (s.vaultFault FID_VLT_RESERVE).vaultLogFault FID_VLT_RESERVE 0x0E) s
  let n := copies.length + partials.length
  if n = 0 then s
  else
    let d := [byte copies.length, byte partials.length]
    let s := s.vaultLog EV_VLT_RECOVERED 0x0E (d ++ le 2 s.vlt.powerUps)
    (s.put VLT_STATUS_RECOVERED 1).modVlt fun t => { t with recovered := t.recovered + n, later := t.later ++ [(EV_VLT_RECOVERED, d)] }

/-- VAULT_POWER_UP (R395, R404, R407, R408): VH rises through 1.90 V, from VDDIO where `main`. Recovery runs at once, or, where
a copy is needed and its field check fails, when this command finds a check that passes. -/
def vaultPowerUp (main : Bool) (v : VaultMeas) (at_ : Nat) (s : State) : State :=
  if s.vlt.ready then s
  else
    let s := (s.advance at_).setMeas v
    let s := s.modVlt fun t => { t with vddio := main, powerUps := if t.powered then t.powerUps else t.powerUps + 1, powered := true }
    let s := s.modVlt fun t => { t with logic := s.loadLogic }
    if !s.slotsToCopy.isEmpty && !s.fieldCheck then s
    else
      let s := s.recover
      (s.modVlt fun t => { t with ready := true, live := true, proto := 0, logic := s.loadLogic }).vaultReports.vaultOwn

/-- VAULT_BROWN_OUT (R395, R403): the vault logic resets at once; a write under way is cut where it stands. -/
def vaultBrownOut (at_ : Nat) (s : State) : State :=
  if !s.vlt.powered then s
  else
    let s := s.advance at_
    let s := match s.vlt.write with
      | some w =>
        let e := s.time.now - w.at_
        if w.stage = 1 then
          let s := nvRun s w.shadowSteps (e - 10 * Config.usTicks)
          if w.commitTicks ≤ e then s.logDone w else s
        else nvRun s (copySteps w.page w.slot (pageImage w.data w.seq)) e
      | none => s
    (s.toProto 0).modVlt fun t => { t with vddio := false, powered := false, ready := false, live := false, fdWake := false
                                           write := none, own := [], jobs := [], stream := none, rngFail := false }

/-- VAULT_FIELD_LOSS (R408). -/
def vaultFieldLoss (at_ : Nat) (s : State) : State :=
  if !s.vlt.powered then s
  else ((s.advance at_).toProto 0).modVlt fun t => { t with field := 0, live := t.vddio && t.ready }

/-- FD_WAKE_RISE (R94, R303, R398, R427, R515). -/
def fdWakeRise (v : VaultMeas) (at_ : Nat) (s : State) : State :=
  if !s.vlt.powered then s
  else
    let s := (s.advance at_).setMeas v
    let s := s.modVlt fun t => { t with live := t.ready }
    if bitAt s.vlt.logic.fd 8 = 0 || s.vlt.fdWake then s
    else if s.hfr.field.isSome then s.put VLT_STATUS_OWN_FIELD 1
    else
      let s := s.modVlt fun t => { t with fdWake := true }
      if !s.vlt.vddio then s
      else
        let s := s.event EV_VLT_FIELD [1, byte (s.get VLT_STATUS_OWN_FIELD), byte s.vpwr, byte s.vlt.field]
        ((s.wakeSource 8 0 true).pollResume 3).ewFire 5 s.stamp

/-- FD_WAKE_FALL (R398): FD_HOLD_MS after the field has fallen. -/
def fdWakeFall (at_ : Nat) (s : State) : State :=
  if !s.vlt.fdWake then s else (s.advance at_).modVlt fun t => { t with fdWake := false, field := 0 }

/-- A field of HFR switches on: FD_WAKE is held low (R398). -/
def State.fdOwnField (s : State) : State :=
  (s.put VLT_STATUS_OWN_FIELD 1).modVlt fun t => { t with fdWake := false }

/-- RETIRED_SLOT_ERASE (R404): the vault is powered and idle. -/
def retiredSlotErase (verified : Bool) (s : State) : State :=
  if !s.vlt.ready || s.vlt.write.isSome || s.vlt.req.isSome || !s.vlt.own.isEmpty || !s.vlt.jobs.isEmpty then s
  else
    match s.slotOrder.find? fun k => slotRetired (s.shadowSlot k) with
    | none => s
    | some k =>
      let s := s.wait (2 * Config.msTicks)
      if verified then s.nvWrite (slotAddr k) (List.replicate 128 0xFF)
      else (s.vaultFaultLog FID_VLT_NV).vaultOwn

/-- VAULT_REL_PULSE_END (R418). -/
def vaultRelPulseEnd (s : State) : State :=
  match s.vlt.relUntil with
  | none => s
  | some t => (s.advance t).modVlt fun x => { x with relUntil := none }

/-- VLT_RNG (R410): the repetition count test of the vault's random source fails, or passes again. -/
def vltRng (failing : Bool) (at_ : Nat) (s : State) : State :=
  if !s.vlt.powered || failing == s.vlt.rngFail then s
  else
    let s := (s.advance at_).modVlt fun t => { t with rngFail := failing }
    if failing then ((s.vaultFault FID_VLT_RNG).vaultLogFault FID_VLT_RNG 0x0E).vaultOwn else s

end Sys2Proof.Machine
end

