-- ==== Sys2Proof/Machine/Hfr.lean ====
section
/-!
DEFINITION. Machine/Hfr.lean: the 13.56 MHz reader: fields, pings, activations, exchanges and key flows (R367 to R394).
-/
namespace Sys2Proof.Machine

/-- HFR as `f` makes it. -/
def State.modHfr (s : State) (f : HfrState → HfrState) : State := { s with hfr := f s.hfr }

/-- DEG_NO_HFR is in force (R385, R553). -/
def State.noHfr (s : State) : Bool := s.forcedMode 4 || s.fenced 13

/-! ### The field (R368 to R370) -/

/-- HFR_FIELD (R387). -/
def State.fieldEvent (s : State) (port level cause : Nat) : State :=
  s.event EV_HFR_FIELD [byte port, byte level, byte cause]

/-- What waited for the boundary of HFR takes effect (R384): no field is on. -/
def State.hfrBoundary (s : State) : State := if s.hfr.field.isNone then (s.applyStaged 13).unitSettle 13 else s

/-- The field switches off (R370). -/
def State.fieldOff (s : State) (cause : Nat) : State :=
  match s.hfr.field with
  | none => s
  | some p => ((s.modHfr fun h => { h with field := none, target := none }).fieldEvent p 0 cause).hfrBoundary

/-- The field of port `p` switches on. -/
def State.fieldOn (s : State) (p : Nat) : State :=
  ((s.modHfr fun h => { h with field := some p, target := none }).fdOwnField.notePeak.fieldEvent p 1 0).withdraw 13

/-- HFR_ACTIVATED (R387): the record and the target's data. -/
def State.actEvent (s : State) (a : HfrAct) (st : Nat) (multi : Bool) (uid : List Byte) (sak atq : Nat) (ats : List Byte) :
    State :=
  let fl := bit01 multi + 2 * bitAt a.flags 0
  let r := mkRecord s.stamp EV_HFR_ACTIVATED 0x0D s.quality (s.cfgEpoch 13)
    (le 2 a.id ++ [byte a.port, byte a.tech, byte a.rate, byte st, byte uid.length, byte fl])
  s.pushEvtItem (r ++ padTo 10 uid ++ [byte sak] ++ le 2 atq ++ [byte ats.length] ++ padTo 18 ats) 0x0D

/-- An activation ends without a target. -/
def State.actFail (s : State) (a : HfrAct) (st : Nat) : State :=
  (s.modHfr fun h => { h with act := none, lastAt := s.time.now }).actEvent a st false [] 0 0 []

/-- The frame sent to the target. -/
def State.hfrSend (s : State) (b : List Byte) : State := s.modHfr fun h => { h with sent := b }

/-! ### Key flows (R378 to R383) -/

/-- KS of the tap flow (R379). -/
def State.tapKey (s : State) (k nb nk id : List Byte) : List Byte :=
  cmac k ([0x4B, 0x41, 0x50, 0x53, 0x02] ++ le 2 (s.get LF_TEL_CFG_WAKE_ID) ++ id ++ padTo 16 nb ++ nk)

/-- PB of the tap flow (R379). -/
def State.tapBase (s : State) (ks id nk : List Byte) : List Byte :=
  (cmac ks ([0x42, 0x50, 0x32] ++ le 2 (s.get LF_TEL_CFG_WAKE_ID) ++ id ++ nk)).take 8

/-- HFR_KEY (R387). -/
def State.tapEvent (s : State) (f : HfrFlow) (st ctr : Nat) (unlock console : Bool) : State :=
  let l := f.look
  let cold := match l with | some r => r.source == 2 | none => false
  let role := match l with | some r => u8 r.row 12 | none => 0
  s.event EV_HFR_KEY (le 2 f.id ++ [byte f.port, byte st, byte role, byte (bit01 cold + 2 * bit01 unlock + 4 * bit01 console)]
    ++ padTo 4 f.key ++ le 4 ctr)

/-- A flow ends (R370, R380): slot 23 is cleared, KS is gone, the field switches off. -/
def State.flowEnd (s : State) (cause : Nat) : State :=
  match s.hfr.flow with
  | none => s
  | some f =>
    let s := s.holdKey f.key false
    let s := { s with cred := { s.cred with looks := s.cred.looks.filter (·.who != 2)
                                            found := s.cred.found.filter (·.req.who != 2) }
                      rng := { s.rng with reqs := s.rng.reqs.filter (·.kind != 6) } }
    ((s.setSlot 23 none).modHfr fun h => { h with flow := none, lastAt := s.time.now }).fieldOff cause

/-- A flow ends with `st` once its HELLO reply is in: it is counted and reported (R268, R380, R382). -/
def State.flowFail (s : State) (f : HfrFlow) (st : Nat) : State :=
  let found := match f.look with | some r => r.source != 0 | none => false
  let s := if f.key.isEmpty then (if [AUTH_FAIL, NOT_FOUND].contains st then s.countGlobal else s)
    else s.countOutcome st f.key found
  (s.tapEvent f st 0 false false).flowEnd 0

/-- A flow ends before its HELLO reply, or by R383, without being counted. -/
def State.flowBreak (s : State) (st cause : Nat) : State :=
  match s.hfr.flow with
  | none => s
  | some f => (if f.stage < 2 then s else s.tapEvent f st 0 false false).flowEnd cause

/-- NB has been drawn (R379): T_HELLO goes out (R378). -/
def State.tapGotNb (s : State) (nb : List Byte) : State :=
  match s.hfr.flow with
  | none => s
  | some f =>
    if f.stage ≠ 0 then s
    else
      (s.modHfr fun h => { h with flow := some { f with stage := 1, nb := nb } }).hfrSend
        ([0x4B, 0x31] ++ le 2 (s.get LF_TEL_CFG_WAKE_ID) ++ padTo 16 nb)

/-- HELLO_REPLY (R378, R380): the key's reply `b` is in at `at_`. An absent reply is one of no bytes. -/
def helloReply (b : List Byte) (at_ : Nat) (s : State) : State :=
  match s.hfr.flow with
  | none => s
  | some f =>
    if f.stage ≠ 1 then s
    else
      let s := s.advance at_
      if b = [0x02] then s.flowFail f NOT_FOUND
      else if b.length ≠ 29 || u8 b 0 ≠ 0 then s.flowFail f AUTH_FAIL
      else
        let f := { f with stage := 2, key := (b.drop 1).take 12, nk := b.drop 13 }
        if s.lockedOut f.key then s.flowFail f LOCKOUT
        else
          (s.modHfr fun h => { h with flow := some f }).lookAsk { who := 2, id := f.key, kslot := 23, noUnwrap := false }

/-- The lookup of a flow has ended (R380): T_PROOF goes out. -/
def State.tapFound (s : State) (f : HfrFlow) (r : LookRes) : State :=
  let s := s.modCred fun c => { c with found := c.found.filter (·.req.who != 2) }
  let f := { f with look := some r }
  match s.slot 23 with
  | some k =>
    if r.status ≠ OK then s.flowFail f r.status
    else
      let ks := s.tapKey k.key f.nb f.nk f.key
      let pb := s.tapBase ks f.key f.nk
      let s := s.holdKey f.key true
      (s.modHfr fun h => { h with flow := some { f with stage := 3, ks := ks, pb := pb } }).hfrSend ([0x4B, 0x32] ++ pb)
  | none => s.flowFail f (if r.status = OK then UNWRAP else r.status)

/-- T_CLOSE (R378, R379) with this RESULT. -/
def State.tapClose (s : State) (f : HfrFlow) (result : Nat) : State :=
  let tag := (cmac f.ks [0x54, 0x43, 0x33, byte result]).take 2
  (s.modHfr fun h => { h with flow := some { f with stage := 4 } }).hfrSend ([0x4B, 0x33, byte result] ++ tag)

/-- The status of a PROOF reply (R260, R272, R380): TAG_K, CTR above the counter of the lookup, the frame delay. -/
def State.tapStatus (s : State) (f : HfrFlow) (r : LookRes) (b : List Byte) (delayUs : Nat) : Nat :=
  let ctr := u32 b 1
  if (cmac f.ks ([0x4B, 0x50, 0x32] ++ (b.drop 1).take 6 ++ f.pb)).take 8 ≠ b.drop 7 then AUTH_FAIL
  else if ctr = 0xFFFFFFFF then COUNTER_EXHAUSTED
  else if ctr ≤ r.ctr then AUTH_FAIL
  else if 1000 * s.get HFR_TAP_CFG_TAP_FDT_MAX_MS < delayUs then RELAY_SUSPECT
  else if s.credGone r then REVOKED
  else OK

/-- TAP_MODE permits a tap now (R291). -/
def State.tapMay (s : State) : Bool :=
  match s.get REL_POLICY_TAP_MODE with
  | 1 => s.noRanging
  | 2 => true
  | _ => false

/-- A flow has succeeded (R261, R380, R382). -/
def State.tapPassed (s : State) (f : HfrFlow) (r : LookRes) (ctr : Nat) : State :=
  let console := f.port = 1 && rowStart r.row
  let s := ((s.storeCounter r ctr).clearFails f.key).pollKick
  let s := if console then s.modRel fun x => { x with tap := some (f.key, s.stamp) } else s
  let s := s.tapEvent f OK ctr (rowUnlock r.row) console
  let o : OpenReq := { id := f.key, role := u8 r.row 12, source := 1, start := true, run := 0xFFFF }
  let s := if console && s.tapMay then s.modAuth fun x => { x with release := some o } else s
  s.tapClose f 0

/-- PROOF_REPLY (R378, R380): the reply `b` is in at `at_`, its frame delay `delayUs`; `wtx` where S(WTX) came. -/
def proofReply (b : List Byte) (wtx : Bool) (delayUs : Nat) (at_ : Nat) (s : State) : State :=
  match s.hfr.flow with
  | none => s
  | some f =>
    if f.stage ≠ 3 then s
    else
      let s := s.advance at_
      match (if wtx then none else f.look) with
      | none => s.flowFail f RELAY_SUSPECT
      | some r =>
        if b.length ≠ 15 || u8 b 0 ≠ 0 then s.flowFail f AUTH_FAIL
        else
          let st := s.tapStatus f r b delayUs
          let ctr := u32 b 1
          if st = OK then s.tapPassed f r ctr
          else ((s.countOutcome st f.key true).tapEvent f st ctr false false).tapClose f 1

/-- TAP_FDT_TIMEOUT (R380): no PROOF reply has started TAP_FDT_MAX_MS after the end of T_PROOF, at `at_`. -/
def tapFdtTimeout (at_ : Nat) (s : State) : State :=
  match s.hfr.flow with
  | none => s
  | some f => if f.stage ≠ 3 then s else (s.advance at_).flowFail f RELAY_SUSPECT

/-- CLOSE_REPLY (R378): the flow ends. -/
def closeReply (at_ : Nat) (s : State) : State :=
  match s.hfr.flow with
  | none => s
  | some f => if f.stage ≠ 4 then s else (s.advance at_).flowEnd 0

/-- A fault of the reader (R370, R386): but for the ping engine's it switches a field off, and HFR_VHF refuses fields until it is
cleared (DEDUCED, notes/assumptions/176.md). -/
def State.hfrFaultEffect (s : State) (fid : Nat) : State :=
  let s := if fid = FID_HFR_VHF then s.modHfr fun h => { h with vhfBad := true } else s
  if fid = FID_HFR_PING then s else s.fieldOff 2

/-! ### Activation and exchange (R369, R371, R392, R393) -/

/-- An activation starts with its external field check (R369): the status. -/
def State.hfrStart (s : State) (port tech rate flags afi timeoutMs : Nat) : State × Nat :=
  let key := bitAt flags 1 = 1
  if s.hfr.field.any (· != port) || s.hfr.act.isSome || s.hfr.flow.isSome || s.hfr.exch.isSome then (s, BUSY)
  else if !s.unitOn 13 || s.padHeld 8 || s.safeState || s.noHfr || (key && !s.unitOn 9) || s.sys.role ≠ 0 || s.noRadio then
    (s, BAD_STATE)
  else if s.hfr.vhfBad then (s, BAD_STATE)
  else if s.hfr.field.isNone && !s.fits 960 then (s.refuseBudget, POWER_BUDGET)
  else
    let a : HfrAct := { id := s.hfr.nextAct, port := port, tech := tech, rate := rate, flags := flags, afi := afi
                        timeout := Config.msTicks * timeoutMs, since := s.time.now, searching := s.hfr.field.isSome }
    ((s.modHfr fun h => { h with act := some a, nextAct := (h.nextAct + 1) % 0x10000, target := none }).withdraw 13, ACCEPTED)

/-- HFR_ACTIVATE (R392). -/
def hfrActivate (m : Master) (p : List Byte) (s : State) : State :=
  let fl := u8 p 3
  let iso := bitAt fl 0 = 1
  let key := bitAt fl 1 = 1
  let tech := u8 p 1
  hostCmd 0x92 m p
    [lenIs p 8, paramOk (u8 p 0 < 2 && tech < 3 && u8 p 2 < 4 && fl < 8 && (tech = 1 || u8 p 4 = 0) && u8 p 5 = 0
       && within 10 1000 (u16 p 6)),
     paramOk (!(key && !iso) && !(tech = 2 && (u8 p 2 = 3 || key || iso)))]
    (fun s =>
      let id := s.hfr.nextAct
      match s.hfrStart (u8 p 0) tech (u8 p 2) fl (u8 p 4) (u16 p 6) with
      | (s, st) => (s, st, if st = ACCEPTED then le 2 id else [])) s

/-- EXT_CHECK_END (R369): the external field check ends; `ext` says that a field above 0.1 A/m was found. -/
def extCheckEnd (ext : Bool) (s : State) : State :=
  match s.hfr.act with
  | none => s
  | some a =>
    if a.searching then s
    else
      let s := s.advance (a.since + Config.usTicks * s.get HFR_TAP_CFG_EXT_CHECK_US)
      if ext then (((s.put HFR_STATUS_EXT_FIELD 1).bump HFR_EXT_FIELD).fieldEvent a.port 0 4).actFail a BUSY
      else (s.modHfr fun h => { h with act := some { a with searching := true, since := s.time.now } }).fieldOn a.port

/-- HFR_ACTIVATED (R372, R387, R392): a target is activated, or activation has failed with a target that did not complete
it. With KEY the flow begins (R378, R383). -/
def hfrActivated (ok multi : Bool) (uid : List Byte) (sak : Byte) (atq : BitVec 16) (ats : List Byte) (at_ : Nat) (s : State) :
    State :=
  match s.hfr.act with
  | none => s
  | some a =>
    if !a.searching || s.hfr.field ≠ some a.port then s
    else
      let s := s.advance at_
      let key := bitAt a.flags 1 = 1
      if !ok then s.actFail a INTEGRITY
      else if key && s.globalLocked then (s.actFail a LOCKOUT).fieldOff 0
      else
        let s := s.modHfr fun h => { h with act := none, target := some (a.port, bitAt a.flags 0 = 1), lastAt := s.time.now }
        let s := s.actEvent a OK multi (uid.take 10) sak.toNat atq.toNat ats
        if !key then s
        else
          let s := s.modHfr fun h => { h with flow := some { id := a.id, port := a.port } }
          if s.rngHalted then s.flowBreak RNG_HEALTH 0 else s.rngAskFor 4 6 0 16

/-- HFR_ACTIVATE_TIMEOUT (R392). -/
def hfrActivateTimeout (s : State) : State :=
  match s.hfr.act with
  | none => s
  | some a => if !a.searching then s else (s.advance (a.since + a.timeout)).actFail a TIMEOUT

/-- HFR_EXCHANGE (R393): the reply comes with the target's response. -/
def hfrExchange (m : Master) (p : List Byte) (s : State) : State :=
  let port := u8 p 0
  let n := u16 p 4
  hostCmdLater 0x93 m p
    [(6 ≤ p.length, BAD_LENGTH), paramOk (port < 2 && u8 p 1 < 2 && within 1 5000 (u16 p 2) && within 1 256 n), lenIs p (6 + n)]
    (fun c s =>
      if s.hfr.flow.isSome then (s, some (ACCESS_DENIED, []))
      else if s.hfr.exch.isSome then (s, some (BUSY, []))
      else if s.padHeld 8 || s.hfr.field ≠ some port || !s.hfr.target.any (fun t => t.1 == port && (u8 p 1 = 0 || t.2)) then
        (s, some (BAD_STATE, []))
      else
        let e : HfrExch := { port := port, master := m, ctx := c, due := s.time.now + Config.msTicks * u16 p 2 }
        ((s.modHfr fun h => { h with exch := some e }).hfrSend (p.drop 6), none)) s

/-- An exchange ends with this reply. -/
def State.exchEnd (s : State) (st : Nat) (d : List Byte) : State :=
  match s.hfr.exch with
  | none => s
  | some e => (s.modHfr fun h => { h with exch := none, lastAt := s.time.now }).answer e.master 0x93 e.ctx st d

/-- TARGET_RESPONSE (R393). -/
def targetResponse (b : List Byte) (crcOk : Bool) (at_ : Nat) (s : State) : State :=
  if s.hfr.exch.isNone then s
  else (s.advance at_).exchEnd (if crcOk then OK else INTEGRITY) (if crcOk then b.take 256 else [])

/-- HFR_EXCHANGE_TIMEOUT (R393). -/
def hfrExchangeTimeout (s : State) : State :=
  match s.hfr.exch with
  | none => s
  | some e => (s.advance e.due).exchEnd TIMEOUT []

/-- HFR_FIELD_TIMEOUT (R370): 1000 ms after the last activation or exchange. -/
def hfrFieldTimeout (s : State) : State :=
  if s.hfr.field.isNone || s.hfr.flow.isSome || s.hfr.act.isSome || s.hfr.exch.isSome then s
  else (s.advance (1000 * Config.msTicks + s.hfr.lastAt)).fieldOff 1

/-- HFR_OVERCURRENT (R368): the driver of the port switches off until the next activation. -/
def hfrOvercurrent (port : Fin 2) (at_ : Nat) (s : State) : State :=
  let s := s.advance at_
  if s.hfr.field ≠ some port.val then s
  else ((s.put HFR_STATUS_OC 1).raise FID_HFR_OVERCURRENT).fieldOff 2

/-- A command or a fence ends what runs on a field (R383, R385): the flow, the activation and the exchange. -/
def State.hfrCut (s : State) (st cause : Nat) : State :=
  let s := s.flowBreak st cause
  let s := match s.hfr.act with | some a => s.actFail a st | none => s
  (s.exchEnd st []).fieldOff cause

/-- The next ping of these ports sets the baseline (R375, R391, R394). -/
def State.relearn (s : State) (mask : Nat) : State :=
  s.modHfr fun h => { h with relearn := (List.range 2).map fun p => h.relearn.getD p false || bitAt mask p == 1 }

/-- HFR_FIELD_OFF (R394). -/
def hfrFieldOff (m : Master) (p : List Byte) (s : State) : State :=
  hostCmd 0x94 m p [lenIs p 4, paramOk (u8 p 0 < 4 && u8 p 1 < 2 && zeroAt p 2 2)]
    (fun s =>
      let on := match s.hfr.field, s.hfr.act with
        | some q, _ => bitAt (u8 p 0) q == 1
        | none, some a => bitAt (u8 p 0) a.port == 1
        | none, none => false
      let s := if on then s.hfrCut BAD_STATE 0 else s
      (if u8 p 1 = 1 then s.relearn (u8 p 0) else s).ok) s

/-! ### Pings (R373 to R377) -/

/-- PERIOD_MS in low-power cycles. -/
def State.pingPeriod (s : State) : Nat := lpOfMs (s.get HFR_PING_CFG_PERIOD_MS)

/-- EN of port `p`. -/
def State.pingEn (s : State) (p : Nat) : Bool := s.flag (if p = 0 then HFR_PING_CFG_EN0 else HFR_PING_CFG_EN1)

/-- The grid starts when pinging is enabled (R373): port 1 lies half a period behind port 0. -/
def State.pingGrid (s : State) : State :=
  let t := s.time.lp + s.pingPeriod
  s.modHfr fun h => { h with pingLp := [t, t + s.pingPeriod / 2] }

/-- The grid of the port that does not lie at port `p`'s next step is set half a period from it (R373). -/
def State.pingAlign (s : State) (p : Nat) : State :=
  let t := s.hfr.pingLp.getD p 0
  s.modHfr fun h => { h with pingLp := h.pingLp.set (1 - p) (lpStepAfter (t + s.pingPeriod / 2) s.pingPeriod s.time.lp) }

/-- PING_CFG and PING_THR take new values (R373, R375, R391): a port that is enabled anew relearns, and its grid, or a new period's, is
set by the next step of port `p`, which pings already. -/
def State.pingApply (s : State) (p : Nat) (cfg thr : Word) : State :=
  let was := [s.pingEn 0, s.pingEn 1]
  let old := s.pingPeriod
  let s := (s.setReg HFR_PING_CFG.addr cfg).setReg HFR_PING_THR.addr thr
  let fresh (p : Nat) : Nat := bit01 (s.pingEn p && !was.getD p false) * 2 ^ p
  let s := s.relearn (fresh 0 + fresh 1)
  if !was.any id then s.pingGrid
  else if s.pingPeriod = old && fresh 0 + fresh 1 = 0 then s
  else s.pingAlign p

/-- The port whose grid stands where a configuration takes effect between two steps. -/
def State.pingLead (s : State) : Nat := bit01 !(s.pingEn 0)

/-- On the return from P4 pings resume at the next grid step (R377). -/
def State.pingResume (s : State) : State :=
  s.modHfr fun h => { h with pingLp := h.pingLp.map fun t => lpStepAfter t s.pingPeriod s.time.lp }

/-- HFR_PING_CONFIG (R391). -/
def hfrPingConfig (m : Master) (p : List Byte) (s : State) : State :=
  let cfg := u32 p 0
  let thr := u32 p 4
  hostCmd 0x91 m p
    [lenIs p 12, paramOk (bitsAt cfg 4 4 = 0 && within 100 1000 (bitsAt cfg 8 10) && bitsAt cfg 18 6 = 0
       && within 1 63 (bitsAt cfg 24 8) && within 1 1023 (bitsAt thr 0 16) && within 1 2048 (bitsAt thr 16 16) && u8 p 8 < 4
       && zeroAt p 9 3)]
    (fun s =>
      let s := s.relearn (u8 p 8)
      let c := BitVec.ofNat 32 cfg
      let t := BitVec.ofNat 32 thr
      if s.pingEn 0 || s.pingEn 1 then (s.modHfr fun h => { h with pend := some (c, t) }).ok else (s.pingApply 0 c t).ok) s

/-- PING_REFERENCE_START (R377): 150 µs before a ping in P2 or P3 the reference and the reader clock are started. -/
def pingReferenceStart (s : State) : State :=
  if s.pwr.st == .p2 || s.pwr.st == .p3 then s.modHfr fun h => { h with pingRef := true } else s

/-- A difference of phases folded to −2048 to 2047 (R374). -/
def phaseFold (a b : Nat) : Int := toSigned 12 ((4096 + a - b % 4096) % 4096)

/-- One sixteenth of a difference, rounded away from zero (R375). -/
def sixteenth (d : Int) : Int := if d < 0 then -((d.natAbs + 15) / 16 : Nat) else ((d.natAbs + 15) / 16 : Nat)

/-- Whether the present run of detecting pings of port `p` has been reported (R374). -/
def State.pingTold (s : State) (p : Nat) (b : Bool) : State := s.modHfr fun h => { h with told := h.told.set p b }

/-- The ping of port `p` sets the baseline (R375). -/
def State.pingLearn (s : State) (p amp phase : Nat) : State :=
  let s := ((s.put (HFR_PING_BASE_AMP p) amp).put (HFR_PING_BASE_PHASE p) phase).put (HFR_PING_BASE_VALID p) 1
  let s := s.modHfr fun h => { h with relearn := h.relearn.set p false }
  ((s.put (HFR_PING_MEAS_DET p) 0).put (HFR_PING_STATUS_RUN p) 0).pingTold p false

/-- The firmware activates with KEY on each HFR_DETECT (R389). -/
def State.pingDetected (s : State) (p : Nat) (dAmp dPh : Int) : State :=
  let s := (s.put (HFR_PING_STATUS_DETECTED p) 1).bump HFR_DETECTS
  let s := s.event EV_HFR_DETECT
    ([byte p] ++ le 2 (satSigned 16 dAmp) ++ le 2 (ofSigned 16 dPh) ++ [byte (s.get (HFR_PING_STATUS_RUN p))])
  let s := s.wakeSource 11 p true
  if s.flag HFR_TAP_CFG_AUTO_KEY then s.modHfr fun h => { h with auto := some p } else s

/-- The measurement of a ping is compared with the baseline (R374, R375). -/
def State.pingCompare (s : State) (p amp phase : Nat) : State :=
  let ba := s.get (HFR_PING_BASE_AMP p)
  let bp := s.get (HFR_PING_BASE_PHASE p)
  let dA : Int := (amp : Int) - ba
  let dP := phaseFold phase bp
  let hit := s.get HFR_PING_THR_AMP_THR * ba ≤ dA.natAbs * 1024 || s.get HFR_PING_THR_PH_THR ≤ dP.natAbs
  let s := s.putB (HFR_PING_MEAS_DET p) hit
  if hit then
    let run := s.get (HFR_PING_STATUS_RUN p) + 1
    let s := s.put (HFR_PING_STATUS_RUN p) (min run 7)
    if s.get HFR_PING_CFG_CONFIRM < run && !s.hfr.told.getD p false then (s.pingTold p true).pingDetected p dA dP else s
  else
    let s := (s.put (HFR_PING_STATUS_RUN p) 0).pingTold p false
    let s := s.put (HFR_PING_BASE_AMP p) ((ba : Int) + sixteenth dA).toNat
    s.put (HFR_PING_BASE_PHASE p) (ofSigned 12 ((bp : Int) + sixteenth dP))

/-- HFR_PING (R373 to R377, R391): the next grid step of port `port`; `amp` and `phase` are what it measures, `ext` whether an
external field is there. -/
def hfrPing (port : Fin 2) (amp : BitVec 16) (phase : BitVec 12) (ext : Bool) (s : State) : State :=
  let p := port.val
  let due := s.hfr.pingLp.getD p 0
  if s.pwr.st == .p4 || !s.pingEn p then s
  else
    let s := s.advanceLp due
    let s := match s.hfr.pend with
      | some (c, t) => (s.modHfr fun h => { h with pend := none }).pingApply p c t
      | none => s
    let s := s.modHfr fun h => { h with pingLp := h.pingLp.set p (lpStepAfter due s.pingPeriod s.time.lp), pingRef := false }
    if !s.pingEn p then s
    else if s.hfr.field.isSome || ext || s.fenced 13 || s.safeState || s.forcedMode 4 then
      (if ext then s.put HFR_STATUS_EXT_FIELD 1 else s).bump HFR_PING_SKIP
    else
      let s := s.bump HFR_PINGS
      let s := (s.put (HFR_PING_MEAS_AMP p) amp.toNat).put (HFR_PING_MEAS_PHASE p) phase.toNat
      if s.hfr.relearn.getD p false || !s.flag (HFR_PING_BASE_VALID p) then s.pingLearn p amp.toNat phase.toNat
      else s.pingCompare p amp.toNat phase.toNat

/-! ### Configuration, fence, the firmware -/

/-- HFR_CTRL.EN changes (R384, R590). -/
def State.hfrEnable (s : State) (en : Bool) : State := s.unitSwitch 13 en s.hfr.field.isSome

/-- HFR_CONFIG (R390): a change of a locked field returns ACCESS_DENIED (R11). -/
def hfrConfig (m : Master) (p : List Byte) (s : State) : State :=
  let port (i : Nat) : Bool := let w := u32 p (4 + 4 * i)
    bitsAt w 6 2 = 0 && within 8 14 (bitsAt w 8 8) && bitsAt w 16 16 < 8
  let t := u32 p 12
  hostCmd 0x90 m p
    [lenIs p 16, paramOk (u8 p 0 < 2 && zeroAt p 1 3 && port 0 && port 1 && within 2 100 (bitsAt t 0 8)
       && within 500 10000 (bitsAt t 8 16) && bitsAt t 24 8 < 2)]
    (fun s =>
      if s.flag HFR_CTRL_LOCK && (u32 p 4 ≠ s.get (HFR_PORT_CFG 0) || u32 p 8 ≠ s.get (HFR_PORT_CFG 1) || t ≠ s.get HFR_TAP_CFG) then
        s.ends ACCESS_DENIED
      else
        let q := s.hfr.field.isNone
        let s := (s.stage q 13 (HFR_PORT_CFG 0) (u32 p 4)).stage q 13 (HFR_PORT_CFG 1) (u32 p 8)
        let s := s.stage q 13 HFR_TAP_CFG t
        let en := u8 p 0 = 1
        let s := if en != s.flag HFR_CTRL_EN then (s.putB HFR_CTRL_EN en).hfrEnable en else s
        (s, OK, [byte (s.unit 13).code])) s

/-- A fence of HFR, or the safe state (R385). -/
def State.hfrStop (s : State) (st : Nat) : State := s.hfrCut st 3

/-- On release from a fence pings relearn the baseline (R385). -/
def State.hfrRelease (s : State) : State := s.relearn 3

/-- What the firmware does for HFR: a flow whose lookup has ended goes on, and AUTO_KEY activates (R380, R389). -/
def State.hfrFollow (s : State) : State :=
  let s := match s.hfr.flow, s.cred.found.find? (·.req.who == 2) with
    | some f, some r => if f.stage = 2 then s.tapFound f r else s
    | _, _ => s
  match s.hfr.auto with
  | none => s
  | some p =>
    if !s.awake || !s.pwr.fwRun then s
    else ((s.modHfr fun h => { h with auto := none }).hfrStart p 0 0 3 0 100).1

/-- HFR consents to an entry: no field is on (R384), nor the field check that precedes one under way (DEDUCED,
notes/assumptions/176.md). -/
def State.hfrIdle (s : State) : Bool := s.hfr.field.isNone && s.hfr.act.isNone

/-- What HFR loses at a reset. -/
def State.hfrReset (s : State) : State := s.modHfr fun _ => {}

end Sys2Proof.Machine
end

