-- ==== Sys2Proof/Machine/Qm.lean ====
section
/-!
DEFINITION. Machine/Qm.lean: the push and pop ports and the Q commands of QM (R442 to R463).
-/
namespace Sys2Proof.Machine

/-- Push port `p`. -/
def State.pushPort (s : State) (p : Nat) : PushPort := s.qm.push.getD p {}
/-- Push port `p` becomes `v`. -/
def State.setPushPort (s : State) (p : Nat) (v : PushPort) : State :=
  { s with qm := { s.qm with push := s.qm.push.set p v } }
/-- Pop port `p`. -/
def State.popPort (s : State) (p : Nat) : PopPort := s.qm.pop.getD p {}
/-- Pop port `p` becomes `v`. -/
def State.setPopPort (s : State) (p : Nat) (v : PopPort) : State :=
  { s with qm := { s.qm with pop := s.qm.pop.set p v } }

/-- The rights of master `m` on queue `q`: queues 1 and 2 are M0's alone (R439), M1 needs the queue's HOST right, every
other master that reaches a port may use it (R443). `k` is 0 for a push, 1 for a pop. -/
def State.queueRight (s : State) (m : Master) (q k : Nat) : Bool :=
  if q = 1 || q = 2 then m == .m0
  else if m == .m1 then (if k = 0 then s.flag (QM_Q_CFG_HOST_PUSH q) else s.flag (QM_Q_CFG_HOST_POP q))
  else true

/-- A BEGIN write that has reached push port `port` (R438, R443). -/
def pushBegin (m : Master) (port : Nat) (v : Word) (s : State) : State :=
  let p := s.pushPort port
  let q := bitsAt v.toNat 0 7
  let len := bitsAt v.toNat 8 13
  let st (s : State) (n : Nat) := s.setPushPort port { (s.pushPort port) with status := n }
  if s.fenced 15 then st s FENCED
  else if p.item.isSome then st s BAD_STATE
  else if len = 0 || 4096 < len then st s BAD_PARAM
  else if !s.queueRight m q 0 then st s ACCESS_DENIED
  else if !s.flag (QM_Q_CFG_EN q) then st s BAD_STATE
  else
    let packed := (s.packItem q (List.replicate len 0) 0x80).2.cells
    let cells := if packed = 0 then 0 else cellsOf len
    if s.beginRefused q cells then
      st (s.refuse q cells 0) QUEUE_FULL
    else
      let old := s.level q
      let it : OpenItem := { queue := q, len := len, data := [], cells := cells, src := 0x80 + m.num }
      (s.setPushPort port { item := some it, status := OK, bytes := 0 }).levelChanged q old

/-- A write of QM_PUSHp_BEGIN by master `m` (R438, R443). -/
def qmPushBegin (m : Master) (port : Fin 8) (v : Word) (s : State) : State :=
  s.onBus m (QM_PUSH_BEGIN port).addr 1 (pushBegin m port v)

/-- The configuration of queue `q` as Q_CONFIG gives it (R458), flushing it where EN is cleared (R448); fields that have been locked
since the command was accepted stand (R11). -/
def State.configQueue (s : State) (c : QueueCfg) : State :=
  let wasOn := s.flag (QM_Q_CFG_EN c.queue)
  let s := s.putFree (QM_Q_CFG c.queue) (bitsAt c.cfg 0 7)
  let s := s.putFree (QM_Q_LIMITS c.queue) (c.quota + 2 ^ 16 * c.ct)
  let s := s.put (QM_Q_WM c.queue) (c.high + 2 ^ 16 * c.low)
  if wasOn && !s.flag (QM_Q_CFG_EN c.queue) then
    let (s, items, cells, opens) := s.flushQueue c.queue ITEM_ABORTED
    s.flushedEvent c.queue 1 items cells opens
  else s

/-- The configurations that waited for queue `q` apply once no item addressed to it is open (R453). -/
def State.applyWaiting (s : State) (q : Nat) : State :=
  if 0 < s.openItems q then s
  else
    let (now, later) := s.qm.waiting.partition (·.queue == q)
    now.foldl State.configQueue { s with qm := { s.qm with waiting := later } }

/-- A write of QM_PUSHp_DATA: 4 bytes more; the write that reaches LEN_B commits the item (R443). -/
def pushData (port : Nat) (v : Word) (s : State) : State :=
  let p := s.pushPort port
  match p.item with
  | none => s
  | some o =>
    let data := (o.data ++ le 4 v.toNat).take o.len
    if data.length < o.len then
      s.setPushPort port { p with item := some { o with data := data }, bytes := data.length }
    else
      let old := s.level o.queue
      let s := s.setPushPort port { item := none, status := OK, bytes := o.len }
      let (l, it) := s.packItem o.queue data o.src
      let s := s.setQueue o.queue (l ++ [{ it with src := o.src }])
      (s.levelChanged o.queue old).applyWaiting o.queue

/-- A write of QM_PUSHp_DATA by master `m` (R443). -/
def qmPushData (m : Master) (port : Fin 8) (v : Word) (s : State) : State :=
  s.onBus m (QM_PUSH_DATA port).addr 1 (pushData port v)

/-- The bound item of a pop port is released and its cells returned (R444). -/
def State.releasePop (s : State) (port : Nat) : State :=
  s.setPopPort port { (s.popPort port) with item := none }

/-- A write of QM_POPc_SEL: the head item of the queue is bound to the port (R444). -/
def popSel (m : Master) (port : Nat) (q : BitVec 7) (s : State) : State :=
  let s := s.releasePop port
  let st (s : State) (n : Nat) := s.setPopPort port { status := n }
  if s.fenced 15 then st s FENCED
  else if !s.queueRight m q.toNat 1 then st s ACCESS_DENIED
  else
    match s.popItem q.toNat with
    | none => st s NOT_FOUND
    | some (it, s) =>
      s.setPopPort port { item := some it, status := OK, queue := q.toNat, len := it.bytes.length, src := it.src }

/-- A write of QM_POPc_SEL by master `m` (R444). -/
def qmPopSel (m : Master) (port : Fin 8) (q : BitVec 7) (s : State) : State :=
  s.onBus m (QM_POP_SEL port).addr 1 (popSel m port q)

/-- What reading a pool word of queue `q` with this ECC outcome counts and reports (R450). -/
def State.eccCount (s : State) (q : Nat) : Ecc → State
  | .clean => s
  | .corrected => (s.bump QM_ECC_TOTAL).bump (QM_Q_ECC q)
  | .uncorrectable => (s.bump QM_ECC_UNCORR).raise FID_QM_ECC_UNCORR q

/-- The word a read of QM_POPc_DATA returns (R444, R450). -/
def State.popWord (s : State) (port : Nat) (ecc : Ecc) : Nat :=
  let p := s.popPort port
  match p.item with
  | some it => if p.failed || ecc == .uncorrectable then 0 else u32 it.bytes p.pos
  | none => 0

/-- The pop port after a read of QM_POPc_DATA with this ECC outcome (R444, R450): the next 4 bytes are gone; an
uncorrectable word ends the item with INTEGRITY. -/
def popData (port : Nat) (ecc : Ecc) (s : State) : State :=
  let p := s.popPort port
  match p.item with
  | none => s
  | some it =>
    if it.bytes.length ≤ p.pos || p.failed then s
    else
      let s := s.eccCount p.queue ecc
      match ecc with
      | .clean => s.setPopPort port { p with pos := p.pos + 4 }
      | .corrected => s.setPopPort port { p with pos := p.pos + 4, item := some { it with flags := 1 } }
      | .uncorrectable => s.setPopPort port { p with pos := p.pos + 4, failed := true, status := INTEGRITY }

/-- A read of QM_POPc_DATA by master `m`, with ECC checking (R444, R450); a read that does not reach the port returns 0. -/
def qmPopData (m : Master) (port : Fin 8) (ecc : Ecc) (s : State) : State :=
  s.onRead m (QM_POP_DATA port).addr (s.popWord port ecc) (popData port ecc)

/-- A write of 1 to QM_POPc_DONE by master `m` (R444). -/
def qmPopDone (m : Master) (port : Fin 8) (s : State) : State :=
  s.onBus m (QM_POP_DONE port).addr 1 (State.releasePop · port)

/-- A parity error of the link memory at queue `q` (R450): QM_LINK, the queue flushed, its losses counted. -/
def qmLink (q : Fin 128) (at_ : Nat) (s : State) : State :=
  let s := (s.advance at_).raise FID_QM_LINK q
  let (s, items, cells, opens) := s.flushQueue q ITEM_ABORTED
  ((s.bump (QM_Q_DROPS q) items).flushedEvent q 2 items cells opens).applyWaiting q

/-- Q_CONFIG would change a field that QM_CTRL.LOCK has locked (R458, R11). -/
def State.qLockedChange (s : State) (q cfg quota ct : Nat) : Bool :=
  s.flag QM_CTRL_LOCK &&
    (bitsAt cfg 1 3 ≠ bitsAt (s.get (QM_Q_CFG q)) 1 3 || quota ≠ s.get (QM_Q_LIMITS_QUOTA q)
      || ct ≠ s.get (QM_Q_LIMITS_CT_THR q))

/-- Q_CONFIG (R458). -/
def qConfig (m : Master) (p : List Byte) (s : State) : State :=
  let q := u8 p 0
  let cfg := u8 p 1
  let quota := u16 p 4
  let ct := u8 p 6
  let high := u16 p 8
  let low := u16 p 10
  hostCmd 0xB0 m p
    [lenIs p 12, paramOk (q < 128), paramOk (cfg < 128), paramOk (zeroAt p 2 2 && zeroAt p 7 1),
     paramOk (within 1 8191 quota), paramOk (ct ≤ 64), paramOk (high ≤ 0x3FFF && low ≤ 0x3FFF),
     paramOk (high = 0 || low ≤ high)]
    (fun s =>
      if m != .m0 && (q = 1 || q = 2) then s.ends ACCESS_DENIED
      else if q = 0 && (bitAt cfg 0 = 0 || bitAt cfg 3 = 0) then s.ends BAD_PARAM
      else if s.qLockedChange q cfg quota ct then s.ends ACCESS_DENIED
      else
        let c : QueueCfg := { queue := q, cfg := cfg, quota := quota, ct := ct, high := high, low := low }
        let s := if 0 < s.openItems q && bitAt cfg 0 = 1 then
            { s with qm := { s.qm with waiting := s.qm.waiting ++ [c] } }
          else s.configQueue c
        (s, OK, le 2 (s.level q))) s

/-- Items popped for Q_POP: at most `n`, within `room` bytes, one ECC outcome per item; the count, the reply bytes, the
state, and whether an item failed (R459, R450). -/
def popMany (q : Nat) : Nat → Nat → List Ecc → State → Nat × List Byte × State × Bool
  | 0, _, _, s => (0, [], s, false)
  | n + 1, room, ecc, s =>
    match s.queue q with
    | [] => (0, [], s, false)
    | hd :: _ =>
      if room < hd.bytes.length + 4 then (0, [], s, false)
      else
        match s.popItem q with
        | none => (0, [], s, false)
        | some (it, s) =>
          let e := ecc.headD .clean
          let s := s.eccCount q e
          if e == .uncorrectable then (0, [], s, true)
          else
            let fl := if e == .corrected then 1 else it.flags
            let b := le 2 it.bytes.length ++ [byte it.src, byte fl] ++ it.bytes
            let (k, l, s, bad) := popMany q n (room - b.length) ecc.tail s
            (k + 1, b ++ l, s, bad)

/-- The restrictions of R439 and of the HOST rights on a Q command from `m`, and BAD_STATE for a queue with EN 0. -/
def State.qAccess (s : State) (m : Master) (q k : Nat) : Option Nat :=
  if !s.queueRight m q k then some ACCESS_DENIED
  else if !s.flag (QM_Q_CFG_EN q) then some BAD_STATE else none

/-- Q_POP (R459), with the ECC outcome of each item read. -/
def qPop (m : Master) (p : List Byte) (ecc : List Ecc) (s : State) : State :=
  let q := u8 p 0
  hostCmd 0xB1 m p
    [lenIs p 4, paramOk (q < 128), paramOk (within 1 16 (u8 p 1)), paramOk (within 4100 32800 (u16 p 2))]
    (fun s =>
      match s.qAccess m q 1 with
      | some st => s.ends st
      | none =>
        let (k, b, s, bad) := popMany q (u8 p 1) (min (u16 p 2) 32799) ecc s
        (s, if bad then INTEGRITY else OK, byte k :: b)) s

/-- Q_PUSH (R460). -/
def qPush (m : Master) (p : List Byte) (s : State) : State :=
  let q := u8 p 0
  hostCmd 0xB2 m p
    [(within 5 4100 p.length, BAD_LENGTH), paramOk (q < 128), paramOk (zeroAt p 1 3)]
    (fun s =>
      match s.qAccess m q 0 with
      | some st => s.ends st
      | none =>
        let b := p.drop 4
        let (l, it) := s.packItem q b (0x80 + m.num)
        if s.beginRefused q it.cells then
          (s.refuse q it.cells (u16 b 8)).ends QUEUE_FULL
        else
          let old := s.level q
          ((s.setQueue q (l ++ [it])).levelChanged q old).ok) s

/-- Q_FLUSH (R461). -/
def qFlush (m : Master) (p : List Byte) (s : State) : State :=
  let q := u8 p 0
  hostCmd 0xB3 m p [lenIs p 4, paramOk (q < 128), paramOk (zeroAt p 1 3)]
    (fun s =>
      if m != .m0 && (q = 1 || q = 2) then s.ends ACCESS_DENIED
      else if !s.flag (QM_Q_CFG_EN q) then s.ends BAD_STATE
      else
        let (s, items, cells, opens) := s.flushQueue q ITEM_ABORTED
        ((s.flushedEvent q 0 items cells opens).applyWaiting q, OK, le 2 items ++ le 2 cells ++ [byte opens])) s

/-- The QM_Qn_LEVEL image (R457). -/
def State.levelWord (s : State) (q : Nat) : Nat := s.level q + 2 ^ 16 * (s.queue q).length

/-- The QM_Qn_STATUS image (R457). -/
def State.qStatusWord (s : State) (q : Nat) : Nat :=
  s.get (QM_Q_STATUS_HWF q) + 2 * s.get (QM_Q_STATUS_LWF q) + 4 * bit01 (0 < s.openItems q)
    + 8 * bit01 (s.get (QM_Q_WM_HIGH q) < s.level q) + 16 * s.get (QM_Q_STATUS_OVF q)

/-- Open push items and bound pop items of all ports. -/
def State.openCount (s : State) : Nat := (s.qm.push.filter (·.item.isSome)).length
/-- Items bound to pop ports. -/
def State.boundCount (s : State) : Nat := (s.qm.pop.filter (·.item.isSome)).length

/-- Q_STATUS (R462). -/
def qStatus (m : Master) (p : List Byte) (s : State) : State :=
  let q := u8 p 0
  hostCmd 0xB4 m p [lenIs p 1, paramOk (q < 128 || q = 0xFF)]
    (fun s =>
      if q = 0xFF then
        (s, OK, le 2 s.freeCells ++ [byte s.openCount, byte s.boundCount] ++ le 4 (s.get QM_ECC_TOTAL)
          ++ le 4 (s.get QM_ECC_UNCORR) ++ le 4 (s.get QM_POOL_EMPTY))
      else
        (s, OK, leWords [s.get (QM_Q_CFG q), s.get (QM_Q_LIMITS q), s.get (QM_Q_WM q), s.levelWord q, s.qStatusWord q,
          s.get (QM_Q_XCNT q), s.get (QM_Q_DROPS q)])) s

/-- Q_WATERMARK (R463). -/
def qWatermark (m : Master) (p : List Byte) (s : State) : State :=
  let q := u8 p 0
  let fl := u8 p 1
  let high := u16 p 4
  let low := u16 p 6
  hostCmd 0xB5 m p
    [lenIs p 8, paramOk (q < 128), paramOk (fl < 8), paramOk (zeroAt p 2 2),
     paramOk (bitAt fl 0 = 0 || (high ≤ 0x3FFF && low ≤ 0x3FFF && (high = 0 || low ≤ high)))]
    (fun s =>
      if m != .m0 && (q = 1 || q = 2) then s.ends ACCESS_DENIED
      else if !s.flag (QM_Q_CFG_EN q) then s.ends BAD_STATE
      else
        let d := [byte (s.qStatusWord q), 0] ++ le 2 (s.level q) ++ le 2 (s.get (QM_Q_XCNT_HCROSS q))
          ++ le 2 (s.get (QM_Q_XCNT_LCROSS q))
        let s := if bitAt fl 0 = 1 then s.put (QM_Q_WM q) (high + 2 ^ 16 * low) else s
        let s := if bitAt fl 1 = 1 then (s.put (QM_Q_STATUS_HWF q) 0).put (QM_Q_STATUS_LWF q) 0 else s
        let s := if bitAt fl 2 = 1 then s.put (QM_Q_XCNT q) 0 else s
        (s, OK, d)) s

end Sys2Proof.Machine
end

