-- ==== Sys2Proof/Machine/RegRules.lean ====
section
/-!
DEFINITION. Machine/RegRules.lean: what a write does to the fields of a register word: access codes, ranges, locks and
reserved bits (R8 to R11), the registers a configuration image may address (R526, R577), and the rule of R546 and R553 for a
source's reaction.
-/
namespace Sys2Proof.Machine

/-- A source of FLT whose configuration is fixed (R546, R567). -/
def fixedSource (b o : Nat) : Bool :=
  b = 17 && 0x1000 ≤ o && (match sourceRow (fidAt o) with | some r => r.fixed == 1 | none => false)

/-- A field as R9 lets a write act on it: `none` where it keeps its value, else its new value. -/
def FieldRow.written (f : FieldRow) (locked : Bool) (old v : Nat) : Option Nat :=
  let n := bitsAt v f.lsb f.width
  match f.acc with
  | .rw => some (clampNat f.lo f.hi n)
  | .rwl => if locked then none else some (clampNat f.lo f.hi n)
  | .w1c => some (bitsAt old f.lsb f.width &&& ((2 ^ f.width - 1) ^^^ n))
  | _ => none

/-- A word with the fields of a write (R9, R10, R11): locked, read-only and reserved bits keep their values. -/
def writeFields (fs : List FieldRow) (locked : Bool) (old v : Nat) : Nat :=
  fs.foldl (fun w f =>
    match f.written locked old v with
    | some n => w - bitsAt w f.lsb f.width * 2 ^ f.lsb + n * 2 ^ f.lsb
    | none => w) old

/-- The write would change a locked RWL field (R11). -/
def changesLocked (fs : List FieldRow) (old v : Nat) : Bool :=
  fs.any fun f => f.acc == .rwl && clampNat f.lo f.hi (bitsAt v f.lsb f.width) ≠ bitsAt old f.lsb f.width

/-! ### Reactions of a source (R546, R553) -/

/-- Degraded mode `m` may be forced by source `fid` (R553). -/
def modeOk (fid m : Nat) : Bool :=
  let b := fid / 256
  match m with
  | 0 => fid == FID_URX_ADC_A || fid == FID_URX_ADC_B
  | 1 => [5, 6, 7, 20].contains b || fid == FID_SYS_VRF18
  | 2 => b == 9 || b == 16 || fid == FID_SYS_VDDF
  | 3 => b == 4
  | 4 => b == 13
  | 5 => b == 2
  | _ => false

/-- SEV_REACT `r` with DEG_MODE `m` is permitted for the source `fid` (R546, R553): FENCE_UNIT for a unit only. -/
def reactOk (fid r m : Nat) : Bool :=
  match r with
  | 0 | 3 | 4 => true
  | 1 => isUnit (fid / 256)
  | 2 => modeOk fid m
  | _ => false

/-! ### Configuration images (R526, R577) -/

/-- The row has a field that a write can set. -/
def writable (b o : Nat) : Bool := (regFields b o).any fun f => f.acc == .rw || f.acc == .rwl

/-- The row has a field under a lock. -/
def hasLocked (b o : Nat) : Bool := (regFields b o).any fun f => f.acc == .rwl

/-- The offset of a register. -/
def offOf (f : Field) : Nat := f.addr % 0x10000

/-- The TIME registers of the image (R526). -/
def timeImage : List Nat :=
  [TIME_CTRL, TIME_REF_CFG, TIME_SERVO_CFG, TIME_EXT_DLY_A, TIME_EXT_DLY_B, TIME_LP_CFG, TIME_CAL_CFG].map offOf

/-- Offset `o` of block `b` is kept in the register image (R526). -/
def imageReg (b o : Nat) : Bool :=
  listedOffset b o &&
    match b with
    | 2 => timeImage.contains o
    | 3 => [TMR_CH_CTRL 0, TMR_CH_TRIG 0, TMR_CH_PSC 0, TMR_CH_TOP 0, TMR_CH_CMP 0].any fun f => o % 0x40 == offOf f
    | 4 => hasLocked b o || [LF_CTRL, LF_CARRIER, LF_TEL_CFG, LF_TEL_PAT].any (fun f => offOf f == o)
             || (List.range 12).any fun n => o == offOf (LF_CH_CTRL n) || o == offOf (LF_CH_ILIM n)
    | 5 | 6 | 7 | 8 | 10 | 13 | 14 | 19 | 20 => writable b o
    | 9 => o == offOf CRED_CTRL || o == offOf CRED_AUTH_CFG
    | 11 => o == offOf AES_CTRL
    | 12 => o == offOf TRNG_CTRL
    | 21 => o == offOf CNT_CTRL
    | 15 => o == offOf QM_CTRL || (0x1000 ≤ o && writable b o)
    | 16 => [HIF_CTRL, HIF_IRQ_EN, HIF_SIDE_CFG, HIF_CMD_TO].any fun f => offOf f == o
    | 17 => o == offOf FLT_CTRL || (0x1000 ≤ o && o % 0x10 < 8)
    | 1 | 22 => hasLocked b o
    | _ => false

/-- A configuration image may address offset `o` of block `b` (R577). -/
def cfgReg (b o : Nat) : Bool := imageReg b o || (b = 0 && o == offOf SYS_UPD_CFG)

/-- Bits of a word that no field covers. -/
def reservedBits (fs : List FieldRow) (v : Nat) : Bool :=
  writeFields (fs.map fun f => { f with acc := .rw, lo := 0, hi := 2 ^ f.width - 1 }) false 0 v ≠ v % 2 ^ 32

/-- A word of an image holds only permitted values at offset `o` of block `b` (R577). -/
def cfgWordOk (b o v : Nat) : Bool :=
  let fs := regFields b o
  !reservedBits fs v
    && fs.all (fun f => !(f.acc == .rw || f.acc == .rwl) || within f.lo f.hi (bitsAt v f.lsb f.width))
    && !(b = 17 && 0x1000 ≤ o && o % 0x10 = 0 && (bitsAt v 24 2 = 3 || 4 < bitsAt v 28 3))
    && !(b = 17 && 0x1000 ≤ o && o % 0x10 = 4 && 5 < bitsAt v 0 3)

end Sys2Proof.Machine
end

