-- ==== Sys2Proof/Machine/Vlt.lean ====
section
/-!
DEFINITION. Machine/Vlt.lean: the VLT block: the wired port of the vault, its commands and its streams (R419 to R434), and
the commit of page writes from either side (R403).
-/
namespace Sys2Proof.Machine

/-! ### Jobs of the wired port (R420) -/

/-- The unit is ON and the vault runs from MAIN. -/
def State.vltOpen (s : State) : Bool := s.unitOn 14 && s.vpwr == 2 && s.awake

/-- The opcode that a job answers. -/
def VltKind.op : VltKind → Nat
  | .read | .stream => 0xA0
  | .write _ => 0xA1
  | .power _ _ | .key _ _ _ | .time | .logAppend _ _ => 0xA2
  | .arm _ _ _ _ => 0xA4
  | .lastTime => 0

/-- The status and data of a job that ends with `st` (R430 to R434): VLT_WRITE and VLT_CONFIG carry it in their data. -/
def VltJob.reply (j : VltJob) (tseq st : Nat) : Nat × List Byte :=
  match j.kind with
  | .read => (st, if st = OK then j.buf else [])
  | .write _ => (OK, [byte j.done, byte st] ++ leWords (j.seqs ++ List.replicate (j.n - j.seqs.length) 0))
  | .arm on _ _ _ => (st, if st = OK then [byte (bit01 on), 0] ++ le 4 tseq else [])
  | _ => (OK, [byte st])

/-- Job `i` leaves the list. -/
def State.dropJob (s : State) (i : Nat) : State := s.modVlt fun t => { t with jobs := t.jobs.eraseIdx i }

/-- A job joins the list; VLT withdraws its consent (R425). -/
def State.addJob (s : State) (j : VltJob) : State := (s.modVlt fun t => { t with jobs := t.jobs ++ [j] }).withdraw 14

/-- Job `i` ends with `st` and answers. The periodic writes of LAST_TIME answer nobody, and a stream ends by its END item. -/
def State.endJob (s : State) (i st : Nat) : State :=
  match s.vlt.jobs[i]? with
  | none => s
  | some j =>
    let s := s.dropJob i
    let (rs, d) := j.reply s.vlt.logic.lastTseq st
    match j.kind with
    | .lastTime => s
    | .stream => s.modVlt fun t => { t with stream := t.stream.map fun x => { x with phase := 3, status := st, since := s.time.now } }
    | _ => s.answer j.master j.kind.op j.ctx rs d

/-- The next operation of a job waits for the memory: a page write of its own is not in progress, and a stream is reading. -/
def State.jobWaits (s : State) (j : VltJob) : Bool :=
  !j.running && (j.kind != .stream || (match s.vlt.stream with | some x => x.phase == 1 | none => false))

/-- The waiting jobs, by index. -/
def State.waitingJobs (s : State) : List Nat :=
  (List.range s.vlt.jobs.length).filter fun i => match s.vlt.jobs[i]? with | some j => s.jobWaits j | none => false

/-- Job `i` comes from M6. -/
def State.jobM6 (s : State) (i : Nat) : Bool := match s.vlt.jobs[i]? with | some j => j.master == .m6 | none => false

/-- The job granted next: M0 and M6 in turn (R420), else the oldest. -/
def State.nextJob (s : State) : Option Nat :=
  match s.waitingJobs.find? fun i => s.jobM6 i != s.vlt.lastM6 with
  | some i => some i
  | none => s.waitingJobs.head?

/-- Neither side holds the memory, and the field side does not wait for it. -/
def State.vaultFree (s : State) : Bool := s.vlt.write.isNone && s.vlt.req.isNone && s.vlt.own.isEmpty

/-! ### Reading (R422, R423) -/

/-- The 28 bytes of log record place `i`, 0 to 511 (R422). -/
def State.logRec (s : State) (i : Nat) : List Byte :=
  match s.pageRead (8 + i / 2) with
  | some (d, _) => (d.drop (28 * (i % 2))).take 28
  | none => []

/-- The tag of the record at place `i` is right (R422): that of the oldest record of a full ring cannot be checked, since the
record before it is gone. -/
def State.logTagOk (s : State) (i : Nat) : Bool × State :=
  let b := s.logRec i
  let n := u32 b 0
  if b.all (· == 0xFF) || s.vlt.lseq ≥ n + 511 then (true, s)
  else
    let prev := if n = 1 then firstTag else (s.logRec ((i + 511) % 512)).drop 24
    match s.vaultKey 8 with
    | some k => ((cmac k.2 (prev ++ b.take 24)).take 4 == b.drop 24, s)
    | none => s.freshBool

/-- The tags of these places are all right. -/
def State.logTagsOk (s : State) : List Nat → Bool × State
  | [] => (true, s)
  | i :: l => let (a, s) := s.logTagOk i; let (b, s) := s.logTagsOk l; (a && b, s)

/-- One page of a read (R423): its data and SEQ where it and, in LOG, its tags are right; with the first page of a range goes
the record before it. -/
def State.checkPage (s : State) (p : Nat) (start : Bool) : Option (List Byte) × State :=
  match s.pageRead p with
  | none => (none, s)
  | some (d, seq) =>
    let i := 2 * (p - 8)
    let places := if 263 < p then [] else (if start then [(i + 511) % 512] else []) ++ [i, i + 1]
    let (ok, s) := s.logTagsOk places
    (if ok then some (d ++ le 4 seq) else none, s)

/-- A wired read ends with INTEGRITY (R423, R424). -/
def State.integFail (s : State) : State := (s.bump VLT_INTEG_FAILS).raise FID_VLT_INTEGRITY

/-- The stream as `f` makes it. -/
def State.modStream (s : State) (f : VltStream → VltStream) : State :=
  s.modVlt fun t => { t with stream := t.stream.map f }

/-- Job `i` as `f` makes it. -/
def State.modJob (s : State) (i : Nat) (f : VltJob → VltJob) : State := s.modVlt fun t => { t with jobs := t.jobs.modify i f }

/-- One page read of a stream (R423): the item is ready once 8 pages or the last are checked. -/
def State.streamRead (s : State) (i : Nat) (x : VltStream) : State :=
  let p := x.unit_ + x.pages
  match s.checkPage p (p == x.first) with
  | (none, s) =>
    let s := s.integFail.modStream fun y => { y with bad := p, buf := [] }
    s.endJob i INTEGRITY
  | (some b, s) =>
    let full := x.pages + 1 = 8 || p + 1 = x.first + x.n
    s.modStream fun y => { y with pages := x.pages + 1, buf := x.buf ++ b, phase := if full then 2 else 1, since := s.time.now }

/-- One operation of job `i` (R420). -/
def State.runJob (s : State) (i : Nat) (j : VltJob) : State :=
  let s := (s.modJob i fun j => { j with since := s.time.now }).modVlt fun t => { t with lastM6 := j.master == .m6 }
  let begin (r : State × Nat) : State :=
    if r.2 = OK then r.1.modJob i fun j => { j with running := true } else r.1.endJob i r.2
  let l := s.vlt.logic
  let p := j.first + j.done
  match j.kind with
  | .read =>
    match s.checkPage p (j.done == 0) with
    | (none, s) => s.integFail.endJob i INTEGRITY
    | (some b, s) =>
      let s := s.modJob i fun j => { j with buf := j.buf ++ b, done := j.done + 1 }
      if j.done + 1 = j.n then s.endJob i OK else s
  | .stream => match s.vlt.stream with | some x => s.streamRead i x | none => s.dropJob i
  | .write expect =>
    let b := (j.buf.drop (60 * j.done)).take 60
    if expect && u32 b 0 ≠ imageSeq (s.pageImg p) then s.endJob i BAD_STATE else begin (s.startWrite p (b.drop 4) 0)
  | .power pwr fd => begin (s.startWrite 2 (powerPage pwr fd) 0)
  | .key k rights key => begin (s.startWrite (481 + k) (keyPage rights key) 0)
  | .time | .lastTime => begin (s.startWrite 1 (timePage (s.time.ref / 2 ^ 42 % 2 ^ 32)) 0)
  | .logAppend ev d => begin (s.startLog ev 0x00 d 0)
  | .arm on pulse vmin floor => begin (s.startWrite 0 (relPage on pulse vmin (max l.lastTseq floor)) 0)

/-- WIRED_OPERATION_GRANT (R420): the wired port gets the memory for one operation. -/
def wiredOperationGrant (v : VaultMeas) (at_ : Nat) (s : State) : State :=
  if !s.vltOpen || !s.vlt.ready || !s.vaultFree then s
  else
    match s.nextJob with
    | none => s
    | some i =>
      let s := (s.advance at_).setMeas v
      match s.vlt.jobs[i]? with
      | some j => s.runJob i j
      | none => s

/-- VAULT_BUSY_TIMEOUT (R420): a wired request has lost arbitration for 2 ms. -/
def vaultBusyTimeout (s : State) : State :=
  if s.vaultFree && s.vlt.ready then s
  else
    match s.waitingJobs.head? with
    | none => s
    | some i =>
      match s.vlt.jobs[i]? with
      | none => s
      | some j => (((s.advance (2 * Config.msTicks + j.since)).bump VLT_BUSY_CNT).raise FID_VLT_PORT).endJob i VAULT_BUSY

/-! ### The commit of a page write (R403) -/

/-- VLT_WRITE_DONE (R427). -/
def State.writeDone (s : State) (src page seq : Nat) : State :=
  s.vaultEvent EV_VLT_WRITE_DONE ([byte src] ++ le 2 page ++ le 4 seq ++ [byte OK])

/-- The job whose page write has ended with `st` goes on (R431 to R434). -/
def State.jobWritten (s : State) (w : PageWrite) (st : Nat) : State :=
  match s.vlt.jobs.findIdx? (·.running) with
  | none => s
  | some i =>
    let s := s.modJob i fun j => { j with running := false, since := s.time.now }
    let s := if st = OK then s.bump VLT_WRITES else s
    match s.vlt.jobs[i]? with
    | none => s
    | some j =>
      if st ≠ OK then s.endJob i st
      else
        let s := s.modJob i fun j => { j with done := j.done + 1, seqs := j.seqs ++ [w.seq] }
        match j.kind with
        | .write _ =>
          let s := s.writeDone 0x00 w.page w.seq
          if j.done + 1 = j.n then s.endJob i OK else s
        | .power pwr fd => ((s.put VLT_PWR_CFG pwr).put VLT_FD_CFG fd).endJob i OK
        | _ => s.endJob i OK

/-- What the end of steps 2 and 3 completes (R403): `st` is OK, or INTEGRITY where the verify failed. The failure count goes on in the
logic while its write is under way, and is not read back from it. -/
def State.writeEnded (s : State) (w : PageWrite) (st : Nat) : State :=
  let s := if st = OK then s.logDone w else s
  let s := if st = OK && w.owner != 4 then s.reload w.page else s
  match w.owner with
  | 0 => s.jobWritten w st
  | 1 =>
    let s := if st = OK then s.writeDone 0x04 w.page w.seq else s
    if s.vlt.session then s.secureAnswer st (if st = OK then le 4 w.seq else []) else s
  | 2 => if st = OK then s.ticketFire else if s.vlt.session then s.secureAnswer st [] else s
  | _ => s

/-- PAGE_WRITE_COMMITTED (R403): steps 2 and 3 have completed. Where the verify fails VLT_NV is reported, the slot is retired
and the page is as it was. -/
def pageWriteCommitted (verified : Bool) (v : VaultMeas) (s : State) : State :=
  match s.vlt.write with
  | none => s
  | some w =>
    if w.stage ≠ 1 then s
    else
      let s := (s.advance (w.at_ + w.commitTicks)).setMeas v
      if verified then
        let s := (s.nvSteps w.shadowSteps).modVlt fun t => { t with write := some { w with stage := 4, at_ := s.time.now } }
        s.writeEnded w OK
      else
        let s := (s.nvWrite (slotAddr w.slot) (List.replicate 128 0xFF)).nvStep (retireStep w.slot)
        let s := (s.modVlt fun t => { t with write := none }).vaultFaultLog FID_VLT_NV
        (s.writeEnded w INTEGRITY).vaultNext

/-- PAGE_WRITE_COPY_DONE (R403): steps 4 and 5 have completed. Where the verify fails VLT_NV is reported and the shadow stands
unretired over a home page of free bytes. -/
def pageWriteCopyDone (verified : Bool) (v : VaultMeas) (s : State) : State :=
  match s.vlt.write with
  | none => s
  | some w =>
    if w.stage ≠ 4 then s
    else
      let s := (s.advance (w.at_ + copyTicks)).setMeas v
      let s := s.modVlt fun t => { t with write := none }
      let s := if verified then s.nvSteps (copySteps w.page w.slot (pageImage w.data w.seq))
        else let (b, s) := s.freshBytes 64; (s.nvWrite (pageAddr w.page) b).vaultFaultLog FID_VLT_NV
      s.vaultNext

/-! ### Commands (R430 to R434) -/

/-- What bars every VLT command but VLT_STATUS once its parameters are good (R425, R430, R596). -/
def State.vltBars (s : State) : Bool := s.sys.role ≠ 0 || !s.vltOpen

/-- VLT_READ (R423, R430). -/
def vltRead (m : Master) (p : List Byte) (s : State) : State :=
  let f := u16 p 0
  let n := u16 p 2
  let q := u8 p 4
  hostCmdLater 0xA0 m p
    [lenIs p 8, paramOk (within 8 447 f && within 1 440 n && f + n ≤ 448 && q < 128 && zeroAt p 5 3)]
    (fun c s =>
      if s.vltBars then (s, some (BAD_STATE, []))
      else if n ≤ 4 then
        (s.addJob { kind := .read, master := m, ctx := c, first := f, n := n, since := s.time.now }, none)
      else if s.vlt.stream.isSome then (s, some (BUSY, []))
      else
        let x : VltStream := { id := s.vlt.streamId, first := f, n := n, queue := q, unit_ := f, since := s.time.now }
        let s := s.addJob { kind := .stream, master := m, first := f, n := n, since := s.time.now }
        (s.modVlt fun t => { t with stream := some x, streamId := (t.streamId + 1) % 0x10000 },
          some (ACCEPTED, le 2 x.id))) s

/-- VLT_WRITE (R421, R431). -/
def vltWrite (m : Master) (p : List Byte) (s : State) : State :=
  let f := u16 p 0
  let n := u8 p 2
  hostCmdLater 0xA1 m p
    [(m != .m1 || s.flag VLT_CTRL_HOST_WR, ACCESS_DENIED), (4 ≤ p.length, BAD_LENGTH),
     paramOk (within 264 447 f && within 1 4 n && f + n ≤ 448 && u8 p 3 < 2), lenIs p (4 + 60 * n)]
    (fun c s =>
      if s.vltBars then (s, some (BAD_STATE, []))
      else
        (s.addJob { kind := .write (u8 p 3 == 1), master := m, ctx := c, first := f, n := n, buf := p.drop 4,
                    since := s.time.now }, none)) s

/-- The lengths of VLT_CONFIG (R432). -/
def vltConfigLen : Nat → Nat
  | 0 => 12 | 1 => 28 | 2 => 4 | _ => 16

/-- The parameters of VLT_CONFIG have permitted values (R432, R429). -/
def vltConfigOk (p : List Byte) : Bool :=
  let w := u32 p 4
  let f := u32 p 8
  match u8 p 0 with
  | 0 => zeroAt p 1 3 && within 30 470 (bitsAt w 0 9) && bitsAt w 9 3 = 0 && within 1 10 (bitsAt w 12 4) && bitsAt w 17 15 = 0
           && within 1 255 (bitsAt f 0 8) && bitsAt f 9 23 = 0
  | 1 => u8 p 1 < 10 && u8 p 2 < 16 && (u8 p 1 < 8 || u8 p 2 = 0) && u8 p 3 = 0
  | 2 => zeroAt p 1 3
  | _ => u8 p 1 = 0 && 0xF000 ≤ u16 p 2

/-- VLT_CONFIG (R11, R432). -/
def vltConfig (m : Master) (p : List Byte) (s : State) : State :=
  let k := u8 p 0
  let go (c : Option ReqCtx) (kind : VltKind) (s : State) : State × Option (Nat × List Byte) :=
    (s.addJob { kind := kind, master := m, ctx := c, since := s.time.now }, none)
  hostCmdLater 0xA2 m p
    [(m == .m0, ACCESS_DENIED), (1 ≤ p.length, BAD_LENGTH), paramOk (k < 4), lenIs p (vltConfigLen k), paramOk (vltConfigOk p)]
    (fun c s =>
      if s.vltBars then (s, some (BAD_STATE, []))
      else if k = 0 then
        if s.flag VLT_CTRL_LOCK && (u32 p 4 ≠ s.get VLT_PWR_CFG || u32 p 8 ≠ s.get VLT_FD_CFG) then (s, some (ACCESS_DENIED, []))
        else go c (.power (u32 p 4) (u32 p 8)) s
      else if k = 1 then
        match kwUnwrap ((List.range 16).map Config.vaultKey) (p.drop 4) with
        | none => (s, some (UNWRAP, []))
        | some key => go c (.key (u8 p 1) (u8 p 2) key) s
      else if k = 2 then go c .time s
      else go c (.logAppend (u16 p 2) (p.drop 4)) s) s

/-- VLT_STATUS (R433). -/
def vltStatus (m : Master) (p : List Byte) (s : State) : State :=
  hostCmd 0xA3 m p [lenIs p 0]
    (fun s =>
      if !s.unitOn 14 then s.ends BAD_STATE
      else
        let v := s.vlt
        let d := [byte s.vpwr, byte v.proto, byte v.field, byte (bit01 v.logic.armed)] ++ le 2 v.vh ++ le 2 v.vrstore
          ++ le 4 v.logic.lastTseq ++ le 4 v.logic.lastTime ++ le 2 v.logic.fails ++ le 4 v.lseq
          ++ le 2 (satNat 16 v.sessions) ++ le 2 (satNat 16 v.fired) ++ le 2 (satNat 16 v.recovered) ++ vaultIdBytes
        (s.modVlt fun t => { t with sessions := 0, fired := 0, recovered := 0 }, OK, d)) s

/-- VLT_REL_ARM (R434). -/
def vltRelArm (m : Master) (p : List Byte) (s : State) : State :=
  hostCmdLater 0xA4 m p
    [(m == .m0, ACCESS_DENIED), lenIs p 8,
     paramOk (u8 p 0 < 2 && within 1 20 (u8 p 1) && within 30 55 (u8 p 2) && u8 p 3 = 0)]
    (fun c s =>
      if s.vltBars then (s, some (BAD_STATE, []))
      else
        let k : VltKind := .arm (u8 p 0 == 1) (u8 p 1) (u8 p 2) (u32 p 4)
        (s.addJob { kind := k, master := m, ctx := c, since := s.time.now }, none)) s

/-! ### Streams (R423, R424) -/

/-- The VLT_STREAM record (R427). -/
def State.streamRecord (s : State) (x : VltStream) (phase first n : Nat) : List Byte :=
  mkRecord s.stamp EV_VLT_STREAM 0x0E s.quality (s.cfgEpoch 14)
    (le 2 x.id ++ [byte phase, byte x.status] ++ le 2 first ++ le 2 n ++ le 2 x.bad)

/-- The item that waits for its queue, and the stream once it is written (R423). -/
def State.streamItem (s : State) (x : VltStream) : Option (List Byte × Option VltStream) :=
  let now := s.time.now
  match x.phase with
  | 0 => some (s.streamRecord x 0 x.first x.n, some { x with phase := 1 })
  | 2 =>
    let fin := x.unit_ + x.pages = x.first + x.n
    some (s.streamRecord x 1 x.unit_ x.pages ++ padTo 480 x.buf,
      some { x with phase := if fin then 3 else 1, unit_ := x.unit_ + x.pages, pages := 0, buf := [], since := now })
  | 3 => some (s.streamRecord x 2 x.first x.n, none)
  | _ => none

/-- The job that reads for the stream waits from now, or is over. -/
def State.streamJob (s : State) : State :=
  match s.vlt.stream with
  | some x =>
    if x.phase < 3 then
      s.modVlt fun t => { t with jobs := t.jobs.map fun j => if j.kind == .stream then { j with since := s.time.now } else j }
    else s.modVlt fun t => { t with jobs := t.jobs.filter (·.kind != .stream) }
  | none => s.modVlt fun t => { t with jobs := t.jobs.filter (·.kind != .stream) }

/-- VLT_STREAM_ITEM (R423): the item goes into its queue once there is room. -/
def vltStreamItem (s : State) : State :=
  match s.vlt.stream with
  | none => s
  | some x =>
    if !s.unitOn 14 || !s.awake then s
    else
      match s.streamItem x with
      | none => s
      | some (b, next) =>
        match s.pushItem x.queue b 0x0E with
        | none => s
        | some s => (s.modVlt fun t => { t with stream := next }).streamJob

/-- VLT_STREAM_TIMEOUT (R424): an item has waited 1 s. A stream whose END finds no room either ends without it. -/
def vltStreamTimeout (s : State) : State :=
  match s.vlt.stream with
  | none => s
  | some x =>
    if x.phase = 1 || !s.awake then s
    else
      let s := s.advance (Config.sTicks + x.since)
      let next : Option VltStream := if x.phase = 3 then none
        else some { x with phase := 3, status := QUEUE_FULL, buf := [], since := s.time.now }
      (s.modVlt fun t => { t with stream := next }).streamJob

/-! ### LAST_TIME, fence, configuration -/

/-- LAST_TIME_WRITE (R419): every 24 h in MAIN while the servo is LOCKED. -/
def lastTimeWrite (s : State) : State :=
  if !s.vltOpen || s.fenced 14 || s.time.servo != .locked then s
  else
    let s := s.advance (86400 * Config.sTicks + s.vlt.timeAt)
    (s.modVlt fun t => { t with timeAt := s.time.now }).addJob { kind := .lastTime, master := .m0, since := s.time.now }

/-- What VLT does for the rest of the device: LAST_TIME is written at each REL_END (R419). -/
def State.vltFollow (s : State) : State :=
  if !s.rel.ended then s
  else
    let s := { s with rel := { s.rel with ended := false } }
    if s.vltOpen then s.addJob { kind := .lastTime, master := .m0, since := s.time.now } else s

/-- No wired operation and no stream is in progress (R425). -/
def State.vltIdle (s : State) : Bool := s.vlt.jobs.isEmpty && s.vlt.stream.isNone

/-- What waited for the boundary of VLT takes effect (R425). -/
def State.vltBoundary (s : State) : State := if s.vltIdle then (s.applyStaged 14).unitSettle 14 else s

/-- What VLT loses at a reset of the device: the vault domain is unaffected (R425). -/
def State.vltReset (s : State) : State := s.modVlt fun t => { t with jobs := [], stream := none }

/-- A fence of VLT (R425): requests end with FENCED, a stream with a void END. -/
def State.vltFence (s : State) : State :=
  let s := s.vlt.jobs.foldl (fun s j =>
    match j.kind with
    | .lastTime | .stream => s
    | _ => s.answer j.master j.kind.op j.ctx FENCED []) s
  let s := match s.vlt.stream with
    | some x => (s.pushOrCount x.queue (s.streamRecord { x with status := FENCED } 2 x.first x.n) 0x0E).1
    | none => s
  s.vltReset

/-- VLT_CTRL.EN changes (R425, R590). -/
def State.vltEnable (s : State) (en : Bool) : State := s.unitSwitch 14 en (!s.vltIdle)

end Sys2Proof.Machine
end

