-- ==== Sys2Proof/Machine/Units.lean ====
section
/-!
DEFINITION. Machine/Units.lean: every block as a unit: its enable, its quiescent boundary, what it refuses of an entry (R510,
R579, R590).
-/
namespace Sys2Proof.Machine

/-- No item is open on a push port. -/
def State.qmIdle (s : State) : Bool := s.qm.push.all (·.item.isNone)

/-- Block `b` is at its quiescent boundary (R101, R151, R190, R223, R276, R312, R351, R384, R425, R453, R530, R579, R611). A
block that is OFF or fenced is. -/
def State.quietBlock (s : State) (b : Nat) : Bool :=
  (isUnit b && (s.unit b == .off || s.unit b == .fenced) && b != 3) ||
    match b with
    | 1 => s.pwr.dvfs.isNone && s.pwr.entry.isNone
    | 2 => s.range.run.isNone && s.urx.chans.all (·.phase != 2)
    | 4 => s.lfQuiet
    | 5 => s.urx.chans.all (·.phase != 2)
    | 6 => s.utxQuiet
    | 7 => s.range.run.isNone
    | 8 => s.zoneQuiet
    | 9 => s.credQuiet
    | 10 => s.rel.sess == 0
    | 11 => s.aesIdle
    | 12 => !s.rngServing
    | 13 => s.hfr.field.isNone
    | 14 => s.vltIdle
    | 15 => s.qmIdle
    | 16 => s.hif.flash.isEmpty && s.upd.erase.isNone
    | 21 => s.cntIdle
    | _ => true

/-- Block `b` finishes what it must before it is OFF (R590 and each chapter). -/
def State.unitBusy (s : State) (b : Nat) : Bool :=
  match b with
  | 5 => s.urx.wins.any (·.st != .off)
  | 15 => !s.qmIdle
  | 20 => s.wlk.fwd.isSome || !s.wlk.asm.isEmpty
  | _ => !s.quietBlock b

/-- EN of block `b` is written (R80, R590): what each chapter adds. A write of the value EN has changes nothing unless the unit is OFF
with EN 1, as a fence's release may leave it. -/
def State.unitEnable (s : State) (b : Nat) (en : Bool) : State :=
  match b with
  | 4 => s.lfBlockEnable en
  | 5 =>
    let s := s.unitSwitch 5 en (s.unitBusy 5)
    if en then s else (List.range 4).foldl (fun s w => s.stopWin w 0) s
  | 6 => if en then s.unitSwitch 6 true false else s.utxOff
  | 10 => s.relEnable en
  | 13 => s.hfrEnable en
  | 14 => s.vltEnable en
  | _ => if isUnit b then s.unitSwitch b en (s.unitBusy b) else s

/-- The EN bit of block `b`: bit 0 of its first register, where the block has one. -/
def enField (b : Nat) : Field := ⟨0x40000000 + 0x10000 * b, 0, 1⟩

/-- Block `b` has an EN bit (R80, R590): every unit but TMR. -/
def hasEn (b : Nat) : Bool := isUnit b && b != 3

/-- EN of block `b` is written (R80, R550: a fenced unit records it). -/
def State.writeEn (s : State) (b : Nat) (en : Bool) : State :=
  let s := s.putB (enField b) en
  if s.fenced b then s else s.unitEnable b en

/-- STARTING of block `b` ends (R590): ON, or DISABLING where EN has been cleared meanwhile. -/
def State.unitStarted (s : State) (b : Nat) : State :=
  if s.unit b != .starting then s
  else if hasEn b && !s.flag (enField b) then s.setUnit b .off
  else
    let s := s.setUnit b .on
    match b with
    | 4 => s.lfCalPlace
    | 10 => s.relStarted
    | 11 => if s.aes.wiped && s.pwr.fwServing then s.reinstall else s
    | 12 => if s.rngHalted then s else s.rngStart s.rng.cause (s.rng.cause != 4)
    | 21 => ((List.range 64).foldl State.serveReserved s).relServe
    | 20 => if s.sys.role = 0 then s else { s with wlk := { s.wlk with lost := some s.time.now } }
    | _ => s

/-- What kept block `b` in DISABLING has ended (R590); the LF channels start with a restarted block (R80). -/
def State.unitFinish (s : State) (b : Nat) : State :=
  if b = 4 && s.unit 4 == .restartPending then (s.unitSettle 4).lfChansStart else s.unitSettle b

/-- Blocks in DISABLING or RESTART_PENDING that have finished go on, and configuration changes that waited for a boundary take
effect (R579, R590). -/
def State.boundaries (s : State) : State :=
  let s := s.burstOver []
  let s := if s.sys.staged.isEmpty then s
    else (s.sys.staged.map (·.block)).foldl (fun s b => 
        if b < 1000 && s.quietBlock b then (if b = 8 then s.zoneBoundary else s.applyStaged b) else s) s
  if s.units.any fun u => u == .disabling || u == .restartPending then
    (List.range 23).foldl (fun s b => if s.unitBusy b then s else s.unitFinish b) s
  else s

/-- UNIT_EN_WRITE (R80, R590): master `m` writes EN of block `block`. -/
def unitEnWrite (m : Master) (block : Fin 23) (en : Bool) (s : State) : State :=
  let b := block.val
  if !hasEn b || !s.awake then s
  else
    let a := (enField b).addr
    match s.busOutcome m a 1 with
    | .fenced => s.putB (enField b) en
    | _ => s.onBus m a 1 fun s => s.writeEn b en

/-- An item is open on a push port or bound to a pop port. -/
def State.qmHeld (s : State) : Bool := !s.qmIdle || s.qm.pop.any (·.item.isSome)

/-- Block `b` refuses an entry into P2 (2), P3 (3) or P4 (4) (R510: R100, R152, R191, R223, R276, R305, R312, R351, R384, R425,
R452, R501, R581). A unit that is not ON consents. -/
def State.refuses (s : State) (b target : Nat) : Bool :=
  if isUnit b && s.unit b != .on && s.unit b != .disabling && s.unit b != .restartPending then false
  else
    match b with
    | 0 => (3 ≤ target && !s.flag PWR_CTRL_FW_DEEP_OK) || s.upd.apply.isSome
    | 1 => s.pwr.dvfs.isSome || s.wakePending
    | 4 => s.lf.diag.isSome || s.lfCalRunning.isSome || (match s.lf.tx with | some t => t.kind == 0 | none => false)
    | 5 => !s.urxIdle
    | 6 => !s.utxIdle
    | 7 => s.range.run.isSome
    | 8 => s.zone.solve.isSome
    | 9 => !s.authIdle
    | 10 => s.relRefuses target
    | 11 => !s.aesIdle
    | 12 => s.rngServing || [genGathering, genKat, genReseeding].contains (s.get TRNG_STATUS_GEN)
    | 13 => !s.hfrIdle
    | 14 => !s.vltIdle
    | 15 => s.qmHeld || (3 ≤ target && s.qm.queues.any fun q => !q.isEmpty)
    | 16 => (s.hif.spi.reply.isSome && !s.hif.spi.read) || (s.hif.side.reply.isSome && !s.hif.side.read) || !s.hif.flash.isEmpty
        || s.upd.erase.isSome
    | 21 => !s.cntIdle
    | _ => false

end Sys2Proof.Machine
end

