-- ==== Sys2Proof/Machine/Update.lean ====
section
/-!
DEFINITION. Machine/Update.lean: configuration images and the staged apply, firmware slots and the live switch, calibration
staging, factory test mode (R563 to R565, R576 to R588, R598, R605 to R610).
-/
namespace Sys2Proof.Machine

/-- The update state as `f` makes it. -/
def State.modUpd (s : State) (f : UpdState → UpdState) : State := { s with upd := f s.upd }

/-! ### Configuration images (R563, R576, R577) -/

/-- One word of an image: block, offset, value. -/
structure CfgWord where
  block : Nat
  off : Nat
  val : Nat
  deriving DecidableEq, Repr

/-- The words of an image body (R576): none where an entry is malformed. -/
def cfgWords : Nat → List Byte → Option (List CfgWord)
  | 0, b => if b.isEmpty then some [] else none
  | fuel + 1, b =>
    if b.isEmpty then some []
    else
      let n := u8 b 1
      let o := u16 b 2
      if b.length < 4 + 4 * n || !within 1 64 n || 0x16 < u8 b 0 || o % 4 ≠ 0 then none
      else
        (cfgWords fuel (b.drop (4 + 4 * n))).map fun l =>
          (List.range n).map (fun i => { block := u8 b 0, off := o + 4 * i, val := u32 b (4 + 4 * i) }) ++ l

/-- The header of an image is right and its CRC holds (R563, R564). -/
def imageValid (b : List Byte) : Bool :=
  let n := u16 b 6
  u16 b 0 == 0x4743 && u8 b 2 == 1 && u8 b 3 == 0 && n ≤ 8180 && 12 + n ≤ b.length
    && crc32 (b.take (8 + n)) == u32 b (8 + n)

/-- The image cut to its length. -/
def imageCut (b : List Byte) : List Byte := b.take (12 + u16 b 6)

/-- The words of a valid image. -/
def imageWords (b : List Byte) : Option (List CfgWord) := cfgWords 2048 ((b.drop 8).take (u16 b 6))

/-- The entries of an image pass R577: permitted registers, none twice, permitted values. -/
def entriesOk (l : List CfgWord) : Bool :=
  l.all (fun w => cfgReg w.block w.off && cfgWordOk w.block w.off w.val)
    && (l.map fun w => (w.block, w.off)).eraseDups.length == l.length

/-- EPOCH `a` is newer than `b` (R564): an equal one is not newer, as ROLLBACK has it. -/
def epochNewer (a b : Nat) : Bool := a ≠ b && (a + 0x10000 - b) % 0x10000 < 0x8000

/-- The address of a register. -/
def CfgWord.addr (w : CfgWord) : Nat := 0x40000000 + 0x10000 * w.block + w.off

/-- The image changes an RWL field under a lock that is set (R578). -/
def State.imageLocked (s : State) (l : List CfgWord) : Bool :=
  l.any fun w => s.lockSet w.block w.off && changesLocked (regFields w.block w.off) (s.reg w.addr).toNat w.val

/-- A word takes effect by a switch (R579): writable fields as they stand in the image, but for RWL fields under a lock that is set
(R11), with what an EN bit brings. -/
def State.loadWord (s : State) (b o v : Nat) : State :=
  let a := 0x40000000 + 0x10000 * b + o
  let old := s.reg a
  let new := BitVec.ofNat 32 (writeFields (regFields b o) (s.lockSet b o || fixedSource b o) old.toNat v)
  let s := s.setReg a new
  let en := new.getLsbD 0
  let s := if hasEn b && o = 0 && !s.fenced b then s.unitEnable b en else s
  let lfCh := (List.range 12).find? fun n => offOf (LF_CH_CTRL n) == o
  let s := match (if b = 4 then lfCh else none) with
    | some n => s.lfEnable n en
    | none => s
  if b = 7 && [RANGE_PLAN_F0, RANGE_PLAN_SP, RANGE_PLAN_CFG, RANGE_TIMING].any (fun f => offOf f == o) then
    s.put RANGE_STATUS_PLAN_OK 0 else s

/-- Offset `o` of block `b` holds the LOCK of one access table (R494). -/
def tableLock (b o : Nat) : Bool := b = 19 && 0x1000 ≤ o && (o - 0x1000) % 0x200 = 0

/-- The words of block `b` of an image, those that hold a LOCK last, as it takes effect last (R577). -/
def blockWords (l : List CfgWord) (b : Nat) : List CfgWord :=
  let mine := l.filter (·.block == b)
  mine.filter (fun w => w.off ≠ 0 && !tableLock b w.off) ++ mine.filter (fun w => tableLock b w.off) ++ mine.filter (·.off == 0)

/-- The blocks that an image names. -/
def imageBlocks (l : List CfgWord) : List Nat := (List.range 23).filter fun b => l.any (·.block == b)

/-- The words of the staged image. -/
def State.stagedWords (s : State) : List CfgWord :=
  match s.upd.staged with
  | some b => (imageWords b).getD []
  | none => []

/-- CSTATE (R601). -/
def State.setCstate (s : State) (v : Nat) : State := s.put SYS_CFG_STATUS_CSTATE v

/-- The staged image is discarded (R578, R605). -/
def State.dropStaged (s : State) : State :=
  ((s.modUpd fun u => { u with staged := none, stage := none }).setCstate 0).put SYS_CFG_STAGED 0

/-- CFG_STAGE, END (R578, R605): the status, and the epoch where it passes. -/
def State.stageEnd (s : State) : State × Nat × List Byte :=
  match s.upd.stage with
  | none => (s, BAD_STATE, [])
  | some (total, b) =>
    let s := s.modUpd fun u => { u with stage := none }
    if b.length ≠ total || !imageValid b || 12 + u16 b 6 ≠ total then (s, CONFIG_CHECK, [])
    else
      match imageWords b with
      | none => (s, CONFIG_CHECK, [])
      | some l =>
        if !entriesOk l then (s, CONFIG_CHECK, [])
        else if !epochNewer (u16 b 4) s.sys.epoch then (s, ROLLBACK, [])
        else if s.imageLocked l then (s, ACCESS_DENIED, [])
        else
          let s := (s.modUpd fun u => { u with staged := some b }).setCstate 1
          ((s.put SYS_CFG_STAGED_EPOCH (u16 b 4)).put SYS_CFG_STAGED_LENGTH (u16 b 6), OK, le 2 (u16 b 4))

/-- CFG_STAGE (R578, R581, R605). -/
def cfgStage (m : Master) (p : List Byte) (s : State) : State :=
  let op := u8 p 0
  let total := u16 p 2
  let off := u16 p 2
  hostCmd 0xD0 m p
    [(1 ≤ p.length, BAD_LENGTH), paramOk (op < 4),
     (if op = 1 then within 5 244 p.length else p.length = 4, BAD_LENGTH),
     paramOk (u8 p 1 = 0 && (op ≠ 0 || within 12 8192 total) && (op < 2 || total = 0))]
    (fun s =>
      if s.upd.apply.isSome then s.ends BUSY
      else
        match op with
        | 0 => ((s.dropStaged).modUpd fun u => { u with stage := some (total, []) }).ok
        | 1 =>
          match s.upd.stage with
          | none => s.ends BAD_STATE
          | some (n, b) =>
            if off ≠ b.length || n < b.length + (p.length - 4) then s.ends BAD_PARAM
            else
              let b := b ++ p.drop 4
              (s.modUpd fun u => { u with stage := some (n, b) }, OK, le 2 b.length)
        | 2 => s.stageEnd
        | _ => s.dropStaged.ok) s

/-! ### Commit (R563, R564, R582) -/

/-- The memory of image copy `k` (R563). -/
def imageAddr (k : Nat) : Nat := 0x20030000 + 0x2000 * k

/-- Copy `k` takes this image; bytes after it are 0xFF (R563). -/
def State.writeImage (s : State) (k : Nat) (b : List Byte) : State :=
  (s.eraseMem (imageAddr k) 0x2000).writeMem (imageAddr k) b

/-- The copy not in force (R582): A where neither is. -/
def State.otherCopy (s : State) : Nat := match s.upd.copy with | some 0 => 1 | _ => 0

/-- The flash address of image copy `k` in the archive (R499, R582). -/
def archImage (k : Nat) : Nat := 0x310000 + 0x2000 * k

/-- Copy `k` holds the image in force, and both its places have read back right (R564, R582). -/
def State.committed (s : State) (k : Nat) : State :=
  let s := s.modUpd fun u => { u with copy := some k }
  let s := { s with sys := { s.sys with cfgDefaults := false } }
  (s.put SYS_CFG_STATUS_COMMITTED 1).put SYS_CFG_STATUS_DEFAULTS 0

/-- The commit of a CFG_APPLY: the image in force goes into the copy not in force and into the archive (R582); `ok` says that both read
back right. The archive's program is done within the apply (notes/assumptions/165.md). -/
def State.commit (s : State) (ok : Bool) : State × Nat :=
  let k := s.otherCopy
  let b := s.upd.inForce
  let a := 0x30000000 + archImage k
  let s := ((s.writeImage k b).eraseMem a 0x2000).writeMem a b
  if ok then (s.committed k, OK) else (s, INTEGRITY)

/-- CFG_COMMIT_NV (R581, R582, R607): the image copy is written, and the archive's two sectors are erased and programmed by the flash port;
the reply comes after that. `readback` says whether both read back right. -/
def cfgCommitNv (m : Master) (p : List Byte) (readback : Bool) (s : State) : State :=
  hostCmdLater 0xD3 m p [lenIs p 0]
    (fun c s =>
      if s.upd.apply.isSome then (s, some (BUSY, []))
      else if s.sys.epoch = 0 then (s, some (BAD_STATE, []))
      else
        let k := s.otherCopy
        let s := s.writeImage k s.upd.inForce
        let s := s.modUpd fun u => { u with progs := u.progs ++ [{ op := 0xD3, copy := k, ok := readback, master := m, ctx := c }] }
        let s := (s.flashAsk { kind := 2, addr := archImage k, data := [], owner := 0 }).flashAsk
          { kind := 2, addr := archImage k + 0x1000, data := [], owner := 0 }
        (s.flashAsk { kind := 1, addr := archImage k, data := s.upd.inForce, owner := 2 }, none)) s

/-- The last flash program of the oldest such command has ended with `st`: OK or TIMEOUT (R500, R607, R608). -/
def State.progDone (s : State) (st : Nat) : State :=
  match s.upd.progs with
  | [] => s
  | g :: l =>
    let s := s.modUpd fun u => { u with progs := l }
    let st := if st = OK && !g.ok then INTEGRITY else st
    let s := if g.op = 0xD3 && st = OK then s.committed g.copy else s
    s.answer g.master g.op g.ctx st (if g.op = 0xD3 && st = OK then [byte g.copy] else [])

/-! ### Apply (R579, R580) -/

/-- SYS_CFG_PEND: bit `b` for each block (R600). -/
def maskOf (l : List Nat) : Nat := sumNat (l.eraseDups.map fun b => 2 ^ b)

/-- The apply as `f` makes it, with SYS_CFG_PEND. -/
def State.modApply (s : State) (f : CfgApply → CfgApply) : State :=
  let s := s.modUpd fun u => { u with apply := u.apply.map f }
  s.put SYS_CFG_PEND (match s.upd.apply with | some a => maskOf a.pending | none => 0)

/-- CFG_DONE (R604). -/
def State.cfgDone (s : State) (a : CfgApply) (st never : Nat) : State :=
  let d := le 2 a.epoch ++ [byte st] ++ le 4 never ++ le 2 (satNat 16 ((s.time.now - a.at_) / Config.msTicks))
  s.eventBbx EV_CFG_DONE d false

/-- Every block has switched (R580): the new epoch is in force. -/
def State.applyDone (s : State) (a : CfgApply) (ok : Bool) : State :=
  let img := s.upd.staged.getD []
  let s := s.modUpd fun u => { u with apply := none, staged := none, inForce := img }
  let s := { s with sys := { s.sys with epoch := a.epoch } }
  let s := ((s.setCstate 0).put SYS_CFG_PEND 0).put SYS_CFG_STAGED 0
  let s := (s.put SYS_CFG_STATUS_EPOCH a.epoch).put SYS_CFG_STATUS_COMMITTED 0
  let (s, st) := if a.commit then s.commit ok else (s, OK)
  (s.cfgDone a st 0).answer a.master 0xD1 a.ctx st (le 2 s.sys.epoch ++ le 4 0)

/-- The words that the staged image replaces in block `b`. -/
def State.oldWords (s : State) (b : Nat) : List (Nat × Word) :=
  (s.stagedWords.filter (·.block == b)).map fun w => (w.addr, s.reg w.addr)

/-- Block `b` loads its shadow bank (R579). -/
def State.switchBlock (s : State) (b : Nat) : State :=
  let old := s.oldWords b
  let s := (blockWords s.stagedWords b).foldl (fun s w => s.loadWord w.block w.off w.val) s
  let s := if b = 7 then s.rangeCheckPlan else s
  s.modApply fun a => { a with pending := a.pending.erase b, old := a.old ++ old }

/-- A word returns to its old value (R580), but for RWL fields under a lock that is set, the LOCK among them (R11). -/
def State.revertWord (s : State) (a : Nat) (old : Word) : State :=
  match blockOf a with
  | none => s
  | some (b, o) =>
    s.setReg a (BitVec.ofNat 32 (writeFields (regFields b o) (s.lockSet b o || fixedSource b o) (s.reg a).toNat old.toNat))

/-- Block `b` returns to its old values (R580). -/
def State.revertBlock (s : State) (a : CfgApply) (b : Nat) : State :=
  let mine := a.old.filter fun (x, _) => (x - 0x40000000) / 0x10000 == b
  let s := mine.foldl (fun s (x, w) => s.revertWord x w) s
  let s := if hasEn b && !s.fenced b then
      match mine.find? fun (x, _) => x % 0x10000 == 0 with
      | some (_, w) => if w.getLsbD 0 then s.unitEnable b true else s.unitEnable b false
      | none => s
    else s
  let s := if b = 7 then s.rangeCheckPlan else s
  s.modApply fun a => { a with pending := a.pending.erase b }

/-- The last block has returned (R580): the image stays staged. -/
def State.revertEnd (s : State) : State :=
  match s.upd.apply with
  | some a => if a.reverting && a.pending.isEmpty then (s.modUpd fun u => { u with apply := none }).setCstate 1 else s
  | none => s

/-- CFG_APPLY (R579 to R581, R606): blocks not named switch at once. -/
def cfgApply (m : Master) (p : List Byte) (s : State) : State :=
  hostCmdLater 0xD1 m p [lenIs p 4, paramOk (u8 p 2 < 2 && u8 p 3 = 0)]
    (fun c s =>
      if s.upd.apply.isSome || s.upd.switch.isSome then (s, some (BUSY, []))
      else
        match s.upd.staged with
        | none => (s, some (BAD_STATE, []))
        | some b =>
          if u16 b 4 ≠ u16 p 0 then (s, some (BAD_STATE, []))
          else
            let named := imageBlocks s.stagedWords
            let a : CfgApply := { epoch := u16 b 4, named := named, pending := named, at_ := s.time.now, commit := u8 p 2 = 1
                                  master := m, ctx := c }
            let s := ((s.modUpd fun u => { u with apply := some a }).setCstate 2).modApply id
            if named.isEmpty then (s.applyDone a true, none) else (s, none)) s

/-- CONFIG_SWITCH (R579): block `block` is at its boundary and switches; `readback` is what a commit that follows finds. -/
def configSwitch (block : Fin 23) (readback : Bool) (at_ : Nat) (s : State) : State :=
  match s.upd.apply with
  | none => s
  | some a =>
    if a.reverting || !a.pending.contains block.val || !s.quietBlock block.val then s
    else
      let s := (s.advance at_).switchBlock block.val
      match s.upd.apply with
      | some a => if a.pending.isEmpty then s.applyDone a readback else s
      | none => s

/-- APPLY_TIMEOUT (R580): blocks still pending never switch, those that have switched are to return. -/
def applyTimeout (s : State) : State :=
  match s.upd.apply with
  | none => s
  | some a =>
    if a.reverting then s
    else
      let s := s.advance (a.at_ + Config.msTicks * s.get SYS_UPD_CFG_APPLY_TO_MS)
      let never := maskOf a.pending
      let back := a.named.filter fun b => !a.pending.contains b
      let s := (s.setCstate 3).modApply fun a => { a with reverting := true, pending := back, never := never }
      let s := (s.cfgDone a DEFERRED never).answer a.master 0xD1 a.ctx DEFERRED (le 2 s.sys.epoch ++ le 4 never)
      s.revertEnd

/-- CONFIG_REVERT (R580). -/
def configRevert (block : Fin 23) (at_ : Nat) (s : State) : State :=
  match s.upd.apply with
  | none => s
  | some a =>
    if !a.reverting || !a.pending.contains block.val || !s.quietBlock block.val then s
    else ((s.advance at_).revertBlock a block.val).revertEnd

/-- A fence of block `b` during an apply (R581): a pending block switches, a reverting one returns. -/
def State.cfgAtFence (s : State) (b : Nat) : State :=
  match s.upd.apply with
  | none => s
  | some a =>
    if !a.pending.contains b then s
    else if a.reverting then (s.revertBlock a b).revertEnd
    else
      let s := s.switchBlock b
      match s.upd.apply with
      | some a => if a.pending.isEmpty then s.applyDone a true else s
      | none => s

/-- CFG_READ (R607). -/
def cfgRead (m : Master) (p : List Byte) (s : State) : State :=
  let o := u16 p 2
  let n := u16 p 4
  hostCmd 0xD2 m p [lenIs p 6, paramOk (u8 p 0 < 4 && u8 p 1 = 0 && within 1 4096 n)]
    (fun s =>
      let head := [0x43, 0x47, 1, 0, 0, 0, 0, 0]
      let out (b : List Byte) : List Byte := (b.drop o).take n ++ List.replicate (n - (b.length - o)) 0xFF
      match u8 p 0 with
      | 0 => (s, OK, out (if s.upd.inForce.isEmpty then head else s.upd.inForce))
      | 1 =>
        match s.upd.staged with
        | some b => (s, OK, out b)
        | none => s.ends BAD_STATE
      | k => (s, OK, out (s.readMem (imageAddr (k - 2)) 0x2000))) s

/-! ### The image loaded at a reset (R564, R565, R577) -/

/-- The registers of an image are written before any block leaves OFF (R577). -/
def State.loadImage (s : State) (l : List CfgWord) : State :=
  (List.range 23).foldl (fun s b => (blockWords l b).foldl (fun s w => s.loadWord w.block w.off w.val) s) s

/-- The factory defaults are in force (R565). -/
def State.loadDefaults (s : State) : State :=
  let s := { s with sys := { s.sys with epoch := 0, cfgDefaults := true } }
  let s := s.modUpd fun u => { u with inForce := [], copy := none }
  (s.put SYS_CFG_STATUS_DEFAULTS 1).raise FID_SYS_CFG_DEFAULTS

/-- The newer valid image is loaded at a reset (R564). An image whose entries fail R577 counts as failed (notes/assumptions/24.md). -/
def State.cfgLoad (s : State) : State :=
  let img (k : Nat) : Option (List Byte × List CfgWord) :=
    let b := s.readMem (imageAddr k) 0x2000
    if imageValid b then
      let b := imageCut b
      match imageWords b with
      | some l => if entriesOk l then some (b, l) else none
      | none => none
    else none
  let use (k : Nat) (x : List Byte × List CfgWord) (bad : Option Nat) : State :=
    let e := u16 x.1 4
    let s := { s with sys := { s.sys with epoch := e, cfgDefaults := false } }
    let s := s.modUpd fun u => { u with inForce := x.1, copy := some k, repair := bad.map fun k => (k, s.time.now) }
    let s := if bad.isSome then s.raise FID_SYS_CFG_IMAGE else s
    ((s.put SYS_CFG_STATUS_EPOCH e).put SYS_CFG_STATUS_COMMITTED 1).loadImage x.2
  match img 0, img 1 with
  | some a, some b => if epochNewer (u16 b.1 4) (u16 a.1 4) then use 1 b none else use 0 a none
  | some a, none => use 0 a (some 1)
  | none, some b => use 1 b (some 0)
  | none, none => s.loadDefaults

/-- CFG_IMAGE_REPAIR (R564): within 1 s of the reset the failed copy is rewritten. -/
def cfgImageRepair (s : State) : State :=
  match s.upd.repair with
  | none => s
  | some (k, _) => (s.writeImage k s.upd.inForce).modUpd fun u => { u with repair := none }

/-! ### Firmware slots (R583 to R586) -/

/-- Flash address of slot `k` (R499). -/
def fwAddr (k : Nat) : Nat := 0x100000 * (k + 1)

/-- The header of slot `k` (R583). -/
def State.fwHeader (s : State) (k : Nat) : List Byte := s.readFlash (fwAddr k) 64

/-- FW_VERSION of a header. -/
def fwVersion (h : List Byte) : Nat := u32 h 4
/-- SECVER of a header. -/
def fwSecver (h : List Byte) : Nat := u32 h 8
/-- CODE_LEN of a header. -/
def fwLen (h : List Byte) : Nat := u32 h 12
/-- TAG of a header. -/
def fwTag (h : List Byte) : List Byte := (h.drop 48).take 16

/-- The fields of a header that R584 requires are right. -/
def fwHeadOk (h : List Byte) : Bool :=
  u16 h 0 == 0x4657 && u8 h 2 == 1 && within 1024 327680 (fwLen h) && fwLen h % 16 == 0 && u32 h 16 < fwLen h

/-- TAG of a slot as computed (R583). -/
def fwTagOf (h code : List Byte) : List Byte := cmac ((List.range 32).map Config.fwKey) (h.take 48 ++ code)

/-- A slot verifies (R584): OK, ROLLBACK or IMAGE_INVALID. -/
def State.fwVerifyStatus (s : State) (k : Nat) : Nat :=
  let h := s.fwHeader k
  let c := s.cntVal 46
  if !fwHeadOk h then IMAGE_INVALID
  else if fwTagOf h (s.readFlash (fwAddr k + 0x100) (fwLen h)) ≠ fwTag h then IMAGE_INVALID
  else if fwSecver h < c then ROLLBACK
  else if c + 256 < fwSecver h then IMAGE_INVALID
  else OK

/-- VERIFIED of slot `k` (R601). -/
def fwVerified (k : Nat) : Field := if k = 0 then SYS_FW_STATUS_VERIFIED_A else SYS_FW_STATUS_VERIFIED_B

/-- Descriptor `k` (R585): none where it is not valid. -/
def State.bootDesc (s : State) (k : Nat) : Option (List Byte) :=
  let b := s.readFlash (0x8000 * k) 32
  if u16 b 0 = 0x4442 ∧ crc32 (b.take 28) = u32 b 28 then some b else none

/-- The descriptor in force and its place (R585). -/
def State.descInForce (s : State) : Option (Nat × List Byte) :=
  match s.bootDesc 0, s.bootDesc 1 with
  | some a, some b => if u32 b 4 ≠ u32 a 4 ∧ (u32 b 4 + 2 ^ 32 - u32 a 4) % 2 ^ 32 < 2 ^ 31 then some (1, b) else some (0, a)
  | some a, none => some (0, a)
  | none, some b => some (1, b)
  | none, none => none

/-- The other descriptor is written with DSEQ one higher (R585): STATE 1 TRIAL, 2 CONFIRMED. -/
def State.writeDesc (s : State) (slot st tries prev : Nat) : State :=
  let (k, seq) := match s.descInForce with | some (k, b) => (1 - k, u32 b 4 + 1) | none => (0, 1)
  let h := s.fwHeader slot
  let b := le 2 0x4442 ++ [byte slot, byte st] ++ le 4 seq ++ [byte tries, byte prev, 0, 0] ++ le 4 (fwVersion h) ++ le 4 (fwSecver h)
    ++ List.replicate 8 0
  (s.eraseMem (0x30000000 + 0x8000 * k) 4096).programFlash (0x8000 * k) (b ++ le 4 (crc32 b))

/-- The code of slot `k` is copied into code bank `bank` (R19, R587). -/
def State.copyBank (s : State) (k bank : Nat) : State :=
  let h := s.fwHeader k
  s.writeMem (0x10000000 + 0x50000 * bank) (s.readFlash (fwAddr k + 0x100) (fwLen h))

/-- Slot `k` runs from bank `bank`. -/
def State.runSlot (s : State) (k bank : Nat) : State :=
  let h := s.fwHeader k
  let s := (s.put SYS_FW_STATUS_SLOT k).put SYS_FW_VERSION (fwVersion h)
  s.modUpd fun u => { u with bank := bank, digest := fwTag h, booted := true }

/-- FW_EVT (R604). -/
def State.fwEvent (s : State) (phase st slot : Nat) : State :=
  let h := s.fwHeader slot
  s.eventBbx EV_FW_EVT ([byte phase, byte st, byte slot] ++ le 4 (fwVersion h) ++ le 4 (fwSecver h)) false

/-- The recovery path (R586): BANKS retention, every unit OFF, the ROM serves. -/
def State.recoveryPath (s : State) : State :=
  let s := (s.put SYS_FW_STATUS_RECOVERY 1).modUpd fun u => { u with booted := false }
  { s with units := List.replicate 23 .off, pwr := { s.pwr with list := false, fwRun := false, fwServing := false } }

/-- The trial begins: 60 s for CONFIRM (R588). -/
def State.startTrial (s : State) (prev : Nat) : State :=
  (s.put SYS_FW_STATUS_TRIAL 1).modUpd fun u => { u with trialAt := some s.time.now, prev := prev }

/-- The ROM boots slot `k`, or the other one where it fails (R586); `slots` are those still to be tried. -/
def State.bootSlots (s : State) : List Nat → State
  | [] => s.recoveryPath
  | k :: l =>
    if s.fwVerifyStatus k = OK then ((s.put (fwVerified k) 1).copyBank k 0).runSlot k 0
    else (s.raise FID_SYS_FW_IMAGE).bootSlots l

/-- The cold boot path (R586). -/
def State.coldBoot (s : State) : State :=
  let s := s.put SYS_FW_STATUS 0
  if !s.hif.flashOk then s.recoveryPath
  else
    match s.descInForce with
    | none =>
      let s := s.bootSlots [0, 1]
      if s.upd.booted then s.writeDesc (s.get SYS_FW_STATUS_SLOT) 2 0 (s.get SYS_FW_STATUS_SLOT) else s
    | some (_, b) =>
      let slot := u8 b 2 % 2
      let prev := u8 b 9 % 2
      if u8 b 3 = 1 then
        let t := u8 b 8 + 1
        let s := s.writeDesc slot 1 t prev
        if 3 ≤ t then (s.writeDesc prev 2 0 prev).bootSlots [prev, 1 - prev]
        else
          let s := s.bootSlots [slot, 1 - slot]
          if s.upd.booted && s.get SYS_FW_STATUS_SLOT = slot then s.startTrial prev else s
      else s.bootSlots [slot, 1 - slot]

/-! ### FW_WRITE_SLOT, FW_VERIFY, FW_SWITCH (R587, R588, R608, R609) -/

/-- Slot `k` may not be written: it runs, or a trial may return to it (R588, R608). -/
def State.slotBarred (s : State) (k : Nat) : Bool :=
  (s.upd.booted && s.get SYS_FW_STATUS_SLOT == k) || (s.flag SYS_FW_STATUS_TRIAL && s.upd.prev == k)

/-- FW_WRITE_SLOT (R608): a PROGRAM is handed to the flash port and replies once it is done; `readback` says whether it reads back right. -/
def fwWriteSlot (m : Master) (p : List Byte) (readback : Bool) (s : State) : State :=
  let k := u8 p 0
  let op := u8 p 1
  let off := u32 p 4
  let n := p.length - 8
  hostCmdLater 0xD4 m p
    [(2 ≤ p.length, BAD_LENGTH), paramOk (op < 2), (if op = 0 then p.length = 8 else within 9 4104 p.length, BAD_LENGTH),
     paramOk (k < 2 && u16 p 2 = 0 && off < 0x100000 && (op = 0 || (off % 256 = 0 && off + n ≤ 0x100000)))]
    (fun c s =>
      if s.slotBarred k then (s, some (BAD_STATE, []))
      else if s.upd.erase.isSome then (s, some (BUSY, []))
      else
        let s := s.put (fwVerified k) 0
        if op = 0 then ((s.modUpd fun u => { u with erase := some k }).notePeak.flashFollow, some (ACCEPTED, []))
        else
          let s := s.modUpd fun u => { u with progs := u.progs ++ [{ op := 0xD4, ok := readback, master := m, ctx := c }] }
          (s.flashAsk { kind := 1, addr := fwAddr k + off, data := p.drop 8, owner := 2 }, none)) s

/-- FW_ERASE_DONE (R608): an erase that is suspended goes on first (R24). -/
def fwEraseDone (at_ : Nat) (s : State) : State :=
  match s.upd.erase with
  | none => s
  | some k =>
    if s.upd.eraseHeld then s
    else
    let s := ((s.advance at_).eraseMem (0x30000000 + fwAddr k) 0x100000).modUpd fun u => { u with erase := none }
    s.fwEvent 0 OK k

/-- FW_VERIFY (R19, R584, R609). -/
def fwVerify (m : Master) (p : List Byte) (s : State) : State :=
  let k := u8 p 0
  hostCmd 0xD5 m p [lenIs p 4, paramOk (k < 2 && zeroAt p 1 3)]
    (fun s =>
      let h := s.fwHeader k
      let st := s.fwVerifyStatus k
      if st = OK then (s.put (fwVerified k) 1, OK, le 4 (fwVersion h) ++ le 4 (fwSecver h) ++ le 4 (fwLen h) ++ (fwTag h).take 4)
      else s.ends st) s

/-- SWITCH of SYS_FW_STATUS (R601): 1 loading, 2 waiting, 3 handover, 4 in a fallback. -/
def State.showSwitch (s : State) : State :=
  s.put SYS_FW_STATUS_SWITCH (match s.upd.switch with | some w => if w.fallback then 4 else w.stage | none => 0)

/-- The switch becomes `w`. -/
def State.setSwitch (s : State) (w : Option FwSwitch) : State := (s.modUpd fun u => { u with switch := w }).showSwitch

/-- The next increment of counter 46 towards the SECVER confirmed, or the reply of CONFIRM (R588). -/
def State.confirmStep (s : State) : State :=
  match s.upd.confirm with
  | none => s
  | some c =>
    if c.target ≤ s.cntVal 46 then
      (s.modUpd fun u => { u with confirm := none }).answer c.master 0xD6 c.ctx OK (le 4 (s.cntVal 46))
    else
      match s.cntAsk { n := 46, src := 4, master := c.master, ctx := none } with
      | (s, none) => s
      | (s, some (st, _)) =>
        if st = OK then s
        else (s.modUpd fun u => { u with confirm := none }).answer c.master 0xD6 c.ctx st []

/-- An increment of counter 46 has completed with `st` (R588). -/
def State.confirmCounted (s : State) (st : Nat) : State :=
  match s.upd.confirm with
  | none => s
  | some c =>
    if st = OK then s.confirmStep
    else (s.modUpd fun u => { u with confirm := none }).answer c.master 0xD6 c.ctx st []

/-- FW_SWITCH CONFIRM (R588, R609). -/
def State.fwConfirm (s : State) (m : Master) (c : Option ReqCtx) : State × Option (Nat × List Byte) :=
  if !s.flag SYS_FW_STATUS_TRIAL then (s, some (BAD_STATE, []))
  else
    let k := s.get SYS_FW_STATUS_SLOT
    let s := (s.writeDesc k 2 0 k).put SYS_FW_STATUS_TRIAL 0
    let s := (s.modUpd fun u => { u with trialAt := none, confirm := some { target := fwSecver (s.fwHeader k), master := m, ctx := c } })
    ((s.fwEvent 3 OK k).confirmStep, none)

/-- FW_SWITCH (R581, R586, R587, R609). In the recovery path SWITCH writes a CONFIRMED descriptor and resets the device. -/
def fwSwitch (m : Master) (p : List Byte) (s : State) : State :=
  hostCmdLater 0xD6 m p [lenIs p 4, paramOk (u8 p 0 < 2 && zeroAt p 1 3)]
    (fun c s =>
      if u8 p 0 = 1 then s.fwConfirm m c
      else if s.upd.apply.isSome || s.upd.switch.isSome then (s, some (BUSY, []))
      else if s.recovery then
        match [0, 1].find? fun k => s.flag (fwVerified k) with
        | none => (s, some (BAD_STATE, []))
        | some k =>
          let s := s.writeDesc k 2 0 k
          ({ s with hif := { s.hif with softReset := some (10 * Config.usTicks + s.time.now, 0) } }, some (ACCEPTED, []))
      else
        let k := 1 - s.get SYS_FW_STATUS_SLOT
        if !s.flag (fwVerified k) then (s, some (BAD_STATE, []))
        else (s.setSwitch (some { slot := k, fallback := false, since := s.time.now }), some (ACCEPTED, []))) s

/-- SWITCH_BANK_LOADED (R587): the target slot stands in the idle bank and its TAG is checked there. -/
def switchBankLoaded (at_ : Nat) (s : State) : State :=
  match s.upd.switch with
  | none => s
  | some w =>
    if w.stage ≠ 1 then s
    else
      let s := s.advance at_
      let h := s.fwHeader w.slot
      let ok := fwHeadOk h && fwTagOf h (s.readFlash (fwAddr w.slot + 0x100) (fwLen h)) = fwTag h
      if ok then (s.copyBank w.slot (1 - s.upd.bank)).setSwitch (some { w with stage := 2, since := s.time.now })
      else (s.setSwitch none).fwEvent 2 IMAGE_INVALID w.slot

/-- A handover point (R587): no attempt, key flow, map commit, staged apply or other command in service. -/
def State.handoverOk (s : State) : Bool :=
  s.auth.att.isNone && s.hfr.flow.isNone && s.zone.pend.isNone && s.upd.apply.isNone && s.hif.spi.pending.isNone
    && s.hif.side.pending.isNone

/-- The old firmware writes the handover area, in bytes that are its own (R587; notes/assumptions/120.md), and the cores start the new
bank: the gap begins, in which the firmware does not execute (R26). -/
def State.handover (s : State) (w : FwSwitch) : State :=
  let s := (s.freeFill 0x100A0000 4096).setSwitch (some { w with stage := 3 })
  { s with pwr := { s.pwr with fwRun := false, fwServing := false } }

/-- HANDOVER_POINT (R587). -/
def handoverPoint (at_ : Nat) (s : State) : State :=
  match s.upd.switch with
  | none => s
  | some w => if w.stage ≠ 2 || !s.awake || !s.handoverOk then s else (s.advance at_).handover w

/-- SWITCH_WAIT_TIMEOUT (R587): no handover point has come within SWITCH_WAIT_MS. -/
def switchWaitTimeout (s : State) : State :=
  match s.upd.switch with
  | none => s
  | some w =>
    if w.stage ≠ 2 || w.fallback then s
    else
      ((s.advance (w.since + Config.msTicks * s.get SYS_UPD_CFG_SWITCH_WAIT_MS)).setSwitch none).fwEvent 2 DEFERRED w.slot

/-- FALLBACK_RETRY (R588): during a fallback the handover point is tried again every 1 s. -/
def fallbackRetry (s : State) : State :=
  match s.upd.switch with
  | none => s
  | some w =>
    if w.stage ≠ 2 || !w.fallback || !s.awake then s
    else
      let s := s.advance (Config.sTicks + w.since)
      if s.handoverOk then s.handover w else s.setSwitch (some { w with since := s.time.now })

/-- The new firmware serves queue 1 after a handover (R587, R588). A fallback needs no confirmation. -/
def State.switchDone (s : State) : State :=
  match s.upd.switch with
  | none => s
  | some w =>
    if w.stage ≠ 3 then s
    else
      let old := s.get SYS_FW_STATUS_SLOT
      let s := (s.runSlot w.slot (1 - s.upd.bank)).setSwitch none
      if w.fallback then (s.writeDesc w.slot 2 0 w.slot).reinstall
      else ((s.writeDesc w.slot 1 0 old).startTrial old).fwEvent 1 OK w.slot

/-- The device switches back to PREV_SLOT (R588). -/
def State.fwFallback (s : State) : State :=
  if !s.flag SYS_FW_STATUS_TRIAL then s
  else
    let k := s.upd.prev
    let s := (s.put SYS_FW_STATUS_TRIAL 0).modUpd fun u => { u with trialAt := none }
    let s := (s.raise FID_SYS_FW_IMAGE).fwEvent 4 OK k
    s.setSwitch (some { slot := k, fallback := true, since := s.time.now })

/-- TRIAL_TIMEOUT (R588). -/
def trialTimeout (s : State) : State :=
  match s.upd.trialAt with
  | none => s
  | some t => (s.advance (60 * Config.sTicks + t)).fwFallback

/-- TRIAL_S (R601): seconds left, rounded up. -/
def State.trialSeconds (s : State) : Nat :=
  match s.upd.trialAt with
  | some t => (60 * Config.sTicks + t - s.time.now + Config.sTicks - 1) / Config.sTicks
  | none => 0

/-! ### Calibration staging (R610) -/

/-- The result fields of entry `e` of the calibration table. -/
def calFields (e : Nat) : List Field :=
  [UTX_CALTAB_HI_VCO_BAND e, UTX_CALTAB_HI_CAP_CODE e, UTX_CALTAB_HI_GAIN_TRIM e, UTX_CALTAB_HI_CAL_TEMP e]

/-- Entry `e` takes the results that the stored table holds, where those are of the same frequency. -/
def State.restoreEntry (s : State) (ws : List Word) (e : Nat) : State :=
  let hi := (ws.getD (2 * e + 1) 0).toNat
  let lo := (ws.getD (2 * e) 0).toNat
  let f := UTX_CALTAB_LO_FREQ_HZ e
  if bitsAt lo f.lsb f.width ≠ s.entFreq e then s
  else (calFields e).foldl (fun s f => s.putField f hi) s

/-- Entry `e` loses its result: it is not VALID, and its fields hold the OTP trims, which the spec does not give. -/
def State.factoryEntry (s : State) (e : Nat) : State :=
  let s := (calFields e).foldl (fun s f => let (v, s) := s.fresh f.width; s.put f v) s
  s.put (UTX_CALTAB_LO_VALID e) 0

/-- Item `k` takes its stored results (R610): none where nothing is stored. -/
def State.restoreItem (s : State) (k : Nat) : State :=
  match s.utx.stored.getD k none with
  | none => s
  | some c =>
    let it : CalItem := { valid := true, stale := s.get UTX_CAL_CFG_TEMP_STEP_C ≤ (s.sys.temp - c.temp).natAbs, temp := c.temp, at_ := c.at_ }
    let s := s.modUtx fun u => { u with items := u.items.set k it }
    match k with
    | 0 => (List.range 128).foldl (fun s e => s.restoreEntry c.words e) s
    | 4 =>
      let s := { s with lf := { s.lf with calTemp := List.replicate 12 (some c.temp), calAt := List.replicate 12 c.at_ } }
      (List.range 12).foldl (fun s n => s.put (LF_CH_STATUS_CAL_VALID n) (c.words.getD n 0).toNat) s
    | _ => s

/-- Item `k` takes the factory trims (R610), as a STALE item with nothing stored has them (R184). -/
def State.factoryItem (s : State) (k : Nat) : State :=
  let s := s.modUtx fun u => { u with items := u.items.set k {} }
  match k with
  | 0 => s.calEntries.foldl (fun s e => s.factoryEntry e) s
  | 4 =>
    let s := { s with lf := { s.lf with calTemp := List.replicate 12 none } }
    (List.range 12).foldl (fun s n => s.put (LF_CH_STATUS_CAL_VALID n) 0) s
  | _ => s

/-- The boundary of item `k` (R104, R188). -/
def State.calBoundary (s : State) (k : Nat) : Bool :=
  match k with
  | 0 | 1 => s.utxQuiet
  | 4 => s.lfQuiet
  | _ => s.urx.chans.all (·.phase != 2)

/-- Items that CAL_STAGE has named and that are at their boundary are replaced and reported (R188, R610). -/
def State.calBack (s : State) : State :=
  if s.utx.back.isEmpty then s
  else
    let (now, later) := s.utx.back.partition fun (k, _) => s.calBoundary k
    now.foldl (fun s (k, factory) =>
      let s := if factory then s.factoryItem k else s.restoreItem k
      s.calEvent { item := k, idx := 0, calId := 0xFFFF } 0 (s.calItem k).temp 0)
      (s.modUtx fun u => { u with back := later })

/-- The items selected by CAL_STAGE that it affects: those with a result in force for SNAPSHOT, those stored for RESTORE. -/
def State.calStaged (s : State) (op items : Nat) : List Nat :=
  (List.range 5).filter fun k => bitAt items k == 1 &&
    match op with
    | 0 => (s.calShown k).1
    | 1 => (s.utx.stored.getD k none).isSome
    | _ => true

/-- CAL_STAGE (R610). -/
def calStage (m : Master) (p : List Byte) (s : State) : State :=
  let op := u8 p 0
  hostCmd 0xD7 m p [lenIs p 4, paramOk (op < 3 && u8 p 1 < 32 && zeroAt p 2 2)]
    (fun s =>
      if s.utx.fgItems ≠ 0 then s.ends BAD_STATE
      else
        let l := s.calStaged op (u8 p 1)
        let s := if op = 0 then l.foldl (fun s k => s.calSave k) s
          else (s.modUtx fun u => { u with back := u.back ++ l.map fun k => (k, decide (op = 2)) }).calBack
        (s, OK, [byte (sumNat (l.map fun k => 2 ^ k))])) s

/-! ### Factory test mode (R598, R612) -/

/-- TEST_ENTER (R598). -/
def testEnter (m : Master) (p : List Byte) (s : State) : State :=
  hostCmd 0xF0 m p [(p.isEmpty || p.length = 16, BAD_LENGTH)]
    (fun s =>
      if 3 ≤ s.upd.wrong then s.ends LOCKOUT
      else if p.isEmpty then
        if !s.rngReady then s.ends RNG_HEALTH
        else
          let (c, s) := (s.bump TRNG_REQS).drbgDraw 16
          (s.modUpd fun u => { u with challenge := some c }, OK, c)
      else
        match s.upd.challenge with
        | none => s.ends BAD_STATE
        | some c =>
          if cmac ((List.range 16).map Config.testKey) c ≠ p then
            (s.modUpd fun u => { u with wrong := u.wrong + 1, challenge := none }).ends AUTH_FAIL
          else if s.rel.sess ≠ 0 || s.auth.att.isSome then s.ends BAD_STATE
          else
            let s := (s.modUpd fun u => { u with challenge := none }).aesWipe
            let s := { s with sys := { s.sys with test := true } }
            let h := s.pwr.padsHeld
            let s := { s with pwr := { s.pwr with padsHeld := h - bitAt h 0 + 1, list := false } }
            (s.put FLT_STAT_TEST 1).ok) s

end Sys2Proof.Machine
end

