-- ==== Sys2Proof/Machine/Wlk.lean ====
section
/-!
DEFINITION. Machine/Wlk.lean: the worker link (R591 to R597, R602 to R604, R611, R612).
-/
namespace Sys2Proof.Machine

/-- The link state as `f` makes it. -/
def State.modWlk (s : State) (f : WlkState → WlkState) : State := { s with wlk := f s.wlk }

/-- Worker `w` as the manager knows it. -/
def State.worker (s : State) (w : Nat) : WlWorker := s.wlk.workers.getD w {}

/-- Worker `w` as `f` makes it. -/
def State.modWorker (s : State) (w : Nat) (f : WlWorker → WlWorker) : State :=
  s.modWlk fun k => { k with workers := k.workers.modify w f }

/-- The device is a worker (R591). -/
def State.isWorker (s : State) : Bool := s.sys.role != 0

/-- The device is the manager of a link (R591). -/
def State.isManager (s : State) : Bool := s.sys.straps == 1

/-- The link runs on this device. -/
def State.linkUp (s : State) : Bool := s.unitOn 20 && s.awake

/-- WL_EVT (R604): worker, kind, delay in 0.1 ns. -/
def State.wlEvent (s : State) (w kind delay : Nat) : State := s.event EV_WL_EVT ([byte w, byte kind] ++ le 2 delay)

/-! ### Frames (R594) -/

/-- TYPE, ADDR and payload of a frame whose layout and CRC are right (R594). -/
def linkFrame (b : List Byte) : Option (Nat × Nat × List Byte) :=
  let n := u16 b 3
  if u8 b 0 = 0x7E ∧ n ≤ 1024 ∧ b.length = 9 + n ∧ crc32 (b.take (5 + n)) = u32 b (5 + n) then
    some (u8 b 1, u8 b 2, (b.drop 5).take n)
  else none

/-- A frame that fails its check (R594). -/
def State.linkCrc (s : State) (inst : Nat) : State := (s.bump WLK_CRC_ERRS).raise FID_WLK_CRC inst

/-- A frame has been received. -/
def State.linkGot (s : State) : State := s.bump WLK_RX_FRAMES

/-- The frames that carry a packet of `n` bytes (R594). -/
def linkFrames (n : Nat) : Nat := max 1 ((1021 + n) / 1022)

/-- One more FWD or REPLY payload of a packet (R594): the bytes assembled, the next SEG, and the whole packet at LAST. A gap in
SEG or a SEG lower than expected discards the bytes assembled; SEG 0 begins a packet (notes/assumptions/25.md). -/
def assemble (asm : List Byte) (seg : Nat) (pay : List Byte) : List Byte × Nat × Option (List Byte) :=
  let (asm, seg) := if u8 pay 0 = seg then (asm, seg) else ([], 0)
  if u8 pay 0 ≠ seg then ([], 0, none)
  else
    let asm := asm ++ (pay.drop 2).take 1022
    if bitAt (u8 pay 1) 0 = 1 then ([], 0, some asm) else (asm, seg + 1, none)

/-! ### A worker's side (R594, R596) -/

/-- A worker sends its reply to a forwarded request (R594, R596). -/
def State.linkReply (s : State) (op st : Nat) (data : List Byte) : State :=
  let s := { s with hif := { s.hif with lastReply := some { master := .m1, op := op, status := st, data := data } } }
  s.bump WLK_TX_FRAMES (linkFrames (4 + data.length))

/-- A worker executes a forwarded request as M1 (R466, R596, R612); `reg` executes the bus commands of R472. -/
def State.forwarded (s : State) (b : List Byte) (reg : Master → Nat → List Byte → State → Effect) : State :=
  let op := u8 b 0
  let params := b.drop 4
  if b.length ≠ 4 + u16 b 2 then s.linkReply op BAD_LENGTH []
  else if (opRow op).isNone then s.linkReply op BAD_OPCODE []
  else if !s.mayCommand .m1 op then s.linkReply op ACCESS_DENIED []
  else if op = 0xE3 then s.linkReply op BAD_PARAM []
  else if op = 0x04 ∨ op = 0x05 ∨ op = 0x06 then
    let (s, st, d) := reg .m1 op params s
    s.linkReply op st d
  else if s.fenced 15 then s.linkReply op FENCED []
  else
    let s := { s with hif := { s.hif with seq := (s.hif.seq + 1) % 256 } }
    match s.pushAll 1 0x14 (segItems 3 s.hif.seq 3 0 b) with
    | none => s.linkReply op BUSY []
    | some s => s.coreInterrupt

/-- A FWD frame reaches a worker (R594). -/
def State.takeFwd (s : State) (b : List Byte) (reg : Master → Nat → List Byte → State → Effect) : State :=
  match linkFrame b with
  | none => s.linkCrc 0xFF
  | some (typ, addr, pay) =>
    if typ ≠ 2 || (addr ≠ s.get WLK_CTRL_INDEX && addr ≠ 0xFF) then s
    else
      let s := s.linkGot
      let (asm, seg, whole) := assemble s.wlk.asm s.wlk.seg pay
      let s := s.modWlk fun k => { k with asm := asm, seg := seg }
      match whole with
      | some b => s.forwarded b reg
      | none => s

/-- RUN (R224, R594): the worker takes part in the run. -/
def run (crcOk : Bool) (idx origin : Nat) (order : List Byte) (at_ : Nat) (s : State) : State :=
  if !s.isWorker || !s.linkUp || !s.flag WLK_STATUS_LOCKED then s
  else
    let s := s.advance at_
    if !crcOk then s.linkCrc 0xFF else s.linkGot.modWlk fun k => { k with run := some (idx, origin, order) }

/-- A worker's part in a run ends (R224): with the run, it sends RANGE_W, its valid tones and the bistatic distance it formed, which
are measurements (notes/assumptions/16.md). -/
def State.workerFollow (s : State) : State :=
  match s.wlk.run with
  | some (_, o, order) =>
    if !s.isWorker || s.time.ref < o + Config.usTicks * (500 + 95 * order.length) then s
    else
      let (v, s) := s.fresh 24
      let x := (bitsAt v 0 8 % (order.length + 1), bitsAt v 8 16)
      (s.modWlk fun k => { k with run := none, sentW := some x }).bump WLK_TX_FRAMES
  | none => s

/-- The manager's time and the delay set a worker's device time (R592, R593): at once at first, and slewed at 100 ppm where a later
measurement finds a change of 1 ns or more. -/
def State.slaveTime (s : State) (t : Nat) : State :=
  let d : Int := (t : Int) - s.time.dev
  if !s.wlk.slaved then (s.modWlk fun k => { k with slaved := true }).setDev t
  else if d.natAbs < 3 then s
  else { s with time := { s.time with devLeft := 10000 * d } }

/-- DREQ (R593): the worker stamps it and answers; where it carries the manager's time and delay, device time is set
(notes/assumptions/26.md). -/
def dreq (crcOk : Bool) (devTime : Option Nat) (at_ : Nat) (s : State) : State :=
  if !s.isWorker || !s.linkUp then s
  else
    let s := s.advance at_
    if !crcOk then s.linkCrc 0xFF
    else
      let s := s.linkGot.bump WLK_TX_FRAMES
      match devTime with
      | some t => s.slaveTime t
      | none => s

/-- The worker's link is up or down (R592, R597): WLK_STATUS.LOCKED; a locked worker's PLLs take their reference from WL_CLK, and
otherwise from its own crystal. -/
def State.linkLocked (s : State) (on : Bool) : State :=
  (s.putB WLK_STATUS_LOCKED on).modWlk fun k => { k with lost := if on then none else some s.time.now, clkRef := on && s.isWorker
                                                         slaved := k.slaved && on }

/-- A worker loses the link (R597): its own crystal, TIME in holdover; nothing is forwarded any more. -/
def State.linkLost (s : State) : State :=
  let s := (s.linkLocked false).modWlk fun k => { k with asm := [], seg := 0, run := none }
  s.setServo .holdover

/-- LOCK_RETRY (R597): 10 ms after the loss or the last try; `locked` is its outcome. -/
def lockRetry (locked : Bool) (s : State) : State :=
  match s.wlk.lost with
  | none => s
  | some t => if !s.isWorker || !s.linkUp then s else (s.advance (10 * Config.msTicks + t)).linkLocked locked

/-! ### The manager's side -/

/-- PRESENT shows the workers locked (R603). -/
def State.showPresent (s : State) : State :=
  s.put WLK_STATUS_PRESENT (sumNat ((List.range 4).map fun w => bit01 (s.worker w).locked * 2 ^ w))

/-- WLK_LOS (R597): worker `w` loses the link, as the worker and as the manager sees it. -/
def wlkLos (w : Fin 4) (at_ : Nat) (s : State) : State :=
  if !s.linkUp then s
  else if s.isWorker then
    if s.flag WLK_STATUS_LOCKED then ((s.advance at_).raise FID_WLK_LOS).linkLost else s
  else if !(s.worker w).locked then s
  else
    let s := (s.advance at_).raise FID_WLK_LOS w
    let s := (s.modWorker w fun k => { k with locked := false, present := false, meas := none }).showPresent
    s.wlEvent w 1 (s.get (WLK_DELAY_DELAY w))

/-- A delay measurement of worker `w` starts (R593); its first DREQ is launched. -/
def State.measureStart (s : State) (w : Nat) : State :=
  (s.modWorker w fun k => { k with meas := some [], since := s.time.now }).bump WLK_TX_FRAMES

/-- DELAY_MEASUREMENT (R593): 60 s after the last measurement of worker `w`, or after a wake or a relock. -/
def delayMeasurement (w : Fin 4) (at_ : Nat) (s : State) : State :=
  if !s.linkUp || !s.isManager || (s.worker w).meas.isSome then s else (s.advance at_).measureStart w

/-- DRSP (R593): t1 to t4 in ps. The next DREQ follows until 16 exchanges are made. -/
def drsp (w : Fin 4) (crcOk : Bool) (t1 t2 t3 t4 : Nat) (at_ : Nat) (s : State) : State :=
  if !s.linkUp || !s.isManager then s
  else
    let s := s.advance at_
    if !crcOk then s.linkCrc w
    else
      let s := s.linkGot
      match (s.worker w).meas with
      | none => s
      | some l =>
        if 16 ≤ l.length then s
        else
          let d : Int := ((t4 : Int) - t1) - ((t3 : Int) - t2)
          let s := s.modWorker w fun k => { k with meas := some (l ++ [d]) }
          if l.length < 15 then s.bump WLK_TX_FRAMES else s

/-- The least and the greatest of a list of integers. -/
def leastDelay (l : List Int) : Int := l.foldl min (l.headD 0)
/-- The greatest. -/
def greatestDelay (l : List Int) : Int := l.foldl max (l.headD 0)

/-- WL_DISCOVER replies once every worker's measurement has ended (R611). -/
def State.discoverReply (s : State) : State :=
  match s.wlk.discover with
  | none => s
  | some (m, c, _) =>
    if s.wlk.workers.any (·.meas.isSome) then s
    else
      let ws := List.range 4
      let mask (f : WlWorker → Bool) : Nat := sumNat (ws.map fun w => bit01 (f (s.worker w)) * 2 ^ w)
      let d := [byte (mask (·.present)), byte (mask (·.locked)), 0, 0] ++ ws.flatMap (fun w => le 2 (s.get (WLK_DELAY_DELAY w)))
        ++ ws.map (fun w => byte (s.get (WLK_DELAY_SPREAD w))) ++ [0, 0, 0, 0]
      (s.modWlk fun k => { k with discover := none }).answer m 0xE1 c OK d

/-- The 16 values of worker `w` are judged (R593): the mean from 2 ns to 250 ns, the spread at most 2.0 ns. -/
def State.judgeDelay (s : State) (w : Nat) (l : List Int) : State :=
  let sum : Int := l.foldl (· + ·) 0
  let spread := (greatestDelay l - leastDelay l).toNat
  let was := (s.worker w).locked
  let ok : Bool := decide (64000 ≤ sum ∧ sum ≤ 8000000) && spread ≤ 4000
  let (d, s) := s.rounded (max 0 sum) 3200
  let (p, s) := s.rounded spread 200
  let d := satNat 12 d.toNat
  let s := ((s.put (WLK_DELAY_DELAY w) d).put (WLK_DELAY_SPREAD w) (satNat 8 p.toNat)).putB (WLK_DELAY_VALID w) ok
  let s := (s.modWorker w fun k => { k with meas := none, present := true, locked := ok }).showPresent
  let s := s.bump WLK_TX_FRAMES (bit01 ok)
  if ok then (if was then s else s.wlEvent w 0 d) else (s.raise FID_WLK_DELAY w).wlEvent w 2 d

/-- A worker that has not answered its measurement is absent (R593, R597). -/
def State.workerGone (s : State) (w : Nat) : State :=
  let was := (s.worker w).locked
  let s := (s.modWorker w fun k => { k with meas := none, present := false, locked := false }).showPresent
  if was then (s.raise FID_WLK_WORKER_LOST w).wlEvent w 1 (s.get (WLK_DELAY_DELAY w)) else s

/-- DELAY_MEASURED (R593): 200 µs after the start of worker `w`'s measurement. -/
def delayMeasured (w : Fin 4) (s : State) : State :=
  match (s.worker w).meas with
  | none => s
  | some l =>
    let s := s.advance (200 * Config.usTicks + (s.worker w).since)
    (if l.length = 16 then s.judgeDelay w l else s.workerGone w).discoverReply

/-- A REPLY, FRAME or EVENT frame of worker `w` reaches the manager: its payload where it is a good frame of this type. -/
def State.upFrame (s : State) (w typ : Nat) (b : List Byte) (f : List Byte → State → State) : State :=
  if !s.linkUp || !s.isManager || !(s.worker w).locked then s
  else
    match linkFrame b with
    | none => s.linkCrc w
    | some (t, addr, pay) => if t = typ ∧ addr = 0x0F then f pay s.linkGot else s

/-- FRAME and EVENT items go into the queue named by WLK_QCFG (R595). -/
def State.linkItem (s : State) (q : Nat) (w typ : Nat) (pay : List Byte) : State :=
  (s.pushOrCount q ([byte w, byte typ, 0, 0] ++ pay) 0x14).1

/-- FRAME (R595). -/
def frame (w : Fin 4) (b : List Byte) (at_ : Nat) (s : State) : State :=
  s.upFrame w 0x10 b fun pay s => let s := s.advance at_; s.linkItem (s.get WLK_QCFG_Q_FRAME) w 0x10 pay

/-- EVENT (R595). -/
def event (w : Fin 4) (b : List Byte) (at_ : Nat) (s : State) : State :=
  s.upFrame w 0x12 b fun pay s => let s := s.advance at_; s.linkItem (s.get WLK_QCFG_Q_EVENT) w 0x12 pay

/-- RANGE_W (R224, R236, R595): the tones found valid and the bistatic distance in 0.1 m, which RANGE keeps in mm. -/
def rangeW (w : Fin 4) (crcOk : Bool) (tones : Byte) (dsum : BitVec 16) (at_ : Nat) (s : State) : State :=
  if !s.linkUp || !s.isManager || !(s.worker w).locked then s
  else
    let s := s.advance at_
    if crcOk then s.linkGot.rangeWorker w tones.toNat (100 * dsum.toNat) else s.linkCrc w

/-- WL_FORWARD ends with the reply of the worker (R612): STATUS, TAG, LEN and DATA of its packet (notes/assumptions/25.md). -/
def State.forwardEnd (s : State) (f : WlForward) (st : Nat) (data : List Byte) : State :=
  (s.modWlk fun k => { k with fwd := none }).answer f.master 0xE3 f.ctx st data

/-- REPLY (R594, R612). -/
def reply (w : Fin 4) (b : List Byte) (at_ : Nat) (s : State) : State :=
  s.upFrame w 3 b fun pay s =>
    let s := s.advance at_
    match s.wlk.fwd with
    | none => s
    | some f =>
      if f.worker ≠ w then s
      else
        let (asm, seg, whole) := assemble f.asm f.seg pay
        match whole with
        | some r => s.forwardEnd f (u8 r 0) ((r.drop 4).take (u16 r 2))
        | none => s.modWlk fun k => { k with fwd := some { f with got := true, asm := asm, seg := seg } }

/-- FWD_REPEAT (R594): 1 ms after the last FWD frame without a REPLY frame, up to 3 sendings. -/
def fwdRepeat (s : State) : State :=
  match s.wlk.fwd with
  | none => s
  | some f =>
    if f.got || 3 ≤ f.tries then s
    else
      let s := (s.advance (Config.msTicks + f.at_)).bump WLK_TX_FRAMES (linkFrames f.packet.length)
      s.modWlk fun k => { k with fwd := some { f with tries := f.tries + 1, at_ := s.time.now } }

/-- WL_FORWARD_TIMEOUT (R612): 100 ms after the last FWD frame. -/
def wlForwardTimeout (s : State) : State :=
  match s.wlk.fwd with
  | none => s
  | some f => if !f.got && f.tries < 3 then s else (s.advance (100 * Config.msTicks + f.at_)).forwardEnd f TIMEOUT []

/-- A fence of WLK: a WL_FORWARD in progress ends, measurements and assembled bytes are dropped. -/
def State.wlkFence (s : State) : State :=
  let s := match s.wlk.fwd with | some f => s.forwardEnd f FENCED [] | none => s
  let s := match s.wlk.discover with
    | some (m, c, _) => (s.modWlk fun k => { k with discover := none }).answer m 0xE1 c FENCED []
    | none => s
  let s := s.modWlk fun k => { k with asm := [], seg := 0, run := none, workers := k.workers.map fun w =>
    { w with meas := none, locked := false, present := false } }
  s.showPresent.linkLocked false

/-! ### Commands (R611, R612) -/

/-- WL_CONFIG (R611). -/
def wlConfig (m : Master) (p : List Byte) (s : State) : State :=
  hostCmd 0xE0 m p [lenIs p 4, paramOk (u8 p 0 < 2 && u8 p 1 < 4 && u8 p 2 < 128 && u8 p 3 < 128)]
    (fun s =>
      let q := u8 p 2 + 2 ^ 8 * u8 p 3
      if s.flag WLK_CTRL_LOCK && (u8 p 1 ≠ s.get WLK_CTRL_INDEX || q ≠ s.get WLK_QCFG) then s.ends ACCESS_DENIED
      else
        let s := ((s.put WLK_CTRL_INDEX (u8 p 1)).put WLK_QCFG q).writeEn 20 (u8 p 0 = 1)
        (s, OK, [byte (s.unit 20).code])) s

/-- WL_DISCOVER (R593, R611). -/
def wlDiscover (m : Master) (p : List Byte) (s : State) : State :=
  hostCmdLater 0xE1 m p [lenIs p 0]
    (fun c s =>
      if !s.isManager || !s.unitOn 20 then (s, some (BAD_STATE, []))
      else if s.wlk.discover.isSome then (s, some (BUSY, []))
      else
        let s := s.modWlk fun k => { k with discover := some (m, c, s.time.now) }
        ((List.range 4).foldl (fun s w => s.measureStart w) s, none)) s

/-- WL_STATUS (R611). -/
def wlStatus (m : Master) (p : List Byte) (s : State) : State :=
  hostCmd 0xE2 m p [lenIs p 0]
    (fun s =>
      (s, OK, [byte s.sys.straps, byte (s.get WLK_CTRL_INDEX), byte (s.unit 20).code, byte (s.get WLK_STATUS_PRESENT),
        byte (s.get WLK_STATUS_LOCKED), 0, 0, 0] ++ le 4 (s.get WLK_CRC_ERRS) ++ [0, 0, 0, 0])) s

/-- WL_FORWARD (R594, R612). -/
def wlForward (m : Master) (p : List Byte) (s : State) : State :=
  let w := u8 p 0
  let b := p.drop 4
  hostCmdLater 0xE3 m p
    [(8 ≤ p.length && p.length == 8 + u16 b 2, BAD_LENGTH), paramOk (w < 4 && zeroAt p 1 3 && u8 b 0 ≠ 0xE3)]
    (fun c s =>
      if !s.unitOn 20 || !(s.worker w).locked then (s, some (WORKER_LINK, []))
      else if s.wlk.fwd.isSome then (s, some (BUSY, []))
      else
        let f : WlForward := { worker := w, packet := b, at_ := s.time.now, master := m, ctx := c }
        ((s.modWlk fun k => { k with fwd := some f }).bump WLK_TX_FRAMES (linkFrames b.length), none)) s

end Sys2Proof.Machine
end

