-- ==== Sys2Proof/Machine/Events.lean ====
section
/-!
DEFINITION. Machine/Events.lean: events that several blocks act on: the generator (R344 to R350, R366), counter records (R337),
frames and the RF PLL (R29, R123, R130, R153), handle edges and poll windows (R93, R97), the end of a ranging run (R227).
-/
namespace Sys2Proof.Machine

/-! ### The generator -/

/-- The generator state as `f` makes it. -/
def State.modRng (s : State) (f : RngState → RngState) : State := { s with rng := f s.rng }

/-- A served request goes to its consumer (R209, R90, R347, R379, R409). -/
def State.rngGive (s : State) (r : RngReq) (b : List Byte) : State :=
  match r.kind with
  | 1 =>
    match s.range.run with
    | some x => if x.id = r.tag then s.setRun (some { x with rnd := b }) else s
    | none => s
  | 2 => s.lfGotNb r.tag b
  | 3 => s.vaultGotH b
  | 4 => s.modRng fun g => { g with fifo := (g.fifo ++ (List.range (b.length / 4)).map fun k => u32 b (4 * k)).take 16 }
  | 5 => s.answer r.master 0x85 r.ctx OK b
  | _ => s.tapGotNb b

/-- RNG_REQUEST_SERVED (R344, R347): the request first in order gets up to 64 bytes; a longer one keeps its place in its rank. -/
def rngRequestServed (s : State) : State :=
  if !s.rngReady || s.get TRNG_STATUS_GEN != genReady then s
  else
    match nextReq s.rng.lastHost s.rng.reqs with
    | none => s
    | some r =>
      let n := min 64 r.left
      let (b, s) := s.drbgDraw n
      let old := r
      let r := { r with left := r.left - n, got := r.got ++ b }
      let s := if r.rank = 5 then s.modRng fun g => { g with lastHost := some r.master } else s
      let s := s.bump TRNG_REQS
      let s := if 4096 ≤ s.get TRNG_REQS then s.put TRNG_STATUS_GEN genReseeding else s
      if r.left = 0 then (s.modRng fun g => { g with reqs := dropReq g.reqs old }).rngGive r r.got
      else s.modRng fun g => { g with reqs := g.reqs.replace old r }

/-- RESEED_DONE (R344): the pool is full and the reseed takes 2 µs. -/
def reseedDone (s : State) : State :=
  if !s.rngReady || s.get TRNG_STATUS_GEN != genReseeding then s
  else
    let s := s.advance (max s.time.now (768 * Config.usTicks + s.rng.poolAt) + 2 * Config.usTicks)
    let s := ((s.drbgReseeded.put TRNG_STATUS_GEN genReady).put TRNG_REQS 0).bump TRNG_RESEEDS
    s.modRng fun g => { g with poolAt := s.time.now }

/-- TRNG_PAIR after a window (R341, R356): measurements, free but for what the outcome of the beat and correlation tests says of them:
`failed` is the test that failed, 3 BEAT or 4 CORR. -/
def State.pairFigures (s : State) (failed : Option Nat) : State :=
  let (b, s) := s.fresh 16
  let (c, s) := s.fresh 16
  let beat := if failed = some 3 then b % 64 else 64 + b % 961
  let corr := if failed = some 4 then 97 + c % 416 else c % 97
  s.put TRNG_PAIR (beat + 2 ^ 16 * corr)

/-- RNG_READY (R95, R345, R353): start-up has passed. The counts of the last window are measurements (notes/assumptions/16.md). -/
def rngReady (at_ : Nat) (s : State) : State :=
  if !s.unitOn 12 || !s.awake || s.pwr.reduced || s.get TRNG_STATUS_GEN != genGathering then s
  else
    let s := s.advance at_
    let d := le 4 (satNat 32 ((s.time.now - s.rng.startAt) / Config.usTicks))
    let n := s.get TRNG_STATUS_SU_FAILS
    let s := (List.range 4).foldl (fun s k => let (v, s) := s.fresh 16; s.put (TRNG_OSC k) v) s
    let s := s.pairFigures none
    let s := s.event EV_RNG_READY ([byte s.rng.cause] ++ d ++ [byte n])
    let s := (s.drbgInstantiate.put TRNG_STATUS_GEN genReady).put TRNG_STATUS_SU_FAILS 0
    ((s.modRng fun g => { g with cause := 3, poolAt := s.time.now }).refillFifo).pollRngReady

/-- Output stops (R349): every request ends with RNG_HEALTH, the pool and the FIFO are zeroed, and the consumers act. -/
def State.rngBreak (s : State) : State :=
  let l := s.rng.reqs
  let s := s.modRng fun g => { g with reqs := [], fifo := [], poolAt := s.time.now, drbg := none, pool := none }
  let s := l.foldl (fun s r => if r.kind = 5 then s.answer r.master 0x85 r.ctx RNG_HEALTH [] else s) s
  ((((s.lfRngHealth).rangeStop RNG_HEALTH).authBreak RNG_HEALTH).flowBreak RNG_HEALTH 0).vaultRngHealth

/-- The fault of a test: bits of TRNG_HEALTH (R349, R352). -/
def rngFault (test : Nat) : Nat :=
  match test with
  | 0 => FID_TRNG_RCT | 1 => FID_TRNG_APT | 5 | 6 => FID_TRNG_KAT | _ => FID_TRNG_OSC

/-- A health failure (R349) of these tests, in a start-up or after it; three failed start-ups halt the generator, which a failure leaves
HALTED where it is. -/
def State.rngFailed (s : State) (tests : List Nat) : State :=
  let startUp : Bool := s.get TRNG_STATUS_GEN == genGathering
  let halted := s.rngHalted
  let s := (tests.foldl (fun s t => s.putBit TRNG_HEALTH t true) s).bump TRNG_FAILS
  let s := (tests.map rngFault).eraseDups.foldl (fun s f => s.raise f) s
  let s := if startUp then s.bump TRNG_STATUS_SU_FAILS else s
  let s := s.rngBreak
  if halted then s
  else if startUp && 3 ≤ s.get TRNG_STATUS_SU_FAILS then (s.put TRNG_STATUS_GEN genHalted).raise FID_TRNG_HALTED
  else s.rngStart 2 false

/-- TRNG_HEALTH_FAILURE (R341, R349): which test fails is the row's; the raw bits are free (notes/assumptions/175.md). -/
def trngHealthFailure (test : Fin 7) (at_ : Nat) (s : State) : State :=
  if !s.unitOn 12 || !s.awake || s.rngHalted then s else ((s.advance at_).pairFigures (some test)).rngFailed [test]

/-- A request that finds the generator HALTED ends with RNG_HEALTH at once (R349). -/
def State.haltFollow (s : State) : State := if s.rngHalted && !s.rng.reqs.isEmpty then s.rngBreak else s

/-- RNG_SELFTEST (R349, R350, R366): `passed` is what the known-answer tests find. They take 60 µs, in which nothing is served. -/
def rngSelftest (m : Master) (p : List Byte) (passed : BitVec 2) (s : State) : State :=
  hostCmd 0x86 m p [lenIs p 4, paramOk (u8 p 0 < 2 && zeroAt p 1 3)]
    (fun s =>
      if !s.unitOn 12 || s.pwr.reduced then s.ends BAD_STATE
      else if u8 p 0 = 0 then
        let d := [byte passed.toNat]
        let s := s.wait (60 * Config.usTicks)
        if passed = 3 then (s, OK, d)
        else (s.rngFailed ((if passed.getLsbD 0 then [] else [5]) ++ (if passed.getLsbD 1 then [] else [6])), RNG_HEALTH, d)
      else if s.range.run.isSome || s.auth.att.isSome then s.ends BUSY
      else ((s.put TRNG_STATUS_SU_FAILS 0).rngStart 3 false).ends ACCEPTED) s

/-- A fence of TRNG acts on its consumers as a health failure does (R351). -/
def State.rngFence (s : State) : State := s.rngBreak.put TRNG_STATUS_GEN genUninst

/-! ### Counters -/

/-- COUNTER_RECORD_WRITTEN (R335, R337): the oldest EXACT increment that can be written is done, within 60 µs. -/
def counterRecordWritten (verified : Bool) (at_ : Nat) (s : State) : State :=
  match (s.advance at_).cntRecord verified with
  | none => s
  | some (s, r, st, v) =>
    let s := s.cntFinish r st v
    if r.src = 3 then s.epochCounted st else if r.src = 4 then s.confirmCounted st else s

/-- CNT_LOADED (R339) at instant `at_`. -/
def cntLoaded (at_ : Nat) (s : State) : State := (s.cntLoadAll at_).relServe

/-- The ceiling of RESERVED counter `n` is written in the background (R338); an opening that waited for it goes on, or fails with
it (R339). -/
def ceilingWrite (n : Fin 64) (verified : Bool) (at_ : Nat) (s : State) : State :=
  let t := s.ceilingWritten n verified at_
  if !verified && n.val = 47 && (s.advance at_).awake && (s.advance at_).ceilDue 47 then t.relCntFailed else t.relServe

/-! ### Frames and the RF PLL -/

/-- SYNC_ACCEPTED (R123, R147, R169, R219): the frame may be the trigger of a capture, a send or a run. -/
def syncAccepted (n : Fin 64) (word : BitVec 32) (hdr : Byte) (at_ : Nat) (s : State) : State :=
  let t := (s.advance at_).syncAccepted n word hdr
  let new : Bool := (s.uch n).phase ≠ 2 && (t.uch n).phase = 2
  let t := if new then t.gatherTrigger 2 n else t
  (t.utxTrigger n).rangeTrigger n

/-- URX_FRAME (R130, R174): in an attempt the firmware takes the records of its channels out of their general queue (R262,
R264). -/
def urxFrame (n : Fin 64) (rx : Reception) (s : State) : State :=
  let c := s.uch n
  let (s, b, bad) := s.frameEnd n rx
  let s := if bad then (s.gatherTrigger 3 n).utxTrigCrc n else s
  let q := s.get (URX_CH_CFG_QUEUE n)
  let s := if s.authHears n && 3 ≤ q then s.drainQueue q (s.queue q).length else s
  if b.isSome || bad then s.authFrame n c.at_ c.ref b else s

/-- URX_JAM (R144). -/
def urxJam (w : Fin 4) (power : BitVec 16) (at_ : Nat) (s : State) : State := (s.advance at_).jamOn w power

/-- RF_PLL_LOCK (R29, R153, R192, R222): the RF PLL loses lock. -/
def rfPllLock (at_ : Nat) (s : State) : State :=
  if !s.awake || s.urx.pllLost then s
  else
    let s := (s.advance at_).raise FID_RF_PLL_LOCK
    ((s.urxPllLost).utxPllLost).rangeStop BAD_STATE

/-- RF_PLL_RELOCK (R29, R153). -/
def rfPllRelock (at_ : Nat) (s : State) : State :=
  if !s.awake || !s.urx.pllLost then s else (s.advance at_).urxRelock

/-! ### Handle edges, poll windows, ranging -/

/-- POLL_WINDOW_END (R93, R143): a hit that restores the poll period is the APPROACH source of REL (R303). -/
def pollWindowEnd (level : BitVec 16) (meas : List LfMeas) (s : State) : State :=
  let (s, t) := s.pollWindowEnd level meas
  match t with
  | some t => s.ewFire 0 t
  | none => s

/-- HANDLE_IN_EDGE (R63, R97). -/
def handleInEdge (i : Fin 5) (high : Bool) (at_ : Nat) (s : State) : State := ((s.advance at_).tmrInput (0x24 + i) high).handleEdge i high

/-- HANDLE_QUALIFIED (R97, R262, R303): the firmware starts an attempt, after the wake where the device is asleep. -/
def handleQualified (i : Fin 5) (s : State) : State :=
  let (s, e) := s.handleQualified i
  match e with
  | none => s
  | some e =>
    let s := s.ewFire 1 e.ref
    if s.awake && s.pwr.fwServing then s.authHandle e
    else if s.auth.edge.isSome then s.furtherEdge e else s.modAuth fun a => { a with edge := some e }

/-- The attempt of an edge that came asleep starts once the units it needs have left STARTING. -/
def State.edgeFollow (s : State) : State :=
  match s.auth.edge with
  | none => s
  | some e =>
    if !s.awake || !s.pwr.fwServing || [4, 5, 6, 9].any (fun b => s.unit b == .starting) then s
    else (s.modAuth fun a => { a with edge := none }).authHandle e

/-- RANGE_DONE (R227). -/
def rangeDone (at_ : Nat) (s : State) : State := s.rangeDone at_

end Sys2Proof.Machine
end

