-- ==== Sys2Proof/Machine/Fault.lean ====
section
/-!
DEFINITION. Machine/Fault.lean: the collector: counting, escalation, fences, the safe state, degraded modes, shadows (R543 to
R558), and what follows every command.
-/
namespace Sys2Proof.Machine

/-- The collector's state as `f` makes it. -/
def State.modFlt (s : State) (f : FltState → FltState) : State := { s with flt := f s.flt }

/-! ### Sources (R545, R567) -/

/-- The index of a source's registers (R566). -/
def srcIx (fid : Nat) : Nat := fid / 256 * 32 + fid % 256

/-- The collector's state of source `fid`. -/
def State.src (s : State) (fid : Nat) : SrcState := (s.flt.srcs.find? (·.fid == fid)).getD { fid := fid }

/-- Source `fid` as `f` makes it. -/
def State.modSrc (s : State) (fid : Nat) (f : SrcState → SrcState) : State :=
  let v := f (s.src fid)
  s.modFlt fun t => { t with srcs := if t.srcs.any (·.fid == fid) then t.srcs.map fun x => if x.fid = fid then v else x
                                     else t.srcs ++ [v] }

/-- The window of source `fid` in low-power cycles (R545, R567). -/
def State.srcWindow (s : State) (fid : Nat) : Nat :=
  let w := s.get (FLT_S_CFG_W (srcIx fid))
  match s.get (FLT_S_CFG_W_UNIT (srcIx fid)) with
  | 0 => lpOfMs w | 1 => lpOfS w | _ => lpOfS (60 * w)

/-- How many of these times, the present one included, fall within the window. -/
def inWindowCount (times : List Nat) (now w : Nat) : Nat := (times.filter fun t => now ≤ t + w).length

/-- A new time among the last 16. -/
def addTime (times : List Nat) (now : Nat) : List Nat := let l := times ++ [now]; l.drop (l.length - 16)

/-- FLT_REACTION (R558). -/
def State.reaction (s : State) (kind fid what : Nat) (inj : Bool) : State :=
  (s.eventBbx EV_FLT_REACTION ([byte kind] ++ le 2 fid ++ [byte what, byte (bit01 inj)]) true).put FLT_STAT_NOTE 1

/-! ### Degraded modes (R553) -/

/-- The condition of mode `k`, or a latched source that forces it (R553). -/
def State.modeNow (s : State) (k : Nat) : Bool :=
  s.forcedMode k ||
    match k with
    | 0 => s.urx.adcBad.any id
    | 1 => s.fenced 7 || s.fenced 6 || s.fenced 5
    | 2 => !s.popInUse
    | 3 => s.lf.unavail.any (· != 0)
    | 4 => s.fenced 13
    | _ => s.time.servo == .holdover

/-- The modes in force as a mask. -/
def State.modesNow (s : State) : Nat := sumNat ((List.range 6).map fun k => bit01 (s.modeNow k) * 2 ^ k)

/-- The modes forced as a mask. -/
def State.modesForced (s : State) : Nat := sumNat ((List.range 6).map fun k => bit01 (s.forcedMode k) * 2 ^ k)

/-- The source that forces mode `k`, and whether by injected events; 0xFFFF where the mode's condition alone holds
(notes/assumptions/27.md). -/
def State.modeForcer (s : State) (k : Nat) : Nat × Bool :=
  match s.flt.srcs.find? fun r => r.mode == some k || r.injMode == some k with
  | some r => (r.fid, r.mode != some k)
  | none => (0xFFFF, false)

/-- A change of mode `k` is recorded: an entry under its forcer, an exit under the FID of the entry (R553, R558). -/
def State.modeChange (s : State) (k : Nat) : State :=
  if s.modeNow k then
    let c := s.modeForcer k
    (s.modFlt fun t => { t with modes := t.modes ||| 2 ^ k, modeBy := t.modeBy.set k c }).reaction 6 c.1 k c.2
  else
    let c := s.flt.modeBy.getD k (0xFFFF, false)
    (s.modFlt fun t => { t with modes := t.modes - 2 ^ k }).reaction 7 c.1 k c.2

/-- Entries to and exits from modes are recorded (R553). -/
def State.modeSync (s : State) : State :=
  (List.range 6).foldl (fun s k => if s.modeNow k = (bitAt s.flt.modes k = 1) then s else s.modeChange k) s

/-! ### Fences (R549, R550) -/

/-- Every item of every queue is discarded and open items end with FENCED (R453). -/
def State.qmFence (s : State) : State :=
  { s with qm := { s.qm with
      queues := List.replicate 128 []
      push := s.qm.push.map fun p => if p.item.isSome then { p with item := none, status := FENCED } else p
      pop := s.qm.pop.map fun p => if p.item.isSome then { p with item := none, status := FENCED } else p
      evtLost := false, lost := 0 } }

/-- What becomes of the work of block `b` in a fence: each unit's chapter. -/
def State.fenceWork (s : State) (b : Nat) : State :=
  match b with
  | 3 => s.tmrSyncAll
  | 4 => s.lfFence
  | 5 => s.urxFence.rangeStop FENCED
  | 6 => (s.rangeStop FENCED).utxStop FENCED
  | 7 => s.rangeStop FENCED
  | 8 => s.zoneStop FENCED
  | 9 => ((s.authBreak FENCED).flowBreak FENCED 3).credFence
  | 10 => s.relFence
  | 11 => ((s.authBreak FENCED).flowBreak FENCED 3).aesFence
  | 12 => (s.authBreak FENCED).rngFence
  | 13 => s.hfrStop FENCED
  | 14 => s.vltFence
  | 15 => s.qmFence
  | 20 => s.wlkFence
  | 21 =>
    let out := s.cnt.pend.filter fun r => some r != s.cntWriting
    let s := s.cntFence.relCntFailed
    let s := if out.any (·.src == 3) then s.epochCounted FENCED else s
    if out.any (·.src == 4) then s.confirmCounted FENCED else s
  | _ => s

/-- The unit with block number `b` is fenced by the event of `fid` (R549, R554, R581). -/
def State.fenceUnit (s : State) (b fid : Nat) (inj : Bool) : State :=
  if s.fenced b then s
  else
    let s := (s.fenceWork b).cfgAtFence b
    let s := s.setUnit b .fenced
    let s := s.modFlt fun t => { t with fences := t.fences.filter (·.block != b) ++ [{ block := b, fid := fid, injected := inj }] }
    s.reaction 2 fid b inj

/-- The state a unit has on release (R550; R106, R153, R192, R385: OFF). -/
def State.releaseWork (s : State) (b : Nat) : State :=
  let up := s.setUnit b (if hasEn b && !s.flag (enField b) then .off else .starting)
  match b with
  | 4 => (s.setUnit 4 .off).lfRelease
  | 5 => up.urxRelease
  | 6 => s.setUnit 6 .off
  | 12 => up.modRng fun g => { g with cause := 4 }
  | 13 => (s.setUnit 13 .off).hfrRelease
  | _ => up

/-- The fence of unit `b` is released; its sources stay shadowed for 10 µs (R550, R554). -/
def State.releaseUnit (s : State) (b fid : Nat) (inj : Bool) : State :=
  if !s.fenced b then s
  else
    let end_ := 10 * Config.usTicks + s.time.now
    let s := s.modFlt fun t => { t with fences := t.fences.map fun f => if f.block = b then { f with until_ := some end_ } else f }
    (s.reaction 3 fid b inj).releaseWork b

/-- A latched source holds the fence of unit `b` (R550). -/
def State.fenceHeld (s : State) (b : Nat) : Bool := s.flt.srcs.any fun r => r.fid / 256 == b && (r.fence || r.injFence)

/-! ### The safe state (R551, R552) -/

/-- A latched source holds the safe state. -/
def State.safeHeld (s : State) : Bool := s.flt.srcs.any fun r => r.safe || r.injSafe

/-- A FATAL is latched. -/
def State.fatalLatched (s : State) : Bool := s.flt.srcs.any fun r => r.latch == 2 || r.injLatch == 2

/-- nFAULT is asserted (R552, R619). -/
def State.nfault (s : State) : Bool :=
  s.safeState || s.fatalLatched || s.pwr.lockout || (match s.pwr.wake with | some w => w.powerOn | none => false)
    || (s.flag FLT_CTRL_NF_SEVERE && s.flt.srcs.any fun r => r.latch != 0 || r.injLatch != 0)

/-- The pad groups that SAFE_STATE holds: 0 to 4, 8 and 9 (R551). -/
def safePads : Nat := 0x31F

/-- SAFE_STATE is entered by the event of `fid` (R551). Its stops are complete within 2.0 µs, and LF and UHF sources stay
shadowed for 10 µs more (R554). -/
def State.enterSafe (s : State) (fid : Nat) (inj : Bool) : State :=
  if s.safeState then s
  else
    let s := s.modFlt fun t => { t with safe := some fid, safeInjected := inj }
    let s := s.relForceOff BAD_STATE
    let s := if s.fenced 4 then s else s.lfStop BAD_STATE
    let s := if s.fenced 13 then s else s.hfrStop FENCED
    let s := (s.rangeStop FENCED).utxStop FENCED
    let s := { s with pwr := { s.pwr with padsHeld := s.pwr.padsHeld ||| safePads, safeHeld := safePads - (safePads &&& s.pwr.padsHeld) } }
    let s := s.modFlt fun t => { t with safeShadow := some (fid, 12 * Config.usTicks + s.time.now) }
    s.reaction 4 fid (fid / 256) inj

/-- The safe state ends once nothing holds it (R551). -/
def State.leaveSafe (s : State) (fid : Nat) (inj : Bool) : State :=
  if !s.safeState || s.safeHeld || s.fatalLatched then s
  else (s.modFlt fun t => { t with safe := none, safeInjected := false }).reaction 5 fid (fid / 256) inj

/-! ### Cascades (R554) -/

/-- The sources of other blocks that depend on fenced unit `b` (R554). -/
def dependents (b : Nat) : List Nat :=
  match b with
  | 5 => [FID_RANGE_LOOPBACK, FID_RANGE_TIMING, FID_RANGE_CORR, FID_RANGE_WORKER, FID_UTX_TURNAROUND, FID_UTX_LBT_BUSY, FID_UTX_CAL_FAIL]
  | 6 => [FID_RANGE_LOOPBACK, FID_RANGE_TIMING, FID_URX_SENTINEL]
  | 11 => [FID_CRED_UNWRAP, FID_CRED_LATE]
  | 15 => [FID_URX_DROP, FID_HIF_CMD_TIMEOUT, FID_QM_EVT_LOST]
  | 20 => [FID_RANGE_WORKER]
  | _ => []

/-- Fence record `f` shadows the source `fid` with this instance now. -/
def FenceRec.shadows (f : FenceRec) (now fid inst : Nat) : Bool :=
  (match f.until_ with | none => true | some t => now < t)
    && (fid / 256 == f.block || (dependents f.block).contains fid || (f.block == 10 && fid == FID_PAD_READBACK && inst == 0))

/-- The parent under which source `fid` is shadowed now (R554). -/
def State.eventParent (s : State) (fid inst : Nat) : Option Nat :=
  match s.flt.fences.find? (·.shadows s.time.now fid inst) with
  | some f => some f.fid
  | none =>
    match s.flt.safeShadow with
    | some (p, t) =>
      if s.time.now < t && [FID_LF_REG_FAIL, FID_LF_PHASE_FAIL, FID_UTX_TURNAROUND, FID_UTX_FEM_READBACK].contains fid then some p
      else none
    | none => none

/-- SHADOW_END (R554): the shadow that ends first is over. -/
def shadowEnd (s : State) : State :=
  let ends := s.flt.fences.filterMap (·.until_) ++ (match s.flt.safeShadow with | some (_, t) => [t] | none => [])
  match ends with
  | [] => s
  | e :: l =>
    let s := s.advance (l.foldl min e)
    s.modFlt fun t =>
      let past : Bool := match t.safeShadow with | some (_, x) => decide (x ≤ s.time.now) | none => false
      { t with fences := t.fences.filter (fun f => match f.until_ with | some x => decide (s.time.now < x) | none => true)
               safeShadow := if past then none else t.safeShadow }

/-! ### Taking an event (R545, R546, R554 to R557) -/

/-- The fault record of R557 goes to BBX, and to queue 0 where its reaction is at least NOTIFY. -/
def State.faultRecord (s : State) (r : Raised) (sev react parent count extra : Nat) (notify : Bool) : State :=
  let d := [byte sev, byte react] ++ le 2 parent ++ [byte count, byte r.inst] ++ padTo 8 r.data
  let q := s.quality + (if r.recon && s.quality / 4 % 2 = 0 then 4 else 0) + extra
  let b := mkRecord (r.ts.getD s.stamp) r.fid (r.fid / 256) q (s.cfgEpoch (r.fid / 256)) d
  let s := s.bbxPut b r.fid false
  if notify then (s.pushEvtItem b (r.fid / 256)).put FLT_STAT_NOTE 1 else s

/-- The severe reaction `k` of a source takes effect (R546, R550, R551). -/
def State.react (s : State) (fid k mode : Nat) (inj : Bool) : State :=
  let b := fid / 256
  let hold (f : SrcState → SrcState) (g : SrcState → SrcState) := s.modSrc fid (if inj then g else f)
  match k with
  | 1 => (hold (fun r => { r with fence := true }) (fun r => { r with injFence := true })).fenceUnit b fid inj
  | 2 =>
    let s := hold (fun r => { r with mode := some mode }) (fun r => { r with injMode := some mode })
    if mode = 5 then s.setServo .holdover else s
  | 3 | 4 =>
    let u := isUnit b
    let s := hold (fun r => { r with safe := true, fence := u || r.fence }) (fun r => { r with injSafe := true, injFence := u || r.injFence })
    let s := if u then s.fenceUnit b fid inj else s
    s.enterSafe fid inj
  | _ => s

/-- An event that is not consequential has been counted with `count`: its record and reactions. `k` is its severe reaction. -/
def State.escalate (s : State) (r : Raised) (count k : Nat) (severe was : Bool) (inj react : Bool) : State :=
  let i := srcIx r.fid
  let base := s.get (FLT_S_CFG2_BASE_SEV i)
  let note := s.flag (FLT_S_CFG2_NOTIFY i)
  let x := s.src r.fid
  let latch := if inj then x.injLatch else x.latch
  let sev := if severe then (if k = 4 then 3 else 2) else if was then latch + 1 else base
  let code := if inj && !react then 6 else if severe then k + 1 else bit01 note
  let s := s.faultRecord r sev code 0xFFFF count (if inj then 16 else 0) (note || (severe && k = 0))
  if !severe then s
  else
    let l := if k = 4 then 2 else 1
    let s := s.modSrc r.fid fun x => if inj then { x with injLatch := l, injInst := r.inst } else { x with latch := l, inst := r.inst }
    let s := s.reaction (l - 1) r.fid (r.fid / 256) inj
    (s.react r.fid k (s.get (FLT_S_CFG2_DEG_MODE i)) inj).modeSync

/-- The collector takes a real event (R545, R546, R554). -/
def State.takeEvent (s : State) (r : Raised) : State :=
  if (sourceRow r.fid).isNone then s
  else
    let i := srcIx r.fid
    let parent := s.eventParent r.fid r.inst
    let s := (s.bump FLT_EVENTS).put FLT_LAST (r.fid + 2 ^ 16 * bit01 parent.isSome)
    let s := s.modSrc r.fid fun x => { x with lastRef := r.ts.getD s.stamp }
    match parent with
    | some p =>
      (s.bump FLT_CONSEQ).faultRecord r (s.get (FLT_S_CFG2_BASE_SEV i)) 6 p (s.src r.fid).wcount 32 (s.flag (FLT_S_CFG2_NOTIFY i))
    | none =>
      let x := s.src r.fid
      let times := addTime x.times s.time.lp
      let n := inWindowCount times s.time.lp (s.srcWindow r.fid)
      let s := s.modSrc r.fid fun x => { x with times := times, wcount := n, out := true }
      let s := s.bump (FLT_S_STATUS_TOTAL i)
      let lim := s.get (FLT_S_CFG_N i)
      let severe : Bool := x.latch == 0 && lim != 0 && lim ≤ n
      s.escalate r n (s.get (FLT_S_CFG_SEV_REACT i)) severe (x.latch != 0) false true

/-- The collector takes an injected event (R555, R556): `react` and `override_` as the harness has set them. -/
def State.takeInjected (s : State) (r : Raised) (react : Bool) (override_ : Option Nat) : State :=
  let i := srcIx r.fid
  let parent := s.eventParent r.fid r.inst
  let s := ((s.bump FLT_EVENTS).bump FLT_INJ_EVENTS).put FLT_LAST (r.fid + 2 ^ 16 * bit01 parent.isSome + 2 ^ 17)
  let x := s.src r.fid
  match parent with
  | some p =>
    (s.bump FLT_CONSEQ).faultRecord r (s.get (FLT_S_CFG2_BASE_SEV i)) 6 p (inWindowCount x.injTimes s.time.lp (s.srcWindow r.fid)) 48
      (s.flag (FLT_S_CFG2_NOTIFY i))
  | none =>
    let times := addTime x.injTimes s.time.lp
    let n := inWindowCount times s.time.lp (s.srcWindow r.fid)
    let s := s.modSrc r.fid fun x => { x with injTimes := times }
    let lim := s.get (FLT_S_CFG_N i)
    let severe : Bool := react && x.injLatch == 0 && lim != 0 && lim ≤ n
    s.escalate r n (override_.getD (s.get (FLT_S_CFG_SEV_REACT i))) severe (react && x.injLatch != 0) true react

/-- An event reported in P2 to P4 is held, up to 16 of them (R547). -/
def State.holdEvent (s : State) (r : Raised) : State :=
  if 16 ≤ s.flt.held.length then s.bump FLT_EVENTS
  else s.modFlt fun t => { t with held := t.held ++ [{ r with ts := some s.stamp, recon := true }] }

/-- An event in its place by FID (R547). -/
def insertFid (r : Raised) : List Raised → List Raised
  | [] => [r]
  | x :: l => if r.fid < x.fid then r :: x :: l else x :: insertFid r l

/-- Events of one cycle in ascending FID order (R547). -/
def byFid (l : List Raised) : List Raised := l.foldl (fun a r => insertFid r a) []

/-- The collector takes what has been reported, and what that leads to (`fuel` rounds at most). -/
def State.collect (s : State) : Nat → State
  | 0 => s
  | fuel + 1 =>
    match s.flt.raised with
    | [] => s
    | l =>
      let s := s.modFlt fun t => { t with raised := [] }
      ((byFid l).foldl (fun s r => if s.awake then s.takeEvent r else s.holdEvent r) s).collect fuel

/-! ### What follows a command -/

/-- The firmware has taken note of the ends it waited for. -/
def State.dropEnds (s : State) : State :=
  if s.auth.edge.isSome || !s.awake then s
  else { s with lf := { s.lf with fin := [] }, utx := { s.utx with fin := [] } }

/-- REL takes the UNLOCK source event (R303). -/
def State.unlockFollow (s : State) : State :=
  match s.auth.unlocked with
  | none => s
  | some t => (s.modAuth fun a => { a with unlocked := none }).ewFire 2 t

/-- A window that starts stops an RSSI step (R186), which needs every window OFF (R183). -/
def State.rssiFollow (s : State) : State :=
  match s.utx.run with
  | some r => if r.due.item = 3 && s.urx.wins.any (·.st != .off) then s.calPreempt else s
  | none => s

/-- What the firmware and the blocks go on with: the attempt, the release, the reader, the vault, and changes that waited for a
boundary or the LF transmitter. -/
def State.follow (s : State) : State :=
  ((((((((s.edgeFollow).rssiFollow).authRun 64).unlockFollow).relFollow).hfrFollow).vltFollow).dropEnds).boundaries.calBack.lfDiagBegin.portsOut.lfSave.mapSwitch.workerFollow.poolFollow.haltFollow

/-- What follows every command: the consequences within the device, and the collector's part. -/
def State.settle (s : State) : State :=
  let s := s.follow.collect 8
  let s := if s.awake then s.modeSync else s
  s.follow.collect 8

end Sys2Proof.Machine
end

