-- ==== Sys2Proof/Machine/Bbx.lean ====
section
/-!
DEFINITION. Machine/Bbx.lean: the black box (R559 to R562, R568 to R570, R574) and the commands of FLT (R571 to R573, R575, R598).
-/
namespace Sys2Proof.Machine

/-! ### The two halves (R559, R561) -/

/-- The black box state as `f` makes it. -/
def State.modBbx (s : State) (f : BbxState → BbxState) : State := { s with bbx := f s.bbx }

/-- The address of slot `k` of half `h` (R559). -/
def bbxAddr (h k : Nat) : Nat := 0x20040000 + 0x8000 * h + 32 * k

/-- The 32 bytes of a slot. -/
def State.bbxSlot (s : State) (h k : Nat) : List Byte := s.readMem (bbxAddr h k) 32

/-- A record whose CRC is right (R440). -/
def recordOk (b : List Byte) : Bool := crc16 (b.take 28) == u16 b 28

/-- A slot that nothing has been written to since its erase. -/
def bbxErased (b : List Byte) : Bool := b == List.replicate 32 0xFF

/-- GEN and ERASES of half `h`, where its header is valid (R559). -/
def State.bbxHeader (s : State) (h : Nat) : Option (Nat × Nat) :=
  let b := s.bbxSlot h 0
  if recordOk b && u16 b 8 = EV_BBX_HALF then some (u32 b 14, u32 b 18) else none

/-- ERASES of half `h`. -/
def State.bbxErases (s : State) (h : Nat) : Nat := if h = 0 then s.bbx.erasesA else s.bbx.erasesB

/-- ERASES of half `h` becomes `n`. -/
def State.setErases (s : State) (h n : Nat) : State :=
  s.modBbx fun b => if h = 0 then { b with erasesA := n } else { b with erasesB := n }

/-- A protected record takes a token where one is available; else it counts as unmetered (R562). -/
def State.bbxProtectedToken (s : State) : State :=
  if s.bbx.tokens = 0 then s.bump BBX_UNMETERED else s.modBbx fun b => { b with tokens := b.tokens - 1 }

/-- A BBX_HALF header opens half `h` with generation `gen` (R559, R560, R570): writing goes on in its slot 1. -/
def State.openHalf (s : State) (h gen : Nat) : State :=
  let n := s.bbxErases h + 1
  let s := s.eraseMem (bbxAddr h 0) 0x8000
  let d := le 4 gen ++ le 4 n ++ [byte h] ++ le 2 (satNat 16 s.bbx.lostSinceHalf)
  let s := s.writeMem (bbxAddr h 0) (mkRecord s.stamp EV_BBX_HALF 0x12 s.quality (s.cfgEpoch 18) d)
  let s := (s.setErases h n).modBbx fun b => { b with half := h, slot := 1, gen := gen, erasing := false, lostSinceHalf := 0 }
  let s := (s.bbxProtectedToken).bump BBX_WRITTEN
  if 900000 < n then s.raise FID_BBX_WEAR else s

/-- The slots 1 to 1023 of half `h` as they stand. -/
def State.bbxSlots (s : State) (h : Nat) : List (List Byte) := (List.range 1023).map fun k => s.bbxSlot h (k + 1)

/-- The first erased slot after every slot written, 1024 where the half is full (R561). -/
def freeSlotOf (l : List (List Byte)) : Nat := 1024 - (l.reverse.takeWhile bbxErased).length

/-- The scan of R561: the current half, where writing goes on, and the records that fail their CRC. -/
def State.bbxScan (s : State) : State :=
  let hs := [s.bbxHeader 0, s.bbxHeader 1]
  let er (h : Nat) : Nat := match hs.getD h none with | some (_, e) => e | none => s.bbxErases h
  let s := s.modBbx fun b => { b with ready := true, erasing := false, erasesA := er 0, erasesB := er 1 }
  let cur : Option (Nat × Nat) := match hs.getD 0 none, hs.getD 1 none with
    | some (a, _), some (b, _) => if a < b then some (1, b) else some (0, a)
    | some (a, _), none => some (0, a)
    | none, some (b, _) => some (1, b)
    | none, none => none
  match cur with
  | none => ((s.modBbx fun b => { b with erasesA := 0, erasesB := 0 }).eraseMem (bbxAddr 1 0) 0x8000).openHalf 0 1
  | some (h, g) =>
    let mine := s.bbxSlots h
    let other := if (hs.getD (1 - h) none).isSome then s.bbxSlots (1 - h) else []
    let next := freeSlotOf mine
    let bad (l : List (List Byte)) := (l.filter fun b => !bbxErased b && !recordOk b).length
    let lastBad : Bool := match mine[next - 2]? with | some b => 1 < next && !recordOk b | none => false
    let n := bad mine + bad other
    let s := if other.isEmpty then s.eraseMem (bbxAddr (1 - h) 0) 0x8000 else s
    let s := (s.modBbx fun b => { b with half := h, slot := next, gen := g, erasing := decide (1024 ≤ next) }).put BBX_BADCRC n
    if bit01 lastBad < n then s.raise FID_BBX_RECORD else s

/-! ### Writing (R560, R562) -/

/-- What BBX keeps of source `k`. -/
def State.bbxSrc (s : State) (k : Nat) : BbxSrc := (s.bbx.srcs.find? (·.key == k)).getD { key := k }

/-- Source `k` as `f` makes it. -/
def State.modBbxSrc (s : State) (k : Nat) (f : BbxSrc → BbxSrc) : State :=
  let v := f (s.bbxSrc k)
  s.modBbx fun b => { b with srcs := if b.srcs.any (·.key == k) then b.srcs.map fun x => if x.key = k then v else x else b.srcs ++ [v] }

/-- The row of the next slot is programmed; one that fails its verify leaves the slot unusable (R560). -/
def State.bbxProgram (s : State) (bytes : List Byte) (verified : Bool) : State :=
  let a := bbxAddr s.bbx.half s.bbx.slot
  let s := if verified then (s.writeMem a bytes).bump BBX_WRITTEN
    else let (b, s) := s.freshBytes 32; (s.writeMem a b).raise FID_BBX_NV
  let n := s.bbx.slot + 1
  s.modBbx fun b => { b with slot := n, erasing := decide (1024 ≤ n) }

/-- The BBX_SUPPRESSED record of source `x` is written with a token of its own (R562, R570). -/
def State.bbxSuppressed (s : State) (x : BbxSrc) (verified : Bool) : State :=
  let d := le 2 x.key ++ le 2 (satNat 16 x.refused) ++ le 4 (x.startRef / 2 ^ 32) ++ le 2 s.bbx.tokens
  let s := s.bbxProgram (mkRecord s.stamp EV_BBX_SUPPRESSED 0x12 s.quality (s.cfgEpoch 18) d) verified
  if verified then (s.modBbx fun b => { b with tokens := b.tokens - 1 }).modBbxSrc x.key fun x => { x with refused := 0 } else s

/-- Low-power cycles of the 60 s of R562. -/
def bbxSpan : Nat := lpOfS 60

/-- The records of source `x` written in the last 60 s. -/
def State.bbxRecent (s : State) (x : BbxSrc) : List Nat := x.times.filter fun t => s.time.lp < t + bbxSpan

/-- A record is refused by the limits (R562): it is counted, under the interval that its source is in. -/
def State.bbxRefuse (s : State) (x : BbxSrc) : State :=
  let start := (s.bbxRecent x).headD s.time.lp
  let back := (s.time.lp - start) * s.time.lpPeriod / 4096
  let s := s.modBbxSrc x.key fun x =>
    if x.refused = 0 then { x with refused := 1, startLp := start, startRef := s.refNow - back } else { x with refused := x.refused + 1 }
  s.bump BBX_SUPPRESSED

/-- The oldest buffered record is written, or refused (R562). -/
def State.bbxNext (s : State) (r : BbxRec) (rest : List BbxRec) (verified : Bool) : State :=
  let drop (s : State) : State := s.modBbx fun b => { b with buf := rest }
  let x := s.bbxSrc r.key
  if r.protected_ then
    let s := s.bbxProgram r.bytes verified
    if verified then (drop s).bbxProtectedToken else s
  else if s.bbx.tokens = 0 || 8 ≤ (s.bbxRecent x).length then (drop s).bbxRefuse x
  else if x.refused ≠ 0 && 2 ≤ s.bbx.tokens then s.bbxSuppressed x verified
  else
    let s := s.bbxProgram r.bytes verified
    if verified then
      ((drop s).modBbx fun b => { b with tokens := b.tokens - 1 }).modBbxSrc r.key fun x => { x with times := addTime x.times s.time.lp }
    else s

/-- BBX_RECORD_WRITE (R560, R562): a pending BBX_SUPPRESSED record whose interval is over goes first. -/
def bbxRecordWrite (verified : Bool) (s : State) : State :=
  if !s.bbx.ready || s.bbx.erasing || !s.awake then s
  else
    match s.bbx.srcs.find? fun x => x.refused ≠ 0 && x.startLp + bbxSpan ≤ s.time.lp && s.bbx.tokens ≠ 0 with
    | some x => s.bbxSuppressed x verified
    | none =>
      match s.bbx.buf with
      | [] => s
      | r :: rest => s.bbxNext r rest verified

/-- BBX_HALF_ERASED (R560). -/
def bbxHalfErased (at_ : Nat) (s : State) : State :=
  if !s.bbx.ready || !s.bbx.erasing || !s.awake then s else (s.advance at_).openHalf (1 - s.bbx.half) (s.bbx.gen + 1)

/-- BBX_TOKEN_TICK (R562): once per second of the low-power clock. -/
def bbxTokenTick (s : State) : State :=
  let s := s.advanceLp (32768 + s.bbx.tickLp)
  s.modBbx fun b => { b with tokens := min 256 (b.tokens + 1), tickLp := 32768 + b.tickLp }

/-- What the black box loses at a reset (R560, R562): power-on empties the buffer and fills the bucket. -/
def State.bbxReset (s : State) (power : Bool) : State :=
  s.modBbx fun b => if power then { tickLp := s.time.lp } else { b with ready := false }

/-! ### BBX_READ (R574) -/

/-- The records held, with their RSEQ, oldest first: the other half where its generation precedes, then the current one. -/
def State.bbxHeld (s : State) : List (Nat × List Byte) :=
  let recs (h gen last : Nat) := ((List.range last).map fun k => (1024 * gen + k, s.bbxSlot h k)).filter fun x => !bbxErased x.2
  let o := 1 - s.bbx.half
  let old := match s.bbxHeader o with
    | some (g, _) => if g < s.bbx.gen && !s.bbx.erasing then recs o g 1024 else []
    | none => []
  old ++ recs s.bbx.half s.bbx.gen (min 1024 s.bbx.slot)

/-- BBX_READ (R574). -/
def bbxRead (m : Master) (p : List Byte) (s : State) : State :=
  let from_ := u32 p 0
  let n := u8 p 4
  hostCmd 0xC3 m p [lenIs p 8, paramOk (within 1 64 n && zeroAt p 5 3)]
    (fun s =>
      if !s.bbx.ready then s.ends BAD_STATE
      else
        let all := s.bbxHeld
        let l := if from_ = 0xFFFFFFFF then all.drop (all.length - n) else (all.filter fun x => from_ ≤ x.1).take n
        let first := match l with | x :: _ => x.1 | [] => from_
        let mask := sumNat ((List.range l.length).map fun k => bit01 (!recordOk (l.getD k (0, [])).2) * 2 ^ k)
        (s, OK, le 4 first ++ [byte l.length, 0, 0, 0] ++ le 8 mask ++ l.flatMap (·.2))) s

/-! ### The collector's registers as they stand (R566, R567) -/

/-- Sources latched, ascending. -/
def State.latchedFids (s : State) : List Nat :=
  (faultSources.filter fun r => let x := s.src r.fid; x.latch != 0 || x.injLatch != 0).map (·.fid)

/-- STATE of source `fid`: real latches only. -/
def State.srcState (s : State) (fid : Nat) : Nat := (s.src fid).latch

/-- FLT_STAT.HIGHEST: among latched sources and those that have reported since their last clear (notes/assumptions/28.md). -/
def State.highest (s : State) : Nat :=
  s.flt.srcs.foldl (fun a x =>
    max a (if x.latch ≠ 0 || x.injLatch ≠ 0 then max x.latch x.injLatch + 2
           else if x.out then 1 + s.get (FLT_S_CFG2_BASE_SEV (srcIx x.fid)) else 0)) 0

/-- FLT_FENCED. -/
def State.fencedMask (s : State) : Nat := sumNat ((List.range 23).map fun b => bit01 (s.fenced b) * 2 ^ b)

/-! ### Commands -/

/-- FLT_STATUS (R571). -/
def fltStatus (m : Master) (p : List Byte) (s : State) : State :=
  hostCmd 0xC0 m p [(p.isEmpty || p.length = 2, BAD_LENGTH)]
    (fun s =>
      if p.isEmpty then
        let l := s.latchedFids
        (s, OK, [byte s.highest, byte (bit01 s.safeState + 2 * bit01 s.fatalLatched + 4 * bit01 s.nfault + 8 * bit01 s.sys.test),
          byte s.modesNow, byte s.modesForced] ++ le 4 s.fencedMask ++ le 2 (s.flt.safe.getD 0xFFFF) ++ le 2 l.length
          ++ le 4 (s.get FLT_EVENTS) ++ (List.range 8).flatMap fun k => le 2 (l.getD k 0xFFFF))
      else
        let f := u16 p 0
        let i := srcIx f
        if (sourceRow f).isNone then s.ends NOT_FOUND
        else
          (s, OK, le 2 f ++ [byte (s.srcState f), byte (s.src f).wcount] ++ le 2 (s.get (FLT_S_STATUS_TOTAL i)) ++ [0, 0]
            ++ le 4 (s.get (FLT_S_CFG i)) ++ le 4 (s.get (FLT_S_CFG2 i)) ++ le 8 (s.src f).lastRef)) s

/-- The window of source `fid` is emptied (R545). -/
def State.emptyWindow (s : State) (fid : Nat) : State := s.modSrc fid fun x => { x with times := [], wcount := 0, injTimes := [] }

/-- CFG and CFG2 of source `fid` take new words (R545, R572): a new N or W empties the window. -/
def State.setSource (s : State) (fid cfg cfg2 : Nat) : State :=
  let i := srcIx fid
  let old := s.get (FLT_S_CFG i)
  let s := s.setReg (FLT_S_CFG i).addr (BitVec.ofNat 32 cfg)
  let s := (((s.put (FLT_S_CFG2_DEG_MODE i) (bitsAt cfg2 0 3)).put (FLT_S_CFG2_BASE_SEV i) (bitsAt cfg2 4 1)).put
    (FLT_S_CFG2_NOTIFY i) (bitsAt cfg2 5 1))
  if bitsAt old 0 28 ≠ bitsAt cfg 0 28 then s.emptyWindow fid else s

/-- FLT_CONFIG (R546, R553, R567, R572). -/
def fltConfig (m : Master) (p : List Byte) (s : State) : State :=
  let f := u16 p 0
  let c := u32 p 4
  let c2 := u32 p 8
  let i := srcIx f
  let known := (sourceRow f).isSome
  hostCmd 0xC1 m p
    [lenIs p 12, paramOk (zeroAt p 2 2),
     paramOk (bitsAt c 0 5 ≤ 16 && bitsAt c 5 3 = 0 && bitsAt c 8 16 ≠ 0 && bitsAt c 24 2 ≠ 3 && bitsAt c 26 2 = 0
       && bitsAt c 31 1 = 0 && bitsAt c 28 3 ≤ 4 && bitsAt c2 0 3 ≤ 5 && bitsAt c2 3 1 = 0 && bitsAt c2 8 24 = 0),
     paramOk (!known || reactOk f (bitsAt c 28 3) (bitsAt c2 0 3))]
    (fun s =>
      if !known then s.ends NOT_FOUND
      else if s.flag (FLT_S_CFG2_FIXED i) then s.ends ACCESS_DENIED
      else if s.flag FLT_CTRL_LOCK && (c ≠ s.get (FLT_S_CFG i) || c2 % 64 ≠ s.get (FLT_S_CFG2 i) % 64) then s.ends ACCESS_DENIED
      else
        let s := s.setSource f c c2
        (s, OK, [byte (s.srcState f)])) s

/-- The readback of REL_FB_A or REL_FB_B disagrees with the off state (R295, R550). -/
def State.fbDisagrees (s : State) (fid : Nat) : Bool :=
  (fid = FID_REL_FB_A || fid = FID_REL_FB_B) && (s.rel.fbA || !s.rel.fbB)

/-- A latched tell-tale fault is cleared (R309). -/
def State.ttClear (s : State) (k : Nat) : State := s.setTt { s.rel.tt with faults := s.rel.tt.faults - bitAt s.rel.tt.faults k * 2 ^ k }

/-- Source `fid` is cleared (R550, R573): its latches and what it holds; `windows` empties its window and TOTAL too. -/
def State.clearSource (s : State) (fid : Nat) (windows : Bool) : State :=
  let s := s.modSrc fid fun x =>
    { fid := fid, times := x.times, wcount := x.wcount, injTimes := x.injTimes, lastRef := x.lastRef }
  let s := if windows then (s.emptyWindow fid).put (FLT_S_STATUS_TOTAL (srcIx fid)) 0 else s
  let s := if fid = FID_REL_FB_A then s.relClearFault false else if fid = FID_REL_FB_B then s.relClearFault true else s
  let s := if [FID_TT_OPEN, FID_TT_REG, FID_TT_STUCK_ON].contains fid then s.ttClear (fid - FID_TT_OPEN) else s
  if fid = FID_URX_ADC_A then s.adcCheckStart false else if fid = FID_URX_ADC_B then s.adcCheckStart true
  else if fid = FID_URX_SENTINEL then { s with urx := { s.urx with sentBad := false } }
  else if fid = FID_HFR_VHF then s.modHfr fun h => { h with vhfBad := false } else s

/-- Fences, the safe state and modes that nothing holds any more are released (R550, R551, R553). -/
def State.releaseAll (s : State) (fid : Nat) (inj : Bool) : State :=
  let by_ (own : Option Nat) : Nat := if fid = 0xFFFF then own.getD fid else fid
  let s := (List.range 23).foldl (fun s b =>
    if s.fenced b && !s.fenceHeld b then s.releaseUnit b (by_ ((s.flt.fences.find? (·.block == b)).map (·.fid))) inj else s) s
  (s.leaveSafe (by_ s.flt.safe) inj).modeSync

/-- The source may be cleared (R573). -/
def State.clearable (s : State) (fid : Nat) : Bool := (s.src fid).latch != 2 && (s.src fid).injLatch != 2 && !s.fbDisagrees fid

/-- FLT_CLEAR (R550, R551, R573). -/
def fltClear (m : Master) (p : List Byte) (s : State) : State :=
  let f := u16 p 0
  let w := u8 p 2 = 1
  hostCmd 0xC2 m p [lenIs p 4, paramOk (u8 p 2 < 2 && u8 p 3 = 0)]
    (fun s =>
      let all := f = 0xFFFF
      if !all && (sourceRow f).isNone then s.ends NOT_FOUND
      else if !all && !s.clearable f then s.ends BAD_STATE
      else
        let l := if all then (s.flt.srcs.map (·.fid)).filter s.clearable else [f]
        let n := (l.filter fun f => (s.src f).latch != 0 || (s.src f).injLatch != 0).length
        let s := (l.foldl (fun s f => s.clearSource f w) s).put FLT_STAT_NOTE 0
        let s := s.releaseAll f false
        let s := s.put FLT_STAT_NOTE 0
        let s := s.eventBbx EV_FLT_CLEARED (le 2 f ++ le 2 n ++ le 4 s.fencedMask) true
        (s, OK, le 4 s.fencedMask ++ [byte s.modesForced, byte (bit01 s.safeState)] ++ le 2 s.latchedFids.length)) s

/-- FLT_INJECT (R555, R575): the events follow one per microsecond. -/
def fltInject (m : Master) (p : List Byte) (s : State) : State :=
  let f := u16 p 0
  let fl := u8 p 2
  let overrides := fl / 2 % 2 = 1
  let known := (sourceRow f).isSome
  hostCmdLater 0xC4 m p
    [lenIs p 20, paramOk (fl < 4 && within 1 16 (u8 p 4) && zeroAt p 5 3 && zeroAt p 17 3 && u8 p 3 ≤ (if overrides then 4 else 0)),
     paramOk (!known || !overrides || reactOk f (u8 p 3) (s.get (FLT_S_CFG2_DEG_MODE (srcIx f))))]
    (fun c s =>
      if !s.sys.test then (s, some (FACTORY_ONLY, []))
      else if !known then (s, some (NOT_FOUND, []))
      else if s.flt.inject.isSome then (s, some (BUSY, []))
      else
        let j : Injection := {
          fid := f, react := bitAt fl 0 = 1, override_ := if overrides then some (u8 p 3) else none, left := u8 p 4, count := u8 p 4
          inst := u8 p 8, data := (p.drop 9).take 8, at_ := s.time.now, master := m, ctx := c }
        (s.modFlt fun t => { t with inject := some j }, none)) s

/-- INJECTED_EVENT (R555): the next event is recorded; after the last the command replies. -/
def injectedEvent (s : State) : State :=
  match s.flt.inject with
  | none => s
  | some j =>
    let s := s.advance (j.at_ + Config.usTicks * (j.count - j.left))
    let s := s.takeInjected { fid := j.fid, inst := j.inst, data := j.data } j.react j.override_
    if j.left ≤ 1 then
      (s.modFlt fun t => { t with inject := none }).answer j.master 0xC4 j.ctx OK (le 2 j.count)
    else s.modFlt fun t => { t with inject := some { j with left := j.left - 1 } }

/-- What a fault that a detector reports does in its own block, beside its report: channels of LF (R103), the 32.768 kHz source
(R42, R43), the sentinel (R143), the reader's field (R370), a key slot (R352), the flash (R498), an access table (R494, named by INSTANCE). -/
def State.faultEffect (s : State) (fid inst : Nat) : State :=
  if fid / 256 = 4 then s.lfFaultEffect fid inst
  else if fid / 256 = 13 then s.hfrFaultEffect fid
  else if fid = FID_URX_SENTINEL then { s with urx := { s.urx with sentBad := true } }
  else if fid = FID_SYS_LPX then { s with time := { s.time with rcNow := true, lpxOk := false } }
  else if fid = FID_AES_SLOT_ECC then s.clearSlots (2 ^ inst)
  else if fid = FID_HIF_XSPI_DEVICE then { s with hif := { s.hif with flashOk := false } }
  else if fid = FID_ACC_PARITY && inst < 31 then { s with hif := { s.hif with accParity := (inst :: s.hif.accParity).eraseDups } }
  else s

/-- FAULT_EVENT (R543, R545): a detector that no other command drives reports. -/
def faultEvent (fid : BitVec 16) (inst : Byte) (data : List Byte) (at_ : Nat) (s : State) : State :=
  let s := s.advance at_
  if (sourceRow fid.toNat).isNone then s else (s.faultEffect fid.toNat inst.toNat).raise fid.toNat inst.toNat data

/-- What injected events alone hold ends (R556). -/
def State.endInjection (s : State) : State :=
  let s := s.modFlt fun t => { t with inject := none, srcs := t.srcs.map fun x =>
    { x with injTimes := [], injLatch := 0, injFence := false, injSafe := false, injMode := none } }
  s.releaseAll 0xFFFF true

/-- TEST_EXIT (R556, R589, R598, R612). -/
def testExit (m : Master) (p : List Byte) (s : State) : State :=
  hostCmd 0xF1 m p [lenIs p 0]
    (fun s =>
      if !s.sys.test then s.ends BAD_STATE
      else
        let s := { s.aesWipe with sys := { s.sys with test := false } }
        ((s.put FLT_STAT_TEST 0).endInjection.reinstall).ok) s

end Sys2Proof.Machine
end

