-- ==== Sys2Proof/Machine/Entry.lean ====
section
/-!
DEFINITION. Machine/Entry.lean: entering P1 to P4 (R507 to R514, R523, R525, R526): consent, the saves, the commit window, and
what the core domain loses.
-/
namespace Sys2Proof.Machine

/-! ### Consent (R510) -/

/-- The blocks that refuse an entry into state `target`, as a mask (R510, R538). -/
def State.refusers (s : State) (target : Nat) : Nat :=
  sumNat ((List.range 23).map fun b => bit01 (s.refuses b target) * 2 ^ b)

/-- Refusals are counted once per idle interval and block (R510). -/
def State.countRefusals (s : State) (mask : Nat) : State :=
  let new := (List.range 23).filter fun b => bitAt mask b = 1 && bitAt s.pwr.refusedNow b = 0
  new.foldl (fun s b => s.bump (PWR_REFUSE_REFUSE b)) { s with pwr := { s.pwr with refusedNow := s.pwr.refusedNow ||| mask } }

/-- The duration of step 2 in ticks (R512): the register image of 20 KiB, and for P3 the firmware save area, at 8 bytes per
interconnect cycle, in LIST mode. -/
def State.saveTicks (s : State) (target : Nat) : Nat :=
  if target = 2 || !s.pwr.list then 0
  else
    let n := (20480 + (if target = 3 then 4096 * s.get PWR_RET_CFG_FWSAVE_LEN else 0)) / 8
    (Config.usTicks * n + Config.busMHz s.pwr.level - 1) / Config.busMHz s.pwr.level

/-- Step 2 begins, with the saves of R43 (R512); the commit window opens at the first low-power edge after it. The timing clock
runs on until cycle 3 of the window. A deeper move from P2 keeps what was saved when P2 was entered. -/
def State.beginEntry (s : State) (target : Nat) (fromP2 : Bool) : State :=
  let win := s.time.lp + (s.time.lpPhase + 4096 * s.saveTicks target) / s.time.lpPeriod + 1
  let s := if s.time.running then { s.saveTime with time := { s.saveTime.time with running := true } } else s
  { s with pwr := { s.pwr with entry := some { target := target, step := 2, winLp := win, fromP2 := fromP2 }, enterWait := none } }

/-- Consent is taken for an automatic entry (R510): the entry begins, or is refused and retried. -/
def State.tryEntry (s : State) (target : Nat) (fromP2 : Bool) : State :=
  let r := s.refusers target
  if r = 0 then s.beginEntry target fromP2
  else
    let s := s.countRefusals r
    { s with pwr := { s.pwr with triedAt := some s.time.now } }

/-! ### Idle time (R509, R510, R514) -/

/-- The idle timer of state `k` (2 to 4) in ticks. -/
def State.idleTicks (s : State) (k : Nat) : Nat :=
  match k with
  | 2 => Config.msTicks * s.get PWR_IDLE0_IDLE_P2_MS
  | 3 => Config.msTicks * s.get PWR_IDLE1_IDLE_P3_MS
  | _ => Config.sTicks * s.get PWR_IDLE1_IDLE_P4_S

/-- The instant at which idle time reaches the timer of state `k`: none where the timer is 0 or ALLOW bars the state. -/
def State.idleDue (s : State) (k : Nat) : Option Nat :=
  if s.idleTicks k = 0 || !s.bit PWR_POLICY_ALLOW (k - 1) then none else s.pwr.idleSince.map (· + s.idleTicks k)

/-- The deepest state of `ks` whose idle timer has been reached. -/
def State.deepest (s : State) (ks : List Nat) : Option Nat :=
  ks.find? fun k => match s.idleDue k with | some t => decide (t ≤ s.time.now) | none => false

/-- The next idle timer of `ks` to be reached after the last refusal. -/
def State.nextIdle (s : State) (ks : List Nat) : Option Nat :=
  let later (t : Nat) : Bool := match s.pwr.triedAt with | none => true | some u => decide (u < t)
  match (ks.filterMap s.idleDue).filter later with
  | [] => none
  | d :: l => some (l.foldl min d)

/-- IDLE_TIMER_P1 (R509): idle time reaches IDLE_P1_US at `at_`. -/
def idleTimerP1 (at_ : Nat) (s : State) : State :=
  let s := s.advance at_
  if s.pwr.st != .p0 || !s.awake || s.pwr.wake.isSome || s.pwr.entry.isSome then s
  else
    let t := s.time.now - Config.usTicks * s.get PWR_IDLE0_IDLE_P1_US
    State.toState { s with pwr := { s.pwr with idleSince := some t, refusedNow := 0, triedAt := none } } .p1

/-- POWER_ENTRY_START (R509). -/
def powerEntryStart (s : State) : State :=
  if s.pwr.st != .p1 || s.pwr.entry.isSome then s
  else
    match s.nextIdle [2, 3, 4] with
    | none => s
    | some d =>
      let s := s.advance d
      match s.deepest [4, 3, 2] with
      | some k => s.tryEntry k false
      | none => s

/-- ENTRY_RETRY (R510): 1 ms after a refusal, idle time going on. -/
def entryRetry (s : State) : State :=
  match (if s.pwr.st == .p1 && s.pwr.entry.isNone then s.pwr.triedAt else none) with
  | none => s
  | some t =>
    let s := s.advance (Config.msTicks + t)
    match s.deepest [4, 3, 2] with
    | some k => s.tryEntry k false
    | none => s

/-! ### What the core domain loses in P3 and P4 (R526) -/

/-- The register at `a` lies in Lehr (R16, R35 to R53, R91, R103, R377): all of PWR and PAD, the counts of the calendar, the poll
registers, the faults of the LF channels, the ping engine. -/
def lehrReg (a : Nat) : Bool :=
  match blockOf a with
  | some (1, _) | some (22, _) => true
  | some (2, o) => o == offOf TIME_CAL_LATE || o == offOf TIME_CAL_SKIP
  | some (4, o) => (0x20 ≤ o && o < 0x60) || (0x100 ≤ o && o < 0x280 && o % 0x20 == 8)
  | some (13, o) => (0x20 ≤ o && o < 0x40) || (0x60 ≤ o && o < 0x6C)
  | _ => false

/-- The register at `a` belongs to the core domain's image, and Lehr goes on using it in P2 to P4: the leads and rates of TIME (R43,
R48), the drive path of the poll sequencer (R91, R97, R100), the sentinel (R142), the tell-tale's blink timing (R311) (DEDUCED, notes/assumptions/143.md). -/
def lehrUse (a : Nat) : Bool :=
  match blockOf a with
  | some (2, o) => o == offOf TIME_LP_CFG || o == offOf TIME_CAL_CFG
  | some (4, o) => o == offOf LF_CARRIER || o == offOf LF_TEL_CFG || o == offOf LF_TEL_PAT
      || (0x100 ≤ o && o < 0x280 && (o % 0x20 == 0 || o % 0x20 == 4))
  | some (5, o) => o == offOf URX_SENT_CFG || o == offOf URX_FEM_GAIN
  | some (10, o) => o == offOf REL_TT_PAT
  | _ => false

/-- The register at `a` is held in the register image (R526): its table, the calibration table with VALID, and what SYS keeps of
the running slot and the configuration in force. -/
def imageHolds (a : Nat) : Bool :=
  match blockOf a with
  | some (0, o) => [SYS_CFG_STATUS, SYS_FW_STATUS, SYS_FW_VERSION].any fun f => offOf f == o
  | some (6, o) => imageReg 6 o || (0x1000 ≤ o && listedOffset 6 o)
  | some (b, o) => imageReg b o
  | none => false

/-- EN of a timer channel is cleared in the image (R526). -/
def imageWord (a : Nat) (w : Word) : Word :=
  match blockOf a with
  | some (3, o) => if o % 0x40 = 0 && o < 0x400 then (TMR_CH_CTRL_EN 0).insert w 0 else w
  | _ => w

/-- A register of the image as the entry writes it into retention SRAM. -/
def State.imageOut (s : State) : List (Nat × Word) :=
  (s.regs.filter fun r => imageHolds r.1 && !lehrReg r.1).map fun r => (r.1, imageWord r.1 r.2)

/-- The staged image is discarded at an entry to P3 or P4 and at a reset (R578). -/
def State.loseStaged (s : State) : State :=
  if s.upd.staged.isNone && s.upd.stage.isNone then s else s.dropStaged

/-- Units of the core domain are OFF in P3 and P4; the sequencers of LF and HFR lie in Lehr, and a fence stands (R550). -/
def State.unitsLost (s : State) : State :=
  (List.range 23).foldl (fun s b => if b = 4 || b = 13 || s.fenced b then s else s.setUnit b .off) s

/-- The address lies in system SRAM or the cell pool, which the core domain powers (R17, R507). -/
def coreRam (a : Nat) : Bool := 0x10000000 ≤ a && a < 0x18080000

/-- The first byte and the length of the firmware save area (R527). -/
def State.saveArea (s : State) : Nat × Nat :=
  (0x100A0000 + 4096 * s.get PWR_RET_CFG_FWSAVE_BASE, 4096 * s.get PWR_RET_CFG_FWSAVE_LEN)

/-- Bank `k` of retention SRAM keeps its contents in state `target` (R525). -/
def State.bankKept (s : State) (target k : Nat) : Bool :=
  if s.pwr.list then k < 2 || target = 3 else s.bit PWR_RET_CFG_RETAIN_MASK k

/-- The banks of retention SRAM that state `target` does not keep are lost (R525). -/
def State.banksLost (s : State) (target : Nat) : State :=
  { s with mem := s.mem.filter fun c =>
      !(0x1C000000 ≤ c.1 && c.1 < 0x1C020000 && !s.bankKept target ((c.1 - 0x1C000000) / 0x4000)) }

/-- What an entry into P3 or P4 leaves in retention SRAM (R17, R525, R527): in LIST mode the register image in banks 0 and 1, its
bytes free as no layout is stated, and for P3 the firmware save area in banks 2 to 7 (notes/assumptions/144.md). -/
def State.retain (s : State) (target : Nat) : State :=
  let s := if s.pwr.list then s.freeFill 0x1C000000 20480 else s
  let s := if s.pwr.list && target = 3 then s.moveMem s.saveArea.1 0x1C008000 s.saveArea.2 else s
  s.banksLost target

/-- The core domain loses its power (R507, R526 and the chapters): the image is kept in LIST mode alone. -/
def State.coreLost (s : State) : State :=
  let s := (s.loseStaged.aesWipe).unitsLost.mapCut
  let keep := if s.pwr.list then s.imageOut else []
  let lost : State :=
    { s with
      regs := s.regs.filter fun r => lehrReg r.1 || lehrUse r.1
      mem := s.mem.filter fun c => !coreRam c.1
      sys := { s.sys with staged := [] }
      tmr := List.replicate 16 {}
      pwr := { s.pwr with image := keep, imageOk := true, fwServing := false, fwRun := false }
      qm := { heldEvts := s.qm.heldEvts }
      hif := { lastReply := s.hif.lastReply, seq := s.hif.seq, out := s.hif.out, stretch := s.hif.stretch, flashOk := s.hif.flashOk }
      lf := { s.lf with sends := [], fin := [], genPassed := s.rngPassed }
      urx := { sentJam := s.urx.sentJam, sentJamAt := s.urx.sentJamAt, sentBad := s.urx.sentBad, adcBad := s.urx.adcBad }
      utx := { s.utx with fin := [], synth := none, run := none, fg := [] }
      range := {}
      zone := { out := s.zone.out, copy := s.zone.copy, seq := s.zone.seq }
      auth := { s.auth with att := none, release := none }
      rel := { s.rel with sess := 0, tap := none, held := none }
      vlt := { s.vlt with jobs := [], stream := none }
      wlk := {}
      cnt := {}
      rng := { cause := 1 } }
  lost.credReset false

/-! ### The state is reached (R512, R516, R525) -/

/-- The lowest pending level source that wakes from the present state starts the wake (R516, R518). -/
def State.pendingWake (s : State) : State :=
  match (List.range 13).find? fun c => s.bit PWR_WAKE_PEND c && s.wakeEnabled c && wakesFrom c s.pwr.st with
  | some c => s.startWake c (s.pwr.details.getD c 0)
  | none => s

/-- VID in state `target` (R508). -/
def sleepVid (target : Nat) : Nat := if target = 2 then 1 else 0

/-- State `target` (2 to 4) is reached at the closing edge of the commit window. -/
def State.reach (s : State) (target : Nat) (deeper : Bool) : State :=
  let level := if deeper then s.pwr.savedLevel else s.pwr.level
  let s := { s with pwr := { s.pwr with entry := none, enterWait := none, savedLevel := level, level := 1, vid := sleepVid target
                                        asleepAt := if deeper then s.pwr.asleepAt else s.time.now, hifUp := false, dvfsHeld := [] } }
  let s := if 3 ≤ target then (s.retain target).coreLost else s
  let s := s.toState (PState.ofNum target)
  let s := if target = 4 then s.pollSuspend else s
  s.pendingWake

/-- COMMIT_WINDOW_CYCLE (R512, R516, R523, R597): one low-power cycle of the window ends with its action taken. -/
def commitWindowCycle (s : State) : State :=
  match s.pwr.entry with
  | none => s
  | some e =>
    if e.step ≠ 2 then s
    else
      let s := s.advanceLp (e.winLp + e.cycle + 1)
      let deep : Bool := 3 ≤ e.target
      match e.cycle with
      | 0 =>
        let s := { s with pwr := { s.pwr with entry := some { e with cycle := 1 } } }
        if deep then { s with pwr := { s.pwr with padsHeld := 0x3FF, safeHeld := 0, gpioHeld := s.get PAD_GPIO_OUT } } else s
      | 1 => { s with pwr := { s.pwr with entry := some { e with cycle := 2 }, isolated := true } }
      | 2 =>
        let s := if s.time.running then s.tmrSyncAll else s
        { s with pwr := { s.pwr with entry := some { e with cycle := 3 } }, time := { s.time with running := false } }
      | _ => s.reach e.target e.fromP2

/-! ### Deeper moves (R514) and commanded entries (R538) -/

/-- In P2, PWR restarts the clocks in 0.2 ms, takes consent and enters; without consent it stays in P2. -/
def State.deeperP2 (s : State) (target : Nat) : State := (s.wait 500000).tryEntry target true

/-- From P3 the device moves to P4 without waking: banks 0 and 1 alone are kept. -/
def State.deeperP3 (s : State) : State := ((s.banksLost 4).toState .p4).pollSuspend.pendingWake

/-- IDLE_EXPIRY_DEEPER (R514). -/
def idleExpiryDeeper (s : State) : State :=
  if s.pwr.wake.isSome || s.pwr.entry.isSome then s
  else
    match s.pwr.st with
    | .p2 =>
      match s.nextIdle [3, 4] with
      | none => s
      | some d =>
        let s := s.advance d
        match s.deepest [4, 3] with
        | some k => s.deeperP2 k
        | none => s
    | .p3 =>
      match s.idleDue 4 with
      | some d => (s.advance d).deeperP3
      | none => s
    | _ => s

/-- An entry as PWR_ENTER starts it, without a reply to wait for (R514, R535): consent is taken at once, whatever ALLOW and the
idle timers say. -/
def State.enterNow (s : State) (target : Nat) : State :=
  if s.pwr.entry.isSome || s.pwr.wake.isSome || !within 2 4 target || s.wakePending then s
  else
    let go (s : State) (fromP2 : Bool) : State :=
      let r := s.refusers target
      if r = 0 then s.beginEntry target fromP2 else s.countRefusals r
    match s.pwr.st with
    | .p0 | .p1 => go s false
    | .p2 => if 3 ≤ target then go (s.wait 500000) true else s
    | .p3 => if target = 4 then s.deeperP3 else s
    | .p4 => s

/-- PWR_CMD_ENTER (R535): a write of PWR_CMD.ENTER by master `m`. -/
def pwrCmdEnter (m : Master) (v : BitVec 3) (s : State) : State :=
  s.onBus m PWR_CMD.addr 1 fun s => s.enterNow v.toNat

/-- PWR_ENTER (R510, R538). -/
def pwrEnter (m : Master) (p : List Byte) (s : State) : State :=
  let target := u8 p 0
  hostCmdLater 0x11 m p [lenIs p 4, paramOk (within 2 4 target && zeroAt p 1 3)]
    (fun c s =>
      if s.wakePending then (s, some (BAD_STATE, []))
      else if s.pwr.entry.isSome then (s, some (BUSY, le 4 2))
      else
        let r := s.refusers target
        if r ≠ 0 then (s.countRefusals r, some (BUSY, le 4 r))
        else
          let port := match c with | some c => c.port | none => 0
          let w : EnterWait := { target := target, at_ := s.time.now, port := port }
          let s := { s with pwr := { s.pwr with entry := some { target := target, step := 1 }, enterWait := some w } }
          (s, some (OK, le 4 0))) s

/-- The reply of PWR_ENTER has been read: the entry proceeds (R538). -/
def State.enterGo (s : State) : State :=
  match s.pwr.enterWait with
  | none => s
  | some w => s.beginEntry w.target false

/-- PWR_ENTER_BEGIN (R538): 10 ms after acceptance. -/
def pwrEnterBegin (s : State) : State :=
  match s.pwr.enterWait with
  | none => s
  | some w => (s.advance (10 * Config.msTicks + w.at_)).enterGo

end Sys2Proof.Machine
end

