-- ==== Sys2Proof/Machine/Calendar.lean ====
section
/-!
DEFINITION. Machine/Calendar.lean: the calendar at work (R45 to R51), its commands (R59, R60), REF_SYNC edges and TIME_SET_REF
(R38, R41, R47, R58).
-/
namespace Sys2Proof.Machine

/-! ### What a slot delivers (R46, R50, R51) -/

/-- A REF_SYNC edge or TIME_SET_REF of this cycle aside, the calendar acts on timing-clock edges (R46). -/
def State.toEdge (s : State) : State := if s.time.running then s.wait ((8 - s.time.dev % 8) % 8) else s

/-- The last fire record of a slot is `r`. -/
def State.noteFire (s : State) (r : FireRec) : State := { s with fires := s.fires.filter (fun x => x.slot != r.slot) ++ [r] }

/-- An occurrence of `o` overlaps that of `c` which is due. -/
def CalSlot.overlapsDue (o c : CalSlot) : Bool := (o.hits c.time (tenthTicks c.duration)).isSome

/-- The occurrence of slot `n` that is due overlaps an EXCLUSIVE slot on a shared resource and is skipped; of two EXCLUSIVE slots
the lower-numbered fires (R51). -/
def State.calSkipped (s : State) (n : Nat) (c : CalSlot) : Bool :=
  (List.range 64).any fun k => k != n &&
    match s.calSlot k with
    | some o => o.exclusive && o.resources &&& c.resources != 0 && !(c.exclusive && n < k) && o.overlapsDue c
    | none => false

/-- The action of a FIRE (R64, R96, R150, R305, R514), its status, and whether the slot counts as late under R150. -/
def State.calAct (s : State) (n : Nat) (c : CalSlot) : State × Nat × Bool :=
  match c.target, c.action with
  | 1, 1 =>
    let bad := s.wakePending
    let t := s.enterNow c.arg
    (t, if bad then BAD_STATE else if t.pwr.entry.isSome || t.pwr.st != s.pwr.st then OK else BUSY, false)
  | 1, 2 => (s.put PWR_POLICY_ALLOW c.arg, OK, false)
  | 3, _ => (tmrFire c.arg s, OK, false)
  | 4, 1 => let (s, st) := s.pollStart; (s, st, false)
  | 4, 2 => (s.pollStop, OK, false)
  | 4, _ => (s.pollKick, OK, false)
  | 5, 1 =>
    let mask := c.arg % 16
    let late := (maskWins mask).any fun w => (s.win w).st != .on
    let (s, st) := if (maskWins mask).any (fun w => (s.win w).st == .off || (s.win w).st == .disabling || (s.win w).stop) then
        s.urxStartMask mask 1 (some n) else (s, OK)
    (s, st, late)
  | 5, 2 => (s.urxStopMask (c.arg % 16) 1, OK, false)
  | 5, _ => (s.gatherTrigger 1 0, OK, false)
  | 10, a => (s.relFire a c.arg n, OK, false)
  | _, _ => (s, OK, false)

/-- The slot has a PREP: its PREP_LEAD is not 0, and its target is not TMR, which ignores it (R46, R64). -/
def CalSlot.hasPrep (c : CalSlot) : Bool := c.prepLead ≠ 0 && c.target ≠ 3

/-- PREP of slot `n` (R46, R50, R150): WIN_OPEN alone acts on it. -/
def State.calPrep (s : State) (n : Nat) (c : CalSlot) : State :=
  let s := s.setCalSlot n (some { c with prepDone := true })
  if s.calSkipped n c then s
  else if s.fenced c.target then
    s.noteFire { slot := n, target := c.target, at_ := s.refNow, quality := s.quality, kind := 1, status := FENCED
                 stepped := false, late := false, parent := (s.eventParent (256 * c.target) 0xFF).getD 0 }
  else if c.target = 5 && c.action = 1 then (s.urxStartMask (c.arg % 16) 1 (some n)).1
  else s

/-- What slot `n` becomes once it has fired, or been missed or skipped (R45 to R48): a periodic slot advances by whole periods past
reference time, or by one where it is not powered; the occurrences passed over are counted. A WIN_OPEN that has fired stops its windows
at TIME + DURATION (R150). -/
def State.calAdvance (s : State) (n : Nat) (c : CalSlot) (fired one : Bool) : State :=
  let at_ := some s.devNow
  let gave := if fired then at_ else c.gaveAt
  let stop := if fired && c.target = 5 && c.action = 1 && c.duration ≠ 0 then some (c.time + tenthTicks c.duration) else none
  if c.periodic then
    let p := max 1 (tenthTicks c.period)
    let k := if one then 1 else (s.refNow - c.time) / p + 1
    let s := s.bump TIME_CAL_SKIP (k - 1)
    s.setCalSlot n (some { c with time := c.time + k * p, prepDone := false, woken := false, firedAt := at_, gaveAt := gave, stopAt := stop,
                                  lastAt := if fired then some c.time else c.lastAt })
  else s.setCalSlot n (some { c with fired := true, firedAt := at_, gaveAt := gave, stopAt := stop })

/-- Slot `n` is due and delivers FIRE, or is skipped or missed; `stepped` and `late` are the flags of its record (R46 to R51). An
earlier delivery to the same target in this cycle moves it to the next. -/
def State.calFire (s : State) (n : Nat) (stepped late : Bool) : State :=
  match s.calSlot n with
  | none => s
  | some c =>
    let s := if c.hasPrep && !c.prepDone && s.time.running then (s.calPrep n c).wait 8 else s
    let s := if s.time.running && s.fires.any (fun r => r.kind == 0 && r.target == c.target && r.at_ == s.time.ref) then s.wait 8 else s
    let r : FireRec := { slot := n, target := c.target, at_ := s.refNow, quality := s.quality, kind := 0, status := OK
                         stepped := stepped, late := late, parent := 0 }
    if s.calSkipped n c then
      ((s.bump TIME_CAL_SKIP).calAdvance n c false false).noteFire { r with kind := 2 }
    else if s.fenced c.target then
      (s.calAdvance n c false false).noteFire
        { r with kind := 1, status := FENCED, parent := (s.eventParent (256 * c.target) 0xFF).getD 0 }
    else if c.target = 5 && c.action = 1 && s.urxPadsHeld then
      (s.calAdvance n c false false).noteFire { r with kind := 1, status := BAD_STATE }
    else
      let s := if stepped || late then s.bump TIME_CAL_LATE else s
      let (s, st, lateWin) := (s.calAdvance n c true false).calAct n c
      let s := if lateWin && !(stepped || late) then s.bump TIME_CAL_LATE else s
      s.noteFire { r with status := st, late := late || lateWin }

/-- Slot `n` without WAKE comes due for a block that is not powered (R48, R64). -/
def State.calMiss (s : State) (n : Nat) (c : CalSlot) : State :=
  ((s.bump TIME_CAL_SKIP).calAdvance n { c with prepDone := true } false true).noteFire
    { slot := n, target := c.target, at_ := s.refNow, quality := s.quality, kind := 1, status := OK, stepped := false
      late := false, parent := 0 }

/-- A slot goes into a list in time order, after those of the same time. -/
def insertSlot (x : Nat × Nat) : List (Nat × Nat) → List (Nat × Nat)
  | [] => [x]
  | y :: l => if x.1 < y.1 then x :: y :: l else y :: insertSlot x l

/-- The slots that `f` takes, in time order and then in slot order (R46, R47). -/
def State.slotsInTime (s : State) (f : Nat → CalSlot → Bool) : List Nat :=
  let due := (List.range 64).filterMap fun n =>
    match s.calSlot n with
    | some c => if f n c then some (c.time, n) else none
    | none => none
  (due.foldl (fun l x => insertSlot x l) []).map (·.2)

/-- General slots that the calendar itself frees and whose time has come, in time order (R46, R47). -/
def State.calDueList (s : State) : List Nat :=
  s.slotsInTime fun n c => n < 56 && !c.fired && !c.ownerFrees && c.time ≤ s.refNow

/-- A slot that its owner frees and times itself, which a step has passed (R45, R47, R50, R51): what becomes of it is recorded and counted
here, and its owner's own command comes at once. -/
def State.ownStepped (s : State) (n : Nat) : State :=
  match s.calSlot n with
  | none => s
  | some c =>
    let r : FireRec := { slot := n, target := c.target, at_ := s.refNow, quality := s.quality, kind := 0, status := OK
                         stepped := true, late := false, parent := 0 }
    if s.calSkipped n c then (s.bump TIME_CAL_SKIP).noteFire { r with kind := 2 }
    else if s.fenced c.target then
      s.noteFire { r with kind := 1, status := FENCED, parent := (s.eventParent (256 * c.target) 0xFF).getD 0 }
    else (s.bump TIME_CAL_LATE).noteFire r

/-- A step from reference time `old` has passed the time of slot `n`, which is `c` (R47): a general slot's FIRE is still to come. -/
def State.steppedOver (s : State) (old n : Nat) (c : CalSlot) : Bool :=
  if c.ownerFrees then old < c.time && c.time ≤ s.time.ref else n < 56 && !c.fired && c.time ≤ s.refNow

/-- A forward step has been applied from reference time `old` (R47, R299): slots and PREPs it passed over are delivered at once, and a
session timeout it passed ends the session. A slot of which the step passes the PREP alone is not counted in TIME_CAL_LATE (DESIGN
CHOICE, notes/assumptions/149.md). -/
def State.calStepped (s : State) (old : Nat) : State :=
  let s := (s.slotsInTime (s.steppedOver old)).foldl (fun s n =>
    if (s.calSlot n).any (·.ownerFrees) then s.ownStepped n else s.calFire n true false) s
  let s := (List.range 56).foldl (fun s n =>
    match s.calSlot n with
    | some c => if c.hasPrep && !c.prepDone && !c.fired && !c.ownerFrees && c.time ≤ s.time.ref + Config.usTicks * c.prepLead
        then s.calPrep n c else s
    | none => s) s
  if s.rel.sess = 2 && s.rel.toBase + Config.sTicks * s.get REL_CFG_SESSION_TO_S ≤ s.time.ref then s.relEndCause (s.endNow 1)
  else s

/-- The core domain is in P0 again (R48): slots that came due meanwhile are delivered late, those without WAKE were missed. -/
def State.calLate (s : State) : State :=
  s.calDueList.foldl (fun s n =>
    match s.calSlot n with
    | some c => if c.target = 4 || c.target = 1 then s else if c.wake then s.calFire n false true else s.calMiss n c
    | none => s) s

/-! ### The calendar's events -/

/-- Slot `n` if it is a general slot that has still to fire and whose owner leaves it to the calendar. -/
def State.calWaiting (s : State) (n : Nat) : Option CalSlot :=
  match s.calSlot n with
  | some c => if n < 56 && !c.fired && !c.ownerFrees then some c else none
  | none => none

/-- The device is in P0 or P1: a wake is over once HIF is operational (R519). -/
def State.inP0 (s : State) : Bool := s.awake && (match s.pwr.wake with | some w => w.source == 0 | none => true)

/-- CALENDAR_PREP (R46, R50). -/
def calendarPrep (slot : Fin 64) (s : State) : State :=
  match s.calWaiting slot.val with
  | none => s
  | some c =>
    if !c.hasPrep || c.prepDone || !s.inP0 then s
    else ((s.advanceRef (c.time - Config.usTicks * c.prepLead)).toEdge).calPrep slot.val c

/-- CALENDAR_FIRE (R46, R48, R50, R51): lower-numbered slots of the same target due in the same cycle come first. -/
def calendarFire (slot : Fin 64) (s : State) : State :=
  match s.calWaiting slot.val with
  | none => s
  | some c =>
    let lehr := c.target = 4 || c.target = 1
    if !s.inP0 && !lehr && c.wake then s
    else
      let s := (s.advanceRef c.time).toEdge
      if s.inP0 || lehr then
        let before := (List.range slot.val).filter fun k =>
          (s.calWaiting k).any fun o => o.target == c.target && o.time ≤ s.refNow
        (before ++ [slot.val]).foldl (fun s n => s.calFire n false false) s
      else s.calMiss slot.val c

/-- CALENDAR_WAKE_LEAD (R48, R515): the first low-power edge at or after the lead. A slot addressed to LF or PWR fires without a wake. -/
def calendarWakeLead (slot : Fin 64) (s : State) : State :=
  match s.calWaiting slot.val with
  | none => s
  | some c =>
    if !c.wake || c.woken || c.target = 4 || c.target = 1 || (s.awake && s.pwr.entry.isNone) then s
    else
      let us := if s.pwr.st == .p4 then s.get TIME_CAL_CFG_WAKE_LEAD_P4_US else s.get TIME_CAL_CFG_WAKE_LEAD_US
      let s := s.advanceRef (c.time - Config.usTicks * us)
      (s.setCalSlot slot.val (some { c with woken := true })).wakeSource 6 slot.val true

/-- Slot `n` is free, and an EWAKE line that waited in it has none (R45, R305); owners whose gap query had no answer ask again (R52). -/
def State.calFree (s : State) (n : Nat) : State :=
  let s := s.setCalSlot n none
  let s := (List.range 4).foldl (fun s l =>
    let e := s.ewLine l
    if e.slot == some n then s.setEwLine l { e with slot := none, pend := if e.on then e.pend else none } else s) s
  s.calPlace.pollHeld

/-- CALENDAR_SLOT_FREE (R45, R150): the stop of a WIN_OPEN slot comes first; a periodic slot is not freed. -/
def calendarSlotFree (slot : Fin 64) (s : State) : State :=
  match (if slot.val < 56 then s.calSlot slot.val else none) with
  | none => s
  | some c =>
    if c.ownerFrees || (c.periodic && c.stopAt.isNone) || (!c.periodic && !c.fired) then s
    else
      let s := if c.periodic then s.advanceRef (c.stopAt.getD 0)
        else if c.duration = 0 then s.wait (8 - (s.devNow - c.firedAt.getD 0))
        else s.advanceRef (c.time + tenthTicks c.duration)
      let s := if c.stopAt.isSome then s.urxStopMask (c.arg % 16) 1 else s
      if c.periodic then s.setCalSlot slot.val (some { c with stopAt := none }) else s.calFree slot.val

/-! ### Commands -/

/-- Target `t` defines action `a` with argument `arg` (R59, R64, R96, R150, R305, R514). -/
def actionDefined (t a arg : Nat) : Bool :=
  match t with
  | 1 => (a == 1 && within 2 4 arg) || a == 2
  | 3 => a == 1 && arg < 16
  | 4 => within 1 3 a
  | 5 => within 1 3 a
  | 10 => within 1 2 a && arg < 4
  | _ => false

/-- The slot that a TIME_CAL_ADD asks for (R59). -/
def askedSlot (p : List Byte) : CalSlot :=
  { target := u8 p 1, action := u8 p 2, wake := bitAt (u8 p 3) 0 == 1, periodic := bitAt (u8 p 3) 1 == 1
    exclusive := bitAt (u8 p 3) 2 == 1, resources := u8 p 4, prepLead := u16 p 6, time := u64 p 8, duration := u32 p 16
    period := u32 p 20, arg := u32 p 24 }

/-- An EXCLUSIVE slot on RADIO has been added (R185, R186): its PREP and the 20 µs before it count for steps to come. -/
def State.calRadioAdded (s : State) (c : CalSlot) : State :=
  if c.exclusive && bitAt c.resources 0 = 1 then
    let wide := { c with time := c.time - Config.usTicks * (c.prepLead + 20), duration := c.duration + 10 * (c.prepLead + 20) }
    s.calYield (fun t d => (c.hits t d).isSome) (fun t d => (wide.hits t d).isSome)
  else s

/-- TIME_CAL_ADD (R45, R51, R59). -/
def timeCalAdd (m : Master) (p : List Byte) (s : State) : State :=
  let n := u8 p 0
  let c := askedSlot p
  hostCmd 0x22 m p
    [lenIs p 28, paramOk (n < 64 || n = 0xFF), paramOk (c.target ≤ 0x16), paramOk (u8 p 3 < 8 && c.resources < 8),
     paramOk (zeroAt p 5 1), paramOk (c.prepLead ≤ 10000), paramOk (!c.periodic || c.period ≠ 0),
     paramOk (!(c.exclusive && c.duration = 0)), paramOk (actionDefined c.target c.action c.arg),
     paramOk (s.refNow + Config.usTicks * (c.prepLead + 10) ≤ c.time)]
    (fun s =>
      if n ≠ 0xFF && 56 ≤ n then s.ends ACCESS_DENIED
      else
        match (if n = 0xFF then s.freeSlot else some n) with
        | none => s.ends TABLE_FULL
        | some k =>
          if (s.calSlot k).isSome then (s, BAD_STATE, [byte k])
          else
            match conflictIn c s.cal 0 with
            | some x => (s, BAD_STATE, [byte x])
            | none => ((s.setCalSlot k (some c)).calRadioAdded c, OK, [byte k])) s

/-- CANCEL of slot `n` (R49, R150): windows that a WIN_OPEN slot started itself are stopped. -/
def State.calCancel (s : State) (n : Nat) (c : CalSlot) : State :=
  if c.target = 5 && c.action = 1 then
    (List.range 4).foldl (fun s w => if (s.win w).slot == some n then s.stopWin w 1 else s) s
  else s

/-- TIME_CAL_REMOVE (R45, R49, R60, R220). -/
def timeCalRemove (m : Master) (p : List Byte) (s : State) : State :=
  let n := u8 p 0
  hostCmd 0x23 m p [lenIs p 1, paramOk (n < 64)]
    (fun s =>
      if 56 ≤ n then s.ends ACCESS_DENIED
      else
        match s.calSlot n with
        | none => s.ends NOT_FOUND
        | some c =>
          if c.ownerFrees then s.ends ACCESS_DENIED
          else
            let due : Bool := !c.fired && c.time ≤ s.refNow
            let s := if due then s.calFire n false false else s
            let now := match s.calSlot n with | some x => x | none => { c with prepDone := false, stopAt := none }
            let fired := match now.gaveAt with | some d => now.fired || d / 8 == s.devNow / 8 | none => false
            let s := if now.prepDone && !now.fired || now.stopAt.isSome then s.calCancel n c else s
            (s.calFree n, OK, [byte (bit01 fired)])) s

/-! ### REF_SYNC and TIME_SET_REF -/

/-- REF_SYNC_EDGE (R38, R54, R63): the timer channels take every edge; the servo takes one of the direction REF_EDGE selects, while the
timing clock runs. -/
def refSyncEdge (rising : Bool) (at_ : Nat) (s : State) : State :=
  let s := (s.advance at_).tmrInput 0x29 rising
  if !s.awake || !s.time.running || !s.flag TIME_CTRL_REF_EN || rising == s.flag TIME_CTRL_REF_EDGE then s
  else
    let r := s.refEdge
    if r.2 then r.1.calStepped s.time.ref else r.1

/-- An edge of the cycle of device time `d` was used as a sample (R41). -/
def State.edgeUsed (s : State) (d : Nat) : Bool :=
  s.edgeInCycle d && (match s.time.preEdge with | some p => p.lastEdge != s.time.lastEdge | none => false)

/-- The reply of R58: outcome, and the correction in ns. -/
def State.refReply (s : State) (outcome : Nat) (c : Int) : Effect :=
  (s, OK, [byte outcome, 0, 0, 0] ++ le 4 (satSigned 32 (nsOfTicksI c)))

/-- A reference time is assigned (R41, R42, R58): an edge of the same cycle is no sample. A value that waits for the next edge stands after
an IMMEDIATE or SAMPLE (DESIGN CHOICE, notes/assumptions/148.md). -/
def State.refAssigned (s : State) (value at_ : Nat) (edge : Bool) : State × Bool × Int :=
  let s := if s.edgeThisCycle then s.unuseEdge else s
  let (s, stepped, c) := s.assignRef value at_
  ({ s with time := { s.time with anchorNext := !edge, lastEdge := if edge then some value else s.time.lastEdge } }, stepped, c)

/-- TIME_SET_REF (R41, R42, R54, R58), for a request whose HnCS edge fell at `at_`. -/
def timeSetRef (m : Master) (p : List Byte) (at_ : Nat) (s : State) : State :=
  let mode := u8 p 0
  let value := u64 p 8
  hostCmd 0x21 m p [lenIs p 16, paramOk (mode < 3 && zeroAt p 1 7)]
    (fun s =>
      let t := min at_ s.time.now
      let t := t - (s.time.dev - (s.time.now - t)) % 8
      let out (r : State × Bool × Int) : Effect :=
        let s := if r.2.1 then r.1.calStepped s.time.ref else r.1
        s.refReply (if r.2.1 then 0 else 1) r.2.2
      if mode = 0 then
        if !s.flag TIME_CTRL_REF_EN then s.ends BAD_STATE
        else if s.edgeThisCycle then out (s.refAssigned value (s.time.now - (s.time.dev - s.time.edgeAt.getD 0)) true)
        else ({ s with time := { s.time with pulseRef := some value } } : State).refReply 2 0
      else if mode = 1 then
        let (s, stepped, c) := s.refAssigned value t false
        let none_ : Bool := !s.flag TIME_CTRL_REF_EN && !s.flag TIME_CTRL_SAMPLE_EN
        let s := if none_ then { s with time := { s.time with recon := false, rcUsed := false } } else s
        out (s, stepped, c)
      else if !s.flag TIME_CTRL_SAMPLE_EN then s.ends BAD_STATE
      else if s.forcedMode 5 then (s.put TIME_STATUS_SAMPLE_DROP 1).refReply 3 0
      else if s.time.servo == .free then
        let (s, stepped, c) := s.refAssigned value t false
        let (s, _) := s.acceptSample 0 true (if s.flag TIME_CTRL_REF_EN then none else some value)
        out (s, stepped, c)
      else if s.edgeUsed (s.time.dev - (s.time.now - t)) then (s.put TIME_STATUS_SAMPLE_DROP 1).refReply 3 0
      else
        let e : Int := (s.refAt t : Int) - value
        let (s, stepped) := s.acceptSample e false (if s.flag TIME_CTRL_REF_EN then none else some value)
        out (s, stepped, -e)) s

end Sys2Proof.Machine
end

