-- ==== Sys2Proof/Machine/Reset.lean ====
section
/-!
DEFINITION. Machine/Reset.lean: what power-on reset, nRESET, SOFT_RESET and the loss of VCORE leave, and the release of the core
reset (R33, R43, R45, R81, R103, R180 to R184, R204, R231, R251, R271, R301, R333, R339, R345, R439, R495, R520, R529, R548,
R561 to R565, R577, R591, R619).
-/
namespace Sys2Proof.Machine

/-! ### The region table (R3, R179 to R181) -/

/-- The REGION byte of a fixed part's factory table (R1, R179). -/
def Part.region : Part → Nat
  | .eu => 1 | .na => 2 | .jp => 3 | .cn => 4 | .ww => 0

/-- The LF range of a region (R74). -/
def lfRange (id : Nat) : Nat × Nat :=
  match id with | 1 => (119000, 135000) | 2 => (20000, 140000) | 3 => (110000, 140000) | _ => (119000, 135000)

/-- The bands of a factory table (R181). -/
def factoryBands (id : Nat) : List Band :=
  match id with
  | 1 => [⟨433050000, 434790000, 360000000, 63, false, 0, 0⟩, ⟨868000000, 868600000, 36000000, 53, false, 0, 0⟩,
      ⟨869400000, 869650000, 360000000, 63, false, 0, 0⟩]
  | 2 => [⟨314000000, 316000000, 3600000000, 63, false, 0, 0⟩, ⟨433500000, 434500000, 360000000, 63, false, 0, 0⟩,
      ⟨902000000, 928000000, 3600000000, 63, false, 0, 0⟩]
  | 3 => [⟨314000000, 316000000, 360000000, 53, false, 0, 0⟩, ⟨920500000, 928100000, 360000000, 53, true, 5000, 80⟩]
  | _ => [⟨314000000, 316000000, 360000000, 63, false, 0, 0⟩, ⟨433000000, 434790000, 360000000, 53, false, 0, 0⟩]

/-- The factory table of region `id`, which passes its checks. -/
def factoryRegion (id : Nat) : Region :=
  { ok := true, locked := true, id := id, version := 1, lfMin := (lfRange id).1, lfMax := (lfRange id).2, bands := factoryBands id
    nbands := (factoryBands id).length }

/-- The 24 bytes of a band (R179). -/
def Band.bytes (b : Band) : List Byte :=
  le 4 b.lo ++ le 4 b.hi ++ le 4 b.dutyUs ++ [byte b.maxPwr, byte (bit01 b.lbt)] ++ le 2 b.lbtUs ++ [byte b.lbtThr]
    ++ List.replicate 7 0

/-- The 216 bytes of a table (R179). -/
def Region.bytes (r : Region) : List Byte :=
  let b := padTo 208 (le 2 0x5247 ++ [byte r.id, byte r.version] ++ le 4 r.lfMin ++ le 4 r.lfMax ++ [byte r.bands.length, 0, 0, 0]
    ++ r.bands.flatMap Band.bytes)
  b ++ le 4 (crc32 b) ++ le 4 0xA5C35A3C

/-- The address of the region table in OTP (R179). -/
def regionAddr : Nat := 0x28001000

/-- The OTP bytes as they read: a fixed part carries its factory table (R1, R181). -/
def State.otp8 (s : State) (a : Nat) : Byte :=
  if s.sys.part != .ww && regionAddr ≤ a && a < regionAddr + 216 then
    (factoryRegion s.sys.part.region).bytes.getD (a - regionAddr) 0
  else s.mem8 a

/-- Band `k` of the bytes of a table. -/
def bandAt (b : List Byte) (k : Nat) : Band :=
  let o := 16 + 24 * k
  { lo := u32 b o, hi := u32 b (o + 4), dutyUs := u32 b (o + 8), maxPwr := u8 b (o + 12), lbt := bitAt (u8 b (o + 13)) 0 == 1
    lbtUs := u16 b (o + 14), lbtThr := u8 b (o + 16) }

/-- The check of a table (R180). -/
def checkRegion (b : List Byte) : Region :=
  let n := u8 b 12
  let locked := u32 b 212 == 0xA5C35A3C
  let ok := u16 b 0 == 0x5247 && crc32 (b.take 208) == u32 b 208 && locked && within 1 8 n
  { ok := ok, locked := locked, id := u8 b 2, version := u8 b 3, lfMin := u32 b 4, lfMax := u32 b 8
    bands := if ok then (List.range n).map (bandAt b) else [], nbands := n }

/-- The check of the region table at a reset (R180): a locked table that fails another check is reported. -/
def State.regionCheck (s : State) : State :=
  let r := if s.sys.part != .ww then factoryRegion s.sys.part.region else checkRegion (s.readMem regionAddr 216)
  let s := { s with sys := { s.sys with region := r } }
  if r.locked && !r.ok then s.raise FID_UTX_REGION else s

/-! ### The calibration store at a reset (R163, R184) -/

/-- The stored table comes back with VALID cleared; entries that were valid and PERMITTED are marked for calibration. -/
def State.tableLoad (s : State) (ws : List Word) : State :=
  (List.range 128).foldl (fun s e =>
    let lo := ws.getD (2 * e) 0
    if lo = 0 && ws.getD (2 * e + 1) 0 = 0 then s
    else
      let s := (s.setReg (UTX_CALTAB_LO e).addr lo).setReg (UTX_CALTAB_HI e).addr (ws.getD (2 * e + 1) 0)
      let was := s.flag (UTX_CALTAB_LO_VALID e) && s.flag (UTX_CALTAB_LO_PERMITTED e)
      let s := s.put (UTX_CALTAB_LO_VALID e) 0
      if was then s.calMark 0 e 0xFFFF else s) s

/-- Every item loads its stored result (R184). -/
def State.calLoad (s : State) : State :=
  let s := match s.utx.stored.getD 0 none with | some c => s.tableLoad c.words | none => s
  (List.range 5).foldl State.restoreItem s

/-! ### The release of the core reset (R619) -/

/-- Units whose EN is 1, and TMR, start, the others are OFF (R590); the LF channels likewise (R80). A fenced unit stays fenced. -/
def State.startUnits (s : State) : State :=
  let s := (List.range 23).foldl (fun s b =>
    if isUnit b && !s.fenced b then s.setUnit b (if b = 3 || s.flag (enField b) then .starting else .off) else s) s
  (List.range 12).foldl (fun s n =>
    if !s.flag (LF_CH_CTRL_EN n) then s.setLfChan n .off
    else if s.lfChan n == .off && s.unit 4 == .starting then s.setLfChan n .starting else s) s

/-- What each return of the core domain loads anew (R204, R231, R251, R561). -/
def State.coreLoads (s : State) : State := ((s.bbxScan.zoneLoad.mapLoadStart.popShow).rangeCheckPlan).startUnits

/-- The core reset is released after a reset, in P0: the device boots (R180, R184, R564, R577, R619). -/
def State.coreRelease (s : State) : State :=
  let w : WakeSeq := { source := 0, detail := 0, left := 0, at_ := s.time.now, stage := .boot, stageAt := s.time.now }
  let s := { s with pwr := { s.pwr with st := .p0, wake := some w, hifUp := false, vid := 1, isolated := false, list := false } }
  let s := if s.pwr.reduced then s else s.restoreTime
  ((s.regionCheck.cfgLoad.calLoad).coreLoads.flushHeld).vaultMain

/-- The power-on sequence begins with the reference (R619). -/
def State.startPower (s : State) : State :=
  let w : WakeSeq := { source := 0, detail := 0, left := 0, at_ := s.time.now, stage := .refStart, stageAt := s.time.now, powerOn := true }
  { s with pwr := { s.pwr with wake := some w } }

/-! ### Resets -/

/-- ROLE1 and ROLE0 are sampled (R591): a worker where they read 0b10. -/
def State.sampleStraps (s : State) (straps : Nat) : State :=
  { s with sys := { s.sys with straps := straps, role := bit01 (straps == 2) } }

/-- Power-on reset (R619): Lehr and every RAM are cleared, what is non-volatile stays (a map in the writing is cut off, R207), and VDDIO is there. XTAL_O is
read as well (R626): its resistor belongs to the board, so that every power-on finds the same mode, `Config.xtalStrap`. -/
def State.powerOff (s : State) : State :=
  let s := s.mapCut
  { mem := s.mem.filter fun c => 0x20000000 ≤ c.1
    sys := { part := s.sys.part, temp := s.sys.temp }
    time := { now := s.time.now }
    utx := { stored := s.utx.stored.map fun c => c.map fun c => { c with at_ := 0 } }
    vlt := { s.vlt with jobs := [], stream := none, vddio := true }
    upd := { archNext := s.upd.archNext }
    free := s.free
    pending := s.pending }

/-- A register that keeps its value over nRESET and SOFT_RESET (R520, R535). -/
def keptReg (a : Nat) : Bool := a == PWR_WAKE_FAIL.addr || (List.range 5).any fun k => a == (PWR_ENTRIES k).addr

/-- nRESET (`cause` 1) and SOFT_RESET (2): what Lehr keeps is named in the chapters; everything else takes its reset state. -/
def State.resetAll (s : State) (cause : Nat) : State :=
  let s := (if s.time.running then s.saveTime else s).mapCut
  let r : State :=
    { s with
      regs := s.regs.filter fun r => keptReg r.1
      units := List.replicate 23 .off
      sys := { part := s.sys.part, temp := s.sys.temp, straps := s.sys.straps, role := s.sys.role }
      time := { s.time with shadows := [], pulseRef := none, edgeAt := none, preEdge := none, cmdAt := none }
      cal := List.replicate 64 none
      fires := []
      tmr := List.replicate 16 {}
      pwr := { resid := s.pwr.resid, resetCause := cause, heldFaults := s.pwr.heldFaults, vid := s.pwr.vid, wake := none, asleepAt := s.pwr.asleepAt }
      qm := {}
      hif := { lastReply := s.hif.lastReply }
      flt := {}
      aes := {}
      lf := {}
      urx := {}
      utx := { stored := s.utx.stored, bins := s.utx.bins, binNo := s.utx.binNo, binLp := s.utx.binLp, told := s.utx.told }
      range := {}
      zone := {}
      auth := {}
      hfr := {}
      upd := { archNext := s.upd.archNext }
      wlk := {}
      cnt := {}
      rng := {} }
  ((r.bbxReset false).credReset false).relReset.vltReset

/-- POWER_ON_RESET (R619). -/
def powerOnReset (straps : Fin 4) (s : State) : State := (s.powerOff.sampleStraps straps.val).startPower

/-- NRESET (R520, R591, R619): with VCORE on the core reset is released at once, otherwise the sequence of a power-on follows. -/
def nreset (straps : Fin 4) (at_ : Nat) (s : State) : State :=
  let s := (((s.advance at_).resetAll 1).sampleStraps straps.val).put PWR_WAKE_FAIL_FAIL_COUNT 0
  if s.pwr.vid = 0 then s.startPower else s.coreRelease

/-- SOFT_RESET (R487): the reset waits for the reply to be read, 10 ms at most. Without a port it begins after 10 µs. -/
def softReset (m : Master) (p : List Byte) (s : State) : State :=
  hostCmdLater 0x03 m p [lenIs p 4, paramOk (u32 p 0 = 0xC0DE5AFE)]
    (fun c s =>
      let due : Nat × Nat := match c with
        | some c => (10 * Config.msTicks + s.time.now, c.port)
        | none => (10 * Config.usTicks + s.time.now, 0)
      ({ s with hif := { s.hif with softReset := some due } }, some (OK, []))) s

/-- SOFT_RESET_BEGIN (R487). -/
def softResetBegin (s : State) : State :=
  match s.hif.softReset with
  | none => s
  | some (due, _) => ((s.advance due).resetAll 2).coreRelease

/-- The RWL fields of a register under a lock that is set, its LOCK among them, the other fields at their reset values. -/
def State.lockedWord (s : State) (r : Nat × Word) : Option (Nat × Word) :=
  match blockOf r.1 with
  | some (b, o) =>
    if s.lockSet b o && !lehrReg r.1 then
      some (r.1, BitVec.ofNat 32 (writeFields ((regFields b o).filter (·.acc == .rwl)) false (regDefault r.1).toNat r.2.toNat))
    else none
  | none => none

/-- The core domain loses its state while Lehr keeps its own (R529): registers of the core domain, the start pair, work in progress.
Only power-on reset, nRESET and SOFT_RESET clear a LOCK (R11): where the core domain is reset by another cause (`locks`), each LOCK
and the RWL fields under it stand (DESIGN CHOICE, notes/assumptions/145.md). -/
def State.coreReset (s : State) (locks : Bool) : State :=
  let held := if locks then s.regs.filterMap s.lockedWord else []
  let s := { s with pwr := { s.pwr with list := false } }
  let s := s.coreLost.relReset
  let s := held.foldl (fun (s : State) r => s.setReg r.1 r.2) { s with regs := s.regs.filter fun r => lehrReg r.1 }
  { s with
    fires := []
    pwr := { s.pwr with image := [], entry := none, enterWait := none, dvfs := none, dvfsHeld := [], level := 1, savedLevel := 1
                        idleSince := none, triedAt := none, padsHeld := 0, safeHeld := 0 }
    sys := { s.sys with test := false }
    upd := { archNext := s.upd.archNext } }

/-- PWR_VCORE_LOSS (R529): in P0 to P2, outside the SETTLE_US of a raise. -/
def pwrVcoreLoss (at_ : Nat) (s : State) : State :=
  let s := s.advance at_
  let settling := match s.pwr.dvfs with | some d => decide (s.time.now < d.at_ + Config.usTicks * s.get PWR_DVFS_CFG_SETTLE_US) | none => false
  if settling || s.pwr.lockout || 3 ≤ s.pwr.st.num || (match s.pwr.wake with | some w => w.powerOn | none => false) then s
  else
    let s := s.coreReset true
    let s := { s with rng := { s.rng with cause := 0 } }
    (State.coreRelease { s with pwr := { s.pwr with resetCause := 4 } }).raise FID_PWR_VCORE_LOSS

/-- A register of SYS that a lockstep reset leaves: what shows the running slot and the configuration in force. -/
def sysStatus (a : Nat) : Bool := a == SYS_CFG_STATUS.addr || a == SYS_FW_STATUS.addr || a == SYS_FW_VERSION.addr

/-- SYS_LOCKSTEP (R26, R544, R588): the processor and SYS are reset and the ROM resumes from the running code bank (BOOT_DONE); what
the firmware was doing is lost, and all other blocks go on. -/
def sysLockstep (at_ : Nat) (s : State) : State :=
  let s := s.advance at_
  if !s.awake || !s.pwr.fwRun then s
  else
    let s := s.loseStaged
    let s := { s with
      regs := s.regs.filter fun r => sysStatus r.1 || !(0x40000000 ≤ r.1 && r.1 < 0x40010000)
      pwr := { s.pwr with fwRun := false, fwServing := false, resetCause := 3 }
      auth := { s.auth with att := none, release := none }
      hfr := { s.hfr with flow := none }
      upd := { s.upd with apply := none, erase := none, eraseHeld := false, switch := none, confirm := none, challenge := none } }
    let s := (s.setCstate 0).showSwitch
    (s.raise FID_SYS_LOCKSTEP).fwFallback

/-! ### The boot (R474, R525, R586) -/

/-- BOOT_DONE (R586, R619): the cold boot of a reset, or the ROM's return to the running code bank after a lockstep reset. -/
def bootDone (at_ : Nat) (s : State) : State :=
  if !s.awake || s.pwr.fwRun || s.recovery then s
  else
    let s := s.advance at_
    match s.pwr.wake with
    | none => { s with pwr := { s.pwr with fwRun := true } }
    | some w =>
      if w.source ≠ 0 then s
      else
        let s := { s with pwr := { s.pwr with wake := none, hifUp := true, fwRun := true } }
        if s.sys.straps = 3 then s.recoveryPath else s.coldBoot

/-- FW_READY (R474, R525, R587, R589): the firmware first serves queue 1. -/
def fwReady (at_ : Nat) (s : State) : State :=
  let handover := match s.upd.switch with | some w => w.stage == 3 | none => false
  if !s.awake || s.pwr.fwServing || s.recovery || !(s.pwr.fwRun || handover) then s
  else
    let s := s.advance at_
    let s := { s with pwr := { s.pwr with fwRun := true, fwServing := true, list := !s.sys.test } }
    if handover then s.switchDone
    else
      let s := s.put HIF_IRQ_STATUS_FW_READY 1
      if s.unitOn 11 then s.reinstall else s

end Sys2Proof.Machine
end

