-- ==== Sys2Proof/Machine/Power.lean ====
section
/-!
DEFINITION. Machine/Power.lean: wake sources and the wake sequence (R515 to R522, R619), voltage and frequency (R528 to R530),
and the power commands (R537, R539 to R542). PWR_ENTER is in Machine/Entry.lean.
-/
namespace Sys2Proof.Machine

/-! ### Wake sources (R515 to R518) -/

/-- An outcome between two limits of R517: certain where `sure`, excluded where `never`, free in between. -/
def State.between (s : State) (sure never : Bool) : Bool × State :=
  if sure then (true, s) else if never then (false, s) else s.freshBool

/-- A width of a WAKE pulse (R517): 2 µs to 20 µs is accepted, below 1 µs or above 30 µs rejected. -/
def State.pulseOk (s : State) (ns : Nat) : Bool × State := s.between (within 2000 20000 ns) (ns < 1000 || 30000 < ns)

/-- A gap between two WAKE pulses (R517): 10 µs to 100 µs is accepted, below 7 µs or above 130 µs rejected. -/
def State.gapOk (s : State) (ns : Nat) : Bool × State := s.between (within 10000 100000 ns) (ns < 7000 || 130000 < ns)

/-- A pulse on WAKE from `from_` to `to_` in PATTERN mode (R517). Pulses that follow a second one are ignored until the pin has
been inactive for 130 µs; a pulse too late to be the second is a first one again. -/
def State.wakePattern (s : State) (from_ to_ : Nat) : State :=
  let ignore (s : State) : State :=
    { s with pwr := { s.pwr with wakePulse := none, wakeIgnoreUntil := 130 * Config.usTicks + to_ } }
  if from_ < s.pwr.wakeIgnoreUntil then ignore s
  else
    let (ok, s) := s.pulseOk (nsOfTicks (to_ - from_))
    let first : State := { s with pwr := { s.pwr with wakePulse := if ok then some (from_, to_) else none } }
    match s.pwr.wakePulse with
    | none => first
    | some (_, e) =>
      let gap := nsOfTicks (from_ - e)
      let (near, s) := s.gapOk gap
      if 100000 < gap && !near then { s with pwr := { s.pwr with wakePulse := if ok then some (from_, to_) else none } }
      else if near && ok then (ignore s).wakeSource 3 0 true
      else ignore s

/-- An active edge or level of WAKE outside PATTERN mode (R517). -/
def State.wakePin (s : State) : State :=
  match s.get PWR_WAKE_CFG_WAKE_MODE with
  | 0 => s.wakeSource 2 0 false
  | 1 => s.wakeSource 2 0 true
  | _ => s

/-- The class of source `c` with DETAIL `d` (R515): level or edge. -/
def State.wakeLevel (s : State) (c d : Nat) : Bool :=
  match c with
  | 4 => false
  | 9 => s.bit PWR_WAKE_CFG_DOOR_LVL d
  | 10 => s.bit PWR_WAKE_CFG_HANDLE_LVL d
  | _ => true

/-- WAKE_EVENT (R516, R517). The wake timer, calendar slots and the retry have rows of their own. -/
def wakeEvent (cause : WakeCause) (at_ : Nat) (s : State) : State :=
  let s := s.advance at_
  match cause with
  | .hncs => s.wakeSource 1 0 true
  | .pin => s.wakePin
  | .pulse ns =>
    let to_ := s.time.now + ns * 5 / 2
    if s.get PWR_WAKE_CFG_WAKE_MODE = 2 then (s.advance to_).wakePattern s.time.now to_ else s.wakePin
  | .source c d =>
    if [4, 5, 8, 9, 10, 11].contains c then s.wakeSource c d (s.wakeLevel c d) else s

/-- WAKE_TIMER (R518): the timer reaches 0. -/
def wakeTimer (s : State) : State :=
  if s.pwr.timerLoad = 0 then s
  else
    let s := s.advanceLp (s.pwr.timerLp + s.pwr.timerLoad)
    State.wakeSource { s with pwr := { s.pwr with timerLoad := 0 } } 7 0 true

/-! ### Voltage and frequency (R528 to R530, R541) -/

/-- The reply to a DVFS request, the level in force; a level restore owes none (R519, R541). -/
def State.dvfsReply (s : State) (d : Dvfs) (st : Nat) : State :=
  if d.restore then s else s.answer d.master 0x14 d.ctx st (if st = OK then [byte s.pwr.level] else [])

/-- A request is applied (R528, R532): a lowering at once, a raise once VCORE has settled. A level restore that does not fit is
dropped. -/
def State.dvfsStart (s : State) (d : Dvfs) : State :=
  if s.pwr.reduced then s.dvfsReply d BAD_STATE
  else if d.target ≤ s.pwr.level then State.dvfsReply { s with pwr := { s.pwr with level := d.target, vid := d.target } } d OK
  else if !s.fits (coreCharge d.target - coreCharge s.pwr.level) then
    if d.restore then s else s.refuseBudget.dvfsReply d POWER_BUDGET
  else
    let s := { s with pwr := { s.pwr with vid := d.target, dvfs := some { d with at_ := s.time.now } } }
    s.notePeak.withdraw 1

/-- A change has ended (R530): of the held requests the last is applied, and those it superseded get the level in force. -/
def State.dvfsNext (s : State) : State :=
  match s.pwr.dvfsHeld.reverse with
  | [] => s
  | d :: old =>
    let s := { s with pwr := { s.pwr with dvfsHeld := [] } }
    (old.reverse.foldl (fun s o => s.dvfsReply o OK) s).dvfsStart d

/-- The change in progress ends with this status. -/
def State.dvfsEnd (s : State) (d : Dvfs) (st : Nat) : State := (s.dvfsReply d st).dvfsNext

/-- DVFS_CHANGE_DONE (R528): SETTLE_US and VCORE_PG have come; the clocks switch. -/
def dvfsChangeDone (at_ : Nat) (s : State) : State :=
  match s.pwr.dvfs with
  | none => s
  | some d =>
    let s := s.advance (max at_ (d.at_ + Config.usTicks * s.get PWR_DVFS_CFG_SETTLE_US))
    State.dvfsEnd { s with pwr := { s.pwr with level := d.target, dvfs := none } } d OK

/-- PWR_DVFS_PG (R529): VCORE_PG is not high within 2 ms of a raise. -/
def pwrDvfsPg (s : State) : State :=
  match s.pwr.dvfs with
  | none => s
  | some d =>
    let s := s.advance (2 * Config.msTicks + d.at_)
    (State.raise { s with pwr := { s.pwr with vid := s.pwr.level, dvfs := none } } FID_PWR_DVFS_PG).dvfsEnd d TIMEOUT

/-- PWR_SET_DVFS (R530, R541). -/
def pwrSetDvfs (m : Master) (p : List Byte) (s : State) : State :=
  hostCmdLater 0x14 m p [lenIs p 4, paramOk (within 1 3 (u8 p 0) && zeroAt p 1 3)]
    (fun c s =>
      let d : Dvfs := { target := u8 p 0, at_ := s.time.now, master := m, ctx := c }
      if s.pwr.reduced then (s, some (BAD_STATE, []))
      else if s.pwr.dvfs.isSome then ({ s with pwr := { s.pwr with dvfsHeld := s.pwr.dvfsHeld ++ [d] } }, none)
      else (s.dvfsStart d, none)) s

/-! ### The wake sequence (R519 to R522, R619) -/

/-- Lock-out (R522): only Lehr is powered, so that retention SRAM is lost, and every wake source is ignored. Polling is STOPPED as in
SAFE_STATE (R106, R599). -/
def State.lockOut (s : State) : State :=
  let s := (if 3 ≤ s.pwr.st.num then s else s.coreLost).lfStop BAD_STATE
  let s := { s with mem := s.mem.filter fun c => !(0x1C000000 ≤ c.1 && c.1 < 0x1C020000) }
  let s := s.put PWR_WAKE_FAIL_LOCKOUT_SEEN 1
  let held := s.pwr.heldFaults ++ [(FID_PWR_WAKE_LOCKOUT, s.stamp)]
  { s with pwr := { s.pwr with st := .p4, wake := none, retryAt := none, lockout := true, vid := 0, padsHeld := 0x3FF, safeHeld := 0, heldFaults := held } }

/-- A wake failure is counted, with its fault held for the next wake that completes (R520). -/
def State.wakeFailed (s : State) (cause fid : Nat) : State :=
  let s := ((s.bump PWR_WAKE_FAIL_TOTAL).bump PWR_WAKE_FAIL_FAIL_COUNT).put PWR_WAKE_FAIL_LAST_CAUSE cause
  let s := { s with pwr := { s.pwr with heldFaults := s.pwr.heldFaults ++ [(fid, s.stamp)] } }
  if s.get PWR_WAKE_FAIL_FAIL_COUNT = 3 then s.lockOut else s

/-- PWR_REDUCED (R521, R534). -/
def State.reducedEvent (s : State) (entered : Bool) : State :=
  s.event EV_PWR_REDUCED ([byte (bit01 entered), byte (bit01 s.time.rcNow)] ++ le 2 (satNat 16 s.pwr.reducedRetries))

/-- The reference is stable, or has been given up: the sequence goes on (R519, R520, R619). A wake from P2 is in P0 once the timing
clock runs. -/
def State.afterReference (s : State) (w : WakeSeq) : State :=
  if w.powerOn then { s with pwr := { s.pwr with vid := 1, wake := some { w with stage := .vcoreWait, stageAt := s.time.now } } }
  else if 3 ≤ w.left then { s with pwr := { s.pwr with wake := some { w with stage := .vcoreWait, stageAt := s.time.now } } }
  else
    let s := if s.pwr.reduced then s else s.restoreTime
    let s := { s with pwr := { s.pwr with st := .p0, isolated := false, wake := some { w with stage := .boot, stageAt := s.time.now } } }
    { s with tmr := s.tmr.map fun c => { c with since := s.time.ran, sinceLp := s.time.lp } }

/-- WAKE_REF_STABLE (R519, R619), within 5 ms of the start of the reference. -/
def wakeRefStable (at_ : Nat) (s : State) : State :=
  match s.pwr.wake with
  | none => s
  | some w => if w.stage != .refStart || 5 * Config.msTicks + w.stageAt < at_ then s else (s.advance at_).afterReference w

/-- WAKE_OSC_TIMEOUT (R520, R521, R619): reduced function. The failure of a power-on is no wake failure. -/
def wakeOscTimeout (s : State) : State :=
  match s.pwr.wake with
  | none => s
  | some w =>
    if w.stage != .refStart then s
    else
      let s := s.advance (5 * Config.msTicks + w.stageAt)
      let s := if w.powerOn && s.time.saved.isNone then s.saveTime else s
      let s := { s with pwr := { s.pwr with reduced := true, reducedRetries := 0, reducedAt := s.time.now } }
      let s := if w.powerOn then s else s.wakeFailed 1 FID_PWR_WAKE_OSC
      if s.pwr.lockout then s
      else (s.reducedEvent true).pollSuspend.afterReference { w with reduced := true }

/-- The register image is back in the core domain (R526, R527). -/
def State.imageBack (s : State) : State :=
  let own := s.regs.filter fun r => lehrReg r.1
  let s := { s with regs := own }
  s.pwr.image.foldl (fun s r => s.setReg r.1 r.2) s

/-- VCORE_PG has risen at `at_` in a wake from P3 or P4 (R519, R525, R526): the image is restored, or the wake acts on the core
domain, or as a whole where the image fails its check, as SOFT_RESET does. -/
def State.wakeRestore (s : State) (w : WakeSeq) (imageOk : Bool) : State :=
  let held := s.pwr.padsHeld
  let keep (s : State) (w : WakeSeq) : State :=
    { s with pwr := { s.pwr with padsHeld := held, wake := some { w with stage := .boot, stageAt := s.time.now } } }
  let s := { s with pwr := { s.pwr with st := .p0, isolated := false }, rng := { s.rng with cause := 1 } }
  let s := if w.left = 4 then s.pingResume else s
  if !s.pwr.list then keep ((s.coreReset false).coreRelease) { w with banks := true }
  else if !imageOk || !s.pwr.imageOk then
    let red := s.pwr.reduced
    let lvl := s.pwr.savedLevel
    let s := s.resetAll 2
    let s := { s with pwr := { s.pwr with reduced := red, savedLevel := lvl } }
    (keep s.coreRelease { w with badImage := true }).raise FID_PWR_RET_CRC
  else
    let s := if s.pwr.reduced then s else s.restoreTime
    let s := if w.left = 3 then s.moveMem 0x1C008000 s.saveArea.1 s.saveArea.2 else s
    keep (s.imageBack.coreLoads.wait (250 * Config.usTicks)) w

/-- VCORE_PG_RISE (R519, R526, R619): the PLLs lock 0.05 ms later. -/
def vcorePgRise (imageOk : Bool) (at_ : Nat) (s : State) : State :=
  match s.pwr.wake with
  | none => s
  | some w =>
    if w.stage != .vcoreWait || s.pwr.vid = 0 then s
    else
      let s := (s.advance at_).wait (50 * Config.usTicks)
      if w.powerOn then s.coreRelease else s.wakeRestore w imageOk

/-- The level in force before entry comes back where it fits the budget (R519, R532). -/
def State.levelRestore (s : State) : State :=
  if s.pwr.savedLevel ≤ s.pwr.level || s.pwr.reduced then s
  else s.dvfsStart { target := s.pwr.savedLevel, at_ := s.time.now, master := .m0, ctx := none, restore := true }

/-- The faults of failed wakes and those held in Lehr are reported, with reconstructed timestamps (R520, R547). -/
def State.heldReports (s : State) : State :=
  let fails := s.pwr.heldFaults.map fun x => ({ fid := x.1, ts := some x.2, recon := true } : Raised)
  { s with pwr := { s.pwr with heldFaults := [] }, flt := { s.flt with raised := s.flt.raised ++ fails ++ s.flt.held, held := [] } }

/-- The running code bank still has its recorded digest (R519, R586). -/
def State.warmOk (s : State) : Bool :=
  let k := s.get SYS_FW_STATUS_SLOT
  let h := s.fwHeader k
  s.hif.flashOk && fwHeadOk h && fwTagOf h (s.readFlash (fwAddr k + 0x100) (fwLen h)) == s.upd.digest

/-- The boot ROM's part of a wake (R519, R525, R586): nothing after P2, the warm path with the code bank reloaded after P3, the cold path after P4, after a lost
image and where the digest does not match. The firmware runs and, unless the wake acted as a reset, serves queue 1. -/
def State.wakeBoot (s : State) (w : WakeSeq) : State :=
  if w.left < 3 then s
  else
    let reset := w.banks || w.badImage
    let cold := w.left = 4 || reset || !s.warmOk
    let s := { s with pwr := { s.pwr with fwRun := true, fwServing := !reset } }
    if cold then s.coldBoot else s.copyBank (s.get SYS_FW_STATUS_SLOT) s.upd.bank

/-- PWR_WAKE (R518, R534). -/
def State.wakeRecord (s : State) (w : WakeSeq) : State :=
  let fl := bit01 w.reduced + 2 * bit01 s.time.rcUsed + 4 * bit01 w.badImage + 8 * bit01 w.banks
  let d := [byte w.left, byte w.source, byte w.detail, byte fl] ++ le 4 s.pwr.lastAsleepMs ++ le 4 (satNat 32 (s.uncert / 1000))
    ++ le 2 (satNat 16 ((s.time.now - w.at_) / Config.usTicks))
  let t := if s.time.running then s.refAt w.at_ else s.refNow - (s.time.now - w.at_)
  s.eventAt t (s.quality ||| 4) EV_PWR_WAKE d

/-- HIF is operational after a wake (R518, R519): what is reported, released and started then. -/
def State.wakeUp (s : State) (w : WakeSeq) : State :=
  let s := s.wakeBoot w
  let asleep := satNat 32 ((w.at_ - s.pwr.asleepAt) / Config.msTicks)
  let s := { s with pwr := { s.pwr with wake := none, hifUp := true, lastAsleepMs := asleep, lastWakeUncert := s.uncert, idleSince := none
                                        refusedNow := 0, triedAt := none } }
  let s := (s.put HIF_IRQ_STATUS_WAKE 1).putBit PWR_WAKE_PEND 1 false
  let s := ((s.put PWR_LAST_WAKE_SOURCE w.source).put PWR_LAST_WAKE_DETAIL w.detail).put PWR_LAST_WAKE_LEFT w.left
  let s := if w.reduced then s else s.put PWR_WAKE_FAIL_FAIL_COUNT 0
  let s := (s.wakeRecord w).heldReports.flushHeld
  let s := if 3 ≤ w.left && s.pwr.fwServing && s.unitOn 11 && s.aes.wiped then s.reinstall else s
  let s := if w.left = 2 then { s with rng := { s.rng with poolAt := s.rng.poolAt + (s.time.now - s.pwr.asleepAt) } } else s
  let s := if s.pwr.reduced then s else s.pollUnsuspend
  s.levelRestore.ewWake.calLate

/-- WAKE_COMPLETE (R470, R519): HIF is operational. After a reset the boot goes on (BOOT_DONE). -/
def wakeComplete (at_ : Nat) (s : State) : State :=
  match s.pwr.wake with
  | none => s
  | some w =>
    if w.stage != .boot then s
    else
      let s := s.advance at_
      if w.source = 0 then { s with pwr := { s.pwr with hifUp := true } } else s.wakeUp w

/-- WAKE_VCORE_TIMEOUT (R520): VID 0b000, and the device enters P4. -/
def wakeVcoreTimeout (s : State) : State :=
  match s.pwr.wake with
  | none => s
  | some w =>
    if w.powerOn || w.left < 3 || w.stage == .boot then s
    else
      let s := s.advance (2 * Config.msTicks + w.at_)
      let s := if s.pwr.st == .p4 then s else ((s.banksLost 4).toState .p4).pollSuspend
      let s := { s with pwr := { s.pwr with wake := none, vid := 0, retryAt := some (100 * Config.msTicks + s.time.now) } }
      s.wakeFailed 2 FID_PWR_WAKE_VCORE

/-- WAKE_RETRY (R520): 100 ms after a regulator failure with a level source still pending. -/
def wakeRetry (s : State) : State :=
  match s.pwr.retryAt with
  | none => s
  | some t =>
    if s.pwr.lockout || s.pwr.wake.isSome || s.pwr.st != .p4 then s
    else
      let s := s.advance t
      let s := { s with pwr := { s.pwr with retryAt := none } }
      if s.wakePending then s.startWake 12 0 else s

/-- VCORE_RAISE_RETRY (R619): at power-on, VID returns to off 2 ms after a raise and is raised again every 100 ms. -/
def vcoreRaiseRetry (s : State) : State :=
  match s.pwr.wake with
  | none => s
  | some w =>
    if !w.powerOn || w.stage != .vcoreWait then s
    else if s.pwr.vid ≠ 0 then
      let s := s.advance (2 * Config.msTicks + w.stageAt)
      { s with pwr := { s.pwr with vid := 0 } }
    else
      let s := (s.advance (100 * Config.msTicks + w.stageAt)).bump PWR_WAKE_FAIL_TOTAL
      { s with pwr := { s.pwr with vid := 1, wake := some { w with stageAt := s.time.now } } }

/-- REFERENCE_RESTART (R521): every 1 s in reduced function; `stable` says whether the reference becomes stable. -/
def referenceRestart (stable : Bool) (s : State) : State :=
  if !s.pwr.reduced || !s.awake || s.pwr.wake.isSome then s
  else
    let s := s.advance (Config.sTicks + s.pwr.reducedAt)
    let s := { s with pwr := { s.pwr with reducedAt := s.time.now, reducedRetries := s.pwr.reducedRetries + 1 } }
    if !stable then s
    else ((State.restoreTime { s with pwr := { s.pwr with reduced := false } }).reducedEvent false).pollUnsuspend

/-! ### Commands -/

/-- PWR_SET_POLICY (R11, R537). -/
def pwrSetPolicy (m : Master) (p : List Byte) (s : State) : State :=
  let cfg := u32 p 12
  let en := u16 p 2
  let old := (s.reg PWR_WAKE_CFG.addr).toNat
  hostCmd 0x10 m p
    [lenIs p 20, paramOk (u8 p 0 < 16 && u8 p 1 < 2), paramOk (en < 0x1000 && bitAt en 0 = 0 && bitAt en 3 = 0),
     paramOk (bitsAt cfg 0 2 ≠ 3 && !reservedBits (regFields 1 (offOf PWR_WAKE_CFG)) cfg),
     paramOk (within 1000 2000 (u16 p 16) && zeroAt p 18 2)]
    (fun s =>
      if s.flag PWR_CTRL_LOCK && (cfg ≠ old || u16 p 16 ≠ s.get PWR_BUDGET_BUDGET_MW) then s.ends ACCESS_DENIED
      else
        let s := if bitAt (u8 p 1) 0 = 1 then s.put PWR_WAKE_PEND 0 else s
        let s := (s.put PWR_POLICY_ALLOW (u8 p 0)).put PWR_WAKE_EN en
        let s := (s.put PWR_IDLE0_IDLE_P1_US (u16 p 4)).put PWR_IDLE0_IDLE_P2_MS (u16 p 6)
        let s := (s.put PWR_IDLE1_IDLE_P3_MS (u16 p 8)).put PWR_IDLE1_IDLE_P4_S (u16 p 10)
        let s := (s.put PWR_WAKE_CFG cfg).put PWR_BUDGET_BUDGET_MW (u16 p 16)
        (s, OK, [byte (s.get PWR_POLICY_ALLOW)])) s

/-- The milliseconds spent in state `k` (PWR_RESIDs). -/
def State.residMs (s : State) (k : Nat) : Nat := satNat 32 (s.pwr.resid.getD k 0 / Config.msTicks)

/-- PWR_GET_STATS (R535, R539). -/
def pwrGetStats (m : Master) (p : List Byte) (s : State) : State :=
  hostCmd 0x12 m p [lenIs p 1, paramOk (u8 p 0 < 2)]
    (fun s =>
      let d := [byte s.pwr.level, byte (s.get PWR_LAST_WAKE_SOURCE), byte (s.get PWR_LAST_WAKE_DETAIL), byte (s.get PWR_LAST_WAKE_LEFT),
          byte (s.get PWR_WAKE_FAIL), byte (bit01 s.pwr.reduced + 2 * bit01 s.pwr.list + 4 * bit01 (s.pwr.padsHeld != 0)), 0, 0]
        ++ le 4 s.pwr.lastAsleepMs ++ le 4 s.pwr.lastWakeUncert ++ ((List.range 5).flatMap fun k => le 4 (s.residMs k))
        ++ ((List.range 4).flatMap fun k => le 4 (s.get (PWR_ENTRIES (k + 1)))) ++ le 2 (s.used4 / 4)
        ++ le 2 (s.get PWR_BUDGET_STAT_PEAK_MW)
      let s := if u8 p 0 = 1 then
          (List.range 4).foldl (fun s k => s.put (PWR_ENTRIES (k + 1)) 0) { s with pwr := { s.pwr with resid := [0, 0, 0, 0, 0] } }
        else s
      (s, OK, d)) s

/-- The groups that a release cannot free: those SAFE_STATE holds, and group 0 in factory test mode (R551, R598). -/
def State.padsBound (s : State) : Nat := (if s.safeState then safePads else 0) ||| bit01 s.sys.test

/-- PWR_PAD_RELEASE (R524, R540). -/
def pwrPadRelease (m : Master) (p : List Byte) (s : State) : State :=
  hostCmd 0x13 m p [lenIs p 4, paramOk (u32 p 0 < 1024)]
    (fun s =>
      let h := s.pwr.padsHeld
      let go := h &&& u32 p 0
      let h := h - go + (go &&& s.padsBound)
      let safe := (s.pwr.safeHeld ||| (if s.safeState then go &&& safePads else 0)) &&& h
      ({ s with pwr := { s.pwr with padsHeld := h, safeHeld := safe } }, OK, le 4 h)) s

/-- PWR_SET_RETAIN (R542). -/
def pwrSetRetain (m : Master) (p : List Byte) (s : State) : State :=
  hostCmd 0x15 m p [lenIs p 4, paramOk (zeroAt p 1 3)]
    (fun s =>
      let s := s.put PWR_RET_CFG_RETAIN_MASK (u8 p 0)
      (s, OK, [byte (s.get PWR_RET_CFG_RETAIN_MASK), byte (bit01 s.pwr.list)])) s

end Sys2Proof.Machine
end

