-- ==== Sys2Proof/Machine/Flags.lean ====
section
/-!
DEFINITION. Machine/Flags.lean: the computed fields of the registers: status fields, counts and images whose value is a function
of the rest of the state (the register summaries and field tables of every chapter). A field that no list here names reads as it
is stored. Write-only fields and reserved bits read as 0 (R9, R10).
-/
namespace Sys2Proof.Machine

/-- A field and the value it reads as. -/
abbrev Shown : Type := Field × Nat

/-- A truth value shown in a field. -/
def shownB (f : Field) (b : Bool) : Shown := (f, bit01 b)

/-- The index of the register at offset `o` among the `n` registers `f 0`, `f 1`, … that stand `st` bytes apart. -/
def regIx (o : Nat) (f : Nat → Field) (n st : Nat) : Option Nat :=
  let b := offOf (f 0)
  if b ≤ o && (o - b) % st == 0 && (o - b) / st < n then some ((o - b) / st) else none

/-- The first list that an index selects. -/
def onIx (i : Option Nat) (f : Nat → List Shown) (rest : List Shown) : List Shown :=
  match i with | some k => f k | none => rest

/-- The list of the register at offset `o`, among registers that exist once. -/
def onReg (o : Nat) : List (Field × List Shown) → List Shown
  | [] => []
  | (f, l) :: t => if offOf f = o then l else onReg o t

/-- A free level of an input that no command shows (notes/assumptions/1.md). -/
def State.freeBits (s : State) (lsb w : Nat) : Nat := bitsAt (Config.freeValue s.free) lsb w

/-- SYS (R600, R601). -/
def sysView (s : State) (o : Nat) : List Shown :=
  onReg o [(SYS_FW_STATUS, [(SYS_FW_STATUS_TRIAL_S, s.trialSeconds)]), (SYS_FW_SECVER, [(SYS_FW_SECVER, s.cntVal 46)])]

/-- PWR (R535, R536). -/
def pwrView (s : State) (o : Nat) : List Shown :=
  let entry := match s.pwr.entry with | none => 0 | some e => if e.step = 2 && s.inWindow then 3 else e.step
  onIx (regIx o PWR_RESID 5 4) (fun k => [(PWR_RESID k, s.residMs k)])
    (onReg o
      [(PWR_STATUS, [(PWR_STATUS_STATE, s.pwr.st.num), (PWR_STATUS_ENTRY, entry), (PWR_STATUS_LEVEL, s.pwr.level),
          shownB PWR_STATUS_DVFS_BUSY s.pwr.dvfs.isSome, shownB PWR_STATUS_REDUCED s.pwr.reduced,
          shownB PWR_STATUS_RET_MODE s.pwr.list, shownB PWR_STATUS_PADS_HELD (s.pwr.padsHeld != 0)]),
       (PWR_BUDGET, [(PWR_BUDGET_USED_MW, s.used4 / 4)]),
       (PWR_PAD_HELD, [(PWR_PAD_HELD, s.pwr.padsHeld)]),
       (PWR_WAKE_TIMER, [(PWR_WAKE_TIMER, s.pwr.timerLoad - (s.time.lp + 2 ^ 48 - s.pwr.timerLp) % 2 ^ 48)])])

/-- TIME (R53, R54). -/
def timeView (s : State) (o : Nat) : List Shown :=
  onIx (regIx o (TIME_CAL_SLOT 0) 512 4)
    (fun k => [(TIME_CAL_SLOT (k / 8) (k % 8), fieldLe (s.slotImage (k / 8)) (4 * (k % 8)) 4)])
    (onReg o
      [(TIME_STATUS, [(TIME_STATUS_SERVO, s.time.servo.code), (TIME_STATUS_QUAL, s.quality),
          shownB TIME_STATUS_LPX_OK s.time.lpxOk]),
       (TIME_DEV_LO, [(TIME_DEV_LO, s.devNow)]), (TIME_DEV_HI, [(TIME_DEV_HI, s.devNow / 2 ^ 32)]),
       (TIME_REF_LO, [(TIME_REF_LO, s.refNow)]), (TIME_REF_HI, [(TIME_REF_HI, s.refNow / 2 ^ 32)]),
       (TIME_RATE_ADJ, [(TIME_RATE_ADJ, satSigned 32 s.time.rateNow)]), (TIME_UNCERT, [(TIME_UNCERT, satNat 32 s.uncert)]),
       (TIME_LP_CNT_LO, [(TIME_LP_CNT_LO, s.time.lp)]), (TIME_LP_CNT_HI, [(TIME_LP_CNT_HI, s.time.lp / 2 ^ 32)]),
       (TIME_LP_RATIO, [(TIME_LP_RATIO, s.time.lpRatio)]), (TIME_LP_RC_RATIO, [(TIME_LP_RC_RATIO, s.time.rcRatio)]),
       (TIME_CAL_USED_LO, [(TIME_CAL_USED_LO, s.calUsed 0)]), (TIME_CAL_USED_HI, [(TIME_CAL_USED_HI, s.calUsed 32)])])

/-- The channel and the register of the TMR offset `o` (R61). -/
def tmrReg (o : Nat) : Nat × Nat := (o / 0x40, o % 0x40)

/-- TMR (R61, R65, R66, R68): the count now, the captured count, and CHAINED. -/
def tmrView (s : State) (o : Nat) : List Shown :=
  let (n, r) := tmrReg o
  if 16 ≤ n then []
  else if r = 0x10 then
    [(TMR_CH_CNT n, if s.chainHigh n then s.tmrCount (n - 1) / 2 ^ 32 else s.tmrCount n)]
  else if r = 0x18 then
    [(TMR_CH_CAP n, if s.chainHigh n then s.capVal (n - 1) / 2 ^ 32 else s.capVal n)]
  else if r = 0x1C then [shownB (TMR_CH_STATUS_CHAINED n) (s.chainHigh n)]
  else []

/-- The word of entry `j` of pattern `i` (R108, R113). -/
def State.patWord (s : State) (i j : Nat) : Nat :=
  match (s.lfPat i)[j]? with
  | some e => e.ch + 2 ^ 8 * e.phase + 2 ^ 16 * e.amp
  | none => 0

/-- LF (R108 to R111). -/
def lfView (s : State) (o : Nat) : List Shown :=
  let kind (k : Nat) : Bool := match s.lf.tx with | some t => t.kind == k | none => false
  let sid := match s.lf.tx with | some t => if t.kind = 0 then t.send.id else 0 | none => 0
  let period := if s.pstate = 2 ∨ s.pstate = 3 then s.lf.period else 0
  onIx (regIx o (LF_PAT 0) 128 4) (fun k => [(LF_PAT (k / 4) (k % 4), s.patWord (k / 4) (k % 4))])
    (onIx (regIx o LF_CH_STATUS 12 32)
      (fun n => [(LF_CH_STATUS_STATE n, if s.fenced 4 then 5 else (s.lfChan n).code)])
      (onReg o
        [(LF_STATUS, [(LF_STATUS_STATE, (s.unit 4).code), shownB LF_STATUS_TX_ACTIVE s.lf.tx.isSome,
            shownB LF_STATUS_TX_SEQ (kind 1 || kind 2), shownB LF_STATUS_DEG_PARTIAL (s.modeNow 3),
            shownB LF_STATUS_REGION_OK (s.lfRangeOk (s.get LF_CARRIER_FREQ_HZ)), (LF_STATUS_CH_UNAVAIL, s.lfOutMask)]),
         (LF_SEND_STATUS, [(LF_SEND_STATUS_PENDING, s.lf.sends.length), (LF_SEND_STATUS_SEND_ID, sid)]),
         (LF_POLL_STATUS, [(LF_POLL_STATUS_CUR_PERIOD_MS, period), shownB LF_POLL_STATUS_NONCE_LOADED s.lf.nonce.isSome,
            (LF_POLL_STATUS_IDLE_DAYS, satNat 6 s.idleDays)])]))

/-- URX (R156 to R158). The noise floor and a window's last block power (R144) are measured values (notes/assumptions/16.md). -/
def urxView (s : State) (o : Nat) : List Shown :=
  let adc (b : Bool) : Bool := s.radioOn && !s.adcOut b
  onIx (regIx o URX_CH_STATUS 64 64)
    (fun n => [shownB (URX_CH_STATUS_IN_FRAME n) ((s.uch n).phase == 2),
      (URX_CH_STATUS_NOISE n, if (s.win (n / 16)).st == .off then 32768 else s.freeBits 0 16)])
    (onIx (regIx o URX_WIN_PWR 4 16)
      (fun w => if (s.win w).onAt = 0 then [] else [(URX_WIN_PWR w, s.freeBits 0 16)])
    (onReg o
      [(URX_STATUS, [(URX_STATUS_WIN_STATE, sumNat ((List.range 4).map fun w => (s.win w).st.code * 2 ^ (3 * w))),
          shownB URX_STATUS_RADIO_ON s.radioOn, shownB URX_STATUS_DEG_SINGLE (s.modeNow 0),
          shownB URX_STATUS_BYP_ACTIVE s.urx.bypass, shownB URX_STATUS_ADC_A_OK (adc false), shownB URX_STATUS_ADC_B_OK (adc true),
          (URX_STATUS_JAM, sumNat ((List.range 4).map fun w => bit01 (s.win w).jam * 2 ^ w)), (URX_STATUS_SENT_STATE, s.sentState)]),
       (URX_GATHER_STATUS, [(URX_GATHER_STATUS_GSTATE, s.urx.gather.st), (URX_GATHER_STATUS_CAPTURE_ID, s.urx.gather.id)])]))

/-- UTX (R195, R196). -/
def utxView (s : State) (o : Nat) : List Shown :=
  let mask (f : Nat → Bool) : Nat := sumNat ((List.range 5).map fun k => bit01 (f k) * 2 ^ k)
  let run (f : CalRun → Nat) : Nat := match s.utx.run with | some r => f r | none => 0
  let band (f : Band → Nat) (b : Nat) : Nat := match s.bands[b]? with | some d => f d | none => 0
  onIx (regIx o UTX_DUTY_USED 8 16) (fun b => [(UTX_DUTY_USED b, satNat 32 (s.dutyUsed b))])
    (onIx (regIx o UTX_DUTY_LIMIT 8 16) (fun b => [(UTX_DUTY_LIMIT b, s.dutyLimit b)])
      (onIx (regIx o UTX_DUTY_SOFT 8 16) (fun b => [(UTX_DUTY_SOFT b, s.dutySoft b)])
        (onIx (regIx o UTX_DUTY_BAND 8 16)
          (fun b => [(UTX_DUTY_BAND_MAX_PWR b, band (·.maxPwr) b), (UTX_DUTY_BAND_LBT b, band (fun d => bit01 d.lbt) b)])
          (onReg o
            [(UTX_STATUS, [(UTX_STATUS_STATE, (s.unit 6).code),
                shownB UTX_STATUS_TX_ACTIVE (s.utx.tx.isSome || decide (s.time.now < s.utx.freeAt)),
                shownB UTX_STATUS_SYNTH_LOCK s.utx.synth.isSome, shownB UTX_STATUS_CAL_ACTIVE s.utx.run.isSome,
                shownB UTX_STATUS_REGION_OK s.sys.region.ok,
                (UTX_STATUS_PENDING, min 8 (s.utx.sends.length + bit01 s.utx.tx.isSome))]),
             (UTX_REGION_ID, [(UTX_REGION_ID_REGION, s.sys.region.id), (UTX_REGION_ID_VERSION, s.sys.region.version),
                (UTX_REGION_ID_NBANDS, s.sys.region.nbands), shownB UTX_REGION_ID_LOCKED s.sys.region.locked,
                shownB UTX_REGION_ID_CHECK_OK s.sys.region.ok]),
             (UTX_COEX_STATUS, [shownB UTX_COEX_STATUS_GNT s.gnt]),
             (UTX_CAL_STATUS, [(UTX_CAL_STATUS_VALID, mask fun k => (s.calShown k).1),
                (UTX_CAL_STATUS_STALE, mask fun k => (s.calShown k).2.1), (UTX_CAL_STATUS_ITEM, run (·.due.item)),
                (UTX_CAL_STATUS_ENTRY, run (·.due.idx)), (UTX_CAL_STATUS_DIE_TEMP, ofSigned 8 s.sys.temp)])]))))

/-- RANGE and ZONE (R230 to R233). -/
def rangeView (s : State) (o : Nat) : List Shown := onReg o [(RANGE_STATUS, [(RANGE_STATUS_STATE, (s.unit 7).code), shownB RANGE_STATUS_RUNNING s.rangeRunning])]

/-- ZONE (R232, R233). -/
def zoneView (s : State) (o : Nat) : List Shown :=
  onReg o [(ZONE_STATUS, [(ZONE_STATUS_STATE, (s.unit 8).code), shownB ZONE_STATUS_BUSY s.zone.solve.isSome])]

/-- CRED (R279, R280). -/
def credView (s : State) (o : Nat) : List Shown :=
  onIx (regIx o CRED_EPOCH 16 4) (fun j => [(CRED_EPOCH j, s.epochOf j % 2 ^ 16)])
    (onReg o
      [(CRED_STATUS, [(CRED_STATUS_STATE, (s.unit 9).code), (CRED_STATUS_POP_STATE, s.popState),
          shownB CRED_STATUS_DEG_NO_POP (s.modeNow 2), shownB CRED_STATUS_GLOBAL_LOCK s.globalLocked,
          (CRED_STATUS_DIR_COUNT, s.dirCount), (CRED_STATUS_LOCKED, satNat 8 s.lockedCount)])])

/-- REL (R316, R317). -/
def relView (s : State) (o : Nat) : List Shown :=
  onIx (regIx o EWAKE_STATUS 4 16)
    (fun l => let e := s.ewLine l
      [shownB (EWAKE_STATUS_ASSERTED l) e.on, shownB (EWAKE_STATUS_PENDING l) e.pend.isSome,
       (EWAKE_STATUS_SLOT l, e.slot.getD 0xFF)])
    (onReg o
      [(REL_STATUS, [(REL_STATUS_STATE, (s.unit 10).code), (REL_STATUS_SESS, s.rel.sess), (⟨REL_STATUS.addr, 6, 7⟩, s.relBits)]),
       (REL_ARM, [(REL_ARM_MODE, s.rel.armMode), (REL_ARM_SECONDS, satNat 16 s.armSeconds)]),
       (REL_TT_STATUS, [(REL_TT_STATUS_PATTERN, s.rel.tt.pat)])])

/-- AES (R354, R355). -/
def aesView (s : State) (o : Nat) : List Shown :=
  onIx (regIx o AES_SLOT 64 4) (fun i => [(AES_SLOT i, s.slotWord i)])
    (onReg o
      [(AES_STATUS, [(AES_STATUS_STATE, (s.unit 11).code), shownB AES_STATUS_E0_BUSY (s.engine 0).run.isSome,
          shownB AES_STATUS_E1_BUSY (s.engine 1).run.isSome, shownB AES_STATUS_MRD_BUSY s.aes.mrd.isSome,
          (AES_STATUS_SLOTS, s.slotsUsed)])])

/-- TRNG (R356, R357). -/
def trngView (s : State) (o : Nat) : List Shown :=
  onReg o
    [(TRNG_STATUS, [(TRNG_STATUS_STATE, (s.unit 12).code), (TRNG_STATUS_GEN, s.genShown), shownB TRNG_STATUS_POOL_READY s.poolReady]),
     (TRNG_FIFO, [(TRNG_FIFO, s.fifoRead.1)]), (TRNG_FIFO_STAT, [(TRNG_FIFO_STAT_LEVEL, s.rng.fifo.length)])]

/-- CNT (R358, R359): CNT_INC_RESULT is the reading master's. -/
def cntView (s : State) (m : Master) (o : Nat) : List Shown :=
  onIx (regIx o CNT_VAL_LO 64 8) (fun n => [(CNT_VAL_LO n, s.cntVal n)])
    (onIx (regIx o CNT_VAL_HI 64 8) (fun n => [(CNT_VAL_HI n, s.cntVal n / 2 ^ 32)])
      (onReg o
        [(CNT_STATUS, [(CNT_STATUS_STATE, (s.unit 21).code), shownB CNT_STATUS_BUSY s.cntBusy]),
         (CNT_INC_RESULT, [(CNT_INC_RESULT, s.cnt.results.getD m.num 0)]),
         (CNT_AT_LIMIT_LO, [(CNT_AT_LIMIT_LO, s.atLimit 0)]), (CNT_AT_LIMIT_HI, [(CNT_AT_LIMIT_HI, s.atLimit 32)])]))

/-- HFR (R388, R389). -/
def hfrView (s : State) (o : Nat) : List Shown :=
  onReg o
    [(HFR_STATUS, [(HFR_STATUS_STATE, (s.unit 13).code), shownB HFR_STATUS_FIELD s.hfr.field.isSome,
        (HFR_STATUS_PORT, s.hfr.field.getD 0), shownB HFR_STATUS_DEG_NO_HFR (s.modeNow 4), shownB HFR_STATUS_FLOW s.hfr.flow.isSome])]

/-- VLT (R428, R429). -/
def vltView (s : State) (o : Nat) : List Shown :=
  onReg o
    [(VLT_STATUS, [(VLT_STATUS_STATE, (s.unit 14).code), (VLT_STATUS_VPWR, s.vpwr), (VLT_STATUS_TAG_STATE, s.vlt.proto),
        shownB VLT_STATUS_SESSION s.vlt.session, shownB VLT_STATUS_FD s.vlt.fdWake, shownB VLT_STATUS_STREAM s.vlt.stream.isSome]),
     (VLT_PWR_STATUS, [(VLT_PWR_STATUS_VH, satNat 13 s.vlt.vh), (VLT_PWR_STATUS_VRSTORE, satNat 13 s.vlt.vrstore)]),
     (VLT_REL_STATUS, [shownB VLT_REL_STATUS_ARMED s.vlt.logic.armed, (VLT_REL_STATUS_PULSE_10MS, s.vlt.logic.pulse),
        (VLT_REL_STATUS_REL_VMIN, s.vlt.logic.vmin)]),
     (VLT_LAST_TSEQ, [(VLT_LAST_TSEQ, s.vlt.logic.lastTseq)]), (VLT_LAST_TIME, [(VLT_LAST_TIME, s.vlt.logic.lastTime)])]

/-- The ports and pool of QM (R456, R457). -/
def qmView (s : State) (o : Nat) : List Shown :=
  let mask (k : Nat) (f : Nat → Bool) : Nat := sumNat ((List.range 32).map fun i => bit01 (f (32 * k + i)) * 2 ^ i)
  onIx (regIx o QM_WM_SUM 4 4)
    (fun k => [(QM_WM_SUM k, mask k fun q => s.flag (QM_Q_STATUS_HWF q) || s.flag (QM_Q_STATUS_LWF q))])
    (onIx (regIx o QM_NE_SUM 4 4) (fun k => [(QM_NE_SUM k, mask k fun q => !(s.queue q).isEmpty)])
      (onIx (regIx o QM_PUSH_STATUS 8 16)
        (fun p => let t := s.pushPort p
          [(QM_PUSH_STATUS_STATUS p, t.status), shownB (QM_PUSH_STATUS_OPEN p) t.item.isSome, (QM_PUSH_STATUS_BYTES p, t.bytes)])
        (onIx (regIx o QM_POP_INFO 8 16)
          (fun p => let t := s.popPort p
            [(QM_POP_INFO_STATUS p, t.status), (QM_POP_INFO_LEN_B p, t.len), (QM_POP_INFO_SRC p, t.src)])
          (onIx (regIx o QM_POP_DATA 8 16) (fun p => [(QM_POP_DATA p, s.popWord p .clean)])
            (onReg o
              [(QM_STATUS, [(QM_STATUS_STATE, (s.unit 15).code), (QM_STATUS_OPEN, s.openCount), (QM_STATUS_BOUND, s.boundCount)]),
               (QM_FREE, [(QM_FREE, s.freeCells)])])))))

/-- The registers of a queue (R456, R457). -/
def queueView (s : State) (o : Nat) : List Shown :=
  onIx (regIx o QM_Q_LEVEL 128 32) (fun q => [(QM_Q_LEVEL_LEVEL q, s.level q), (QM_Q_LEVEL_ITEMS q, (s.queue q).length)])
    (onIx (regIx o QM_Q_STATUS 128 32) (fun q => [(QM_Q_STATUS q, s.qStatusWord q)]) [])

/-- HIF (R503, R504). What discovery has found of the flash is a property of the device (notes/assumptions/16.md). -/
def hifView (s : State) (o : Nat) : List Shown :=
  let mode := if !s.hif.flashOk then 3 else if s.pwr.hifUp then 2 else 1
  onReg o
    [(HIF_STATUS, [(HIF_STATUS_SPI_FLAGS, s.flagByte false), (HIF_STATUS_SIDE_FLAGS, s.flagByte true),
        (HIF_STATUS_CMDQ_LEVEL, s.level 1)]),
     (HIF_IRQ_STATUS, [(⟨HIF_IRQ_STATUS.addr, 0, 7⟩, s.irqStatus)]),
     (HIF_XSPI_STATUS, [(HIF_XSPI_STATUS_MODE, mode), shownB HIF_XSPI_STATUS_BUSY s.flashBusy,
        shownB HIF_XSPI_STATUS_SUSPENDED (s.hif.flash.any (·.suspended) || s.upd.eraseHeld),
        (HIF_XSPI_STATUS_LATENCY, if mode = 2 then Config.flashLatency.toNat else 0),
        (HIF_XSPI_STATUS_DENSITY, if mode = 2 then Config.flashDensity.toNat else 0)]),
     (HIF_XSPI_ID, [(HIF_XSPI_ID, if mode = 2 then Config.flashId.toNat else 0)])]

/-- FLT (R566, R567). -/
def fltView (s : State) (o : Nat) : List Shown :=
  if 0x1000 ≤ o then
    let fid := fidAt o
    let i := srcIx fid
    if o % 0x10 = 8 then
      [(FLT_S_STATUS_STATE i, s.srcState fid), shownB (FLT_S_STATUS_SHADOWED i) (s.eventParent fid 0xFF).isSome,
       (FLT_S_STATUS_WCOUNT i, (s.src fid).wcount)]
    else if o % 0x10 = 12 then [(FLT_S_TIME i, (s.src fid).lastRef / 2 ^ 32)]
    else []
  else
    onReg o
      [(FLT_STAT, [(FLT_STAT_HIGHEST, s.highest), shownB FLT_STAT_SAFE s.safeState, shownB FLT_STAT_FATAL s.fatalLatched,
          shownB FLT_STAT_NFAULT s.nfault, shownB FLT_STAT_TEST s.sys.test]),
       (FLT_FENCED, [(FLT_FENCED, s.fencedMask)]), (FLT_DEG, [(FLT_DEG_MODES, s.modesNow), (FLT_DEG_FORCED, s.modesForced)]),
       (FLT_SAFE_FID, [(FLT_SAFE_FID, s.flt.safe.getD 0xFFFF)]), (FLT_LATCHED, [(FLT_LATCHED, s.latchedFids.length)])]

/-- BBX (R568, R569). -/
def bbxView (s : State) (o : Nat) : List Shown :=
  onReg o
    [(BBX_STATUS, [shownB BBX_STATUS_READY s.bbx.ready, shownB BBX_STATUS_ERASING s.bbx.erasing, (BBX_STATUS_HALF, s.bbx.half),
        (BBX_STATUS_SLOT, s.bbx.slot), (BBX_STATUS_BUF, s.bbx.buf.length)]),
     (BBX_GEN, [(BBX_GEN, s.bbx.gen)]), (BBX_TOKENS, [(BBX_TOKENS, s.bbx.tokens)]), (BBX_ERASE_A, [(BBX_ERASE_A, s.bbx.erasesA)]),
     (BBX_ERASE_B, [(BBX_ERASE_B, s.bbx.erasesB)])]

/-- WLK (R602, R603). -/
def wlkView (s : State) (o : Nat) : List Shown :=
  onReg o [(WLK_STATUS, [(WLK_STATUS_STATE, (s.unit 20).code), (WLK_STATUS_ROLE, s.sys.straps)])]

/-- The level of GPIO `n` (R523, R632): what the device drives where it drives, else that of the pin, which is free. -/
def State.gpioLevel (s : State) (n : Nat) : Nat :=
  let out := if s.padHeld 6 then bitAt s.pwr.gpioHeld n else bitAt (s.get PAD_GPIO_OUT) n
  if s.bit PAD_GPIO_OE n && (out = 0 || !s.flag (PAD_GPIO_CFG_OD n)) then out else s.freeBits n 1

/-- PAD (R631, R632): the levels of WAKE and REF_SYNC are free; VCORE_PG is high while the core domain runs. -/
def padView (s : State) (o : Nat) : List Shown :=
  onReg o
    [(PAD_IN, [(PAD_IN_GPIO, sumNat ((List.range 16).map fun n => s.gpioLevel n * 2 ^ n)), (PAD_IN_WAKE, s.freeBits 16 1),
        (PAD_IN_REF_SYNC, s.freeBits 17 1), shownB PAD_IN_FB_A s.rel.fbA, shownB PAD_IN_FB_B s.rel.fbB, shownB PAD_IN_PG s.awake,
        (PAD_IN_ROLE, s.sys.straps)])]

/-- The computed fields of the register at offset `o` of block `b`, as master `m` reads them. -/
def State.viewFields (s : State) (m : Master) (b o : Nat) : List Shown :=
  match b with
  | 0 => sysView s o
  | 1 => pwrView s o
  | 2 => timeView s o
  | 3 => tmrView s o
  | 4 => lfView s o
  | 5 => urxView s o
  | 6 => utxView s o
  | 7 => rangeView s o
  | 8 => zoneView s o
  | 9 => credView s o
  | 10 => relView s o
  | 11 => aesView s o
  | 12 => trngView s o
  | 13 => hfrView s o
  | 14 => vltView s o
  | 15 => if o < 0x1000 then qmView s o else queueView s o
  | 16 => hifView s o
  | 17 => fltView s o
  | 18 => bbxView s o
  | 20 => wlkView s o
  | 21 => cntView s m o
  | 22 => padView s o
  | _ => []

/-- A word with computed fields in their places. -/
def showFields (w : Word) (l : List Shown) : Word := l.foldl (fun w f => f.1.insert w f.2) w

/-- Write-only fields and bits that no field covers read as 0 (R9, R10). -/
def readable (fs : List FieldRow) (w : Word) : Word :=
  BitVec.ofNat 32 (sumNat (fs.map fun f => if f.acc == .wo then 0 else bitsAt w.toNat f.lsb f.width * 2 ^ f.lsb))

/-- The word that master `m` reads at register address `a` (R9, R10), before what the read itself changes. -/
def State.regView (s : State) (m : Master) (a : Nat) : Word :=
  match blockOf a with
  | none => 0
  | some (b, o) => readable (regFields b o) (showFields (s.reg a) (s.viewFields m b o))

end Sys2Proof.Machine
end

