-- ==== Sys2Proof/Machine/RegAccess.lean ====
section
/-!
DEFINITION. Machine/RegAccess.lean: reads and writes of registers by a bus master (R9 to R12, R20, R21, R44, R493, R494 and the
register rules of each chapter), and the commands that HIF executes itself (R484 to R490).
-/
namespace Sys2Proof.Machine

/-! ### Reads (R9, R44) -/

/-- The address of the high register of the count whose low register is at `a` (R44, R66, R358). -/
def State.highOf (s : State) (a : Nat) : Option Nat :=
  match blockOf a with
  | some (2, o) => if o = offOf TIME_DEV_LO || o = offOf TIME_REF_LO || o = offOf TIME_LP_CNT_LO then some (a + 4) else none
  | some (3, o) =>
    let (n, r) := tmrReg o
    if n < 16 && s.chained n && (r = 0x10 || r = 0x18) then some (a + 0x40) else none
  | some (21, o) => if (regIx o CNT_VAL_LO 64 8).isSome then some (a + 4) else none
  | _ => none

/-- Only M0, M1 and M2 have shadows (R44). -/
def hasShadow (m : Master) : Bool := m == .m0 || m == .m1 || m == .m2

/-- The filled shadow of master `m` for the high register at `a`. -/
def State.shadowAt (s : State) (m : Master) (a : Nat) : Option Shadow :=
  s.time.shadows.find? fun h => h.master == m && s.highOf h.low == some a

/-- Shadows change. -/
def State.setShadows (s : State) (l : List Shadow) : State := { s with time := { s.time with shadows := l } }

/-- The word that a read by `m` of register `a` returns: the shadow where it is filled, else the register (R44). -/
def State.readWord (s : State) (m : Master) (a : Nat) : Word :=
  match s.shadowAt m a with
  | some h => BitVec.ofNat 32 h.high
  | none => s.regView m a

/-- The shadow part of a read (R44): a low register fills it, a high register empties it. -/
def State.readShadow (s : State) (m : Master) (a : Nat) : State :=
  if !hasShadow m then s
  else
    match s.highOf a with
    | some h =>
      let others := s.time.shadows.filter fun x => !(x.master == m && x.low == a)
      s.setShadows ({ master := m, low := a, high := (s.regView m h).toNat } :: others)
    | none =>
      match s.shadowAt m a with
      | some h => s.setShadows (s.time.shadows.filter fun x => !(x.master == m && x.low == h.low))
      | none => s

/-- A word with its RC fields cleared (R9). -/
def clearRc (fs : List FieldRow) (w : Nat) : Nat :=
  fs.foldl (fun w f => if f.acc == .rc then w - bitsAt w f.lsb f.width * 2 ^ f.lsb else w) w

/-- What else a read of offset `o` of block `b` changes: CAPF (R65), the TRNG FIFO (R356), a pop port (R444), and the free value of
a read of input levels (notes/assumptions/1.md). -/
def State.readEffect (s : State) (b o : Nat) : State :=
  match b with
  | 3 => let (n, r) := tmrReg o; if n < 16 && r = 0x18 then s.capRead n else s
  | 5 => if (regIx o URX_CH_STATUS 64 64).isSome then { s with free := s.free + 1 } else s
  | 12 => if o = offOf TRNG_FIFO then s.fifoRead.2 else s
  | 15 => match regIx o QM_POP_DATA 8 16 with | some p => popData p .clean s | none => s
  | 22 => if o = offOf PAD_IN then { s with free := s.free + 1 } else s
  | _ => s

/-- All that a read by `m` of the register at `a` changes. -/
def State.afterRead (s : State) (m : Master) (a : Nat) : State :=
  match blockOf a with
  | none => s
  | some (b, o) =>
    let s := s.readShadow m a
    let s := if (regFields b o).any (·.acc == .rc) then
        s.setReg a (BitVec.ofNat 32 (clearRc (regFields b o) (s.reg a).toNat)) else s
    s.readEffect b o

/-- The word at `a` outside the registers: OTP, and the other memories. -/
def State.memWord (s : State) (a : Nat) : Nat := ofLe ((List.range 4).map fun i => s.otp8 (a + i))

/-- The word at `a` of the cell pool (R17, R435): cell 8191 holds the overflow notice of queue 0; which of the other cells holds which item is
the free list's secret, so that a word is free while any of them is in use (notes/assumptions/50.md). -/
def State.poolWord (s : State) (a : Nat) : Nat × State :=
  let notice := (s.queue 0).find? (·.notice)
  if 0x1807FFC0 ≤ a && notice.isSome then
    (ofLe ((padTo 64 ((notice.map (·.bytes)).getD [])).drop (a - 0x1807FFC0) |>.take 4), s)
  else if s.freeCells = Config.poolCells then (s.memWord a, s) else s.fresh 32

/-- A read of the 32-bit word at `a` by `m` that reaches its target (R20, R549): its value and the state after it. -/
def State.readAt (s : State) (m : Master) (a : Nat) : Nat × State :=
  match blockOf a with
  | none => if within 0x18000000 0x1807FFFF a then s.poolWord a else (s.memWord a, s)
  | some (b, _) => if s.fenced b then (0, s) else ((s.readWord m a).toNat, s.afterRead m a)

/-- The part of a word that a read at address `a` addresses (R21): the word at an aligned address, a half-word at byte 2, a byte at an
odd address. -/
def addressedPart (a v : Nat) : Nat :=
  match a % 4 with | 0 => v | 2 => v / 2 ^ 16 | k => v / 2 ^ (8 * k) % 256

/-- A read by a bus master (R20, R21): the value it gets, and what it changes. A fault names the address of the access, a byte's too. -/
def State.busRead (s : State) (m : Master) (a : Nat) : State :=
  let w := a - a % 4
  if !s.awake || s.silent m then s
  else
    match s.busOutcome m w 0 with
    | .decode => (s.readBack m 0).decodeFault m a 0
    | .denied => (s.readBack m 0).denyFault m a 0
    | _ => s.onRead m w (addressedPart a (s.readAt m w).1) fun s => (s.readAt m w).2

/-- TMR_CAP_READ (R65, R68): a read of TMR_CHn_CAP. -/
def tmrCapRead (m : Master) (n : Fin 16) (s : State) : State := s.busRead m (TMR_CH_CAP n).addr

/-- LOW_WORD_READ (R44): a read of the low register of a count. -/
def lowWordRead (m : Master) (addr : BitVec 32) (s : State) : State := s.busRead m addr.toNat

/-- RC_REGISTER_READ (R9): a read of a register returns its value and clears its RC fields. -/
def rcRegisterRead (m : Master) (addr : BitVec 32) (s : State) : State := s.busRead m addr.toNat

/-! ### Writes (R9 to R12) -/

/-- The address of offset `o` of block `b`. -/
def regAt (b o : Nat) : Nat := 0x40000000 + 0x10000 * b + o

/-- A number with field `f` of a register word moved into a range. -/
def clampField (f : Field) (lo hi w : Nat) : Nat :=
  (f.insert (BitVec.ofNat 32 w) (clampNat lo hi (bitsAt w f.lsb f.width))).toNat

/-- URX and ZONE state no result for a value outside a field's range (R157, R233). -/
def rangeOpen (b : Nat) : Bool := b == 5 || b == 8

/-- The fields of a register as a write acts on them: no range is applied where the chapter states none. -/
def writeRows (b o : Nat) : List FieldRow :=
  (regFields b o).map fun f => if rangeOpen b then { f with lo := 0, hi := 2 ^ f.width - 1 } else f

/-- Ranges that depend on other fields or on the channel, and values that a write cannot set: LF_CHn_ILIM (R110), LF_POLL_BO
(R111), UTX_DUTYb_SOFT and the FEM delays (R165, R195, R196), RANGE_QUAL_CFG (R231), EWAKE (R316), the source registers (R567), PWR (R535, R536), an odd
timer channel (R62). -/
def State.adjust (s : State) (b o v : Nat) : Nat :=
  match b with
  | 1 =>
    if o = offOf PWR_WAKE_EN then v &&& 0xFF6
    else if o = offOf PWR_RET_CFG then
      clampField PWR_RET_CFG_FWSAVE_LEN 0 (88 - min 87 (bitsAt v 8 7)) v
    else v
  | 3 => if o < 0x400 && o % 0x80 = 0x40 then (TMR_CH_CTRL_CHAIN 0).insert (BitVec.ofNat 32 v) 0 |>.toNat else v
  | 4 =>
    if o = offOf LF_POLL_BO then clampField LF_POLL_BO_BO_MAX_MS 0 8000 v
    else
      match regIx o LF_CH_ILIM 12 32 with
      | some n =>
        if n < 4 then clampField (LF_CH_ILIM_SENSE_MOHM n) 10 1000 (clampField (LF_CH_ILIM_ILIM_MA n) 100 5500 v)
        else clampField (LF_CH_ILIM_SENSE_MOHM n) 0 0 (clampField (LF_CH_ILIM_ILIM_MA n) 20 900 v)
      | none => v
  | 6 =>
    if o = offOf UTX_FEM_ON then
      let pa := max 41 (bitsAt v 16 8)
      let tr := max pa (bitsAt v 8 8)
      max tr (bitsAt v 0 8) + 2 ^ 8 * tr + 2 ^ 16 * pa
    else if o = offOf UTX_FEM_OFF then
      let pa := clampNat 20 50 (bitsAt v 0 8)
      let tr := clampNat pa 50 (bitsAt v 8 8)
      pa + 2 ^ 8 * tr + 2 ^ 16 * clampNat tr 50 (bitsAt v 16 8)
    else match regIx o UTX_DUTY_SOFT 8 16 with | some k => min v (s.dutyLimit k) | none => v
  | 7 => if o = offOf RANGE_QUAL_CFG then clampField RANGE_QUAL_CFG_MIN_TONES 0 (s.get RANGE_PLAN_CFG_N) v else v
  | 10 =>
    if o = offOf EWAKE_PRED0 || o = offOf EWAKE_PRED1 || o = offOf EWAKE_PRED2 then
      clampField EWAKE_PRED0_APPROACH 0 60000 (clampField EWAKE_PRED0_HANDLE 0 60000 v)
    else if (regIx o EWAKE_TIME 4 16).isSome then
      clampField (EWAKE_TIME_LEAD_MS 0) 0 10000 (clampField (EWAKE_TIME_HOLD_S 0) 1 3600 v)
    else v
  | 15 =>
    if (regIx o QM_Q_WM 128 32).isSome then clampField (QM_Q_WM_LOW 0) 0 (bitsAt v 0 14) v else v
  | 17 =>
    if o < 0x1000 then v
    else
      let i := srcIx (fidAt o)
      if o % 0x10 = 0 then
        if reactOk (fidAt o) (bitsAt v 28 3) (s.get (FLT_S_CFG2_DEG_MODE i)) then v
        else ((FLT_S_CFG_SEV_REACT i).insert (BitVec.ofNat 32 v) (s.get (FLT_S_CFG_SEV_REACT i))).toNat
      else if o % 0x10 = 4 && s.get (FLT_S_CFG_SEV_REACT i) = 2 && !modeOk (fidAt o) (bitsAt v 0 3) then
        ((FLT_S_CFG2_DEG_MODE i).insert (BitVec.ofNat 32 v) (s.get (FLT_S_CFG2_DEG_MODE i))).toNat
      else v
  | _ => v

/-- Where the chapter states no result for a value outside a field's range, the field takes a free value (notes/assumptions/30.md). -/
def State.openRanges (s : State) (b o v : Nat) : Nat × State :=
  if !rangeOpen b then (v, s)
  else
    (regFields b o).foldl (fun (v, s) f =>
      if (f.acc == .rw || f.acc == .rwl) && !within f.lo f.hi (bitsAt v f.lsb f.width) then
        let (x, s) := s.fresh f.width
        (((⟨regAt b o, f.lsb, f.width⟩ : Field).insert (BitVec.ofNat 32 v) x).toNat, s)
      else (v, s)) (v, s)

/-- The word that a write of `v` leaves at offset `o` of block `b` (R9, R10, R11). The lock is tested as it stood before the write: a
write that sets LOCK takes the other RWL fields of its word (DESIGN CHOICE, notes/assumptions/145.md). -/
def State.writtenWord (s : State) (b o v : Nat) : Word :=
  BitVec.ofNat 32 (writeFields (writeRows b o) (s.lockSet b o || fixedSource b o) (s.reg (regAt b o)).toNat v)

/-- A write that does no more than R9 says. -/
def State.storeWord (s : State) (b o v : Nat) : State :=
  let (v, s) := s.openRanges b o v
  s.setReg (regAt b o) (s.writtenWord b o v)

/-- As `storeWord`, with the word taking effect at the boundary `key` where the unit is not quiet (R151, R190). -/
def State.storeLater (s : State) (quiet : Bool) (key b o v : Nat) : State :=
  if quiet then s.storeWord b o v
  else
    let (v, s) := s.openRanges b o v
    s.stage false key ⟨regAt b o, 0, 32⟩ (s.writtenWord b o v).toNat

/-- A write to a write-only word that the block keeps (R231, R355). -/
def State.keepWord (s : State) (b o v : Nat) : State := s.setReg (regAt b o) (BitVec.ofNat 32 v)

/-- PWR registers (R518, R535). -/
def State.writePwr (s : State) (o v : Nat) : State :=
  if o = offOf PWR_WAKE_TIMER then { s with pwr := { s.pwr with timerLoad := v % 2 ^ 32, timerLp := s.time.lp } }
  else if o = offOf PWR_CMD then s.enterNow (v % 8)
  else s.storeWord 1 o v

/-- The word of TOP, CNT or CMP that a write gives channel or pair `n` (R66): `none` where a low word is held. -/
def State.pairWord (s : State) (n : Nat) (f : Nat → Field) (held : Option Nat) (v : Nat) : Option Nat :=
  if s.chained n then none
  else if s.chainHigh n then some (held.getD (s.get (f (n - 1))) + 2 ^ 32 * v)
  else some v

/-- TMR registers (R61 to R69). A channel's count is brought up to date before its control changes. -/
def State.writeTmr (s : State) (o v : Nat) : State :=
  let (n, r) := tmrReg o
  if o = offOf TMR_START then s.tmrStartMask v
  else
    let k := s.tmrOwner n
    let c := s.tmrCh k
    if r = 0x10 then
      match s.pairWord n TMR_CH_CNT c.lowCnt v with
      | none => s.setTmrCh n { c with lowCnt := some v }
      | some x => let s := s.tmrWriteCount k x; s.setTmrCh k { s.tmrCh k with lowCnt := none }
    else if r = 0x0C then
      match s.pairWord n TMR_CH_TOP c.lowTop v with
      | none => s.setTmrCh n { c with lowTop := some v }
      | some x => let s := (s.tmrSync k).setPair k TMR_CH_TOP x; s.setTmrCh k { s.tmrCh k with lowTop := none }
    else if r = 0x14 then
      match s.pairWord n TMR_CH_CMP c.lowCmp v with
      | none => s.setTmrCh n { c with lowCmp := some v }
      | some x =>
        let s := (s.tmrSync k).setPair k TMR_CH_CMP x
        s.setTmrCh k { s.tmrCh k with lowCmp := none, cmpArmed := true }
    else (s.tmrSync k).tmrChange n fun s => s.storeWord 3 o v

/-- The registers whose change waits for the end of the response window (R111). -/
def pollReg (o : Nat) : Bool :=
  o == offOf LF_POLL_CFG || o == offOf LF_POLL_BO || o == offOf LF_POLL_RWIN || (regIx o LF_POLL_HPAT 4 4).isSome

/-- LF registers (R80, R108 to R111). -/
def State.writeLf (s : State) (o v : Nat) : State :=
  if o = offOf LF_POLL_CMD then
    let s := if bitAt v 0 = 1 then s.pollKick else s
    if bitAt v 1 = 1 then s.nonceClear else s
  else if pollReg o then
    s.pollStage [pollChange ⟨regAt 4 o, 0, 32⟩ (s.writtenWord 4 o v).toNat]
  else
    match regIx o LF_HNONCE 4 4 with
    | some k => s.nonceWord k (BitVec.ofNat 32 v)
    | none =>
      match regIx o LF_CH_CTRL 12 32 with
      | some n =>
        (s.storeWord 4 o v).lfEnable n (bitAt v 0 == 1)
      | none => s.storeWord 4 o v

/-- URX registers (R144, R151, R156): a direct write to the registers of an enabled channel is ignored, and one to a window's waits
while a channel of it is in a frame. -/
def State.writeUrx (s : State) (o v : Nat) : State :=
  if 0x1000 ≤ o then
    if o % 0x40 < 0x18 && s.flag (URX_CH_CFG_EN ((o - 0x1000) / 0x40)) then s else s.storeWord 5 o v
  else if 0x100 ≤ o && o < 0x140 then
    let w := (o - 0x100) / 0x10
    s.storeLater (!s.winInFrame w) (2000 + w) 5 o v
  else (s.storeWord 5 o v).jamArmed (s.flag URX_JAM_CFG_JAM_EN)

/-- UTX registers (R190, R195): a change of configuration waits for the quiescent boundary. -/
def State.writeUtx (s : State) (o v : Nat) : State :=
  let later := [UTX_FEM_ON, UTX_FEM_OFF, UTX_FEM_CTRL, UTX_COEX_CFG, UTX_CAL_CFG].any fun f => offOf f == o
  s.storeLater (s.utxQuiet || !(later || (regIx o UTX_DUTY_SOFT 8 16).isSome)) 6 6 o v

/-- The plan, trim and threshold registers of RANGE (R231). -/
def planReg (o : Nat) : Bool :=
  [RANGE_PLAN_F0, RANGE_PLAN_SP, RANGE_PLAN_CFG, RANGE_TIMING, RANGE_TRIM, RANGE_QUAL_CFG, RANGE_THR, RANGE_THR2].any
    fun f => offOf f == o

/-- RANGE registers (R230, R231): a plan written directly is no longer known to pass R208, and MIN_TONES follows N down. -/
def State.writeRange (s : State) (o v : Nat) : State :=
  if o = offOf RANGE_CMD then
    let s := if bitAt v 0 = 1 then s.rangeGo else s
    if bitAt v 1 = 1 then s.rangeAbort else s
  else if (regIx o RANGE_SEED 8 4).isSome then s.keepWord 7 o v
  else if planReg o && !s.flag RANGE_CTRL_LOCK then
    let s := (s.storeWord 7 o v).put RANGE_STATUS_PLAN_OK 0
    if s.get RANGE_PLAN_CFG_N < s.get RANGE_QUAL_CFG_MIN_TONES then
      s.put RANGE_QUAL_CFG_MIN_TONES (s.get RANGE_PLAN_CFG_N) else s
  else s.storeWord 7 o v

/-- REL registers (R290, R316). -/
def State.writeRel (s : State) (o v : Nat) : State :=
  if o = offOf REL_CMD then
    let s := if bitAt v 0 = 1 then s.relOpenCmd else s
    if bitAt v 1 = 1 then s.relEndCause (s.endNow 2) else s
  else s.storeWord 10 o v

/-- AES registers (R325 to R327, R331): CLEAR before GO where one write holds both. A new direct key is not yet expanded. -/
def State.writeAes (s : State) (m : Master) (o v : Nat) : State :=
  if o = offOf MRD_CMD then (if bitAt v 0 = 1 then mrdGoOn m s else s)
  else if (regIx o MRD_IN 10 4).isSome then s.keepWord 11 o v
  else if 0x100 ≤ o && o < 0x200 then
    let e := (o - 0x100) / 0x80
    let r := o % 0x80
    if r = 8 then
      let s := if bitAt v 1 = 1 then s.engineClear e else s
      if bitAt v 0 = 1 then aesGoOn m e s else s
    else if r = 4 then s.storeWord 11 o v
    else
      match s.engineWerr e with
      | (s, true) => s
      | (s, false) =>
        if r = 0 then s.storeWord 11 o v
        else if r < 0x40 then
          let en := s.engine e
          (s.setEngine e { en with expanded := if en.expanded = some 64 then none else en.expanded }).keepWord 11 o v
        else if r < 0x50 then s.keepWord 11 o v
        else s
  else s.storeWord 11 o v

/-- HFR registers (R388): ping settings written directly are in force at once. -/
def State.writeHfr (s : State) (o v : Nat) : State :=
  if o = offOf HFR_PING_CFG then s.pingApply s.pingLead (s.writtenWord 13 o v) (s.reg HFR_PING_THR.addr)
  else if o = offOf HFR_PING_THR then s.pingApply s.pingLead (s.reg HFR_PING_CFG.addr) (s.writtenWord 13 o v)
  else s.storeWord 13 o v

/-- The configuration that queue `q` has or is to have (R453). -/
def State.queueCfg (s : State) (q : Nat) : QueueCfg :=
  match (s.qm.waiting.filter (·.queue == q)).getLast? with
  | some c => c
  | none => { queue := q, cfg := s.get (QM_Q_CFG q), quota := s.get (QM_Q_LIMITS_QUOTA q), ct := s.get (QM_Q_LIMITS_CT_THR q)
              high := s.get (QM_Q_WM_HIGH q), low := s.get (QM_Q_WM_LOW q) }

/-- CFG, LIMITS or WM of queue `q` is written directly (R453, R457). -/
def State.writeQueueCfg (s : State) (q r v : Nat) : State :=
  let w := (s.writtenWord 15 (0x1000 + 0x20 * q + r) v).toNat
  let c := s.queueCfg q
  let c := if r = 0 then { c with cfg := w } else if r = 4 then { c with quota := bitsAt w 0 14, ct := bitsAt w 16 7 }
    else { c with high := bitsAt w 0 14, low := bitsAt w 16 14 }
  if 0 < s.openItems q && bitAt c.cfg 0 = 1 then { s with qm := { s.qm with waiting := s.qm.waiting ++ [c] } }
  else s.configQueue c

/-- QM registers (R443, R444, R453, R456, R457). -/
def State.writeQm (s : State) (m : Master) (o v : Nat) : State :=
  if 0x1000 ≤ o then
    let q := (o - 0x1000) / 0x20
    let r := o % 0x20
    if r = 0 || r = 4 || r = 8 then s.writeQueueCfg q r v else s.storeWord 15 o v
  else
    match regIx o QM_PUSH_BEGIN 8 16, regIx o QM_PUSH_DATA 8 16, regIx o QM_POP_SEL 8 16, regIx o QM_POP_DONE 8 16 with
    | some p, _, _, _ => pushBegin m p (BitVec.ofNat 32 v) s
    | _, some p, _, _ => pushData p (BitVec.ofNat 32 v) s
    | _, _, some p, _ => popSel m p (BitVec.ofNat 7 v) s
    | _, _, _, some p => if bitAt v 0 = 1 then s.releasePop p else s
    | _, _, _, _ => s.storeWord 15 o v

/-- FLT registers (R545, R566, R567): a new N or W empties the window of the source. -/
def State.writeFlt (s : State) (o v : Nat) : State :=
  let w := s.writtenWord 17 o v
  let changed := 0x1000 ≤ o && o % 0x10 = 0 && bitsAt (s.reg (regAt 17 o)).toNat 0 28 ≠ bitsAt w.toNat 0 28
  let s := s.setReg (regAt 17 o) w
  if changed then s.emptyWindow (fidAt o) else s

/-- ACC registers (R494): a table that is written again after a parity error counts once more. -/
def State.writeAcc (s : State) (o v : Nat) : State :=
  let s := s.storeWord 19 o v
  if o < 0x1000 then s
  else { s with hif := { s.hif with accParity := s.hif.accParity.filter (· != (o - 0x1000) / 0x200) } }

/-- PAD registers (R631). -/
def State.writePad (s : State) (o v : Nat) : State :=
  if o = offOf PAD_GPIO_SET then s.put PAD_GPIO_OUT (s.get PAD_GPIO_OUT ||| v % 2 ^ 16)
  else if o = offOf PAD_GPIO_CLR then s.put PAD_GPIO_OUT (s.get PAD_GPIO_OUT &&& (0xFFFF ^^^ v % 2 ^ 16))
  else s.storeWord 22 o v

/-- What a write of `v` by `m` to offset `o` of block `b` does there. -/
def State.writeBlock (s : State) (m : Master) (b o v : Nat) : State :=
  match b with
  | 1 => s.writePwr o v
  | 3 => s.writeTmr o v
  | 4 => s.writeLf o v
  | 5 => s.writeUrx o v
  | 6 => s.writeUtx o v
  | 7 => s.writeRange o v
  | 8 => if o = offOf ZONE_CMD then (if bitAt v 0 = 1 && s.zoneFree then s.zoneStart m none false else s) else s.storeWord 8 o v
  | 9 => if o = offOf CRED_LK_CMD && bitAt v 0 = 1 then s.lookGo (BitVec.ofNat 32 v) else s.storeWord 9 o v
  | 10 => s.writeRel o v
  | 11 => s.writeAes m o v
  | 13 => s.writeHfr o v
  | 15 => s.writeQm m o v
  | 17 => s.writeFlt o v
  | 19 => s.writeAcc o v
  | 21 => if o = offOf CNT_INC then cntIncOn m (v % 64) s else s.storeWord 21 o v
  | 22 => s.writePad o v
  | _ => s.storeWord b o v

/-- A write of `v` by `m` that reaches offset `o` of block `b` (R9 to R11), with what a write of the block's EN brings (R80,
R590). -/
def State.writeReg (s : State) (m : Master) (b o v : Nat) : State :=
  let v := s.adjust b o v
  let s := s.writeBlock m b o v
  if hasEn b && o = 0 then s.unitEnable b (s.flag (enField b)) else s

/-- The write would change a field that a lock covers (R11). -/
def State.hitsLock (s : State) (b o v : Nat) : Bool :=
  s.lockSet b o && changesLocked (writeRows b o) (s.reg (regAt b o)).toNat (s.adjust b o v)

/-- The OTP address lies in a region table whose LOCK word is written (R3). -/
def State.otpLocked (s : State) (a : Nat) : Bool :=
  regionAddr ≤ a && a < regionAddr + 216 && (s.sys.part != .ww || s.sys.region.locked)

/-- A write of `n` bytes to memory at `a` (R12, R17): OTP bits go from 0 to 1 in factory test mode only; the ROM and the flash
window take no write (R17, R497). -/
def State.writeMemAt (s : State) (a n v : Nat) : State :=
  match targetOf a with
  | some (5, _) =>
    if !s.sys.test || s.otpLocked a then s
    else
      let s := s.writeMem a ((List.range n).map fun i => s.mem8 (a + i) ||| byte (v / 256 ^ i))
      if regionAddr ≤ a && a < regionAddr + 216 && (s.readMem (regionAddr + 212) 4 == le 4 0xA5C35A3C) then
        { s with sys := { s.sys with region := { s.sys.region with locked := true } } }
      else s
  | some (t, _) => if within 1 4 t then s.writeMem a (le n v) else s
  | none => s

/-- The bytes of an access size. -/
def accBytes : AccSize → Nat
  | .byte => 1 | .half => 2 | .word => 4

/-- A write by `m` at `a` of an aligned word that has its right (R549): to a fenced unit it is discarded, but that a write of its
first register is recorded in EN (R590; notes/assumptions/31.md). -/
def State.writeAt (s : State) (m : Master) (a v : Nat) : State :=
  match blockOf a with
  | none => s.writeMemAt a 4 v
  | some (b, o) =>
    if s.fenced b then (if hasEn b && o = 0 then s.putB (enField b) (bitAt v 0 == 1) else s) else s.writeReg m b o v

/-- REGISTER_WRITE (R9 to R12, R20, R21, R493, R494): a write by a bus master. A byte or half-word write to a register is
discarded and recorded as under R20, and so is a misaligned one, whose offset no summary lists. An access to memory at an address that its
size does not divide has no effect (DESIGN CHOICE, notes/assumptions/146.md). -/
def registerWrite (m : Master) (addr : BitVec 32) (v : Word) (size : AccSize) (s : State) : State :=
  let a := addr.toNat
  if !s.awake || s.silent m then s
  else if (blockOf a).isSome && (size ≠ .word || a % 4 ≠ 0) then s.decodeFault m a 1
  else
    match s.busOutcome m a 1 with
    | .decode => s.decodeFault m a 1
    | .denied => s.denyFault m a 1
    | _ => if a % accBytes size ≠ 0 then s else if (blockOf a).isSome then s.writeAt m a v.toNat else s.writeMemAt a (accBytes size) v.toNat

/-! ### The commands that HIF executes itself (R472, R488 to R490) -/

/-- The addresses of `n` consecutive words. -/
def wordAddrs (a n : Nat) : List Nat := (List.range n).map fun i => a + 4 * i

/-- The checks of R488 on the words at `l`, with the rights `ks` (0 R, 1 W): the state with what the first failing address
records, and its status. -/
def State.regCheck (s : State) (m : Master) (ks : List Nat) (l : List Nat) : State × Nat :=
  match l.find? fun a => s.busOutcome m a 0 == .decode with
  | some a => (s.decodeFault m a (ks.headD 0), BAD_PARAM)
  | none =>
    if ks.contains 1 && l.any (fun a => (targetOf a).map (·.1) == some 5) && !s.sys.test then (s, FACTORY_ONLY)
    else
      match (l.flatMap fun a => ks.map fun k => (a, k)).find? fun (a, k) => s.busOutcome m a k == .denied with
      | some (a, k) => (s.denyFault m a k, ACCESS_DENIED)
      | none => (s, OK)

/-- Words are read in ascending order (R488). -/
def readWords (m : Master) : List Nat → State → State × List Byte
  | [], s => (s, [])
  | a :: l, s =>
    let (v, s) := s.readAt m a
    let (s, d) := readWords m l s
    (s, le 4 v ++ d)

/-- Words are written in ascending order; the command stops after a word that would change a locked field (R489): the state, the
number of words written, whether it stopped. -/
def writeWords (m : Master) (p : List Byte) : Nat → List Nat → State → State × Nat × Bool
  | n, [], s => (s, n, false)
  | n, a :: l, s =>
    let v := u32 p (8 + 4 * n)
    let hit := match blockOf a with | some (b, o) => !s.fenced b && s.hitsLock b o v | none => false
    let s := s.writeAt m a v
    if hit then (s, n + 1, true) else writeWords m p (n + 1) l s

/-- REG_READ (R488). -/
def regReadRun (m : Master) (p : List Byte) (s : State) : Effect :=
  let a := u32 p 0
  let n := u16 p 4
  if p.length ≠ 8 then (s, BAD_LENGTH, [])
  else if a % 4 ≠ 0 || !within 1 256 n || !zeroAt p 6 2 then (s, BAD_PARAM, [])
  else
    let (s, st) := s.regCheck m [0] (wordAddrs a n)
    if st ≠ OK then (s, st, [])
    else let (s, d) := readWords m (wordAddrs a n) s; (s, OK, d)

/-- REG_WRITE (R489). -/
def regWriteRun (m : Master) (p : List Byte) (s : State) : Effect :=
  let a := u32 p 0
  let n := u16 p 4
  if p.length < 8 || p.length ≠ 8 + 4 * n then (s, BAD_LENGTH, [])
  else if a % 4 ≠ 0 || !within 1 256 n || !zeroAt p 6 2 then (s, BAD_PARAM, [])
  else
    let (s, st) := s.regCheck m [1] (wordAddrs a n)
    if st ≠ OK then (s, st, [])
    else let (s, k, stop) := writeWords m p 0 (wordAddrs a n) s; (s, if stop then ACCESS_DENIED else OK, le 2 k)

/-- REG_MODIFY (R490). -/
def regModifyRun (m : Master) (p : List Byte) (s : State) : Effect :=
  let a := u32 p 0
  if p.length ≠ 12 then (s, BAD_LENGTH, [])
  else if a % 4 ≠ 0 then (s, BAD_PARAM, [])
  else
    let (s, st) := s.regCheck m [0, 1] [a]
    if st ≠ OK then (s, st, [])
    else
      let (old, s) := s.readAt m a
      let v := (old &&& (0xFFFFFFFF ^^^ u32 p 4)) ||| (u32 p 8 &&& u32 p 4)
      let (s, _, stop) := writeWords m (List.replicate 8 0 ++ le 4 v) 0 [a] s
      (s, if stop then ACCESS_DENIED else OK, le 4 old)

/-- The bus commands by opcode (R472). -/
def regCommand (m : Master) (op : Nat) (p : List Byte) (s : State) : Effect :=
  if op = 4 then regReadRun m p s else if op = 5 then regWriteRun m p s else regModifyRun m p s

/-- A bus command that arrives in a packet: in the recovery path it returns BAD_STATE (R586). -/
def portCommand (m : Master) (op : Nat) (p : List Byte) (s : State) : Effect :=
  if s.recovery then s.ends BAD_STATE else regCommand m op p s

/-- A bus command of port master `m` (R472, R488 to R490), executed by HIF without the firmware. In the recovery path it
returns BAD_STATE (R586). -/
def State.regCmd (s : State) (m : Master) (op : Nat) (p : List Byte) : State :=
  if !s.awake || !s.pwr.hifUp then s
  else if !s.mayCommand m op then s.answer m op none ACCESS_DENIED []
  else if s.recovery then s.answer m op none BAD_STATE []
  else
    let (s, st, d) := regCommand m op p s
    s.answer m op none st d

/-- REG_READ (R488). -/
def regRead (m : Master) (p : List Byte) (s : State) : State := s.regCmd m 4 p

/-- REG_WRITE (R489). -/
def regWrite (m : Master) (p : List Byte) (s : State) : State := s.regCmd m 5 p

/-- REG_MODIFY (R490). -/
def regModify (m : Master) (p : List Byte) (s : State) : State := s.regCmd m 6 p

/-! ### Identity and status (R484 to R486) -/

/-- NOP (R484). -/
def nop (m : Master) (p : List Byte) (s : State) : State := hostCmd 0x00 m p [lenIs p 0] State.ok s

/-- ECHO (R484). -/
def echo (m : Master) (p : List Byte) (s : State) : State :=
  hostCmd 0x07 m p [(p.length ≤ 4104, BAD_LENGTH)] (fun s => (s, OK, p)) s

/-- The ORDER code of GET_ID (R485). -/
def Part.order : Part → Nat
  | .eu => 0 | .na => 1 | .jp => 2 | .cn => 3 | .ww => 4

/-- The 36 bytes of GET_ID (R485). ROLE is 0 for a manager, else one more than the worker's index. -/
def State.idBytes (s : State) : List Byte :=
  le 2 0x0880 ++ [0xB1, byte s.sys.part.order, byte s.sys.region.id, byte s.sys.region.version,
    byte (bit01 s.sys.region.locked + 2 * bit01 s.sys.region.ok),
    byte (if s.sys.role = 0 then 0 else 1 + s.get WLK_CTRL_INDEX)]
  ++ (List.range 16).map Config.serial ++ le 2 Config.bootRom.toNat
  ++ [if s.recovery then 0xFF else byte (s.get SYS_FW_STATUS_SLOT), 0] ++ le 4 (s.get SYS_FW_VERSION) ++ le 2 s.sys.epoch ++ [0, 0]

/-- GET_ID (R485). -/
def getId (m : Master) (p : List Byte) (s : State) : State := hostCmd 0x01 m p [lenIs p 0] (fun s => (s, OK, s.idBytes)) s

/-- The 32 bytes of GET_STATUS (R486). -/
def State.statusBytes (s : State) : List Byte :=
  [byte s.pwr.level, byte s.pwr.resetCause, byte (s.get PWR_LAST_WAKE_SOURCE), byte s.highest,
    byte (s.modesNow % 64 + 64 * bit01 s.safeState + 128 * bit01 s.sys.cfgDefaults),
    byte (bit01 s.pwr.fwServing + 2 * (if s.recovery then 0 else s.get SYS_FW_STATUS_SLOT) + 4 * bit01 s.upd.switch.isSome
      + 8 * bit01 s.sys.test),
    byte s.genShown, byte s.time.servo.code]
  ++ le 8 s.time.ref ++ le 4 s.fencedMask ++ le 2 (s.level 0) ++ le 2 s.freeCells ++ le 2 s.sys.epoch
  ++ [byte s.rel.sess, byte s.pstate, byte (bit01 (s.pwr.padsHeld != s.pwr.safeHeld)), 0, 0, 0]

/-- GET_STATUS (R486). -/
def getStatus (m : Master) (p : List Byte) (s : State) : State := hostCmd 0x02 m p [lenIs p 0] (fun s => (s, OK, s.statusBytes)) s

end Sys2Proof.Machine
end

