-- ==== Sys2Proof/Machine/Hif.lean ====
section
/-!
DEFINITION. Machine/Hif.lean: the events of the SPI link, the sideband port and the flash port (R466 to R481, R499, R500), the end
of STARTING (R590), and what the worker link brings to a worker (R594, R597).
-/
namespace Sys2Proof.Machine

/-! ### The SPI link and the sideband port -/

/-- The number of a port in queue items (R473). -/
def portNum (side : Bool) : Nat := if side then 2 else 1

/-- What waited for the reply of a port to be read goes on: SOFT_RESET 10 µs later (R487), PWR_ENTER at once (R538). -/
def State.replyRead (s : State) (side : Bool) : State :=
  let s := match s.hif.softReset with
    | some (due, p) =>
      if p = portNum side then
        { s with hif := { s.hif with softReset := some (min due (10 * Config.usTicks + s.time.now), 0) } }
      else s
    | none => s
  match s.pwr.enterWait with
  | some w => if w.port = portNum side then s.enterGo else s
  | none => s

/-- A transaction or transfer on a port, and what follows the first complete read of a reply. -/
def State.portEvent (s : State) (side : Bool) (f : State → State) : State :=
  let was := (s.port side).reply.isSome && !(s.port side).read
  let s := f s
  if was && (s.port side).reply.isSome && (s.port side).read then s.replyRead side else s

/-- SPI_REQUEST (R466 to R471). -/
def spiRequest (bytes : List Byte) (at_ : Nat) (s : State) : State :=
  (s.advance at_).portEvent false fun s => s.requestOn false bytes portCommand

/-- SPI_READ (R469): a read transaction of `n` bytes, the flag byte among them. -/
def spiRead (n : Nat) (at_ : Nat) (s : State) : State := (s.advance at_).portEvent false fun s => s.readOn false n

/-- SIDE_WRITE (R478, R479). -/
def sideWrite (bytes : List Byte) (at_ : Nat) (s : State) : State :=
  (s.advance at_).portEvent true fun s => s.requestOn true bytes portCommand

/-- SIDE_READ (R479). -/
def sideRead (n : Nat) (at_ : Nat) (s : State) : State := (s.advance at_).portEvent true fun s => s.readOn true n

/-- SCL is held low, or no longer. -/
def State.setStretch (s : State) (v : Option Nat) : State := { s with hif := { s.hif with stretch := v } }

/-- SIDE_ADDRESS_MATCH (R480): in P2 and P3 the match holds SCL low and is a wake source. -/
def sideAddressMatch (at_ : Nat) (s : State) : State :=
  if (s.pwr.st == .p2 || s.pwr.st == .p3) && !s.awake && s.flag HIF_CTRL_SIDE_EN then
    let s := s.advance at_
    (s.setStretch (some s.time.now)).wakeSource 4 0 false
  else s

/-- SIDE_STRETCH_END (R480): SCL is released with acknowledge once HIF is operational, without it after 300 µs. -/
def sideStretchEnd (s : State) : State :=
  match s.hif.stretch with
  | none => s
  | some t => if s.portUp true then s.setStretch none else (s.advance (300 * Config.usTicks + t)).setStretch none

/-- HIF_SIDE_STUCK (R481): the port returns to idle. No partial request is ever held in this state, so none is left. -/
def hifSideStuck (at_ : Nat) (s : State) : State :=
  if !s.portUp true then s else ((s.advance at_).setStretch none).raise FID_HIF_SIDE_STUCK

/-! ### Replies of the firmware (R473, R474) -/

/-- Segments of the head packet of queue 2 are taken out, `n` of them. -/
def State.popSegs (s : State) : Nat → State
  | 0 => s
  | n + 1 => match s.popItem 2 with | some (_, s) => s.popSegs n | none => s

/-- Held replies go into queue 2 while it has room for all of their segments (R473). -/
def sendHeld : List HeldReply → State → State
  | [], s => s
  | r :: l, s =>
    match s.pushAll 2 0x80 (replySegs r.ctx r.status r.data) with
    | some s => sendHeld l { s with hif := { s.hif with held := l } }
    | none => s

/-- A whole reply of context `c` reaches HIF: it goes to its port if its request still waits, up the worker link for a forwarded one,
and is lost otherwise (R474, R594). -/
def State.deliverReply (s : State) (port seq st tag : Nat) (data : List Byte) : State :=
  if port = 3 then s.bump WLK_TX_FRAMES (linkFrames (4 + data.length))
  else
    let side := port = 2
    match (s.port side).pending with
    | some r => if r.seq = seq then s.formReply side st tag data else s.bump HIF_REPLY_LOST
    | none => s.bump HIF_REPLY_LOST

/-- REPLY_FORMED (R473): the segment with LAST has committed in queue 2. -/
def replyFormed (s : State) : State :=
  if !s.awake || !s.pwr.hifUp then s
  else
    match s.queue 2 with
    | [] => s
    | i :: l =>
      let port := u8 i.bytes 0
      let seq := u8 i.bytes 1
      match takeSegs port seq (i :: l) [] with
      | none => s
      | some (b, rest) =>
        let s := s.popSegs ((i :: l).length - rest.length)
        let s := s.deliverReply port seq (u8 b 0) (u8 b 1) (b.drop 4)
        sendHeld s.hif.held s

/-- HIF_CMD_TIMEOUT (R474): no reply within CMD_TO_MS of acceptance. -/
def hifCmdTimeout (side : Bool) (s : State) : State :=
  match (s.port side).pending with
  | none => s
  | some r =>
    if !s.awake || !s.pwr.hifUp then s
    else
      let s := s.advance (r.at_ + Config.msTicks * s.get HIF_CMD_TO_CMD_TO_MS)
      ((s.formReply side TIMEOUT r.tag []).bump HIF_TIMEOUTS).raise FID_HIF_CMD_TIMEOUT

/-! ### The flash port (R24, R497 to R500) -/

/-- The first flash operation leaves the port, and its owner goes on (owner 1: CRED_POP_LOAD, 2: FW_WRITE_SLOT and
CFG_COMMIT_NV). -/
def State.flashEnd (s : State) (o : FlashOp) (rest : List FlashOp) (st : Nat) : State :=
  let s := { s with hif := { s.hif with flash := rest } }
  if o.owner = 1 then s.popFlashDone st else if o.owner = 2 then s.progDone st else s

/-- FLASH_OP_DONE (R499): one that is suspended goes on first (R24). -/
def flashOpDone (at_ : Nat) (s : State) : State :=
  match s.hif.flash with
  | [] => s
  | o :: rest =>
    if !s.awake || o.suspended then s
    else
      let s := s.advance at_
      let s := match o.kind with
        | 1 => s.programFlash o.addr o.data
        | 2 => s.eraseMem (0x30000000 + o.addr) 4096
        | _ => s
      s.flashEnd o rest OK

/-- HIF_XSPI_TIMEOUT (R500): the operation ends with TIMEOUT. What it had programmed by then is free. -/
def hifXspiTimeout (s : State) : State :=
  match s.hif.flash with
  | [] => s
  | o :: rest =>
    if !s.awake then s
    else
      let (s, done) := (s.freshBool.2, s.freshBool.1)
      let s := if done && o.kind = 1 then s.programFlash o.addr o.data
        else if done && o.kind = 2 then s.eraseMem (0x30000000 + o.addr) 4096 else s
      (s.raise FID_HIF_XSPI_TIMEOUT).flashEnd o rest TIMEOUT

/-! ### STARTING (R149, R590) and the worker link (R594, R597) -/

/-- STARTING of LF channel `n` ends (R80, R590). -/
def State.lfStarted (s : State) (n : Nat) : State :=
  if s.lfChan n != .starting then s else s.setLfChan n (if s.flag (LF_CH_CTRL_EN n) then .on else .off)

/-- STARTING_DONE (R149, R590). -/
def startingDone (what : Startable) (at_ : Nat) (s : State) : State :=
  if !s.awake then s
  else
    let s := s.advance at_
    match what with
    | .block b => s.unitStarted b
    | .window w => s.winStarted w
    | .channel n => s.lfStarted n

/-- FWD (R594): a locked worker takes a FWD frame and executes the whole request as M1. -/
def fwd (b : List Byte) (at_ : Nat) (s : State) : State :=
  if !s.isWorker || !s.linkUp || !s.flag WLK_STATUS_LOCKED then s else (s.advance at_).takeFwd b portCommand

/-- WL_CLK_ABSENT (R597): a worker that has seen no WL_CLK for 1 ms enters P3. -/
def wlClkAbsent (at_ : Nat) (s : State) : State :=
  if !s.isWorker || !s.linkUp then s else (s.advance at_).enterNow 3

end Sys2Proof.Machine
end

