-- ==== Sys2Proof/Machine/Meanings.lean ====
section
/-!
DEFINITION. Machine/Meanings.lean: the meaning of every command: its effect (the function of the same name, in the file of its
block), and then what follows within the device in the same instant (State.settle). No command stops the machine, and none
touches the queue of waiting commands.
-/
namespace Sys2Proof.Machine

/-- What stands after a command that took state `s` to `e`: the consequences within the device have followed, and the commands
that wait are as they were in `s`. -/
def State.after (s e : State) : State := { e.settle with pending := s.pending }

/-- A command has effect `f`; the consequences within the device follow, and the commands that wait are left as they are. -/
def State.perform (s : State) (f : State → State) : Host.Outcome State Fault Refusal := .next (s.after (f s))

/-- POWER_ON_RESET (R619). -/
def execPowerOnReset (straps : Fin 4) (s : State) : Host.Outcome State Fault Refusal :=
  s.perform (powerOnReset straps)

/-- NRESET (R619). -/
def execNreset (straps : Fin 4) (at_ : Nat) (s : State) : Host.Outcome State Fault Refusal :=
  s.perform (nreset straps at_)

/-- SOFT_RESET (R487). -/
def execSoftReset (m : Master) (p : List Byte) (s : State) : Host.Outcome State Fault Refusal :=
  s.perform (softReset m p)

/-- SOFT_RESET_BEGIN (R487). -/
def execSoftResetBegin (s : State) : Host.Outcome State Fault Refusal :=
  s.perform softResetBegin

/-- CFG_IMAGE_REPAIR (R564). -/
def execCfgImageRepair (s : State) : Host.Outcome State Fault Refusal :=
  s.perform cfgImageRepair

/-- BOOT_DONE (R586). -/
def execBootDone (at_ : Nat) (s : State) : Host.Outcome State Fault Refusal :=
  s.perform (bootDone at_)

/-- FW_READY (R474). -/
def execFwReady (at_ : Nat) (s : State) : Host.Outcome State Fault Refusal :=
  s.perform (fwReady at_)

/-- VCORE_RAISE_RETRY (R619). -/
def execVcoreRaiseRetry (s : State) : Host.Outcome State Fault Refusal :=
  s.perform vcoreRaiseRetry

/-- SYS_LOCKSTEP (R544). -/
def execSysLockstep (at_ : Nat) (s : State) : Host.Outcome State Fault Refusal :=
  s.perform (sysLockstep at_)

/-- PWR_VCORE_LOSS (R529). -/
def execPwrVcoreLoss (at_ : Nat) (s : State) : Host.Outcome State Fault Refusal :=
  s.perform (pwrVcoreLoss at_)

/-- RF_PLL_LOCK (R29). -/
def execRfPllLock (at_ : Nat) (s : State) : Host.Outcome State Fault Refusal :=
  s.perform (rfPllLock at_)

/-- RF_PLL_RELOCK (R153). -/
def execRfPllRelock (at_ : Nat) (s : State) : Host.Outcome State Fault Refusal :=
  s.perform (rfPllRelock at_)

/-- FAULT_EVENT (R545). -/
def execFaultEvent (fid : BitVec 16) (inst : Byte) (data : List Byte) (at_ : Nat) (s : State) : Host.Outcome State Fault Refusal :=
  s.perform (faultEvent fid inst data at_)

/-- SHADOW_END (R554). -/
def execShadowEnd (s : State) : Host.Outcome State Fault Refusal :=
  s.perform shadowEnd

/-- BBX_RECORD_WRITE (R560). -/
def execBbxRecordWrite (verified : Bool) (s : State) : Host.Outcome State Fault Refusal :=
  s.perform (bbxRecordWrite verified)

/-- BBX_HALF_ERASED (R560). -/
def execBbxHalfErased (at_ : Nat) (s : State) : Host.Outcome State Fault Refusal :=
  s.perform (bbxHalfErased at_)

/-- BBX_TOKEN_TICK (R562). -/
def execBbxTokenTick (s : State) : Host.Outcome State Fault Refusal :=
  s.perform bbxTokenTick

/-- IDLE_TIMER_P1 (R509). -/
def execIdleTimerP1 (at_ : Nat) (s : State) : Host.Outcome State Fault Refusal :=
  s.perform (idleTimerP1 at_)

/-- POWER_ENTRY_START (R509). -/
def execPowerEntryStart (s : State) : Host.Outcome State Fault Refusal :=
  s.perform powerEntryStart

/-- ENTRY_RETRY (R510). -/
def execEntryRetry (s : State) : Host.Outcome State Fault Refusal :=
  s.perform entryRetry

/-- COMMIT_WINDOW_CYCLE (R512). -/
def execCommitWindowCycle (s : State) : Host.Outcome State Fault Refusal :=
  s.perform commitWindowCycle

/-- IDLE_EXPIRY_DEEPER (R514). -/
def execIdleExpiryDeeper (s : State) : Host.Outcome State Fault Refusal :=
  s.perform idleExpiryDeeper

/-- WAKE_EVENT (R516). -/
def execWakeEvent (cause : WakeCause) (at_ : Nat) (s : State) : Host.Outcome State Fault Refusal :=
  s.perform (wakeEvent cause at_)

/-- WAKE_TIMER (R518). -/
def execWakeTimer (s : State) : Host.Outcome State Fault Refusal :=
  s.perform wakeTimer

/-- WAKE_REF_STABLE (R519). -/
def execWakeRefStable (at_ : Nat) (s : State) : Host.Outcome State Fault Refusal :=
  s.perform (wakeRefStable at_)

/-- VCORE_PG_RISE (R519). -/
def execVcorePgRise (imageOk : Bool) (at_ : Nat) (s : State) : Host.Outcome State Fault Refusal :=
  s.perform (vcorePgRise imageOk at_)

/-- WAKE_COMPLETE (R519). -/
def execWakeComplete (at_ : Nat) (s : State) : Host.Outcome State Fault Refusal :=
  s.perform (wakeComplete at_)

/-- WAKE_OSC_TIMEOUT (R520). -/
def execWakeOscTimeout (s : State) : Host.Outcome State Fault Refusal :=
  s.perform wakeOscTimeout

/-- WAKE_VCORE_TIMEOUT (R520). -/
def execWakeVcoreTimeout (s : State) : Host.Outcome State Fault Refusal :=
  s.perform wakeVcoreTimeout

/-- WAKE_RETRY (R520). -/
def execWakeRetry (s : State) : Host.Outcome State Fault Refusal :=
  s.perform wakeRetry

/-- REFERENCE_RESTART (R521). -/
def execReferenceRestart (stable : Bool) (s : State) : Host.Outcome State Fault Refusal :=
  s.perform (referenceRestart stable)

/-- DVFS_CHANGE_DONE (R528). -/
def execDvfsChangeDone (at_ : Nat) (s : State) : Host.Outcome State Fault Refusal :=
  s.perform (dvfsChangeDone at_)

/-- PWR_DVFS_PG (R529). -/
def execPwrDvfsPg (s : State) : Host.Outcome State Fault Refusal :=
  s.perform pwrDvfsPg

/-- REF_SYNC_EDGE (R38). -/
def execRefSyncEdge (rising : Bool) (at_ : Nat) (s : State) : Host.Outcome State Fault Refusal :=
  s.perform (refSyncEdge rising at_)

/-- EXPECTED_SAMPLE_MISSED (R38). -/
def execExpectedSampleMissed (s : State) : Host.Outcome State Fault Refusal :=
  s.perform expectedSampleMissed

/-- LP_RATIO_UPDATE (R43). -/
def execLpRatioUpdate (ratio rcRatio : BitVec 32) (crystal : Bool) (at_ : Nat) (s : State) : Host.Outcome State Fault Refusal :=
  s.perform (lpRatioUpdate ratio rcRatio crystal at_)

/-- CALENDAR_PREP (R46). -/
def execCalendarPrep (slot : Fin 64) (s : State) : Host.Outcome State Fault Refusal :=
  s.perform (calendarPrep slot)

/-- CALENDAR_FIRE (R46). -/
def execCalendarFire (slot : Fin 64) (s : State) : Host.Outcome State Fault Refusal :=
  s.perform (calendarFire slot)

/-- CALENDAR_WAKE_LEAD (R48). -/
def execCalendarWakeLead (slot : Fin 64) (s : State) : Host.Outcome State Fault Refusal :=
  s.perform (calendarWakeLead slot)

/-- CALENDAR_SLOT_FREE (R45). -/
def execCalendarSlotFree (slot : Fin 64) (s : State) : Host.Outcome State Fault Refusal :=
  s.perform (calendarSlotFree slot)

/-- TMR_START (R61). -/
def execTmrStart (m : Master) (mask : BitVec 16) (s : State) : Host.Outcome State Fault Refusal :=
  s.perform (tmrStart m mask)

/-- TMR_TRIGGER (R62). -/
def execTmrTrigger (n : Fin 16) (rising : Bool) (at_ : Nat) (s : State) : Host.Outcome State Fault Refusal :=
  s.perform (tmrTrigger n rising at_)

/-- TMR_UPDATE (R66). -/
def execTmrUpdate (n : Fin 16) (s : State) : Host.Outcome State Fault Refusal :=
  s.perform (tmrUpdate n)

/-- TMR_COMPARE (R67). -/
def execTmrCompare (n : Fin 16) (s : State) : Host.Outcome State Fault Refusal :=
  s.perform (tmrCompare n)

/-- TMR_CAPTURE (R68). -/
def execTmrCapture (n : Fin 16) (rising : Bool) (at_ : Nat) (s : State) : Host.Outcome State Fault Refusal :=
  s.perform (tmrCapture n rising at_)

/-- TMR_CAP_READ (R65). -/
def execTmrCapRead (m : Master) (n : Fin 16) (s : State) : Host.Outcome State Fault Refusal :=
  s.perform (tmrCapRead m n)

/-- LOW_WORD_READ (R44). -/
def execLowWordRead (m : Master) (addr : BitVec 32) (s : State) : Host.Outcome State Fault Refusal :=
  s.perform (lowWordRead m addr)

/-- RC_REGISTER_READ (R9). -/
def execRcRegisterRead (m : Master) (addr : BitVec 32) (s : State) : Host.Outcome State Fault Refusal :=
  s.perform (rcRegisterRead m addr)

/-- REGISTER_WRITE (R9). -/
def execRegisterWrite (m : Master) (addr : BitVec 32) (v : Word) (size : AccSize) (s : State) : Host.Outcome State Fault Refusal :=
  s.perform (registerWrite m addr v size)

/-- UNIT_EN_WRITE (R590). -/
def execUnitEnWrite (m : Master) (block : Fin 23) (en : Bool) (s : State) : Host.Outcome State Fault Refusal :=
  s.perform (unitEnWrite m block en)

/-- STARTING_DONE (R590). -/
def execStartingDone (what : Startable) (at_ : Nat) (s : State) : Host.Outcome State Fault Refusal :=
  s.perform (startingDone what at_)

/-- NOP (R484). -/
def execNop (m : Master) (p : List Byte) (s : State) : Host.Outcome State Fault Refusal :=
  s.perform (nop m p)

/-- GET_ID (R485). -/
def execGetId (m : Master) (p : List Byte) (s : State) : Host.Outcome State Fault Refusal :=
  s.perform (getId m p)

/-- GET_STATUS (R486). -/
def execGetStatus (m : Master) (p : List Byte) (s : State) : Host.Outcome State Fault Refusal :=
  s.perform (getStatus m p)

/-- REG_READ (R488). -/
def execRegRead (m : Master) (p : List Byte) (s : State) : Host.Outcome State Fault Refusal :=
  s.perform (regRead m p)

/-- REG_WRITE (R489). -/
def execRegWrite (m : Master) (p : List Byte) (s : State) : Host.Outcome State Fault Refusal :=
  s.perform (regWrite m p)

/-- REG_MODIFY (R490). -/
def execRegModify (m : Master) (p : List Byte) (s : State) : Host.Outcome State Fault Refusal :=
  s.perform (regModify m p)

/-- ECHO (R484). -/
def execEcho (m : Master) (p : List Byte) (s : State) : Host.Outcome State Fault Refusal :=
  s.perform (echo m p)

/-- PWR_SET_POLICY (R537). -/
def execPwrSetPolicy (m : Master) (p : List Byte) (s : State) : Host.Outcome State Fault Refusal :=
  s.perform (pwrSetPolicy m p)

/-- PWR_ENTER (R538). -/
def execPwrEnter (m : Master) (p : List Byte) (s : State) : Host.Outcome State Fault Refusal :=
  s.perform (pwrEnter m p)

/-- PWR_GET_STATS (R539). -/
def execPwrGetStats (m : Master) (p : List Byte) (s : State) : Host.Outcome State Fault Refusal :=
  s.perform (pwrGetStats m p)

/-- PWR_PAD_RELEASE (R540). -/
def execPwrPadRelease (m : Master) (p : List Byte) (s : State) : Host.Outcome State Fault Refusal :=
  s.perform (pwrPadRelease m p)

/-- PWR_SET_DVFS (R541). -/
def execPwrSetDvfs (m : Master) (p : List Byte) (s : State) : Host.Outcome State Fault Refusal :=
  s.perform (pwrSetDvfs m p)

/-- PWR_SET_RETAIN (R542). -/
def execPwrSetRetain (m : Master) (p : List Byte) (s : State) : Host.Outcome State Fault Refusal :=
  s.perform (pwrSetRetain m p)

/-- PWR_CMD_ENTER (R535). -/
def execPwrCmdEnter (m : Master) (v : BitVec 3) (s : State) : Host.Outcome State Fault Refusal :=
  s.perform (pwrCmdEnter m v)

/-- TIME_GET (R57). -/
def execTimeGet (m : Master) (p : List Byte) (s : State) : Host.Outcome State Fault Refusal :=
  s.perform (timeGet m p)

/-- TIME_SET_REF (R58). -/
def execTimeSetRef (m : Master) (p : List Byte) (at_ : Nat) (s : State) : Host.Outcome State Fault Refusal :=
  s.perform (timeSetRef m p at_)

/-- TIME_CAL_ADD (R59). -/
def execTimeCalAdd (m : Master) (p : List Byte) (s : State) : Host.Outcome State Fault Refusal :=
  s.perform (timeCalAdd m p)

/-- TIME_CAL_REMOVE (R60). -/
def execTimeCalRemove (m : Master) (p : List Byte) (s : State) : Host.Outcome State Fault Refusal :=
  s.perform (timeCalRemove m p)

/-- TMR_CONFIG (R70). -/
def execTmrConfig (m : Master) (p : List Byte) (s : State) : Host.Outcome State Fault Refusal :=
  s.perform (tmrConfig m p)

/-- TMR_READ (R71). -/
def execTmrRead (m : Master) (p : List Byte) (s : State) : Host.Outcome State Fault Refusal :=
  s.perform (tmrRead m p)

/-- LF_CONFIG_CH (R112). -/
def execLfConfigCh (m : Master) (p : List Byte) (s : State) : Host.Outcome State Fault Refusal :=
  s.perform (lfConfigCh m p)

/-- LF_PATTERN_DEF (R113). -/
def execLfPatternDef (m : Master) (p : List Byte) (s : State) : Host.Outcome State Fault Refusal :=
  s.perform (lfPatternDef m p)

/-- LF_SEND (R114). -/
def execLfSend (m : Master) (p : List Byte) (s : State) : Host.Outcome State Fault Refusal :=
  s.perform (lfSend m p)

/-- LF_POLL_CONFIG (R115). -/
def execLfPollConfig (m : Master) (p : List Byte) (s : State) : Host.Outcome State Fault Refusal :=
  s.perform (lfPollConfig m p)

/-- LF_POLL_START (R116). -/
def execLfPollStart (m : Master) (p : List Byte) (s : State) : Host.Outcome State Fault Refusal :=
  s.perform (lfPollStart m p)

/-- LF_POLL_STOP (R116). -/
def execLfPollStop (m : Master) (p : List Byte) (s : State) : Host.Outcome State Fault Refusal :=
  s.perform (lfPollStop m p)

/-- LF_DIAG (R117). -/
def execLfDiag (m : Master) (p : List Byte) (s : State) : Host.Outcome State Fault Refusal :=
  s.perform (lfDiag m p)

/-- LF_MAP_LOAD (R239). -/
def execLfMapLoad (m : Master) (p : List Byte) (s : State) : Host.Outcome State Fault Refusal :=
  s.perform (lfMapLoad m p)

/-- LF_HNONCE3_WRITE (R108). -/
def execLfHnonce3Write (m : Master) (v : Word) (s : State) : Host.Outcome State Fault Refusal :=
  s.perform (lfHnonce3Write m v)

/-- KICK (R94). -/
def execKick (m : Master) (s : State) : Host.Outcome State Fault Refusal :=
  s.perform (kick m)

/-- NONCE_CLR (R111). -/
def execNonceClr (m : Master) (s : State) : Host.Outcome State Fault Refusal :=
  s.perform (nonceClr m)

/-- LF_SEND_START (R99). -/
def execLfSendStart (s : State) : Host.Outcome State Fault Refusal :=
  s.perform lfSendStart

/-- LF_TX_DONE (R107). -/
def execLfTxDone (meas : List LfMeas) (s : State) : Host.Outcome State Fault Refusal :=
  s.perform (lfTxDone meas)

/-- POLL_BURST (R92). -/
def execPollBurst (stable : Bool) (s : State) : Host.Outcome State Fault Refusal :=
  s.perform (pollBurst stable)

/-- POLL_BURST_DEFERRED (R92). -/
def execPollBurstDeferred (s : State) : Host.Outcome State Fault Refusal :=
  s.perform pollBurstDeferred

/-- SENTINEL_POWER_UP (R142). -/
def execSentinelPowerUp (s : State) : Host.Outcome State Fault Refusal :=
  s.perform sentinelPowerUp

/-- POLL_ANSWER (R91). -/
def execPollAnswer (frame : List Byte) (rssi : BitVec 16) (at_ : Nat) (s : State) : Host.Outcome State Fault Refusal :=
  s.perform (pollAnswer frame rssi at_)

/-- POLL_WINDOW_END (R93). -/
def execPollWindowEnd (level : BitVec 16) (meas : List LfMeas) (s : State) : Host.Outcome State Fault Refusal :=
  s.perform (pollWindowEnd level meas)

/-- LF_POLL_IDLE_STOP (R94). -/
def execLfPollIdleStop (s : State) : Host.Outcome State Fault Refusal :=
  s.perform lfPollIdleStop

/-- HANDLE_IN_EDGE (R97). -/
def execHandleInEdge (k : Fin 5) (high : Bool) (at_ : Nat) (s : State) : Host.Outcome State Fault Refusal :=
  s.perform (handleInEdge k high at_)

/-- HANDLE_QUALIFIED (R97). -/
def execHandleQualified (k : Fin 5) (s : State) : Host.Outcome State Fault Refusal :=
  s.perform (handleQualified k)

/-- LF_HTEL_START (R97). -/
def execLfHtelStart (stableAt : Nat) (s : State) : Host.Outcome State Fault Refusal :=
  s.perform (lfHtelStart stableAt)

/-- LF_OVERCURRENT (R79). -/
def execLfOvercurrent (n : Fin 12) (at_ : Nat) (s : State) : Host.Outcome State Fault Refusal :=
  s.perform (lfOvercurrent n at_)

/-- LF_VLF (R103). -/
def execLfVlf (at_ : Nat) (s : State) : Host.Outcome State Fault Refusal :=
  s.perform (lfVlf at_)

/-- VLF_RETURN (R103). -/
def execVlfReturn (at_ : Nat) (s : State) : Host.Outcome State Fault Refusal :=
  s.perform (vlfReturn at_)

/-- LF_DIAG_DONE (R117). -/
def execLfDiagDone (found : List LfFinding) (at_ : Nat) (s : State) : Host.Outcome State Fault Refusal :=
  s.perform (lfDiagDone found at_)

/-- LF_CAL_DUE (R104). -/
def execLfCalDue (n : Fin 12) (temp : BitVec 8) (at_ : Nat) (s : State) : Host.Outcome State Fault Refusal :=
  s.perform (lfCalDue n temp at_)

/-- LF_CAL_DONE (R104). -/
def execLfCalDone (n : Fin 12) (outcome : Fin 3) (temp : BitVec 8) (s : State) : Host.Outcome State Fault Refusal :=
  s.perform (lfCalDone n outcome temp)

/-- URX_CONFIG (R159). -/
def execUrxConfig (m : Master) (p : List Byte) (s : State) : Host.Outcome State Fault Refusal :=
  s.perform (urxConfig m p)

/-- URX_START (R160). -/
def execUrxStart (m : Master) (p : List Byte) (s : State) : Host.Outcome State Fault Refusal :=
  s.perform (urxStart m p)

/-- URX_STOP (R160). -/
def execUrxStop (m : Master) (p : List Byte) (s : State) : Host.Outcome State Fault Refusal :=
  s.perform (urxStop m p)

/-- RF_CAPTURE (R161). -/
def execRfCapture (m : Master) (p : List Byte) (s : State) : Host.Outcome State Fault Refusal :=
  s.perform (rfCapture m p)

/-- SYNC_ACCEPTED (R123). -/
def execSyncAccepted (n : Fin 64) (word : BitVec 32) (hdr : Byte) (at_ : Nat) (s : State) : Host.Outcome State Fault Refusal :=
  s.perform (syncAccepted n word hdr at_)

/-- URX_FRAME (R130). -/
def execUrxFrame (n : Fin 64) (rx : Reception) (s : State) : Host.Outcome State Fault Refusal :=
  s.perform (urxFrame n rx)

/-- URX_JAM (R144). -/
def execUrxJam (w : Fin 4) (power : BitVec 16) (at_ : Nat) (s : State) : Host.Outcome State Fault Refusal :=
  s.perform (urxJam w power at_)

/-- URX_JAM_CLEAR (R144). -/
def execUrxJamClear (w : Fin 4) (at_ : Nat) (s : State) : Host.Outcome State Fault Refusal :=
  s.perform (urxJamClear w at_)

/-- BYPASS_ENGAGE (R129). -/
def execBypassEngage (at_ : Nat) (s : State) : Host.Outcome State Fault Refusal :=
  s.perform (bypassEngage at_)

/-- BYPASS_RELEASE (R129). -/
def execBypassRelease (at_ : Nat) (s : State) : Host.Outcome State Fault Refusal :=
  s.perform (bypassRelease at_)

/-- URX_ADC_FAULT (R128). -/
def execUrxAdcFault (portB : Bool) (at_ : Nat) (s : State) : Host.Outcome State Fault Refusal :=
  s.perform (urxAdcFault portB at_)

/-- ADC_SELF_CHECK_DONE (R128). -/
def execAdcSelfCheckDone (portB passed : Bool) (at_ : Nat) (s : State) : Host.Outcome State Fault Refusal :=
  s.perform (adcSelfCheckDone portB passed at_)

/-- CAPTURE_TRIGGER (R147). -/
def execCaptureTrigger (at_ : Nat) (s : State) : Host.Outcome State Fault Refusal :=
  s.perform (captureTrigger at_)

/-- GATHER_READ_ITEM (R148). -/
def execGatherReadItem (s : State) : Host.Outcome State Fault Refusal :=
  s.perform gatherReadItem

/-- GATHER_READ_TIMEOUT (R148). -/
def execGatherReadTimeout (s : State) : Host.Outcome State Fault Refusal :=
  s.perform gatherReadTimeout

/-- UTX_SEND (R197). -/
def execUtxSend (m : Master) (p : List Byte) (s : State) : Host.Outcome State Fault Refusal :=
  s.perform (utxSend m p)

/-- UTX_HOP_TABLE (R198). -/
def execUtxHopTable (m : Master) (p : List Byte) (s : State) : Host.Outcome State Fault Refusal :=
  s.perform (utxHopTable m p)

/-- RF_CALIBRATE (R199). -/
def execRfCalibrate (m : Master) (p : List Byte) (s : State) : Host.Outcome State Fault Refusal :=
  s.perform (rfCalibrate m p)

/-- RF_CAL_STATUS (R200). -/
def execRfCalStatus (m : Master) (p : List Byte) (s : State) : Host.Outcome State Fault Refusal :=
  s.perform (rfCalStatus m p)

/-- COEX_CONFIG (R201). -/
def execCoexConfig (m : Master) (p : List Byte) (s : State) : Host.Outcome State Fault Refusal :=
  s.perform (coexConfig m p)

/-- FEM_SEQ_CONFIG (R201). -/
def execFemSeqConfig (m : Master) (p : List Byte) (s : State) : Host.Outcome State Fault Refusal :=
  s.perform (femSeqConfig m p)

/-- UTX_SEND_START (R169). -/
def execUtxSendStart (busy : Option Nat) (s : State) : Host.Outcome State Fault Refusal :=
  s.perform (utxSendStart busy)

/-- SYNTH_LOCKED (R175). -/
def execSynthLocked (at_ : Nat) (s : State) : Host.Outcome State Fault Refusal :=
  s.perform (synthLocked at_)

/-- UTX_SYNTH_LOCK (R162). -/
def execUtxSynthLock (s : State) : Host.Outcome State Fault Refusal :=
  s.perform utxSynthLock

/-- COEX_GNT_RISE (R176). -/
def execCoexGntRise (at_ : Nat) (s : State) : Host.Outcome State Fault Refusal :=
  s.perform (coexGntRise at_)

/-- COEX_GNT_FALL (R177). -/
def execCoexGntFall (at_ : Nat) (s : State) : Host.Outcome State Fault Refusal :=
  s.perform (coexGntFall at_)

/-- COEX_WAIT_TIMEOUT (R172). -/
def execCoexWaitTimeout (s : State) : Host.Outcome State Fault Refusal :=
  s.perform coexWaitTimeout

/-- AFTER_RX_TIMEOUT (R169). -/
def execAfterRxTimeout (s : State) : Host.Outcome State Fault Refusal :=
  s.perform afterRxTimeout

/-- UTX_TX_DONE (R194). -/
def execUtxTxDone (inTol : Bool) (s : State) : Host.Outcome State Fault Refusal :=
  s.perform (utxTxDone inTol)

/-- DUTY_BIN_ROLL (R182). -/
def execDutyBinRoll (s : State) : Host.Outcome State Fault Refusal :=
  s.perform dutyBinRoll

/-- CAL_DUE (R185). -/
def execCalDue (item : Fin 4) (idx : Fin 128) (temp : BitVec 8) (at_ : Nat) (s : State) : Host.Outcome State Fault Refusal :=
  s.perform (calDue item idx temp at_)

/-- CAL_STEP_START (R185). -/
def execCalStepStart (s : State) : Host.Outcome State Fault Refusal :=
  s.perform calStepStart

/-- RF_CAL_DONE (R188). -/
def execRfCalDone (good : Bool) (vco : BitVec 4) (cap : Byte) (gain : BitVec 6) (temp : BitVec 8) (s : State) : Host.Outcome State Fault Refusal :=
  s.perform (rfCalDone good vco cap gain temp)

/-- RANGE_CONFIG (R234). -/
def execRangeConfig (m : Master) (p : List Byte) (s : State) : Host.Outcome State Fault Refusal :=
  s.perform (rangeConfig m p)

/-- RANGE_RUN (R235). -/
def execRangeRun (m : Master) (p : List Byte) (s : State) : Host.Outcome State Fault Refusal :=
  s.perform (rangeRun m p)

/-- RANGE_RESULT (R236). -/
def execRangeResult (m : Master) (p : List Byte) (s : State) : Host.Outcome State Fault Refusal :=
  s.perform (rangeResult m p)

/-- ZONE_CONFIG (R237). -/
def execZoneConfig (m : Master) (p : List Byte) (s : State) : Host.Outcome State Fault Refusal :=
  s.perform (zoneConfig m p)

/-- ZONE_QUERY (R238). -/
def execZoneQuery (m : Master) (p : List Byte) (s : State) : Host.Outcome State Fault Refusal :=
  s.perform (zoneQuery m p)

/-- RANGE_CMD_GO (R231). -/
def execRangeCmdGo (m : Master) (s : State) : Host.Outcome State Fault Refusal :=
  s.perform (rangeCmdGo m)

/-- RANGE_CMD_ABORT (R219). -/
def execRangeCmdAbort (m : Master) (s : State) : Host.Outcome State Fault Refusal :=
  s.perform (rangeCmdAbort m)

/-- RANGE_ORIGIN_FIXED (R220). -/
def execRangeOriginFixed (s : State) : Host.Outcome State Fault Refusal :=
  s.perform rangeOriginFixed

/-- RANGE_SLOT_BEGIN (R211). -/
def execRangeSlotBegin (s : State) : Host.Outcome State Fault Refusal :=
  s.perform rangeSlotBegin

/-- RANGE_STEP (R211). -/
def execRangeStep (meas : RangeMeas) (s : State) : Host.Outcome State Fault Refusal :=
  s.perform (rangeStep meas)

/-- RANGE_TIMEOUT (R219). -/
def execRangeTimeout (s : State) : Host.Outcome State Fault Refusal :=
  s.perform rangeTimeout

/-- RANGE_DONE (R227). -/
def execRangeDone (at_ : Nat) (s : State) : Host.Outcome State Fault Refusal :=
  s.perform (rangeDone at_)

/-- ZONE_CMD_START (R206). -/
def execZoneCmdStart (m : Master) (s : State) : Host.Outcome State Fault Refusal :=
  s.perform (zoneCmdStart m)

/-- ZONE_SOLVED (R206). -/
def execZoneSolved (at_ : Nat) (s : State) : Host.Outcome State Fault Refusal :=
  s.perform (zoneSolved at_)

/-- ZONE_MAP_LOADED (R207). -/
def execZoneMapLoaded (ok : Bool) (at_ : Nat) (s : State) : Host.Outcome State Fault Refusal :=
  s.perform (zoneMapLoaded ok at_)

/-- CRED_ADD (R281). -/
def execCredAdd (m : Master) (p : List Byte) (s : State) : Host.Outcome State Fault Refusal :=
  s.perform (credAdd m p)

/-- CRED_REMOVE (R282). -/
def execCredRemove (m : Master) (p : List Byte) (s : State) : Host.Outcome State Fault Refusal :=
  s.perform (credRemove m p)

/-- CRED_QUERY (R283). -/
def execCredQuery (m : Master) (p : List Byte) (s : State) : Host.Outcome State Fault Refusal :=
  s.perform (credQuery m p)

/-- CRED_POP_LOAD (R284). -/
def execCredPopLoad (m : Master) (p : List Byte) (s : State) : Host.Outcome State Fault Refusal :=
  s.perform (credPopLoad m p)

/-- CRED_REVOKE_EPOCH (R285). -/
def execCredRevokeEpoch (m : Master) (p : List Byte) (s : State) : Host.Outcome State Fault Refusal :=
  s.perform (credRevokeEpoch m p)

/-- AUTH_START (R286). -/
def execAuthStart (m : Master) (p : List Byte) (s : State) : Host.Outcome State Fault Refusal :=
  s.perform (authStart m p)

/-- AUTH_RESULT (R287). -/
def execAuthResult (m : Master) (p : List Byte) (s : State) : Host.Outcome State Fault Refusal :=
  s.perform (authResult m p)

/-- AUTH_LOCKOUT_STATUS (R288). -/
def execAuthLockoutStatus (m : Master) (p : List Byte) (s : State) : Host.Outcome State Fault Refusal :=
  s.perform (authLockoutStatus m p)

/-- AUTH_LOCKOUT_CLEAR (R289). -/
def execAuthLockoutClear (m : Master) (p : List Byte) (s : State) : Host.Outcome State Fault Refusal :=
  s.perform (authLockoutClear m p)

/-- CRED_LK_GO (R280). -/
def execCredLkGo (m : Master) (v : Word) (s : State) : Host.Outcome State Fault Refusal :=
  s.perform (credLkGo m v)

/-- LOOKUP_DONE (R255). -/
def execLookupDone (timeNs : BitVec 32) (flash : Bool) (at_ : Nat) (s : State) : Host.Outcome State Fault Refusal :=
  s.perform (lookupDone timeNs flash at_)

/-- REVMAP_LOADED (R251). -/
def execRevmapLoaded (ok : Bool) (at_ : Nat) (s : State) : Host.Outcome State Fault Refusal :=
  s.perform (revmapLoaded ok at_)

/-- BUILD_ERASE_DONE (R284). -/
def execBuildEraseDone (at_ : Nat) (s : State) : Host.Outcome State Fault Refusal :=
  s.perform (buildEraseDone at_)

/-- BUILD_COMMIT_DONE (R275). -/
def execBuildCommitDone (flash : Bool) (at_ : Nat) (s : State) : Host.Outcome State Fault Refusal :=
  s.perform (buildCommitDone flash at_)

/-- ANSWER_WINDOW_END (R264). -/
def execAnswerWindowEnd (s : State) : Host.Outcome State Fault Refusal :=
  s.perform answerWindowEnd

/-- KEY_PROOF_TIMEOUT (R260). -/
def execKeyProofTimeout (s : State) : Host.Outcome State Fault Refusal :=
  s.perform keyProofTimeout

/-- CRED_LOCK_EXPIRY (R269). -/
def execCredLockExpiry (s : State) : Host.Outcome State Fault Refusal :=
  s.perform credLockExpiry

/-- GLOBAL_LOCK_EXPIRY (R270). -/
def execGlobalLockExpiry (s : State) : Host.Outcome State Fault Refusal :=
  s.perform globalLockExpiry

/-- REL_CONFIG (R318). -/
def execRelConfig (m : Master) (p : List Byte) (s : State) : Host.Outcome State Fault Refusal :=
  s.perform (relConfig m p)

/-- REL_ARM (R319). -/
def execRelArm (m : Master) (p : List Byte) (s : State) : Host.Outcome State Fault Refusal :=
  s.perform (relArm m p)

/-- REL_STATUS (R320). -/
def execRelStatus (m : Master) (p : List Byte) (s : State) : Host.Outcome State Fault Refusal :=
  s.perform (relStatus m p)

/-- REL_END (R321). -/
def execRelEnd (m : Master) (p : List Byte) (s : State) : Host.Outcome State Fault Refusal :=
  s.perform (relEnd m p)

/-- EWAKE_CONFIG (R322). -/
def execEwakeConfig (m : Master) (p : List Byte) (s : State) : Host.Outcome State Fault Refusal :=
  s.perform (ewakeConfig m p)

/-- TELLTALE_CONFIG (R323). -/
def execTelltaleConfig (m : Master) (p : List Byte) (s : State) : Host.Outcome State Fault Refusal :=
  s.perform (telltaleConfig m p)

/-- REL_CMD_OPEN (R290). -/
def execRelCmdOpen (m : Master) (s : State) : Host.Outcome State Fault Refusal :=
  s.perform (relCmdOpen m)

/-- REL_CMD_END (R297). -/
def execRelCmdEnd (m : Master) (s : State) : Host.Outcome State Fault Refusal :=
  s.perform (relCmdEnd m)

/-- OPENING_GAP (R294). -/
def execOpeningGap (s : State) : Host.Outcome State Fault Refusal :=
  s.perform openingGap

/-- CLOSING_GAP (R294). -/
def execClosingGap (s : State) : Host.Outcome State Fault Refusal :=
  s.perform closingGap

/-- START_FB_CHANGE (R295). -/
def execStartFbChange (lineB high : Bool) (at_ : Nat) (s : State) : Host.Outcome State Fault Refusal :=
  s.perform (startFbChange lineB high at_)

/-- READBACK_FAULT (R295). -/
def execReadbackFault (lineB : Bool) (s : State) : Host.Outcome State Fault Refusal :=
  s.perform (readbackFault lineB)

/-- DOOR_IN_EDGE (R297). -/
def execDoorInEdge (k : Fin 4) (high : Bool) (at_ : Nat) (s : State) : Host.Outcome State Fault Refusal :=
  s.perform (doorInEdge k high at_)

/-- DOOR_QUALIFIED (R297). -/
def execDoorQualified (k : Fin 4) (s : State) : Host.Outcome State Fault Refusal :=
  s.perform (doorQualified k)

/-- SESSION_TIMEOUT (R299). -/
def execSessionTimeout (s : State) : Host.Outcome State Fault Refusal :=
  s.perform sessionTimeout

/-- ARM_EXPIRY (R301). -/
def execArmExpiry (s : State) : Host.Outcome State Fault Refusal :=
  s.perform armExpiry

/-- REL_EWAKE_RB (R306). -/
def execRelEwakeRb (l : Fin 4) (at_ : Nat) (s : State) : Host.Outcome State Fault Refusal :=
  s.perform (relEwakeRb l at_)

/-- TT_PHASE (R308). -/
def execTtPhase (at_ : Nat) (s : State) : Host.Outcome State Fault Refusal :=
  s.perform (ttPhase at_)

/-- TT_MEASURE (R309). -/
def execTtMeasure (current : Byte) (at_ : Nat) (s : State) : Host.Outcome State Fault Refusal :=
  s.perform (ttMeasure current at_)

/-- TT_SUMMARY (R310). -/
def execTtSummary (s : State) : Host.Outcome State Fault Refusal :=
  s.perform ttSummary

/-- AES_BLOCK (R360). -/
def execAesBlock (m : Master) (p : List Byte) (s : State) : Host.Outcome State Fault Refusal :=
  s.perform (aesBlock m p)

/-- KEY_UNWRAP (R361). -/
def execKeyUnwrap (m : Master) (p : List Byte) (s : State) : Host.Outcome State Fault Refusal :=
  s.perform (keyUnwrap m p)

/-- KEY_SLOT_CLEAR (R362). -/
def execKeySlotClear (m : Master) (p : List Byte) (s : State) : Host.Outcome State Fault Refusal :=
  s.perform (keySlotClear m p)

/-- CNT_INCREMENT (R363). -/
def execCntIncrement (m : Master) (p : List Byte) (s : State) : Host.Outcome State Fault Refusal :=
  s.perform (cntIncrement m p)

/-- CNT_READ (R364). -/
def execCntRead (m : Master) (p : List Byte) (s : State) : Host.Outcome State Fault Refusal :=
  s.perform (cntRead m p)

/-- RNG_READ (R365). -/
def execRngRead (m : Master) (p : List Byte) (s : State) : Host.Outcome State Fault Refusal :=
  s.perform (rngRead m p)

/-- RNG_SELFTEST (R366). -/
def execRngSelftest (m : Master) (p : List Byte) (passed : BitVec 2) (s : State) : Host.Outcome State Fault Refusal :=
  s.perform (rngSelftest m p passed)

/-- AES_GO (R325). -/
def execAesGo (m : Master) (e : Fin 2) (s : State) : Host.Outcome State Fault Refusal :=
  s.perform (aesGo m e)

/-- AES_CLEAR (R327). -/
def execAesClear (m : Master) (e : Fin 2) (s : State) : Host.Outcome State Fault Refusal :=
  s.perform (aesClear m e)

/-- AES_BLOCK_DONE (R325). -/
def execAesBlockDone (e : Fin 2) (s : State) : Host.Outcome State Fault Refusal :=
  s.perform (aesBlockDone e)

/-- MRD_GO (R331). -/
def execMrdGo (m : Master) (s : State) : Host.Outcome State Fault Refusal :=
  s.perform (mrdGo m)

/-- UNWRAP_DONE (R331). -/
def execUnwrapDone (at_ : Nat) (s : State) : Host.Outcome State Fault Refusal :=
  s.perform (unwrapDone at_)

/-- CNT_INC (R334). -/
def execCntInc (m : Master) (n : Fin 64) (s : State) : Host.Outcome State Fault Refusal :=
  s.perform (cntInc m n)

/-- COUNTER_RECORD_WRITTEN (R337). -/
def execCounterRecordWritten (verified : Bool) (at_ : Nat) (s : State) : Host.Outcome State Fault Refusal :=
  s.perform (counterRecordWritten verified at_)

/-- CEILING_WRITE (R338). -/
def execCeilingWrite (n : Fin 64) (verified : Bool) (at_ : Nat) (s : State) : Host.Outcome State Fault Refusal :=
  s.perform (ceilingWrite n verified at_)

/-- COUNTER_HALF_ERASED (R336). -/
def execCounterHalfErased (n : Fin 64) (at_ : Nat) (s : State) : Host.Outcome State Fault Refusal :=
  s.perform (counterHalfErased n at_)

/-- CNT_LOADED (R339). -/
def execCntLoaded (at_ : Nat) (s : State) : Host.Outcome State Fault Refusal :=
  s.perform (cntLoaded at_)

/-- RNG_READY (R345). -/
def execRngReady (at_ : Nat) (s : State) : Host.Outcome State Fault Refusal :=
  s.perform (rngReady at_)

/-- TRNG_HEALTH_FAILURE (R349). -/
def execTrngHealthFailure (test : Fin 7) (at_ : Nat) (s : State) : Host.Outcome State Fault Refusal :=
  s.perform (trngHealthFailure test at_)

/-- RESEED_DONE (R344). -/
def execReseedDone (s : State) : Host.Outcome State Fault Refusal :=
  s.perform reseedDone

/-- RNG_REQUEST_SERVED (R347). -/
def execRngRequestServed (s : State) : Host.Outcome State Fault Refusal :=
  s.perform rngRequestServed

/-- TRNG_FIFO_READ (R356). -/
def execTrngFifoRead (m : Master) (s : State) : Host.Outcome State Fault Refusal :=
  s.perform (trngFifoRead m)

/-- HFR_CONFIG (R390). -/
def execHfrConfig (m : Master) (p : List Byte) (s : State) : Host.Outcome State Fault Refusal :=
  s.perform (hfrConfig m p)

/-- HFR_PING_CONFIG (R391). -/
def execHfrPingConfig (m : Master) (p : List Byte) (s : State) : Host.Outcome State Fault Refusal :=
  s.perform (hfrPingConfig m p)

/-- HFR_ACTIVATE (R392). -/
def execHfrActivate (m : Master) (p : List Byte) (s : State) : Host.Outcome State Fault Refusal :=
  s.perform (hfrActivate m p)

/-- HFR_EXCHANGE (R393). -/
def execHfrExchange (m : Master) (p : List Byte) (s : State) : Host.Outcome State Fault Refusal :=
  s.perform (hfrExchange m p)

/-- HFR_FIELD_OFF (R394). -/
def execHfrFieldOff (m : Master) (p : List Byte) (s : State) : Host.Outcome State Fault Refusal :=
  s.perform (hfrFieldOff m p)

/-- PING_REFERENCE_START (R377). -/
def execPingReferenceStart (s : State) : Host.Outcome State Fault Refusal :=
  s.perform pingReferenceStart

/-- HFR_PING (R373). -/
def execHfrPing (port : Fin 2) (amp : BitVec 16) (phase : BitVec 12) (ext : Bool) (s : State) : Host.Outcome State Fault Refusal :=
  s.perform (hfrPing port amp phase ext)

/-- EXT_CHECK_END (R369). -/
def execExtCheckEnd (ext : Bool) (s : State) : Host.Outcome State Fault Refusal :=
  s.perform (extCheckEnd ext)

/-- HFR_ACTIVATED (R387). -/
def execHfrActivated (ok multi : Bool) (uid : List Byte) (sak : Byte) (atq : BitVec 16) (ats : List Byte) (at_ : Nat) (s : State) : Host.Outcome State Fault Refusal :=
  s.perform (hfrActivated ok multi uid sak atq ats at_)

/-- HFR_ACTIVATE_TIMEOUT (R392). -/
def execHfrActivateTimeout (s : State) : Host.Outcome State Fault Refusal :=
  s.perform hfrActivateTimeout

/-- HFR_EXCHANGE_TIMEOUT (R393). -/
def execHfrExchangeTimeout (s : State) : Host.Outcome State Fault Refusal :=
  s.perform hfrExchangeTimeout

/-- HELLO_REPLY (R380). -/
def execHelloReply (b : List Byte) (at_ : Nat) (s : State) : Host.Outcome State Fault Refusal :=
  s.perform (helloReply b at_)

/-- PROOF_REPLY (R380). -/
def execProofReply (b : List Byte) (wtx : Bool) (delayUs : Nat) (at_ : Nat) (s : State) : Host.Outcome State Fault Refusal :=
  s.perform (proofReply b wtx delayUs at_)

/-- CLOSE_REPLY (R378). -/
def execCloseReply (at_ : Nat) (s : State) : Host.Outcome State Fault Refusal :=
  s.perform (closeReply at_)

/-- TAP_FDT_TIMEOUT (R380). -/
def execTapFdtTimeout (at_ : Nat) (s : State) : Host.Outcome State Fault Refusal :=
  s.perform (tapFdtTimeout at_)

/-- HFR_FIELD_TIMEOUT (R370). -/
def execHfrFieldTimeout (s : State) : Host.Outcome State Fault Refusal :=
  s.perform hfrFieldTimeout

/-- HFR_OVERCURRENT (R368). -/
def execHfrOvercurrent (port : Fin 2) (at_ : Nat) (s : State) : Host.Outcome State Fault Refusal :=
  s.perform (hfrOvercurrent port at_)

/-- VLT_READ (R430). -/
def execVltRead (m : Master) (p : List Byte) (s : State) : Host.Outcome State Fault Refusal :=
  s.perform (vltRead m p)

/-- VLT_WRITE (R431). -/
def execVltWrite (m : Master) (p : List Byte) (s : State) : Host.Outcome State Fault Refusal :=
  s.perform (vltWrite m p)

/-- VLT_CONFIG (R432). -/
def execVltConfig (m : Master) (p : List Byte) (s : State) : Host.Outcome State Fault Refusal :=
  s.perform (vltConfig m p)

/-- VLT_STATUS (R433). -/
def execVltStatus (m : Master) (p : List Byte) (s : State) : Host.Outcome State Fault Refusal :=
  s.perform (vltStatus m p)

/-- VLT_REL_ARM (R434). -/
def execVltRelArm (m : Master) (p : List Byte) (s : State) : Host.Outcome State Fault Refusal :=
  s.perform (vltRelArm m p)

/-- WIRED_OPERATION_GRANT (R420). -/
def execWiredOperationGrant (v : VaultMeas) (at_ : Nat) (s : State) : Host.Outcome State Fault Refusal :=
  s.perform (wiredOperationGrant v at_)

/-- VAULT_BUSY_TIMEOUT (R420). -/
def execVaultBusyTimeout (s : State) : Host.Outcome State Fault Refusal :=
  s.perform vaultBusyTimeout

/-- VLT_STREAM_ITEM (R423). -/
def execVltStreamItem (s : State) : Host.Outcome State Fault Refusal :=
  s.perform vltStreamItem

/-- VLT_STREAM_TIMEOUT (R424). -/
def execVltStreamTimeout (s : State) : Host.Outcome State Fault Refusal :=
  s.perform vltStreamTimeout

/-- VAULT_POWER_UP (R404). -/
def execVaultPowerUp (main : Bool) (v : VaultMeas) (at_ : Nat) (s : State) : Host.Outcome State Fault Refusal :=
  s.perform (vaultPowerUp main v at_)

/-- VAULT_BROWN_OUT (R395). -/
def execVaultBrownOut (at_ : Nat) (s : State) : Host.Outcome State Fault Refusal :=
  s.perform (vaultBrownOut at_)

/-- VAULT_FIELD_LOSS (R408). -/
def execVaultFieldLoss (at_ : Nat) (s : State) : Host.Outcome State Fault Refusal :=
  s.perform (vaultFieldLoss at_)

/-- FD_WAKE_RISE (R398). -/
def execFdWakeRise (v : VaultMeas) (at_ : Nat) (s : State) : Host.Outcome State Fault Refusal :=
  s.perform (fdWakeRise v at_)

/-- FD_WAKE_FALL (R398). -/
def execFdWakeFall (at_ : Nat) (s : State) : Host.Outcome State Fault Refusal :=
  s.perform (fdWakeFall at_)

/-- VREQ (R409). -/
def execVreq (b : List Byte) (parityOk : Bool) (at_ : Nat) (s : State) : Host.Outcome State Fault Refusal :=
  s.perform (vreq b parityOk at_)

/-- VWUP (R409). -/
def execVwup (b : List Byte) (parityOk : Bool) (at_ : Nat) (s : State) : Host.Outcome State Fault Refusal :=
  s.perform (vwup b parityOk at_)

/-- VSEL (R408). -/
def execVsel (b : List Byte) (parityOk : Bool) (at_ : Nat) (s : State) : Host.Outcome State Fault Refusal :=
  s.perform (vsel b parityOk at_)

/-- AUTH1 (R411). -/
def execAuth1 (b : List Byte) (parityOk : Bool) (at_ : Nat) (s : State) : Host.Outcome State Fault Refusal :=
  s.perform (auth1 b parityOk at_)

/-- AUTH2 (R411). -/
def execAuth2 (b : List Byte) (parityOk : Bool) (at_ : Nat) (s : State) : Host.Outcome State Fault Refusal :=
  s.perform (auth2 b parityOk at_)

/-- HALT (R408). -/
def execHalt (b : List Byte) (parityOk : Bool) (at_ : Nat) (s : State) : Host.Outcome State Fault Refusal :=
  s.perform (halt b parityOk at_)

/-- SECURE_READ (R413). -/
def execSecureRead (b : List Byte) (parityOk : Bool) (v : VaultMeas) (at_ : Nat) (s : State) : Host.Outcome State Fault Refusal :=
  s.perform (secureRead b parityOk v at_)

/-- SECURE_WRITE (R413). -/
def execSecureWrite (b : List Byte) (parityOk : Bool) (v : VaultMeas) (at_ : Nat) (s : State) : Host.Outcome State Fault Refusal :=
  s.perform (secureWrite b parityOk v at_)

/-- SECURE_STATUS (R413). -/
def execSecureStatus (b : List Byte) (parityOk : Bool) (v : VaultMeas) (at_ : Nat) (s : State) : Host.Outcome State Fault Refusal :=
  s.perform (secureStatus b parityOk v at_)

/-- TICKET (R417). -/
def execTicket (b : List Byte) (parityOk : Bool) (v : VaultMeas) (at_ : Nat) (s : State) : Host.Outcome State Fault Refusal :=
  s.perform (ticket b parityOk v at_)

/-- SECURE_END (R413). -/
def execSecureEnd (b : List Byte) (parityOk : Bool) (at_ : Nat) (s : State) : Host.Outcome State Fault Refusal :=
  s.perform (secureEnd b parityOk at_)

/-- PAGE_WRITE_COMMITTED (R403). -/
def execPageWriteCommitted (verified : Bool) (v : VaultMeas) (s : State) : Host.Outcome State Fault Refusal :=
  s.perform (pageWriteCommitted verified v)

/-- PAGE_WRITE_COPY_DONE (R403). -/
def execPageWriteCopyDone (verified : Bool) (v : VaultMeas) (s : State) : Host.Outcome State Fault Refusal :=
  s.perform (pageWriteCopyDone verified v)

/-- RETIRED_SLOT_ERASE (R404). -/
def execRetiredSlotErase (verified : Bool) (s : State) : Host.Outcome State Fault Refusal :=
  s.perform (retiredSlotErase verified)

/-- VAULT_REL_PULSE_END (R418). -/
def execVaultRelPulseEnd (s : State) : Host.Outcome State Fault Refusal :=
  s.perform vaultRelPulseEnd

/-- VLT_RNG (R410). -/
def execVltRng (failing : Bool) (at_ : Nat) (s : State) : Host.Outcome State Fault Refusal :=
  s.perform (vltRng failing at_)

/-- LAST_TIME_WRITE (R419). -/
def execLastTimeWrite (s : State) : Host.Outcome State Fault Refusal :=
  s.perform lastTimeWrite

/-- QM_PUSH_BEGIN (R443). -/
def execQmPushBegin (m : Master) (port : Fin 8) (v : Word) (s : State) : Host.Outcome State Fault Refusal :=
  s.perform (qmPushBegin m port v)

/-- QM_PUSH_DATA (R443). -/
def execQmPushData (m : Master) (port : Fin 8) (v : Word) (s : State) : Host.Outcome State Fault Refusal :=
  s.perform (qmPushData m port v)

/-- QM_POP_SEL (R444). -/
def execQmPopSel (m : Master) (port : Fin 8) (q : BitVec 7) (s : State) : Host.Outcome State Fault Refusal :=
  s.perform (qmPopSel m port q)

/-- QM_POP_DATA (R444). -/
def execQmPopData (m : Master) (port : Fin 8) (ecc : Ecc) (s : State) : Host.Outcome State Fault Refusal :=
  s.perform (qmPopData m port ecc)

/-- QM_POP_DONE (R444). -/
def execQmPopDone (m : Master) (port : Fin 8) (s : State) : Host.Outcome State Fault Refusal :=
  s.perform (qmPopDone m port)

/-- QM_LINK (R450). -/
def execQmLink (q : Fin 128) (at_ : Nat) (s : State) : Host.Outcome State Fault Refusal :=
  s.perform (qmLink q at_)

/-- Q_CONFIG (R458). -/
def execQConfig (m : Master) (p : List Byte) (s : State) : Host.Outcome State Fault Refusal :=
  s.perform (qConfig m p)

/-- Q_POP (R459). -/
def execQPop (m : Master) (p : List Byte) (ecc : List Ecc) (s : State) : Host.Outcome State Fault Refusal :=
  s.perform (qPop m p ecc)

/-- Q_PUSH (R460). -/
def execQPush (m : Master) (p : List Byte) (s : State) : Host.Outcome State Fault Refusal :=
  s.perform (qPush m p)

/-- Q_FLUSH (R461). -/
def execQFlush (m : Master) (p : List Byte) (s : State) : Host.Outcome State Fault Refusal :=
  s.perform (qFlush m p)

/-- Q_STATUS (R462). -/
def execQStatus (m : Master) (p : List Byte) (s : State) : Host.Outcome State Fault Refusal :=
  s.perform (qStatus m p)

/-- Q_WATERMARK (R463). -/
def execQWatermark (m : Master) (p : List Byte) (s : State) : Host.Outcome State Fault Refusal :=
  s.perform (qWatermark m p)

/-- SPI_REQUEST (R466). -/
def execSpiRequest (bytes : List Byte) (at_ : Nat) (s : State) : Host.Outcome State Fault Refusal :=
  s.perform (spiRequest bytes at_)

/-- SPI_READ (R469). -/
def execSpiRead (n : Nat) (at_ : Nat) (s : State) : Host.Outcome State Fault Refusal :=
  s.perform (spiRead n at_)

/-- SIDE_WRITE (R479). -/
def execSideWrite (bytes : List Byte) (at_ : Nat) (s : State) : Host.Outcome State Fault Refusal :=
  s.perform (sideWrite bytes at_)

/-- SIDE_READ (R479). -/
def execSideRead (n : Nat) (at_ : Nat) (s : State) : Host.Outcome State Fault Refusal :=
  s.perform (sideRead n at_)

/-- SIDE_ADDRESS_MATCH (R480). -/
def execSideAddressMatch (at_ : Nat) (s : State) : Host.Outcome State Fault Refusal :=
  s.perform (sideAddressMatch at_)

/-- SIDE_STRETCH_END (R480). -/
def execSideStretchEnd (s : State) : Host.Outcome State Fault Refusal :=
  s.perform sideStretchEnd

/-- HIF_SIDE_STUCK (R481). -/
def execHifSideStuck (at_ : Nat) (s : State) : Host.Outcome State Fault Refusal :=
  s.perform (hifSideStuck at_)

/-- REPLY_FORMED (R473). -/
def execReplyFormed (s : State) : Host.Outcome State Fault Refusal :=
  s.perform replyFormed

/-- HIF_CMD_TIMEOUT (R474). -/
def execHifCmdTimeout (side : Bool) (s : State) : Host.Outcome State Fault Refusal :=
  s.perform (hifCmdTimeout side)

/-- FLASH_OP_DONE (R499). -/
def execFlashOpDone (at_ : Nat) (s : State) : Host.Outcome State Fault Refusal :=
  s.perform (flashOpDone at_)

/-- HIF_XSPI_TIMEOUT (R500). -/
def execHifXspiTimeout (s : State) : Host.Outcome State Fault Refusal :=
  s.perform hifXspiTimeout

/-- FLT_STATUS (R571). -/
def execFltStatus (m : Master) (p : List Byte) (s : State) : Host.Outcome State Fault Refusal :=
  s.perform (fltStatus m p)

/-- FLT_CONFIG (R572). -/
def execFltConfig (m : Master) (p : List Byte) (s : State) : Host.Outcome State Fault Refusal :=
  s.perform (fltConfig m p)

/-- FLT_CLEAR (R573). -/
def execFltClear (m : Master) (p : List Byte) (s : State) : Host.Outcome State Fault Refusal :=
  s.perform (fltClear m p)

/-- FLT_INJECT (R575). -/
def execFltInject (m : Master) (p : List Byte) (s : State) : Host.Outcome State Fault Refusal :=
  s.perform (fltInject m p)

/-- INJECTED_EVENT (R555). -/
def execInjectedEvent (s : State) : Host.Outcome State Fault Refusal :=
  s.perform injectedEvent

/-- BBX_READ (R574). -/
def execBbxRead (m : Master) (p : List Byte) (s : State) : Host.Outcome State Fault Refusal :=
  s.perform (bbxRead m p)

/-- CFG_STAGE (R605). -/
def execCfgStage (m : Master) (p : List Byte) (s : State) : Host.Outcome State Fault Refusal :=
  s.perform (cfgStage m p)

/-- CFG_APPLY (R606). -/
def execCfgApply (m : Master) (p : List Byte) (s : State) : Host.Outcome State Fault Refusal :=
  s.perform (cfgApply m p)

/-- CFG_READ (R607). -/
def execCfgRead (m : Master) (p : List Byte) (s : State) : Host.Outcome State Fault Refusal :=
  s.perform (cfgRead m p)

/-- CFG_COMMIT_NV (R582). -/
def execCfgCommitNv (m : Master) (p : List Byte) (readback : Bool) (s : State) : Host.Outcome State Fault Refusal :=
  s.perform (cfgCommitNv m p readback)

/-- FW_WRITE_SLOT (R608). -/
def execFwWriteSlot (m : Master) (p : List Byte) (readback : Bool) (s : State) : Host.Outcome State Fault Refusal :=
  s.perform (fwWriteSlot m p readback)

/-- FW_ERASE_DONE (R608). -/
def execFwEraseDone (at_ : Nat) (s : State) : Host.Outcome State Fault Refusal :=
  s.perform (fwEraseDone at_)

/-- FW_VERIFY (R609). -/
def execFwVerify (m : Master) (p : List Byte) (s : State) : Host.Outcome State Fault Refusal :=
  s.perform (fwVerify m p)

/-- FW_SWITCH (R587). -/
def execFwSwitch (m : Master) (p : List Byte) (s : State) : Host.Outcome State Fault Refusal :=
  s.perform (fwSwitch m p)

/-- CAL_STAGE (R610). -/
def execCalStage (m : Master) (p : List Byte) (s : State) : Host.Outcome State Fault Refusal :=
  s.perform (calStage m p)

/-- CONFIG_SWITCH (R579). -/
def execConfigSwitch (block : Fin 23) (readback : Bool) (at_ : Nat) (s : State) : Host.Outcome State Fault Refusal :=
  s.perform (configSwitch block readback at_)

/-- APPLY_TIMEOUT (R580). -/
def execApplyTimeout (s : State) : Host.Outcome State Fault Refusal :=
  s.perform applyTimeout

/-- CONFIG_REVERT (R580). -/
def execConfigRevert (block : Fin 23) (at_ : Nat) (s : State) : Host.Outcome State Fault Refusal :=
  s.perform (configRevert block at_)

/-- SWITCH_BANK_LOADED (R587). -/
def execSwitchBankLoaded (at_ : Nat) (s : State) : Host.Outcome State Fault Refusal :=
  s.perform (switchBankLoaded at_)

/-- HANDOVER_POINT (R587). -/
def execHandoverPoint (at_ : Nat) (s : State) : Host.Outcome State Fault Refusal :=
  s.perform (handoverPoint at_)

/-- SWITCH_WAIT_TIMEOUT (R587). -/
def execSwitchWaitTimeout (s : State) : Host.Outcome State Fault Refusal :=
  s.perform switchWaitTimeout

/-- TRIAL_TIMEOUT (R588). -/
def execTrialTimeout (s : State) : Host.Outcome State Fault Refusal :=
  s.perform trialTimeout

/-- FALLBACK_RETRY (R588). -/
def execFallbackRetry (s : State) : Host.Outcome State Fault Refusal :=
  s.perform fallbackRetry

/-- WL_CONFIG (R611). -/
def execWlConfig (m : Master) (p : List Byte) (s : State) : Host.Outcome State Fault Refusal :=
  s.perform (wlConfig m p)

/-- WL_DISCOVER (R611). -/
def execWlDiscover (m : Master) (p : List Byte) (s : State) : Host.Outcome State Fault Refusal :=
  s.perform (wlDiscover m p)

/-- WL_STATUS (R611). -/
def execWlStatus (m : Master) (p : List Byte) (s : State) : Host.Outcome State Fault Refusal :=
  s.perform (wlStatus m p)

/-- WL_FORWARD (R612). -/
def execWlForward (m : Master) (p : List Byte) (s : State) : Host.Outcome State Fault Refusal :=
  s.perform (wlForward m p)

/-- FWD_REPEAT (R594). -/
def execFwdRepeat (s : State) : Host.Outcome State Fault Refusal :=
  s.perform fwdRepeat

/-- WL_FORWARD_TIMEOUT (R612). -/
def execWlForwardTimeout (s : State) : Host.Outcome State Fault Refusal :=
  s.perform wlForwardTimeout

/-- FWD (R594). -/
def execFwd (b : List Byte) (at_ : Nat) (s : State) : Host.Outcome State Fault Refusal :=
  s.perform (fwd b at_)

/-- REPLY (R594). -/
def execReply (w : Fin 4) (b : List Byte) (at_ : Nat) (s : State) : Host.Outcome State Fault Refusal :=
  s.perform (reply w b at_)

/-- FRAME (R595). -/
def execFrame (w : Fin 4) (b : List Byte) (at_ : Nat) (s : State) : Host.Outcome State Fault Refusal :=
  s.perform (frame w b at_)

/-- EVENT (R595). -/
def execEvent (w : Fin 4) (b : List Byte) (at_ : Nat) (s : State) : Host.Outcome State Fault Refusal :=
  s.perform (event w b at_)

/-- RANGE_W (R224). -/
def execRangeW (w : Fin 4) (crcOk : Bool) (tones : Byte) (dsum : BitVec 16) (at_ : Nat) (s : State) : Host.Outcome State Fault Refusal :=
  s.perform (rangeW w crcOk tones dsum at_)

/-- RUN (R594). -/
def execRun (crcOk : Bool) (idx : Nat) (origin : Nat) (order : List Byte) (at_ : Nat) (s : State) : Host.Outcome State Fault Refusal :=
  s.perform (run crcOk idx origin order at_)

/-- DREQ (R593). -/
def execDreq (crcOk : Bool) (devTime : Option Nat) (at_ : Nat) (s : State) : Host.Outcome State Fault Refusal :=
  s.perform (dreq crcOk devTime at_)

/-- DRSP (R593). -/
def execDrsp (w : Fin 4) (crcOk : Bool) (t1 t2 t3 t4 : Nat) (at_ : Nat) (s : State) : Host.Outcome State Fault Refusal :=
  s.perform (drsp w crcOk t1 t2 t3 t4 at_)

/-- DELAY_MEASUREMENT (R593). -/
def execDelayMeasurement (w : Fin 4) (at_ : Nat) (s : State) : Host.Outcome State Fault Refusal :=
  s.perform (delayMeasurement w at_)

/-- DELAY_MEASURED (R593). -/
def execDelayMeasured (w : Fin 4) (s : State) : Host.Outcome State Fault Refusal :=
  s.perform (delayMeasured w)

/-- WLK_LOS (R597). -/
def execWlkLos (w : Fin 4) (at_ : Nat) (s : State) : Host.Outcome State Fault Refusal :=
  s.perform (wlkLos w at_)

/-- LOCK_RETRY (R597). -/
def execLockRetry (locked : Bool) (s : State) : Host.Outcome State Fault Refusal :=
  s.perform (lockRetry locked)

/-- WL_CLK_ABSENT (R597). -/
def execWlClkAbsent (at_ : Nat) (s : State) : Host.Outcome State Fault Refusal :=
  s.perform (wlClkAbsent at_)

/-- TEST_ENTER (R598). -/
def execTestEnter (m : Master) (p : List Byte) (s : State) : Host.Outcome State Fault Refusal :=
  s.perform (testEnter m p)

/-- TEST_EXIT (R598). -/
def execTestExit (m : Master) (p : List Byte) (s : State) : Host.Outcome State Fault Refusal :=
  s.perform (testExit m p)

/-- PREAMBLE_DETECTED (R123). -/
def execPreambleDetected (n : Fin 64) (bits more : Nat) (at_ : Nat) (s : State) : Host.Outcome State Fault Refusal :=
  s.perform (preambleDetected n bits more at_)

/-- SYNC_SEARCH_TIMEOUT (R123). -/
def execSyncSearchTimeout (n : Fin 64) (s : State) : Host.Outcome State Fault Refusal :=
  s.perform (syncSearchTimeout n)

/-- PWR_ENTER_BEGIN (R538). -/
def execPwrEnterBegin (s : State) : Host.Outcome State Fault Refusal :=
  s.perform pwrEnterBegin

/-- TARGET_RESPONSE (R393). -/
def execTargetResponse (b : List Byte) (crcOk : Bool) (at_ : Nat) (s : State) : Host.Outcome State Fault Refusal :=
  s.perform (targetResponse b crcOk at_)

/-- EWAKE_DEASSERT (R305). -/
def execEwakeDeassert (l : Fin 4) (s : State) : Host.Outcome State Fault Refusal :=
  s.perform (ewakeDeassert l)

/-- DIRECTORY_ROW_WRITTEN (R244). -/
def execDirectoryRowWritten (at_ : Nat) (s : State) : Host.Outcome State Fault Refusal :=
  s.perform (directoryRowWritten at_)

end Sys2Proof.Machine
end

