-- ==== Sys2Proof/Machine/Dispatch.lean ====
section
/-!
DEFINITION. Machine/Dispatch.lean: one arm per command, each one direct call of its meaning.
-/
namespace Sys2Proof.Machine

def exec (i : Instr) (s : State) : Host.Outcome State Fault Refusal :=
  match i with
  | .powerOnReset straps => Sys2Proof.Machine.execPowerOnReset straps s
  | .nreset straps at_ => Sys2Proof.Machine.execNreset straps at_ s
  | .softReset m p => Sys2Proof.Machine.execSoftReset m p s
  | .softResetBegin => Sys2Proof.Machine.execSoftResetBegin s
  | .cfgImageRepair => Sys2Proof.Machine.execCfgImageRepair s
  | .bootDone at_ => Sys2Proof.Machine.execBootDone at_ s
  | .fwReady at_ => Sys2Proof.Machine.execFwReady at_ s
  | .vcoreRaiseRetry => Sys2Proof.Machine.execVcoreRaiseRetry s
  | .sysLockstep at_ => Sys2Proof.Machine.execSysLockstep at_ s
  | .pwrVcoreLoss at_ => Sys2Proof.Machine.execPwrVcoreLoss at_ s
  | .rfPllLock at_ => Sys2Proof.Machine.execRfPllLock at_ s
  | .rfPllRelock at_ => Sys2Proof.Machine.execRfPllRelock at_ s
  | .faultEvent fid inst data at_ => Sys2Proof.Machine.execFaultEvent fid inst data at_ s
  | .shadowEnd => Sys2Proof.Machine.execShadowEnd s
  | .bbxRecordWrite verified => Sys2Proof.Machine.execBbxRecordWrite verified s
  | .bbxHalfErased at_ => Sys2Proof.Machine.execBbxHalfErased at_ s
  | .bbxTokenTick => Sys2Proof.Machine.execBbxTokenTick s
  | .idleTimerP1 at_ => Sys2Proof.Machine.execIdleTimerP1 at_ s
  | .powerEntryStart => Sys2Proof.Machine.execPowerEntryStart s
  | .entryRetry => Sys2Proof.Machine.execEntryRetry s
  | .commitWindowCycle => Sys2Proof.Machine.execCommitWindowCycle s
  | .idleExpiryDeeper => Sys2Proof.Machine.execIdleExpiryDeeper s
  | .wakeEvent cause at_ => Sys2Proof.Machine.execWakeEvent cause at_ s
  | .wakeTimer => Sys2Proof.Machine.execWakeTimer s
  | .wakeRefStable at_ => Sys2Proof.Machine.execWakeRefStable at_ s
  | .vcorePgRise imageOk at_ => Sys2Proof.Machine.execVcorePgRise imageOk at_ s
  | .wakeComplete at_ => Sys2Proof.Machine.execWakeComplete at_ s
  | .wakeOscTimeout => Sys2Proof.Machine.execWakeOscTimeout s
  | .wakeVcoreTimeout => Sys2Proof.Machine.execWakeVcoreTimeout s
  | .wakeRetry => Sys2Proof.Machine.execWakeRetry s
  | .referenceRestart stable => Sys2Proof.Machine.execReferenceRestart stable s
  | .dvfsChangeDone at_ => Sys2Proof.Machine.execDvfsChangeDone at_ s
  | .pwrDvfsPg => Sys2Proof.Machine.execPwrDvfsPg s
  | .refSyncEdge rising at_ => Sys2Proof.Machine.execRefSyncEdge rising at_ s
  | .expectedSampleMissed => Sys2Proof.Machine.execExpectedSampleMissed s
  | .lpRatioUpdate ratio rcRatio crystal at_ => Sys2Proof.Machine.execLpRatioUpdate ratio rcRatio crystal at_ s
  | .calendarPrep slot => Sys2Proof.Machine.execCalendarPrep slot s
  | .calendarFire slot => Sys2Proof.Machine.execCalendarFire slot s
  | .calendarWakeLead slot => Sys2Proof.Machine.execCalendarWakeLead slot s
  | .calendarSlotFree slot => Sys2Proof.Machine.execCalendarSlotFree slot s
  | .tmrStart m mask => Sys2Proof.Machine.execTmrStart m mask s
  | .tmrTrigger n rising at_ => Sys2Proof.Machine.execTmrTrigger n rising at_ s
  | .tmrUpdate n => Sys2Proof.Machine.execTmrUpdate n s
  | .tmrCompare n => Sys2Proof.Machine.execTmrCompare n s
  | .tmrCapture n rising at_ => Sys2Proof.Machine.execTmrCapture n rising at_ s
  | .tmrCapRead m n => Sys2Proof.Machine.execTmrCapRead m n s
  | .lowWordRead m addr => Sys2Proof.Machine.execLowWordRead m addr s
  | .rcRegisterRead m addr => Sys2Proof.Machine.execRcRegisterRead m addr s
  | .registerWrite m addr v size => Sys2Proof.Machine.execRegisterWrite m addr v size s
  | .unitEnWrite m block en => Sys2Proof.Machine.execUnitEnWrite m block en s
  | .startingDone what at_ => Sys2Proof.Machine.execStartingDone what at_ s
  | .nop m p => Sys2Proof.Machine.execNop m p s
  | .getId m p => Sys2Proof.Machine.execGetId m p s
  | .getStatus m p => Sys2Proof.Machine.execGetStatus m p s
  | .regRead m p => Sys2Proof.Machine.execRegRead m p s
  | .regWrite m p => Sys2Proof.Machine.execRegWrite m p s
  | .regModify m p => Sys2Proof.Machine.execRegModify m p s
  | .echo m p => Sys2Proof.Machine.execEcho m p s
  | .pwrSetPolicy m p => Sys2Proof.Machine.execPwrSetPolicy m p s
  | .pwrEnter m p => Sys2Proof.Machine.execPwrEnter m p s
  | .pwrGetStats m p => Sys2Proof.Machine.execPwrGetStats m p s
  | .pwrPadRelease m p => Sys2Proof.Machine.execPwrPadRelease m p s
  | .pwrSetDvfs m p => Sys2Proof.Machine.execPwrSetDvfs m p s
  | .pwrSetRetain m p => Sys2Proof.Machine.execPwrSetRetain m p s
  | .pwrCmdEnter m v => Sys2Proof.Machine.execPwrCmdEnter m v s
  | .timeGet m p => Sys2Proof.Machine.execTimeGet m p s
  | .timeSetRef m p at_ => Sys2Proof.Machine.execTimeSetRef m p at_ s
  | .timeCalAdd m p => Sys2Proof.Machine.execTimeCalAdd m p s
  | .timeCalRemove m p => Sys2Proof.Machine.execTimeCalRemove m p s
  | .tmrConfig m p => Sys2Proof.Machine.execTmrConfig m p s
  | .tmrRead m p => Sys2Proof.Machine.execTmrRead m p s
  | .lfConfigCh m p => Sys2Proof.Machine.execLfConfigCh m p s
  | .lfPatternDef m p => Sys2Proof.Machine.execLfPatternDef m p s
  | .lfSend m p => Sys2Proof.Machine.execLfSend m p s
  | .lfPollConfig m p => Sys2Proof.Machine.execLfPollConfig m p s
  | .lfPollStart m p => Sys2Proof.Machine.execLfPollStart m p s
  | .lfPollStop m p => Sys2Proof.Machine.execLfPollStop m p s
  | .lfDiag m p => Sys2Proof.Machine.execLfDiag m p s
  | .lfMapLoad m p => Sys2Proof.Machine.execLfMapLoad m p s
  | .lfHnonce3Write m v => Sys2Proof.Machine.execLfHnonce3Write m v s
  | .kick m => Sys2Proof.Machine.execKick m s
  | .nonceClr m => Sys2Proof.Machine.execNonceClr m s
  | .lfSendStart => Sys2Proof.Machine.execLfSendStart s
  | .lfTxDone meas => Sys2Proof.Machine.execLfTxDone meas s
  | .pollBurst stable => Sys2Proof.Machine.execPollBurst stable s
  | .pollBurstDeferred => Sys2Proof.Machine.execPollBurstDeferred s
  | .sentinelPowerUp => Sys2Proof.Machine.execSentinelPowerUp s
  | .pollAnswer frame rssi at_ => Sys2Proof.Machine.execPollAnswer frame rssi at_ s
  | .pollWindowEnd level meas => Sys2Proof.Machine.execPollWindowEnd level meas s
  | .lfPollIdleStop => Sys2Proof.Machine.execLfPollIdleStop s
  | .handleInEdge k high at_ => Sys2Proof.Machine.execHandleInEdge k high at_ s
  | .handleQualified k => Sys2Proof.Machine.execHandleQualified k s
  | .lfHtelStart stableAt => Sys2Proof.Machine.execLfHtelStart stableAt s
  | .lfOvercurrent n at_ => Sys2Proof.Machine.execLfOvercurrent n at_ s
  | .lfVlf at_ => Sys2Proof.Machine.execLfVlf at_ s
  | .vlfReturn at_ => Sys2Proof.Machine.execVlfReturn at_ s
  | .lfDiagDone found at_ => Sys2Proof.Machine.execLfDiagDone found at_ s
  | .lfCalDue n temp at_ => Sys2Proof.Machine.execLfCalDue n temp at_ s
  | .lfCalDone n outcome temp => Sys2Proof.Machine.execLfCalDone n outcome temp s
  | .urxConfig m p => Sys2Proof.Machine.execUrxConfig m p s
  | .urxStart m p => Sys2Proof.Machine.execUrxStart m p s
  | .urxStop m p => Sys2Proof.Machine.execUrxStop m p s
  | .rfCapture m p => Sys2Proof.Machine.execRfCapture m p s
  | .syncAccepted n word hdr at_ => Sys2Proof.Machine.execSyncAccepted n word hdr at_ s
  | .urxFrame n rx => Sys2Proof.Machine.execUrxFrame n rx s
  | .urxJam w power at_ => Sys2Proof.Machine.execUrxJam w power at_ s
  | .urxJamClear w at_ => Sys2Proof.Machine.execUrxJamClear w at_ s
  | .bypassEngage at_ => Sys2Proof.Machine.execBypassEngage at_ s
  | .bypassRelease at_ => Sys2Proof.Machine.execBypassRelease at_ s
  | .urxAdcFault portB at_ => Sys2Proof.Machine.execUrxAdcFault portB at_ s
  | .adcSelfCheckDone portB passed at_ => Sys2Proof.Machine.execAdcSelfCheckDone portB passed at_ s
  | .captureTrigger at_ => Sys2Proof.Machine.execCaptureTrigger at_ s
  | .gatherReadItem => Sys2Proof.Machine.execGatherReadItem s
  | .gatherReadTimeout => Sys2Proof.Machine.execGatherReadTimeout s
  | .utxSend m p => Sys2Proof.Machine.execUtxSend m p s
  | .utxHopTable m p => Sys2Proof.Machine.execUtxHopTable m p s
  | .rfCalibrate m p => Sys2Proof.Machine.execRfCalibrate m p s
  | .rfCalStatus m p => Sys2Proof.Machine.execRfCalStatus m p s
  | .coexConfig m p => Sys2Proof.Machine.execCoexConfig m p s
  | .femSeqConfig m p => Sys2Proof.Machine.execFemSeqConfig m p s
  | .utxSendStart busy => Sys2Proof.Machine.execUtxSendStart busy s
  | .synthLocked at_ => Sys2Proof.Machine.execSynthLocked at_ s
  | .utxSynthLock => Sys2Proof.Machine.execUtxSynthLock s
  | .coexGntRise at_ => Sys2Proof.Machine.execCoexGntRise at_ s
  | .coexGntFall at_ => Sys2Proof.Machine.execCoexGntFall at_ s
  | .coexWaitTimeout => Sys2Proof.Machine.execCoexWaitTimeout s
  | .afterRxTimeout => Sys2Proof.Machine.execAfterRxTimeout s
  | .utxTxDone inTol => Sys2Proof.Machine.execUtxTxDone inTol s
  | .dutyBinRoll => Sys2Proof.Machine.execDutyBinRoll s
  | .calDue item idx temp at_ => Sys2Proof.Machine.execCalDue item idx temp at_ s
  | .calStepStart => Sys2Proof.Machine.execCalStepStart s
  | .rfCalDone good vco cap gain temp => Sys2Proof.Machine.execRfCalDone good vco cap gain temp s
  | .rangeConfig m p => Sys2Proof.Machine.execRangeConfig m p s
  | .rangeRun m p => Sys2Proof.Machine.execRangeRun m p s
  | .rangeResult m p => Sys2Proof.Machine.execRangeResult m p s
  | .zoneConfig m p => Sys2Proof.Machine.execZoneConfig m p s
  | .zoneQuery m p => Sys2Proof.Machine.execZoneQuery m p s
  | .rangeCmdGo m => Sys2Proof.Machine.execRangeCmdGo m s
  | .rangeCmdAbort m => Sys2Proof.Machine.execRangeCmdAbort m s
  | .rangeOriginFixed => Sys2Proof.Machine.execRangeOriginFixed s
  | .rangeSlotBegin => Sys2Proof.Machine.execRangeSlotBegin s
  | .rangeStep meas => Sys2Proof.Machine.execRangeStep meas s
  | .rangeTimeout => Sys2Proof.Machine.execRangeTimeout s
  | .rangeDone at_ => Sys2Proof.Machine.execRangeDone at_ s
  | .zoneCmdStart m => Sys2Proof.Machine.execZoneCmdStart m s
  | .zoneSolved at_ => Sys2Proof.Machine.execZoneSolved at_ s
  | .zoneMapLoaded ok at_ => Sys2Proof.Machine.execZoneMapLoaded ok at_ s
  | .credAdd m p => Sys2Proof.Machine.execCredAdd m p s
  | .credRemove m p => Sys2Proof.Machine.execCredRemove m p s
  | .credQuery m p => Sys2Proof.Machine.execCredQuery m p s
  | .credPopLoad m p => Sys2Proof.Machine.execCredPopLoad m p s
  | .credRevokeEpoch m p => Sys2Proof.Machine.execCredRevokeEpoch m p s
  | .authStart m p => Sys2Proof.Machine.execAuthStart m p s
  | .authResult m p => Sys2Proof.Machine.execAuthResult m p s
  | .authLockoutStatus m p => Sys2Proof.Machine.execAuthLockoutStatus m p s
  | .authLockoutClear m p => Sys2Proof.Machine.execAuthLockoutClear m p s
  | .credLkGo m v => Sys2Proof.Machine.execCredLkGo m v s
  | .lookupDone timeNs flash at_ => Sys2Proof.Machine.execLookupDone timeNs flash at_ s
  | .revmapLoaded ok at_ => Sys2Proof.Machine.execRevmapLoaded ok at_ s
  | .buildEraseDone at_ => Sys2Proof.Machine.execBuildEraseDone at_ s
  | .buildCommitDone flash at_ => Sys2Proof.Machine.execBuildCommitDone flash at_ s
  | .answerWindowEnd => Sys2Proof.Machine.execAnswerWindowEnd s
  | .keyProofTimeout => Sys2Proof.Machine.execKeyProofTimeout s
  | .credLockExpiry => Sys2Proof.Machine.execCredLockExpiry s
  | .globalLockExpiry => Sys2Proof.Machine.execGlobalLockExpiry s
  | .relConfig m p => Sys2Proof.Machine.execRelConfig m p s
  | .relArm m p => Sys2Proof.Machine.execRelArm m p s
  | .relStatus m p => Sys2Proof.Machine.execRelStatus m p s
  | .relEnd m p => Sys2Proof.Machine.execRelEnd m p s
  | .ewakeConfig m p => Sys2Proof.Machine.execEwakeConfig m p s
  | .telltaleConfig m p => Sys2Proof.Machine.execTelltaleConfig m p s
  | .relCmdOpen m => Sys2Proof.Machine.execRelCmdOpen m s
  | .relCmdEnd m => Sys2Proof.Machine.execRelCmdEnd m s
  | .openingGap => Sys2Proof.Machine.execOpeningGap s
  | .closingGap => Sys2Proof.Machine.execClosingGap s
  | .startFbChange lineB high at_ => Sys2Proof.Machine.execStartFbChange lineB high at_ s
  | .readbackFault lineB => Sys2Proof.Machine.execReadbackFault lineB s
  | .doorInEdge k high at_ => Sys2Proof.Machine.execDoorInEdge k high at_ s
  | .doorQualified k => Sys2Proof.Machine.execDoorQualified k s
  | .sessionTimeout => Sys2Proof.Machine.execSessionTimeout s
  | .armExpiry => Sys2Proof.Machine.execArmExpiry s
  | .relEwakeRb l at_ => Sys2Proof.Machine.execRelEwakeRb l at_ s
  | .ttPhase at_ => Sys2Proof.Machine.execTtPhase at_ s
  | .ttMeasure current at_ => Sys2Proof.Machine.execTtMeasure current at_ s
  | .ttSummary => Sys2Proof.Machine.execTtSummary s
  | .aesBlock m p => Sys2Proof.Machine.execAesBlock m p s
  | .keyUnwrap m p => Sys2Proof.Machine.execKeyUnwrap m p s
  | .keySlotClear m p => Sys2Proof.Machine.execKeySlotClear m p s
  | .cntIncrement m p => Sys2Proof.Machine.execCntIncrement m p s
  | .cntRead m p => Sys2Proof.Machine.execCntRead m p s
  | .rngRead m p => Sys2Proof.Machine.execRngRead m p s
  | .rngSelftest m p passed => Sys2Proof.Machine.execRngSelftest m p passed s
  | .aesGo m e => Sys2Proof.Machine.execAesGo m e s
  | .aesClear m e => Sys2Proof.Machine.execAesClear m e s
  | .aesBlockDone e => Sys2Proof.Machine.execAesBlockDone e s
  | .mrdGo m => Sys2Proof.Machine.execMrdGo m s
  | .unwrapDone at_ => Sys2Proof.Machine.execUnwrapDone at_ s
  | .cntInc m n => Sys2Proof.Machine.execCntInc m n s
  | .counterRecordWritten verified at_ => Sys2Proof.Machine.execCounterRecordWritten verified at_ s
  | .ceilingWrite n verified at_ => Sys2Proof.Machine.execCeilingWrite n verified at_ s
  | .counterHalfErased n at_ => Sys2Proof.Machine.execCounterHalfErased n at_ s
  | .cntLoaded at_ => Sys2Proof.Machine.execCntLoaded at_ s
  | .rngReady at_ => Sys2Proof.Machine.execRngReady at_ s
  | .trngHealthFailure test at_ => Sys2Proof.Machine.execTrngHealthFailure test at_ s
  | .reseedDone => Sys2Proof.Machine.execReseedDone s
  | .rngRequestServed => Sys2Proof.Machine.execRngRequestServed s
  | .trngFifoRead m => Sys2Proof.Machine.execTrngFifoRead m s
  | .hfrConfig m p => Sys2Proof.Machine.execHfrConfig m p s
  | .hfrPingConfig m p => Sys2Proof.Machine.execHfrPingConfig m p s
  | .hfrActivate m p => Sys2Proof.Machine.execHfrActivate m p s
  | .hfrExchange m p => Sys2Proof.Machine.execHfrExchange m p s
  | .hfrFieldOff m p => Sys2Proof.Machine.execHfrFieldOff m p s
  | .pingReferenceStart => Sys2Proof.Machine.execPingReferenceStart s
  | .hfrPing port amp phase ext => Sys2Proof.Machine.execHfrPing port amp phase ext s
  | .extCheckEnd ext => Sys2Proof.Machine.execExtCheckEnd ext s
  | .hfrActivated ok multi uid sak atq ats at_ => Sys2Proof.Machine.execHfrActivated ok multi uid sak atq ats at_ s
  | .hfrActivateTimeout => Sys2Proof.Machine.execHfrActivateTimeout s
  | .hfrExchangeTimeout => Sys2Proof.Machine.execHfrExchangeTimeout s
  | .helloReply b at_ => Sys2Proof.Machine.execHelloReply b at_ s
  | .proofReply b wtx delayUs at_ => Sys2Proof.Machine.execProofReply b wtx delayUs at_ s
  | .closeReply at_ => Sys2Proof.Machine.execCloseReply at_ s
  | .tapFdtTimeout at_ => Sys2Proof.Machine.execTapFdtTimeout at_ s
  | .hfrFieldTimeout => Sys2Proof.Machine.execHfrFieldTimeout s
  | .hfrOvercurrent port at_ => Sys2Proof.Machine.execHfrOvercurrent port at_ s
  | .vltRead m p => Sys2Proof.Machine.execVltRead m p s
  | .vltWrite m p => Sys2Proof.Machine.execVltWrite m p s
  | .vltConfig m p => Sys2Proof.Machine.execVltConfig m p s
  | .vltStatus m p => Sys2Proof.Machine.execVltStatus m p s
  | .vltRelArm m p => Sys2Proof.Machine.execVltRelArm m p s
  | .wiredOperationGrant v at_ => Sys2Proof.Machine.execWiredOperationGrant v at_ s
  | .vaultBusyTimeout => Sys2Proof.Machine.execVaultBusyTimeout s
  | .vltStreamItem => Sys2Proof.Machine.execVltStreamItem s
  | .vltStreamTimeout => Sys2Proof.Machine.execVltStreamTimeout s
  | .vaultPowerUp main v at_ => Sys2Proof.Machine.execVaultPowerUp main v at_ s
  | .vaultBrownOut at_ => Sys2Proof.Machine.execVaultBrownOut at_ s
  | .vaultFieldLoss at_ => Sys2Proof.Machine.execVaultFieldLoss at_ s
  | .fdWakeRise v at_ => Sys2Proof.Machine.execFdWakeRise v at_ s
  | .fdWakeFall at_ => Sys2Proof.Machine.execFdWakeFall at_ s
  | .vreq b parityOk at_ => Sys2Proof.Machine.execVreq b parityOk at_ s
  | .vwup b parityOk at_ => Sys2Proof.Machine.execVwup b parityOk at_ s
  | .vsel b parityOk at_ => Sys2Proof.Machine.execVsel b parityOk at_ s
  | .auth1 b parityOk at_ => Sys2Proof.Machine.execAuth1 b parityOk at_ s
  | .auth2 b parityOk at_ => Sys2Proof.Machine.execAuth2 b parityOk at_ s
  | .halt b parityOk at_ => Sys2Proof.Machine.execHalt b parityOk at_ s
  | .secureRead b parityOk v at_ => Sys2Proof.Machine.execSecureRead b parityOk v at_ s
  | .secureWrite b parityOk v at_ => Sys2Proof.Machine.execSecureWrite b parityOk v at_ s
  | .secureStatus b parityOk v at_ => Sys2Proof.Machine.execSecureStatus b parityOk v at_ s
  | .ticket b parityOk v at_ => Sys2Proof.Machine.execTicket b parityOk v at_ s
  | .secureEnd b parityOk at_ => Sys2Proof.Machine.execSecureEnd b parityOk at_ s
  | .pageWriteCommitted verified v => Sys2Proof.Machine.execPageWriteCommitted verified v s
  | .pageWriteCopyDone verified v => Sys2Proof.Machine.execPageWriteCopyDone verified v s
  | .retiredSlotErase verified => Sys2Proof.Machine.execRetiredSlotErase verified s
  | .vaultRelPulseEnd => Sys2Proof.Machine.execVaultRelPulseEnd s
  | .vltRng failing at_ => Sys2Proof.Machine.execVltRng failing at_ s
  | .lastTimeWrite => Sys2Proof.Machine.execLastTimeWrite s
  | .qmPushBegin m port v => Sys2Proof.Machine.execQmPushBegin m port v s
  | .qmPushData m port v => Sys2Proof.Machine.execQmPushData m port v s
  | .qmPopSel m port q => Sys2Proof.Machine.execQmPopSel m port q s
  | .qmPopData m port ecc => Sys2Proof.Machine.execQmPopData m port ecc s
  | .qmPopDone m port => Sys2Proof.Machine.execQmPopDone m port s
  | .qmLink q at_ => Sys2Proof.Machine.execQmLink q at_ s
  | .qConfig m p => Sys2Proof.Machine.execQConfig m p s
  | .qPop m p ecc => Sys2Proof.Machine.execQPop m p ecc s
  | .qPush m p => Sys2Proof.Machine.execQPush m p s
  | .qFlush m p => Sys2Proof.Machine.execQFlush m p s
  | .qStatus m p => Sys2Proof.Machine.execQStatus m p s
  | .qWatermark m p => Sys2Proof.Machine.execQWatermark m p s
  | .spiRequest bytes at_ => Sys2Proof.Machine.execSpiRequest bytes at_ s
  | .spiRead n at_ => Sys2Proof.Machine.execSpiRead n at_ s
  | .sideWrite bytes at_ => Sys2Proof.Machine.execSideWrite bytes at_ s
  | .sideRead n at_ => Sys2Proof.Machine.execSideRead n at_ s
  | .sideAddressMatch at_ => Sys2Proof.Machine.execSideAddressMatch at_ s
  | .sideStretchEnd => Sys2Proof.Machine.execSideStretchEnd s
  | .hifSideStuck at_ => Sys2Proof.Machine.execHifSideStuck at_ s
  | .replyFormed => Sys2Proof.Machine.execReplyFormed s
  | .hifCmdTimeout side => Sys2Proof.Machine.execHifCmdTimeout side s
  | .flashOpDone at_ => Sys2Proof.Machine.execFlashOpDone at_ s
  | .hifXspiTimeout => Sys2Proof.Machine.execHifXspiTimeout s
  | .fltStatus m p => Sys2Proof.Machine.execFltStatus m p s
  | .fltConfig m p => Sys2Proof.Machine.execFltConfig m p s
  | .fltClear m p => Sys2Proof.Machine.execFltClear m p s
  | .fltInject m p => Sys2Proof.Machine.execFltInject m p s
  | .injectedEvent => Sys2Proof.Machine.execInjectedEvent s
  | .bbxRead m p => Sys2Proof.Machine.execBbxRead m p s
  | .cfgStage m p => Sys2Proof.Machine.execCfgStage m p s
  | .cfgApply m p => Sys2Proof.Machine.execCfgApply m p s
  | .cfgRead m p => Sys2Proof.Machine.execCfgRead m p s
  | .cfgCommitNv m p readback => Sys2Proof.Machine.execCfgCommitNv m p readback s
  | .fwWriteSlot m p readback => Sys2Proof.Machine.execFwWriteSlot m p readback s
  | .fwEraseDone at_ => Sys2Proof.Machine.execFwEraseDone at_ s
  | .fwVerify m p => Sys2Proof.Machine.execFwVerify m p s
  | .fwSwitch m p => Sys2Proof.Machine.execFwSwitch m p s
  | .calStage m p => Sys2Proof.Machine.execCalStage m p s
  | .configSwitch block readback at_ => Sys2Proof.Machine.execConfigSwitch block readback at_ s
  | .applyTimeout => Sys2Proof.Machine.execApplyTimeout s
  | .configRevert block at_ => Sys2Proof.Machine.execConfigRevert block at_ s
  | .switchBankLoaded at_ => Sys2Proof.Machine.execSwitchBankLoaded at_ s
  | .handoverPoint at_ => Sys2Proof.Machine.execHandoverPoint at_ s
  | .switchWaitTimeout => Sys2Proof.Machine.execSwitchWaitTimeout s
  | .trialTimeout => Sys2Proof.Machine.execTrialTimeout s
  | .fallbackRetry => Sys2Proof.Machine.execFallbackRetry s
  | .wlConfig m p => Sys2Proof.Machine.execWlConfig m p s
  | .wlDiscover m p => Sys2Proof.Machine.execWlDiscover m p s
  | .wlStatus m p => Sys2Proof.Machine.execWlStatus m p s
  | .wlForward m p => Sys2Proof.Machine.execWlForward m p s
  | .fwdRepeat => Sys2Proof.Machine.execFwdRepeat s
  | .wlForwardTimeout => Sys2Proof.Machine.execWlForwardTimeout s
  | .fwd b at_ => Sys2Proof.Machine.execFwd b at_ s
  | .reply w b at_ => Sys2Proof.Machine.execReply w b at_ s
  | .frame w b at_ => Sys2Proof.Machine.execFrame w b at_ s
  | .event w b at_ => Sys2Proof.Machine.execEvent w b at_ s
  | .rangeW w crcOk tones dsum at_ => Sys2Proof.Machine.execRangeW w crcOk tones dsum at_ s
  | .run crcOk idx origin order at_ => Sys2Proof.Machine.execRun crcOk idx origin order at_ s
  | .dreq crcOk devTime at_ => Sys2Proof.Machine.execDreq crcOk devTime at_ s
  | .drsp w crcOk t1 t2 t3 t4 at_ => Sys2Proof.Machine.execDrsp w crcOk t1 t2 t3 t4 at_ s
  | .delayMeasurement w at_ => Sys2Proof.Machine.execDelayMeasurement w at_ s
  | .delayMeasured w => Sys2Proof.Machine.execDelayMeasured w s
  | .wlkLos w at_ => Sys2Proof.Machine.execWlkLos w at_ s
  | .lockRetry locked => Sys2Proof.Machine.execLockRetry locked s
  | .wlClkAbsent at_ => Sys2Proof.Machine.execWlClkAbsent at_ s
  | .testEnter m p => Sys2Proof.Machine.execTestEnter m p s
  | .testExit m p => Sys2Proof.Machine.execTestExit m p s
  | .preambleDetected n bits more at_ => Sys2Proof.Machine.execPreambleDetected n bits more at_ s
  | .syncSearchTimeout n => Sys2Proof.Machine.execSyncSearchTimeout n s
  | .pwrEnterBegin => Sys2Proof.Machine.execPwrEnterBegin s
  | .targetResponse b crcOk at_ => Sys2Proof.Machine.execTargetResponse b crcOk at_ s
  | .ewakeDeassert l => Sys2Proof.Machine.execEwakeDeassert l s
  | .directoryRowWritten at_ => Sys2Proof.Machine.execDirectoryRowWritten at_ s

end Sys2Proof.Machine
end

