-- ==== Sys2Proof/Machine/Step.lean ====
section
/-!
DEFINITION. Machine/Step.lean: one step of the block: the command at the front of the queue is executed; on an empty queue one
clock edge passes.
-/
namespace Sys2Proof.Machine

/-- One edge of the timing clock passes, or one of the low-power clock where the timing clock stands (R27, R33, R43;
notes/assumptions/5.md). -/
def State.idle (s : State) : State := if s.time.running then s.wait 8 else s.wait (s.time.ticksToLp 1)

/-- The front command of the queue is executed with the rest of the queue left in place. -/
def step (s : State) : Host.Outcome State Fault Refusal :=
  match s.pending with
  | [] => .next s.idle
  | c :: rest => exec c { s with pending := rest }

/-- The state with the command that a table word spells put at the front of its queue. The table gives no row any bits, so a word
spells no command and the state is unchanged. -/
def State.withFetchWord (s : State) (nbits w : Nat) : State :=
  match Sys2Proof.decodeTableWord nbits w with
  | some c => { s with pending := c :: s.pending }
  | none => s

end Sys2Proof.Machine
end

