-- ==== Sys2Proof/Safety.lean ====
section
/-!
DEFINITION. Safety.lean: what a run may rely on, in the terms that statements use.
-/
namespace Sys2Proof.Machine

/-! ### States -/

/-- The registers, the memories and the vault memory are in their canonical form: addresses rise, and no entry holds what an
unlisted address reads as. -/
def State.canonical (s : State) : Bool :=
  sparseWf regDefault s.regs && sparseWf memDefault s.mem && sparseWf nvDefault s.vlt.nv

/-- The cranking chain is released: START_EN_A is driven high and START_EN_B low (R293). -/
def State.released (s : State) : Bool := s.rel.a && !s.rel.b

/-- The pair is in the off state: START_EN_A low and START_EN_B high (R293). -/
def State.pairOff (s : State) : Bool := !s.rel.a && s.rel.b

/-- Every command that waits is one that can come. -/
def State.queueWf (s : State) : Bool := s.pending.all Instr.wf

/-- Nothing stands that the device itself goes on with in the same instant: no fault report, no attempt, release, tap or edge
that the firmware is to act on, no burst that has reached its end, no request that a halted TRNG is to break, and no change of a
unit, of a configuration or of a mode that has become due. -/
def State.atRest (s : State) : Bool :=
  s.flt.raised.isEmpty && s.auth.att.isNone && s.auth.edge.isNone && s.auth.release.isNone && s.auth.unlocked.isNone
    && s.hfr.auto.isNone && s.cred.found.isEmpty && !s.rel.ended && s.lf.fin.isEmpty && s.utx.fin.isEmpty && s.utx.run.isNone
    && s.utx.back.isEmpty && s.sys.staged.isEmpty && s.units.all (fun u => u != .disabling && u != .restartPending)
    && s.lf.diag.isNone && (!s.singleRx || s.urx.chans.all (·.phase != 2)) && !s.lf.calNew && s.zone.pend.isNone && s.wlk.run.isNone
    && (!s.poolReady || s.rng.pool.isSome) && (!s.lfQuiet || s.lf.tx.isNone) && (!s.rngHalted || s.rng.reqs.isEmpty)
    && (!s.awake || (List.range 6).all fun k => s.modeNow k == (bitAt s.flt.modes k == 1))

/-- The state after a step that goes on. -/
def nextOf (o : Host.Outcome State Fault Refusal) : Option State :=
  match o with | .next s => some s | _ => none

/-! ### Host commands (R466, R473) -/

/-- A host command with opcode `op` from master `m` comes to its own checks: it is served, the master has the right, and neither
QM nor the unit it addresses is fenced (R26, R453, R466, R474, R549, R586). -/
def State.takes (s : State) (m : Master) (op : Nat) : Bool :=
  s.hostReady && s.mayCommand m op && !s.fenced 15 && (!s.recovery || recoveryOps.contains op) && !s.fenced (opBlock op)

/-- The host command `op` from `m` with parameters `p` comes to its own checks. Its request has been taken out of queue 1 (R473):
`c` is the context of its reply, and `t` stands then. -/
def State.comes (s : State) (m : Master) (op : Nat) (p : List Byte) (c : Option ReqCtx) (t : State) : Prop :=
  s.takes m op = true ∧ s.takeRequest m op p = (c, t)

/-- Opcode, master and parameters of a command that the firmware serves (R483); none for any other. -/
def hostCall : Instr → Option (Nat × Master × List Byte)
  | .softReset m p => some (0x03, m, p)
  | .nop m p => some (0x00, m, p)
  | .getId m p => some (0x01, m, p)
  | .getStatus m p => some (0x02, m, p)
  | .echo m p => some (0x07, m, p)
  | .pwrSetPolicy m p => some (0x10, m, p)
  | .pwrEnter m p => some (0x11, m, p)
  | .pwrGetStats m p => some (0x12, m, p)
  | .pwrPadRelease m p => some (0x13, m, p)
  | .pwrSetDvfs m p => some (0x14, m, p)
  | .pwrSetRetain m p => some (0x15, m, p)
  | .timeGet m p => some (0x20, m, p)
  | .timeSetRef m p _ => some (0x21, m, p)
  | .timeCalAdd m p => some (0x22, m, p)
  | .timeCalRemove m p => some (0x23, m, p)
  | .tmrConfig m p => some (0x24, m, p)
  | .tmrRead m p => some (0x25, m, p)
  | .lfConfigCh m p => some (0x30, m, p)
  | .lfPatternDef m p => some (0x31, m, p)
  | .lfSend m p => some (0x32, m, p)
  | .lfPollConfig m p => some (0x33, m, p)
  | .lfPollStart m p => some (0x34, m, p)
  | .lfPollStop m p => some (0x35, m, p)
  | .lfDiag m p => some (0x36, m, p)
  | .lfMapLoad m p => some (0x37, m, p)
  | .urxConfig m p => some (0x40, m, p)
  | .urxStart m p => some (0x41, m, p)
  | .urxStop m p => some (0x42, m, p)
  | .rfCapture m p => some (0x47, m, p)
  | .utxSend m p => some (0x43, m, p)
  | .utxHopTable m p => some (0x44, m, p)
  | .rfCalibrate m p => some (0x45, m, p)
  | .rfCalStatus m p => some (0x46, m, p)
  | .coexConfig m p => some (0x48, m, p)
  | .femSeqConfig m p => some (0x49, m, p)
  | .rangeConfig m p => some (0x50, m, p)
  | .rangeRun m p => some (0x51, m, p)
  | .rangeResult m p => some (0x52, m, p)
  | .zoneConfig m p => some (0x53, m, p)
  | .zoneQuery m p => some (0x54, m, p)
  | .credAdd m p => some (0x60, m, p)
  | .credRemove m p => some (0x61, m, p)
  | .credQuery m p => some (0x62, m, p)
  | .credPopLoad m p => some (0x63, m, p)
  | .credRevokeEpoch m p => some (0x64, m, p)
  | .authStart m p => some (0x65, m, p)
  | .authResult m p => some (0x66, m, p)
  | .authLockoutStatus m p => some (0x67, m, p)
  | .authLockoutClear m p => some (0x68, m, p)
  | .relConfig m p => some (0x70, m, p)
  | .relArm m p => some (0x71, m, p)
  | .relStatus m p => some (0x72, m, p)
  | .relEnd m p => some (0x73, m, p)
  | .ewakeConfig m p => some (0x74, m, p)
  | .telltaleConfig m p => some (0x75, m, p)
  | .aesBlock m p => some (0x80, m, p)
  | .keyUnwrap m p => some (0x81, m, p)
  | .keySlotClear m p => some (0x82, m, p)
  | .cntIncrement m p => some (0x83, m, p)
  | .cntRead m p => some (0x84, m, p)
  | .rngRead m p => some (0x85, m, p)
  | .rngSelftest m p _ => some (0x86, m, p)
  | .hfrConfig m p => some (0x90, m, p)
  | .hfrPingConfig m p => some (0x91, m, p)
  | .hfrActivate m p => some (0x92, m, p)
  | .hfrExchange m p => some (0x93, m, p)
  | .hfrFieldOff m p => some (0x94, m, p)
  | .vltRead m p => some (0xA0, m, p)
  | .vltWrite m p => some (0xA1, m, p)
  | .vltConfig m p => some (0xA2, m, p)
  | .vltStatus m p => some (0xA3, m, p)
  | .vltRelArm m p => some (0xA4, m, p)
  | .qConfig m p => some (0xB0, m, p)
  | .qPop m p _ => some (0xB1, m, p)
  | .qPush m p => some (0xB2, m, p)
  | .qFlush m p => some (0xB3, m, p)
  | .qStatus m p => some (0xB4, m, p)
  | .qWatermark m p => some (0xB5, m, p)
  | .fltStatus m p => some (0xC0, m, p)
  | .fltConfig m p => some (0xC1, m, p)
  | .fltClear m p => some (0xC2, m, p)
  | .fltInject m p => some (0xC4, m, p)
  | .bbxRead m p => some (0xC3, m, p)
  | .cfgStage m p => some (0xD0, m, p)
  | .cfgApply m p => some (0xD1, m, p)
  | .cfgRead m p => some (0xD2, m, p)
  | .cfgCommitNv m p _ => some (0xD3, m, p)
  | .fwWriteSlot m p _ => some (0xD4, m, p)
  | .fwVerify m p => some (0xD5, m, p)
  | .fwSwitch m p => some (0xD6, m, p)
  | .calStage m p => some (0xD7, m, p)
  | .wlConfig m p => some (0xE0, m, p)
  | .wlDiscover m p => some (0xE1, m, p)
  | .wlStatus m p => some (0xE2, m, p)
  | .wlForward m p => some (0xE3, m, p)
  | .testEnter m p => some (0xF0, m, p)
  | .testExit m p => some (0xF1, m, p)
  | _ => none

/-! ### Bus writes (R20, R493, R549) -/

/-- Master and address of a command that is a write of one register with an effect of its own; none for any other. -/
def busWrite : Instr → Option (Master × Nat)
  | .tmrStart m _ => some (m, TMR_START.addr)
  | .pwrCmdEnter m _ => some (m, PWR_CMD.addr)
  | .lfHnonce3Write m _ => some (m, (LF_HNONCE 3).addr)
  | .kick m => some (m, LF_POLL_CMD.addr)
  | .nonceClr m => some (m, LF_POLL_CMD.addr)
  | .rangeCmdGo m => some (m, RANGE_CMD.addr)
  | .rangeCmdAbort m => some (m, RANGE_CMD.addr)
  | .zoneCmdStart m => some (m, ZONE_CMD.addr)
  | .credLkGo m _ => some (m, CRED_LK_CMD.addr)
  | .relCmdEnd m => some (m, REL_CMD.addr)
  | .aesGo m e => some (m, (AES_E_CMD e).addr)
  | .aesClear m e => some (m, (AES_E_CMD e).addr)
  | .mrdGo m => some (m, MRD_CMD.addr)
  | .cntInc m _ => some (m, CNT_INC.addr)
  | .qmPushBegin m port _ => some (m, (QM_PUSH_BEGIN port).addr)
  | .qmPushData m port _ => some (m, (QM_PUSH_DATA port).addr)
  | .qmPopSel m port _ => some (m, (QM_POP_SEL port).addr)
  | .qmPopDone m port => some (m, (QM_POP_DONE port).addr)
  | _ => none

/-- A write by `m` at `a` reaches its block: the core domain runs, the master issues accesses, the address is listed, the master is
connected and has the right, and the unit is not fenced (R20, R22, R493, R549). -/
def State.reaches (s : State) (m : Master) (a : Nat) : Bool := s.awake && !s.silent m && s.busOutcome m a 1 == .ok

/-- A read by `m` at `a` reaches its block or its memory. -/
def State.readable (s : State) (m : Master) (a : Nat) : Bool := s.awake && !s.silent m && s.busOutcome m a 0 == .ok

/-- A register command of port `m` with opcode `op` comes to its own checks: HIF is operational, the recovery path does not run
and the master may send it (R472). -/
def State.takesReg (s : State) (m : Master) (op : Nat) : Bool :=
  s.awake && s.pwr.hifUp && s.mayCommand m op && !s.recovery

/-! ### Queries and keys -/

/-- The commands that only report (R283, R287, R288, R320, R364, R462, R484 to R486, R571, R574, R607, R611). -/
def isQuery : Instr → Bool
  | .nop _ _ | .echo _ _ | .getId _ _ | .getStatus _ _ | .timeGet _ _ | .credQuery _ _ | .authResult _ _ | .authLockoutStatus _ _
  | .relStatus _ _ | .cntRead _ _ | .qStatus _ _ | .fltStatus _ _ | .bbxRead _ _ | .cfgRead _ _ | .wlStatus _ _ => true
  | _ => false

/-- A key slot with the bytes of its key replaced by those of `f`; its length and attributes stay. -/
def KeySlot.rekey (k : KeySlot) (f : Nat → Byte) : KeySlot := { k with key := (List.range k.key.length).map f }

/-- The state with byte `i` of the key in slot `n` replaced by `f n i` wherever a slot is filled. -/
def State.rekeyed (s : State) (f : Nat → Nat → Byte) : State :=
  { s with aes := { s.aes with slots := s.aes.slots.mapIdx fun n k => k.map fun k => k.rekey (f n) } }

end Sys2Proof.Machine
end

