-- ==== Sys2Proof/Certificates/Slice0/Obligations.lean ====
section
/-!
DEFINITION. Certificates/Slice0/Obligations.lean: the statements for the provers. Most say for a family of commands that each of them
completes and which state it leaves: `s.after e` is the state after a command whose own effect took `s` to `e`; `s.comes m op p c t`
says that a host command comes to its own checks, with `t` the state once its request is taken; `s.reaches m a` that a bus write
reaches its block; `s.readable m a` that a read does; `s.takesReg m op` that a register command comes to its checks.
-/
open Sys2Proof Sys2Proof.Machine

/-- A step takes the command at the front of the queue and executes it with the rest of the queue in place. The queue is the
model's own (notes/assumptions/46.md). -/
def Obligations.StepRunsTheFrontCommand : Prop :=
  ∀ (s : State) (c : Instr) (l : List Instr), step { s with pending := c :: l } = exec c { s with pending := l }

/-- On an empty queue one edge of the timing clock passes, or one of the low-power clock where the timing clock stands: the
model's choice for the time that passes between commands (notes/assumptions/5.md). Nothing waits afterwards, and time only goes
on. -/
def Obligations.EmptyQueueLetsOneClockEdgePass : Prop :=
  (∀ (s : State), s.pending = [] → s.time.running = true → step s = .next (s.wait 8)) ∧
  (∀ (s : State), s.pending = [] → s.time.running = false → step s = .next (s.wait (s.time.ticksToLp 1))) ∧
  (∀ (s t : State), s.pending = [] → step s = .next t → t.pending = [] ∧ s.time.now ≤ t.time.now)

/-- No command stops the machine, whatever the state: `k` steps from any state end in a next state, and exactly the first `k`
waiting commands have been taken from the queue, in order. The queue is the model's own, and that nothing stops is its reading
(notes/assumptions/3.md, 46.md). -/
def Obligations.RunsTakeTheCommandsInOrder : Prop :=
  ∀ (s : State) (k : Nat), ∃ t : State, Sys2Proof.core.run k s = .next t ∧ t.pending = s.pending.drop k

/-- Every step from every state keeps the canonical form: where the registers, the memories and the vault memory list their
contents with rising addresses and no entry that repeats what an unlisted address reads as, they do so in the next state, whatever
command is at the front of the queue. So equal contents are equal data in every state that a run reaches. -/
def Obligations.EveryStepKeepsTheCanonicalForm : Prop :=
  ∀ (s t : State), s.canonical = true → step s = .next t → t.canonical = true

/-- The state after reset: an empty queue, memories and registers in canonical form, nothing left to follow; the pair is off and
no session is open (R293, R294); no slot of the calendar, of the keys or of the queues is filled (R45, R441); no fault is latched,
no unit fenced and no mode forced (R548); the registers read their reset values (R9), and an unlisted byte of memory reads as it
does. The values of registers and of memory for which the spec gives none, and the empty queue, are the model's choice
(notes/assumptions/2.md, 4.md, 46.md). -/
def Obligations.ResetState : Prop :=
  State.reset.pending = [] ∧ State.reset.queueWf = true ∧ State.reset.canonical = true ∧ State.reset.atRest = true ∧
  State.reset.pairOff = true ∧ State.reset.rel.sess = 0 ∧ State.reset.safeState = false ∧ State.reset.fatalLatched = false ∧
  (∀ n : Nat, State.reset.calSlot n = none) ∧ (∀ q : Nat, State.reset.queue q = []) ∧ (∀ b : Nat, State.reset.fenced b = false) ∧
  (∀ n : Nat, (State.reset.aes.slots.getD n none) = none) ∧ (∀ a : Nat, State.reset.reg a = regDefault a) ∧
  (∀ a : Nat, State.reset.mem8 a = memDefault a)

/-- Key bytes never reach the bus: two states that differ in nothing but the bytes of the keys in the slots of Mordant return the
same word at every address to every master (R17, R330). -/
def Obligations.KeyBytesNeverReachTheBus : Prop :=
  ∀ (s : State) (f : Nat → Nat → Byte) (m : Master) (a : Nat), ((s.rekeyed f).readAt m a).1 = (s.readAt m a).1

/-- The checks that come before a host command's own (R453, R466, R474): nothing comes about while the firmware does not serve
queue 1; a master without the right gets ACCESS_DENIED; with QM fenced the answer is FENCED. In all three the command has no other
effect. Where the spec is silent the equations rest on readings of the model: notes/assumptions/44.md. -/
def Obligations.HostCommandsAreCheckedFirst : Prop :=
  (∀ (s : State) (i : Instr) (op : Nat) (m : Master) (p : List Byte), hostCall i = some (op, m, p) → s.hostReady = false →
    exec i s = .next (s.after s)) ∧
  (∀ (s t : State) (i : Instr) (op : Nat) (m : Master) (p : List Byte) (c : Option ReqCtx), hostCall i = some (op, m, p) →
    s.hostReady = true → s.takeRequest m op p = (c, t) → s.mayCommand m op = false →
    exec i s = .next (s.after (t.answer m op c ACCESS_DENIED []))) ∧
  (∀ (s t : State) (i : Instr) (op : Nat) (m : Master) (p : List Byte) (c : Option ReqCtx), hostCall i = some (op, m, p) →
    s.hostReady = true → s.takeRequest m op p = (c, t) → s.mayCommand m op = true → s.fenced 15 = true →
    exec i s = .next (s.after (t.answer m op c FENCED [])))

/-- Bus accesses that do not reach their block (R20, R493, R549): an unlisted address is recorded and reported as a decode fault,
a denied one as ACC_DENY, a write to a fenced unit is discarded; a read in any of these returns 0. A write to a register that is
not of an aligned word is recorded as a decode fault too (R21). No access comes while the core domain sleeps, and M6 issues none
outside factory test mode (R22). Where the spec is silent the equations rest on readings of the model: notes/assumptions/6.md,
7.md, 31.md, 146.md. -/
def Obligations.BusAccessesThatDoNotReach : Prop :=
  (∀ (s : State) (i : Instr) (m : Master) (a : Nat), busWrite i = some (m, a) → s.awake = false →
    exec i s = .next (s.after s)) ∧
  (∀ (s : State) (i : Instr) (m : Master) (a : Nat), busWrite i = some (m, a) → s.silent m = true →
    exec i s = .next (s.after s)) ∧
  (∀ (s : State) (m : Master) (a : BitVec 32) (v : Word) (z : AccSize), s.awake = true → s.silent m = false →
    s.busOutcome m a.toNat 1 = .decode →
    exec (.registerWrite m a v z) s = .next (s.after (s.decodeFault m a.toNat 1))) ∧
  (∀ (s : State) (m : Master) (a : BitVec 32) (v : Word) (z : AccSize), s.awake = true → s.silent m = false →
    (blockOf a.toNat).isSome = true → z ≠ .word ∨ a.toNat % 4 ≠ 0 →
    exec (.registerWrite m a v z) s = .next (s.after (s.decodeFault m a.toNat 1))) ∧
  (∀ (s : State) (i : Instr) (m : Master) (a : Nat), busWrite i = some (m, a) → s.awake = true → s.silent m = false →
    s.busOutcome m a 1 = .denied →
    exec i s = .next (s.after (s.denyFault m a 1))) ∧
  (∀ (s : State) (i : Instr) (m : Master) (a : Nat), busWrite i = some (m, a) → s.awake = true → s.silent m = false →
    s.busOutcome m a 1 = .fenced →
    exec i s = .next (s.after s)) ∧
  (∀ (s : State) (m : Master) (a : BitVec 32), s.awake = true → s.silent m = false →
    s.busOutcome m (a.toNat - a.toNat % 4) 0 = .decode →
    exec (.rcRegisterRead m a) s = .next (s.after ((s.readBack m 0).decodeFault m a.toNat 0))) ∧
  (∀ (s : State) (m : Master) (a : BitVec 32), s.awake = true → s.silent m = false →
    s.busOutcome m (a.toNat - a.toNat % 4) 0 = .denied →
    exec (.rcRegisterRead m a) s = .next (s.after ((s.readBack m 0).denyFault m a.toNat 0))) ∧
  (∀ (s : State) (m : Master) (a : BitVec 32), s.awake = true → s.silent m = false →
    s.busOutcome m (a.toNat - a.toNat % 4) 0 = .fenced →
    exec (.rcRegisterRead m a) s = .next (s.after (s.readBack m 0)))

/-- A direct write of a register that has no further effect (R9, R11): its word alone is stored. In that word every field that a
set lock covers, and every field that a write cannot set, keeps its value; every other RW or RWL field takes the value written,
moved into its range; a W1C field keeps the bits that are written as 0. Where the spec is silent the equations rest on readings of
the model: notes/assumptions/33.md, 145.md. -/
def Obligations.RegisterWriteActsFieldByField : Prop :=
  (∀ (s : State) (m : Master) (a : BitVec 32) (v : Word) (b o : Nat), s.awake = true → s.silent m = false →
    s.busOutcome m a.toNat 1 = .ok → a.toNat % 4 = 0 → blockOf a.toNat = some (b, o) → [0, 2, 12, 14, 16, 18, 20].contains b = true → o ≠ 0 →
    exec (.registerWrite m a v .word) s = .next (s.after (s.setReg (regAt b o) (s.writtenWord b o v.toNat)))) ∧
  (∀ (s : State) (b o v : Nat) (f : FieldRow), [0, 2, 12, 14, 16, 18, 20].contains b = true → f ∈ regFields b o →
    f.acc = .rwl → s.lockSet b o = true →
    bitsAt (s.writtenWord b o v).toNat f.lsb f.width = bitsAt (s.reg (regAt b o)).toNat f.lsb f.width) ∧
  (∀ (s : State) (b o v : Nat) (f : FieldRow), [0, 2, 12, 14, 16, 18, 20].contains b = true → f ∈ regFields b o →
    f.acc = .ro ∨ f.acc = .rc ∨ f.acc = .wo →
    bitsAt (s.writtenWord b o v).toNat f.lsb f.width = bitsAt (s.reg (regAt b o)).toNat f.lsb f.width) ∧
  (∀ (s : State) (b o v : Nat) (f : FieldRow), [0, 2, 12, 14, 16, 18, 20].contains b = true → f ∈ regFields b o →
    f.acc = .rw ∨ f.acc = .rwl ∧ s.lockSet b o = false →
    bitsAt (s.writtenWord b o v).toNat f.lsb f.width = clampNat f.lo f.hi (bitsAt v f.lsb f.width)) ∧
  (∀ (s : State) (b o v : Nat) (f : FieldRow), [0, 2, 12, 14, 16, 18, 20].contains b = true → f ∈ regFields b o → f.acc = .w1c →
    bitsAt (s.writtenWord b o v).toNat f.lsb f.width
      = bitsAt (s.reg (regAt b o)).toNat f.lsb f.width &&& ((2 ^ f.width - 1) ^^^ bitsAt v f.lsb f.width))

/-- A command that only reports changes nothing but the last reply, where the device is at rest and the command has not come
through a port: every register, every byte of memory and of the vault memory, every queue, pad and flag stands as before. -/
def Obligations.QueriesChangeNothing : Prop :=
  ∀ (s t : State) (i : Instr) (op : Nat) (m : Master) (p : List Byte), isQuery i = true → hostCall i = some (op, m, p) →
    s.atRest = true → s.takeRequest m op p = (none, s) → exec i s = .next t →
    { t with hif := { t.hif with lastReply := s.hif.lastReply } } = s

/-- What commands that store leave unchanged, where the device is at rest: a direct write to memory and the flash program of
FW_WRITE_SLOT (FLASH_OP_DONE), and FW_WRITE_SLOT itself, FW_VERIFY, PWR_SET_RETAIN, Q_WATERMARK and PWR_PAD_RELEASE, which store
nothing in memory. Every byte outside the bytes stored and every other part of the state but the reply and the registers named
reads as before. -/
def Obligations.StoringCommandsFrame : Prop :=
  (∀ (s t : State) (m : Master) (a : BitVec 32) (v : Word) (z : AccSize) (k o : Nat), s.atRest = true → s.awake = true →
    s.silent m = false → a.toNat % accBytes z = 0 → targetOf a.toNat = some (k, o) → 1 ≤ k → k ≤ 4 → s.busOutcome m a.toNat 1 = .ok →
    exec (.registerWrite m a v z) s = .next t →
    t = { s with mem := t.mem } ∧ t.mem = (s.writeMem a.toNat (le (accBytes z) v.toNat)).mem ∧
      ∀ x : Nat, x < a.toNat ∨ a.toNat + accBytes z ≤ x → t.mem8 x = s.mem8 x) ∧
  (∀ (s t : State) (m : Master) (p : List Byte) (b : Bool), s.atRest = true → s.comes m 0xD4 p none s →
    within 9 4104 p.length = true → u8 p 0 < 2 → u8 p 1 = 1 → u16 p 2 = 0 → u32 p 4 < 0x100000 → u32 p 4 % 256 = 0 →
    u32 p 4 + (p.length - 8) ≤ 0x100000 → s.slotBarred (u8 p 0) = false → s.upd.erase = none →
    exec (.fwWriteSlot m p b) s = .next t →
    t = { s with regs := t.regs, hif := t.hif, upd := t.upd } ∧ t.hif = { s.hif with flash := t.hif.flash } ∧
      t.upd = { s.upd with progs := t.upd.progs, eraseHeld := t.upd.eraseHeld } ∧
      ∀ x : Nat, x ≠ SYS_FW_STATUS.addr → x ≠ PWR_BUDGET_STAT.addr → t.reg x = s.reg x) ∧
  (∀ (s t : State) (o : FlashOp) (g : FlashProg) (n : Nat), s.awake = true → s.hif.flash = [o] → o.kind = 1 → o.owner = 2 →
    o.suspended = false → s.upd.progs = [g] → g.op = 0xD4 → g.ctx = none →
    (((s.advance n).programFlash o.addr o.data).flashEnd o [] OK).atRest = true →
    exec (.flashOpDone n) s = .next t →
    t = { s.advance n with mem := t.mem, hif := t.hif, upd := t.upd } ∧
      t.hif = { s.hif with flash := [], lastReply := t.hif.lastReply } ∧ t.upd = { s.upd with progs := [] } ∧
      ∀ x : Nat, x < 0x30000000 + o.addr ∨ 0x30000000 + o.addr + o.data.length ≤ x → t.mem8 x = s.mem8 x) ∧
  (∀ (s t : State) (m : Master) (p : List Byte), s.atRest = true → s.takeRequest m 0xD5 p = (none, s) →
    exec (.fwVerify m p) s = .next t →
    t = { s with regs := t.regs, hif := t.hif } ∧ t.hif = { s.hif with lastReply := t.hif.lastReply } ∧
      ∀ x : Nat, x ≠ SYS_FW_STATUS.addr → t.reg x = s.reg x) ∧
  (∀ (s t : State) (m : Master) (p : List Byte), s.atRest = true → s.takeRequest m 0x15 p = (none, s) →
    exec (.pwrSetRetain m p) s = .next t →
    t = { s with regs := t.regs, hif := t.hif } ∧ t.hif = { s.hif with lastReply := t.hif.lastReply } ∧
      ∀ x : Nat, x ≠ PWR_RET_CFG.addr → t.reg x = s.reg x) ∧
  (∀ (s t : State) (m : Master) (p : List Byte), s.atRest = true → s.takeRequest m 0xB5 p = (none, s) →
    exec (.qWatermark m p) s = .next t →
    t = { s with regs := t.regs, hif := t.hif } ∧ t.hif = { s.hif with lastReply := t.hif.lastReply } ∧
      ∀ x : Nat, x ≠ (QM_Q_WM (u8 p 0)).addr → x ≠ (QM_Q_STATUS (u8 p 0)).addr → x ≠ (QM_Q_XCNT (u8 p 0)).addr →
        t.reg x = s.reg x) ∧
  (∀ (s t : State) (m : Master) (p : List Byte), s.atRest = true → s.takeRequest m 0x13 p = (none, s) →
    exec (.pwrPadRelease m p) s = .next t →
    t = { s with pwr := t.pwr, hif := t.hif } ∧ t.pwr = { s.pwr with padsHeld := t.pwr.padsHeld, safeHeld := t.pwr.safeHeld } ∧
      t.hif = { s.hif with lastReply := t.hif.lastReply })

/-- R484, whole: NOP takes no parameters and returns OK with no data; ECHO takes 0 to 4104 bytes and returns them unchanged. Any
other length is BAD_LENGTH (R466). -/
def Obligations.NopAndEcho : Prop :=
  (∀ (s t : State) (m : Master) (c : Option ReqCtx), s.comes m 0x00 [] c t →
    exec (.nop m []) s = .next (s.after (t.answer m 0x00 c OK []))) ∧
  (∀ (s t : State) (m : Master) (p : List Byte) (c : Option ReqCtx), s.comes m 0x00 p c t → p.length ≠ 0 →
    exec (.nop m p) s = .next (s.after (t.answer m 0x00 c BAD_LENGTH []))) ∧
  (∀ (s t : State) (m : Master) (p : List Byte) (c : Option ReqCtx), s.comes m 0x07 p c t → p.length ≤ 4104 →
    exec (.echo m p) s = .next (s.after (t.answer m 0x07 c OK p))) ∧
  (∀ (s t : State) (m : Master) (p : List Byte) (c : Option ReqCtx), s.comes m 0x07 p c t → 4104 < p.length →
    exec (.echo m p) s = .next (s.after (t.answer m 0x07 c BAD_LENGTH [])))

/-- TIME_CAL_REMOVE (R60, R49): slots above 63 are reserved, 56 to 63 are refused, a free slot is not found; any other slot is
freed, and FIRED is 1 where it has delivered FIRE and is not yet freed, where it fires in this cycle, or where it is due and so
fires first; else 0. A target that has had its PREP and not its FIRE, or is to act at the end of the slot, has its CANCEL first. A
slot that its owner frees is refused: R220 says so of a ranging run's, and the model takes the slots of waiting sends likewise
(notes/assumptions/89.md). -/
def Obligations.TimeCalRemoveFreesTheSlot : Prop :=
  (∀ (s t : State) (m : Master) (p : List Byte) (c : Option ReqCtx), s.comes m 0x23 p c t → p.length ≠ 1 →
    exec (.timeCalRemove m p) s = .next (s.after (t.answer m 0x23 c BAD_LENGTH []))) ∧
  (∀ (s t : State) (m : Master) (p : List Byte) (c : Option ReqCtx), s.comes m 0x23 p c t → p.length = 1 → 63 < u8 p 0 →
    exec (.timeCalRemove m p) s = .next (s.after (t.answer m 0x23 c BAD_PARAM []))) ∧
  (∀ (s t : State) (m : Master) (p : List Byte) (c : Option ReqCtx), s.comes m 0x23 p c t → p.length = 1 → 56 ≤ u8 p 0 →
    u8 p 0 ≤ 63 → exec (.timeCalRemove m p) s = .next (s.after (t.answer m 0x23 c ACCESS_DENIED []))) ∧
  (∀ (s t : State) (m : Master) (p : List Byte) (c : Option ReqCtx), s.comes m 0x23 p c t → p.length = 1 → u8 p 0 < 56 →
    t.calSlot (u8 p 0) = none → exec (.timeCalRemove m p) s = .next (s.after (t.answer m 0x23 c NOT_FOUND []))) ∧
  (∀ (s t : State) (m : Master) (p : List Byte) (k : CalSlot) (c : Option ReqCtx), s.comes m 0x23 p c t → p.length = 1 →
    u8 p 0 < 56 → t.calSlot (u8 p 0) = some k → k.ownerFrees = true →
    exec (.timeCalRemove m p) s = .next (s.after (t.answer m 0x23 c ACCESS_DENIED []))) ∧
  (∀ (s t u : State) (m : Master) (p : List Byte) (k : CalSlot) (gave : Bool) (c : Option ReqCtx), s.comes m 0x23 p c t →
    p.length = 1 → u8 p 0 < 56 → t.calSlot (u8 p 0) = some k → k.ownerFrees = false →
    (!k.fired && decide (k.time ≤ t.refNow)) = false →
    gave = k.gaveAt.any (fun d => k.fired || d / 8 == t.devNow / 8) →
    u = (if k.prepDone && !k.fired || k.stopAt.isSome then t.calCancel (u8 p 0) k else t) →
    exec (.timeCalRemove m p) s
      = .next (s.after ((u.calFree (u8 p 0)).answer m 0x23 c OK [byte (bit01 gave)]))) ∧
  (∀ (s t u v : State) (m : Master) (p : List Byte) (k k2 : CalSlot) (gave : Bool) (c : Option ReqCtx), s.comes m 0x23 p c t →
    p.length = 1 → u8 p 0 < 56 → t.calSlot (u8 p 0) = some k → k.ownerFrees = false → k.fired = false → k.time ≤ t.refNow →
    u = t.calFire (u8 p 0) false false → u.calSlot (u8 p 0) = some k2 →
    gave = k2.gaveAt.any (fun d => k2.fired || d / 8 == u.devNow / 8) →
    v = (if k2.prepDone && !k2.fired || k2.stopAt.isSome then u.calCancel (u8 p 0) k else u) →
    exec (.timeCalRemove m p) s = .next (s.after ((v.calFree (u8 p 0)).answer m 0x23 c OK [byte (bit01 gave)])))

/-- R282, whole: CRED_REMOVE takes the 12-byte KEY_ID; the entry that holds it is written EMPTY, all bytes 0, and when its row is
written the reply is the entry's former index; with no entry it is NOT_FOUND. -/
def Obligations.CredRemoveWritesTheEntryEmpty : Prop :=
  (∀ (s t : State) (m : Master) (p : List Byte) (c : Option ReqCtx), s.comes m 0x61 p c t → p.length ≠ 12 →
    exec (.credRemove m p) s = .next (s.after (t.answer m 0x61 c BAD_LENGTH []))) ∧
  (∀ (s t : State) (m : Master) (p : List Byte) (c : Option ReqCtx), s.comes m 0x61 p c t → p.length = 12 → t.credOff = false →
    t.dirFindNew p = none → exec (.credRemove m p) s = .next (s.after (t.answer m 0x61 c NOT_FOUND []))) ∧
  (∀ (s t : State) (m : Master) (p : List Byte) (i : Nat) (w : RowWrite) (c : Option ReqCtx), s.comes m 0x61 p c t →
    p.length = 12 → t.credOff = false → t.dirFindNew p = some i →
    w = { idx := i, row := List.replicate 64 0, kind := 1, master := m, ctx := c } →
    exec (.credRemove m p) s = .next (s.after (t.rowWrite w))) ∧
  (∀ (s u v : State) (at_ : Nat) (w : RowWrite) (l : List RowWrite) (old : List Byte), u = s.advance at_ →
    u.cred.rows = w :: l → u.awake = true → w.kind = 1 → w.row = List.replicate 64 0 → old = u.dirRow w.idx →
    v = ((u.modCred fun c => { c with rows := l }).writeMem (dirAddr w.idx) (List.replicate 64 0)).noteGone (old.take 12) →
    exec (.directoryRowWritten at_) s
      = .next (s.after ((v.credChanged 0x61 w.idx (rowIssuer old) (rowEpoch old)).answer w.master 0x61 w.ctx OK
          (le 2 w.idx)).credBoundary))

/-- R321, whole: REL_END takes no parameters, ends the session with cause HOST, code 2, and returns the SESSION_ID; BAD_STATE in
CLOSED and FAULT. Of causes that arise in one cycle the session records the first in the order of R298. In OPENING the end is
held; it takes effect the instant OPEN is reached, and its record carries that instant; of an end held already only one of the
same cycle gives way to it. Once the pair is closing, the reply is the same and nothing else changes. Where the spec is silent the
equations rest on readings of the model: notes/assumptions/173.md. -/
def Obligations.RelEndEndsTheSession : Prop :=
  (∀ (s t : State) (m : Master) (p : List Byte) (c : Option ReqCtx), s.comes m 0x73 p c t → p.length ≠ 0 →
    exec (.relEnd m p) s = .next (s.after (t.answer m 0x73 c BAD_LENGTH []))) ∧
  (∀ (s t : State) (m : Master) (c : Option ReqCtx), s.comes m 0x73 [] c t → t.rel.sess = 0 ∨ t.rel.sess = 5 →
    exec (.relEnd m []) s = .next (s.after (t.answer m 0x73 c BAD_STATE []))) ∧
  (∀ (s t u : State) (m : Master) (c : Option ReqCtx), s.comes m 0x73 [] c t → t.rel.sess = 2 →
    u = (t.relEndRecord (t.endOf (t.endNow 2)) false).relClose →
    exec (.relEnd m []) s = .next (s.after (u.answer m 0x73 c OK (le 2 (u.get REL_SESSION_ID))))) ∧
  (∀ (s t u : State) (m : Master) (c : Option ReqCtx), s.comes m 0x73 [] c t → t.rel.sess = 1 → t.rel.held = none →
    u = t.modRel (fun r => { r with held := some (t.endNow 2) }) →
    exec (.relEnd m []) s = .next (s.after (u.answer m 0x73 c OK (le 2 (u.get REL_SESSION_ID))))) ∧
  (∀ (s t u : State) (m : Master) (h : RelEnd) (c : Option ReqCtx), s.comes m 0x73 [] c t → t.rel.sess = 1 →
    t.rel.held = some h →
    u = (if sameCycle h.at_ (t.endNow 2).at_ then t.modRel fun r => { r with held := some (h.first (t.endNow 2)) } else t) →
    exec (.relEnd m []) s = .next (s.after (u.answer m 0x73 c OK (le 2 (u.get REL_SESSION_ID))))) ∧
  (∀ (s t : State) (m : Master) (c : Option ReqCtx), s.comes m 0x73 [] c t → t.rel.sess = 3 ∨ t.rel.sess = 4 →
    exec (.relEnd m []) s = .next (s.after (t.answer m 0x73 c OK (le 2 (t.get REL_SESSION_ID))))) ∧
  (∀ (t u : State) (e : RelEnd), t.rel.held = some e → e.cause = 2 →
    u = (t.modRel fun r => { r with sess := 2, held := none }).relOpened false → t.relReached = u.relEndCause (u.endNow 2))

/-- PWR_PAD_RELEASE (R540) takes a group mask with bits [9:0]; a group is still held afterwards where it was held and was not
named, or is bound by the safe state or by factory test mode, which is the model's reading of R551 and R598
(notes/assumptions/77.md); the reply is the groups still held. A mask with a reserved bit is BAD_PARAM. -/
def Obligations.PadReleaseReleasesTheNamedGroups : Prop :=
  (∀ (s t : State) (m : Master) (p : List Byte) (c : Option ReqCtx), s.comes m 0x13 p c t → p.length = 4 → 1024 ≤ u32 p 0 →
    exec (.pwrPadRelease m p) s = .next (s.after (t.answer m 0x13 c BAD_PARAM []))) ∧
  (∀ (s t : State) (m : Master) (p : List Byte) (h g : Nat) (c : Option ReqCtx), s.comes m 0x13 p c t → p.length = 4 →
    u32 p 0 < 1024 → h = t.pwr.padsHeld - (t.pwr.padsHeld &&& u32 p 0) + (t.pwr.padsHeld &&& u32 p 0 &&& t.padsBound) →
    g = (t.pwr.safeHeld ||| (if t.safeState then t.pwr.padsHeld &&& u32 p 0 &&& safePads else 0)) &&& h →
    exec (.pwrPadRelease m p) s
      = .next (s.after (State.answer { t with pwr := { t.pwr with padsHeld := h, safeHeld := g } } m 0x13 c OK (le 4 h)))) ∧
  (∀ (h mask bound g : Nat), h < 1024 → mask < 1024 → g < 10 →
    (bitAt (h - (h &&& mask) + (h &&& mask &&& bound)) g = 1
      ↔ bitAt h g = 1 ∧ (bitAt mask g = 0 ∨ bitAt bound g = 1)))

/-- R491, whole: the number of the target that an address lies in: 0 ROM, 1 system SRAM, 2 cell pool, 3 retention SRAM, 4 embedded
non-volatile memory, 5 OTP, 6 external flash window, and 8 + b for the peripheral block with block number b. The vault memory,
target 7, has no address. -/
def Obligations.TargetNumbers : Prop :=
  (∀ a : Nat, a ≤ 0xFFFF → targetOf a = some (0, a)) ∧
  (∀ o : Nat, o ≤ 0xFFFFF → targetOf (0x10000000 + o) = some (1, o)) ∧
  (∀ o : Nat, o ≤ 0x7FFFF → targetOf (0x18000000 + o) = some (2, o)) ∧
  (∀ o : Nat, o ≤ 0x1FFFF → targetOf (0x1C000000 + o) = some (3, o)) ∧
  (∀ o : Nat, o ≤ 0x7FFFF → targetOf (0x20000000 + o) = some (4, o)) ∧
  (∀ o : Nat, o ≤ 0x1FFF → targetOf (0x28000000 + o) = some (5, o)) ∧
  (∀ o : Nat, o ≤ 0x3FFFFFF → targetOf (0x30000000 + o) = some (6, o)) ∧
  (∀ b o : Nat, b ≤ 22 → o ≤ 0xFFFF → targetOf (0x40000000 + 0x10000 * b + o) = some (8 + b, o)) ∧
  (∀ a o : Nat, targetOf a ≠ some (7, o))

/-- R401, whole: a page holds 56 data bytes, SEQ, then the CRC-32 over bytes 0 to 59, and reads as its data and SEQ; 64 bytes of
0xFF are an erased page, which reads as 56 bytes of 0xFF with SEQ 0; any other content whose CRC fails is corrupt. -/
def Obligations.VaultPageLayout : Prop :=
  (∀ (d : List Byte) (q : Nat), d.length = 56 →
    pageImage d q = d ++ le 4 q ++ le 4 (crc32 (d ++ le 4 q)) ∧ (pageImage d q).length = 64) ∧
  (∀ (d : List Byte) (q : Nat), d.length = 56 → q < 2 ^ 32 → pageErased (pageImage d q) = false →
    pageParse (pageImage d q) = some (d, q)) ∧
  (pageParse (List.replicate 64 0xFF) = some (List.replicate 56 0xFF, 0)) ∧
  (∀ (b : List Byte), b.length = 64 → b ≠ List.replicate 64 0xFF → crc32 (b.take 60) ≠ u32 b 60 → pageParse b = none) ∧
  (∀ (b : List Byte), b.length = 64 → b ≠ List.replicate 64 0xFF → crc32 (b.take 60) = u32 b 60 →
    pageParse b = some (b.take 56, u32 b 56))

/-- R12, whole: a write to OTP outside factory test mode that the access controller lets through has no effect, whatever its size
and its master; through a host command, REG_WRITE or REG_MODIFY, where every address is listed (R488), it returns FACTORY_ONLY and
nothing is written. -/
def Obligations.OtpTakesNoWriteOutsideFactoryTest : Prop :=
  (∀ (s : State) (m : Master) (a : BitVec 32) (v : Word) (z : AccSize) (o : Nat), s.sys.test = false →
    targetOf a.toNat = some (5, o) → s.busOutcome m a.toNat 1 = .ok →
    exec (.registerWrite m a v z) s = .next (s.after s)) ∧
  (∀ (s : State) (m : Master) (p : List Byte), s.takesReg m 5 = true → 8 ≤ p.length → p.length = 8 + 4 * u16 p 4 →
    u32 p 0 % 4 = 0 → within 1 256 (u16 p 4) = true → zeroAt p 6 2 = true → s.sys.test = false →
    (∀ a ∈ wordAddrs (u32 p 0) (u16 p 4), s.busOutcome m a 0 ≠ .decode) →
    (∃ a ∈ wordAddrs (u32 p 0) (u16 p 4), ∃ o : Nat, targetOf a = some (5, o)) →
    exec (.regWrite m p) s = .next (s.after (s.answer m 5 none FACTORY_ONLY []))) ∧
  (∀ (s : State) (m : Master) (p : List Byte) (o : Nat), s.takesReg m 6 = true → p.length = 12 → u32 p 0 % 4 = 0 →
    s.sys.test = false → targetOf (u32 p 0) = some (5, o) → s.busOutcome m (u32 p 0) 0 ≠ .decode →
    exec (.regModify m p) s = .next (s.after (s.answer m 6 none FACTORY_ONLY [])))

/-- NRESET (R520, R591, R619), POWER_ON_RESET (R619), SOFT_RESET and SOFT_RESET_BEGIN (R487), BOOT_DONE (R586) and FW_READY (R474)
complete: each equation gives the whole next state. Where the spec is silent the equations rest on readings of the model:
notes/assumptions/2.md, 4.md, 68.md, 76.md, 80.md, 145.md. -/
def Obligations.ResetsComplete : Prop :=
  (∀ (s : State) (straps : Fin 4),
    exec (.powerOnReset straps) s = .next (s.after (s.powerOff.sampleStraps straps.val).startPower)) ∧
  (∀ (s : State) (straps : Fin 4) (t : Nat), (((s.advance t).resetAll 1).sampleStraps straps.val).pwr.vid ≠ 0 →
    exec (.nreset straps t) s
      = .next (s.after ((((s.advance t).resetAll 1).sampleStraps straps.val).put PWR_WAKE_FAIL_FAIL_COUNT 0).coreRelease)) ∧
  (∀ (s : State) (straps : Fin 4) (t : Nat), (((s.advance t).resetAll 1).sampleStraps straps.val).pwr.vid = 0 →
    exec (.nreset straps t) s
      = .next (s.after ((((s.advance t).resetAll 1).sampleStraps straps.val).put PWR_WAKE_FAIL_FAIL_COUNT 0).startPower)) ∧
  (∀ (s t : State) (m : Master) (p : List Byte) (c : ReqCtx), s.comes m 0x03 p (some c) t → p.length = 4 →
    u32 p 0 = 0xC0DE5AFE →
    exec (.softReset m p) s
      = .next (s.after
          ({ t with hif := { t.hif with softReset := some (10 * Config.msTicks + t.time.now, c.port) } }.answer m 0x03 (some c) OK []))) ∧
  (∀ (s t : State) (m : Master) (p : List Byte), s.comes m 0x03 p none t → p.length = 4 → u32 p 0 = 0xC0DE5AFE →
    exec (.softReset m p) s
      = .next (s.after
          ({ t with hif := { t.hif with softReset := some (10 * Config.usTicks + t.time.now, 0) } }.answer m 0x03 none OK []))) ∧
  (∀ (s : State) (due port : Nat), s.hif.softReset = some (due, port) →
    exec .softResetBegin s = .next (s.after ((s.advance due).resetAll 2).coreRelease)) ∧
  (∀ (s : State) (t : Nat) (w : WakeSeq), s.awake = true → s.pwr.fwRun = false → s.recovery = false →
    s.pwr.wake = some w → w.source = 0 → s.sys.straps ≠ 3 →
    exec (.bootDone t) s
      = .next (s.after
          { s.advance t with pwr := { (s.advance t).pwr with wake := none, hifUp := true, fwRun := true } }.coldBoot)) ∧
  (∀ (s : State) (t : Nat), s.awake = true → s.pwr.fwRun = false → s.recovery = false → s.pwr.wake = none →
    exec (.bootDone t) s = .next (s.after { s.advance t with pwr := { (s.advance t).pwr with fwRun := true } })) ∧
  (∀ (s : State) (t : Nat), s.awake = true → s.pwr.fwServing = false → s.recovery = false → s.pwr.fwRun = true →
    s.upd.switch = none → s.unitOn 11 = false →
    exec (.fwReady t) s
      = .next (s.after (State.put
          { s.advance t with pwr := { (s.advance t).pwr with fwRun := true, fwServing := true, list := !(s.advance t).sys.test } }
          HIF_IRQ_STATUS_FW_READY 1)))

/-- VCORE_RAISE_RETRY (R619), SYS_LOCKSTEP (R26, R544), PWR_VCORE_LOSS (R529), CFG_IMAGE_REPAIR (R564), RF_PLL_LOCK and
RF_PLL_RELOCK (R29, R153, R192, R222), FAULT_EVENT (R543), SHADOW_END (R554) and the black box rows (R560, R562) complete. Where
the spec is silent the equations rest on readings of the model: notes/assumptions/54.md, 55.md, 59.md, 79.md, 84.md, 176.md. -/
def Obligations.SupplyAndFaultRowsComplete : Prop :=
  (∀ (s u : State) (w : WakeSeq), s.pwr.wake = some w → w.powerOn = true → w.stage = .vcoreWait → s.pwr.vid ≠ 0 →
    u = s.advance (2 * Config.msTicks + w.stageAt) →
    exec .vcoreRaiseRetry s = .next (s.after { u with pwr := { u.pwr with vid := 0 } })) ∧
  (∀ (s u : State) (w : WakeSeq), s.pwr.wake = some w → w.powerOn = true → w.stage = .vcoreWait → s.pwr.vid = 0 →
    u = (s.advance (100 * Config.msTicks + w.stageAt)).bump PWR_WAKE_FAIL_TOTAL →
    exec .vcoreRaiseRetry s
      = .next (s.after { u with pwr := { u.pwr with vid := 1, wake := some { w with stageAt := u.time.now } } })) ∧
  (∀ (s u v : State) (t : Nat), s.awake = true → s.pwr.fwRun = true → u = (s.advance t).loseStaged →
    v = { u with
      regs := u.regs.filter fun r => sysStatus r.1 || !(0x40000000 ≤ r.1 && r.1 < 0x40010000)
      pwr := { u.pwr with fwRun := false, fwServing := false, resetCause := 3 }
      auth := { u.auth with att := none, release := none }
      hfr := { u.hfr with flow := none }
      upd := { u.upd with apply := none, erase := none, eraseHeld := false, switch := none, confirm := none, challenge := none } } →
    exec (.sysLockstep t) s = .next (s.after ((v.setCstate 0).showSwitch.raise FID_SYS_LOCKSTEP).fwFallback)) ∧
  (∀ (s u : State) (t : Nat), s.pwr.dvfs = none → s.pwr.lockout = false → ¬ 3 ≤ s.pwr.st.num → s.pwr.wake = none →
    u = (s.advance t).coreReset true →
    exec (.pwrVcoreLoss t) s
      = .next (s.after ((State.coreRelease { u with pwr := { u.pwr with resetCause := 4 } }).raise FID_PWR_VCORE_LOSS))) ∧
  (∀ (s : State) (k : Nat) (t : Nat), s.upd.repair = some (k, t) →
    exec .cfgImageRepair s = .next (s.after ((s.writeImage k s.upd.inForce).modUpd fun u => { u with repair := none }))) ∧
  (∀ (s : State) (t : Nat), s.awake = true → s.urx.pllLost = false →
    exec (.rfPllLock t) s
      = .next (s.after ((((s.advance t).raise FID_RF_PLL_LOCK).urxPllLost).utxPllLost.rangeStop BAD_STATE))) ∧
  (∀ (s : State) (t : Nat), s.awake = true → s.urx.pllLost = true →
    exec (.rfPllRelock t) s = .next (s.after (s.advance t).urxRelock)) ∧
  (∀ (s : State) (fid : BitVec 16) (inst : Byte) (data : List Byte) (t : Nat) (r : SourceRow), sourceRow fid.toNat = some r →
    exec (.faultEvent fid inst data t) s
      = .next (s.after (((s.advance t).faultEffect fid.toNat inst.toNat).raise fid.toNat inst.toNat data))) ∧
  (∀ (s : State) (f : FenceRec) (e : Nat), s.flt.fences = [f] → f.until_ = some e → s.flt.safeShadow = none →
    exec .shadowEnd s
      = .next (s.after ((s.advance e).modFlt fun t =>
          { t with fences := [], safeShadow := none }))) ∧
  (∀ (s : State) (r : BbxRec) (rest : List BbxRec) (verified : Bool), s.bbx.ready = true → s.bbx.erasing = false →
    s.awake = true → s.bbx.srcs = [] → s.bbx.buf = r :: rest →
    exec (.bbxRecordWrite verified) s = .next (s.after (s.bbxNext r rest verified))) ∧
  (∀ (s : State) (t : Nat), s.bbx.ready = true → s.bbx.erasing = true → s.awake = true →
    exec (.bbxHalfErased t) s = .next (s.after ((s.advance t).openHalf (1 - s.bbx.half) (s.bbx.gen + 1)))) ∧
  (∀ (s : State), exec .bbxTokenTick s
      = .next (s.after ((s.advanceLp (32768 + s.bbx.tickLp)).modBbx fun b =>
          { b with tokens := min 256 (b.tokens + 1), tickLp := 32768 + b.tickLp })))

/-- The rows of entry into a power state complete: IDLE_TIMER_P1 (R509), POWER_ENTRY_START (R509), ENTRY_RETRY (R510),
COMMIT_WINDOW_CYCLE (R512, R516, R523), IDLE_EXPIRY_DEEPER (R514), PWR_ENTER_BEGIN (R538), and the sources of a wake: WAKE_EVENT
(R516, R517) and WAKE_TIMER (R518). Where the spec is silent the equations rest on readings of the model: notes/assumptions/64.md,
65.md, 67.md, 69.md, 70.md, 71.md, 143.md, 144.md. -/
def Obligations.EntryRowsComplete : Prop :=
  (∀ (s u : State) (t : Nat), s.pwr.st = .p0 → s.awake = true → s.pwr.wake = none → s.pwr.entry = none → u = s.advance t →
    exec (.idleTimerP1 t) s
      = .next (s.after (State.toState { u with
          pwr := { u.pwr with idleSince := some (u.time.now - Config.usTicks * u.get PWR_IDLE0_IDLE_P1_US)
                              refusedNow := 0, triedAt := none } } .p1))) ∧
  (∀ (s : State) (d k : Nat), s.pwr.st = .p1 → s.pwr.entry = none → s.nextIdle [2, 3, 4] = some d →
    (s.advance d).deepest [4, 3, 2] = some k →
    exec .powerEntryStart s = .next (s.after ((s.advance d).tryEntry k false))) ∧
  (∀ (s : State) (t k : Nat), s.pwr.st = .p1 → s.pwr.entry = none → s.pwr.triedAt = some t →
    (s.advance (Config.msTicks + t)).deepest [4, 3, 2] = some k →
    exec .entryRetry s = .next (s.after ((s.advance (Config.msTicks + t)).tryEntry k false))) ∧
  (∀ (s u : State) (e : Entry), s.pwr.entry = some e → e.step = 2 → e.cycle = 0 → ¬ 3 ≤ e.target →
    u = s.advanceLp (e.winLp + 1) →
    exec .commitWindowCycle s = .next (s.after { u with pwr := { u.pwr with entry := some { e with cycle := 1 } } })) ∧
  (∀ (s u : State) (e : Entry), s.pwr.entry = some e → e.step = 2 → e.cycle = 0 → 3 ≤ e.target →
    u = s.advanceLp (e.winLp + 1) →
    exec .commitWindowCycle s
      = .next (s.after { u with
          pwr := { u.pwr with entry := some { e with cycle := 1 }, padsHeld := 0x3FF, safeHeld := 0, gpioHeld := u.get PAD_GPIO_OUT } })) ∧
  (∀ (s u : State) (e : Entry), s.pwr.entry = some e → e.step = 2 → e.cycle = 1 → u = s.advanceLp (e.winLp + 2) →
    exec .commitWindowCycle s
      = .next (s.after { u with pwr := { u.pwr with entry := some { e with cycle := 2 }, isolated := true } })) ∧
  (∀ (s u : State) (e : Entry), s.pwr.entry = some e → e.step = 2 → e.cycle = 2 → s.time.running = true →
    (s.advanceLp (e.winLp + 3)).time.running = true → u = (s.advanceLp (e.winLp + 3)).tmrSyncAll →
    exec .commitWindowCycle s
      = .next (s.after { u with
          pwr := { u.pwr with entry := some { e with cycle := 3 } }, time := { u.time with running := false } })) ∧
  (∀ (s : State) (e : Entry), s.pwr.entry = some e → e.step = 2 → e.cycle = 3 →
    exec .commitWindowCycle s = .next (s.after ((s.advanceLp (e.winLp + 4)).reach e.target e.fromP2))) ∧
  (∀ (s : State) (d k : Nat), s.pwr.wake = none → s.pwr.entry = none → s.pwr.st = .p2 → s.nextIdle [3, 4] = some d →
    (s.advance d).deepest [4, 3] = some k →
    exec .idleExpiryDeeper s = .next (s.after ((s.advance d).deeperP2 k))) ∧
  (∀ (s : State) (d : Nat), s.pwr.wake = none → s.pwr.entry = none → s.pwr.st = .p3 → s.idleDue 4 = some d →
    exec .idleExpiryDeeper s = .next (s.after (s.advance d).deeperP3)) ∧
  (∀ (s : State) (w : EnterWait), s.pwr.enterWait = some w →
    exec .pwrEnterBegin s = .next (s.after (s.advance (10 * Config.msTicks + w.at_)).enterGo)) ∧
  (∀ (s : State) (t : Nat), exec (.wakeEvent .hncs t) s = .next (s.after ((s.advance t).wakeSource 1 0 true))) ∧
  (∀ (s : State) (t : Nat), exec (.wakeEvent .pin t) s = .next (s.after (s.advance t).wakePin)) ∧
  (∀ (s : State) (t ns : Nat), s.get PWR_WAKE_CFG_WAKE_MODE ≠ 2 →
    exec (.wakeEvent (.pulse ns) t) s = .next (s.after (s.advance t).wakePin)) ∧
  (∀ (s : State) (t ns : Nat), s.get PWR_WAKE_CFG_WAKE_MODE = 2 →
    exec (.wakeEvent (.pulse ns) t) s
      = .next (s.after (((s.advance t).advance ((s.advance t).time.now + ns * 5 / 2)).wakePattern (s.advance t).time.now
          ((s.advance t).time.now + ns * 5 / 2)))) ∧
  (∀ (s : State) (t c d : Nat), c ∈ [4, 5, 8, 9, 10, 11] →
    exec (.wakeEvent (.source c d) t) s
      = .next (s.after ((s.advance t).wakeSource c d ((s.advance t).wakeLevel c d)))) ∧
  (∀ (s u : State), s.pwr.timerLoad ≠ 0 → u = s.advanceLp (s.pwr.timerLp + s.pwr.timerLoad) →
    exec .wakeTimer s = .next (s.after (State.wakeSource { u with pwr := { u.pwr with timerLoad := 0 } } 7 0 true)))

/-- The rows of a wake complete: WAKE_REF_STABLE (R519), VCORE_PG_RISE (R519, R526), WAKE_COMPLETE (R470, R519), WAKE_OSC_TIMEOUT
and WAKE_VCORE_TIMEOUT (R520), WAKE_RETRY (R520), REFERENCE_RESTART (R521), and those of a voltage change: DVFS_CHANGE_DONE (R528)
and PWR_DVFS_PG (R529). Where the spec is silent the equations rest on readings of the model: notes/assumptions/81.md, 82.md,
83.md. -/
def Obligations.WakeRowsComplete : Prop :=
  (∀ (s : State) (w : WakeSeq) (t : Nat), s.pwr.wake = some w → w.stage = .refStart → ¬ 5 * Config.msTicks + w.stageAt < t →
    exec (.wakeRefStable t) s = .next (s.after ((s.advance t).afterReference w))) ∧
  (∀ (s : State) (w : WakeSeq) (ok : Bool) (t : Nat), s.pwr.wake = some w → w.stage = .vcoreWait → s.pwr.vid ≠ 0 →
    w.powerOn = true →
    exec (.vcorePgRise ok t) s = .next (s.after ((s.advance t).wait (50 * Config.usTicks)).coreRelease)) ∧
  (∀ (s : State) (w : WakeSeq) (ok : Bool) (t : Nat), s.pwr.wake = some w → w.stage = .vcoreWait → s.pwr.vid ≠ 0 →
    w.powerOn = false →
    exec (.vcorePgRise ok t) s = .next (s.after (((s.advance t).wait (50 * Config.usTicks)).wakeRestore w ok))) ∧
  (∀ (s u : State) (w : WakeSeq) (t : Nat), s.pwr.wake = some w → w.stage = .boot → w.source = 0 → u = s.advance t →
    exec (.wakeComplete t) s = .next (s.after { u with pwr := { u.pwr with hifUp := true } })) ∧
  (∀ (s : State) (w : WakeSeq) (t : Nat), s.pwr.wake = some w → w.stage = .boot → w.source ≠ 0 →
    exec (.wakeComplete t) s = .next (s.after ((s.advance t).wakeUp w))) ∧
  (∀ (s u : State) (w : WakeSeq), s.pwr.wake = some w → w.stage = .refStart → w.powerOn = true →
    s.pwr.lockout = false → (s.advance (5 * Config.msTicks + w.stageAt)).time.saved ≠ none →
    u = s.advance (5 * Config.msTicks + w.stageAt) →
    exec .wakeOscTimeout s
      = .next (s.after (State.afterReference (State.pollSuspend (State.reducedEvent
          { u with pwr := { u.pwr with reduced := true, reducedRetries := 0, reducedAt := u.time.now } } true))
          { w with reduced := true }))) ∧
  (∀ (s u v : State) (w : WakeSeq), s.pwr.wake = some w → w.stage = .refStart → w.powerOn = false →
    u = s.advance (5 * Config.msTicks + w.stageAt) →
    v = State.wakeFailed { u with pwr := { u.pwr with reduced := true, reducedRetries := 0, reducedAt := u.time.now } } 1
      FID_PWR_WAKE_OSC →
    exec .wakeOscTimeout s
      = .next (s.after
          (if v.pwr.lockout then v else ((v.reducedEvent true).pollSuspend).afterReference { w with reduced := true }))) ∧
  (∀ (s u v : State) (w : WakeSeq), s.pwr.wake = some w → w.powerOn = false → ¬ w.left < 3 → w.stage ≠ .boot → s.pwr.st = .p4 →
    u = s.advance (2 * Config.msTicks + w.at_) →
    v = { u with pwr := { u.pwr with wake := none, vid := 0, retryAt := some (100 * Config.msTicks + u.time.now) } } →
    exec .wakeVcoreTimeout s = .next (s.after (v.wakeFailed 2 FID_PWR_WAKE_VCORE))) ∧
  (∀ (s u v : State) (w : WakeSeq), s.pwr.wake = some w → w.powerOn = false → ¬ w.left < 3 → w.stage ≠ .boot → s.pwr.st ≠ .p4 →
    u = (((s.advance (2 * Config.msTicks + w.at_)).banksLost 4).toState .p4).pollSuspend →
    v = { u with pwr := { u.pwr with wake := none, vid := 0, retryAt := some (100 * Config.msTicks + u.time.now) } } →
    exec .wakeVcoreTimeout s = .next (s.after (v.wakeFailed 2 FID_PWR_WAKE_VCORE))) ∧
  (∀ (s u v : State) (t : Nat), s.pwr.retryAt = some t → s.pwr.lockout = false → s.pwr.wake = none → s.pwr.st = .p4 →
    u = s.advance t → v = { u with pwr := { u.pwr with retryAt := none } } → v.wakePending = true →
    exec .wakeRetry s = .next (s.after (v.startWake 12 0))) ∧
  (∀ (s u v : State), s.pwr.reduced = true → s.awake = true → s.pwr.wake = none →
    u = s.advance (Config.sTicks + s.pwr.reducedAt) →
    v = { u with pwr := { u.pwr with reducedAt := u.time.now, reducedRetries := u.pwr.reducedRetries + 1 } } →
    exec (.referenceRestart false) s = .next (s.after v) ∧
    exec (.referenceRestart true) s
      = .next (s.after (((State.restoreTime { v with pwr := { v.pwr with reduced := false } }).reducedEvent false).pollUnsuspend))) ∧
  (∀ (s u : State) (d : Dvfs) (t : Nat), s.pwr.dvfs = some d →
    u = s.advance (max t (d.at_ + Config.usTicks * s.get PWR_DVFS_CFG_SETTLE_US)) →
    exec (.dvfsChangeDone t) s
      = .next (s.after (State.dvfsEnd { u with pwr := { u.pwr with level := d.target, dvfs := none } } d OK))) ∧
  (∀ (s u : State) (d : Dvfs), s.pwr.dvfs = some d → u = s.advance (2 * Config.msTicks + d.at_) →
    exec .pwrDvfsPg s
      = .next (s.after ((State.raise { u with pwr := { u.pwr with vid := u.pwr.level, dvfs := none } } FID_PWR_DVFS_PG).dvfsEnd d
          TIMEOUT)))

/-- The rows of the calendar (CALENDAR_PREP, CALENDAR_FIRE, CALENDAR_WAKE_LEAD, CALENDAR_SLOT_FREE; R45 to R51), of reference time
(REF_SYNC edges, missed samples, the low-power ratio; R36 to R43) and of the timer channels (R61 to R69) complete. Where the spec
is silent the equations rest on readings of the model: notes/assumptions/8.md, 9.md, 29.md, 85.md, 86.md, 88.md, 148.md, 149.md,
150.md, 152.md, 166.md. -/
def Obligations.CalendarAndTimerRowsComplete : Prop :=
  (∀ (s u v : State) (rising stepped : Bool) (t : Nat), u = (s.advance t).tmrInput 0x29 rising → u.awake = true →
    u.time.running = true → u.flag TIME_CTRL_REF_EN = true → rising ≠ u.flag TIME_CTRL_REF_EDGE → u.refEdge = (v, stepped) →
    exec (.refSyncEdge rising t) s = .next (s.after (if stepped then v.calStepped u.time.ref else v))) ∧
  (∀ (s u : State) (rising : Bool) (t : Nat), u = (s.advance t).tmrInput 0x29 rising → u.flag TIME_CTRL_REF_EN = false →
    exec (.refSyncEdge rising t) s = .next (s.after u)) ∧
  (∀ (s u v : State), s.time.servo = .locked → s.time.running = true →
    u = s.advanceRef (s.time.dueBase + s.refPeriod + s.refPeriod / 4) →
    v = { u with time := { u.time with missed := u.time.missed + 1, dueBase := u.time.dueBase + s.refPeriod } } →
    v.time.servo = .locked →
    exec .expectedSampleMissed s
      = .next (s.after (if max 1 (v.get TIME_CTRL_MISS_LIMIT) ≤ u.time.missed + 1 then (v.setServo .holdover).raise FID_REF_LOST
          else v))) ∧
  (∀ (s u : State) (ratio rcRatio : BitVec 32) (crystal : Bool) (t : Nat), u = s.advance t → u.time.running = true →
    exec (.lpRatioUpdate ratio rcRatio crystal t) s
      = .next (s.after (
          let v : State := { u with time := { u.time with
            lpRatio := ratio.toNat, rcRatio := rcRatio.toNat, lpxOk := crystal, rcNow := !crystal } }
          if u.time.lpxOk && !crystal then v.raise FID_SYS_LPX else v))) ∧
  (∀ (s : State) (n : Fin 64) (c : CalSlot), s.calWaiting n.val = some c → c.hasPrep = true → c.prepDone = false →
    s.inP0 = true →
    exec (.calendarPrep n) s
      = .next (s.after (((s.advanceRef (c.time - Config.usTicks * c.prepLead)).toEdge).calPrep n.val c))) ∧
  (∀ (s u : State) (n : Fin 64) (c : CalSlot), s.calWaiting n.val = some c → s.inP0 = true →
    u = (s.advanceRef c.time).toEdge → u.inP0 = true →
    exec (.calendarFire n) s
      = .next (s.after ((((List.range n.val).filter fun k =>
          (u.calWaiting k).any fun o => o.target == c.target && o.time ≤ u.refNow) ++ [n.val]).foldl
          (fun s n => s.calFire n false false) u))) ∧
  (∀ (s u : State) (n : Fin 64) (c : CalSlot), s.calWaiting n.val = some c → s.inP0 = false → c.wake = false →
    c.target ≠ 4 → c.target ≠ 1 → u = (s.advanceRef c.time).toEdge → u.inP0 = false →
    exec (.calendarFire n) s = .next (s.after (u.calMiss n.val c))) ∧
  (∀ (s : State) (n : Fin 64) (c : CalSlot), s.calWaiting n.val = some c → c.wake = true → c.woken = false →
    c.target ≠ 4 → c.target ≠ 1 → s.awake = false →
    exec (.calendarWakeLead n) s
      = .next (s.after (((s.advanceRef (c.time - Config.usTicks *
          (if s.pwr.st == .p4 then s.get TIME_CAL_CFG_WAKE_LEAD_P4_US else s.get TIME_CAL_CFG_WAKE_LEAD_US))).setCalSlot n.val
          (some { c with woken := true })).wakeSource 6 n.val true))) ∧
  (∀ (s : State) (n : Fin 64) (c : CalSlot), n.val < 56 → s.calSlot n.val = some c → c.ownerFrees = false →
    c.periodic = false → c.fired = true → c.duration ≠ 0 → c.stopAt = none →
    exec (.calendarSlotFree n) s = .next (s.after ((s.advanceRef (c.time + tenthTicks c.duration)).calFree n.val))) ∧
  (∀ (s : State) (n : Fin 64) (c : CalSlot) (x : Nat), n.val < 56 → s.calSlot n.val = some c → c.ownerFrees = false →
    c.periodic = true → c.stopAt = some x →
    exec (.calendarSlotFree n) s
      = .next (s.after (((s.advanceRef x).urxStopMask (c.arg % 16) 1).setCalSlot n.val (some { c with stopAt := none })))) ∧
  (∀ (s : State) (m : Master) (mask : BitVec 16), s.reaches m TMR_START.addr = true →
    exec (.tmrStart m mask) s
      = .next (s.after (s.tmrStartMask mask.toNat))) ∧
  (∀ (s u : State) (n : Fin 16) (rising : Bool) (t : Nat), u = s.advance t → isGpio (u.get (TMR_CH_TRIG_TRG_SEL n)) = true →
    exec (.tmrTrigger n rising t) s = .next (s.after (u.tmrInput (u.get (TMR_CH_TRIG_TRG_SEL n)) rising))) ∧
  (∀ (s u v : State) (n : Fin 16) (o : List TrgEdge), u = s.tmrSync n → u.tmrRuns n = true → u.get (TMR_CH_CTRL_CLK n) ≠ 3 →
    ((u.wait (u.tmrTicks n (u.tmrTop n + 1 - u.pairVal n TMR_CH_CNT))).tmrSync n).tmrUpdated n 0 = (v, o) →
    exec (.tmrUpdate n) s = .next (s.after (v.tmrOuts n o))) ∧
  (∀ (s u v w x : State) (n : Fin 16) (k : Nat), u = s.tmrSync n → u.tmrRuns n = true → u.tmrToMatch n = some k →
    ¬ (u.get (TMR_CH_CTRL_CLK n) = 3 ∧ k ≠ 0) → v = (u.wait (u.tmrTicks n k)).tmrSync n → w = v.put (TMR_CH_STATUS_CMPF n) 1 →
    x = w.setTmrCh n { v.tmrCh n with cmpArmed := false } →
    exec (.tmrCompare n) s = .next (s.after (x.tmrOuts n (x.tmrPulse n 3)))) ∧
  (∀ (s u : State) (n : Fin 16) (rising : Bool) (t : Nat), u = s.advance t → isGpio (u.get (TMR_CH_TRIG_CAP_SEL n)) = true →
    exec (.tmrCapture n rising t) s = .next (s.after (u.tmrInput (u.get (TMR_CH_TRIG_CAP_SEL n)) rising))) ∧
  (∀ (s : State) (m : Master) (n : Fin 16), s.readable m (TMR_CH_CAP n).addr = true →
    exec (.tmrCapRead m n) s
      = .next (s.after ((s.readBack m (s.readAt m (TMR_CH_CAP n).addr).1).readAt m (TMR_CH_CAP n).addr).2))

/-- The rows of register and memory access complete (R9 to R12, R20, R44, R80, R472, R488 to R490, R590). Where the spec is silent
the equations rest on readings of the model: notes/assumptions/30.md, 31.md, 33.md, 34.md, 35.md, 48.md, 49.md, 145.md, 146.md. -/
def Obligations.RegisterRowsComplete : Prop :=
  (∀ (s : State) (m : Master) (a : BitVec 32) (w : Nat), w = a.toNat - a.toNat % 4 → s.readable m w = true →
    exec (.lowWordRead m a) s = .next (s.after ((s.readBack m (addressedPart a.toNat (s.readAt m w).1)).readAt m w).2)) ∧
  (∀ (s : State) (m : Master) (a : BitVec 32) (w : Nat), w = a.toNat - a.toNat % 4 → s.readable m w = true →
    exec (.rcRegisterRead m a) s = .next (s.after ((s.readBack m (addressedPart a.toNat (s.readAt m w).1)).readAt m w).2)) ∧
  (∀ (s : State) (m : Master) (a : BitVec 32) (v : Word) (b o : Nat), s.awake = true → s.silent m = false →
    s.busOutcome m a.toNat 1 = .ok → a.toNat % 4 = 0 → blockOf a.toNat = some (b, o) → s.fenced b = false →
    exec (.registerWrite m a v .word) s = .next (s.after (s.writeReg m b o v.toNat))) ∧
  (∀ (s : State) (m : Master) (a : BitVec 32) (v : Word) (n : AccSize), s.awake = true → s.silent m = false →
    s.busOutcome m a.toNat 1 = .ok → a.toNat % accBytes n = 0 → blockOf a.toNat = none →
    exec (.registerWrite m a v n) s = .next (s.after (s.writeMemAt a.toNat (accBytes n) v.toNat))) ∧
  (∀ (s : State) (m : Master) (b : Fin 23) (en : Bool), hasEn b.val = true → s.reaches m (enField b.val).addr = true →
    exec (.unitEnWrite m b en) s = .next (s.after (s.writeEn b.val en))) ∧
  (∀ (s : State) (b : Fin 23) (t : Nat), s.awake = true →
    exec (.startingDone (.block b) t) s = .next (s.after ((s.advance t).unitStarted b))) ∧
  (∀ (s : State) (w : Fin 4) (t : Nat), s.awake = true →
    exec (.startingDone (.window w) t) s = .next (s.after ((s.advance t).winStarted w))) ∧
  (∀ (s : State) (n : Fin 12) (t : Nat), s.awake = true →
    exec (.startingDone (.channel n) t) s = .next (s.after ((s.advance t).lfStarted n))) ∧
  (∀ (s : State) (m : Master) (p : List Byte), s.takesReg m 0x04 = true →
    exec (.regRead m p) s
      = .next (s.after ((regReadRun m p s).1.answer m 0x04 none (regReadRun m p s).2.1 (regReadRun m p s).2.2))) ∧
  (∀ (s : State) (m : Master) (p : List Byte), s.takesReg m 0x05 = true →
    exec (.regWrite m p) s
      = .next (s.after ((regWriteRun m p s).1.answer m 0x05 none (regWriteRun m p s).2.1 (regWriteRun m p s).2.2))) ∧
  (∀ (s : State) (m : Master) (p : List Byte), s.takesReg m 0x06 = true →
    exec (.regModify m p) s
      = .next (s.after ((regModifyRun m p s).1.answer m 0x06 none (regModifyRun m p s).2.1 (regModifyRun m p s).2.2)))

/-- The host commands of SYS and PWR complete (R484 to R486, R535, R537 to R542): each reply, and each register that the command
sets. Where the spec is silent the equations rest on readings of the model: notes/assumptions/66.md, 68.md, 77.md, 78.md, 132.md.
-/
def Obligations.SystemCommandsComplete : Prop :=
  (∀ (s t : State) (m : Master) (p : List Byte) (c : Option ReqCtx), s.comes m 0x01 p c t → p.length = 0 →
    exec (.getId m p) s = .next (s.after (t.answer m 0x01 c OK t.idBytes))) ∧
  (∀ (s t : State) (m : Master) (p : List Byte) (c : Option ReqCtx), s.comes m 0x02 p c t → p.length = 0 →
    exec (.getStatus m p) s = .next (s.after (t.answer m 0x02 c OK t.statusBytes))) ∧
  (∀ (s t u : State) (m : Master) (p : List Byte) (c : Option ReqCtx), s.comes m 0x10 p c t → p.length = 20 → u8 p 0 < 16 →
    u8 p 1 < 2 → bitAt (u8 p 1) 0 = 0 → u16 p 2 < 0x1000 → bitAt (u16 p 2) 0 = 0 → bitAt (u16 p 2) 3 = 0 → bitsAt (u32 p 12) 0 2 ≠ 3 →
    reservedBits (regFields 1 (offOf PWR_WAKE_CFG)) (u32 p 12) = false → within 1000 2000 (u16 p 16) = true →
    zeroAt p 18 2 = true → t.flag PWR_CTRL_LOCK = false →
    u = ((((((((t.put PWR_POLICY_ALLOW (u8 p 0)).put PWR_WAKE_EN (u16 p 2)).put PWR_IDLE0_IDLE_P1_US (u16 p 4)).put
      PWR_IDLE0_IDLE_P2_MS (u16 p 6)).put PWR_IDLE1_IDLE_P3_MS (u16 p 8)).put PWR_IDLE1_IDLE_P4_S (u16 p 10)).put
      PWR_WAKE_CFG (u32 p 12)).put PWR_BUDGET_BUDGET_MW (u16 p 16)) →
    exec (.pwrSetPolicy m p) s = .next (s.after (u.answer m 0x10 c OK [byte (u.get PWR_POLICY_ALLOW)]))) ∧
  (∀ (s t : State) (m : Master) (p : List Byte) (c : Option ReqCtx), s.comes m 0x11 p c t → p.length = 4 →
    within 2 4 (u8 p 0) = true → zeroAt p 1 3 = true → t.wakePending = false → t.pwr.entry = none → t.refusers (u8 p 0) = 0 →
    exec (.pwrEnter m p) s
      = .next (s.after (State.answer { t with pwr := { t.pwr with
          entry := some { target := u8 p 0, step := 1 }
          enterWait := some { target := u8 p 0, at_ := t.time.now, port := (c.map (·.port)).getD 0 } } }
          m 0x11 c OK (le 4 0)))) ∧
  (∀ (s t : State) (m : Master) (p : List Byte) (c : Option ReqCtx), s.comes m 0x12 p c t → p.length = 1 → u8 p 0 = 0 →
    exec (.pwrGetStats m p) s
      = .next (s.after (t.answer m 0x12 c OK ([byte t.pwr.level, byte (t.get PWR_LAST_WAKE_SOURCE),
          byte (t.get PWR_LAST_WAKE_DETAIL), byte (t.get PWR_LAST_WAKE_LEFT), byte (t.get PWR_WAKE_FAIL),
          byte (bit01 t.pwr.reduced + 2 * bit01 t.pwr.list + 4 * bit01 (t.pwr.padsHeld != 0)), 0, 0] ++ le 4 t.pwr.lastAsleepMs
          ++ le 4 t.pwr.lastWakeUncert ++ ((List.range 5).flatMap fun k => le 4 (t.residMs k))
          ++ ((List.range 4).flatMap fun k => le 4 (t.get (PWR_ENTRIES (k + 1)))) ++ le 2 (t.used4 / 4)
          ++ le 2 (t.get PWR_BUDGET_STAT_PEAK_MW))))) ∧
  (∀ (s t : State) (m : Master) (p : List Byte) (c : Option ReqCtx), s.comes m 0x14 p c t → p.length = 4 →
    within 1 3 (u8 p 0) = true → zeroAt p 1 3 = true → t.pwr.reduced = false → t.pwr.dvfs = none →
    exec (.pwrSetDvfs m p) s
      = .next (s.after (t.dvfsStart { target := u8 p 0, at_ := t.time.now, master := m, ctx := c }))) ∧
  (∀ (s t : State) (m : Master) (p : List Byte) (c : Option ReqCtx), s.comes m 0x15 p c t → p.length = 4 → zeroAt p 1 3 = true →
    exec (.pwrSetRetain m p) s
      = .next (s.after ((t.put PWR_RET_CFG_RETAIN_MASK (u8 p 0)).answer m 0x15 c OK
          [byte ((t.put PWR_RET_CFG_RETAIN_MASK (u8 p 0)).get PWR_RET_CFG_RETAIN_MASK), byte (bit01 t.pwr.list)]))) ∧
  (∀ (s : State) (m : Master) (v : BitVec 3), s.reaches m PWR_CMD.addr = true →
    exec (.pwrCmdEnter m v) s = .next (s.after (s.enterNow v.toNat))) ∧
  (∀ (s : State) (t : Nat), s.isWorker = true → s.linkUp = true →
    exec (.wlClkAbsent t) s = .next (s.after ((s.advance t).enterNow 3)))

/-- The host commands of TIME and TMR complete (R57 to R59, R70, R71): each reply, and what the command sets. Where the spec is
silent the equations rest on readings of the model: notes/assumptions/8.md, 85.md, 89.md, 148.md, 151.md, 166.md. -/
def Obligations.TimeCommandsComplete : Prop :=
  (∀ (s t : State) (m : Master) (p : List Byte) (c : Option ReqCtx), s.comes m 0x20 p c t → p.length = 0 →
    t.time.servo = .locked →
    exec (.timeGet m p) s
      = .next (s.after (t.answer m 0x20 c OK (le 8 t.refNow ++ le 8 t.devNow ++ [byte t.quality, 2, 0, 0]
          ++ le 4 (t.get TIME_PHASE_ERR) ++ le 4 (satSigned 32 t.time.rateNow) ++ le 4 t.uncert ++ le 4 0)))) ∧
  (∀ (s t : State) (m : Master) (p : List Byte) (c : Option ReqCtx), s.comes m 0x20 p c t → p.length = 0 →
    t.time.servo = .holdover →
    exec (.timeGet m p) s
      = .next (s.after (t.answer m 0x20 c OK (le 8 t.refNow ++ le 8 t.devNow ++ [byte t.quality, 3, 0, 0]
          ++ le 4 (t.get TIME_PHASE_ERR) ++ le 4 (satSigned 32 t.time.rateNow) ++ le 4 t.uncert
          ++ le 4 (satNat 32 ((t.time.dev - t.time.holdAt) / Config.msTicks)))))) ∧
  (∀ (s t : State) (m : Master) (p : List Byte) (e : Nat) (c : Option ReqCtx), s.comes m 0x21 p c t → p.length = 16 →
    u8 p 0 = 0 → zeroAt p 1 7 = true → t.flag TIME_CTRL_REF_EN = true → t.edgeThisCycle = false →
    exec (.timeSetRef m p e) s
      = .next (s.after (State.answer { t with time := { t.time with pulseRef := some (u64 p 8) } } m 0x21 c OK
          ([2, 0, 0, 0] ++ le 4 (satSigned 32 (nsOfTicksI 0)))))) ∧
  (∀ (s t u : State) (m : Master) (p : List Byte) (e : Nat) (d : Int) (stepped : Bool) (c : Option ReqCtx),
    s.comes m 0x21 p c t → p.length = 16 → u8 p 0 = 1 → zeroAt p 1 7 = true →
    t.refAssigned (u64 p 8) (min e t.time.now - (t.time.dev - (t.time.now - min e t.time.now)) % 8) false = (u, stepped, d) →
    u.flag TIME_CTRL_REF_EN = true →
    exec (.timeSetRef m p e) s
      = .next (s.after ((if stepped then u.calStepped t.time.ref else u).answer m 0x21 c OK
          ([byte (if stepped then 0 else 1), 0, 0, 0] ++ le 4 (satSigned 32 (nsOfTicksI d)))))) ∧
  (∀ (s t u : State) (m : Master) (p : List Byte) (e q : Nat) (x : Int) (stepped : Bool) (c : Option ReqCtx),
    s.comes m 0x21 p c t → p.length = 16 → u8 p 0 = 2 → zeroAt p 1 7 = true → t.flag TIME_CTRL_SAMPLE_EN = true →
    t.flag TIME_CTRL_REF_EN = true → t.forcedMode 5 = false → t.time.servo = .locked →
    q = min e t.time.now - (t.time.dev - (t.time.now - min e t.time.now)) % 8 → t.edgeUsed (t.time.dev - (t.time.now - q)) = false →
    x = (t.refAt q : Int) - (u64 p 8 : Nat) → t.acceptSample x false none = (u, stepped) →
    exec (.timeSetRef m p e) s
      = .next (s.after ((if stepped then u.calStepped t.time.ref else u).answer m 0x21 c OK
          ([byte (if stepped then 0 else 1), 0, 0, 0] ++ le 4 (satSigned 32 (nsOfTicksI (-x))))))) ∧
  (∀ (s t : State) (m : Master) (p : List Byte) (x : CalSlot) (c : Option ReqCtx), s.comes m 0x22 p c t → x = askedSlot p →
    firstFail [lenIs p 28, paramOk (u8 p 0 < 64 || u8 p 0 = 0xFF), paramOk (x.target ≤ 0x16), paramOk (u8 p 3 < 8 && x.resources < 8),
      paramOk (zeroAt p 5 1), paramOk (x.prepLead ≤ 10000), paramOk (!x.periodic || x.period ≠ 0),
      paramOk (!(x.exclusive && x.duration = 0)), paramOk (actionDefined x.target x.action x.arg),
      paramOk (s.refNow + Config.usTicks * (x.prepLead + 10) ≤ x.time)] = none →
    u8 p 0 ≠ 0xFF → ¬ 56 ≤ u8 p 0 → t.calSlot (u8 p 0) = none → conflictIn x t.cal 0 = none →
    exec (.timeCalAdd m p) s
      = .next (s.after (((t.setCalSlot (u8 p 0) (some x)).calRadioAdded x).answer m 0x22 c OK [byte (u8 p 0)]))) ∧
  (∀ (s t : State) (m : Master) (p : List Byte) (x : CalSlot) (k : Nat) (c : Option ReqCtx), s.comes m 0x22 p c t →
    x = askedSlot p →
    firstFail [lenIs p 28, paramOk (u8 p 0 < 64 || u8 p 0 = 0xFF), paramOk (x.target ≤ 0x16), paramOk (u8 p 3 < 8 && x.resources < 8),
      paramOk (zeroAt p 5 1), paramOk (x.prepLead ≤ 10000), paramOk (!x.periodic || x.period ≠ 0),
      paramOk (!(x.exclusive && x.duration = 0)), paramOk (actionDefined x.target x.action x.arg),
      paramOk (s.refNow + Config.usTicks * (x.prepLead + 10) ≤ x.time)] = none →
    u8 p 0 = 0xFF → t.freeSlot = some k → t.calSlot k = none → conflictIn x t.cal 0 = none →
    exec (.timeCalAdd m p) s
      = .next (s.after (((t.setCalSlot k (some x)).calRadioAdded x).answer m 0x22 c OK [byte k]))) ∧
  (∀ (s t u v : State) (m : Master) (p : List Byte) (n ctrl trig : Nat) (c : Option ReqCtx), s.comes m 0x24 p c t → n = u8 p 0 →
    ctrl = u32 p 4 → trig = u32 p 8 →
    firstFail [lenIs p 32, paramOk (n < 16), paramOk (zeroAt p 1 3), paramOk (ctrl < 2048), paramOk (bitsAt ctrl 3 3 ≤ 4),
      paramOk (!(bitAt ctrl 6 == 1) || n % 2 == 0), paramOk (!s.chainHigh n), paramOk (trig < 2 ^ 17),
      paramOk (selOk n (bitsAt trig 0 6) && selOk n (bitsAt trig 8 6)),
      paramOk (bitsAt trig 6 2 < 3 && bitsAt trig 14 2 < 3), paramOk (u32 p 12 < 2 ^ 16),
      paramOk (if bitAt ctrl 6 == 1 then u64 p 16 ≠ 0 else u32 p 20 = 0 && u32 p 28 = 0)] = none →
    t.flag (TMR_CH_CTRL_EN n) = false → ¬ (bitAt ctrl 6 = 1 ∧ t.flag (TMR_CH_CTRL_EN (n + 1)) = true) →
    u = (((((t.tmrChange n fun q => q.put (TMR_CH_CTRL n) (ctrl - bitAt ctrl 0)).put (TMR_CH_TRIG n) trig).put (TMR_CH_PSC n)
      (u32 p 12)).setPair n TMR_CH_TOP (u64 p 16)).setPair n TMR_CH_CMP (u64 p 24)) →
    v = u.setTmrCh n { u.tmrCh n with cmpArmed := true, lowTop := none, lowCmp := none, frac := 0 } →
    exec (.tmrConfig m p) s = .next (s.after ((v.tmrEnable n (bitAt ctrl 0 == 1)).answer m 0x24 c OK []))) ∧
  (∀ (s t : State) (m : Master) (p : List Byte) (n k : Nat) (c : Option ReqCtx), s.comes m 0x25 p c t → n = u8 p 0 → p.length = 1 →
    n < 16 → k = t.tmrOwner n →
    exec (.tmrRead m p) s
      = .next (s.after ((t.capRead k).answer m 0x25 c OK
          (le 8 (t.tmrCount k) ++ le 8 (t.capVal k) ++ le 4 (t.tmrStatusWord n)))))

/-- The host commands and register writes of LF complete (R94, R108, R111 to R118): each reply, and what the command sets or
starts. Where the spec is silent the equations rest on readings of the model: notes/assumptions/41.md, 91.md, 92.md, 94.md,
138.md, 140.md, 141.md, 142.md, 168.md. -/
def Obligations.LfCommandsComplete : Prop :=
  (∀ (s t u v : State) (m : Master) (p : List Byte) (n : Nat) (c : Option ReqCtx), s.comes m 0x30 p c t → n = u8 p 0 → n ≠ 0xFF →
    firstFail [lenIs p 8, paramOk (n < 12 && u8 p 1 < 2 && u8 p 2 < 16 && ilimOk n (u16 p 4)),
      paramOk (if n < 4 then within 10 1000 (u16 p 6) else u16 p 6 = 0)] = none →
    t.flag LF_CTRL_LOCK = false →
    u = (((t.stage t.lfQuiet 4 (LF_CH_CTRL_RAMP_CYC n) (u8 p 2)).stage t.lfQuiet 4 (LF_CH_CTRL_PHASE_TRIM n) (u8 p 3)).stage
      t.lfQuiet 4 (LF_CH_ILIM_ILIM_MA n) (u16 p 4)).stage t.lfQuiet 4 (LF_CH_ILIM_SENSE_MOHM n) (u16 p 6) →
    v = u.lfEnable n (u8 p 1 = 1) →
    exec (.lfConfigCh m p) s = .next (s.after (v.answer m 0x30 c OK [byte (v.lfChan n).code]))) ∧
  (∀ (s t u v : State) (m : Master) (p : List Byte) (c : Option ReqCtx), s.comes m 0x30 p c t → u8 p 0 = 0xFF →
    firstFail [lenIs p 16, paramOk (u8 p 1 < 2 && zeroAt p 2 2 && zeroAt p 14 2), paramOk (within 20000 140000 (u32 p 4)),
      paramOk (within 125 1000 (u16 p 10)), paramOk (u8 p 12 < 32 && (u8 p 13 < 32 || u8 p 13 = 0xFF))] = none →
    t.flag LF_CTRL_LOCK = false → u8 p 13 = 0xFF →
    u = ((((t.stage t.lfQuiet 4 LF_CARRIER_FREQ_HZ (u32 p 4)).stage t.lfQuiet 4 LF_TEL_CFG_WAKE_ID (u16 p 8)).stage
      t.lfQuiet 4 LF_TEL_CFG_PREBURST_CYC (u16 p 10)).stage t.lfQuiet 4 LF_TEL_PAT_TEL_PAT (u8 p 12)).stage
      t.lfQuiet 4 LF_TEL_PAT_ALT_EN (bit01 (u8 p 13 != 0xFF)) →
    v = u.lfBlockEnable (u8 p 1 = 1) →
    exec (.lfConfigCh m p) s = .next (s.after (v.answer m 0x30 c OK [byte (v.unit 4).code]))) ∧
  (∀ (s t : State) (m : Master) (p : List Byte) (x : List LfEntry) (c : Option ReqCtx), s.comes m 0x31 p c t →
    x = (List.range (u8 p 2)).map (patEntry p) →
    firstFail [lenIs p 20, paramOk (u8 p 0 < 32 && u8 p 1 < 2 && u8 p 2 ≤ 4 && zeroAt p 3 1
        && zeroAt p (4 + 4 * u8 p 2) (4 * (4 - u8 p 2))), paramOk (noDup (x.map (·.ch)) && x.all s.entryOk)] = none →
    t.zone.map = none → u8 p 2 ≠ 0 → t.lfQuiet = true →
    exec (.lfPatternDef m p) s
      = .next (s.after (State.answer { t with lf := { t.lf with pats := t.lf.pats.set (u8 p 0) x } } m 0x31 c OK []))) ∧
  (∀ (s t u : State) (m : Master) (p : List Byte) (k : Nat) (c : Option ReqCtx), s.comes m 0x32 p c t →
    firstFail [lenIs p 28, paramOk (u8 p 0 < 3 && u8 p 1 < 4 && u8 p 2 ≤ 16 && (u8 p 0 != 2 || 1 ≤ u8 p 2) && zeroAt p 3 1),
      paramOk (bitAt (u8 p 1) 1 = 1 || u64 p 4 = 0),
      paramOk (((List.range (u8 p 2)).map fun k => u8 p (12 + k)).all (· < 32) && zeroAt p (12 + u8 p 2) (16 - u8 p 2)),
      paramOk (!(bitAt (u8 p 1) 1 = 1) || 100 * Config.usTicks + s.time.ref ≤ u64 p 4)] = none →
    u8 p 0 ≠ 0 → t.sys.role = 0 →
    t.lfQueue {
      id := 0, typ := u8 p 0, pats := (List.range (u8 p 2)).map (fun k => u8 p (12 + k)), preempt := bitAt (u8 p 1) 0 = 1
      atTime := if bitAt (u8 p 1) 1 = 1 then some (u64 p 4) else none, nb := none } = (u, ACCEPTED, k) →
    exec (.lfSend m p) s = .next (s.after (u.answer m 0x32 c ACCEPTED (le 2 k)))) ∧
  (∀ (s t : State) (m : Master) (p : List Byte) (c : Option ReqCtx), s.comes m 0x33 p c t →
    firstFail [lenIs p 36, paramOk (within 100 2000 (u16 p 0) && u8 p 2 < 32 && u8 p 3 < 16),
      paramOk (within 100 5000 (u16 p 4) && within 500 10000 (u16 p 6)), paramOk (1 ≤ u8 p 9),
      paramOk (u16 p 0 ≤ u16 p 10 && u16 p 10 ≤ 8000), paramOk (within 1 63 (u8 p 12) && u8 p 13 < 32 && u8 p 14 ≤ 16),
      paramOk (zeroAt p 15 1 && zeroAt p 32 4 && ((List.range (u8 p 14)).map fun k => u8 p (16 + k)).all (· < 32)
        && zeroAt p (16 + u8 p 14) (16 - u8 p 14))] = none →
    t.patDefined (u8 p 2) = true → ((List.range (u8 p 14)).map fun k => u8 p (16 + k)).all t.patDefined = true →
    exec (.lfPollConfig m p) s = .next (s.after ((t.pollStage (pollChanges p)).answer m 0x33 c OK []))) ∧
  (∀ (s t u : State) (m : Master) (p : List Byte) (c : Option ReqCtx), s.comes m 0x34 p c t → p.length = 0 → t.sys.role = 0 →
    t.pollStart = (u, OK) →
    exec (.lfPollStart m p) s = .next (s.after (u.answer m 0x34 c OK [byte u.pstate]))) ∧
  (∀ (s t : State) (m : Master) (p : List Byte) (c : Option ReqCtx), s.comes m 0x35 p c t → p.length = 0 →
    exec (.lfPollStop m p) s = .next (s.after (t.pollStop.answer m 0x35 c OK [byte t.pollStop.pstate]))) ∧
  (∀ (s t u : State) (m : Master) (p : List Byte) (d : LfDiag) (c : Option ReqCtx), s.comes m 0x36 p c t →
    firstFail [lenIs p 8, paramOk (u16 p 0 < 4096), paramOk (within 1 7 (u8 p 2) && zeroAt p 3 1),
      paramOk ((u16 p 4 = 0 || within 1000 20000 (u16 p 4)) && (u16 p 6 = 0 || within 100 5000 (u16 p 6)))] = none →
    t.lf.diag = none → t.padHeld 1 = false → t.padHeld 2 = false → t.safeState = false → t.pwr.reduced = false → t.unit 4 = .on →
    t.lfRangeOk (t.get LF_CARRIER_FREQ_HZ) = true → t.sys.region.ok = true →
    d = { id := t.lf.diagId, chmask := u16 p 0, tests := u8 p 2, span := if u16 p 4 = 0 then 10000 else u16 p 4,
          step := if u16 p 6 = 0 then 500 else u16 p 6 } → t.fits (t.diagCharge d) = true →
    u = { t with lf := { t.lf with diag := some d, diagId := (t.lf.diagId + 1) % 0x10000 } } →
    exec (.lfDiag m p) s = .next (s.after ((u.withdraw 4).answer m 0x36 c ACCEPTED (le 2 t.lf.diagId)))) ∧
  (∀ (s t : State) (m : Master) (p : List Byte) (c : Option ReqCtx), s.comes m 0x37 p c t → p.length = 4 → u8 p 0 = 0 →
    u8 p 1 = 0 → within 56 5156 (u16 p 2) = true →
    exec (.lfMapLoad m p) s
      = .next (s.after ((t.modZone fun z => { z with stage := some (u16 p 2, []) }).answer m 0x37 c OK []))) ∧
  (∀ (s t : State) (m : Master) (p b : List Byte) (n : Nat) (c : Option ReqCtx), s.comes m 0x37 p c t → u8 p 0 = 1 →
    5 ≤ p.length → p.length ≤ 244 → u8 p 1 = 0 → t.zone.stage = some (n, b) → u16 p 2 = b.length →
    ¬ n < b.length + (p.length - 4) →
    exec (.lfMapLoad m p) s
      = .next (s.after ((t.modZone fun z => { z with stage := some (n, b ++ p.drop 4) }).answer m 0x37 c OK
          (le 2 (b ++ p.drop 4).length)))) ∧
  (∀ (s t : State) (m : Master) (p b : List Byte) (n : Nat) (c : Option ReqCtx), s.comes m 0x37 p c t → p.length = 4 →
    u8 p 0 = 2 → u8 p 1 = 0 → zeroAt p 2 2 = true → t.zone.stage = some (n, b) → ¬ b.length < n → t.mapWriting = false →
    mapCrcOk b = true → mapFieldsOk b = true → (parseMap b).pats.all t.patDefined = true →
    exec (.lfMapLoad m p) s
      = .next (s.after ((((t.modZone fun z => { z with stage := none, pend := some (parseMap b, b), written := false }).put ZONE_STATUS_MAP_PENDING
          1).withdraw 8).answer m 0x37 c ACCEPTED (le 4 (parseMap b).id)))) ∧
  (∀ (s t : State) (m : Master) (p : List Byte) (c : Option ReqCtx), s.comes m 0x37 p c t → p.length = 4 → u8 p 0 = 3 →
    u8 p 1 = 0 → zeroAt p 2 2 = true →
    exec (.lfMapLoad m p) s = .next (s.after ((t.modZone fun z => { z with stage := none }).answer m 0x37 c OK []))) ∧
  (∀ (s : State) (m : Master) (v : Word), s.reaches m (LF_HNONCE 3).addr = true →
    exec (.lfHnonce3Write m v) s = .next (s.after (s.nonceWord 3 v))) ∧
  (∀ (s : State) (m : Master), s.reaches m LF_POLL_CMD.addr = true → exec (.kick m) s = .next (s.after s.pollKick)) ∧
  (∀ (s : State) (m : Master), s.reaches m LF_POLL_CMD.addr = true → exec (.nonceClr m) s = .next (s.after s.nonceClear))

/-- The rows of LF transmission, polling and handle edges complete (R79, R91 to R99, R102 to R107, R117, R142, R143). Where the
spec is silent the equations rest on readings of the model: notes/assumptions/91.md, 92.md, 94.md, 138.md, 139.md, 141.md, 142.md,
162.md, 163.md, 167.md, 168.md. -/
def Obligations.LfRowsComplete : Prop :=
  (∀ (s u : State) (x : LfSend), s.unit 4 = .on → s.noRadio = false → s.nextSend s.lf.sends = some x → x.atTime = none →
    x.ready = true → u = (s.advanceRef (s.sendTime x)).burstOver [] → u.lfBusy = false →
    exec .lfSendStart s = .next (s.after (u.lfStart x))) ∧
  (∀ (s : State) (x : LfTx) (meas : List LfMeas), s.lf.tx = some x → x.kind < 2 →
    exec (.lfTxDone meas) s = .next (s.after ((s.advance x.stopAt).lfFinish OK meas))) ∧
  (∀ (s u : State) (x : CalSlot), s.pstate = 2 → s.calSlot 56 = some x →
    u = State.setBurst ((s.advanceRef x.time).burstOver []) (x.time + msOf ((s.advanceRef x.time).burstOver []).lf.period) →
    u.lfRangeOk (u.get LF_CARRIER_FREQ_HZ) = true → u.pollPat ≠ [] → u.lf.tx = none →
    u.exclusiveOver resLf u.refNow (cycTicks 250 (u.get LF_CARRIER_FREQ_HZ)) = false → u.windowFree 0 = true →
    exec (.pollBurst true) s = .next (s.after u.beginBurst)) ∧
  (∀ (s u : State) (t : Nat), s.pstate = 2 → s.lf.deferred = some t → u = (s.advanceRef t).burstOver [] → u.lf.tx = none →
    u.pollPat ≠ [] → u.lfRangeOk (u.get LF_CARRIER_FREQ_HZ) = true →
    exec .pollBurstDeferred s = .next (s.after u.beginBurst)) ∧
  (∀ (s u : State) (x : PollWindow), s.lf.window = some x → u = (s.advance (x.start - 150 * Config.usTicks)).burstOver [] →
    x.on = false → u.flag URX_SENT_CFG_EN = true → u.fenced 5 = false → u.urx.sentBad = false →
    exec .sentinelPowerUp s = .next (s.after (u.setWindow (some { x with on := true, sync := kapSync (u.get LF_TEL_CFG_WAKE_ID) })))) ∧
  (∀ (s u v w : State) (x : PollWindow) (frame : List Byte) (rssi : BitVec 16) (t b h : Nat), u = (s.advance t).burstOver [] →
    u.lf.window = some x → x.on = true → x.hit = none → b = u.time.now - u.sentBits (8 * frame.length) → ¬ b < x.start → ¬ x.stop < b → frame.length = 7 → u8 frame 0 = 0x40 →
    frameCrcOk frame = true → v = u.setWindow (some { x with busy := u.time.now }) →
    h = v.refAt b - v.get TIME_EXT_DLY_A % 2 ^ 16 →
    w = (((v.setWindow (some { x with hit := some (toSigned 16 (v.rssiAtAntenna rssi)), hitRef := h, busy := v.time.now })).put
      URX_SENT_STATUS_LAST_RSSI (v.rssiAtAntenna rssi)).bump LF_POLL_HITS).rssiAfter v.time.now →
    exec (.pollAnswer frame rssi t) s
      = .next (s.after ((w.eventAt h (v.qualityAt b) EV_LF_POLL_HIT (le 2 (v.rssiAtAntenna rssi) ++ (frame.drop 1).take 4 ++ le 2 w.lf.period
          ++ [byte w.lf.count])).wakeSource 5 0 true))) ∧
  (∀ (s u : State) (level : BitVec 16) (meas : List LfMeas), s.pollWindowEnd level meas = (u, none) →
    exec (.pollWindowEnd level meas) s = .next (s.after u)) ∧
  (∀ (s u : State) (level : BitVec 16) (meas : List LfMeas) (t : Nat), s.pollWindowEnd level meas = (u, some t) →
    exec (.pollWindowEnd level meas) s = .next (s.after (u.ewFire 0 t))) ∧
  (∀ (s u : State), s.pstate = 2 → u = s.advanceLp (s.lf.restartLp + s.get LF_POLL_CFG_STOP_DAYS * lpOfS 86400) →
    u.pollBusy = false → u.pstate ≠ 5 → exec .lfPollIdleStop s = .next (s.after u.idleStop)) ∧
  (∀ (s : State) (i : Fin 5) (high : Bool) (t : Nat),
    exec (.handleInEdge i high t) s = .next (s.after (((s.advance t).tmrInput (0x24 + i.val) high).handleEdge i high))) ∧
  (∀ (s u v : State) (i : Fin 5) (e : HandleEdge), s.handleQualified i = (u, some e) → v = u.ewFire 1 e.ref → v.awake = true →
    v.pwr.fwServing = true → exec (.handleQualified i) s = .next (s.after (v.authHandle e))) ∧
  (∀ (s u v : State) (i : Fin 5) (e : HandleEdge), s.handleQualified i = (u, some e) → v = u.ewFire 1 e.ref → v.awake = false →
    v.auth.edge = none →
    exec (.handleQualified i) s = .next (s.after (v.modAuth fun a => { a with edge := some e }))) ∧
  (∀ (s : State) (e : HandleEdge) (t : Nat), s.lf.htel = some e → s.lf.tx = none →
    exec (.lfHtelStart t) s = .next (s.after (s.htelBegin e (max (200 * Config.usTicks + e.at_) t) (s.burstAt e)))) ∧
  (∀ (s : State) (n : Fin 12) (t : Nat),
    exec (.lfOvercurrent n t) s
      = .next (s.after ((((s.advance t).put (LF_CH_STATUS_OVERCURRENT n) 1).lfLose n 1).raise FID_LF_OVERCURRENT n))) ∧
  (∀ (s : State) (t : Nat),
    exec (.lfVlf t) s
      = .next (s.after (((List.range 8).foldl (fun s k => s.lfLose (4 + k) 2) (s.advance t)).raise FID_LF_VLF))) ∧
  (∀ (s u : State) (t : Nat), u = s.advance t →
    exec (.vlfReturn t) s
      = .next (s.after { u with lf := { u.lf with unavail := u.lf.unavail.map fun c => if c &&& 2 = 0 then c else c - 2 } })) ∧
  (∀ (s : State) (x : LfTx) (meas : List LfMeas), s.lf.tx = some x → x.kind = 3 → x.cut ≠ none →
    exec (.lfTxDone meas) s = .next (s.after (((s.advance x.stopAt).lfDiagCut x).lfFinish OK meas))) ∧
  (∀ (s u v w : State) (x : LfDiag) (y : LfTx) (found : List LfFinding) (pairs tested : List (Nat × LfFinding)) (t : Nat),
    s.lf.diag = some x → s.lf.tx = some y → y.kind = 3 → y.cut = none → u = s.advance (max t y.stopAt) →
    pairs = ((List.range 12).filter fun n => bitAt x.chmask n = 1).zip found →
    tested = pairs.filter (fun q => bitAt x.tested q.1 == 1) →
    v = tested.foldl (fun s q => s.diagApply x (!(u.sweepPoints x y.freq).isEmpty) q.1 q.2) u →
    w = { v with lf := { v.lf with diag := none, tx := none } } →
    exec (.lfDiagDone found t) s
      = .next (s.after ((w.diagReport x (pairs.flatMap fun q => diagEntry x q.1 (bitAt x.tested q.1 == 0) q.2) pairs.length
          (sumNat (tested.map fun q => 2 ^ q.1))).lfChansOff.lfBoundary))) ∧
  (∀ (s u : State) (n : Fin 12) (temp : BitVec 8) (t : Nat), u = s.advance t → u.lf.calTemp.getD n none = none →
    exec (.lfCalDue n temp t) s = .next (s.after (u.lfCalMark n))) ∧
  (∀ (s u : State) (n : Fin 12) (k : Nat) (x : CalSlot) (temp : BitVec 8), s.lf.calDue.find? (·.1 == n.val) = some (n.val, some k) →
    s.calSlot k = some x → u = s.advanceRef (1000000 + x.time) → u.awake = true → u.fenced 4 = false → u.lfQuiet = true →
    exec (.lfCalDone n 0 temp) s = .next (s.after (u.lfCalEnd n true temp.toInt).calPlace.pollHeld) ∧
    exec (.lfCalDone n 1 temp) s = .next (s.after (u.lfCalEnd n false temp.toInt).calPlace.pollHeld))

/-- The host commands of URX complete (R159 to R161), in each form of URX_CONFIG. Where the spec is silent the equations rest on
readings of the model: notes/assumptions/95.md. -/
def Obligations.UrxCommandsComplete : Prop :=
  (∀ (s t : State) (m : Master) (p : List Byte) (w : Nat) (c : Option ReqCtx), s.comes m 0x40 p c t → u8 p 0 = 0 → w = u8 p 1 →
    firstFail [lenIs p 8, paramOk (w < 4 && u8 p 2 < 2 && u8 p 3 < 4 && u32 p 4 < 2 ^ 30),
      paramOk (u8 p 2 = 0 || windowFits (u32 p 4) (winWidth (u8 p 3)))] = none →
    ((List.range 16).any fun k => t.flag (URX_CH_CFG_EN (16 * w + k)) &&
      !offsetFits (toSigned 24 (t.get (URX_CH_OFS (16 * w + k)))) (chanBw (t.get (URX_CH_CFG_BW (16 * w + k)))) (winWidth (u8 p 3)))
      = false →
    exec (.urxConfig m p) s
      = .next (s.after ((((t.stage (!t.winInFrame w) (2000 + w) (URX_WIN_FREQ w) (u32 p 4)).stage (!t.winInFrame w) (2000 + w)
          (URX_WIN_CFG_CONF w) (u8 p 2)).stage (!t.winInFrame w) (2000 + w) (URX_WIN_CFG_WIDTH w) (u8 p 3)).answer m 0x40 c OK
          [byte ((((t.stage (!t.winInFrame w) (2000 + w) (URX_WIN_FREQ w) (u32 p 4)).stage (!t.winInFrame w) (2000 + w)
          (URX_WIN_CFG_CONF w) (u8 p 2)).stage (!t.winInFrame w) (2000 + w) (URX_WIN_CFG_WIDTH w) (u8 p 3)).win w).st.code]))) ∧
  (∀ (s t u : State) (m : Master) (p : List Byte) (n cfg fr : Nat) (q : Bool) (c : Option ReqCtx), s.comes m 0x40 p c t →
    u8 p 0 = 1 → n = u8 p 1 → cfg = u32 p 4 → fr = u32 p 24 →
    firstFail [lenIs p 28, paramOk (n < 64), (s.flag (URX_WIN_CFG_CONF (n / 16)), BAD_STATE),
      paramOk (zeroAt p 2 2 && bitsAt cfg 1 2 < 3 && bitsAt cfg 3 3 < 6 && bitsAt cfg 8 2 < 3 && bitsAt cfg 10 2 < 2
        && bitsAt cfg 13 3 = 0 && bitsAt cfg 23 9 = 0),
      paramOk (offsetFits (toSigned 32 (u32 p 8)) (chanBw (bitsAt cfg 3 3)) (winWidth (s.get (URX_WIN_CFG_WIDTH (n / 16))))),
      paramOk (demodOk (bitsAt cfg 1 2) (u32 p 12) (u32 p 16) (chanBw (bitsAt cfg 3 3)) && u32 p 16 < 2 ^ 18),
      paramOk (within 8 32 (bitsAt fr 0 6) && within 8 63 (bitsAt fr 8 6) && bitsAt fr 14 2 = 0 && within 1 255 (bitsAt fr 16 8)
        && bitsAt fr 24 8 = 0),
      paramOk (bitsAt cfg 8 2 ≠ 2 || (bitsAt fr 0 6 = 32 && bitsAt cfg 10 2 = 1))] = none →
    t.flag (QM_Q_CFG_EN (bitsAt cfg 16 7)) = true → q = true → (t.uch n).phase ≠ 2 →
    u = ((((((t.setUch n {}).stage q (1000 + n) (URX_CH_CFG n) cfg).stage q (1000 + n) (URX_CH_OFS n)
      (ofSigned 24 (toSigned 32 (u32 p 8)))).stage q (1000 + n) (URX_CH_RATE n) (u32 p 12)).stage q (1000 + n) (URX_CH_DEV n)
      (u32 p 16)).stage q (1000 + n) (URX_CH_SYNC n) (u32 p 20)).stage q (1000 + n) (URX_CH_FRAME n) fr →
    exec (.urxConfig m p) s = .next (s.after (u.answer m 0x40 c OK [byte (u.win (n / 16)).st.code]))) ∧
  (∀ (s t : State) (m : Master) (p : List Byte) (c : Option ReqCtx), s.comes m 0x40 p c t → u8 p 0 = 2 →
    firstFail [lenIs p 12, paramOk (zeroAt p 1 3), paramOk (within 300000000 1000000000 (u32 p 4)),
      paramOk (bitsAt (u32 p 8) 2 6 = 0 && within 20 120 (bitsAt (u32 p 8) 8 8) && within 1 15 (bitsAt (u32 p 8) 16 4)
        && bitsAt (u32 p 8) 20 12 = 0)] = none →
    exec (.urxConfig m p) s
      = .next (s.after (((t.put URX_SENT_FREQ (u32 p 4)).put URX_SENT_CFG (u32 p 8)).answer m 0x40 c OK [byte t.sentState]))) ∧
  (∀ (s t : State) (m : Master) (p : List Byte) (c : Option ReqCtx), s.comes m 0x40 p c t → u8 p 0 = 3 →
    firstFail [lenIs p 12, paramOk (zeroAt p 1 3 && bitsAt (u32 p 4) 24 8 = 0),
      paramOk (within 20 120 (bitsAt (u32 p 8) 0 8) && within 1 255 (bitsAt (u32 p 8) 8 8) && bitsAt (u32 p 8) 17 15 = 0)] = none →
    t.flag URX_CTRL_LOCK = false →
    exec (.urxConfig m p) s
      = .next (s.after ((((t.put URX_FEM_GAIN (u32 p 4)).put URX_JAM_CFG (u32 p 8)).jamArmed (t.flag URX_JAM_CFG_JAM_EN)).answer m 0x40 c OK
          [byte (t.unit 5).code]))) ∧
  (∀ (s t u : State) (m : Master) (p : List Byte) (c : Option ReqCtx), s.comes m 0x41 p c t → p.length = 1 → u8 p 0 < 16 →
    t.urxStartMask (u8 p 0) 0 none = (u, OK) →
    exec (.urxStart m p) s = .next (s.after (u.answer m 0x41 c OK u.winStates))) ∧
  (∀ (s t : State) (m : Master) (p : List Byte) (c : Option ReqCtx), s.comes m 0x42 p c t → p.length = 1 → u8 p 0 < 16 →
    exec (.urxStop m p) s
      = .next (s.after ((t.urxStopMask (u8 p 0) 0).answer m 0x42 c OK (t.urxStopMask (u8 p 0) 0).winStates))) ∧
  (∀ (s t : State) (m : Master) (p : List Byte) (g : Gather) (c : Option ReqCtx), s.comes m 0x47 p c t → p.length = 24 →
    u8 p 0 = 0 → u8 p 1 = 1 → u8 p 2 = 0 → u8 p 3 = 0 → u8 p 5 = 0 → zeroAt p 6 18 = true → t.urx.gather.st = 0 →
    t.urx.wins.any (·.st == .on) = true → t.fits (120 + if t.radioOn then 0 else 2240) = true →
    g = { st := 1, id := t.urx.gather.next, next := (t.urx.gather.next + 1) % 0x10000, source := 1, trigger := 0, arg := 0,
          pre := 0, armedAt := t.time.now, trigAt := some t.time.now } →
    exec (.rfCapture m p) s = .next (s.after (((t.setGather g).notePeak.withdraw 5).answer m 0x47 c ACCEPTED (le 2 g.id)))) ∧
  (∀ (s t : State) (m : Master) (p : List Byte) (c : Option ReqCtx), s.comes m 0x47 p c t → p.length = 24 → u8 p 0 = 2 →
    u8 p 1 = 0 → u8 p 2 = 0 → u8 p 3 = 0 → u8 p 4 = 0 → u8 p 5 = 0 → zeroAt p 6 18 = true →
    exec (.rfCapture m p) s = .next (s.after (t.cancelCapture.answer m 0x47 c OK [])))

/-- The rows of reception complete (R123, R128 to R130, R144, R147, R148). Where the spec is silent the equations rest on readings
of the model: notes/assumptions/16.md, 95.md, 104.md, 153.md, 169.md. -/
def Obligations.UrxRowsComplete : Prop :=
  (∀ (s u : State) (n : Fin 64) (bits more t : Nat), u = s.advance t → u.chanListens n = true → u.blanked = false →
    (u.uch n).phase = 0 → u.get (URX_CH_FRAME_PRE_MIN n) ≤ bits →
    exec (.preambleDetected n bits more t) s
      = .next (s.after (u.setUch n { phase := 1, at_ := u.time.now, preEnd := u.time.now + u.bitTicks n more }))) ∧
  (∀ (s : State) (n : Fin 64), (s.uch n).phase = 1 →
    exec (.syncSearchTimeout n) s = .next (s.after ((s.advance ((s.uch n).preEnd + s.bitTicks n 64)).setUch n {}))) ∧
  (∀ (s u : State) (n : Fin 64) (word : BitVec 32) (hdr : Byte) (t : Nat), u = (s.advance t).syncAccepted n word hdr →
    (s.uch n).phase ≠ 2 → (u.uch n).phase = 2 →
    exec (.syncAccepted n word hdr t) s = .next (s.after (((u.gatherTrigger 2 n).utxTrigger n).rangeTrigger n))) ∧
  (∀ (s u : State) (n : Fin 64) (word : BitVec 32) (hdr : Byte) (t : Nat), u = (s.advance t).syncAccepted n word hdr →
    (u.uch n).phase ≠ 2 →
    exec (.syncAccepted n word hdr t) s = .next (s.after ((u.utxTrigger n).rangeTrigger n))) ∧
  (∀ (s u : State) (n : Fin 64) (rx : Reception) (b : List Byte), s.frameEnd n rx = (u, some b, false) → u.authHears n = false →
    exec (.urxFrame n rx) s = .next (s.after (u.authFrame n (s.uch n).at_ (s.uch n).ref (some b)))) ∧
  (∀ (s u : State) (n : Fin 64) (rx : Reception), s.frameEnd n rx = (u, none, false) → u.authHears n = false →
    exec (.urxFrame n rx) s = .next (s.after u)) ∧
  (∀ (s u v : State) (n : Fin 64) (rx : Reception), s.frameEnd n rx = (u, none, true) →
    v = (u.gatherTrigger 3 n).utxTrigCrc n → v.authHears n = false →
    exec (.urxFrame n rx) s = .next (s.after (v.authFrame n (s.uch n).at_ (s.uch n).ref none))) ∧
  (∀ (s : State) (w : Fin 4) (power : BitVec 16) (t : Nat),
    exec (.urxJam w power t) s = .next (s.after ((s.advance t).jamOn w power))) ∧
  (∀ (s u : State) (w : Fin 4) (t : Nat), u = s.advance t → (u.win w).jam = true → (u.win w).st = .on →
    u.flag URX_JAM_CFG_JAM_EN = true → u.jamHeld w = true →
    exec (.urxJamClear w t) s
      = .next (s.after (((u.setWin w { u.win w with jam := false }).jamRunNew w).event EV_URX_JAM_CLEAR
          (byte w.val :: le 4 (satNat 32 ((((u.setWin w { u.win w with jam := false }).jamRunNew w).time.now - (u.win w).jamAt)
            / Config.msTicks)))))) ∧
  (∀ (s u : State) (t : Nat), u = s.advance t → u.flag URX_CTRL_BYP_AUTO = true → u.radioOn = true → u.anyFrame = false →
    exec (.bypassEngage t) s = .next (s.after { u with urx := { u.urx with bypass := true, bypassWant := none } })) ∧
  (∀ (s u : State) (t : Nat), u = s.advance t → u.anyFrame = false →
    exec (.bypassRelease t) s = .next (s.after { u with urx := { u.urx with bypass := false, bypassWant := none } })) ∧
  (∀ (s u : State) (t : Nat), u = s.advance t → u.flag URX_CTRL_BYP_AUTO = true → u.radioOn = true → u.anyFrame = true →
    exec (.bypassEngage t) s = .next (s.after { u with urx := { u.urx with bypassWant := some true } })) ∧
  (∀ (s u : State) (portB : Bool) (t : Nat), u = s.advance t →
    exec (.urxAdcFault portB t) s
      = .next (s.after (State.raise { u with urx := { u.urx with adcBad := u.urx.adcBad.set (bit01 portB) true } }
          (if portB then FID_URX_ADC_B else FID_URX_ADC_A)))) ∧
  (∀ (s u : State) (portB : Bool) (t : Nat), u = s.advance t → u.urx.adcCheck.getD (bit01 portB) false = true →
    exec (.adcSelfCheckDone portB true t) s
      = .next (s.after { u with urx := { u.urx with
          adcCheck := u.urx.adcCheck.set (bit01 portB) false, adcBad := u.urx.adcBad.set (bit01 portB) false } }) ∧
    exec (.adcSelfCheckDone portB false t) s
      = .next (s.after (State.raise { u with urx := { u.urx with
          adcCheck := u.urx.adcCheck.set (bit01 portB) false, adcBad := u.urx.adcBad.set (bit01 portB) true } }
          (if portB then FID_URX_ADC_B else FID_URX_ADC_A)))) ∧
  (∀ (s u v w : State) (g : Gather) (x t n pre d : Nat), u = s.advance t → g = u.urx.gather → g.st = 1 → g.trigAt = some x →
    n = gatherSamples g.source → pre = n * g.pre / 256 → d = u.sampleTicks g.source →
    v = u.advance (x + (n - pre) * d / 1000) →
    w = { v with free := 262144 + v.free, urx := { v.urx with
      gather := { g with st := 2, index := min pre (1000 * (x - g.armedAt) / max 1 d), base := v.free } } } →
    exec (.captureTrigger t) s
      = .next (s.after (w.eventAt (w.refAt x) (w.qualityAt x) EV_URX_CAPTURE_DONE
          (le 2 g.id ++ [0, byte OK] ++ le 4 (min pre (1000 * (x - g.armedAt) / max 1 d)) ++ [byte g.source])))) ∧
  (∀ (s u : State) (g : Gather), g = s.urx.gather → g.st = 3 → s.awake = true → g.item < 63 →
    s.pushItem g.queue (s.gatherItem g.item) 5 = some u →
    exec .gatherReadItem s = .next (s.after (u.setGather { g with item := g.item + 1, readAt := u.time.now }))) ∧
  (∀ (s u : State) (g : Gather), g = s.urx.gather → g.st = 3 → s.awake = true → ¬ g.item < 63 →
    s.pushItem g.queue (s.gatherItem g.item) 5 = some u →
    exec .gatherReadItem s = .next (s.after ((u.setGather { g with st := 2, item := 0 }).captureEvent 1 OK))) ∧
  (∀ (s u : State) (g : Gather), g = s.urx.gather → g.st = 3 → s.awake = true → u = s.advance (Config.sTicks + g.readAt) →
    u.pushItem g.queue (u.gatherItem g.item) 5 = none →
    exec .gatherReadTimeout s = .next (s.after ((u.setGather { g with st := 2, item := 0 }).captureEvent 3 QUEUE_FULL)))

/-- The host commands of transmission and RF calibration complete (R197 to R201). Where the spec is silent the equations rest on
readings of the model: notes/assumptions/98.md, 99.md, 153.md. -/
def Obligations.UtxCommandsComplete : Prop :=
  (∀ (s t u : State) (m : Master) (p : List Byte) (rate bits half id : Nat) (c : Option ReqCtx), s.comes m 0x43 p c t →
    firstFail [(32 ≤ p.length && p.length == 32 + u16 p 28, BAD_LENGTH), paramOk (s.sendTimeOk p),
      paramOk (u8 p 1 < 2 && u8 p 2 < 128 && u8 p 3 < 64 && zeroAt p 30 2), paramOk (sendFieldsOk p)] = none →
    (m == .m0 || (m == .m1 && u8 p 4 ≠ 0 && t.flag UTX_CTRL_HOST_TX)) = true → t.sys.role = 0 →
    sendShape (u8 p 4) (u8 p 5) (u32 p 16) (u32 p 20) (u32 p 24) (u16 p 28) = (rate, bits, half) →
    t.utxQueue { id := 0, trig := u8 p 0, prio := u8 p 1 = 1, entry := u8 p 2, power := u8 p 3, format := u8 p 4, rate := rate,
                 bits := bits, halfSpan := half, rxCh := u8 p 6, tol := u8 p 7, start := u64 p 8, lead := 0,
                 data := p.drop 32, mod := (sendMod (u8 p 4) (u8 p 5) (u32 p 20)).1,
                 dev := (sendMod (u8 p 4) (u8 p 5) (u32 p 20)).2 } = (u, ACCEPTED, id) →
    exec (.utxSend m p) s = .next (s.after (u.answer m 0x43 c ACCEPTED (le 2 id)))) ∧
  (∀ (s t u v : State) (m : Master) (p : List Byte) (fs : List Nat) (c : Option ReqCtx), s.comes m 0x44 p c t →
    fs = (List.range (u8 p 1)).map (fun k => u32 p (4 + 4 * k)) →
    firstFail [(4 ≤ p.length && p.length == 4 + 4 * u8 p 1, BAD_LENGTH),
      paramOk (within 1 128 (u8 p 1) && u8 p 0 + u8 p 1 ≤ 128 && u8 p 2 < 2 && zeroAt p 3 1),
      paramOk (fs.all fun f => within 300000000 1000000000 f)] = none →
    t.utx.sends = [] → t.utx.tx = none →
    u = (List.range (u8 p 1)).foldl (fun s k =>
      (((s.stage t.utxQuiet 6 (UTX_CALTAB_LO_FREQ_HZ (u8 p 0 + k)) (fs.getD k 0)).stage t.utxQuiet 6
        (UTX_CALTAB_LO_VALID (u8 p 0 + k)) 0).stage t.utxQuiet 6 (UTX_CALTAB_LO_PERMITTED (u8 p 0 + k))
          (bit01 (s.bandAt (fs.getD k 0) 0).isSome)).stage t.utxQuiet 6 (UTX_CALTAB_HI_BAND (u8 p 0 + k))
            ((s.bandAt (fs.getD k 0) 0).getD 0)) t →
    v = (if u8 p 2 = 0 then u
      else (List.range (u8 p 1)).foldl (fun s k =>
        if (s.bandAt (fs.getD k 0) 0).isSome then (s.calMark 0 (u8 p 0 + k) 0xFFFF).calAgain 0 (u8 p 0 + k) else s) u) →
    exec (.utxHopTable m p) s
      = .next (s.after (v.answer m 0x44 c OK
          [byte (u8 p 1), byte (fs.filter fun f => (u.bandAt f 0).isNone).length]))) ∧
  (∀ (s t : State) (m : Master) (p : List Byte) (c : Option ReqCtx), s.comes m 0x45 p c t → p.length = 4 → u8 p 0 = 16 →
    u8 p 1 = 0 → u8 p 2 = 0 → zeroAt p 3 1 = true → t.unitOn 6 = true → t.pwr.reduced = false → t.padHeld 3 = false → t.padHeld 9 = false →
    t.safeState = false →
    exec (.rfCalibrate m p) s
      = .next (s.after (((List.range 12).foldl (fun (s : State) n => s.lfCalMark n)
          { t.modUtx (fun u => { u with calId := (t.utx.calId + 1) % 0xFFFF }) with
            lf := { t.lf with calIds := List.replicate 12 t.utx.calId } }).answer m 0x45 c ACCEPTED (le 2 t.utx.calId)))) ∧
  (∀ (s t : State) (m : Master) (p : List Byte) (c : Option ReqCtx), s.comes m 0x45 p c t → p.length = 4 → u8 p 0 = 1 →
    u8 p 1 = 0 → u8 p 2 = 0 → zeroAt p 3 1 = true → t.unitOn 6 = true → t.pwr.reduced = false → t.padHeld 3 = false → t.padHeld 9 = false →
    t.safeState = false →
    exec (.rfCalibrate m p) s
      = .next (s.after (((t.calEntries.map fun i => ({ item := 0, idx := i, calId := t.utx.calId } : CalDue)).foldl
          (fun s d => s.calMark d.item d.idx t.utx.calId)
          (t.modUtx fun u => { u with calId := (t.utx.calId + 1) % 0xFFFF })).answer m 0x45 c ACCEPTED (le 2 t.utx.calId)))) ∧
  (∀ (s t : State) (m : Master) (c : Option ReqCtx), s.comes m 0x46 [] c t →
    exec (.rfCalStatus m []) s
      = .next (s.after (t.answer m 0x46 c OK
          ([byte (ofSigned 8 t.sys.temp), byte t.validEntries.length,
            byte (satNat 8 (t.utx.due.length + t.lf.calDue.length)), 0]
            ++ (List.range 5).flatMap fun k =>
              [byte (bit01 (t.calShown k).1), byte (bit01 (t.calShown k).2.1), byte (ofSigned 8 (t.calShown k).2.2.1), 0]
                ++ le 4 (satNat 32 (if (t.calShown k).1 then (t.time.lp - (t.calShown k).2.2.2) / 32768 else 0)))))) ∧
  (∀ (s t : State) (m : Master) (p : List Byte) (c : Option ReqCtx), s.comes m 0x48 p c t → p.length = 4 →
    bitsAt (u32 p 0) 4 4 = 0 → bitsAt (u32 p 0) 16 16 = 0 → 1 ≤ bitsAt (u32 p 0) 8 8 → t.flag UTX_CTRL_LOCK = false →
    exec (.coexConfig m p) s
      = .next (s.after ((t.stage t.utxQuiet 6 UTX_COEX_CFG (u32 p 0)).answer m 0x48 c OK []))) ∧
  (∀ (s t : State) (m : Master) (p : List Byte) (c : Option ReqCtx), s.comes m 0x49 p c t → p.length = 12 →
    femOk (u32 p 0) (u32 p 4) = true → u32 p 0 < 2 ^ 24 → u32 p 4 < 2 ^ 24 → u32 p 8 < 32 → t.flag UTX_CTRL_LOCK = false →
    exec (.femSeqConfig m p) s
      = .next (s.after ((((t.stage t.utxQuiet 6 UTX_FEM_ON (u32 p 0)).stage t.utxQuiet 6 UTX_FEM_OFF (u32 p 4)).stage t.utxQuiet 6
          UTX_FEM_CTRL (u32 p 8)).answer m 0x49 c OK [])))

/-- The rows of UHF sends (their start, synthesiser lock, the coexistence grant, time-outs and ends, the duty bins; R161 to R182)
and of the RF calibration engine (R183 to R195) complete. Where the spec is silent the equations rest on readings of the model:
notes/assumptions/96.md, 97.md, 98.md, 144.md, 153.md. -/
def Obligations.UtxAndRfCalRowsComplete : Prop :=
  (∀ (s : State) (x : UtxSend) (busy : Option Nat), s.utx.tx = none → s.unitOn 6 = true → s.urx.pllLost = false →
    s.noRadio = false → s.nextUtx s.utx.sends = some x → x.lost = false →
    exec (.utxSendStart busy) s
      = .next (s.after (((s.advance s.utx.freeAt).advanceRef (((s.advance s.utx.freeAt).utxTurn x).getD 0)).utxBegin x))) ∧
  (∀ (s : State) (x : UtxTx) (busy : Option Nat), s.utx.tx = some x → x.phase = 1 → s.urx.pllLost = false →
    exec (.utxSendStart busy) s = .next (s.after (s.utxListen x busy))) ∧
  (∀ (s u : State) (x : UtxTx) (t : Nat), s.utx.tx = some x → x.phase = 0 → s.urx.pllLost = false → x.lockLate = false →
    u = (s.advance x.lockAt).modUtx (fun y => { y with synth := some x.send.entry }) → x.listen = false →
    exec (.synthLocked t) s = .next (s.after (u.utxSequence x))) ∧
  (∀ (s u : State) (x : UtxTx) (t : Nat), s.utx.tx = some x → x.phase = 0 → s.urx.pllLost = false → x.lockLate = false →
    u = (s.advance x.lockAt).modUtx (fun y => { y with synth := some x.send.entry }) → x.listen = true →
    exec (.synthLocked t) s
      = .next (s.after (u.modUtx fun y => { y with
          tx := some { x with phase := 1, listenFrom := max u.time.now (x.reqSeq - Config.usTicks * u.lbtUs x.send.entry) } }))) ∧
  (∀ (s : State) (x : UtxTx), s.utx.tx = some x → x.phase = 0 → x.lockLate = false →
    exec .utxSynthLock s
      = .next (s.after (((s.advance (200 * Config.usTicks + x.hopAt)).modUtx fun u => { u with
          tx := some { x with lockLate := true } }).raise FID_UTX_SYNTH_LOCK))) ∧
  (∀ (s u : State) (t : Nat), u = (s.advance t).setGnt true → u.utx.tx = none →
    exec (.coexGntRise t) s = .next (s.after u)) ∧
  (∀ (s u : State) (x : UtxTx) (t : Nat), u = (s.advance t).setGnt true → u.utx.tx = some x → x.phase = 2 →
    exec (.coexGntRise t) s = .next (s.after (u.utxOnAir x))) ∧
  (∀ (s u : State) (t : Nat), u = (s.advance t).setGnt false → u.utx.tx = none →
    exec (.coexGntFall t) s = .next (s.after u)) ∧
  (∀ (s u : State) (x : UtxTx) (t : Nat), u = (s.advance t).setGnt false → u.utx.tx = some x → x.phase = 3 →
    (decide (u.time.now < x.eAt)) = true → x.send.high = false → u.flag UTX_COEX_CFG_EN = true → u.flag UTX_COEX_CFG_HONOR_DROP = true →
    exec (.coexGntFall t) s = .next (s.after ((u.advance (u.byteEnd x)).utxCut x (u.byteEnd x) 2 BUSY))) ∧
  (∀ (s : State) (x : UtxTx) (w : Nat), s.utx.tx = some x → x.since = some w → x.reqT = none → x.phase = 2 →
    exec .coexWaitTimeout s = .next (s.after ((s.advance (100 * Config.msTicks + w)).utxGiveUp x 1 TX_LATE 0))) ∧
  (∀ (s : State) (x : UtxTx) (w : Nat), s.utx.tx = some x → x.since = some w → x.reqT = none → x.phase = 1 →
    exec .coexWaitTimeout s = .next (s.after ((s.advance (100 * Config.msTicks + w)).utxGiveUp x 1 BUSY 0))) ∧
  (∀ (s : State) (x : UtxSend), firstWait s.utx.sends = some x →
    exec .afterRxTimeout s = .next (s.after ((s.advanceRef x.start).utxRefuse x 3 TIMEOUT 0))) ∧
  (∀ (s u : State) (x : UtxTx), s.utx.tx = some x → x.phase = 3 →
    u = ((s.advance x.eAt).bump UTX_TX_COUNT).addDuty x.band x.bin x.send.airUs →
    exec (.utxTxDone true) s
      = .next (s.after ((u.utxRecord x.send x.tRef x.quality 0 OK x.slip x.send.airUs x.power x.flags x.band).utxFree
          (6 * Config.usTicks + x.eAt)))) ∧
  (∀ (s u : State) (x : UtxTx), s.utx.tx = some x → x.phase = 3 →
    u = (((s.advance x.eAt).bump UTX_TX_COUNT).addDuty x.band x.bin x.send.airUs).raise FID_UTX_TURNAROUND →
    exec (.utxTxDone false) s
      = .next (s.after ((u.utxRecord x.send x.tRef x.quality 0 OK x.slip x.send.airUs x.power (16 + x.flags) x.band).utxFree
          (6 * Config.usTicks + x.eAt)))) ∧
  (∀ (s : State),
    exec .dutyBinRoll s
      = .next (s.after ((s.advanceLp (1966080 + s.utx.binLp)).modUtx fun u => { u with
          bins := u.bins.map fun l => 0 :: l.take 60, binNo := u.binNo + 1, binLp := 1966080 + u.binLp, told := [] }))) ∧
  (∀ (s u : State) (i : Fin 128) (temp : BitVec 8) (t : Nat), i.val < 2 →
    u = { s.advance t with sys := { (s.advance t).sys with temp := temp.toInt } } → u.flag UTX_CAL_CFG_BG_EN = true →
    (u.calItem 3).valid = false →
    exec (.calDue 3 i temp t) s = .next (s.after (u.calMark 3 i 0xFFFF))) ∧
  (∀ (s u : State) (x : CalDue), s.flag UTX_CAL_CFG_BG_EN = true → s.calPlace.nextCal s.calPlace.utx.due = some x →
    s.calPlace.time.ref ≤ s.calPlace.calTime x → u = s.calPlace.advanceRef (s.calPlace.calTime x) →
    (x.item = 0 → x.idx ∈ u.calEntries) → u.calMay x = true → u.calBlock u.time.ref (stepTicks x.item) = none →
    exec .calStepStart s = .next (s.after (u.calStart x false))) ∧
  (∀ (s u v : State) (x : CalRun) (vco : BitVec 4) (cap : Byte) (gain : BitVec 6) (temp : BitVec 8), s.utx.run = some x →
    x.fg = false → x.due.item = 3 → x.again = false →
    u = { s.advance (x.start + x.dur) with sys := { (s.advance (x.start + x.dur)).sys with temp := temp.toInt } } →
    v = State.raise (((u.modUtx fun y => { y with run := none }).calDrop (u.dueNow x.due)).modUtx
      fun y => { y with items := y.items.modify 3 fun i => { i with stale := true } }) FID_UTX_CAL_FAIL x.due.idx →
    exec (.rfCalDone false vco cap gain temp) s
      = .next (s.after ((v.calEvent (u.dueNow x.due) 1 temp.toInt (x.dur / Config.usTicks)).utxBoundary.calPlace))) ∧
  (∀ (s t u v : State) (x : CalRun) (vco : BitVec 4) (cap : Byte) (gain : BitVec 6) (temp : BitVec 8), s.utx.run = some x →
    x.fg = false → x.due.item = 3 → x.again = false →
    t = { s.advance (x.start + x.dur) with sys := { (s.advance (x.start + x.dur)).sys with temp := temp.toInt } } →
    u = State.calDrop (t.modUtx fun y => { y with run := none }) (t.dueNow x.due) →
    v = (u.modUtx fun y => { y with
      items := y.items.set 3 { valid := true, stale := false, temp := temp.toInt, at_ := u.time.lp } }).calAutoSave 3 →
    exec (.rfCalDone true vco cap gain temp) s
      = .next (s.after ((v.calEvent (t.dueNow x.due) 0 temp.toInt (x.dur / Config.usTicks)).utxBoundary.calPlace)))

/-- The host commands of ranging and zones complete (R234 to R238). Where the spec is silent the equations rest on readings of the
model: notes/assumptions/15.md, 45.md, 100.md, 156.md, 159.md, 170.md. -/
def Obligations.RangeZoneCommandsComplete : Prop :=
  (∀ (s t u v : State) (m : Master) (p : List Byte) (vals : List (Field × Nat)) (b : Nat) (amb : Int) (c : Option ReqCtx),
    s.comes m 0x50 p c t →
    firstFail [lenIs p 28, paramOk (u32 p 0 < 2 ^ 30 && within 100000 2000000 (u32 p 4) && within 8 80 (u8 p 8)),
      paramOk (u8 p 9 < 128 && u8 p 10 < 128 && u8 p 11 < 64 && u16 p 12 ≤ 10000),
      paramOk (within 4 (u8 p 8) (u8 p 18) && u8 p 19 ≤ 40 && within 1 63 (u8 p 20) && u8 p 21 = 0),
      paramOk (within 10 1000 (u16 p 22) && within 5 255 (u8 p 25))] = none →
    t.flag RANGE_CTRL_LOCK = false → t.range.run = none → t.planBand (u32 p 0) (u32 p 4) (u8 p 8) (u8 p 9) (u8 p 10) = some b →
    vals = [(RANGE_PLAN_F0, u32 p 0), (RANGE_PLAN_SP, u32 p 4),
      (RANGE_PLAN_CFG, u8 p 8 + 2 ^ 8 * u8 p 9 + 2 ^ 16 * u8 p 10 + 2 ^ 24 * u8 p 11), (RANGE_TIMING, u16 p 12),
      (RANGE_TRIM, u32 p 14), (RANGE_QUAL_CFG, u8 p 18 + 2 ^ 8 * u8 p 19 + 2 ^ 16 * u8 p 20),
      (RANGE_THR, u16 p 22 + 2 ^ 16 * u8 p 24), (RANGE_THR2, u8 p 25 + 2 ^ 8 * u8 p 26 + 2 ^ 16 * u8 p 27)] →
    u = vals.foldl (fun s x => s.put x.1 x.2) t → u.rounded 1498962290 (u32 p 4) = (amb, v) →
    exec (.rangeConfig m p) s
      = .next (s.after ((v.put RANGE_STATUS_PLAN_OK 1).answer m 0x50 c OK
          ([byte b, byte (u8 p 8)] ++ le 2 (satNat 16 amb.toNat))))) ∧
  (∀ (s t : State) (m : Master) (p : List Byte) (a : RangeAsk) (c : Option ReqCtx), s.comes m 0x51 p c t →
    a = { mode := u8 p 0, flags := u8 p 1, rxCh := u8 p 2, zoneSrc := u8 p 3, org := u64 p 4, seed := (p.drop 12).take 16,
          chips := (p.drop 28).take 16 } →
    firstFail [lenIs p 48, paramOk (s.rangeAskOk a && zeroAt p 44 4)] = none →
    (m == .m2 || (m == .m1 && !t.flag RANGE_CTRL_HOST_RUN)) = false → t.rangeRefusal = none →
    exec (.rangeRun m p) s = .next (s.after ((t.rangeArm a).answer m 0x51 c ACCEPTED (le 2 t.range.nextId)))) ∧
  (∀ (s t : State) (m : Master) (p b : List Byte) (c : Option ReqCtx), s.comes m 0x52 p c t → p.length = 2 → u16 p 0 = 0xFFFF →
    t.range.results.head? = some b →
    exec (.rangeResult m p) s = .next (s.after (t.answer m 0x52 c OK b))) ∧
  (∀ (s t : State) (m : Master) (p b : List Byte) (c : Option ReqCtx), s.comes m 0x52 p c t → p.length = 2 → u16 p 0 ≠ 0xFFFF →
    t.range.run = none → t.range.results.find? (fun b => u16 b 0 == u16 p 0) = some b →
    exec (.rangeResult m p) s = .next (s.after (t.answer m 0x52 c OK b))) ∧
  (∀ (s t u v w : State) (m : Master) (p : List Byte) (dz : Nat → Nat) (c : Option ReqCtx), s.comes m 0x53 p c t →
    firstFail [lenIs p 72, paramOk (within 1 16 (bitsAt (u32 p 0) 0 5) && bitsAt (u32 p 0) 5 3 = 0 && bitsAt (u32 p 0) 8 8 ≤ 40),
      paramOk (bitAt (u8 p 4) 1 = 0 && u8 p 4 < 8 && zeroAt p 5 3),
      paramOk ((List.range 8).all fun z => u8 p (10 + 4 * z) < 2 && u8 p (11 + 4 * z) = 0
        && (u8 p (10 + 4 * z) = 0 || u8 p (8 + 4 * z) ≤ u8 p (9 + 4 * z)))] = none →
    t.flag ZONE_CTRL_LOCK = false →
    dz = (fun z => u8 p (8 + 4 * z) + 256 * u8 p (9 + 4 * z) + 65536 * u8 p (10 + 4 * z)) →
    u = (List.range 8).foldl (fun s z => s.stage t.zoneQuiet 8 (ZONE_D z) (dz z))
      ((t.stage t.zoneQuiet 8 ZONE_CFG (u32 p 0)).stage t.zoneQuiet 8 ZONE_CTRL_OFFSET_FREE (bitAt (u8 p 4) 2)) →
    v = (List.range 4).foldl (fun s w => (s.stage t.zoneQuiet 8 (ZONE_WD_LO w) (u32 p (40 + 8 * w))).stage t.zoneQuiet 8
      (ZONE_WD_HI w) (u32 p (44 + 8 * w))) u →
    w = (if t.zoneQuiet then (v.stage true 8 ZONE_CTRL_EN (bitAt (u8 p 4) 0)).unitSwitch 8 (bitAt (u8 p 4) 0 == 1) false
      else v.stage false 8 ZONE_CTRL_EN (bitAt (u8 p 4) 0)) →
    exec (.zoneConfig m p) s = .next (s.after (w.answer m 0x53 c OK [byte (w.unit 8).code]))) ∧
  (∀ (s t : State) (m : Master) (p : List Byte) (c : Option ReqCtx), s.comes m 0x54 p c t → p.length = 1 → u8 p 0 = 0 →
    exec (.zoneQuery m p) s = .next (s.after (t.answer m 0x54 c OK t.zoneReply))) ∧
  (∀ (s t u v : State) (m : Master) (p : List Byte) (pat : Nat → Nat) (c : Option ReqCtx), s.comes m 0x54 p c t → u8 p 0 = 1 →
    firstFail [(m != .m2 || u8 p 0 = 0, ACCESS_DENIED), paramOk (u8 p 0 < 2),
      (p.length == (if u8 p 0 = 1 then 68 else 1), BAD_LENGTH),
      paramOk (u8 p 0 = 0 || (within 1 16 (u8 p 1) && zeroAt p 2 2
        && (List.range 16).all fun k => u8 p (4 + k) < 32 || u8 p (4 + k) = 0xFF))] = none →
    t.unit 8 = .on → t.zone.solve = none → pat = (fun k => if k < u8 p 1 then u8 p (4 + k) else 0xFF) →
    u = (List.range 4).foldl (fun s i => s.put (ZONE_SLOTPAT i)
      (pat (4 * i) + 256 * pat (4 * i + 1) + 65536 * pat (4 * i + 2) + 16777216 * pat (4 * i + 3))) t →
    v = (List.range 12).foldl (fun s i => s.put (ZONE_IN i) (u32 p (20 + 4 * i))) u →
    exec (.zoneQuery m p) s = .next (s.after (v.zoneStart m c true)))

/-- The rows of a ranging run and of a zone solve complete (R206, R207, R209, R211, R219 to R222, R224, R227, R231). Where the
spec is silent the equations rest on readings of the model: notes/assumptions/13.md, 14.md, 15.md, 16.md, 42.md, 101.md, 158.md,
159.md, 160.md. -/
def Obligations.RangeZoneRowsComplete : Prop :=
  (∀ (s : State) (m : Master), s.reaches m RANGE_CMD.addr = true →
    exec (.rangeCmdGo m) s = .next (s.after s.rangeGo) ∧ exec (.rangeCmdAbort m) s = .next (s.after s.rangeAbort)) ∧
  (∀ (s : State) (x : RangeRun) (n k o r f d : Nat), s.range.run = some x → x.o = none → x.mode = 1 → x.trig = some n →
    o = n + Config.usTicks * (200 + x.delay) → r = s.refAhead (o - s.time.now) → f = r - 50 * Config.usTicks →
    d = Config.usTicks * (100 + x.lenUs) → s.freeSlot = some k → s.exclusiveOver resRadio f d = false →
    exec .rangeOriginFixed s
      = .next (s.after (((s.setCalSlot k (some (ownSlot k 7 resRadio f d true))).setRun
          (some { x with o := some (o, r), slot := some k })).calYield (overlaps · · f d)
            (overlaps · · (f - 20 * Config.usTicks) (d + 20 * Config.usTicks))))) ∧
  (∀ (s u : State) (x : RangeRun) (o : Nat × Nat), s.range.run = some x → x.o = some o → x.stage = 0 →
    u = (s.advance (x.at_ (-50))).utxYield → u.sys.region.ok = true → u.flag (UTX_CALTAB_LO_PERMITTED x.rttEntry) = true →
    u.dutyUsed (u.get (UTX_CALTAB_HI_BAND x.rttEntry)) + 133 + 24 * x.n ≤ u.dutyLimit (u.get (UTX_CALTAB_HI_BAND x.rttEntry)) →
    exec .rangeSlotBegin s
      = .next (s.after ((((u.setRun (some { x with stage := if x.skipRtt then 3 else 1 })).put RANGE_STATUS_ARMED 0).put
          RANGE_STATUS_PHASE 1).modUtx fun y => { y with synth := some x.rttEntry }))) ∧
  (∀ (s u : State) (x : RangeRun) (y : RangeMeas), s.range.run = some x → x.stage = 1 → y.locked = true → s.utx.freeAt ≤ x.at_ 20 →
    
    s.rangeSend x (y.blocked && s.lbtUs x.rttEntry ≠ 0) (x.at_ 20) (x.at_ 153) x.rttEntry 133 (x.burst (s.entFreq x.rttEntry)) 0
      = (u, true) →
    exec (.rangeStep y) s = .next (s.after (u.setRun (some { x with stage := 2 })))) ∧
  (∀ (s : State) (x : RangeRun) (y : RangeMeas), s.range.run = some x → x.stage = 2 →
    4 * s.get RANGE_QUAL_CFG_MIN_SNR_DB ≤ y.snr.toNat →
    exec (.rangeStep y) s
      = .next (s.after (((s.advance (x.at_ 374)).put RANGE_STATUS_PHASE (if x.skipTones then 3 else 2)).setRun
          (some { x with stage := 3, b2 := some (y.delayPs.toNat, y.snr.toNat), eps := y.eps.toInt })))) ∧
  (∀ (s u v : State) (x : RangeRun) (y : RangeMeas), s.range.run = some x → x.stage = 3 → x.abortAt = none → x.skipTones = false →
    x.k < x.n →
    y.locked = true → y.loopback = true → s.utx.freeAt ≤ x.at_ (500 + 95 * x.k) →
    4 * s.get RANGE_QUAL_CFG_MIN_SNR_DB ≤ y.snr.toNat →
    s.rangeSend x false (x.at_ (500 + 95 * x.k)) (x.at_ (500 + 95 * x.k + 24)) (x.first + x.tone x.k) 24 [x.f0 + x.tone x.k * x.sp]
      (u8 x.rnd x.k) = (u, true) →
    v = (u.put RANGE_STATUS_PHASE (if x.k + 1 = x.n then 3 else 2)).advance (x.at_ (500 + 95 * x.k + 38)) →
    exec (.rangeStep y) s
      = .next (s.after (v.setRun (some { x with
          k := x.k + 1, eps := if x.b2.isNone then y.eps.toInt else x.eps,
          tones := x.tones ++ [{ i := x.tone x.k, psi := y.psi.toNat, beta := y.beta.toNat, snr := y.snr.toNat }] })))) ∧
  (∀ (s : State) (x : RangeRun), s.range.run = some x → x.mode = 1 → x.trig = none →
    exec .rangeTimeout s = .next (s.after ((s.advanceRef x.org).rangeFail x TIMEOUT))) ∧
  (∀ (s : State) (x : RangeRun) (o : Nat × Nat) (t : Nat), s.range.run = some x → x.o = some o → x.stage = 3 → x.n ≤ x.k →
    x.abortAt = none →
    exec (.rangeDone t) s
      = .next (s.after ((s.advance (clampNat (x.at_ x.lenUs + (if x.workers then 150 * Config.usTicks else 0))
          (x.at_ x.lenUs + 200 * Config.usTicks) t)).rangeEnd x OK false true x.endRef))) ∧
  (∀ (s : State) (m : Master), s.reaches m ZONE_CMD.addr = true → s.zoneFree = true →
    exec (.zoneCmdStart m) s = .next (s.after (s.zoneStart m none false))) ∧
  (∀ (s u : State) (x : Solve) (t : Nat), s.zone.solve = some x →
    u = ((s.advance (min t (Config.msTicks + x.at_))).modZone fun z => { z with solve := none }).zoneFinish x →
    exec (.zoneSolved t) s
      = .next (s.after (if x.query then u.answer x.master 0x54 x.ctx OK u.zoneReply else u).zoneBoundary)) ∧
  (∀ (s u : State) (x : FieldMap) (b : List Byte) (t : Nat), u = s.advance t → u.zone.pend = some (x, b) → u.zone.written = false →
    exec (.zoneMapLoaded true t) s
      = .next (s.after (((u.writeMem (mapAddr (1 - u.zone.copy)) (le 4 ((u.zone.seq + 1) % 2 ^ 32) ++ b)).modZone fun z =>
          { z with written := true }).mapSwitch.zoneBoundary))) ∧
  (∀ (s u : State) (x : FieldMap) (b : List Byte) (t : Nat), u = s.advance t → u.zone.pend = some (x, b) → u.zone.written = false →
    exec (.zoneMapLoaded false t) s
      = .next (s.after (((u.mapCut.put ZONE_STATUS_MAP_PENDING 0).event EV_ZONE_MAP_LOADED
          (le 4 x.id ++ [byte x.pats.length] ++ le 2 x.pts.length ++ [byte INTEGRITY])).zoneBoundary))) ∧
  (∀ (s u : State) (x : FieldMap) (b : List Byte), s.zone.pend = some (x, b) → s.zone.written = true → s.lfQuiet = true →
    s.zone.solve = none →
    u = (s.modZone fun z => { z with pend := none, written := false }).useMap (1 - s.zone.copy) ((s.zone.seq + 1) % 2 ^ 32) (some x) →
    s.mapSwitch = ((u.put ZONE_STATUS_MAP_PENDING 0).event EV_ZONE_MAP_LOADED
      (le 4 x.id ++ [byte x.pats.length] ++ le 2 x.pts.length ++ [byte OK])).zoneBoundary)

/-- The CRED commands of the host complete (R252, R281, R283 to R285). Where the spec is silent the equations rest on readings of
the model: notes/assumptions/45.md, 106.md, 108.md. -/
def Obligations.CredCommandsComplete : Prop :=
  (∀ (s t u : State) (m : Master) (p r : List Byte) (i : Nat) (c : Option ReqCtx), s.comes m 0x60 p c t →
    firstFail [lenIs p 68, paramOk (u8 p 0 < 2 && zeroAt p 1 3 && entryOk (p.drop 4) false)] = none → t.credOff = false →
    u8 p 0 = 1 → t.dirFindNew ((p.drop 4).take 12) = some i →
    u = t.bump AES_UNWRAPS → r = rowWithCtr (p.drop 4) (max (u32 (p.drop 4) 20) (u32 (u.dirNew i) 20)) →
    exec (.credAdd m p) s
      = .next (s.after (if (t.unwrapRow (p.drop 4)).isNone then
            (if t.issuerKey (p.drop 4) then (t.bump AES_UNWRAP_FAILS).raise FID_CRED_UNWRAP else t).answer m 0x60 c UNWRAP []
          else u.rowWrite { idx := i, row := r, kind := 0, master := m, ctx := c }))) ∧
  (∀ (s t u : State) (m : Master) (p : List Byte) (i : Nat) (c : Option ReqCtx), s.comes m 0x60 p c t →
    firstFail [lenIs p 68, paramOk (u8 p 0 < 2 && zeroAt p 1 3 && entryOk (p.drop 4) false)] = none → t.credOff = false →
    t.dirFindNew ((p.drop 4).take 12) = none → (t.bump AES_UNWRAPS).takeRow = some (i, u) →
    exec (.credAdd m p) s
      = .next (s.after (if (t.unwrapRow (p.drop 4)).isNone then
            (if t.issuerKey (p.drop 4) then (t.bump AES_UNWRAP_FAILS).raise FID_CRED_UNWRAP else t).answer m 0x60 c UNWRAP []
          else u.rowWrite { idx := i, row := p.drop 4, kind := 0, master := m, ctx := c }))) ∧
  (∀ (s t : State) (m : Master) (p row : List Byte) (i fl : Nat) (c : Option ReqCtx), s.comes m 0x62 p c t → p.length = 12 →
    t.credOff = false → t.dirFind p = some i → row = t.dirRow i →
    fl = bit01 (rowEpoch row < t.epochOf (rowIssuer row)) + 4 * bit01 (t.rowExpired row) + 8 * bit01 (t.credLocked p)
      + 16 * bit01 (t.popEntry p).isSome →
    exec (.credQuery m p) s
      = .next (s.after (t.answer m 0x62 c OK ([byte 1, byte fl, 0, 0] ++ le 4 i ++ row.take 24 ++ le 4 (u32 row 20))))) ∧
  (∀ (s t : State) (m : Master) (p row : List Byte) (f : PopFound) (fl : Nat) (c : Option ReqCtx), s.comes m 0x62 p c t →
    p.length = 12 → t.credOff = false → t.dirFind p = none → t.popEntry p = some f → row = f.blob.take 64 →
    fl = bit01 (rowEpoch row < t.epochOf (rowIssuer row)) + 2 * bit01 (t.mapRevoked f.index) + 4 * bit01 (t.rowExpired row)
      + 8 * bit01 (t.credLocked p) →
    exec (.credQuery m p) s
      = .next (s.after (t.answer m 0x62 c OK ([byte 2, byte fl, 0, 0] ++ le 4 f.index ++ row.take 24 ++ le 4 (blobCtr f.blob))))) ∧
  (∀ (s t u : State) (m : Master) (p : List Byte) (c : Option ReqCtx), s.comes m 0x63 p c t → u8 p 0 = 0 → p.length = 20 →
    popParamOk p = true → t.credOff = false → t.cred.pop = none → t.cred.build = 0 → t.hif.flashOk = true →
    u = t.modCred (fun k => { k with
      build := 1, header := mkHeader (u8 p 4) (u32 p 8) (u32 p 12) (u32 p 16), popFailed := false, mapLoading := false }) →
    exec (.credPopLoad m p) s
      = .next (s.after (((u.put CRED_STATUS_MAP_LOADED 0).withdraw 9).answer m 0x63 c ACCEPTED []))) ∧
  (∀ (s t : State) (m : Master) (p : List Byte) (c : Option ReqCtx), s.comes m 0x63 p c t → u8 p 0 = 1 →
    firstFail [(1 ≤ p.length, BAD_LENGTH), paramOk (u8 p 0 < 6), (popLenOk p, BAD_LENGTH), paramOk (popParamOk p)] = none →
    t.credOff = false → t.cred.pop = none → t.cred.build = 2 →
    exec (.credPopLoad m p) s
      = .next (s.after (t.popStart { op := 1, master := m, ctx := c } (bankBase + u32 p 4) (p.drop 8)))) ∧
  (∀ (s t : State) (m : Master) (p : List Byte) (c : Option ReqCtx), s.comes m 0x63 p c t → u8 p 0 = 2 → p.length = 4 →
    popParamOk p = true → t.credOff = false → t.cred.pop = none → t.cred.build = 2 →
    exec (.credPopLoad m p) s
      = .next (s.after (((t.modCred fun k => { k with build := 3 }).withdraw 9).answer m 0x63 c ACCEPTED []))) ∧
  (∀ (s t u : State) (m : Master) (p : List Byte) (c : Option ReqCtx), s.comes m 0x63 p c t → 3 ≤ u8 p 0 →
    firstFail [(1 ≤ p.length, BAD_LENGTH), paramOk (u8 p 0 < 6), (popLenOk p, BAD_LENGTH), paramOk (popParamOk p)] = none →
    t.credOff = false → t.cred.pop = none → t.popChange m c p = (u, none) →
    exec (.credPopLoad m p) s = .next (s.after u)) ∧
  (∀ (s t : State) (m : Master) (p : List Byte) (c : Option ReqCtx), s.comes m 0x64 p c t → p.length = 4 → u8 p 0 < 16 →
    u8 p 1 = 0 → t.credOff = false → t.epochOf (u8 p 0) < u16 p 2 → t.cred.epoch = none →
    exec (.credRevokeEpoch m p) s
      = .next (s.after (t.modCred fun k => { k with
          epoch := some { issuer := u8 p 0, target := u16 p 2, master := m, ctx := c } }).epochStep))

/-- The AUTH commands of the host complete (R286 to R289). Where the spec is silent the equations rest on readings of the model:
notes/assumptions/20.md. -/
def Obligations.AuthCommandsComplete : Prop :=
  (∀ (s t : State) (m : Master) (p : List Byte) (pats : List Nat) (c : Option ReqCtx), s.comes m 0x65 p c t →
    pats = (List.range (u8 p 2)).map (fun k => u8 p (4 + k)) →
    firstFail [lenIs p 20, paramOk (u8 p 0 < 2 && u8 p 1 < 2 && u8 p 3 = 0),
      paramOk (decide (u8 p 1 = 1) || (u8 p 2 ≤ 16 && pats.all (· < 32) && zeroAt p (4 + u8 p 2) (16 - u8 p 2)))] = none →
    t.auth.att = none → t.globalLocked = false → t.authUnits = true →
    exec (.authStart m p) s
      = .next (s.after ((t.authBegin (u8 p 0 = 1) (if u8 p 1 = 1 then t.handlePats else pats) t.stamp t.quality t.time.now
          none).answer m 0x65 c ACCEPTED (le 2 t.auth.nextId)))) ∧
  (∀ (s t : State) (m : Master) (p r : List Byte) (c : Option ReqCtx), s.comes m 0x66 p c t → p.length = 2 → t.sys.role = 0 →
    t.auth.att = none → u16 p 0 = 0xFFFF → t.auth.results.head? = some r →
    exec (.authResult m p) s = .next (s.after (t.answer m 0x66 c OK r))) ∧
  (∀ (s t : State) (m : Master) (p r : List Byte) (c : Option ReqCtx), s.comes m 0x66 p c t → p.length = 2 → t.sys.role = 0 →
    t.auth.att = none → u16 p 0 ≠ 0xFFFF → t.auth.results.find? (fun r => u16 r 0 == u16 p 0) = some r →
    exec (.authResult m p) s = .next (s.after (t.answer m 0x66 c OK r))) ∧
  (∀ (s t : State) (m : Master) (c : Option ReqCtx) (g : Nat), s.comes m 0x67 [] c t → t.sys.role = 0 →
    g = (t.cred.lockedUntil.map t.msUntil).getD 0 →
    exec (.authLockoutStatus m []) s
      = .next (s.after (t.answer m 0x67 c OK ([byte (bit01 t.globalLocked),
          byte (t.cred.fails.filter fun x => t.time.lp ≤ x + lpOfS 600).length, byte t.lockedCount, byte 0]
          ++ le 4 g ++ le 4 0 ++ [0, 0, 0, 0])))) ∧
  (∀ (s t : State) (m : Master) (p : List Byte) (c : Option ReqCtx) (r : LockRow) (g : Nat), s.comes m 0x67 p c t →
    p.length = 12 → t.sys.role = 0 → t.lockRow p = some r → g = (t.cred.lockedUntil.map t.msUntil).getD 0 →
    exec (.authLockoutStatus m p) s
      = .next (s.after (t.answer m 0x67 c OK ([byte (bit01 t.globalLocked + 2 * bit01 r.until_.isSome + 4),
          byte (t.cred.fails.filter fun x => t.time.lp ≤ x + lpOfS 600).length, byte t.lockedCount,
          byte (r.fails.filter fun x => t.time.lp ≤ x + lpOfS 60).length]
          ++ le 4 g ++ le 4 ((r.until_.map t.msUntil).getD 0) ++ [0, 0, 0, 0])))) ∧
  (∀ (s t : State) (m : Master) (p : List Byte) (c : Option ReqCtx) (r : LockRow), s.comes m 0x68 p c t → p.length = 16 →
    u8 p 0 = 1 → zeroAt p 1 3 = true → t.sys.role = 0 → t.lockRow (p.drop 4) = some r →
    exec (.authLockoutClear m p) s
      = .next (s.after (((t.modCred fun k => { k with locks := k.locks.filter (·.id != p.drop 4) }).lockEvent 2
          ((p.drop 4).take 4) 0).answer m 0x68 c OK []))) ∧
  (∀ (s t : State) (m : Master) (p : List Byte) (c : Option ReqCtx), s.comes m 0x68 p c t → p.length = 4 →
    u8 p 0 = 0 → zeroAt p 1 3 = true → t.sys.role = 0 →
    exec (.authLockoutClear m p) s
      = .next (s.after (((t.modCred fun k => { k with
          fails := [], lockedUntil := none, locks := k.locks }).lockEventAll 2 0).answer m 0x68 c OK []))) ∧
  (∀ (s t : State) (m : Master) (p : List Byte) (c : Option ReqCtx), s.comes m 0x68 p c t → p.length = 4 →
    u8 p 0 = 2 → zeroAt p 1 3 = true → t.sys.role = 0 →
    exec (.authLockoutClear m p) s
      = .next (s.after (((t.modCred fun k => { k with
          fails := [], lockedUntil := none, locks := [] }).lockEventAll 2 0).answer m 0x68 c OK [])))

/-- The rows of lookups, directory writes, population, lock-out and an attempt's waits complete (R141, R249, R251, R260, R269 to
R271, R275, R280). Where the spec is silent the equations rest on readings of the model: notes/assumptions/17.md, 18.md, 20.md,
105.md, 107.md, 109.md, 136.md, 137.md, 147.md, 158.md, 171.md. -/
def Obligations.CredAuthRowsComplete : Prop :=
  (∀ (s : State) (m : Master) (v : Word), s.reaches m CRED_LK_CMD.addr = true →
    exec (.credLkGo m v) s = .next (s.after (s.lookGo v))) ∧
  (∀ (s u v : State) (x : LookReq) (l : List LookReq) (r : LookRes) (ns : BitVec 32) (flash : Bool) (t : Nat),
    u = s.advance t → u.cred.looks = x :: l → u.awake = true → u.popWaits = false →
    (u.modCred fun c => { c with looks := l }).lookRun x ns.toNat flash = (v, r) →
    exec (.lookupDone ns flash t) s
      = .next (s.after (if x.who = 0 then v.lookShow r else v.modCred fun c =>
          { c with found := c.found ++ [r] }).flashFollow.credBoundary)) ∧
  (∀ (s u : State) (t : Nat), u = s.advance t → u.cred.mapLoading = true → u.awake = true → u.hif.flashOk = true →
    exec (.revmapLoaded true t) s
      = .next (s.after ((u.modCred fun c => { c with mapLoading := false }).popShow.mapCopy_.put CRED_STATUS_MAP_LOADED 1)) ∧
    exec (.revmapLoaded false t) s
      = .next (s.after (((u.modCred fun c => { c with mapLoading := false }).popShow.raise FID_CRED_FLASH).raise FID_CRED_REVMAP))) ∧
  (∀ (s u : State) (t : Nat), u = s.advance t → u.cred.build = 1 → u.awake = true →
    exec (.buildEraseDone t) s
      = .next (s.after ((((u.eraseFlash bankBase bankSize).modCred fun c => { c with build := 2 }).popShow.popDone 0 OK
          0).credBoundary))) ∧
  (∀ (s u : State) (h : PopHdr) (n t : Nat), u = s.advance t → u.cred.build = 3 → u.awake = true →
    parseHdr u.cred.header = some h → u.verifyBank h = (true, n) →
    exec (.buildCommitDone true t) s
      = .next (s.after (((((u.modCred fun c => { c with build := 0, popFailed := false }).programFlash bankBase
          u.cred.header).popShow.mapLoadStart).popDone 2 OK n).credBoundary))) ∧
  (∀ (s : State) (t : Nat), nextUnlock s.cred.locks = some t →
    exec .credLockExpiry s
      = .next (s.after ((s.advanceLp t).modCred fun c => { c with
          locks := c.locks.map fun r => if r.until_ = some t then { r with until_ := none } else r }))) ∧
  (∀ (s : State) (t : Nat), s.cred.lockedUntil = some t →
    exec .globalLockExpiry s = .next (s.after ((s.advanceLp t).modCred fun c => { c with lockedUntil := none }))) ∧
  (∀ (s u : State) (w : RowWrite) (l : List RowWrite) (t : Nat), u = s.advance t → u.cred.rows = w :: l → u.awake = true →
    w.kind = 2 →
    exec (.directoryRowWritten t) s
      = .next (s.after ((u.modCred fun c => { c with rows := l }).writeMem (dirAddr w.idx) (padTo 64 w.row)).credBoundary)) ∧
  (∀ (s : State) (a : Attempt), s.auth.att = some a → a.stage = 2 → a.chans = [] → a.answers ≠ [] →
    exec .answerWindowEnd s
      = .next (s.after ((s.advance (s.windowEnd a)).setAtt { a with
          stage := 3, answers := a.answers.mergeSort fun x y => x.at_ ≤ y.at_ }))) ∧
  (∀ (s : State) (a : Attempt), s.auth.att = some a → a.stage = 6 → a.xch = none →
    exec .keyProofTimeout s
      = .next (s.after (((s.advance (a.exp + Config.usTicks * s.get CRED_AUTH_CFG_SLOT_TOL_US)).abortRun a).authKeyEnd a TIMEOUT)))

/-- The REL commands of the host complete (R318 to R323). Where the spec is silent the equations rest on readings of the model:
notes/assumptions/173.md. -/
def Obligations.RelCommandsComplete : Prop :=
  (∀ (s t u v : State) (m : Master) (p : List Byte) (cfg pol fb : Nat) (q : Bool) (c : Option ReqCtx), s.comes m 0x70 p c t →
    firstFail [lenIs p 16, paramOk (u8 p 0 < 2 && u8 p 1 < 3 && within 5 120 (u8 p 2) && u8 p 3 < 64 && within 2 50 (u8 p 5)
      && u16 p 6 ≤ 1000 && within 1 50 (u8 p 8) && within 5 250 (u8 p 9) && within 1 20 (u8 p 10) && zeroAt p 11 5)] = none →
    cfg = u8 p 2 + 2 ^ 8 * bitsAt (u8 p 4) 0 4 + 2 ^ 12 * bitsAt (u8 p 4) 4 4 + 2 ^ 16 * u16 p 6 →
    pol = u8 p 3 + 2 ^ 8 * u8 p 1 + 2 ^ 16 * u8 p 5 → fb = u8 p 8 + 2 ^ 8 * u8 p 9 + 2 ^ 16 * u8 p 10 →
    t.flag REL_CTRL_LOCK = false → q = decide (t.rel.sess = 0) →
    u = ((t.stage q 10 REL_CFG cfg).stage q 10 REL_POLICY pol).stage q 10 REL_FB_CFG fb →
    v = (if decide (u8 p 0 = 1) != u.flag REL_CTRL_EN then (u.putB REL_CTRL_EN (u8 p 0 = 1)).relEnable (u8 p 0 = 1) else u) →
    exec (.relConfig m p) s = .next (s.after (v.answer m 0x70 c OK [byte (bit01 !q)]))) ∧
  (∀ (s t u : State) (m : Master) (p : List Byte) (c : Option ReqCtx), s.comes m 0x71 p c t → p.length = 4 → u8 p 0 < 3 →
    u8 p 1 = 0 → u16 p 2 ≤ 3600 → t.sys.role = 0 → t.sys.test = false → t.sys.cfgDefaults = false →
    u = t.modRel (fun r => { r with
      armMode := u8 p 0, armUntil := if u8 p 0 ≠ 0 ∧ u16 p 2 ≠ 0 then some (t.time.lp + lpOfS (u16 p 2)) else none }) →
    exec (.relArm m p) s = .next (s.after (u.answer m 0x71 c OK ([byte (u8 p 0), 0] ++ le 2 u.armSeconds)))) ∧
  (∀ (s t : State) (m : Master) (c : Option ReqCtx), s.comes m 0x72 [] c t → t.rel.sess = 0 →
    exec (.relStatus m []) s
      = .next (s.after (t.answer m 0x72 c OK
          ([byte (t.unit 10).code, byte 0, byte t.rel.armMode, byte (t.rel.lastCause.getD 0xFF)] ++ le 2 (t.get REL_SESSION_ID)
            ++ le 2 t.armSeconds ++ le 8 0 ++ le 4 0 ++ padTo 4 t.rel.key
            ++ [byte t.rel.role, byte t.rel.source, byte t.relBits,
                byte (sumNat ((List.range 4).map fun l =>
                  bit01 (t.ewLine l).on * 2 ^ l + bit01 (t.ewLine l).pend.isSome * 2 ^ (4 + l))),
                byte t.rel.tt.pat, byte (t.get REL_TT_STATUS_I_ON), byte (t.get REL_TT_STATUS_I_OFF), 0])))) ∧
  (∀ (s t : State) (m : Master) (c : Option ReqCtx), s.comes m 0x72 [] c t → t.rel.sess = 2 →
    exec (.relStatus m []) s
      = .next (s.after (t.answer m 0x72 c OK
          ([byte (t.unit 10).code, byte 2, byte t.rel.armMode, byte (t.rel.lastCause.getD 0xFF)] ++ le 2 (t.get REL_SESSION_ID)
            ++ le 2 t.armSeconds ++ le 8 t.rel.tOpen
            ++ le 4 ((t.rel.toBase + Config.sTicks * t.get REL_CFG_SESSION_TO_S - t.time.ref) / Config.msTicks)
            ++ padTo 4 t.rel.key
            ++ [byte t.rel.role, byte t.rel.source, byte t.relBits,
                byte (sumNat ((List.range 4).map fun l =>
                  bit01 (t.ewLine l).on * 2 ^ l + bit01 (t.ewLine l).pend.isSome * 2 ^ (4 + l))),
                byte t.rel.tt.pat, byte (t.get REL_TT_STATUS_I_ON), byte (t.get REL_TT_STATUS_I_OFF), 0])))) ∧
  (∀ (s t : State) (m : Master) (p : List Byte) (c : Option ReqCtx), s.comes m 0x74 p c t → p.length = 12 → u8 p 0 = 0 →
    u8 p 1 < 4 → u8 p 2 < 8 → u8 p 3 < 64 → u16 p 4 ≤ 10000 → within 1 3600 (u16 p 6) = true → 1 ≤ u8 p 8 →
    zeroAt p 9 3 = true →
    exec (.ewakeConfig m p) s
      = .next (s.after (((t.setReg (EWAKE_CFG (u8 p 1)).addr
          (BitVec.ofNat 32 (u8 p 2 + 2 ^ 8 * u8 p 3 + 2 ^ 16 * u8 p 8))).setReg (EWAKE_TIME (u8 p 1)).addr
            (BitVec.ofNat 32 (u32 p 4))).answer m 0x74 c OK []))) ∧
  (∀ (s t : State) (m : Master) (p : List Byte) (c : Option ReqCtx), s.comes m 0x74 p c t → p.length = 16 → u8 p 0 = 1 →
    zeroAt p 1 3 = true → (List.range 6).all (fun i => u16 p (4 + 2 * i) ≤ 60000) = true →
    exec (.ewakeConfig m p) s
      = .next (s.after ((((t.put EWAKE_PRED0 (u32 p 4)).put EWAKE_PRED1 (u32 p 8)).put EWAKE_PRED2 (u32 p 12)).answer m 0x74 c
          OK []))) ∧
  (∀ (s t u : State) (m : Master) (p : List Byte) (ls : List Nat) (c : Option ReqCtx), s.comes m 0x74 p c t → p.length = 12 →
    u8 p 0 = 2 → u8 p 1 < 16 → zeroAt p 2 2 = true → u64 p 4 = 0 →
    ls = (List.range 4).filter (fun l => bitAt (u8 p 1) l == 1) → t.ewActive = true →
    (ls.any fun l => !t.flag (EWAKE_CFG_EN l)) = false →
    u = ls.foldl (fun s l => if (s.ewLine l).on then s.ewExtend l (max (u64 p 4) s.time.ref) else s.ewPlace l 0xFF (u64 p 4)) t →
    exec (.ewakeConfig m p) s
      = .next (s.after (u.answer m 0x74 c OK
          [byte (sumNat ((ls.filter fun l => (u.ewLine l).on || (u.ewLine l).pend.isSome).map fun l => 2 ^ l))]))) ∧
  (∀ (s t u : State) (m : Master) (p : List Byte) (w : Nat) (c : Option ReqCtx), s.comes m 0x75 p c t → p.length = 12 →
    u8 p 0 < 4 → u8 p 1 < 4 → within 4 40 (u8 p 2) = true → within 5 50 (u8 p 3) = true → zeroAt p 5 3 = true →
    (List.range 4).all (fun i => 5 ≤ u8 p (8 + i)) = true → t.flag REL_CTRL_LOCK = false →
    w = u8 p 0 + u8 p 1 * 4 + 2 ^ 8 * u8 p 2 + 2 ^ 16 * u8 p 3 + 2 ^ 24 * u8 p 4 →
    u = (t.put REL_TT_CFG w).put REL_TT_PAT (u32 p 8) →
    exec (.telltaleConfig m p) s = .next (s.after (u.answer m 0x75 c OK [byte u.rel.tt.pat])))

/-- The rows of the release session, and its readback complete (R290, R294 to R297, R299, R301). Where the spec is silent the
equations rest on readings of the model: notes/assumptions/110.md, 111.md, 173.md. -/
def Obligations.RelRowsComplete : Prop :=
  (∀ (s u : State) (m : Master) (v : Nat), s.reaches m REL_CMD.addr = true → s.rel.sess = 0 → s.openChecks = none →
    s.cntTake 47 = some (v, u) → u.rel.sess = 0 →
    exec (.relCmdOpen m) s = .next (s.after (u.relStart v false))) ∧
  (∀ (s u : State) (m : Master) (v : Nat), s.reaches m REL_CMD.addr = true → s.rel.sess = 2 → s.openChecks = none →
    s.cntTake 47 = some (v, u) → u.rel.sess = 2 →
    exec (.relCmdOpen m) s
      = .next (s.after (((u.relTakeKey v false).oneShot.modRel fun r => { r with
          toBase := (u.relTakeKey v false).oneShot.stamp }).relOpened true))) ∧
  (∀ (s : State) (m : Master), s.reaches m REL_CMD.addr = true → s.rel.sess = 2 →
    exec (.relCmdEnd m) s = .next (s.after ((s.relEndRecord (s.endOf (s.endNow 2)) false).relClose))) ∧
  (∀ (s : State), s.rel.sess = 1 → s.rel.a = false → s.rel.fbB = false →
    exec .openingGap s = .next (s.after (s.advance (s.rel.gapAt + s.relGap)).relRaiseA)) ∧
  (∀ (s : State), s.rel.sess = 3 →
    exec .closingGap s = .next (s.after ((s.advance (s.rel.gapAt + s.relGap)).driveLine true true).relOff)) ∧
  (∀ (s u : State) (high : Bool) (t : Nat), u = s.advance t → u.rel.sess ≠ 1 → u.rel.fbB ≠ high →
    exec (.startFbChange true high t) s
      = .next (s.after (u.modRel fun r => { r with fbB := high, fbBAt := u.time.now }))) ∧
  (∀ (s u : State) (high : Bool) (t : Nat), u = s.advance t → u.rel.sess ≠ 1 → u.rel.fbA ≠ high →
    exec (.startFbChange false high t) s
      = .next (s.after (u.modRel fun r => { r with fbA := high, fbAAt := u.time.now }))) ∧
  (∀ (s u : State) (t : Nat), u = s.advance t → u.rel.sess = 1 → u.rel.a = true → u.rel.fbA = false →
    exec (.startFbChange false true t) s
      = .next (s.after (u.modRel fun r => { r with fbA := true, fbAAt := u.time.now }).relReached)) ∧
  (∀ (s : State), s.fbBad false = true → s.unit 10 ≠ .off → s.asleep = false →
    exec (.readbackFault false) s = .next (s.after ((s.advance (s.fbDue false)).relFbFault false))) ∧
  (∀ (s : State), s.fbBad true = true → s.unit 10 ≠ .off → s.asleep = false →
    exec (.readbackFault true) s = .next (s.after ((s.advance (s.fbDue true)).relFbFault true))) ∧
  (∀ (s u : State), s.rel.sess = 2 → u = s.advanceRef (s.rel.toBase + Config.sTicks * s.get REL_CFG_SESSION_TO_S) →
    exec .sessionTimeout s = .next (s.after ((u.relEndRecord (u.endOf (u.endNow 1)) false).relClose))) ∧
  (∀ (s : State) (t : Nat), s.rel.armUntil = some t →
    exec .armExpiry s = .next (s.after ((s.advanceLp t).modRel fun r => { r with armMode := 0, armUntil := none })))

/-- The rows of the doors, the early-wake lines and the tell-tale complete (R297, R303 to R311). Where the spec is silent the
equations rest on readings of the model: notes/assumptions/90.md, 172.md. -/
def Obligations.DoorEwakeTelltaleRowsComplete : Prop :=
  (∀ (s u v : State) (i : Fin 4) (high : Bool) (t : Nat),
    u = ((s.advance t).tmrInput (0x20 + i) high).putBit PAD_IN_DOOR i high →
    v = u.modRel (fun r => { r with doors := r.doors.filter (·.idx != i.val) }) → (high == v.bit REL_CFG_DOOR_POL i) = true →
    exec (.doorInEdge i high t) s = .next (s.after v)) ∧
  (∀ (s u v : State) (i : Fin 4) (high : Bool) (t : Nat),
    u = ((s.advance t).tmrInput (0x20 + i) high).putBit PAD_IN_DOOR i high →
    v = u.modRel (fun r => { r with doors := r.doors.filter (·.idx != i.val) }) → (high == v.bit REL_CFG_DOOR_POL i) = false →
    exec (.doorInEdge i high t) s
      = .next (s.after ((v.modRel fun r => { r with
          doors := r.doors ++ [{ idx := i.val, at_ := v.time.now, ref := v.pinStamp, quality := v.quality }] }).wakeSource 9 i
            (v.bit PWR_WAKE_CFG_DOOR_LVL i)))) ∧
  (∀ (s u : State) (i : Fin 4) (e : DoorEdge), s.rel.doors.find? (·.idx == i.val) = some e →
    u = (s.advance (s.doorDue e)).modRel
      (fun r => { r with doors := r.doors.filter (·.idx != i.val) }) →
    exec (.doorQualified i) s
      = .next (s.after ((if u.doorEnds e then u.relEndCause (e.ends (u.doorDue e)) else u).ewFire 3 e.ref))) ∧
  (∀ (s : State) (l : Fin 4) (t : Nat),
    exec (.relEwakeRb l t) s = .next (s.after ((s.advance t).raise FID_REL_EWAKE_RB l))) ∧
  (∀ (s : State) (l : Fin 4) (t : Nat), (s.ewLine l).off = some t → (s.ewLine l).on = true → (s.ewLine l).slot = none →
    s.awake = true → s.ewActive = true →
    exec (.ewakeDeassert l) s = .next (s.after ((s.advanceRef t).ewDrop l))) ∧
  (∀ (s : State) (t : Nat), s.unitOn 10 = true → s.pwr.st = .p0 → s.rel.tt.pat < 2 → s.ttWanted ≠ s.rel.tt.pat →
    exec (.ttPhase t) s = .next (s.after ((s.advance t).ttBegin s.ttWanted))) ∧
  (∀ (s u : State) (t : Nat), s.unitOn 10 = true → s.pwr.st = .p0 → 2 ≤ s.rel.tt.pat → s.ttWanted = s.rel.tt.pat →
    u = s.advance (s.rel.tt.at_ + s.ttPhaseTicks) →
    exec (.ttPhase t) s
      = .next (s.after (u.setTt { s.rel.tt with
          on := !s.rel.tt.on, at_ := u.time.now, measured := false
          amps := if s.rel.tt.on then s.rel.tt.amps else u.get REL_TT_CFG_TT_I }))) ∧
  (∀ (s u : State) (t : Nat), s.pwr.st = .p3 ∨ s.pwr.st = .p4 → 2 ≤ s.rel.tt.pat →
    u = s.advance (s.rel.tt.at_ + s.ttPhaseTicks) →
    exec (.ttPhase t) s
      = .next (s.after (u.setTt { s.rel.tt with
          on := !s.rel.tt.on, at_ := u.time.now, measured := false
          amps := if s.rel.tt.on then s.rel.tt.amps else u.get REL_TT_CFG_TT_I }))) ∧
  (∀ (s u v : State) (x : Byte) (t : Nat), s.rel.tt.measured = false → s.unitOn 10 = true → s.awake = true →
    s.flag REL_TT_CFG_TT_EN = true → within (s.rel.tt.at_ + Config.msTicks / 2) (Config.msTicks + s.rel.tt.at_) t = true →
    s.rel.tt.on = false → s.rel.tt.fresh = false → s.rel.tt.resOff = 0 → x.toNat < 10 → u = s.advance t →
    v = (u.put REL_TT_STATUS_I_OFF x.toNat).put REL_TT_STATUS_RESULT 0 →
    exec (.ttMeasure x t) s
      = .next (s.after (v.setTt { s.rel.tt with measured := true, gotOff := true, resOff := 0, fresh := false }))) ∧
  (∀ (s u : State), s.unitOn 10 = true → s.awake = true → s.flag REL_TT_CFG_TT_EN = true →
    u = (s.advanceLp (s.rel.tt.sumLp + lpOfS 86400)).ttRecord 4 →
    exec .ttSummary s
      = .next (s.after (u.setTt { u.rel.tt with least := none, greatest := none, sumLp := u.time.lp })))

/-- The AES, counter and generator commands of the host complete (R360 to R366). Where the spec is silent the equations rest on
readings of the model: notes/assumptions/10.md, 23.md, 62.md, 103.md, 154.md, 174.md, 175.md. -/
def Obligations.AesCntRngCommandsComplete : Prop :=
  (∀ (s t u v : State) (m : Master) (p : List Byte) (outs : List (List Byte)) (k : KeySlot) (c : Option ReqCtx),
    s.comes m 0x80 p c t → within 1 16 (u8 p 4) = true → p.length = 40 + 16 * u8 p 4 → u8 p 0 = 0 → u8 p 1 = 0 → u8 p 2 < 64 →
    u8 p 3 = 0 → zeroAt p 5 3 = true → zeroAt p 8 32 = true → t.unitOn 11 = true → t.slot (u8 p 2) = some k → k.usage = 1 →
    usersHave k.users m = true → outs = (chunks 16 (u8 p 4) (p.drop 40)).map (fun b => aesEncrypt k.key b) →
    u = (t.blockDone 1).wait ((t.blockDone 1).busTicks ((if ((t.blockDone 1).engine 1).expanded != some (u8 p 2) then 20 else 0)
      + u8 p 4 * (8 + k.key.length / 4))) →
    v = (u.putRegBytes (AES_E_DOUT 1) 4 (outs.getLastD [])).put (AES_E_STATUS_DONE 1) 1 →
    (t.blockDone 1).slot (u8 p 2) = some k →
    exec (.aesBlock m p) s
      = .next (s.after ((v.setEngine 1 { expanded := some (u8 p 2) }).answer m 0x80 c OK (outs.flatMap id)))) ∧
  (∀ (s t u v : State) (m : Master) (p key : List Byte) (outs : List (List Byte)) (c : Option ReqCtx),
    s.comes m 0x80 p c t → within 1 16 (u8 p 4) = true → p.length = 40 + 16 * u8 p 4 → u8 p 0 = 1 → u8 p 1 = 1 → u8 p 2 = 0 →
    u8 p 3 < 3 → zeroAt p 5 3 = true → zeroAt p (8 + (16 + 8 * u8 p 3)) (32 - (16 + 8 * u8 p 3)) = true → t.unitOn 11 = true → m = .m0 →
    key = (p.drop 8).take (16 + 8 * u8 p 3) →
    outs = (chunks 16 (u8 p 4) (p.drop 40)).map (fun b => aesDecrypt key b) →
    u = (t.blockDone 1).wait ((t.blockDone 1).busTicks (20 + u8 p 4 * (8 + key.length / 4))) →
    v = (u.putRegBytes (AES_E_DOUT 1) 4 (outs.getLastD [])).put (AES_E_STATUS_DONE 1) 1 →
    exec (.aesBlock m p) s
      = .next (s.after (((v.setEngine 1 { expanded := some 64 }).engineClear 1).answer m 0x80 c OK (outs.flatMap id)))) ∧
  (∀ (s t u v : State) (m : Master) (p : List Byte) (st n : Nat) (c : Option ReqCtx), s.comes m 0x81 p c t →
    n = u8 p 5 →
    firstFail [lenIs p 48, paramOk (u8 p 0 < 64 && (u8 p 1 < 64 || u8 p 1 = 0xFE) && u8 p 2 < 3 && u8 p 3 < 4 && u8 p 4 < 2),
      paramOk ([24, 32, 40].contains n && zeroAt p 6 2 && zeroAt p (8 + n) (40 - n))] = none →
    t.unitOn 11 = true → t.sys.role = 0 → t.aes.mrd = none → t.aes.mrdWait = none →
    t.unwrapStart (u8 p 0) (u8 p 1) (u8 p 2) (u8 p 3) ((p.drop 8).take n) (u8 p 4 = 1) false m = (u, OK) →
    (u.wait (unwrapTicks n)).unwrapEnd true = (v, st) →
    exec (.keyUnwrap m p) s
      = .next (s.after ((v.slot (u8 p 0)).elim (v.answer m 0x81 c st []) fun k =>
          v.answer m 0x81 c st ([byte (u8 p 0), byte k.key.length, byte (u8 p 2), byte (u8 p 3)]
            ++ (aesEncrypt k.key (List.replicate 16 0)).take 3 ++ [0])))) ∧
  (∀ (s t : State) (m : Master) (p : List Byte) (c : Option ReqCtx), s.comes m 0x82 p c t → p.length = 8 → m ≠ .m1 →
    exec (.keySlotClear m p) s
      = .next (s.after ((t.clearSlots (u64 p 0)).answer m 0x82 c OK (le 8 (t.heldMask (u64 p 0)))))) ∧
  (∀ (s t u : State) (m : Master) (p : List Byte) (c : Option ReqCtx), s.comes m 0x83 p c t → p.length = 4 →
    u8 p 0 < 64 → zeroAt p 1 3 = true →
    t.cntAsk { n := u8 p 0, src := 0, master := m, ctx := c } = (u, none) →
    exec (.cntIncrement m p) s = .next (s.after u)) ∧
  (∀ (s t : State) (m : Master) (p : List Byte) (c : Option ReqCtx), s.comes m 0x84 p c t → p.length = 1 → u8 p 0 < 64 →
    exec (.cntRead m p) s
      = .next (s.after (t.answer m 0x84 c OK (le 8 (t.cntVal (u8 p 0)) ++ le 6 (cntLimit (u8 p 0))
          ++ [byte (bit01 (cntReserved (u8 p 0))), byte (bit01 (cntLimit (u8 p 0) ≤ t.cntVal (u8 p 0)))])))) ∧
  (∀ (s t : State) (m : Master) (p : List Byte) (c : Option ReqCtx), s.comes m 0x84 p c t → p.length = 1 → u8 p 0 = 0xFF →
    exec (.cntRead m p) s = .next (s.after (t.answer m 0x84 c OK (t.cnt.vals.flatMap (le 6))))) ∧
  (∀ (s t : State) (m : Master) (p : List Byte) (c : Option ReqCtx), s.comes m 0x85 p c t → p.length = 2 →
    within 1 256 (u16 p 0) = true → t.unitOn 12 = true → t.unit 12 = .on → t.pwr.reduced = false → t.rngHalted = false →
    exec (.rngRead m p) s
      = .next (s.after (t.rngAsk { rank := if m = .m0 then 4 else 5, kind := 5, tag := 0, master := m, ctx := c,
                                   left := u16 p 0 }))) ∧
  (∀ (s t : State) (m : Master) (p : List Byte) (c : Option ReqCtx), s.comes m 0x86 p c t → p.length = 4 → u8 p 0 = 0 →
    zeroAt p 1 3 = true → t.unitOn 12 = true → t.pwr.reduced = false →
    exec (.rngSelftest m p 3) s = .next (s.after ((t.wait (60 * Config.usTicks)).answer m 0x86 c OK [byte 3])) ∧
    exec (.rngSelftest m p 0) s
      = .next (s.after (((t.wait (60 * Config.usTicks)).rngFailed [5, 6]).answer m 0x86 c RNG_HEALTH [byte 0]))) ∧
  (∀ (s t : State) (m : Master) (p : List Byte) (x : BitVec 2) (c : Option ReqCtx), s.comes m 0x86 p c t → p.length = 4 →
    u8 p 0 = 1 → zeroAt p 1 3 = true → t.unitOn 12 = true → t.pwr.reduced = false → t.range.run = none → t.auth.att = none →
    exec (.rngSelftest m p x) s
      = .next (s.after (((t.put TRNG_STATUS_SU_FAILS 0).rngStart 3 false).answer m 0x86 c ACCEPTED [])))

/-- The rows of the engines, Mordant, the counters and the generator complete (R324, R325, R327, R331, R334 to R339, R341, R344,
R345, R347, R349, R356). Where the spec is silent the equations rest on readings of the model: notes/assumptions/1.md, 11.md,
16.md, 61.md, 63.md, 154.md, 174.md, 175.md. -/
def Obligations.AesCntRngRowsComplete : Prop :=
  (∀ (s : State) (m : Master) (e : Fin 2), s.reaches m (AES_E_CMD e).addr = true →
    exec (.aesGo m e) s = .next (s.after (aesGoOn m e s)) ∧ exec (.aesClear m e) s = .next (s.after (s.engineClear e))) ∧
  (∀ (s u : State) (e : Fin 2) (b : List Byte) (t : Nat), (s.engine e).run = some (b, t) → u = s.advance t →
    exec (.aesBlockDone e) s
      = .next (s.after (((((u.setEngine e { u.engine e with run := none }).putRegBytes (AES_E_DOUT e) 4 b).put
          (AES_E_STATUS_BUSY e) 0).put (AES_E_STATUS_DONE e) 1)))) ∧
  (∀ (s : State) (m : Master), s.reaches m MRD_CMD.addr = true → exec (.mrdGo m) s = .next (s.after (mrdGoOn m s))) ∧
  (∀ (s u : State) (x : UnwrapRun) (t : Nat), u = s.advance t → u.aes.mrd = some x →
    exec (.unwrapDone t) s = .next (s.after u.mrdFinish.mrdNext)) ∧
  (∀ (s : State) (m : Master) (n : Fin 64), s.reaches m CNT_INC.addr = true →
    exec (.cntInc m n) s = .next (s.after (cntIncOn m n s))) ∧
  (∀ (s u : State) (r : CntReq) (v t : Nat), (s.advance t).cntRecord true = some (u, r, OK, v) → r.src ≠ 3 → r.src ≠ 4 →
    exec (.counterRecordWritten true t) s = .next (s.after (u.cntFinish r OK v))) ∧
  (∀ (s u v : State) (n : Fin 64) (c t : Nat), u = s.advance t → u.awake = true → u.ceilDue n = true →
    c = min (u.cntCeil n + 16) (cntLimit n) → v = u.writeRecord n c true →
    exec (.ceilingWrite n true t) s
      = .next (s.after (State.serveReserved { v with cnt := { v.cnt with ceil := v.cnt.ceil.set n c } } n).relServe)) ∧
  (∀ (s u v : State) (n : Fin 64) (c t : Nat), u = s.advance t → u.awake = true → u.ceilDue n = true →
    c = min (u.cntCeil n + 16) (cntLimit n) → v = ((u.writeRecord n c false).raise FID_CNT_NV n).ceilingFailed n → n.val ≠ 47 →
    exec (.ceilingWrite n false t) s = .next (s.after v.relServe)) ∧
  (∀ (s u : State) (n : Fin 64) (h t : Nat), u = s.advance t → u.cnt.erase.getD n none = some h → u.awake = true →
    exec (.counterHalfErased n t) s
      = .next (s.after { u.eraseMem (recordAddr n (8 * h)) 64 with
          cnt := { (u.eraseMem (recordAddr n (8 * h)) 64).cnt with
            erase := (u.eraseMem (recordAddr n (8 * h)) 64).cnt.erase.set n none } })) ∧
  (∀ (s u : State) (t : Nat), u = s.advance t → u.cntLoaded = false → u.awake = true → u.fenced 21 = false →
    exec (.cntLoaded t) s
      = .next (s.after ((List.range 64).foldl State.serveReserved
          (((List.range 64).foldl State.loadCounter u).put CNT_STATUS_LOADED 1)).relServe)) ∧
  (∀ (s u v w : State) (t : Nat), s.unitOn 12 = true → s.awake = true → s.pwr.reduced = false →
    s.get TRNG_STATUS_GEN = genGathering →
    u = (List.range 4).foldl (fun s k => (s.fresh 16).2.put (TRNG_OSC k) (s.fresh 16).1) (s.advance t) →
    v = (u.pairFigures none).event EV_RNG_READY ([byte (s.advance t).rng.cause]
      ++ le 4 (satNat 32 (((s.advance t).time.now - (s.advance t).rng.startAt) / Config.usTicks))
      ++ [byte ((s.advance t).get TRNG_STATUS_SU_FAILS)]) →
    w = (v.drbgInstantiate.put TRNG_STATUS_GEN genReady).put TRNG_STATUS_SU_FAILS 0 →
    exec (.rngReady t) s
      = .next (s.after ((w.modRng fun g => { g with cause := 3, poolAt := w.time.now }).refillFifo.pollRngReady))) ∧
  (∀ (s : State) (x : Fin 7) (t : Nat), s.unitOn 12 = true → s.awake = true → s.rngHalted = false →
    exec (.trngHealthFailure x t) s = .next (s.after (((s.advance t).pairFigures (some x.val)).rngFailed [x.val]))) ∧
  (∀ (s u v : State), s.rngReady = true → s.get TRNG_STATUS_GEN = genReseeding →
    u = s.advance (max s.time.now (768 * Config.usTicks + s.rng.poolAt) + 2 * Config.usTicks) →
    v = ((u.drbgReseeded.put TRNG_STATUS_GEN genReady).put TRNG_REQS 0).bump TRNG_RESEEDS →
    exec .reseedDone s = .next (s.after (v.modRng fun g => { g with poolAt := v.time.now }))) ∧
  (∀ (s u v : State) (r : RngReq) (b : List Byte), s.rngReady = true → s.get TRNG_STATUS_GEN = genReady →
    nextReq s.rng.lastHost s.rng.reqs = some r → 64 < r.left → s.drbgDraw 64 = (b, u) →
    v = (if r.rank = 5 then u.modRng fun g => { g with lastHost := some r.master } else u).bump TRNG_REQS → v.get TRNG_REQS < 4096 →
    exec .rngRequestServed s
      = .next (s.after (v.modRng fun g => { g with
          reqs := g.reqs.replace r { r with left := r.left - 64, got := r.got ++ b } }))) ∧
  (∀ (s u v : State) (r : RngReq) (b : List Byte), s.rngReady = true → s.get TRNG_STATUS_GEN = genReady →
    nextReq s.rng.lastHost s.rng.reqs = some r → r.left ≤ 64 → s.drbgDraw r.left = (b, u) →
    v = (if r.rank = 5 then u.modRng fun g => { g with lastHost := some r.master } else u).bump TRNG_REQS → v.get TRNG_REQS < 4096 →
    exec .rngRequestServed s
      = .next (s.after ((v.modRng fun g => { g with reqs := dropReq g.reqs r }).rngGive
          { r with left := 0, got := r.got ++ b } (r.got ++ b)))) ∧
  (∀ (s u : State) (m : Master) (w : Nat) (l : List Nat), s.readable m TRNG_FIFO.addr = true → s.rng.fifo = w :: l →
    u = s.readBack m w →
    exec (.trngFifoRead m) s
      = .next (s.after (State.refillFifo { u with rng := { u.rng with fifo := l } })))

/-- The HFR commands of the host complete (R390 to R394). Where the spec is silent the equations rest on readings of the model:
notes/assumptions/37.md, 112.md, 176.md. -/
def Obligations.HfrCommandsComplete : Prop :=
  (∀ (s t u v : State) (m : Master) (p : List Byte) (q : Bool) (c : Option ReqCtx), s.comes m 0x90 p c t →
    firstFail [lenIs p 16, paramOk (u8 p 0 < 2 && zeroAt p 1 3
      && (bitsAt (u32 p (4 + 4 * 0)) 6 2 = 0 && within 8 14 (bitsAt (u32 p (4 + 4 * 0)) 8 8) && bitsAt (u32 p (4 + 4 * 0)) 16 16 < 8)
      && (bitsAt (u32 p (4 + 4 * 1)) 6 2 = 0 && within 8 14 (bitsAt (u32 p (4 + 4 * 1)) 8 8) && bitsAt (u32 p (4 + 4 * 1)) 16 16 < 8)
      && within 2 100 (bitsAt (u32 p 12) 0 8) && within 500 10000 (bitsAt (u32 p 12) 8 16) && bitsAt (u32 p 12) 24 8 < 2)]
      = none → t.flag HFR_CTRL_LOCK = false → q = t.hfr.field.isNone →
    u = ((t.stage q 13 (HFR_PORT_CFG 0) (u32 p 4)).stage q 13 (HFR_PORT_CFG 1) (u32 p 8)).stage q 13 HFR_TAP_CFG (u32 p 12) →
    v = (if decide (u8 p 0 = 1) != u.flag HFR_CTRL_EN then (u.putB HFR_CTRL_EN (u8 p 0 = 1)).hfrEnable (u8 p 0 = 1) else u) →
    exec (.hfrConfig m p) s = .next (s.after (v.answer m 0x90 c OK [byte (v.unit 13).code]))) ∧
  (∀ (s t u : State) (m : Master) (p : List Byte) (cfg thr : Nat) (c : Option ReqCtx), s.comes m 0x91 p c t → cfg = u32 p 0 →
    thr = u32 p 4 →
    firstFail [lenIs p 12, paramOk (bitsAt cfg 4 4 = 0 && within 100 1000 (bitsAt cfg 8 10) && bitsAt cfg 18 6 = 0
      && within 1 63 (bitsAt cfg 24 8) && within 1 1023 (bitsAt thr 0 16) && within 1 2048 (bitsAt thr 16 16) && u8 p 8 < 4
      && zeroAt p 9 3)] = none → u = t.relearn (u8 p 8) → (u.pingEn 0 || u.pingEn 1) = true →
    exec (.hfrPingConfig m p) s
      = .next (s.after ((u.modHfr fun h => { h with pend := some (BitVec.ofNat 32 cfg, BitVec.ofNat 32 thr) }).answer m 0x91 c
          OK []))) ∧
  (∀ (s t u : State) (m : Master) (p : List Byte) (cfg thr : Nat) (c : Option ReqCtx), s.comes m 0x91 p c t → cfg = u32 p 0 →
    thr = u32 p 4 →
    firstFail [lenIs p 12, paramOk (bitsAt cfg 4 4 = 0 && within 100 1000 (bitsAt cfg 8 10) && bitsAt cfg 18 6 = 0
      && within 1 63 (bitsAt cfg 24 8) && within 1 1023 (bitsAt thr 0 16) && within 1 2048 (bitsAt thr 16 16) && u8 p 8 < 4
      && zeroAt p 9 3)] = none → u = t.relearn (u8 p 8) → (u.pingEn 0 || u.pingEn 1) = false →
    exec (.hfrPingConfig m p) s
      = .next (s.after ((u.pingApply 0 (BitVec.ofNat 32 cfg) (BitVec.ofNat 32 thr)).answer m 0x91 c OK []))) ∧
  (∀ (s t u : State) (m : Master) (p : List Byte) (c : Option ReqCtx), s.comes m 0x92 p c t →
    firstFail [lenIs p 8, paramOk (u8 p 0 < 2 && u8 p 1 < 3 && u8 p 2 < 4 && u8 p 3 < 8 && (u8 p 1 = 1 || u8 p 4 = 0)
        && u8 p 5 = 0 && within 10 1000 (u16 p 6)),
      paramOk (!(decide (bitAt (u8 p 3) 1 = 1) && !decide (bitAt (u8 p 3) 0 = 1))
        && !(decide (u8 p 1 = 2) && (decide (u8 p 2 = 3) || decide (bitAt (u8 p 3) 1 = 1) || decide (bitAt (u8 p 3) 0 = 1))))]
      = none → t.hfrStart (u8 p 0) (u8 p 1) (u8 p 2) (u8 p 3) (u8 p 4) (u16 p 6) = (u, ACCEPTED) →
    exec (.hfrActivate m p) s = .next (s.after (u.answer m 0x92 c ACCEPTED (le 2 t.hfr.nextAct)))) ∧
  (∀ (s t : State) (m : Master) (p : List Byte) (x : Nat × Bool) (e : HfrExch) (c : Option ReqCtx), s.comes m 0x93 p c t →
    p.length = 6 + u16 p 4 → u8 p 0 < 2 → u8 p 1 < 2 → within 1 5000 (u16 p 2) = true → within 1 256 (u16 p 4) = true →
    t.hfr.flow = none → t.hfr.exch = none → t.padHeld 8 = false → t.hfr.field = some (u8 p 0) → t.hfr.target = some x →
    x.1 = u8 p 0 → (u8 p 1 = 0 ∨ x.2 = true) →
    e = { port := u8 p 0, master := m, ctx := c, due := t.time.now + Config.msTicks * u16 p 2 } →
    exec (.hfrExchange m p) s
      = .next (s.after ((t.modHfr fun h => { h with exch := some e }).hfrSend (p.drop 6)))) ∧
  (∀ (s t u : State) (m : Master) (p : List Byte) (q : Nat) (c : Option ReqCtx), s.comes m 0x94 p c t → p.length = 4 →
    u8 p 0 < 4 → u8 p 1 < 2 → zeroAt p 2 2 = true → t.hfr.field = some q →
    u = (if bitAt (u8 p 0) q == 1 then t.hfrCut BAD_STATE 0 else t) →
    exec (.hfrFieldOff m p) s
      = .next (s.after ((if u8 p 1 = 1 then u.relearn (u8 p 0) else u).answer m 0x94 c OK [])))

/-- The rows of pings, activations, exchanges and the key flow complete (R368 to R380, R391 to R393). Where the spec is silent the
equations rest on readings of the model: notes/assumptions/1.md, 112.md, 137.md, 176.md. -/
def Obligations.HfrRowsComplete : Prop :=
  (∀ (s : State), s.pwr.st = .p2 →
    exec .pingReferenceStart s = .next (s.after (s.modHfr fun h => { h with pingRef := true }))) ∧
  (∀ (s u v : State) (port : Fin 2) (amp : BitVec 16) (phase : BitVec 12), s.pwr.st ≠ .p4 → s.pingEn port = true →
    s.hfr.pend = none → u = s.advanceLp (s.hfr.pingLp.getD port 0) →
    v = u.modHfr (fun h => { h with
      pingLp := h.pingLp.set port (lpStepAfter (s.hfr.pingLp.getD port 0) u.pingPeriod u.time.lp), pingRef := false }) →
    v.pingEn port = true → v.hfr.field = none → v.fenced 13 = false → v.safeState = false → v.forcedMode 4 = false →
    (((v.bump HFR_PINGS).put (HFR_PING_MEAS_AMP port) amp.toNat).put (HFR_PING_MEAS_PHASE port) phase.toNat).hfr.relearn.getD port
      false = true →
    exec (.hfrPing port amp phase false) s
      = .next (s.after ((((v.bump HFR_PINGS).put (HFR_PING_MEAS_AMP port) amp.toNat).put (HFR_PING_MEAS_PHASE port)
          phase.toNat).pingLearn port amp.toNat phase.toNat))) ∧
  (∀ (s u v w : State) (port : Fin 2) (amp : BitVec 16) (phase : BitVec 12), s.pwr.st ≠ .p4 → s.pingEn port = true →
    s.hfr.pend = none → u = s.advanceLp (s.hfr.pingLp.getD port 0) →
    v = u.modHfr (fun h => { h with
      pingLp := h.pingLp.set port (lpStepAfter (s.hfr.pingLp.getD port 0) u.pingPeriod u.time.lp), pingRef := false }) →
    v.pingEn port = true → v.hfr.field = none → v.fenced 13 = false → v.safeState = false → v.forcedMode 4 = false →
    w = ((v.bump HFR_PINGS).put (HFR_PING_MEAS_AMP port) amp.toNat).put (HFR_PING_MEAS_PHASE port) phase.toNat →
    w.hfr.relearn.getD port false = false → w.flag (HFR_PING_BASE_VALID port) = true →
    exec (.hfrPing port amp phase false) s = .next (s.after (w.pingCompare port amp.toNat phase.toNat))) ∧
  (∀ (s u : State) (a : HfrAct), s.hfr.act = some a → a.searching = false →
    u = s.advance (a.since + Config.usTicks * s.get HFR_TAP_CFG_EXT_CHECK_US) →
    exec (.extCheckEnd false) s
      = .next (s.after ((u.modHfr fun h => { h with act := some { a with searching := true, since := u.time.now } }).fieldOn
          a.port)) ∧
    exec (.extCheckEnd true) s
      = .next (s.after ((((u.put HFR_STATUS_EXT_FIELD 1).bump HFR_EXT_FIELD).fieldEvent a.port 0 4).actFail a BUSY))) ∧
  (∀ (s u : State) (a : HfrAct) (multi : Bool) (uid ats : List Byte) (sak : Byte) (atq : BitVec 16) (t : Nat),
    s.hfr.act = some a → a.searching = true → s.hfr.field = some a.port → u = s.advance t → bitAt a.flags 1 = 0 →
    exec (.hfrActivated true multi uid sak atq ats t) s
      = .next (s.after ((u.modHfr fun h => { h with
          act := none, target := some (a.port, decide (bitAt a.flags 0 = 1)), lastAt := u.time.now }).actEvent a OK multi
            (uid.take 10) sak.toNat atq.toNat ats))) ∧
  (∀ (s : State) (a : HfrAct), s.hfr.act = some a → a.searching = true →
    exec .hfrActivateTimeout s = .next (s.after ((s.advance (a.since + a.timeout)).actFail a TIMEOUT))) ∧
  (∀ (s : State) (e : HfrExch) (b : List Byte) (t : Nat), s.hfr.exch = some e →
    exec (.targetResponse b true t) s = .next (s.after ((s.advance t).exchEnd OK (b.take 256))) ∧
    exec (.targetResponse b false t) s = .next (s.after ((s.advance t).exchEnd INTEGRITY []))) ∧
  (∀ (s : State) (e : HfrExch), s.hfr.exch = some e →
    exec .hfrExchangeTimeout s = .next (s.after ((s.advance e.due).exchEnd TIMEOUT []))) ∧
  (∀ (s : State) (q : Nat), s.hfr.field = some q → s.hfr.flow = none → s.hfr.act = none → s.hfr.exch = none →
    exec .hfrFieldTimeout s = .next (s.after ((s.advance (1000 * Config.msTicks + s.hfr.lastAt)).fieldOff 1))) ∧
  (∀ (s u : State) (port : Fin 2) (t : Nat), u = s.advance t → u.hfr.field = some port.val →
    exec (.hfrOvercurrent port t) s
      = .next (s.after (((u.put HFR_STATUS_OC 1).raise FID_HFR_OVERCURRENT).fieldOff 2))) ∧
  (∀ (s u : State) (f g : HfrFlow) (b : List Byte) (t : Nat), s.hfr.flow = some f → f.stage = 1 → u = s.advance t →
    b.length = 29 → u8 b 0 = 0 → g = { f with stage := 2, key := (b.drop 1).take 12, nk := b.drop 13 } →
    u.lockedOut g.key = false →
    exec (.helloReply b t) s
      = .next (s.after ((u.modHfr fun h => { h with flow := some g }).lookAsk
          { who := 2, id := g.key, kslot := 23, noUnwrap := false }))) ∧
  (∀ (s u : State) (f : HfrFlow) (r : LookRes) (b : List Byte) (d t st : Nat), s.hfr.flow = some f → f.stage = 3 →
    u = s.advance t → f.look = some r → b.length = 15 → u8 b 0 = 0 → st = u.tapStatus f r b d →
    exec (.proofReply b false d t) s
      = .next (s.after (if st = OK then u.tapPassed f r (u32 b 1)
          else ((u.countOutcome st f.key true).tapEvent f st (u32 b 1) false false).tapClose f 1))) ∧
  (∀ (s u : State) (f : HfrFlow) (b : List Byte) (d t : Nat), s.hfr.flow = some f → f.stage = 3 → u = s.advance t →
    exec (.proofReply b true d t) s = .next (s.after (u.flowFail f RELAY_SUSPECT))) ∧
  (∀ (s : State) (f : HfrFlow) (t : Nat), s.hfr.flow = some f → f.stage = 3 →
    exec (.tapFdtTimeout t) s = .next (s.after ((s.advance t).flowFail f RELAY_SUSPECT))) ∧
  (∀ (s : State) (f : HfrFlow) (t : Nat), s.hfr.flow = some f → f.stage = 4 →
    exec (.closeReply t) s = .next (s.after ((s.advance t).flowEnd 0)))

/-- The VLT commands of the host complete (R423, R430 to R434). Where the spec is silent the equations rest on readings of the
model: notes/assumptions/1.md, 117.md. -/
def Obligations.VltCommandsComplete : Prop :=
  (∀ (s t : State) (m : Master) (p : List Byte) (c : Option ReqCtx), s.comes m 0xA0 p c t →
    firstFail [lenIs p 8, paramOk (within 8 447 (u16 p 0) && within 1 440 (u16 p 2) && u16 p 0 + u16 p 2 ≤ 448 && u8 p 4 < 128
      && zeroAt p 5 3)] = none → t.vltBars = false → u16 p 2 ≤ 4 →
    exec (.vltRead m p) s
      = .next (s.after (t.addJob { kind := .read, master := m, ctx := c, first := u16 p 0, n := u16 p 2, since := t.time.now }))) ∧
  (∀ (s t u : State) (m : Master) (p : List Byte) (x : VltStream) (c : Option ReqCtx), s.comes m 0xA0 p c t →
    firstFail [lenIs p 8, paramOk (within 8 447 (u16 p 0) && within 1 440 (u16 p 2) && u16 p 0 + u16 p 2 ≤ 448 && u8 p 4 < 128
      && zeroAt p 5 3)] = none → t.vltBars = false → 4 < u16 p 2 → t.vlt.stream = none →
    x = { id := t.vlt.streamId, first := u16 p 0, n := u16 p 2, queue := u8 p 4, unit_ := u16 p 0, since := t.time.now } →
    u = t.addJob { kind := .stream, master := m, first := u16 p 0, n := u16 p 2, since := t.time.now } →
    exec (.vltRead m p) s
      = .next (s.after ((u.modVlt fun v => { v with
          stream := some x, streamId := (v.streamId + 1) % 0x10000 }).answer m 0xA0 c ACCEPTED (le 2 x.id)))) ∧
  (∀ (s t : State) (m : Master) (p : List Byte) (c : Option ReqCtx), s.comes m 0xA1 p c t →
    firstFail [(m != .m1 || s.flag VLT_CTRL_HOST_WR, ACCESS_DENIED), (4 ≤ p.length, BAD_LENGTH),
      paramOk (within 264 447 (u16 p 0) && within 1 4 (u8 p 2) && u16 p 0 + u8 p 2 ≤ 448 && u8 p 3 < 2),
      lenIs p (4 + 60 * u8 p 2)] = none → t.vltBars = false →
    exec (.vltWrite m p) s
      = .next (s.after (t.addJob { kind := .write (u8 p 3 == 1), master := m, ctx := c, first := u16 p 0, n := u8 p 2,
                                   buf := p.drop 4, since := t.time.now }))) ∧
  (∀ (s t : State) (p : List Byte) (c : Option ReqCtx), s.comes .m0 0xA2 p c t → p.length = 12 → vltConfigOk p = true →
    u8 p 0 = 0 → t.vltBars = false → t.flag VLT_CTRL_LOCK = false →
    exec (.vltConfig .m0 p) s
      = .next (s.after (t.addJob { kind := .power (u32 p 4) (u32 p 8), master := .m0, ctx := c, since := t.time.now }))) ∧
  (∀ (s t : State) (p : List Byte) (x : Option (List Byte)) (c : Option ReqCtx), s.comes .m0 0xA2 p c t → p.length = 28 →
    vltConfigOk p = true → u8 p 0 = 1 → t.vltBars = false →
    x = kwUnwrap ((List.range 16).map Config.vaultKey) (p.drop 4) →
    exec (.vltConfig .m0 p) s
      = .next (s.after (x.elim (t.answer .m0 0xA2 c UNWRAP []) fun key =>
          t.addJob { kind := .key (u8 p 1) (u8 p 2) key, master := .m0, ctx := c, since := t.time.now }))) ∧
  (∀ (s t : State) (p : List Byte) (c : Option ReqCtx), s.comes .m0 0xA2 p c t → p.length = 4 → vltConfigOk p = true →
    u8 p 0 = 2 → t.vltBars = false →
    exec (.vltConfig .m0 p) s
      = .next (s.after (t.addJob { kind := .time, master := .m0, ctx := c, since := t.time.now }))) ∧
  (∀ (s t : State) (p : List Byte) (c : Option ReqCtx), s.comes .m0 0xA2 p c t → p.length = 16 → vltConfigOk p = true →
    u8 p 0 = 3 → t.vltBars = false →
    exec (.vltConfig .m0 p) s
      = .next (s.after (t.addJob { kind := .logAppend (u16 p 2) (p.drop 4), master := .m0, ctx := c, since := t.time.now }))) ∧
  (∀ (s t : State) (m : Master) (c : Option ReqCtx), s.comes m 0xA3 [] c t → t.unitOn 14 = true →
    exec (.vltStatus m []) s
      = .next (s.after ((t.modVlt fun v => { v with sessions := 0, fired := 0, recovered := 0 }).answer m 0xA3 c OK
          ([byte t.vpwr, byte t.vlt.proto, byte t.vlt.field, byte (bit01 t.vlt.logic.armed)] ++ le 2 t.vlt.vh
            ++ le 2 t.vlt.vrstore ++ le 4 t.vlt.logic.lastTseq ++ le 4 t.vlt.logic.lastTime ++ le 2 t.vlt.logic.fails
            ++ le 4 t.vlt.lseq ++ le 2 (satNat 16 t.vlt.sessions) ++ le 2 (satNat 16 t.vlt.fired)
            ++ le 2 (satNat 16 t.vlt.recovered) ++ vaultIdBytes)))) ∧
  (∀ (s t : State) (p : List Byte) (c : Option ReqCtx), s.comes .m0 0xA4 p c t → p.length = 8 → u8 p 0 < 2 →
    within 1 20 (u8 p 1) = true → within 30 55 (u8 p 2) = true → u8 p 3 = 0 → t.vltBars = false →
    exec (.vltRelArm .m0 p) s
      = .next (s.after (t.addJob { kind := .arm (u8 p 0 == 1) (u8 p 1) (u8 p 2) (u32 p 4), master := .m0, ctx := c,
                                   since := t.time.now })))

/-- The rows of the wired port and of page writes complete (R403, R404, R419, R420, R423, R424). Where the spec is silent the
equations rest on readings of the model: notes/assumptions/21.md, 115.md, 118.md. -/
def Obligations.VaultMemoryRowsComplete : Prop :=
  (∀ (s u : State) (v : VaultMeas) (i t : Nat) (j : VltJob), s.vltOpen = true → s.vlt.ready = true → s.vaultFree = true →
    s.nextJob = some i → u = (s.advance t).setMeas v → u.vlt.jobs[i]? = some j →
    exec (.wiredOperationGrant v t) s = .next (s.after (u.runJob i j))) ∧
  (∀ (s : State) (i : Nat) (j : VltJob), s.vaultFree = false → s.waitingJobs.head? = some i → s.vlt.jobs[i]? = some j →
    exec .vaultBusyTimeout s
      = .next (s.after ((((s.advance (2 * Config.msTicks + j.since)).bump VLT_BUSY_CNT).raise FID_VLT_PORT).endJob i
          VAULT_BUSY))) ∧
  (∀ (s u : State) (x : VltStream) (b : List Byte) (y : Option VltStream), s.vlt.stream = some x → s.unitOn 14 = true →
    s.awake = true → s.streamItem x = some (b, y) → s.pushItem x.queue b 0x0E = some u →
    exec .vltStreamItem s = .next (s.after (u.modVlt fun t => { t with stream := y }).streamJob)) ∧
  (∀ (s u : State) (x : VltStream), s.vlt.stream = some x → x.phase = 3 → s.awake = true → u = s.advance (Config.sTicks + x.since) →
    exec .vltStreamTimeout s = .next (s.after (u.modVlt fun t => { t with stream := none }).streamJob)) ∧
  (∀ (s u : State) (x : VltStream), s.vlt.stream = some x → x.phase ≠ 1 → x.phase ≠ 3 → s.awake = true →
    u = s.advance (Config.sTicks + x.since) →
    exec .vltStreamTimeout s
      = .next (s.after (u.modVlt fun t => { t with
          stream := some { x with phase := 3, status := QUEUE_FULL, buf := [], since := u.time.now } }).streamJob)) ∧
  (∀ (s u : State) (v : VaultMeas) (w : PageWrite), s.vlt.write = some w → w.stage = 1 →
    u = ((s.advance (w.at_ + w.commitTicks)).setMeas v).nvSteps w.shadowSteps →
    exec (.pageWriteCommitted true v) s
      = .next (s.after ((u.modVlt fun t => { t with
          write := some { w with stage := 4, at_ := ((s.advance (w.at_ + w.commitTicks)).setMeas v).time.now } }).writeEnded w OK))) ∧
  (∀ (s u : State) (v : VaultMeas) (w : PageWrite), s.vlt.write = some w → w.stage = 4 →
    u = ((s.advance (w.at_ + copyTicks)).setMeas v).modVlt (fun t => { t with write := none }) →
    exec (.pageWriteCopyDone true v) s
      = .next (s.after (u.nvSteps (copySteps w.page w.slot (pageImage w.data w.seq))).vaultNext)) ∧
  (∀ (s : State) (k : Nat), s.vlt.ready = true → s.vlt.write = none → s.vlt.req = none → s.vlt.own = [] → s.vlt.jobs = [] →
    s.slotOrder.find? (fun k => slotRetired (s.shadowSlot k)) = some k →
    exec (.retiredSlotErase true) s
      = .next (s.after ((s.wait (2 * Config.msTicks)).nvWrite (slotAddr k) (List.replicate 128 0xFF)))) ∧
  (∀ (s u : State), s.vltOpen = true → s.fenced 14 = false → s.time.servo = .locked →
    u = s.advance (86400 * Config.sTicks + s.vlt.timeAt) →
    exec .lastTimeWrite s
      = .next (s.after ((u.modVlt fun t => { t with timeAt := u.time.now }).addJob
          { kind := .lastTime, master := .m0, since := u.time.now })))

/-- The rows of the vault's supply, field and random source complete (R395, R397, R398, R404, R408, R410, R418). Where the spec is
silent the equations rest on readings of the model: notes/assumptions/114.md, 115.md, 116.md. -/
def Obligations.VaultSupplyRowsComplete : Prop :=
  (∀ (s u v : State) (main : Bool) (x : VaultMeas) (t : Nat), s.vlt.ready = false →
    u = ((s.advance t).setMeas x).modVlt (fun y => { y with
      vddio := main, powerUps := if y.powered then y.powerUps else y.powerUps + 1, powered := true }) →
    v = u.modVlt (fun y => { y with logic := u.loadLogic }) → v.fieldCheck = true →
    exec (.vaultPowerUp main x t) s
      = .next (s.after ((v.recover.modVlt fun y => { y with
          ready := true, live := true, proto := 0, logic := v.recover.loadLogic }).vaultReports.vaultOwn))) ∧
  (∀ (s : State) (t : Nat), s.vlt.powered = true → s.vlt.write = none →
    exec (.vaultBrownOut t) s
      = .next (s.after (((s.advance t).toProto 0).modVlt fun y => { y with
          vddio := false, powered := false, ready := false, live := false, fdWake := false, write := none, own := [], jobs := [],
          stream := none, rngFail := false }))) ∧
  (∀ (s : State) (t : Nat), s.vlt.powered = true →
    exec (.vaultFieldLoss t) s
      = .next (s.after (((s.advance t).toProto 0).modVlt fun y => { y with field := 0, live := y.vddio && y.ready }))) ∧
  (∀ (s u : State) (x : VaultMeas) (t : Nat), s.vlt.powered = true →
    u = ((s.advance t).setMeas x).modVlt (fun y => { y with live := y.ready }) → bitAt u.vlt.logic.fd 8 = 0 →
    exec (.fdWakeRise x t) s = .next (s.after u)) ∧
  (∀ (s u v : State) (x : VaultMeas) (t : Nat), s.vlt.powered = true →
    u = ((s.advance t).setMeas x).modVlt (fun y => { y with live := y.ready }) → bitAt u.vlt.logic.fd 8 = 1 → u.vlt.fdWake = false →
    u.hfr.field = none → u.vlt.vddio = true →
    v = (u.modVlt fun y => { y with fdWake := true }).event EV_VLT_FIELD
      [1, byte ((u.modVlt fun y => { y with fdWake := true }).get VLT_STATUS_OWN_FIELD),
       byte (u.modVlt fun y => { y with fdWake := true }).vpwr, byte (u.modVlt fun y => { y with fdWake := true }).vlt.field] →
    exec (.fdWakeRise x t) s
      = .next (s.after (((v.wakeSource 8 0 true).pollResume 3).ewFire 5 v.stamp))) ∧
  (∀ (s : State) (t : Nat), s.vlt.fdWake = true →
    exec (.fdWakeFall t) s = .next (s.after ((s.advance t).modVlt fun y => { y with fdWake := false, field := 0 }))) ∧
  (∀ (s : State) (t : Nat), s.vlt.relUntil = some t →
    exec .vaultRelPulseEnd s = .next (s.after ((s.advance t).modVlt fun y => { y with relUntil := none }))) ∧
  (∀ (s : State) (t : Nat), s.vlt.powered = true → s.vlt.rngFail = true →
    exec (.vltRng false t) s = .next (s.after ((s.advance t).modVlt fun y => { y with rngFail := false }))) ∧
  (∀ (s u : State) (t : Nat), s.vlt.powered = true → s.vlt.rngFail = false →
    u = (s.advance t).modVlt (fun y => { y with rngFail := true }) →
    exec (.vltRng true t) s
      = .next (s.after (((u.vaultFault FID_VLT_RNG).vaultLogFault FID_VLT_RNG 0x0E).vaultOwn)))

/-- The frames of the field protocol complete where the vault takes them (R406 to R413, R416, R417). Where the spec is silent the
equations rest on readings of the model: notes/assumptions/1.md, 10.md, 116.md, 117.md. -/
def Obligations.VaultFramesComplete : Prop :=
  (∀ (s u : State) (b : List Byte) (t : Nat), s.vlt.ready = true → s.vlt.live = true → frameGood b = true →
    u = (s.advance t).modVlt (fun y => { y with out := [], outSlot := 0, delayed := false }) → b.length = 8 → u8 b 0 = 0x52 →
    u8 b 1 ≤ 4 → u32 b 2 = 0 → u.vlt.rngFail = false → u.vlt.proto = 0 → u.vlt.powered = true → u.vlt.vddio = false →
    exec (.vreq b true t) s = .next (s.after ((u.toProto 1).ownHandle (u8 b 1)))) ∧
  (∀ (s u : State) (b : List Byte) (t : Nat), s.vlt.ready = true → s.vlt.live = true → frameGood b = true →
    u = (s.advance t).modVlt (fun y => { y with out := [], outSlot := 0, delayed := false }) → b.length = 8 → u8 b 0 = 0x53 →
    u8 b 1 ≤ 4 → u32 b 2 = 0 → u.vlt.rngFail = false → u.vlt.proto = 3 → u.vlt.powered = true → u.vlt.vddio = false →
    exec (.vwup b true t) s = .next (s.after ((u.toProto 1).ownHandle (u8 b 1)))) ∧
  (∀ (s u v : State) (b nv : List Byte) (t : Nat), s.vlt.ready = true → s.vlt.live = true → frameGood b = true →
    u = (s.advance t).modVlt (fun y => { y with out := [], outSlot := 0, delayed := false }) → b.length = 5 → u8 b 0 = 0x5C →
    u.vlt.proto = 1 → u16 b 1 = u.vlt.h → u.freshBytes 16 = (nv, v) →
    exec (.vsel b true t) s
      = .next (s.after (((v.toProto 2).modVlt fun y => { y with nv16 := nv }).vaultSend (0xA2 :: vaultIdBytes ++ nv) 0 false))) ∧
  (∀ (s u v : State) (b sk : List Byte) (k : Nat × List Byte) (t : Nat), s.vlt.ready = true → s.vlt.live = true →
    frameGood b = true → u = (s.advance t).modVlt (fun y => { y with out := [], outSlot := 0, delayed := false }) →
    b.length = 20 → u8 b 0 = 0x70 → u.vlt.proto = 2 → u8 b 1 < 8 → v = u.sessionEnd.modVlt (fun y => { y with kidx := u8 b 1 }) →
    v.vaultKey (u8 b 1) = some k →
    sk = cmac k.2 ([0x56, 0x53, 0x01] ++ vaultIdBytes ++ v.vlt.nv16 ++ (b.drop 2).take 16) →
    exec (.auth1 b true t) s
      = .next (s.after ((v.modVlt fun y => { y with
          sk := sk, pv := (cmac sk ([0x56, 0x50] ++ le 2 v.vlt.h ++ [byte (u8 b 1)])).take 8, auth1 := true }).vaultSend
            (0xA3 :: (cmac sk ([0x56, 0x50] ++ le 2 v.vlt.h ++ [byte (u8 b 1)])).take 8) 0 (16 ≤ v.vlt.logic.fails)))) ∧
  (∀ (s u v : State) (b : List Byte) (t : Nat), s.vlt.ready = true → s.vlt.live = true → frameGood b = true →
    u = (s.advance t).modVlt (fun y => { y with out := [], outSlot := 0, delayed := false }) → b.length = 11 → u8 b 0 = 0x71 →
    u.vlt.proto = 2 → u.vlt.auth1 = true → (cmac u.vlt.sk ([0x52, 0x50] ++ u.vlt.pv)).take 8 = (b.drop 1).take 8 →
    v = (u.setFails 0).modVlt (fun y => { y with
      session := true, auth1 := false, rseq := 0, vseq := 0, sessions := y.sessions + 1 }) →
    exec (.auth2 b true t) s
      = .next (s.after ((((v.vaultSend [0xA4] 0 false).vaultEvent EV_VLT_SESSION (v.sessionData OK)).vaultLog EV_VLT_SESSION 0x04
          (v.sessionData OK)).vaultOwn))) ∧
  (∀ (s u : State) (b : List Byte) (t : Nat), s.vlt.ready = true → s.vlt.live = true → frameGood b = true →
    u = (s.advance t).modVlt (fun y => { y with out := [], outSlot := 0, delayed := false }) → b.length = 3 → u8 b 0 = 0x50 →
    (u.vlt.proto = 1 ∨ u.vlt.proto = 2) →
    exec (.halt b true t) s = .next (s.after (u.toProto 3))) ∧
  (∀ (s u : State) (b x : List Byte) (v : VaultMeas) (t : Nat), s.vlt.ready = true → s.vlt.live = true → frameGood b = true →
    u = (s.advance t).modVlt (fun y => { y with out := [], outSlot := 0, delayed := false }) → u8 b 0 = 0x7E → b.length = 14 →
    u.vlt.proto = 2 → u.vlt.session = true →
    ccmOpen u.vlt.sk (u.vaultNonce 0 u.vlt.rseq) [0x7E] ((b.drop 1).take 11) 8 = some x → u8 x 0 = 1 → x.length = 3 →
    exec (.secureRead b true v t) s
      = .next (s.after (((u.modVlt fun t => { t with rseq := t.rseq + 1 }).setMeas v).secureAsk 1 (x.drop 1)))) ∧
  (∀ (s u : State) (b x : List Byte) (v : VaultMeas) (t : Nat), s.vlt.ready = true → s.vlt.live = true → frameGood b = true →
    u = (s.advance t).modVlt (fun y => { y with out := [], outSlot := 0, delayed := false }) → u8 b 0 = 0x7E → b.length = 74 →
    u.vlt.proto = 2 → u.vlt.session = true →
    ccmOpen u.vlt.sk (u.vaultNonce 0 u.vlt.rseq) [0x7E] ((b.drop 1).take 71) 8 = some x → u8 x 0 = 2 → x.length = 63 →
    exec (.secureWrite b true v t) s
      = .next (s.after (((u.modVlt fun t => { t with rseq := t.rseq + 1 }).setMeas v).secureAsk 2 (x.drop 1)))) ∧
  (∀ (s u : State) (b x : List Byte) (v : VaultMeas) (t : Nat), s.vlt.ready = true → s.vlt.live = true → frameGood b = true →
    u = (s.advance t).modVlt (fun y => { y with out := [], outSlot := 0, delayed := false }) → u8 b 0 = 0x7E → b.length = 36 →
    u.vlt.proto = 2 → u.vlt.session = true →
    ccmOpen u.vlt.sk (u.vaultNonce 0 u.vlt.rseq) [0x7E] ((b.drop 1).take 33) 8 = some x → u8 x 0 = 4 → x.length = 25 →
    exec (.ticket b true v t) s
      = .next (s.after (((u.modVlt fun t => { t with rseq := t.rseq + 1 }).setMeas v).secureAsk 4 (x.drop 1)))) ∧
  (∀ (s u : State) (b x : List Byte) (t : Nat), s.vlt.ready = true → s.vlt.live = true → frameGood b = true →
    u = (s.advance t).modVlt (fun y => { y with out := [], outSlot := 0, delayed := false }) → u8 b 0 = 0x7E → b.length = 12 →
    u.vlt.proto = 2 → u.vlt.session = true →
    ccmOpen u.vlt.sk (u.vaultNonce 0 u.vlt.rseq) [0x7E] ((b.drop 1).take 9) 8 = some x → u8 x 0 = 5 → x.length = 1 →
    exec (.secureEnd b true t) s
      = .next (s.after (((u.modVlt fun t => { t with rseq := t.rseq + 1 }).secureAnswer OK []).toProto 0))) ∧
  (∀ (s u w : State) (b : List Byte) (x : List Byte) (v : VaultMeas) (t : Nat), s.vlt.ready = true → s.vlt.live = true →
    frameGood b = true → u = (s.advance t).modVlt (fun y => { y with out := [], outSlot := 0, delayed := false }) →
    u8 b 0 = 0x7E → u.vlt.proto = 2 → u.vlt.session = true →
    ccmOpen u.vlt.sk (u.vaultNonce 0 u.vlt.rseq) [0x7E] ((b.drop 1).take 9) 8 = some x → b.length = 12 →
    u8 x 0 = 3 → x.length = 1 → w = (u.modVlt fun t => { t with rseq := t.rseq + 1 }).setMeas v →
    exec (.secureStatus b true v t) s
      = .next (s.after (w.secureAnswer OK ([byte w.vpwr, byte w.vlt.field] ++ le 2 w.vlt.vh ++ le 2 w.vlt.vrstore
          ++ [byte w.sessionRights] ++ le 4 w.vlt.logic.lastTseq))))

/-- The Q commands of the host complete (R458 to R463). Where the spec is silent the equations rest on readings of the model:
notes/assumptions/38.md, 44.md. -/
def Obligations.QueueCommandsComplete : Prop :=
  (∀ (s t u : State) (m : Master) (p : List Byte) (x : QueueCfg) (c : Option ReqCtx), s.comes m 0xB0 p c t →
    x = { queue := u8 p 0, cfg := u8 p 1, quota := u16 p 4, ct := u8 p 6, high := u16 p 8, low := u16 p 10 } →
    firstFail [lenIs p 12, paramOk (u8 p 0 < 128), paramOk (u8 p 1 < 128), paramOk (zeroAt p 2 2 && zeroAt p 7 1),
      paramOk (within 1 8191 (u16 p 4)), paramOk (u8 p 6 ≤ 64), paramOk (u16 p 8 ≤ 0x3FFF && u16 p 10 ≤ 0x3FFF),
      paramOk (u16 p 8 = 0 || u16 p 10 ≤ u16 p 8)] = none →
    (m != .m0 && (u8 p 0 = 1 || u8 p 0 = 2)) = false → (u8 p 0 = 0 && (bitAt (u8 p 1) 0 = 0 || bitAt (u8 p 1) 3 = 0)) = false →
    t.qLockedChange (u8 p 0) (u8 p 1) (u16 p 4) (u8 p 6) = false →
    u = (if 0 < t.openItems (u8 p 0) && bitAt (u8 p 1) 0 = 1 then { t with qm := { t.qm with waiting := t.qm.waiting ++ [x] } }
      else t.configQueue x) →
    exec (.qConfig m p) s = .next (s.after (u.answer m 0xB0 c OK (le 2 (u.level (u8 p 0)))))) ∧
  (∀ (s t u : State) (m : Master) (p b : List Byte) (ecc : List Ecc) (k : Nat) (c : Option ReqCtx), s.comes m 0xB1 p c t →
    p.length = 4 → u8 p 0 < 128 → within 1 16 (u8 p 1) = true → within 4100 32800 (u16 p 2) = true →
    t.queueRight m (u8 p 0) 1 = true → t.flag (QM_Q_CFG_EN (u8 p 0)) = true →
    popMany (u8 p 0) (u8 p 1) (min (u16 p 2) 32799) ecc t = (k, b, u, false) →
    exec (.qPop m p ecc) s = .next (s.after (u.answer m 0xB1 c OK (byte k :: b)))) ∧
  (∀ (s t : State) (m : Master) (p : List Byte) (l : List Item) (it : Item) (c : Option ReqCtx), s.comes m 0xB2 p c t →
    within 5 4100 p.length = true → u8 p 0 < 128 → zeroAt p 1 3 = true → t.queueRight m (u8 p 0) 0 = true →
    t.flag (QM_Q_CFG_EN (u8 p 0)) = true → t.packItem (u8 p 0) (p.drop 4) (0x80 + m.num) = (l, it) →
    t.beginRefused (u8 p 0) it.cells = false →
    exec (.qPush m p) s
      = .next (s.after (((t.setQueue (u8 p 0) (l ++ [it])).levelChanged (u8 p 0) (t.level (u8 p 0))).answer m 0xB2 c OK []))) ∧
  (∀ (s t u : State) (m : Master) (p : List Byte) (n k o : Nat) (c : Option ReqCtx), s.comes m 0xB3 p c t →
    p.length = 4 → u8 p 0 < 128 → zeroAt p 1 3 = true → (m != .m0 && (u8 p 0 = 1 || u8 p 0 = 2)) = false →
    t.flag (QM_Q_CFG_EN (u8 p 0)) = true → t.flushQueue (u8 p 0) ITEM_ABORTED = (u, n, k, o) →
    exec (.qFlush m p) s
      = .next (s.after (((u.flushedEvent (u8 p 0) 0 n k o).applyWaiting (u8 p 0)).answer m 0xB3 c OK
          (le 2 n ++ le 2 k ++ [byte o])))) ∧
  (∀ (s t : State) (m : Master) (p : List Byte) (c : Option ReqCtx), s.comes m 0xB4 p c t → p.length = 1 → u8 p 0 < 128 →
    u8 p 0 ≠ 0xFF →
    exec (.qStatus m p) s
      = .next (s.after (t.answer m 0xB4 c OK (leWords [t.get (QM_Q_CFG (u8 p 0)), t.get (QM_Q_LIMITS (u8 p 0)),
          t.get (QM_Q_WM (u8 p 0)), t.levelWord (u8 p 0), t.qStatusWord (u8 p 0), t.get (QM_Q_XCNT (u8 p 0)),
          t.get (QM_Q_DROPS (u8 p 0))])))) ∧
  (∀ (s t : State) (m : Master) (p : List Byte) (c : Option ReqCtx), s.comes m 0xB4 p c t → p.length = 1 → u8 p 0 = 0xFF →
    exec (.qStatus m p) s
      = .next (s.after (t.answer m 0xB4 c OK (le 2 t.freeCells ++ [byte t.openCount, byte t.boundCount]
          ++ le 4 (t.get QM_ECC_TOTAL) ++ le 4 (t.get QM_ECC_UNCORR) ++ le 4 (t.get QM_POOL_EMPTY))))) ∧
  (∀ (s t u v w : State) (m : Master) (p : List Byte) (q fl : Nat) (c : Option ReqCtx), s.comes m 0xB5 p c t →
    q = u8 p 0 → fl = u8 p 1 →
    firstFail [lenIs p 8, paramOk (q < 128), paramOk (fl < 8), paramOk (zeroAt p 2 2),
      paramOk (bitAt fl 0 = 0 || (u16 p 4 ≤ 0x3FFF && u16 p 6 ≤ 0x3FFF && (u16 p 4 = 0 || u16 p 6 ≤ u16 p 4)))] = none →
    (m != .m0 && (q = 1 || q = 2)) = false → t.flag (QM_Q_CFG_EN q) = true →
    u = (if bitAt fl 0 = 1 then t.put (QM_Q_WM q) (u16 p 4 + 2 ^ 16 * u16 p 6) else t) →
    v = (if bitAt fl 1 = 1 then (u.put (QM_Q_STATUS_HWF q) 0).put (QM_Q_STATUS_LWF q) 0 else u) →
    w = (if bitAt fl 2 = 1 then v.put (QM_Q_XCNT q) 0 else v) →
    exec (.qWatermark m p) s
      = .next (s.after (w.answer m 0xB5 c OK ([byte (t.qStatusWord q), 0] ++ le 2 (t.level q)
          ++ le 2 (t.get (QM_Q_XCNT_HCROSS q)) ++ le 2 (t.get (QM_Q_XCNT_LCROSS q))))))

/-- The port commands of QM and a link error complete (R438, R443, R444, R450). -/
def Obligations.QueuePortsComplete : Prop :=
  (∀ (s : State) (m : Master) (port : Fin 8) (v : Word) (q n k : Nat), s.reaches m (QM_PUSH_BEGIN port).addr = true →
    s.fenced 15 = false → (s.pushPort port).item = none → q = bitsAt v.toNat 0 7 → n = bitsAt v.toNat 8 13 → n ≠ 0 → n ≤ 4096 →
    s.queueRight m q 0 = true → s.flag (QM_Q_CFG_EN q) = true → (s.packItem q (List.replicate n 0) 0x80).2.cells ≠ 0 →
    k = cellsOf n → s.beginRefused q k = false →
    exec (.qmPushBegin m port v) s
      = .next (s.after ((s.setPushPort port { item := some { queue := q, len := n, data := [], cells := k, src := 0x80 + m.num },
                                              status := OK, bytes := 0 }).levelChanged q (s.level q)))) ∧
  (∀ (s : State) (m : Master) (port : Fin 8) (v : Word) (o : OpenItem) (b : List Byte), s.reaches m (QM_PUSH_DATA port).addr = true →
    (s.pushPort port).item = some o → b = (o.data ++ le 4 v.toNat).take o.len → b.length < o.len →
    exec (.qmPushData m port v) s
      = .next (s.after (s.setPushPort port { s.pushPort port with item := some { o with data := b }, bytes := b.length }))) ∧
  (∀ (s u : State) (m : Master) (port : Fin 8) (v : Word) (o : OpenItem) (b : List Byte) (l : List Item) (it : Item),
    s.reaches m (QM_PUSH_DATA port).addr = true → (s.pushPort port).item = some o → b = (o.data ++ le 4 v.toNat).take o.len →
    b.length = o.len → u = s.setPushPort port { item := none, status := OK, bytes := o.len } →
    u.packItem o.queue b o.src = (l, it) →
    exec (.qmPushData m port v) s
      = .next (s.after (((u.setQueue o.queue (l ++ [{ it with src := o.src }])).levelChanged o.queue (s.level o.queue)).applyWaiting
          o.queue))) ∧
  (∀ (s u : State) (m : Master) (port : Fin 8) (q : BitVec 7) (it : Item), s.reaches m (QM_POP_SEL port).addr = true →
    (s.releasePop port).fenced 15 = false → (s.releasePop port).queueRight m q.toNat 1 = true →
    (s.releasePop port).popItem q.toNat = some (it, u) →
    exec (.qmPopSel m port q) s
      = .next (s.after (u.setPopPort port { item := some it, status := OK, queue := q.toNat, len := it.bytes.length,
                                            src := it.src }))) ∧
  (∀ (s u : State) (m : Master) (port : Fin 8) (it : Item), s.readable m (QM_POP_DATA port).addr = true →
    u = s.readBack m (s.popWord port .clean) → (u.popPort port).item = some it → (u.popPort port).pos < it.bytes.length →
    (u.popPort port).failed = false →
    exec (.qmPopData m port .clean) s
      = .next (s.after ((u.eccCount (u.popPort port).queue .clean).setPopPort port
          { u.popPort port with pos := (u.popPort port).pos + 4 }))) ∧
  (∀ (s : State) (m : Master) (port : Fin 8), s.reaches m (QM_POP_DONE port).addr = true →
    exec (.qmPopDone m port) s = .next (s.after (s.releasePop port))) ∧
  (∀ (s u : State) (q : Fin 128) (t n k o : Nat),
    ((s.advance t).raise FID_QM_LINK q).flushQueue q ITEM_ABORTED = (u, n, k, o) →
    exec (.qmLink q t) s
      = .next (s.after (((u.bump (QM_Q_DROPS q) n).flushedEvent q 2 n k o).applyWaiting q)))

/-- The events of the two ports, of replies and of the flash port complete (R466 to R474, R478 to R481, R499, R500). Where the
spec is silent the equations rest on readings of the model: notes/assumptions/128.md, 129.md, 165.md. -/
def Obligations.HifRowsComplete : Prop :=
  (∀ (s u : State) (b : List Byte) (t : Nat), u = s.advance t → u.portUp false = true → u8 b 0 = 0x5A → b ≠ [] →
    u.hif.spi.pending = none → u.hif.spi.reply = none →
    exec (.spiRequest b t) s
      = .next (s.after ((u.flagSent false (padTo b.length [byte (u.flagByte false)])).receivePacket false b portCommand))) ∧
  (∀ (s u v : State) (n t : Nat), u = s.advance t → u.portUp false = true → n ≠ 0 → u.hif.spi.reply = none →
    v = u.flagSent false (u.readBytes false n) →
    exec (.spiRead n t) s
      = .next (s.after (v.setPort false { v.port false with read := (v.port false).read || u.readsReply false n }))) ∧
  (∀ (s u : State) (b : List Byte) (t : Nat), u = s.advance t → u.portUp true = true → u8 b 0 = 0x5A → b ≠ [] →
    u.hif.side.pending = none → u.hif.side.reply = none →
    exec (.sideWrite b t) s = .next (s.after (u.receivePacket true b portCommand))) ∧
  (∀ (s u v : State) (n t : Nat), u = s.advance t → u.portUp true = true → n ≠ 0 → u.hif.side.reply = none →
    v = u.flagSent true (u.readBytes true n) →
    exec (.sideRead n t) s
      = .next (s.after (v.setPort true { v.port true with read := (v.port true).read || u.readsReply true n }))) ∧
  (∀ (s u : State) (t : Nat), s.pwr.st = .p2 → s.awake = false → s.flag HIF_CTRL_SIDE_EN = true → u = s.advance t →
    exec (.sideAddressMatch t) s = .next (s.after ((u.setStretch (some u.time.now)).wakeSource 4 0 false))) ∧
  (∀ (s : State) (t : Nat), s.hif.stretch = some t → s.portUp true = true →
    exec .sideStretchEnd s = .next (s.after (s.setStretch none))) ∧
  (∀ (s : State) (t : Nat), s.hif.stretch = some t → s.portUp true = false →
    exec .sideStretchEnd s = .next (s.after ((s.advance (300 * Config.usTicks + t)).setStretch none))) ∧
  (∀ (s : State) (t : Nat), s.portUp true = true →
    exec (.hifSideStuck t) s = .next (s.after (((s.advance t).setStretch none).raise FID_HIF_SIDE_STUCK))) ∧
  (∀ (s u : State) (i : Item) (l r : List Item) (b : List Byte), s.awake = true → s.pwr.hifUp = true → s.queue 2 = i :: l →
    takeSegs (u8 i.bytes 0) (u8 i.bytes 1) (i :: l) [] = some (b, r) →
    u = (s.popSegs ((i :: l).length - r.length)).deliverReply (u8 i.bytes 0) (u8 i.bytes 1) (u8 b 0) (u8 b 1) (b.drop 4) →
    exec .replyFormed s = .next (s.after (sendHeld u.hif.held u))) ∧
  (∀ (s : State) (side : Bool) (r : PendReq), (s.port side).pending = some r → s.awake = true → s.pwr.hifUp = true →
    exec (.hifCmdTimeout side) s
      = .next (s.after ((((s.advance (r.at_ + Config.msTicks * s.get HIF_CMD_TO_CMD_TO_MS)).formReply side TIMEOUT r.tag []).bump
          HIF_TIMEOUTS).raise FID_HIF_CMD_TIMEOUT))) ∧
  (∀ (s : State) (o : FlashOp) (l : List FlashOp) (t : Nat), s.hif.flash = o :: l → s.awake = true → o.kind = 1 →
    o.suspended = false →
    exec (.flashOpDone t) s = .next (s.after (((s.advance t).programFlash o.addr o.data).flashEnd o l OK))) ∧
  (∀ (s : State) (o : FlashOp) (l : List FlashOp) (t : Nat), s.hif.flash = o :: l → s.awake = true → o.kind = 2 →
    o.suspended = false →
    exec (.flashOpDone t) s = .next (s.after (((s.advance t).eraseMem (0x30000000 + o.addr) 4096).flashEnd o l OK))) ∧
  (∀ (s u : State) (o : FlashOp) (l : List FlashOp) (g : FlashProg) (q : List FlashProg) (t : Nat), s.hif.flash = o :: l →
    s.awake = true → o.kind = 1 → o.suspended = false → o.owner = 2 → s.upd.progs = g :: q → g.op = 0xD4 →
    u = State.modUpd { (s.advance t).programFlash o.addr o.data with
      hif := { ((s.advance t).programFlash o.addr o.data).hif with flash := l } } (fun u => { u with progs := q }) →
    exec (.flashOpDone t) s
      = .next (s.after (u.answer g.master 0xD4 g.ctx (if g.ok then OK else INTEGRITY) []))) ∧
  (∀ (s u : State) (o : FlashOp) (l : List FlashOp) (g : FlashProg) (q : List FlashProg) (t : Nat), s.hif.flash = o :: l →
    s.awake = true → o.kind = 1 → o.suspended = false → o.owner = 2 → s.upd.progs = g :: q → g.op = 0xD3 →
    u = State.modUpd { (s.advance t).programFlash o.addr o.data with
      hif := { ((s.advance t).programFlash o.addr o.data).hif with flash := l } } (fun u => { u with progs := q }) →
    exec (.flashOpDone t) s
      = .next (s.after (if g.ok then (u.committed g.copy).answer g.master 0xD3 g.ctx OK [byte g.copy]
          else u.answer g.master 0xD3 g.ctx INTEGRITY []))) ∧
  (∀ (s u : State) (o : FlashOp) (l : List FlashOp) (done : Bool), s.hif.flash = o :: l → s.awake = true → o.kind = 2 →
    s.freshBool = (done, u) →
    exec .hifXspiTimeout s
      = .next (s.after (((if done then u.eraseMem (0x30000000 + o.addr) 4096 else u).raise FID_HIF_XSPI_TIMEOUT).flashEnd o l
          TIMEOUT)))

/-- The commands of FLT and BBX_READ complete (R567, R571 to R575), the injected events that FLT_INJECT starts (INJECTED_EVENT,
R556, R562), and factory test mode's TEST_ENTER and TEST_EXIT (R598): a challenge, the right response, and the way out. Where the
spec is silent the equations rest on readings of the model: notes/assumptions/28.md, 52.md, 56.md, 57.md, 58.md, 123.md, 154.md.
-/
def Obligations.FltCommandsComplete : Prop :=
  (∀ (s u : State) (j : Injection), s.flt.inject = some j →
    u = (s.advance (j.at_ + Config.usTicks * (j.count - j.left))).takeInjected
      { fid := j.fid, inst := j.inst, data := j.data } j.react j.override_ →
    exec .injectedEvent s
      = .next (s.after (if j.left ≤ 1 then
            (u.modFlt fun t => { t with inject := none }).answer j.master 0xC4 j.ctx OK (le 2 j.count)
          else u.modFlt fun t => { t with inject := some { j with left := j.left - 1 } }))) ∧
  (∀ (s t u : State) (m : Master) (b : List Byte) (c : Option ReqCtx), s.comes m 0xF0 [] c t → t.upd.wrong < 3 →
    t.rngReady = true → (t.bump TRNG_REQS).drbgDraw 16 = (b, u) →
    exec (.testEnter m []) s
      = .next (s.after ((u.modUpd fun x => { x with challenge := some b }).answer m 0xF0 c OK b))) ∧
  (∀ (s t u : State) (m : Master) (p b : List Byte) (c : Option ReqCtx), s.comes m 0xF0 p c t → p.length = 16 →
    t.upd.wrong < 3 → t.upd.challenge = some b → cmac ((List.range 16).map Config.testKey) b = p → t.rel.sess = 0 →
    t.auth.att = none → u = (t.modUpd fun x => { x with challenge := none }).aesWipe →
    exec (.testEnter m p) s
      = .next (s.after ((State.put { u with
          sys := { u.sys with test := true }
          pwr := { u.pwr with padsHeld := u.pwr.padsHeld - bitAt u.pwr.padsHeld 0 + 1, list := false } } FLT_STAT_TEST 1).answer
            m 0xF0 c OK []))) ∧
  (∀ (s t : State) (m : Master) (c : Option ReqCtx), s.comes m 0xF1 [] c t → t.sys.test = true →
    exec (.testExit m []) s
      = .next (s.after (((State.put { t.aesWipe with sys := { t.sys with test := false } } FLT_STAT_TEST 0).endInjection.reinstall).answer
          m 0xF1 c OK []))) ∧
  (∀ (s t : State) (m : Master) (p : List Byte) (l : List Nat) (c : Option ReqCtx), s.comes m 0xC0 p c t → p = [] →
    l = t.latchedFids →
    exec (.fltStatus m p) s
      = .next (s.after (t.answer m 0xC0 c OK
          ([byte t.highest, byte (bit01 t.safeState + 2 * bit01 t.fatalLatched + 4 * bit01 t.nfault + 8 * bit01 t.sys.test),
            byte t.modesNow, byte t.modesForced] ++ le 4 t.fencedMask ++ le 2 (t.flt.safe.getD 0xFFFF) ++ le 2 l.length
            ++ le 4 (t.get FLT_EVENTS) ++ (List.range 8).flatMap fun k => le 2 (l.getD k 0xFFFF))))) ∧
  (∀ (s t : State) (m : Master) (p : List Byte) (f i : Nat) (c : Option ReqCtx), s.comes m 0xC0 p c t → p.isEmpty = false → p.length = 2 →
    f = u16 p 0 → i = srcIx f → (sourceRow f).isNone = false →
    exec (.fltStatus m p) s
      = .next (s.after (t.answer m 0xC0 c OK
          (le 2 f ++ [byte (t.srcState f), byte (t.src f).wcount] ++ le 2 (t.get (FLT_S_STATUS_TOTAL i)) ++ [0, 0]
            ++ le 4 (t.get (FLT_S_CFG i)) ++ le 4 (t.get (FLT_S_CFG2 i)) ++ le 8 (t.src f).lastRef)))) ∧
  (∀ (s t u : State) (m : Master) (p : List Byte) (f w w2 : Nat) (c : Option ReqCtx), s.comes m 0xC1 p c t → f = u16 p 0 →
    w = u32 p 4 → w2 = u32 p 8 → (sourceRow f).isSome = true →
    firstFail [lenIs p 12, paramOk (zeroAt p 2 2),
      paramOk (bitsAt w 0 5 ≤ 16 && bitsAt w 5 3 = 0 && bitsAt w 8 16 ≠ 0 && bitsAt w 24 2 ≠ 3 && bitsAt w 26 2 = 0
        && bitsAt w 31 1 = 0 && bitsAt w 28 3 ≤ 4 && bitsAt w2 0 3 ≤ 5 && bitsAt w2 3 1 = 0 && bitsAt w2 8 24 = 0),
      paramOk (!(sourceRow f).isSome || reactOk f (bitsAt w 28 3) (bitsAt w2 0 3))] = none → t.flag (FLT_S_CFG2_FIXED (srcIx f)) = false →
    t.flag FLT_CTRL_LOCK = false → u = t.setSource f w w2 →
    exec (.fltConfig m p) s = .next (s.after (u.answer m 0xC1 c OK [byte (u.srcState f)]))) ∧
  (∀ (s t u v w x : State) (m : Master) (p : List Byte) (f n : Nat) (c : Option ReqCtx), s.comes m 0xC2 p c t →
    p.length = 4 → u8 p 2 < 2 → u8 p 3 = 0 → f = u16 p 0 → f ≠ 0xFFFF → (sourceRow f).isNone = false →
    t.clearable f = true →
    n = ([f].filter fun f => (t.src f).latch != 0 || (t.src f).injLatch != 0).length →
    u = (t.clearSource f (u8 p 2 = 1)).put FLT_STAT_NOTE 0 → v = u.releaseAll f false → w = v.put FLT_STAT_NOTE 0 →
    x = w.eventBbx EV_FLT_CLEARED (le 2 f ++ le 2 n ++ le 4 w.fencedMask) true →
    exec (.fltClear m p) s
      = .next (s.after (x.answer m 0xC2 c OK
          (le 4 x.fencedMask ++ [byte x.modesForced, byte (bit01 x.safeState)] ++ le 2 x.latchedFids.length)))) ∧
  (∀ (s t u v w x : State) (m : Master) (p : List Byte) (n : Nat) (l : List Nat) (c : Option ReqCtx), s.comes m 0xC2 p c t →
    p.length = 4 → u8 p 2 < 2 → u8 p 3 = 0 → u16 p 0 = 0xFFFF → l = (t.flt.srcs.map (·.fid)).filter t.clearable →
    n = (l.filter fun f => (t.src f).latch != 0 || (t.src f).injLatch != 0).length →
    u = (l.foldl (fun s f => s.clearSource f (u8 p 2 = 1)) t).put FLT_STAT_NOTE 0 → v = u.releaseAll 0xFFFF false →
    w = v.put FLT_STAT_NOTE 0 → x = w.eventBbx EV_FLT_CLEARED (le 2 0xFFFF ++ le 2 n ++ le 4 w.fencedMask) true →
    exec (.fltClear m p) s
      = .next (s.after (x.answer m 0xC2 c OK
          (le 4 x.fencedMask ++ [byte x.modesForced, byte (bit01 x.safeState)] ++ le 2 x.latchedFids.length)))) ∧
  (∀ (s t : State) (m : Master) (p : List Byte) (j : Injection) (c : Option ReqCtx), s.comes m 0xC4 p c t →
    (sourceRow (u16 p 0)).isSome = true →
    firstFail [lenIs p 20, paramOk (u8 p 2 < 4 && within 1 16 (u8 p 4) && zeroAt p 5 3 && zeroAt p 17 3
        && u8 p 3 ≤ (if u8 p 2 / 2 % 2 = 1 then 4 else 0)),
      paramOk (!(sourceRow (u16 p 0)).isSome || !decide (u8 p 2 / 2 % 2 = 1)
        || reactOk (u16 p 0) (u8 p 3) (s.get (FLT_S_CFG2_DEG_MODE (srcIx (u16 p 0)))))] = none →
    t.sys.test = true → t.flt.inject = none →
    j = { fid := u16 p 0, react := bitAt (u8 p 2) 0 = 1, override_ := if u8 p 2 / 2 % 2 = 1 then some (u8 p 3) else none,
          left := u8 p 4, count := u8 p 4, inst := u8 p 8, data := (p.drop 9).take 8, at_ := t.time.now, master := m, ctx := c } →
    exec (.fltInject m p) s = .next (s.after (t.modFlt fun k => { k with inject := some j }))) ∧
  (∀ (s t : State) (m : Master) (p : List Byte) (n first : Nat) (l : List (Nat × List Byte)) (c : Option ReqCtx),
    s.comes m 0xC3 p c t → p.length = 8 → n = u8 p 4 → within 1 64 n = true → zeroAt p 5 3 = true → t.bbx.ready = true →
    l = (if u32 p 0 = 0xFFFFFFFF then t.bbxHeld.drop (t.bbxHeld.length - n)
      else (t.bbxHeld.filter fun x => u32 p 0 ≤ x.1).take n) →
    first = (match l with | x :: _ => x.1 | [] => u32 p 0) →
    exec (.bbxRead m p) s
      = .next (s.after (t.answer m 0xC3 c OK (le 4 first ++ [byte l.length, 0, 0, 0]
          ++ le 8 (sumNat ((List.range l.length).map fun k => bit01 (!recordOk (l.getD k (0, [])).2) * 2 ^ k))
          ++ l.flatMap (·.2)))))

/-- The rows of fault injection, the black box and the ends of test mode complete (R555, R556, R560, R562, R598). Where the spec
is silent the equations rest on readings of the model: notes/assumptions/1.md, 59.md, 60.md, 123.md, 154.md. -/
def Obligations.InjectionBbxTestRowsComplete : Prop :=
  (∀ (s u : State) (j : Injection), s.flt.inject = some j → u = s.advance (j.at_ + Config.usTicks * (j.count - j.left)) →
    1 < j.left →
    exec .injectedEvent s
      = .next (s.after ((u.takeInjected { fid := j.fid, inst := j.inst, data := j.data } j.react j.override_).modFlt fun t =>
          { t with inject := some { j with left := j.left - 1 } }))) ∧
  (∀ (s u : State) (j : Injection), s.flt.inject = some j → u = s.advance (j.at_ + Config.usTicks * (j.count - j.left)) →
    j.left ≤ 1 →
    exec .injectedEvent s
      = .next (s.after (((u.takeInjected { fid := j.fid, inst := j.inst, data := j.data } j.react j.override_).modFlt fun t =>
          { t with inject := none }).answer j.master 0xC4 j.ctx OK (le 2 j.count)))) ∧
  (∀ (s : State) (v : Bool) (r : BbxRec) (rest : List BbxRec), s.bbx.ready = true → s.bbx.erasing = false → s.awake = true →
    (s.bbx.srcs.find? fun x => x.refused ≠ 0 && x.startLp + bbxSpan ≤ s.time.lp && s.bbx.tokens ≠ 0) = none →
    s.bbx.buf = r :: rest →
    exec (.bbxRecordWrite v) s = .next (s.after (s.bbxNext r rest v))) ∧
  (∀ (s : State) (v : Bool) (x : BbxSrc), s.bbx.ready = true → s.bbx.erasing = false → s.awake = true →
    (s.bbx.srcs.find? fun x => x.refused ≠ 0 && x.startLp + bbxSpan ≤ s.time.lp && s.bbx.tokens ≠ 0) = some x →
    exec (.bbxRecordWrite v) s = .next (s.after (s.bbxSuppressed x v))) ∧
  (∀ (s : State) (t : Nat), s.bbx.ready = true → s.bbx.erasing = true → s.awake = true →
    exec (.bbxHalfErased t) s = .next (s.after ((s.advance t).openHalf (1 - s.bbx.half) (s.bbx.gen + 1)))) ∧
  (∀ (s u : State), u = s.advanceLp (32768 + s.bbx.tickLp) →
    exec .bbxTokenTick s
      = .next (s.after (u.modBbx fun b => { b with tokens := min 256 (b.tokens + 1), tickLp := 32768 + b.tickLp }))) ∧
  (∀ (s t u : State) (m : Master) (c : Option ReqCtx), s.comes m 0xF0 [] c t → t.upd.wrong < 3 → t.rngReady = true →
    u = ((t.bump TRNG_REQS).drbgDraw 16).2 →
    exec (.testEnter m []) s
      = .next (s.after ((u.modUpd fun x => { x with challenge := some ((t.bump TRNG_REQS).drbgDraw 16).1 }).answer m 0xF0 c OK
          ((t.bump TRNG_REQS).drbgDraw 16).1))) ∧
  (∀ (s t u v : State) (m : Master) (p b : List Byte) (c : Option ReqCtx), s.comes m 0xF0 p c t → p.isEmpty = false → p.length = 16 →
    t.upd.wrong < 3 → t.upd.challenge = some b → t.rel.sess = 0 →
    t.auth.att = none → u = (t.modUpd fun x => { x with challenge := none }).aesWipe →
    v = { u with sys := { u.sys with test := true }
                 pwr := { u.pwr with padsHeld := u.pwr.padsHeld - bitAt u.pwr.padsHeld 0 + 1, list := false } } →
    exec (.testEnter m p) s
      = .next (s.after (if cmac ((List.range 16).map Config.testKey) b = p then (v.put FLT_STAT_TEST 1).answer m 0xF0 c OK []
          else (t.modUpd fun x => { x with wrong := x.wrong + 1, challenge := none }).answer m 0xF0 c AUTH_FAIL []))) ∧
  (∀ (s t u : State) (m : Master) (c : Option ReqCtx), s.comes m 0xF1 [] c t → t.sys.test = true →
    u = { t.aesWipe with sys := { t.sys with test := false } } →
    exec (.testExit m []) s
      = .next (s.after (((u.put FLT_STAT_TEST 0).endInjection.reinstall).answer m 0xF1 c OK [])))

/-- The commands of the configuration images complete (R578 to R582, R605 to R607). Where the spec is silent the equations rest on
readings of the model: notes/assumptions/119.md, 121.md, 177.md. -/
def Obligations.ConfigImageCommandsComplete : Prop :=
  (∀ (s t : State) (m : Master) (p : List Byte) (c : Option ReqCtx), s.comes m 0xD0 p c t → p.length = 4 → u8 p 0 = 0 →
    u8 p 1 = 0 → within 12 8192 (u16 p 2) = true → t.upd.apply = none →
    exec (.cfgStage m p) s
      = .next (s.after ((t.dropStaged.modUpd fun u => { u with stage := some (u16 p 2, []) }).answer m 0xD0 c OK []))) ∧
  (∀ (s t : State) (m : Master) (p b : List Byte) (n : Nat) (c : Option ReqCtx), s.comes m 0xD0 p c t →
    within 5 244 p.length = true → 1 ≤ p.length → u8 p 0 = 1 → u8 p 1 = 0 → t.upd.apply = none → t.upd.stage = some (n, b) →
    (u16 p 2 ≠ b.length || n < b.length + (p.length - 4)) = false →
    exec (.cfgStage m p) s
      = .next (s.after ((t.modUpd fun u => { u with stage := some (n, b ++ p.drop 4) }).answer m 0xD0 c OK
          (le 2 (b ++ p.drop 4).length)))) ∧
  (∀ (s t u : State) (m : Master) (p d : List Byte) (st : Nat) (c : Option ReqCtx), s.comes m 0xD0 p c t → p.length = 4 →
    u8 p 0 = 2 → u8 p 1 = 0 → u16 p 2 = 0 → t.upd.apply = none → t.stageEnd = (u, st, d) →
    exec (.cfgStage m p) s = .next (s.after (u.answer m 0xD0 c st d))) ∧
  (∀ (s t : State) (m : Master) (p : List Byte) (c : Option ReqCtx), s.comes m 0xD0 p c t → p.length = 4 → u8 p 0 = 3 →
    u8 p 1 = 0 → u16 p 2 = 0 → t.upd.apply = none →
    exec (.cfgStage m p) s = .next (s.after (t.dropStaged.answer m 0xD0 c OK []))) ∧
  (∀ (s t u : State) (m : Master) (p b : List Byte) (a : CfgApply) (c : Option ReqCtx), s.comes m 0xD1 p c t →
    p.length = 4 → u8 p 2 < 2 → u8 p 3 = 0 → t.upd.apply = none → t.upd.switch = none → t.upd.staged = some b →
    u16 b 4 = u16 p 0 → (imageBlocks t.stagedWords).isEmpty = false →
    a = { epoch := u16 b 4, named := imageBlocks t.stagedWords, pending := imageBlocks t.stagedWords, at_ := t.time.now,
          commit := u8 p 2 = 1, master := m, ctx := c } →
    u = (t.modUpd fun k => { k with apply := some a }).setCstate 2 →
    exec (.cfgApply m p) s = .next (s.after (u.modApply id))) ∧
  (∀ (s t u : State) (m : Master) (p b : List Byte) (a : CfgApply) (c : Option ReqCtx), s.comes m 0xD1 p c t →
    p.length = 4 → u8 p 2 < 2 → u8 p 3 = 0 → t.upd.apply = none → t.upd.switch = none → t.upd.staged = some b →
    u16 b 4 = u16 p 0 → imageBlocks t.stagedWords = [] →
    a = { epoch := u16 b 4, named := [], pending := [], at_ := t.time.now, commit := u8 p 2 = 1, master := m, ctx := c } →
    u = (t.modUpd fun k => { k with apply := some a }).setCstate 2 →
    exec (.cfgApply m p) s = .next (s.after ((u.modApply id).applyDone a true))) ∧
  (∀ (s t : State) (m : Master) (p b : List Byte) (c : Option ReqCtx), s.comes m 0xD2 p c t → p.length = 6 → u8 p 0 = 0 →
    u8 p 1 = 0 → within 1 4096 (u16 p 4) = true →
    b = (if t.upd.inForce.isEmpty then [0x43, 0x47, 1, 0, 0, 0, 0, 0] else t.upd.inForce) →
    exec (.cfgRead m p) s
      = .next (s.after (t.answer m 0xD2 c OK
          ((b.drop (u16 p 2)).take (u16 p 4) ++ List.replicate (u16 p 4 - (b.length - u16 p 2)) 0xFF)))) ∧
  (∀ (s t : State) (m : Master) (p b : List Byte) (c : Option ReqCtx), s.comes m 0xD2 p c t → p.length = 6 → u8 p 0 = 1 →
    u8 p 1 = 0 → within 1 4096 (u16 p 4) = true → t.upd.staged = some b →
    exec (.cfgRead m p) s
      = .next (s.after (t.answer m 0xD2 c OK
          ((b.drop (u16 p 2)).take (u16 p 4) ++ List.replicate (u16 p 4 - (b.length - u16 p 2)) 0xFF)))) ∧
  (∀ (s t : State) (m : Master) (p b : List Byte) (k : Nat) (c : Option ReqCtx), s.comes m 0xD2 p c t → p.length = 6 →
    u8 p 0 = k + 2 → k < 2 → u8 p 1 = 0 → within 1 4096 (u16 p 4) = true → b = t.readMem (imageAddr k) 0x2000 →
    exec (.cfgRead m p) s
      = .next (s.after (t.answer m 0xD2 c OK
          ((b.drop (u16 p 2)).take (u16 p 4) ++ List.replicate (u16 p 4 - (b.length - u16 p 2)) 0xFF)))) ∧
  (∀ (s t u v : State) (m : Master) (b : Bool) (k : Nat) (c : Option ReqCtx), s.comes m 0xD3 [] c t → t.upd.apply = none →
    t.sys.epoch ≠ 0 → k = t.otherCopy →
    u = (t.writeImage k t.upd.inForce).modUpd (fun u =>
      { u with progs := u.progs ++ [{ op := 0xD3, copy := k, ok := b, master := m, ctx := c }] }) →
    v = (u.flashAsk { kind := 2, addr := archImage k, data := [], owner := 0 }).flashAsk
      { kind := 2, addr := archImage k + 0x1000, data := [], owner := 0 } →
    exec (.cfgCommitNv m [] b) s
      = .next (s.after (v.flashAsk { kind := 1, addr := archImage k, data := v.upd.inForce, owner := 2 })))

/-- The commands of the firmware slots and CAL_STAGE complete (R584, R587, R588, R608 to R610). Where the spec is silent the
equations rest on readings of the model: notes/assumptions/1.md, 45.md, 120.md, 124.md, 165.md. -/
def Obligations.FirmwareCommandsComplete : Prop :=
  (∀ (s t : State) (m : Master) (p : List Byte) (b : Bool) (c : Option ReqCtx), s.comes m 0xD4 p c t → p.length = 8 →
    u8 p 0 < 2 → u8 p 1 = 0 → u16 p 2 = 0 → u32 p 4 < 0x100000 → t.slotBarred (u8 p 0) = false → t.upd.erase = none →
    exec (.fwWriteSlot m p b) s
      = .next (s.after (((t.put (fwVerified (u8 p 0)) 0).modUpd fun u =>
          { u with erase := some (u8 p 0) }).notePeak.flashFollow.answer m 0xD4 c ACCEPTED []))) ∧
  (∀ (s t : State) (m : Master) (p : List Byte) (b : Bool) (c : Option ReqCtx), s.comes m 0xD4 p c t →
    within 9 4104 p.length = true → 2 ≤ p.length → u8 p 0 < 2 → u8 p 1 = 1 → u16 p 2 = 0 → u32 p 4 < 0x100000 →
    u32 p 4 % 256 = 0 → u32 p 4 + (p.length - 8) ≤ 0x100000 → t.slotBarred (u8 p 0) = false → t.upd.erase = none →
    exec (.fwWriteSlot m p b) s
      = .next (s.after (((t.put (fwVerified (u8 p 0)) 0).modUpd fun u =>
          { u with progs := u.progs ++ [{ op := 0xD4, ok := b, master := m, ctx := c }] }).flashAsk
            { kind := 1, addr := fwAddr (u8 p 0) + u32 p 4, data := p.drop 8, owner := 2 }))) ∧
  (∀ (s u : State) (at_ k : Nat), s.upd.erase = some k → s.upd.eraseHeld = false →
    u = ((s.advance at_).eraseMem (0x30000000 + fwAddr k) 0x100000).modUpd (fun u => { u with erase := none }) →
    exec (.fwEraseDone at_) s = .next (s.after (u.fwEvent 0 OK k))) ∧
  (∀ (s t : State) (m : Master) (p h : List Byte) (c : Option ReqCtx), s.comes m 0xD5 p c t → p.length = 4 → u8 p 0 < 2 →
    zeroAt p 1 3 = true → h = t.fwHeader (u8 p 0) →
    exec (.fwVerify m p) s
      = .next (s.after (if t.fwVerifyStatus (u8 p 0) = OK then (t.put (fwVerified (u8 p 0)) 1).answer m 0xD5 c OK
            (le 4 (fwVersion h) ++ le 4 (fwSecver h) ++ le 4 (fwLen h) ++ (fwTag h).take 4)
          else t.answer m 0xD5 c (t.fwVerifyStatus (u8 p 0)) []))) ∧
  (∀ (s t : State) (m : Master) (p : List Byte) (k : Nat) (c : Option ReqCtx), s.comes m 0xD6 p c t → p.length = 4 →
    u8 p 0 = 0 → zeroAt p 1 3 = true → t.upd.apply = none → t.upd.switch = none → t.recovery = false →
    k = 1 - t.get SYS_FW_STATUS_SLOT → t.flag (fwVerified k) = true →
    exec (.fwSwitch m p) s
      = .next (s.after ((t.setSwitch (some { slot := k, fallback := false, since := t.time.now })).answer m 0xD6 c ACCEPTED
          []))) ∧
  (∀ (s t u v : State) (m : Master) (p : List Byte) (k : Nat) (c : Option ReqCtx), s.comes m 0xD6 p c t →
    firstFail [lenIs p 4, paramOk (u8 p 0 < 2 && zeroAt p 1 3)] = none → u8 p 0 = 0 → t.upd.apply = none →
    t.upd.switch = none → t.recovery = true →
    (t.flag (fwVerified 0) = true ∧ k = 0 ∨ t.flag (fwVerified 0) = false ∧ t.flag (fwVerified 1) = true ∧ k = 1) → u = t.writeDesc k 2 0 k →
    v = { u with hif := { u.hif with softReset := some (10 * Config.usTicks + u.time.now, 0) } } →
    exec (.fwSwitch m p) s = .next (s.after (v.answer m 0xD6 c ACCEPTED []))) ∧
  (∀ (s t u v : State) (m : Master) (p : List Byte) (k : Nat) (x : FwConfirm) (c : Option ReqCtx), s.comes m 0xD6 p c t →
    firstFail [lenIs p 4, paramOk (u8 p 0 < 2 && zeroAt p 1 3)] = none → u8 p 0 = 1 → t.flag SYS_FW_STATUS_TRIAL = true → k = t.get SYS_FW_STATUS_SLOT →
    u = (t.writeDesc k 2 0 k).put SYS_FW_STATUS_TRIAL 0 → x = { target := fwSecver (u.fwHeader k), master := m, ctx := c } →
    v = u.modUpd (fun u => { u with trialAt := none, confirm := some x }) →
    exec (.fwSwitch m p) s = .next (s.after (v.fwEvent 3 OK k).confirmStep)) ∧
  (∀ (s t : State) (m : Master) (p : List Byte) (c : Option ReqCtx), s.comes m 0xD7 p c t → p.length = 4 → u8 p 0 = 0 →
    u8 p 1 < 32 → zeroAt p 2 2 = true → t.utx.fgItems = 0 →
    exec (.calStage m p) s
      = .next (s.after (((t.calStaged 0 (u8 p 1)).foldl (fun s k => s.calSave k) t).answer m 0xD7 c OK
          [byte (sumNat ((t.calStaged 0 (u8 p 1)).map fun k => 2 ^ k))]))) ∧
  (∀ (s t : State) (m : Master) (p : List Byte) (l : List Nat) (c : Option ReqCtx), s.comes m 0xD7 p c t → p.length = 4 →
    u8 p 0 < 3 → (u8 p 0 == 0) = false → u8 p 1 < 32 → zeroAt p 2 2 = true → t.utx.fgItems = 0 →
    l = t.calStaged (u8 p 0) (u8 p 1) →
    exec (.calStage m p) s
      = .next (s.after (((t.modUtx fun u => { u with back := u.back ++ l.map fun k => (k, decide (u8 p 0 = 2)) }).calBack).answer
          m 0xD7 c OK [byte (sumNat (l.map fun k => 2 ^ k))])))

/-- The rows of a staged apply and of a firmware switch complete (R579, R580, R587, R588). Where the spec is silent the equations
rest on readings of the model: notes/assumptions/120.md, 122.md. -/
def Obligations.ApplyAndSwitchRowsComplete : Prop :=
  (∀ (s u : State) (b : Fin 23) (ok : Bool) (at_ : Nat) (a a2 : CfgApply), s.upd.apply = some a → a.reverting = false →
    a.pending.contains b.val = true → s.quietBlock b.val = true → u = (s.advance at_).switchBlock b.val →
    u.upd.apply = some a2 → a2.pending.isEmpty = false →
    exec (.configSwitch b ok at_) s = .next (s.after u)) ∧
  (∀ (s u : State) (b : Fin 23) (ok : Bool) (at_ : Nat) (a a2 : CfgApply), s.upd.apply = some a → a.reverting = false →
    a.pending.contains b.val = true → s.quietBlock b.val = true → u = (s.advance at_).switchBlock b.val →
    u.upd.apply = some a2 → a2.pending.isEmpty = true →
    exec (.configSwitch b ok at_) s = .next (s.after (u.applyDone a2 ok))) ∧
  (∀ (s u v w : State) (a : CfgApply) (never : Nat) (back : List Nat), s.upd.apply = some a → a.reverting = false →
    u = s.advance (a.at_ + Config.msTicks * s.get SYS_UPD_CFG_APPLY_TO_MS) → never = maskOf a.pending →
    back = (a.named.filter fun b => !a.pending.contains b) →
    v = (u.setCstate 3).modApply (fun a => { a with reverting := true, pending := back, never := never }) →
    w = v.cfgDone a DEFERRED never →
    exec .applyTimeout s
      = .next (s.after (w.answer a.master 0xD1 a.ctx DEFERRED (le 2 v.sys.epoch ++ le 4 never)).revertEnd)) ∧
  (∀ (s : State) (b : Fin 23) (at_ : Nat) (a : CfgApply), s.upd.apply = some a → a.reverting = true →
    a.pending.contains b.val = true → s.quietBlock b.val = true →
    exec (.configRevert b at_) s = .next (s.after ((s.advance at_).revertBlock a b.val).revertEnd)) ∧
  (∀ (s u v : State) (at_ : Nat) (w : FwSwitch) (h : List Byte), s.upd.switch = some w → w.stage = 1 → u = s.advance at_ →
    h = u.fwHeader w.slot → fwHeadOk h = true → v = u.copyBank w.slot (1 - u.upd.bank) →
    exec (.switchBankLoaded at_) s
      = .next (s.after (if fwTagOf h (u.readFlash (fwAddr w.slot + 0x100) (fwLen h)) = fwTag h
          then v.setSwitch (some { w with stage := 2, since := u.time.now })
          else (u.setSwitch none).fwEvent 2 IMAGE_INVALID w.slot))) ∧
  (∀ (s u : State) (at_ : Nat) (w : FwSwitch) (h : List Byte), s.upd.switch = some w → w.stage = 1 → u = s.advance at_ →
    h = u.fwHeader w.slot → fwHeadOk h = false →
    exec (.switchBankLoaded at_) s = .next (s.after ((u.setSwitch none).fwEvent 2 IMAGE_INVALID w.slot))) ∧
  (∀ (s : State) (at_ : Nat) (w : FwSwitch), s.upd.switch = some w → w.stage = 2 → s.awake = true → s.handoverOk = true →
    exec (.handoverPoint at_) s = .next (s.after ((s.advance at_).handover w))) ∧
  (∀ (s : State) (w : FwSwitch), s.upd.switch = some w → w.stage = 2 → w.fallback = false →
    exec .switchWaitTimeout s
      = .next (s.after (((s.advance (w.since + Config.msTicks * s.get SYS_UPD_CFG_SWITCH_WAIT_MS)).setSwitch none).fwEvent 2
          DEFERRED w.slot))) ∧
  (∀ (s u : State) (w : FwSwitch), s.upd.switch = some w → w.stage = 2 → w.fallback = true → s.awake = true →
    u = s.advance (Config.sTicks + w.since) → u.handoverOk = true →
    exec .fallbackRetry s = .next (s.after (u.handover w))) ∧
  (∀ (s u : State) (w : FwSwitch), s.upd.switch = some w → w.stage = 2 → w.fallback = true → s.awake = true →
    u = s.advance (Config.sTicks + w.since) → u.handoverOk = false →
    exec .fallbackRetry s = .next (s.after (u.setSwitch (some { w with since := u.time.now })))) ∧
  (∀ (s : State) (t : Nat), s.upd.trialAt = some t →
    exec .trialTimeout s = .next (s.after (s.advance (60 * Config.sTicks + t)).fwFallback))

/-- The commands of the worker link complete (R593, R594, R611, R612). Where the spec is silent the equations rest on readings of
the model: notes/assumptions/125.md, 126.md. -/
def Obligations.LinkCommandsComplete : Prop :=
  (∀ (s t u : State) (m : Master) (p : List Byte) (q : Nat) (c : Option ReqCtx), s.comes m 0xE0 p c t →
    p.length = 4 → u8 p 0 < 2 → u8 p 1 < 4 → u8 p 2 < 128 → u8 p 3 < 128 → q = u8 p 2 + 2 ^ 8 * u8 p 3 →
    t.flag WLK_CTRL_LOCK = false →
    u = ((t.put WLK_CTRL_INDEX (u8 p 1)).put WLK_QCFG q).writeEn 20 (u8 p 0 = 1) →
    exec (.wlConfig m p) s = .next (s.after (u.answer m 0xE0 c OK [byte (u.unit 20).code]))) ∧
  (∀ (s t u : State) (m : Master) (c : Option ReqCtx), s.comes m 0xE1 [] c t → t.isManager = true → t.unitOn 20 = true →
    t.wlk.discover = none → u = t.modWlk (fun k => { k with discover := some (m, c, t.time.now) }) →
    exec (.wlDiscover m []) s = .next (s.after ((List.range 4).foldl (fun s w => s.measureStart w) u))) ∧
  (∀ (s t : State) (m : Master) (c : Option ReqCtx), s.comes m 0xE2 [] c t →
    exec (.wlStatus m []) s
      = .next (s.after (t.answer m 0xE2 c OK
          ([byte t.sys.straps, byte (t.get WLK_CTRL_INDEX), byte (t.unit 20).code, byte (t.get WLK_STATUS_PRESENT),
            byte (t.get WLK_STATUS_LOCKED), 0, 0, 0] ++ le 4 (t.get WLK_CRC_ERRS) ++ [0, 0, 0, 0])))) ∧
  (∀ (s t : State) (m : Master) (p : List Byte) (f : WlForward) (c : Option ReqCtx), s.comes m 0xE3 p c t →
    firstFail [(8 ≤ p.length && p.length == 8 + u16 (p.drop 4) 2, BAD_LENGTH),
      paramOk (u8 p 0 < 4 && zeroAt p 1 3 && u8 (p.drop 4) 0 ≠ 0xE3)] = none →
    t.unitOn 20 = true → (t.worker (u8 p 0)).locked = true → t.wlk.fwd = none →
    f = { worker := u8 p 0, packet := p.drop 4, at_ := t.time.now, master := m, ctx := c } →
    exec (.wlForward m p) s
      = .next (s.after ((t.modWlk fun k => { k with fwd := some f }).bump WLK_TX_FRAMES (linkFrames (p.drop 4).length)))) ∧
  (∀ (s t : State) (m : Master) (p : List Byte) (c : Option ReqCtx), s.comes m 0xE3 p c t →
    firstFail [(8 ≤ p.length && p.length == 8 + u16 (p.drop 4) 2, BAD_LENGTH),
      paramOk (u8 p 0 < 4 && zeroAt p 1 3 && u8 (p.drop 4) 0 ≠ 0xE3)] = none →
    (t.worker (u8 p 0)).locked = false →
    exec (.wlForward m p) s = .next (s.after (t.answer m 0xE3 c WORKER_LINK [])))

/-- The rows of the link that a manager meets complete (R593 to R595, R597, R612). Where the spec is silent the equations rest on
readings of the model: notes/assumptions/25.md, 126.md, 156.md. -/
def Obligations.ManagerLinkRowsComplete : Prop :=
  (∀ (s u : State) (f : WlForward), s.wlk.fwd = some f → f.got = false → f.tries < 3 →
    u = (s.advance (Config.msTicks + f.at_)).bump WLK_TX_FRAMES (linkFrames f.packet.length) →
    exec .fwdRepeat s
      = .next (s.after (u.modWlk fun k => { k with fwd := some { f with tries := f.tries + 1, at_ := u.time.now } }))) ∧
  (∀ (s : State) (f : WlForward), s.wlk.fwd = some f → (!f.got && f.tries < 3) = false →
    exec .wlForwardTimeout s = .next (s.after ((s.advance (100 * Config.msTicks + f.at_)).forwardEnd f TIMEOUT []))) ∧
  (∀ (s u v : State) (w : Fin 4) (b pay r : List Byte) (at_ : Nat) (f : WlForward) (a : List Byte) (n : Nat), s.linkUp = true →
    s.isManager = true → (s.worker w).locked = true → linkFrame b = some (3, 0x0F, pay) → u = s.linkGot →
    v = u.advance at_ → v.wlk.fwd = some f → f.worker = w → assemble f.asm f.seg pay = (a, n, some r) →
    exec (.reply w b at_) s = .next (s.after (v.forwardEnd f (u8 r 0) ((r.drop 4).take (u16 r 2))))) ∧
  (∀ (s u v : State) (w : Fin 4) (b pay : List Byte) (at_ : Nat) (f : WlForward) (a : List Byte) (n : Nat), s.linkUp = true →
    s.isManager = true → (s.worker w).locked = true → linkFrame b = some (3, 0x0F, pay) → u = s.linkGot →
    v = u.advance at_ → v.wlk.fwd = some f → f.worker = w → assemble f.asm f.seg pay = (a, n, none) →
    exec (.reply w b at_) s
      = .next (s.after (v.modWlk fun k => { k with fwd := some { f with got := true, asm := a, seg := n } }))) ∧
  (∀ (s u : State) (w : Fin 4) (b pay : List Byte) (at_ : Nat), s.linkUp = true → s.isManager = true →
    (s.worker w).locked = true → linkFrame b = some (0x10, 0x0F, pay) → u = s.linkGot.advance at_ →
    exec (.frame w b at_) s = .next (s.after (u.linkItem (u.get WLK_QCFG_Q_FRAME) w 0x10 pay))) ∧
  (∀ (s u : State) (w : Fin 4) (b pay : List Byte) (at_ : Nat), s.linkUp = true → s.isManager = true →
    (s.worker w).locked = true → linkFrame b = some (0x12, 0x0F, pay) → u = s.linkGot.advance at_ →
    exec (.event w b at_) s = .next (s.after (u.linkItem (u.get WLK_QCFG_Q_EVENT) w 0x12 pay))) ∧
  (∀ (s : State) (w : Fin 4) (b : List Byte) (at_ : Nat), s.linkUp = true → s.isManager = true →
    (s.worker w).locked = true → linkFrame b = none →
    exec (.frame w b at_) s = .next (s.after (s.linkCrc w)) ∧ exec (.event w b at_) s = .next (s.after (s.linkCrc w))) ∧
  (∀ (s : State) (w : Fin 4) (tones : Byte) (d : BitVec 16) (at_ : Nat), s.linkUp = true → s.isManager = true →
    (s.worker w).locked = true →
    exec (.rangeW w true tones d at_) s
      = .next (s.after ((s.advance at_).linkGot.rangeWorker w tones.toNat (100 * d.toNat)))) ∧
  (∀ (s : State) (w : Fin 4) (tones : Byte) (d : BitVec 16) (at_ : Nat), s.linkUp = true → s.isManager = true →
    (s.worker w).locked = true →
    exec (.rangeW w false tones d at_) s = .next (s.after ((s.advance at_).linkCrc w))) ∧
  (∀ (s : State) (w : Fin 4) (at_ : Nat), s.linkUp = true → s.isManager = true → (s.worker w).meas = none →
    exec (.delayMeasurement w at_) s = .next (s.after ((s.advance at_).measureStart w))) ∧
  (∀ (s u v : State) (w : Fin 4) (t1 t2 t3 t4 at_ : Nat) (l : List Int), s.linkUp = true → s.isManager = true →
    u = (s.advance at_).linkGot → (u.worker w).meas = some l → l.length < 15 →
    v = u.modWorker w (fun k => { k with meas := some (l ++ [((t4 : Int) - t1) - ((t3 : Int) - t2)]) }) →
    exec (.drsp w true t1 t2 t3 t4 at_) s = .next (s.after (v.bump WLK_TX_FRAMES))) ∧
  (∀ (s u : State) (w : Fin 4) (t1 t2 t3 t4 at_ : Nat) (l : List Int), s.linkUp = true → s.isManager = true →
    u = (s.advance at_).linkGot → (u.worker w).meas = some l → l.length = 15 →
    exec (.drsp w true t1 t2 t3 t4 at_) s
      = .next (s.after (u.modWorker w fun k => { k with meas := some (l ++ [((t4 : Int) - t1) - ((t3 : Int) - t2)]) }))) ∧
  (∀ (s : State) (w : Fin 4) (t1 t2 t3 t4 at_ : Nat), s.linkUp = true → s.isManager = true →
    exec (.drsp w false t1 t2 t3 t4 at_) s = .next (s.after ((s.advance at_).linkCrc w))) ∧
  (∀ (s u : State) (w : Fin 4) (l : List Int), (s.worker w).meas = some l → l.length = 16 →
    u = s.advance (200 * Config.usTicks + (s.worker w).since) →
    exec (.delayMeasured w) s = .next (s.after (u.judgeDelay w l).discoverReply)) ∧
  (∀ (s u : State) (w : Fin 4) (l : List Int), (s.worker w).meas = some l → l.length ≠ 16 →
    u = s.advance (200 * Config.usTicks + (s.worker w).since) →
    exec (.delayMeasured w) s = .next (s.after (u.workerGone w).discoverReply)) ∧
  (∀ (s u : State) (w : Fin 4) (at_ : Nat), s.linkUp = true → s.isWorker = false → (s.worker w).locked = true →
    u = (((s.advance at_).raise FID_WLK_LOS w).modWorker w fun k =>
      { k with locked := false, present := false, meas := none }).showPresent →
    exec (.wlkLos w at_) s = .next (s.after (u.wlEvent w 1 (u.get (WLK_DELAY_DELAY w)))))

/-- The rows of the link that a worker meets complete (R593, R594, R596, R597). Where the spec is silent the equations rest on
readings of the model: notes/assumptions/22.md, 25.md, 26.md, 127.md, 156.md, 157.md. -/
def Obligations.WorkerLinkRowsComplete : Prop :=
  (∀ (s u : State) (b pay a : List Byte) (at_ adr n : Nat), s.isWorker = true → s.linkUp = true → s.flag WLK_STATUS_LOCKED = true →
    linkFrame b = some (2, adr, pay) → u = (s.advance at_).linkGot → (adr ≠ (s.advance at_).get WLK_CTRL_INDEX && adr ≠ 0xFF) = false →
    assemble u.wlk.asm u.wlk.seg pay = (a, n, none) →
    exec (.fwd b at_) s = .next (s.after (u.modWlk fun k => { k with asm := a, seg := n }))) ∧
  (∀ (s u : State) (b pay a r : List Byte) (at_ adr n : Nat), s.isWorker = true → s.linkUp = true →
    s.flag WLK_STATUS_LOCKED = true → linkFrame b = some (2, adr, pay) → u = (s.advance at_).linkGot →
    (adr ≠ (s.advance at_).get WLK_CTRL_INDEX && adr ≠ 0xFF) = false → assemble u.wlk.asm u.wlk.seg pay = (a, n, some r) →
    exec (.fwd b at_) s
      = .next (s.after ((u.modWlk fun k => { k with asm := a, seg := n }).forwarded r portCommand))) ∧
  (∀ (s : State) (b : List Byte) (at_ : Nat), s.isWorker = true → s.linkUp = true → s.flag WLK_STATUS_LOCKED = true →
    linkFrame b = none → exec (.fwd b at_) s = .next (s.after ((s.advance at_).linkCrc 0xFF))) ∧
  (∀ (s : State) (i o : Nat) (l : List Byte) (at_ : Nat), s.isWorker = true → s.linkUp = true →
    s.flag WLK_STATUS_LOCKED = true →
    exec (.run true i o l at_) s
      = .next (s.after ((s.advance at_).linkGot.modWlk fun k => { k with run := some (i, o, l) }))) ∧
  (∀ (s : State) (i o : Nat) (l : List Byte) (at_ : Nat), s.isWorker = true → s.linkUp = true →
    s.flag WLK_STATUS_LOCKED = true →
    exec (.run false i o l at_) s = .next (s.after ((s.advance at_).linkCrc 0xFF))) ∧
  (∀ (s : State) (at_ : Nat), s.isWorker = true → s.linkUp = true →
    exec (.dreq true none at_) s = .next (s.after ((s.advance at_).linkGot.bump WLK_TX_FRAMES))) ∧
  (∀ (s u : State) (t at_ : Nat), s.isWorker = true → s.linkUp = true → u = (s.advance at_).linkGot.bump WLK_TX_FRAMES →
    u.wlk.slaved = false →
    exec (.dreq true (some t) at_) s = .next (s.after ((u.modWlk fun k => { k with slaved := true }).setDev t))) ∧
  (∀ (s u : State) (t at_ : Nat), s.isWorker = true → s.linkUp = true → u = (s.advance at_).linkGot.bump WLK_TX_FRAMES →
    u.wlk.slaved = true → 3 ≤ ((t : Int) - u.time.dev).natAbs →
    exec (.dreq true (some t) at_) s
      = .next (s.after { u with time := { u.time with devLeft := 10000 * ((t : Int) - u.time.dev) } })) ∧
  (∀ (s : State) (d : Option Nat) (at_ : Nat), s.isWorker = true → s.linkUp = true →
    exec (.dreq false d at_) s = .next (s.after ((s.advance at_).linkCrc 0xFF))) ∧
  (∀ (s : State) (w : Fin 4) (at_ : Nat), s.isWorker = true → s.linkUp = true → s.flag WLK_STATUS_LOCKED = true →
    exec (.wlkLos w at_) s = .next (s.after ((s.advance at_).raise FID_WLK_LOS).linkLost)) ∧
  (∀ (s : State) (ok : Bool) (t : Nat), s.isWorker = true → s.linkUp = true → s.wlk.lost = some t →
    exec (.lockRetry ok) s = .next (s.after ((s.advance (10 * Config.msTicks + t)).linkLocked ok)))
end

