-- ==== Sys2Proof/Laws/Crypto.lean ====
section
/-!
SUPPORT. Laws/Crypto.lean: the lengths of round keys, cipher blocks, CMAC tags and key streams, that CCM opens what it has sealed, and that the CRC of
a frame that the vault forms is right.
-/
namespace Sys2Proof.Machine

theorem length_xorBytes (a b : List Byte) : (xorBytes a b).length = min a.length b.length := by simp [xorBytes]

theorem length_shiftRows (d : Nat) (b : List Byte) : (shiftRows d b).length = 16 := by simp [shiftRows]

theorem length_mixColumn (m : List Nat) (c : List Byte) : (mixColumn m c).length = 4 := by simp [mixColumn]

theorem length_mixColumns (m : List Nat) {b : List Byte} (h : b.length = 16) : (mixColumns m b).length = 16 := by
  match b, h with
  | [b0, b1, b2, b3, b4, b5, b6, b7, b8, b9, b10, b11, b12, b13, b14, b15], _ =>
    simp [mixColumns, chunks, length_mixColumn]

theorem length_encRounds {ks : List (List Byte)} (hk : ∀ k ∈ ks, k.length = 16) :
    ∀ {b : List Byte}, b.length = 16 → (encRounds ks b).length = 16 := by
  induction ks with
  | nil => intro b h; simpa [encRounds] using h
  | cons k l ih =>
    intro b h
    have h1 : k.length = 16 := hk k (by simp)
    cases l with
    | nil => simp [encRounds, length_xorBytes, length_shiftRows, h1]
    | cons k2 l =>
      simp only [encRounds]
      exact ih (fun x hx => hk x (List.mem_cons_of_mem _ hx))
        (by simp [length_xorBytes, length_mixColumns, length_shiftRows, h1])

/-- The round keys of `key` are whole blocks. -/
abbrev KeyOk (key : List Byte) : Prop := ∀ k ∈ roundKeys key, k.length = 16

theorem chunks_whole {α : Type} {k : Nat} (hk : 0 < k) :
    ∀ (n : Nat) {l : List α}, l.length = k * n → (chunks k n l).length = n ∧ ∀ c ∈ chunks k n l, c.length = k
  | 0, _, _ => by simp [chunks]
  | n + 1, l, h => by
    have h1 : l.length = k * n + k := by rw [h, Nat.mul_succ]
    have h2 : l.isEmpty = false := by cases l with
      | nil => simp at h1; omega
      | cons => rfl
    have ih := chunks_whole hk n (l := l.drop k) (by simp; omega)
    simp only [chunks, h2, Bool.false_eq_true, if_false, List.length_cons, List.mem_cons]
    exact ⟨by rw [ih.1], fun c hc => hc.elim (fun e => by rw [e, List.length_take]; omega) (ih.2 c)⟩

theorem length_keyWords {nk : Nat} (hk : 0 < nk) : ∀ (n i : Nat) (rc : Byte) {ws : List (List Byte)}, nk ≤ ws.length →
    (∀ w ∈ ws, w.length = 4) → (keyWords nk n i rc ws).length = n + ws.length ∧ ∀ w ∈ keyWords nk n i rc ws, w.length = 4
  | 0, _, _, _, _, hw => by simpa [keyWords] using hw
  | n + 1, i, rc, ws, hl, hw => by
    have h1 : (ws.headD []).length = 4 := by
      cases ws with
      | nil => simp at hl; omega
      | cons w l => exact hw w (by simp)
    have h2 : (ws.getD (nk - 1) []).length = 4 := by
      have hlt : nk - 1 < ws.length := by omega
      rw [List.getD_eq_getElem?_getD, List.getElem?_eq_getElem hlt]; exact hw _ (List.getElem_mem hlt)
    have hu : ∀ w, (keyWords nk (n + 1) i rc ws = keyWords nk n (i + 1) (if i % nk = 0 then xtime rc else rc) (w :: ws)) →
        w.length = 4 → (keyWords nk (n + 1) i rc ws).length = n + 1 + ws.length ∧ ∀ w ∈ keyWords nk (n + 1) i rc ws, w.length = 4 := by
      intro w e hw4
      have ih := length_keyWords hk n (i + 1) (if i % nk = 0 then xtime rc else rc) (ws := w :: ws) (by simp; omega)
        (fun x hx => (List.mem_cons.mp hx).elim (fun e => e ▸ hw4) (hw x))
      rw [e]
      exact ⟨by rw [ih.1, List.length_cons]; omega, ih.2⟩
    refine hu _ rfl ?_
    rw [length_xorBytes, h2]
    split
    · simp only [length_xorBytes, List.length_map, List.length_append, List.length_drop, List.length_take, h1]; rfl
    · split <;> simp only [List.length_map, h1, Nat.min_self]

/-- The round keys of a key of whole words are whole blocks, and there are 7 more than the key has words. -/
theorem roundKeys_whole {key : List Byte} {nk : Nat} (hk : 0 < nk) (h : key.length = 4 * nk) :
    (roundKeys key).length = nk + 7 ∧ KeyOk key := by
  have e : key.length / 4 = nk := by omega
  have hc := chunks_whole (α := Byte) (k := 4) (by omega) nk h
  have hw := length_keyWords hk (4 * (nk + 7) - nk) nk 1 (ws := (chunks 4 nk key).reverse) (by simp [hc.1]) (by simpa using hc.2)
  have hf : ∀ (l : List (List Byte)), (∀ w ∈ l, w.length = 4) → (l.flatMap id).length = 4 * l.length := by
    intro l; induction l with
    | nil => simp
    | cons w l ih =>
      intro hl
      have := ih (fun x hx => hl x (List.mem_cons_of_mem _ hx))
      simp only [List.flatMap_cons, List.length_append, List.length_cons, id, hl w (by simp), this]; omega
  unfold KeyOk roundKeys
  simp only [e]
  exact chunks_whole (by omega) (nk + 7)
    (by rw [hf _ (by simpa using hw.2), List.length_reverse, hw.1, List.length_reverse, hc.1]; omega)
theorem length_padTo (n : Nat) (b : List Byte) : (padTo n b).length = n := by
  simp [padTo]; omega

theorem length_aesEncrypt {key : List Byte} (hk : KeyOk key) (h0 : roundKeys key ≠ []) (b : List Byte) :
    (aesEncrypt key b).length = 16 := by
  unfold KeyOk at hk
  unfold aesEncrypt
  split
  · contradiction
  · rename_i k l h
    rw [h] at hk
    exact length_encRounds (fun x hx => hk x (List.mem_cons_of_mem _ hx))
      (by simp [length_xorBytes, length_padTo, hk k (by simp)])

theorem length_cbcMac {key : List Byte} (hk : KeyOk key) (h0 : roundKeys key ≠ []) (l : List (List Byte)) :
    ∀ {x : List Byte}, x.length = 16 → (cbcMac key l x).length = 16 := by
  induction l with
  | nil => intro x h; simpa [cbcMac] using h
  | cons b l ih => intro x h; exact ih (length_aesEncrypt hk h0 _)

theorem length_cmac {key : List Byte} (hk : KeyOk key) (h0 : roundKeys key ≠ []) (m : List Byte) : (cmac key m).length = 16 := by
  unfold cmac
  exact length_aesEncrypt hk h0 _

theorem length_ctrStream {key : List Byte} (hk : KeyOk key) (h0 : roundKeys key ≠ []) (nonce : List Byte) (q n : Nat) :
    ∀ i : Nat, (ctrStream key nonce q n i).length = 16 * n := by
  induction n with
  | zero => intro i; rfl
  | succ n ih => intro i; simp [ctrStream, length_aesEncrypt hk h0, ih]; omega

theorem xorBytes_xorBytes (a : List Byte) : ∀ k : List Byte, a.length ≤ k.length → xorBytes (xorBytes a k) k = a := by
  induction a with
  | nil => intro k _; rfl
  | cons x a ih =>
    intro k h
    cases k with
    | nil => simp at h
    | cons y k =>
      have := ih k (by simpa using h)
      simp only [xorBytes] at this
      simp [xorBytes, this, BitVec.xor_assoc]

theorem length_ccmCrypt {key : List Byte} (hk : KeyOk key) (h0 : roundKeys key ≠ []) (nonce pt : List Byte) :
    (ccmCrypt key nonce pt).length = pt.length := by
  simp only [ccmCrypt, length_xorBytes, length_ctrStream hk h0]; omega

theorem ccmCrypt_ccmCrypt {key : List Byte} (hk : KeyOk key) (h0 : roundKeys key ≠ []) (nonce pt : List Byte) :
    ccmCrypt key nonce (ccmCrypt key nonce pt) = pt := by
  have h := length_ccmCrypt hk h0 nonce pt
  rw [ccmCrypt, h, ccmCrypt, xorBytes_xorBytes]
  simp only [length_ctrStream hk h0]; omega

theorem length_ccmSeal {key : List Byte} (hk : KeyOk key) (h0 : roundKeys key ≠ []) (nonce ad pt : List Byte) {t : Nat} (ht : t ≤ 16) :
    (ccmSeal key nonce ad pt t).length = pt.length + t := by
  simp only [ccmSeal, List.length_append, length_ccmCrypt hk h0, length_xorBytes, length_ctrStream hk h0, ccmMac, List.length_take,
    length_cbcMac hk h0 _ (List.length_replicate)]
  omega

/-- CCM opens what it has sealed. -/
theorem ccmOpen_ccmSeal {key : List Byte} (hk : KeyOk key) (h0 : roundKeys key ≠ []) (nonce ad pt : List Byte) {t : Nat} (ht : t ≤ 16) :
    ccmOpen key nonce ad (ccmSeal key nonce ad pt t) t = some pt := by
  have h := length_ccmSeal hk h0 nonce ad pt ht
  have h2 : (ccmSeal key nonce ad pt t).take ((ccmSeal key nonce ad pt t).length - t) = ccmCrypt key nonce pt := by
    rw [h, Nat.add_sub_cancel, ccmSeal, ← length_ccmCrypt hk h0 nonce pt]
    exact List.take_left
  simp only [ccmOpen, h2, ccmCrypt_ccmCrypt hk h0, if_true]

theorem length_frameCrc (b : List Byte) : (frameCrc b).length = 2 := by simp [frameCrc]

/-- The CRC of a formed frame is right. -/
theorem frameGood_frameOf (b : List Byte) : frameGood (frameOf b) = true := by
  simp [frameGood, frameOf, length_frameCrc]

theorem length_frameOf (b : List Byte) : (frameOf b).length = b.length + 2 := by simp [frameOf, length_frameCrc]

/-- The bytes after the first of a formed frame. -/
theorem frameOf_body (x : Byte) (l : List Byte) : (((frameOf (x :: l)).drop 1).take l.length) = l := by simp [frameOf]

end Sys2Proof.Machine
end

