-- ==== Sys2Proof/Laws/Sparse.lean ====
section
/-!
SUPPORT. Laws/Sparse.lean: the laws of the canonical form that memory and the register file share: reading after a write, and
that a write keeps the form.
-/
namespace Sys2Proof.Machine

section
variable {α : Type} {d : Nat → α}

/-- The first address of a canonical list lies above every address below which the list is to stand. -/
def sparseAbove (l : List (Nat × α)) (a : Nat) : Prop := ∀ p ∈ l, a < p.1

/-- An address below every listed one reads as its default. -/
theorem sparseGet_above {l : List (Nat × α)} {a : Nat} (h : sparseAbove l a) : sparseGet d l a = d a := by
  induction l with
  | nil => rfl
  | cons p l ih =>
    obtain ⟨k, v⟩ := p
    have hk : a < k := h (k, v) (by simp)
    simp only [sparseGet, if_neg (show ¬k = a by omega)]
    exact ih fun p hp => h p (by simp [hp])

variable [DecidableEq α]

theorem sparseWf_cons {k : Nat} {v : α} {l : List (Nat × α)} :
    sparseWf d ((k, v) :: l) = true ↔ v ≠ d k ∧ sparseAbove l k ∧ sparseWf d l = true := by
  induction l generalizing k v with
  | nil => simp [sparseWf, sparseAbove]
  | cons p l ih =>
    obtain ⟨k', v'⟩ := p
    simp only [sparseWf, Bool.and_eq_true, decide_eq_true_eq, ih, sparseAbove, List.mem_cons, forall_eq_or_imp]
    constructor
    · rintro ⟨⟨h1, h2⟩, h3, h4, h5⟩
      exact ⟨h1, ⟨h2, fun p hp => Nat.lt_trans h2 (h4 p hp)⟩, h3, h4, h5⟩
    · rintro ⟨h1, ⟨h2, _⟩, h3, h4, h5⟩
      exact ⟨⟨h1, h2⟩, h3, h4, h5⟩

/-- A write keeps every address above a bound that the list and the written address are above. -/
theorem sparseSet_above {l : List (Nat × α)} {a b : Nat} {v : α} (h : sparseAbove l b) (hb : b < a) :
    sparseAbove (sparseSet d l a v) b := by
  induction l with
  | nil => intro p; simp only [sparseSet]; split <;> simp +contextual [hb]
  | cons q l ih =>
    obtain ⟨k, w⟩ := q
    have hk : b < k := h (k, w) (by simp)
    have hl : sparseAbove l b := fun p hp => h p (by simp [hp])
    intro p
    simp only [sparseSet]
    split
    · split
      · exact h p
      · intro hp
        rcases List.mem_cons.1 hp with rfl | hp
        · exact hb
        · exact h p hp
    · split
      · split
        · exact hl p
        · intro hp
          rcases List.mem_cons.1 hp with rfl | hp
          · exact hb
          · exact hl p hp
      · intro hp
        rcases List.mem_cons.1 hp with rfl | hp
        · exact hk
        · exact ih hl p hp

/-- A write keeps the canonical form. -/
theorem sparseSet_wf {l : List (Nat × α)} (a : Nat) (v : α) (h : sparseWf d l = true) : sparseWf d (sparseSet d l a v) = true := by
  induction l with
  | nil => simp only [sparseSet]; split <;> simp_all [sparseWf]
  | cons q l ih =>
    obtain ⟨k, w⟩ := q
    obtain ⟨h1, h2, h3⟩ := sparseWf_cons.1 h
    simp only [sparseSet]
    split
    · rename_i hlt
      split
      · exact h
      · refine sparseWf_cons.2 ⟨‹_›, ?_, h⟩
        intro p hp
        rcases List.mem_cons.1 hp with rfl | hp
        · exact hlt
        · exact Nat.lt_trans hlt (h2 p hp)
    · rename_i hge
      split
      · rename_i he
        subst he
        split
        · exact h3
        · exact sparseWf_cons.2 ⟨‹_›, h2, h3⟩
      · exact sparseWf_cons.2 ⟨h1, sparseSet_above h2 (by omega), ih h3⟩

/-- The written address reads back as the written value. -/
theorem sparseGet_set_self {l : List (Nat × α)} (a : Nat) (v : α) (h : sparseWf d l = true) :
    sparseGet d (sparseSet d l a v) a = v := by
  induction l with
  | nil => simp only [sparseSet]; split <;> simp_all [sparseGet]
  | cons q l ih =>
    obtain ⟨k, w⟩ := q
    obtain ⟨_, h2, h3⟩ := sparseWf_cons.1 h
    simp only [sparseSet]
    split
    · rename_i hlt
      split
      · rename_i hv
        rw [hv]
        refine sparseGet_above fun p hp => ?_
        rcases List.mem_cons.1 hp with rfl | hp
        · exact hlt
        · exact Nat.lt_trans hlt (h2 p hp)
      · simp [sparseGet]
    · split
      · rename_i he
        subst he
        split
        · rename_i hv; rw [hv]; exact sparseGet_above h2
        · simp [sparseGet]
      · rename_i hne
        simp only [sparseGet, if_neg (show ¬k = a from fun h => hne h.symm)]
        exact ih h3

/-- Every other address reads as before. -/
theorem sparseGet_set_other {l : List (Nat × α)} {a b : Nat} (v : α) (hab : b ≠ a) :
    sparseGet d (sparseSet d l a v) b = sparseGet d l b := by
  induction l with
  | nil => simp only [sparseSet]; split <;> simp [sparseGet, Ne.symm hab]
  | cons q l ih =>
    obtain ⟨k, w⟩ := q
    simp only [sparseSet]
    split
    · split <;> simp [sparseGet, Ne.symm hab]
    · split
      · rename_i he
        subst he
        split
        · simp only [sparseGet, if_neg (Ne.symm hab)]
        · simp [sparseGet, Ne.symm hab]
      · simp only [sparseGet]
        split
        · rfl
        · exact ih

/-- Two canonical lists that read alike everywhere are one list. -/
theorem sparse_ext {l m : List (Nat × α)} (hl : sparseWf d l = true) (hm : sparseWf d m = true)
    (h : ∀ a, sparseGet d l a = sparseGet d m a) : l = m := by
  induction l generalizing m with
  | nil =>
    cases m with
    | nil => rfl
    | cons q m =>
      obtain ⟨k, w⟩ := q
      have := h k
      simp only [sparseGet, if_pos] at this
      exact absurd this.symm (sparseWf_cons.1 hm).1
  | cons p l ih =>
    obtain ⟨k, v⟩ := p
    obtain ⟨p1, p2, p3⟩ := sparseWf_cons.1 hl
    cases m with
    | nil =>
      have := h k
      simp only [sparseGet, if_pos] at this
      exact absurd this p1
    | cons q m =>
      obtain ⟨j, w⟩ := q
      obtain ⟨q1, q2, q3⟩ := sparseWf_cons.1 hm
      have hkj : k = j := by
        rcases Nat.lt_trichotomy k j with hlt | he | hlt
        · have := h k
          rw [sparseGet_above (l := (j, w) :: m) (fun p hp => by
            rcases List.mem_cons.1 hp with rfl | hp
            · exact hlt
            · exact Nat.lt_trans hlt (q2 p hp))] at this
          simp only [sparseGet, if_pos] at this
          exact absurd this p1
        · exact he
        · have := h j
          rw [sparseGet_above (l := (k, v) :: l) (fun p hp => by
            rcases List.mem_cons.1 hp with rfl | hp
            · exact hlt
            · exact Nat.lt_trans hlt (p2 p hp))] at this
          simp only [sparseGet, if_pos] at this
          exact absurd this.symm q1
      subst hkj
      have hv : v = w := by have := h k; simpa only [sparseGet, if_pos] using this
      subst hv
      congr 1
      refine ih p3 q3 fun a => ?_
      by_cases ha : k = a
      · subst ha
        rw [sparseGet_above p2, sparseGet_above q2]
      · have := h a
        simpa only [sparseGet, if_neg ha] using this

end

end Sys2Proof.Machine
end

