-- ==== Sys2Proof/Laws/State.lean ====
section
/-!
SUPPORT. Laws/State.lean: what each update of the state leaves in each field, true by definition, so that no proof unfolds a record
update.
-/
namespace Sys2Proof.Machine

@[simp] theorem State.setReg_regs (s : State) (a : Nat) (v : Word) : (s.setReg a v).regs = sparseSet regDefault s.regs a v := rfl
@[simp] theorem State.setReg_mem (s : State) (a : Nat) (v : Word) : (s.setReg a v).mem = s.mem := rfl
@[simp] theorem State.setReg_units (s : State) (a : Nat) (v : Word) : (s.setReg a v).units = s.units := rfl
@[simp] theorem State.setReg_sys (s : State) (a : Nat) (v : Word) : (s.setReg a v).sys = s.sys := rfl
@[simp] theorem State.setReg_time (s : State) (a : Nat) (v : Word) : (s.setReg a v).time = s.time := rfl
@[simp] theorem State.setReg_cal (s : State) (a : Nat) (v : Word) : (s.setReg a v).cal = s.cal := rfl
@[simp] theorem State.setReg_fires (s : State) (a : Nat) (v : Word) : (s.setReg a v).fires = s.fires := rfl
@[simp] theorem State.setReg_tmr (s : State) (a : Nat) (v : Word) : (s.setReg a v).tmr = s.tmr := rfl
@[simp] theorem State.setReg_pwr (s : State) (a : Nat) (v : Word) : (s.setReg a v).pwr = s.pwr := rfl
@[simp] theorem State.setReg_qm (s : State) (a : Nat) (v : Word) : (s.setReg a v).qm = s.qm := rfl
@[simp] theorem State.setReg_hif (s : State) (a : Nat) (v : Word) : (s.setReg a v).hif = s.hif := rfl
@[simp] theorem State.setReg_flt (s : State) (a : Nat) (v : Word) : (s.setReg a v).flt = s.flt := rfl
@[simp] theorem State.setReg_bbx (s : State) (a : Nat) (v : Word) : (s.setReg a v).bbx = s.bbx := rfl
@[simp] theorem State.setReg_aes (s : State) (a : Nat) (v : Word) : (s.setReg a v).aes = s.aes := rfl
@[simp] theorem State.setReg_lf (s : State) (a : Nat) (v : Word) : (s.setReg a v).lf = s.lf := rfl
@[simp] theorem State.setReg_urx (s : State) (a : Nat) (v : Word) : (s.setReg a v).urx = s.urx := rfl
@[simp] theorem State.setReg_utx (s : State) (a : Nat) (v : Word) : (s.setReg a v).utx = s.utx := rfl
@[simp] theorem State.setReg_range (s : State) (a : Nat) (v : Word) : (s.setReg a v).range = s.range := rfl
@[simp] theorem State.setReg_zone (s : State) (a : Nat) (v : Word) : (s.setReg a v).zone = s.zone := rfl
@[simp] theorem State.setReg_cred (s : State) (a : Nat) (v : Word) : (s.setReg a v).cred = s.cred := rfl
@[simp] theorem State.setReg_auth (s : State) (a : Nat) (v : Word) : (s.setReg a v).auth = s.auth := rfl
@[simp] theorem State.setReg_rel (s : State) (a : Nat) (v : Word) : (s.setReg a v).rel = s.rel := rfl
@[simp] theorem State.setReg_hfr (s : State) (a : Nat) (v : Word) : (s.setReg a v).hfr = s.hfr := rfl
@[simp] theorem State.setReg_vlt (s : State) (a : Nat) (v : Word) : (s.setReg a v).vlt = s.vlt := rfl
@[simp] theorem State.setReg_upd (s : State) (a : Nat) (v : Word) : (s.setReg a v).upd = s.upd := rfl
@[simp] theorem State.setReg_wlk (s : State) (a : Nat) (v : Word) : (s.setReg a v).wlk = s.wlk := rfl
@[simp] theorem State.setReg_cnt (s : State) (a : Nat) (v : Word) : (s.setReg a v).cnt = s.cnt := rfl
@[simp] theorem State.setReg_rng (s : State) (a : Nat) (v : Word) : (s.setReg a v).rng = s.rng := rfl
@[simp] theorem State.setReg_free (s : State) (a : Nat) (v : Word) : (s.setReg a v).free = s.free := rfl
@[simp] theorem State.setReg_pending (s : State) (a : Nat) (v : Word) : (s.setReg a v).pending = s.pending := rfl

@[simp] theorem State.put_mem (s : State) (f : Field) (v : Nat) : (s.put f v).mem = s.mem := rfl
@[simp] theorem State.put_units (s : State) (f : Field) (v : Nat) : (s.put f v).units = s.units := rfl
@[simp] theorem State.put_sys (s : State) (f : Field) (v : Nat) : (s.put f v).sys = s.sys := rfl
@[simp] theorem State.put_time (s : State) (f : Field) (v : Nat) : (s.put f v).time = s.time := rfl
@[simp] theorem State.put_cal (s : State) (f : Field) (v : Nat) : (s.put f v).cal = s.cal := rfl
@[simp] theorem State.put_fires (s : State) (f : Field) (v : Nat) : (s.put f v).fires = s.fires := rfl
@[simp] theorem State.put_tmr (s : State) (f : Field) (v : Nat) : (s.put f v).tmr = s.tmr := rfl
@[simp] theorem State.put_pwr (s : State) (f : Field) (v : Nat) : (s.put f v).pwr = s.pwr := rfl
@[simp] theorem State.put_qm (s : State) (f : Field) (v : Nat) : (s.put f v).qm = s.qm := rfl
@[simp] theorem State.put_hif (s : State) (f : Field) (v : Nat) : (s.put f v).hif = s.hif := rfl
@[simp] theorem State.put_flt (s : State) (f : Field) (v : Nat) : (s.put f v).flt = s.flt := rfl
@[simp] theorem State.put_bbx (s : State) (f : Field) (v : Nat) : (s.put f v).bbx = s.bbx := rfl
@[simp] theorem State.put_aes (s : State) (f : Field) (v : Nat) : (s.put f v).aes = s.aes := rfl
@[simp] theorem State.put_lf (s : State) (f : Field) (v : Nat) : (s.put f v).lf = s.lf := rfl
@[simp] theorem State.put_urx (s : State) (f : Field) (v : Nat) : (s.put f v).urx = s.urx := rfl
@[simp] theorem State.put_utx (s : State) (f : Field) (v : Nat) : (s.put f v).utx = s.utx := rfl
@[simp] theorem State.put_range (s : State) (f : Field) (v : Nat) : (s.put f v).range = s.range := rfl
@[simp] theorem State.put_zone (s : State) (f : Field) (v : Nat) : (s.put f v).zone = s.zone := rfl
@[simp] theorem State.put_cred (s : State) (f : Field) (v : Nat) : (s.put f v).cred = s.cred := rfl
@[simp] theorem State.put_auth (s : State) (f : Field) (v : Nat) : (s.put f v).auth = s.auth := rfl
@[simp] theorem State.put_rel (s : State) (f : Field) (v : Nat) : (s.put f v).rel = s.rel := rfl
@[simp] theorem State.put_hfr (s : State) (f : Field) (v : Nat) : (s.put f v).hfr = s.hfr := rfl
@[simp] theorem State.put_vlt (s : State) (f : Field) (v : Nat) : (s.put f v).vlt = s.vlt := rfl
@[simp] theorem State.put_upd (s : State) (f : Field) (v : Nat) : (s.put f v).upd = s.upd := rfl
@[simp] theorem State.put_wlk (s : State) (f : Field) (v : Nat) : (s.put f v).wlk = s.wlk := rfl
@[simp] theorem State.put_cnt (s : State) (f : Field) (v : Nat) : (s.put f v).cnt = s.cnt := rfl
@[simp] theorem State.put_rng (s : State) (f : Field) (v : Nat) : (s.put f v).rng = s.rng := rfl
@[simp] theorem State.put_free (s : State) (f : Field) (v : Nat) : (s.put f v).free = s.free := rfl
@[simp] theorem State.put_pending (s : State) (f : Field) (v : Nat) : (s.put f v).pending = s.pending := rfl

@[simp] theorem State.putB_mem (s : State) (f : Field) (b : Bool) : (s.putB f b).mem = s.mem := rfl
@[simp] theorem State.putB_units (s : State) (f : Field) (b : Bool) : (s.putB f b).units = s.units := rfl
@[simp] theorem State.putB_sys (s : State) (f : Field) (b : Bool) : (s.putB f b).sys = s.sys := rfl
@[simp] theorem State.putB_time (s : State) (f : Field) (b : Bool) : (s.putB f b).time = s.time := rfl
@[simp] theorem State.putB_cal (s : State) (f : Field) (b : Bool) : (s.putB f b).cal = s.cal := rfl
@[simp] theorem State.putB_fires (s : State) (f : Field) (b : Bool) : (s.putB f b).fires = s.fires := rfl
@[simp] theorem State.putB_tmr (s : State) (f : Field) (b : Bool) : (s.putB f b).tmr = s.tmr := rfl
@[simp] theorem State.putB_pwr (s : State) (f : Field) (b : Bool) : (s.putB f b).pwr = s.pwr := rfl
@[simp] theorem State.putB_qm (s : State) (f : Field) (b : Bool) : (s.putB f b).qm = s.qm := rfl
@[simp] theorem State.putB_hif (s : State) (f : Field) (b : Bool) : (s.putB f b).hif = s.hif := rfl
@[simp] theorem State.putB_flt (s : State) (f : Field) (b : Bool) : (s.putB f b).flt = s.flt := rfl
@[simp] theorem State.putB_bbx (s : State) (f : Field) (b : Bool) : (s.putB f b).bbx = s.bbx := rfl
@[simp] theorem State.putB_aes (s : State) (f : Field) (b : Bool) : (s.putB f b).aes = s.aes := rfl
@[simp] theorem State.putB_lf (s : State) (f : Field) (b : Bool) : (s.putB f b).lf = s.lf := rfl
@[simp] theorem State.putB_urx (s : State) (f : Field) (b : Bool) : (s.putB f b).urx = s.urx := rfl
@[simp] theorem State.putB_utx (s : State) (f : Field) (b : Bool) : (s.putB f b).utx = s.utx := rfl
@[simp] theorem State.putB_range (s : State) (f : Field) (b : Bool) : (s.putB f b).range = s.range := rfl
@[simp] theorem State.putB_zone (s : State) (f : Field) (b : Bool) : (s.putB f b).zone = s.zone := rfl
@[simp] theorem State.putB_cred (s : State) (f : Field) (b : Bool) : (s.putB f b).cred = s.cred := rfl
@[simp] theorem State.putB_auth (s : State) (f : Field) (b : Bool) : (s.putB f b).auth = s.auth := rfl
@[simp] theorem State.putB_rel (s : State) (f : Field) (b : Bool) : (s.putB f b).rel = s.rel := rfl
@[simp] theorem State.putB_hfr (s : State) (f : Field) (b : Bool) : (s.putB f b).hfr = s.hfr := rfl
@[simp] theorem State.putB_vlt (s : State) (f : Field) (b : Bool) : (s.putB f b).vlt = s.vlt := rfl
@[simp] theorem State.putB_upd (s : State) (f : Field) (b : Bool) : (s.putB f b).upd = s.upd := rfl
@[simp] theorem State.putB_wlk (s : State) (f : Field) (b : Bool) : (s.putB f b).wlk = s.wlk := rfl
@[simp] theorem State.putB_cnt (s : State) (f : Field) (b : Bool) : (s.putB f b).cnt = s.cnt := rfl
@[simp] theorem State.putB_rng (s : State) (f : Field) (b : Bool) : (s.putB f b).rng = s.rng := rfl
@[simp] theorem State.putB_free (s : State) (f : Field) (b : Bool) : (s.putB f b).free = s.free := rfl
@[simp] theorem State.putB_pending (s : State) (f : Field) (b : Bool) : (s.putB f b).pending = s.pending := rfl

@[simp] theorem State.bump_mem (s : State) (f : Field) (n : Nat) : (s.bump f n).mem = s.mem := rfl
@[simp] theorem State.bump_units (s : State) (f : Field) (n : Nat) : (s.bump f n).units = s.units := rfl
@[simp] theorem State.bump_sys (s : State) (f : Field) (n : Nat) : (s.bump f n).sys = s.sys := rfl
@[simp] theorem State.bump_time (s : State) (f : Field) (n : Nat) : (s.bump f n).time = s.time := rfl
@[simp] theorem State.bump_cal (s : State) (f : Field) (n : Nat) : (s.bump f n).cal = s.cal := rfl
@[simp] theorem State.bump_fires (s : State) (f : Field) (n : Nat) : (s.bump f n).fires = s.fires := rfl
@[simp] theorem State.bump_tmr (s : State) (f : Field) (n : Nat) : (s.bump f n).tmr = s.tmr := rfl
@[simp] theorem State.bump_pwr (s : State) (f : Field) (n : Nat) : (s.bump f n).pwr = s.pwr := rfl
@[simp] theorem State.bump_qm (s : State) (f : Field) (n : Nat) : (s.bump f n).qm = s.qm := rfl
@[simp] theorem State.bump_hif (s : State) (f : Field) (n : Nat) : (s.bump f n).hif = s.hif := rfl
@[simp] theorem State.bump_flt (s : State) (f : Field) (n : Nat) : (s.bump f n).flt = s.flt := rfl
@[simp] theorem State.bump_bbx (s : State) (f : Field) (n : Nat) : (s.bump f n).bbx = s.bbx := rfl
@[simp] theorem State.bump_aes (s : State) (f : Field) (n : Nat) : (s.bump f n).aes = s.aes := rfl
@[simp] theorem State.bump_lf (s : State) (f : Field) (n : Nat) : (s.bump f n).lf = s.lf := rfl
@[simp] theorem State.bump_urx (s : State) (f : Field) (n : Nat) : (s.bump f n).urx = s.urx := rfl
@[simp] theorem State.bump_utx (s : State) (f : Field) (n : Nat) : (s.bump f n).utx = s.utx := rfl
@[simp] theorem State.bump_range (s : State) (f : Field) (n : Nat) : (s.bump f n).range = s.range := rfl
@[simp] theorem State.bump_zone (s : State) (f : Field) (n : Nat) : (s.bump f n).zone = s.zone := rfl
@[simp] theorem State.bump_cred (s : State) (f : Field) (n : Nat) : (s.bump f n).cred = s.cred := rfl
@[simp] theorem State.bump_auth (s : State) (f : Field) (n : Nat) : (s.bump f n).auth = s.auth := rfl
@[simp] theorem State.bump_rel (s : State) (f : Field) (n : Nat) : (s.bump f n).rel = s.rel := rfl
@[simp] theorem State.bump_hfr (s : State) (f : Field) (n : Nat) : (s.bump f n).hfr = s.hfr := rfl
@[simp] theorem State.bump_vlt (s : State) (f : Field) (n : Nat) : (s.bump f n).vlt = s.vlt := rfl
@[simp] theorem State.bump_upd (s : State) (f : Field) (n : Nat) : (s.bump f n).upd = s.upd := rfl
@[simp] theorem State.bump_wlk (s : State) (f : Field) (n : Nat) : (s.bump f n).wlk = s.wlk := rfl
@[simp] theorem State.bump_cnt (s : State) (f : Field) (n : Nat) : (s.bump f n).cnt = s.cnt := rfl
@[simp] theorem State.bump_rng (s : State) (f : Field) (n : Nat) : (s.bump f n).rng = s.rng := rfl
@[simp] theorem State.bump_free (s : State) (f : Field) (n : Nat) : (s.bump f n).free = s.free := rfl
@[simp] theorem State.bump_pending (s : State) (f : Field) (n : Nat) : (s.bump f n).pending = s.pending := rfl

@[simp] theorem State.putBit_mem (s : State) (f : Field) (i : Nat) (b : Bool) : (s.putBit f i b).mem = s.mem := rfl
@[simp] theorem State.putBit_units (s : State) (f : Field) (i : Nat) (b : Bool) : (s.putBit f i b).units = s.units := rfl
@[simp] theorem State.putBit_sys (s : State) (f : Field) (i : Nat) (b : Bool) : (s.putBit f i b).sys = s.sys := rfl
@[simp] theorem State.putBit_time (s : State) (f : Field) (i : Nat) (b : Bool) : (s.putBit f i b).time = s.time := rfl
@[simp] theorem State.putBit_cal (s : State) (f : Field) (i : Nat) (b : Bool) : (s.putBit f i b).cal = s.cal := rfl
@[simp] theorem State.putBit_fires (s : State) (f : Field) (i : Nat) (b : Bool) : (s.putBit f i b).fires = s.fires := rfl
@[simp] theorem State.putBit_tmr (s : State) (f : Field) (i : Nat) (b : Bool) : (s.putBit f i b).tmr = s.tmr := rfl
@[simp] theorem State.putBit_pwr (s : State) (f : Field) (i : Nat) (b : Bool) : (s.putBit f i b).pwr = s.pwr := rfl
@[simp] theorem State.putBit_qm (s : State) (f : Field) (i : Nat) (b : Bool) : (s.putBit f i b).qm = s.qm := rfl
@[simp] theorem State.putBit_hif (s : State) (f : Field) (i : Nat) (b : Bool) : (s.putBit f i b).hif = s.hif := rfl
@[simp] theorem State.putBit_flt (s : State) (f : Field) (i : Nat) (b : Bool) : (s.putBit f i b).flt = s.flt := rfl
@[simp] theorem State.putBit_bbx (s : State) (f : Field) (i : Nat) (b : Bool) : (s.putBit f i b).bbx = s.bbx := rfl
@[simp] theorem State.putBit_aes (s : State) (f : Field) (i : Nat) (b : Bool) : (s.putBit f i b).aes = s.aes := rfl
@[simp] theorem State.putBit_lf (s : State) (f : Field) (i : Nat) (b : Bool) : (s.putBit f i b).lf = s.lf := rfl
@[simp] theorem State.putBit_urx (s : State) (f : Field) (i : Nat) (b : Bool) : (s.putBit f i b).urx = s.urx := rfl
@[simp] theorem State.putBit_utx (s : State) (f : Field) (i : Nat) (b : Bool) : (s.putBit f i b).utx = s.utx := rfl
@[simp] theorem State.putBit_range (s : State) (f : Field) (i : Nat) (b : Bool) : (s.putBit f i b).range = s.range := rfl
@[simp] theorem State.putBit_zone (s : State) (f : Field) (i : Nat) (b : Bool) : (s.putBit f i b).zone = s.zone := rfl
@[simp] theorem State.putBit_cred (s : State) (f : Field) (i : Nat) (b : Bool) : (s.putBit f i b).cred = s.cred := rfl
@[simp] theorem State.putBit_auth (s : State) (f : Field) (i : Nat) (b : Bool) : (s.putBit f i b).auth = s.auth := rfl
@[simp] theorem State.putBit_rel (s : State) (f : Field) (i : Nat) (b : Bool) : (s.putBit f i b).rel = s.rel := rfl
@[simp] theorem State.putBit_hfr (s : State) (f : Field) (i : Nat) (b : Bool) : (s.putBit f i b).hfr = s.hfr := rfl
@[simp] theorem State.putBit_vlt (s : State) (f : Field) (i : Nat) (b : Bool) : (s.putBit f i b).vlt = s.vlt := rfl
@[simp] theorem State.putBit_upd (s : State) (f : Field) (i : Nat) (b : Bool) : (s.putBit f i b).upd = s.upd := rfl
@[simp] theorem State.putBit_wlk (s : State) (f : Field) (i : Nat) (b : Bool) : (s.putBit f i b).wlk = s.wlk := rfl
@[simp] theorem State.putBit_cnt (s : State) (f : Field) (i : Nat) (b : Bool) : (s.putBit f i b).cnt = s.cnt := rfl
@[simp] theorem State.putBit_rng (s : State) (f : Field) (i : Nat) (b : Bool) : (s.putBit f i b).rng = s.rng := rfl
@[simp] theorem State.putBit_free (s : State) (f : Field) (i : Nat) (b : Bool) : (s.putBit f i b).free = s.free := rfl
@[simp] theorem State.putBit_pending (s : State) (f : Field) (i : Nat) (b : Bool) : (s.putBit f i b).pending = s.pending := rfl

@[simp] theorem State.setUnit_regs (s : State) (b : Nat) (u : UnitState) : (s.setUnit b u).regs = s.regs := rfl
@[simp] theorem State.setUnit_mem (s : State) (b : Nat) (u : UnitState) : (s.setUnit b u).mem = s.mem := rfl
@[simp] theorem State.setUnit_units (s : State) (b : Nat) (u : UnitState) : (s.setUnit b u).units = s.units.set b u := rfl
@[simp] theorem State.setUnit_sys (s : State) (b : Nat) (u : UnitState) : (s.setUnit b u).sys = s.sys := rfl
@[simp] theorem State.setUnit_time (s : State) (b : Nat) (u : UnitState) : (s.setUnit b u).time = s.time := rfl
@[simp] theorem State.setUnit_cal (s : State) (b : Nat) (u : UnitState) : (s.setUnit b u).cal = s.cal := rfl
@[simp] theorem State.setUnit_fires (s : State) (b : Nat) (u : UnitState) : (s.setUnit b u).fires = s.fires := rfl
@[simp] theorem State.setUnit_tmr (s : State) (b : Nat) (u : UnitState) : (s.setUnit b u).tmr = s.tmr := rfl
@[simp] theorem State.setUnit_pwr (s : State) (b : Nat) (u : UnitState) : (s.setUnit b u).pwr = s.pwr := rfl
@[simp] theorem State.setUnit_qm (s : State) (b : Nat) (u : UnitState) : (s.setUnit b u).qm = s.qm := rfl
@[simp] theorem State.setUnit_hif (s : State) (b : Nat) (u : UnitState) : (s.setUnit b u).hif = s.hif := rfl
@[simp] theorem State.setUnit_flt (s : State) (b : Nat) (u : UnitState) : (s.setUnit b u).flt = s.flt := rfl
@[simp] theorem State.setUnit_bbx (s : State) (b : Nat) (u : UnitState) : (s.setUnit b u).bbx = s.bbx := rfl
@[simp] theorem State.setUnit_aes (s : State) (b : Nat) (u : UnitState) : (s.setUnit b u).aes = s.aes := rfl
@[simp] theorem State.setUnit_lf (s : State) (b : Nat) (u : UnitState) : (s.setUnit b u).lf = s.lf := rfl
@[simp] theorem State.setUnit_urx (s : State) (b : Nat) (u : UnitState) : (s.setUnit b u).urx = s.urx := rfl
@[simp] theorem State.setUnit_utx (s : State) (b : Nat) (u : UnitState) : (s.setUnit b u).utx = s.utx := rfl
@[simp] theorem State.setUnit_range (s : State) (b : Nat) (u : UnitState) : (s.setUnit b u).range = s.range := rfl
@[simp] theorem State.setUnit_zone (s : State) (b : Nat) (u : UnitState) : (s.setUnit b u).zone = s.zone := rfl
@[simp] theorem State.setUnit_cred (s : State) (b : Nat) (u : UnitState) : (s.setUnit b u).cred = s.cred := rfl
@[simp] theorem State.setUnit_auth (s : State) (b : Nat) (u : UnitState) : (s.setUnit b u).auth = s.auth := rfl
@[simp] theorem State.setUnit_rel (s : State) (b : Nat) (u : UnitState) : (s.setUnit b u).rel = s.rel := rfl
@[simp] theorem State.setUnit_hfr (s : State) (b : Nat) (u : UnitState) : (s.setUnit b u).hfr = s.hfr := rfl
@[simp] theorem State.setUnit_vlt (s : State) (b : Nat) (u : UnitState) : (s.setUnit b u).vlt = s.vlt := rfl
@[simp] theorem State.setUnit_upd (s : State) (b : Nat) (u : UnitState) : (s.setUnit b u).upd = s.upd := rfl
@[simp] theorem State.setUnit_wlk (s : State) (b : Nat) (u : UnitState) : (s.setUnit b u).wlk = s.wlk := rfl
@[simp] theorem State.setUnit_cnt (s : State) (b : Nat) (u : UnitState) : (s.setUnit b u).cnt = s.cnt := rfl
@[simp] theorem State.setUnit_rng (s : State) (b : Nat) (u : UnitState) : (s.setUnit b u).rng = s.rng := rfl
@[simp] theorem State.setUnit_free (s : State) (b : Nat) (u : UnitState) : (s.setUnit b u).free = s.free := rfl
@[simp] theorem State.setUnit_pending (s : State) (b : Nat) (u : UnitState) : (s.setUnit b u).pending = s.pending := rfl

@[simp] theorem State.setMem8_regs (s : State) (a : Nat) (v : Byte) : (s.setMem8 a v).regs = s.regs := rfl
@[simp] theorem State.setMem8_mem (s : State) (a : Nat) (v : Byte) : (s.setMem8 a v).mem = sparseSet memDefault s.mem a v := rfl
@[simp] theorem State.setMem8_units (s : State) (a : Nat) (v : Byte) : (s.setMem8 a v).units = s.units := rfl
@[simp] theorem State.setMem8_sys (s : State) (a : Nat) (v : Byte) : (s.setMem8 a v).sys = s.sys := rfl
@[simp] theorem State.setMem8_time (s : State) (a : Nat) (v : Byte) : (s.setMem8 a v).time = s.time := rfl
@[simp] theorem State.setMem8_cal (s : State) (a : Nat) (v : Byte) : (s.setMem8 a v).cal = s.cal := rfl
@[simp] theorem State.setMem8_fires (s : State) (a : Nat) (v : Byte) : (s.setMem8 a v).fires = s.fires := rfl
@[simp] theorem State.setMem8_tmr (s : State) (a : Nat) (v : Byte) : (s.setMem8 a v).tmr = s.tmr := rfl
@[simp] theorem State.setMem8_pwr (s : State) (a : Nat) (v : Byte) : (s.setMem8 a v).pwr = s.pwr := rfl
@[simp] theorem State.setMem8_qm (s : State) (a : Nat) (v : Byte) : (s.setMem8 a v).qm = s.qm := rfl
@[simp] theorem State.setMem8_hif (s : State) (a : Nat) (v : Byte) : (s.setMem8 a v).hif = s.hif := rfl
@[simp] theorem State.setMem8_flt (s : State) (a : Nat) (v : Byte) : (s.setMem8 a v).flt = s.flt := rfl
@[simp] theorem State.setMem8_bbx (s : State) (a : Nat) (v : Byte) : (s.setMem8 a v).bbx = s.bbx := rfl
@[simp] theorem State.setMem8_aes (s : State) (a : Nat) (v : Byte) : (s.setMem8 a v).aes = s.aes := rfl
@[simp] theorem State.setMem8_lf (s : State) (a : Nat) (v : Byte) : (s.setMem8 a v).lf = s.lf := rfl
@[simp] theorem State.setMem8_urx (s : State) (a : Nat) (v : Byte) : (s.setMem8 a v).urx = s.urx := rfl
@[simp] theorem State.setMem8_utx (s : State) (a : Nat) (v : Byte) : (s.setMem8 a v).utx = s.utx := rfl
@[simp] theorem State.setMem8_range (s : State) (a : Nat) (v : Byte) : (s.setMem8 a v).range = s.range := rfl
@[simp] theorem State.setMem8_zone (s : State) (a : Nat) (v : Byte) : (s.setMem8 a v).zone = s.zone := rfl
@[simp] theorem State.setMem8_cred (s : State) (a : Nat) (v : Byte) : (s.setMem8 a v).cred = s.cred := rfl
@[simp] theorem State.setMem8_auth (s : State) (a : Nat) (v : Byte) : (s.setMem8 a v).auth = s.auth := rfl
@[simp] theorem State.setMem8_rel (s : State) (a : Nat) (v : Byte) : (s.setMem8 a v).rel = s.rel := rfl
@[simp] theorem State.setMem8_hfr (s : State) (a : Nat) (v : Byte) : (s.setMem8 a v).hfr = s.hfr := rfl
@[simp] theorem State.setMem8_vlt (s : State) (a : Nat) (v : Byte) : (s.setMem8 a v).vlt = s.vlt := rfl
@[simp] theorem State.setMem8_upd (s : State) (a : Nat) (v : Byte) : (s.setMem8 a v).upd = s.upd := rfl
@[simp] theorem State.setMem8_wlk (s : State) (a : Nat) (v : Byte) : (s.setMem8 a v).wlk = s.wlk := rfl
@[simp] theorem State.setMem8_cnt (s : State) (a : Nat) (v : Byte) : (s.setMem8 a v).cnt = s.cnt := rfl
@[simp] theorem State.setMem8_rng (s : State) (a : Nat) (v : Byte) : (s.setMem8 a v).rng = s.rng := rfl
@[simp] theorem State.setMem8_free (s : State) (a : Nat) (v : Byte) : (s.setMem8 a v).free = s.free := rfl
@[simp] theorem State.setMem8_pending (s : State) (a : Nat) (v : Byte) : (s.setMem8 a v).pending = s.pending := rfl

@[simp] theorem State.raise_regs (s : State) (fid inst : Nat) (data : List Byte) : (s.raise fid inst data).regs = s.regs := rfl
@[simp] theorem State.raise_mem (s : State) (fid inst : Nat) (data : List Byte) : (s.raise fid inst data).mem = s.mem := rfl
@[simp] theorem State.raise_units (s : State) (fid inst : Nat) (data : List Byte) : (s.raise fid inst data).units = s.units := rfl
@[simp] theorem State.raise_sys (s : State) (fid inst : Nat) (data : List Byte) : (s.raise fid inst data).sys = s.sys := rfl
@[simp] theorem State.raise_time (s : State) (fid inst : Nat) (data : List Byte) : (s.raise fid inst data).time = s.time := rfl
@[simp] theorem State.raise_cal (s : State) (fid inst : Nat) (data : List Byte) : (s.raise fid inst data).cal = s.cal := rfl
@[simp] theorem State.raise_fires (s : State) (fid inst : Nat) (data : List Byte) : (s.raise fid inst data).fires = s.fires := rfl
@[simp] theorem State.raise_tmr (s : State) (fid inst : Nat) (data : List Byte) : (s.raise fid inst data).tmr = s.tmr := rfl
@[simp] theorem State.raise_pwr (s : State) (fid inst : Nat) (data : List Byte) : (s.raise fid inst data).pwr = s.pwr := rfl
@[simp] theorem State.raise_qm (s : State) (fid inst : Nat) (data : List Byte) : (s.raise fid inst data).qm = s.qm := rfl
@[simp] theorem State.raise_hif (s : State) (fid inst : Nat) (data : List Byte) : (s.raise fid inst data).hif = s.hif := rfl
@[simp] theorem State.raise_bbx (s : State) (fid inst : Nat) (data : List Byte) : (s.raise fid inst data).bbx = s.bbx := rfl
@[simp] theorem State.raise_aes (s : State) (fid inst : Nat) (data : List Byte) : (s.raise fid inst data).aes = s.aes := rfl
@[simp] theorem State.raise_lf (s : State) (fid inst : Nat) (data : List Byte) : (s.raise fid inst data).lf = s.lf := rfl
@[simp] theorem State.raise_urx (s : State) (fid inst : Nat) (data : List Byte) : (s.raise fid inst data).urx = s.urx := rfl
@[simp] theorem State.raise_utx (s : State) (fid inst : Nat) (data : List Byte) : (s.raise fid inst data).utx = s.utx := rfl
@[simp] theorem State.raise_range (s : State) (fid inst : Nat) (data : List Byte) : (s.raise fid inst data).range = s.range := rfl
@[simp] theorem State.raise_zone (s : State) (fid inst : Nat) (data : List Byte) : (s.raise fid inst data).zone = s.zone := rfl
@[simp] theorem State.raise_cred (s : State) (fid inst : Nat) (data : List Byte) : (s.raise fid inst data).cred = s.cred := rfl
@[simp] theorem State.raise_auth (s : State) (fid inst : Nat) (data : List Byte) : (s.raise fid inst data).auth = s.auth := rfl
@[simp] theorem State.raise_rel (s : State) (fid inst : Nat) (data : List Byte) : (s.raise fid inst data).rel = s.rel := rfl
@[simp] theorem State.raise_hfr (s : State) (fid inst : Nat) (data : List Byte) : (s.raise fid inst data).hfr = s.hfr := rfl
@[simp] theorem State.raise_vlt (s : State) (fid inst : Nat) (data : List Byte) : (s.raise fid inst data).vlt = s.vlt := rfl
@[simp] theorem State.raise_upd (s : State) (fid inst : Nat) (data : List Byte) : (s.raise fid inst data).upd = s.upd := rfl
@[simp] theorem State.raise_wlk (s : State) (fid inst : Nat) (data : List Byte) : (s.raise fid inst data).wlk = s.wlk := rfl
@[simp] theorem State.raise_cnt (s : State) (fid inst : Nat) (data : List Byte) : (s.raise fid inst data).cnt = s.cnt := rfl
@[simp] theorem State.raise_rng (s : State) (fid inst : Nat) (data : List Byte) : (s.raise fid inst data).rng = s.rng := rfl
@[simp] theorem State.raise_free (s : State) (fid inst : Nat) (data : List Byte) : (s.raise fid inst data).free = s.free := rfl
@[simp] theorem State.raise_pending (s : State) (fid inst : Nat) (data : List Byte) : (s.raise fid inst data).pending = s.pending := rfl

@[simp] theorem State.setCalSlot_regs (s : State) (n : Nat) (v : Option CalSlot) : (s.setCalSlot n v).regs = s.regs := rfl
@[simp] theorem State.setCalSlot_mem (s : State) (n : Nat) (v : Option CalSlot) : (s.setCalSlot n v).mem = s.mem := rfl
@[simp] theorem State.setCalSlot_units (s : State) (n : Nat) (v : Option CalSlot) : (s.setCalSlot n v).units = s.units := rfl
@[simp] theorem State.setCalSlot_sys (s : State) (n : Nat) (v : Option CalSlot) : (s.setCalSlot n v).sys = s.sys := rfl
@[simp] theorem State.setCalSlot_time (s : State) (n : Nat) (v : Option CalSlot) : (s.setCalSlot n v).time = s.time := rfl
@[simp] theorem State.setCalSlot_cal (s : State) (n : Nat) (v : Option CalSlot) : (s.setCalSlot n v).cal = s.cal.set n v := rfl
@[simp] theorem State.setCalSlot_fires (s : State) (n : Nat) (v : Option CalSlot) : (s.setCalSlot n v).fires = s.fires := rfl
@[simp] theorem State.setCalSlot_tmr (s : State) (n : Nat) (v : Option CalSlot) : (s.setCalSlot n v).tmr = s.tmr := rfl
@[simp] theorem State.setCalSlot_pwr (s : State) (n : Nat) (v : Option CalSlot) : (s.setCalSlot n v).pwr = s.pwr := rfl
@[simp] theorem State.setCalSlot_qm (s : State) (n : Nat) (v : Option CalSlot) : (s.setCalSlot n v).qm = s.qm := rfl
@[simp] theorem State.setCalSlot_hif (s : State) (n : Nat) (v : Option CalSlot) : (s.setCalSlot n v).hif = s.hif := rfl
@[simp] theorem State.setCalSlot_flt (s : State) (n : Nat) (v : Option CalSlot) : (s.setCalSlot n v).flt = s.flt := rfl
@[simp] theorem State.setCalSlot_bbx (s : State) (n : Nat) (v : Option CalSlot) : (s.setCalSlot n v).bbx = s.bbx := rfl
@[simp] theorem State.setCalSlot_aes (s : State) (n : Nat) (v : Option CalSlot) : (s.setCalSlot n v).aes = s.aes := rfl
@[simp] theorem State.setCalSlot_lf (s : State) (n : Nat) (v : Option CalSlot) : (s.setCalSlot n v).lf = s.lf := rfl
@[simp] theorem State.setCalSlot_urx (s : State) (n : Nat) (v : Option CalSlot) : (s.setCalSlot n v).urx = s.urx := rfl
@[simp] theorem State.setCalSlot_utx (s : State) (n : Nat) (v : Option CalSlot) : (s.setCalSlot n v).utx = s.utx := rfl
@[simp] theorem State.setCalSlot_range (s : State) (n : Nat) (v : Option CalSlot) : (s.setCalSlot n v).range = s.range := rfl
@[simp] theorem State.setCalSlot_zone (s : State) (n : Nat) (v : Option CalSlot) : (s.setCalSlot n v).zone = s.zone := rfl
@[simp] theorem State.setCalSlot_cred (s : State) (n : Nat) (v : Option CalSlot) : (s.setCalSlot n v).cred = s.cred := rfl
@[simp] theorem State.setCalSlot_auth (s : State) (n : Nat) (v : Option CalSlot) : (s.setCalSlot n v).auth = s.auth := rfl
@[simp] theorem State.setCalSlot_rel (s : State) (n : Nat) (v : Option CalSlot) : (s.setCalSlot n v).rel = s.rel := rfl
@[simp] theorem State.setCalSlot_hfr (s : State) (n : Nat) (v : Option CalSlot) : (s.setCalSlot n v).hfr = s.hfr := rfl
@[simp] theorem State.setCalSlot_vlt (s : State) (n : Nat) (v : Option CalSlot) : (s.setCalSlot n v).vlt = s.vlt := rfl
@[simp] theorem State.setCalSlot_upd (s : State) (n : Nat) (v : Option CalSlot) : (s.setCalSlot n v).upd = s.upd := rfl
@[simp] theorem State.setCalSlot_wlk (s : State) (n : Nat) (v : Option CalSlot) : (s.setCalSlot n v).wlk = s.wlk := rfl
@[simp] theorem State.setCalSlot_cnt (s : State) (n : Nat) (v : Option CalSlot) : (s.setCalSlot n v).cnt = s.cnt := rfl
@[simp] theorem State.setCalSlot_rng (s : State) (n : Nat) (v : Option CalSlot) : (s.setCalSlot n v).rng = s.rng := rfl
@[simp] theorem State.setCalSlot_free (s : State) (n : Nat) (v : Option CalSlot) : (s.setCalSlot n v).free = s.free := rfl
@[simp] theorem State.setCalSlot_pending (s : State) (n : Nat) (v : Option CalSlot) : (s.setCalSlot n v).pending = s.pending := rfl

@[simp] theorem State.setTmrCh_regs (s : State) (n : Nat) (c : TmrChan) : (s.setTmrCh n c).regs = s.regs := rfl
@[simp] theorem State.setTmrCh_mem (s : State) (n : Nat) (c : TmrChan) : (s.setTmrCh n c).mem = s.mem := rfl
@[simp] theorem State.setTmrCh_units (s : State) (n : Nat) (c : TmrChan) : (s.setTmrCh n c).units = s.units := rfl
@[simp] theorem State.setTmrCh_sys (s : State) (n : Nat) (c : TmrChan) : (s.setTmrCh n c).sys = s.sys := rfl
@[simp] theorem State.setTmrCh_time (s : State) (n : Nat) (c : TmrChan) : (s.setTmrCh n c).time = s.time := rfl
@[simp] theorem State.setTmrCh_cal (s : State) (n : Nat) (c : TmrChan) : (s.setTmrCh n c).cal = s.cal := rfl
@[simp] theorem State.setTmrCh_fires (s : State) (n : Nat) (c : TmrChan) : (s.setTmrCh n c).fires = s.fires := rfl
@[simp] theorem State.setTmrCh_tmr (s : State) (n : Nat) (c : TmrChan) : (s.setTmrCh n c).tmr = s.tmr.set n c := rfl
@[simp] theorem State.setTmrCh_pwr (s : State) (n : Nat) (c : TmrChan) : (s.setTmrCh n c).pwr = s.pwr := rfl
@[simp] theorem State.setTmrCh_qm (s : State) (n : Nat) (c : TmrChan) : (s.setTmrCh n c).qm = s.qm := rfl
@[simp] theorem State.setTmrCh_hif (s : State) (n : Nat) (c : TmrChan) : (s.setTmrCh n c).hif = s.hif := rfl
@[simp] theorem State.setTmrCh_flt (s : State) (n : Nat) (c : TmrChan) : (s.setTmrCh n c).flt = s.flt := rfl
@[simp] theorem State.setTmrCh_bbx (s : State) (n : Nat) (c : TmrChan) : (s.setTmrCh n c).bbx = s.bbx := rfl
@[simp] theorem State.setTmrCh_aes (s : State) (n : Nat) (c : TmrChan) : (s.setTmrCh n c).aes = s.aes := rfl
@[simp] theorem State.setTmrCh_lf (s : State) (n : Nat) (c : TmrChan) : (s.setTmrCh n c).lf = s.lf := rfl
@[simp] theorem State.setTmrCh_urx (s : State) (n : Nat) (c : TmrChan) : (s.setTmrCh n c).urx = s.urx := rfl
@[simp] theorem State.setTmrCh_utx (s : State) (n : Nat) (c : TmrChan) : (s.setTmrCh n c).utx = s.utx := rfl
@[simp] theorem State.setTmrCh_range (s : State) (n : Nat) (c : TmrChan) : (s.setTmrCh n c).range = s.range := rfl
@[simp] theorem State.setTmrCh_zone (s : State) (n : Nat) (c : TmrChan) : (s.setTmrCh n c).zone = s.zone := rfl
@[simp] theorem State.setTmrCh_cred (s : State) (n : Nat) (c : TmrChan) : (s.setTmrCh n c).cred = s.cred := rfl
@[simp] theorem State.setTmrCh_auth (s : State) (n : Nat) (c : TmrChan) : (s.setTmrCh n c).auth = s.auth := rfl
@[simp] theorem State.setTmrCh_rel (s : State) (n : Nat) (c : TmrChan) : (s.setTmrCh n c).rel = s.rel := rfl
@[simp] theorem State.setTmrCh_hfr (s : State) (n : Nat) (c : TmrChan) : (s.setTmrCh n c).hfr = s.hfr := rfl
@[simp] theorem State.setTmrCh_vlt (s : State) (n : Nat) (c : TmrChan) : (s.setTmrCh n c).vlt = s.vlt := rfl
@[simp] theorem State.setTmrCh_upd (s : State) (n : Nat) (c : TmrChan) : (s.setTmrCh n c).upd = s.upd := rfl
@[simp] theorem State.setTmrCh_wlk (s : State) (n : Nat) (c : TmrChan) : (s.setTmrCh n c).wlk = s.wlk := rfl
@[simp] theorem State.setTmrCh_cnt (s : State) (n : Nat) (c : TmrChan) : (s.setTmrCh n c).cnt = s.cnt := rfl
@[simp] theorem State.setTmrCh_rng (s : State) (n : Nat) (c : TmrChan) : (s.setTmrCh n c).rng = s.rng := rfl
@[simp] theorem State.setTmrCh_free (s : State) (n : Nat) (c : TmrChan) : (s.setTmrCh n c).free = s.free := rfl
@[simp] theorem State.setTmrCh_pending (s : State) (n : Nat) (c : TmrChan) : (s.setTmrCh n c).pending = s.pending := rfl

@[simp] theorem State.setCnt_regs (s : State) (n v : Nat) : (s.setCnt n v).regs = s.regs := rfl
@[simp] theorem State.setCnt_mem (s : State) (n v : Nat) : (s.setCnt n v).mem = s.mem := rfl
@[simp] theorem State.setCnt_units (s : State) (n v : Nat) : (s.setCnt n v).units = s.units := rfl
@[simp] theorem State.setCnt_sys (s : State) (n v : Nat) : (s.setCnt n v).sys = s.sys := rfl
@[simp] theorem State.setCnt_time (s : State) (n v : Nat) : (s.setCnt n v).time = s.time := rfl
@[simp] theorem State.setCnt_cal (s : State) (n v : Nat) : (s.setCnt n v).cal = s.cal := rfl
@[simp] theorem State.setCnt_fires (s : State) (n v : Nat) : (s.setCnt n v).fires = s.fires := rfl
@[simp] theorem State.setCnt_tmr (s : State) (n v : Nat) : (s.setCnt n v).tmr = s.tmr := rfl
@[simp] theorem State.setCnt_pwr (s : State) (n v : Nat) : (s.setCnt n v).pwr = s.pwr := rfl
@[simp] theorem State.setCnt_qm (s : State) (n v : Nat) : (s.setCnt n v).qm = s.qm := rfl
@[simp] theorem State.setCnt_hif (s : State) (n v : Nat) : (s.setCnt n v).hif = s.hif := rfl
@[simp] theorem State.setCnt_flt (s : State) (n v : Nat) : (s.setCnt n v).flt = s.flt := rfl
@[simp] theorem State.setCnt_bbx (s : State) (n v : Nat) : (s.setCnt n v).bbx = s.bbx := rfl
@[simp] theorem State.setCnt_aes (s : State) (n v : Nat) : (s.setCnt n v).aes = s.aes := rfl
@[simp] theorem State.setCnt_lf (s : State) (n v : Nat) : (s.setCnt n v).lf = s.lf := rfl
@[simp] theorem State.setCnt_urx (s : State) (n v : Nat) : (s.setCnt n v).urx = s.urx := rfl
@[simp] theorem State.setCnt_utx (s : State) (n v : Nat) : (s.setCnt n v).utx = s.utx := rfl
@[simp] theorem State.setCnt_range (s : State) (n v : Nat) : (s.setCnt n v).range = s.range := rfl
@[simp] theorem State.setCnt_zone (s : State) (n v : Nat) : (s.setCnt n v).zone = s.zone := rfl
@[simp] theorem State.setCnt_cred (s : State) (n v : Nat) : (s.setCnt n v).cred = s.cred := rfl
@[simp] theorem State.setCnt_auth (s : State) (n v : Nat) : (s.setCnt n v).auth = s.auth := rfl
@[simp] theorem State.setCnt_rel (s : State) (n v : Nat) : (s.setCnt n v).rel = s.rel := rfl
@[simp] theorem State.setCnt_hfr (s : State) (n v : Nat) : (s.setCnt n v).hfr = s.hfr := rfl
@[simp] theorem State.setCnt_vlt (s : State) (n v : Nat) : (s.setCnt n v).vlt = s.vlt := rfl
@[simp] theorem State.setCnt_upd (s : State) (n v : Nat) : (s.setCnt n v).upd = s.upd := rfl
@[simp] theorem State.setCnt_wlk (s : State) (n v : Nat) : (s.setCnt n v).wlk = s.wlk := rfl
@[simp] theorem State.setCnt_rng (s : State) (n v : Nat) : (s.setCnt n v).rng = s.rng := rfl
@[simp] theorem State.setCnt_free (s : State) (n v : Nat) : (s.setCnt n v).free = s.free := rfl
@[simp] theorem State.setCnt_pending (s : State) (n v : Nat) : (s.setCnt n v).pending = s.pending := rfl

@[simp] theorem State.setWin_regs (s : State) (w : Nat) (v : UrxWin) : (s.setWin w v).regs = s.regs := rfl
@[simp] theorem State.setWin_mem (s : State) (w : Nat) (v : UrxWin) : (s.setWin w v).mem = s.mem := rfl
@[simp] theorem State.setWin_units (s : State) (w : Nat) (v : UrxWin) : (s.setWin w v).units = s.units := rfl
@[simp] theorem State.setWin_sys (s : State) (w : Nat) (v : UrxWin) : (s.setWin w v).sys = s.sys := rfl
@[simp] theorem State.setWin_time (s : State) (w : Nat) (v : UrxWin) : (s.setWin w v).time = s.time := rfl
@[simp] theorem State.setWin_cal (s : State) (w : Nat) (v : UrxWin) : (s.setWin w v).cal = s.cal := rfl
@[simp] theorem State.setWin_fires (s : State) (w : Nat) (v : UrxWin) : (s.setWin w v).fires = s.fires := rfl
@[simp] theorem State.setWin_tmr (s : State) (w : Nat) (v : UrxWin) : (s.setWin w v).tmr = s.tmr := rfl
@[simp] theorem State.setWin_pwr (s : State) (w : Nat) (v : UrxWin) : (s.setWin w v).pwr = s.pwr := rfl
@[simp] theorem State.setWin_qm (s : State) (w : Nat) (v : UrxWin) : (s.setWin w v).qm = s.qm := rfl
@[simp] theorem State.setWin_hif (s : State) (w : Nat) (v : UrxWin) : (s.setWin w v).hif = s.hif := rfl
@[simp] theorem State.setWin_flt (s : State) (w : Nat) (v : UrxWin) : (s.setWin w v).flt = s.flt := rfl
@[simp] theorem State.setWin_bbx (s : State) (w : Nat) (v : UrxWin) : (s.setWin w v).bbx = s.bbx := rfl
@[simp] theorem State.setWin_aes (s : State) (w : Nat) (v : UrxWin) : (s.setWin w v).aes = s.aes := rfl
@[simp] theorem State.setWin_lf (s : State) (w : Nat) (v : UrxWin) : (s.setWin w v).lf = s.lf := rfl
@[simp] theorem State.setWin_utx (s : State) (w : Nat) (v : UrxWin) : (s.setWin w v).utx = s.utx := rfl
@[simp] theorem State.setWin_range (s : State) (w : Nat) (v : UrxWin) : (s.setWin w v).range = s.range := rfl
@[simp] theorem State.setWin_zone (s : State) (w : Nat) (v : UrxWin) : (s.setWin w v).zone = s.zone := rfl
@[simp] theorem State.setWin_cred (s : State) (w : Nat) (v : UrxWin) : (s.setWin w v).cred = s.cred := rfl
@[simp] theorem State.setWin_auth (s : State) (w : Nat) (v : UrxWin) : (s.setWin w v).auth = s.auth := rfl
@[simp] theorem State.setWin_rel (s : State) (w : Nat) (v : UrxWin) : (s.setWin w v).rel = s.rel := rfl
@[simp] theorem State.setWin_hfr (s : State) (w : Nat) (v : UrxWin) : (s.setWin w v).hfr = s.hfr := rfl
@[simp] theorem State.setWin_vlt (s : State) (w : Nat) (v : UrxWin) : (s.setWin w v).vlt = s.vlt := rfl
@[simp] theorem State.setWin_upd (s : State) (w : Nat) (v : UrxWin) : (s.setWin w v).upd = s.upd := rfl
@[simp] theorem State.setWin_wlk (s : State) (w : Nat) (v : UrxWin) : (s.setWin w v).wlk = s.wlk := rfl
@[simp] theorem State.setWin_cnt (s : State) (w : Nat) (v : UrxWin) : (s.setWin w v).cnt = s.cnt := rfl
@[simp] theorem State.setWin_rng (s : State) (w : Nat) (v : UrxWin) : (s.setWin w v).rng = s.rng := rfl
@[simp] theorem State.setWin_free (s : State) (w : Nat) (v : UrxWin) : (s.setWin w v).free = s.free := rfl
@[simp] theorem State.setWin_pending (s : State) (w : Nat) (v : UrxWin) : (s.setWin w v).pending = s.pending := rfl

@[simp] theorem State.setGather_regs (s : State) (g : Gather) : (s.setGather g).regs = s.regs := rfl
@[simp] theorem State.setGather_mem (s : State) (g : Gather) : (s.setGather g).mem = s.mem := rfl
@[simp] theorem State.setGather_units (s : State) (g : Gather) : (s.setGather g).units = s.units := rfl
@[simp] theorem State.setGather_sys (s : State) (g : Gather) : (s.setGather g).sys = s.sys := rfl
@[simp] theorem State.setGather_time (s : State) (g : Gather) : (s.setGather g).time = s.time := rfl
@[simp] theorem State.setGather_cal (s : State) (g : Gather) : (s.setGather g).cal = s.cal := rfl
@[simp] theorem State.setGather_fires (s : State) (g : Gather) : (s.setGather g).fires = s.fires := rfl
@[simp] theorem State.setGather_tmr (s : State) (g : Gather) : (s.setGather g).tmr = s.tmr := rfl
@[simp] theorem State.setGather_pwr (s : State) (g : Gather) : (s.setGather g).pwr = s.pwr := rfl
@[simp] theorem State.setGather_qm (s : State) (g : Gather) : (s.setGather g).qm = s.qm := rfl
@[simp] theorem State.setGather_hif (s : State) (g : Gather) : (s.setGather g).hif = s.hif := rfl
@[simp] theorem State.setGather_flt (s : State) (g : Gather) : (s.setGather g).flt = s.flt := rfl
@[simp] theorem State.setGather_bbx (s : State) (g : Gather) : (s.setGather g).bbx = s.bbx := rfl
@[simp] theorem State.setGather_aes (s : State) (g : Gather) : (s.setGather g).aes = s.aes := rfl
@[simp] theorem State.setGather_lf (s : State) (g : Gather) : (s.setGather g).lf = s.lf := rfl
@[simp] theorem State.setGather_utx (s : State) (g : Gather) : (s.setGather g).utx = s.utx := rfl
@[simp] theorem State.setGather_range (s : State) (g : Gather) : (s.setGather g).range = s.range := rfl
@[simp] theorem State.setGather_zone (s : State) (g : Gather) : (s.setGather g).zone = s.zone := rfl
@[simp] theorem State.setGather_cred (s : State) (g : Gather) : (s.setGather g).cred = s.cred := rfl
@[simp] theorem State.setGather_auth (s : State) (g : Gather) : (s.setGather g).auth = s.auth := rfl
@[simp] theorem State.setGather_rel (s : State) (g : Gather) : (s.setGather g).rel = s.rel := rfl
@[simp] theorem State.setGather_hfr (s : State) (g : Gather) : (s.setGather g).hfr = s.hfr := rfl
@[simp] theorem State.setGather_vlt (s : State) (g : Gather) : (s.setGather g).vlt = s.vlt := rfl
@[simp] theorem State.setGather_upd (s : State) (g : Gather) : (s.setGather g).upd = s.upd := rfl
@[simp] theorem State.setGather_wlk (s : State) (g : Gather) : (s.setGather g).wlk = s.wlk := rfl
@[simp] theorem State.setGather_cnt (s : State) (g : Gather) : (s.setGather g).cnt = s.cnt := rfl
@[simp] theorem State.setGather_rng (s : State) (g : Gather) : (s.setGather g).rng = s.rng := rfl
@[simp] theorem State.setGather_free (s : State) (g : Gather) : (s.setGather g).free = s.free := rfl
@[simp] theorem State.setGather_pending (s : State) (g : Gather) : (s.setGather g).pending = s.pending := rfl

@[simp] theorem State.modAuth_regs (s : State) (f : AuthState → AuthState) : (s.modAuth f).regs = s.regs := rfl
@[simp] theorem State.modAuth_mem (s : State) (f : AuthState → AuthState) : (s.modAuth f).mem = s.mem := rfl
@[simp] theorem State.modAuth_units (s : State) (f : AuthState → AuthState) : (s.modAuth f).units = s.units := rfl
@[simp] theorem State.modAuth_sys (s : State) (f : AuthState → AuthState) : (s.modAuth f).sys = s.sys := rfl
@[simp] theorem State.modAuth_time (s : State) (f : AuthState → AuthState) : (s.modAuth f).time = s.time := rfl
@[simp] theorem State.modAuth_cal (s : State) (f : AuthState → AuthState) : (s.modAuth f).cal = s.cal := rfl
@[simp] theorem State.modAuth_fires (s : State) (f : AuthState → AuthState) : (s.modAuth f).fires = s.fires := rfl
@[simp] theorem State.modAuth_tmr (s : State) (f : AuthState → AuthState) : (s.modAuth f).tmr = s.tmr := rfl
@[simp] theorem State.modAuth_pwr (s : State) (f : AuthState → AuthState) : (s.modAuth f).pwr = s.pwr := rfl
@[simp] theorem State.modAuth_qm (s : State) (f : AuthState → AuthState) : (s.modAuth f).qm = s.qm := rfl
@[simp] theorem State.modAuth_hif (s : State) (f : AuthState → AuthState) : (s.modAuth f).hif = s.hif := rfl
@[simp] theorem State.modAuth_flt (s : State) (f : AuthState → AuthState) : (s.modAuth f).flt = s.flt := rfl
@[simp] theorem State.modAuth_bbx (s : State) (f : AuthState → AuthState) : (s.modAuth f).bbx = s.bbx := rfl
@[simp] theorem State.modAuth_aes (s : State) (f : AuthState → AuthState) : (s.modAuth f).aes = s.aes := rfl
@[simp] theorem State.modAuth_lf (s : State) (f : AuthState → AuthState) : (s.modAuth f).lf = s.lf := rfl
@[simp] theorem State.modAuth_urx (s : State) (f : AuthState → AuthState) : (s.modAuth f).urx = s.urx := rfl
@[simp] theorem State.modAuth_utx (s : State) (f : AuthState → AuthState) : (s.modAuth f).utx = s.utx := rfl
@[simp] theorem State.modAuth_range (s : State) (f : AuthState → AuthState) : (s.modAuth f).range = s.range := rfl
@[simp] theorem State.modAuth_zone (s : State) (f : AuthState → AuthState) : (s.modAuth f).zone = s.zone := rfl
@[simp] theorem State.modAuth_cred (s : State) (f : AuthState → AuthState) : (s.modAuth f).cred = s.cred := rfl
@[simp] theorem State.modAuth_auth (s : State) (f : AuthState → AuthState) : (s.modAuth f).auth = f s.auth := rfl
@[simp] theorem State.modAuth_rel (s : State) (f : AuthState → AuthState) : (s.modAuth f).rel = s.rel := rfl
@[simp] theorem State.modAuth_hfr (s : State) (f : AuthState → AuthState) : (s.modAuth f).hfr = s.hfr := rfl
@[simp] theorem State.modAuth_vlt (s : State) (f : AuthState → AuthState) : (s.modAuth f).vlt = s.vlt := rfl
@[simp] theorem State.modAuth_upd (s : State) (f : AuthState → AuthState) : (s.modAuth f).upd = s.upd := rfl
@[simp] theorem State.modAuth_wlk (s : State) (f : AuthState → AuthState) : (s.modAuth f).wlk = s.wlk := rfl
@[simp] theorem State.modAuth_cnt (s : State) (f : AuthState → AuthState) : (s.modAuth f).cnt = s.cnt := rfl
@[simp] theorem State.modAuth_rng (s : State) (f : AuthState → AuthState) : (s.modAuth f).rng = s.rng := rfl
@[simp] theorem State.modAuth_free (s : State) (f : AuthState → AuthState) : (s.modAuth f).free = s.free := rfl
@[simp] theorem State.modAuth_pending (s : State) (f : AuthState → AuthState) : (s.modAuth f).pending = s.pending := rfl

@[simp] theorem State.modBbx_regs (s : State) (f : BbxState → BbxState) : (s.modBbx f).regs = s.regs := rfl
@[simp] theorem State.modBbx_mem (s : State) (f : BbxState → BbxState) : (s.modBbx f).mem = s.mem := rfl
@[simp] theorem State.modBbx_units (s : State) (f : BbxState → BbxState) : (s.modBbx f).units = s.units := rfl
@[simp] theorem State.modBbx_sys (s : State) (f : BbxState → BbxState) : (s.modBbx f).sys = s.sys := rfl
@[simp] theorem State.modBbx_time (s : State) (f : BbxState → BbxState) : (s.modBbx f).time = s.time := rfl
@[simp] theorem State.modBbx_cal (s : State) (f : BbxState → BbxState) : (s.modBbx f).cal = s.cal := rfl
@[simp] theorem State.modBbx_fires (s : State) (f : BbxState → BbxState) : (s.modBbx f).fires = s.fires := rfl
@[simp] theorem State.modBbx_tmr (s : State) (f : BbxState → BbxState) : (s.modBbx f).tmr = s.tmr := rfl
@[simp] theorem State.modBbx_pwr (s : State) (f : BbxState → BbxState) : (s.modBbx f).pwr = s.pwr := rfl
@[simp] theorem State.modBbx_qm (s : State) (f : BbxState → BbxState) : (s.modBbx f).qm = s.qm := rfl
@[simp] theorem State.modBbx_hif (s : State) (f : BbxState → BbxState) : (s.modBbx f).hif = s.hif := rfl
@[simp] theorem State.modBbx_flt (s : State) (f : BbxState → BbxState) : (s.modBbx f).flt = s.flt := rfl
@[simp] theorem State.modBbx_bbx (s : State) (f : BbxState → BbxState) : (s.modBbx f).bbx = f s.bbx := rfl
@[simp] theorem State.modBbx_aes (s : State) (f : BbxState → BbxState) : (s.modBbx f).aes = s.aes := rfl
@[simp] theorem State.modBbx_lf (s : State) (f : BbxState → BbxState) : (s.modBbx f).lf = s.lf := rfl
@[simp] theorem State.modBbx_urx (s : State) (f : BbxState → BbxState) : (s.modBbx f).urx = s.urx := rfl
@[simp] theorem State.modBbx_utx (s : State) (f : BbxState → BbxState) : (s.modBbx f).utx = s.utx := rfl
@[simp] theorem State.modBbx_range (s : State) (f : BbxState → BbxState) : (s.modBbx f).range = s.range := rfl
@[simp] theorem State.modBbx_zone (s : State) (f : BbxState → BbxState) : (s.modBbx f).zone = s.zone := rfl
@[simp] theorem State.modBbx_cred (s : State) (f : BbxState → BbxState) : (s.modBbx f).cred = s.cred := rfl
@[simp] theorem State.modBbx_auth (s : State) (f : BbxState → BbxState) : (s.modBbx f).auth = s.auth := rfl
@[simp] theorem State.modBbx_rel (s : State) (f : BbxState → BbxState) : (s.modBbx f).rel = s.rel := rfl
@[simp] theorem State.modBbx_hfr (s : State) (f : BbxState → BbxState) : (s.modBbx f).hfr = s.hfr := rfl
@[simp] theorem State.modBbx_vlt (s : State) (f : BbxState → BbxState) : (s.modBbx f).vlt = s.vlt := rfl
@[simp] theorem State.modBbx_upd (s : State) (f : BbxState → BbxState) : (s.modBbx f).upd = s.upd := rfl
@[simp] theorem State.modBbx_wlk (s : State) (f : BbxState → BbxState) : (s.modBbx f).wlk = s.wlk := rfl
@[simp] theorem State.modBbx_cnt (s : State) (f : BbxState → BbxState) : (s.modBbx f).cnt = s.cnt := rfl
@[simp] theorem State.modBbx_rng (s : State) (f : BbxState → BbxState) : (s.modBbx f).rng = s.rng := rfl
@[simp] theorem State.modBbx_free (s : State) (f : BbxState → BbxState) : (s.modBbx f).free = s.free := rfl
@[simp] theorem State.modBbx_pending (s : State) (f : BbxState → BbxState) : (s.modBbx f).pending = s.pending := rfl

@[simp] theorem State.modCred_regs (s : State) (f : CredState → CredState) : (s.modCred f).regs = s.regs := rfl
@[simp] theorem State.modCred_mem (s : State) (f : CredState → CredState) : (s.modCred f).mem = s.mem := rfl
@[simp] theorem State.modCred_units (s : State) (f : CredState → CredState) : (s.modCred f).units = s.units := rfl
@[simp] theorem State.modCred_sys (s : State) (f : CredState → CredState) : (s.modCred f).sys = s.sys := rfl
@[simp] theorem State.modCred_time (s : State) (f : CredState → CredState) : (s.modCred f).time = s.time := rfl
@[simp] theorem State.modCred_cal (s : State) (f : CredState → CredState) : (s.modCred f).cal = s.cal := rfl
@[simp] theorem State.modCred_fires (s : State) (f : CredState → CredState) : (s.modCred f).fires = s.fires := rfl
@[simp] theorem State.modCred_tmr (s : State) (f : CredState → CredState) : (s.modCred f).tmr = s.tmr := rfl
@[simp] theorem State.modCred_pwr (s : State) (f : CredState → CredState) : (s.modCred f).pwr = s.pwr := rfl
@[simp] theorem State.modCred_qm (s : State) (f : CredState → CredState) : (s.modCred f).qm = s.qm := rfl
@[simp] theorem State.modCred_hif (s : State) (f : CredState → CredState) : (s.modCred f).hif = s.hif := rfl
@[simp] theorem State.modCred_flt (s : State) (f : CredState → CredState) : (s.modCred f).flt = s.flt := rfl
@[simp] theorem State.modCred_bbx (s : State) (f : CredState → CredState) : (s.modCred f).bbx = s.bbx := rfl
@[simp] theorem State.modCred_aes (s : State) (f : CredState → CredState) : (s.modCred f).aes = s.aes := rfl
@[simp] theorem State.modCred_lf (s : State) (f : CredState → CredState) : (s.modCred f).lf = s.lf := rfl
@[simp] theorem State.modCred_urx (s : State) (f : CredState → CredState) : (s.modCred f).urx = s.urx := rfl
@[simp] theorem State.modCred_utx (s : State) (f : CredState → CredState) : (s.modCred f).utx = s.utx := rfl
@[simp] theorem State.modCred_range (s : State) (f : CredState → CredState) : (s.modCred f).range = s.range := rfl
@[simp] theorem State.modCred_zone (s : State) (f : CredState → CredState) : (s.modCred f).zone = s.zone := rfl
@[simp] theorem State.modCred_cred (s : State) (f : CredState → CredState) : (s.modCred f).cred = f s.cred := rfl
@[simp] theorem State.modCred_auth (s : State) (f : CredState → CredState) : (s.modCred f).auth = s.auth := rfl
@[simp] theorem State.modCred_rel (s : State) (f : CredState → CredState) : (s.modCred f).rel = s.rel := rfl
@[simp] theorem State.modCred_hfr (s : State) (f : CredState → CredState) : (s.modCred f).hfr = s.hfr := rfl
@[simp] theorem State.modCred_vlt (s : State) (f : CredState → CredState) : (s.modCred f).vlt = s.vlt := rfl
@[simp] theorem State.modCred_upd (s : State) (f : CredState → CredState) : (s.modCred f).upd = s.upd := rfl
@[simp] theorem State.modCred_wlk (s : State) (f : CredState → CredState) : (s.modCred f).wlk = s.wlk := rfl
@[simp] theorem State.modCred_cnt (s : State) (f : CredState → CredState) : (s.modCred f).cnt = s.cnt := rfl
@[simp] theorem State.modCred_rng (s : State) (f : CredState → CredState) : (s.modCred f).rng = s.rng := rfl
@[simp] theorem State.modCred_free (s : State) (f : CredState → CredState) : (s.modCred f).free = s.free := rfl
@[simp] theorem State.modCred_pending (s : State) (f : CredState → CredState) : (s.modCred f).pending = s.pending := rfl

@[simp] theorem State.modRng_regs (s : State) (f : RngState → RngState) : (s.modRng f).regs = s.regs := rfl
@[simp] theorem State.modRng_mem (s : State) (f : RngState → RngState) : (s.modRng f).mem = s.mem := rfl
@[simp] theorem State.modRng_units (s : State) (f : RngState → RngState) : (s.modRng f).units = s.units := rfl
@[simp] theorem State.modRng_sys (s : State) (f : RngState → RngState) : (s.modRng f).sys = s.sys := rfl
@[simp] theorem State.modRng_time (s : State) (f : RngState → RngState) : (s.modRng f).time = s.time := rfl
@[simp] theorem State.modRng_cal (s : State) (f : RngState → RngState) : (s.modRng f).cal = s.cal := rfl
@[simp] theorem State.modRng_fires (s : State) (f : RngState → RngState) : (s.modRng f).fires = s.fires := rfl
@[simp] theorem State.modRng_tmr (s : State) (f : RngState → RngState) : (s.modRng f).tmr = s.tmr := rfl
@[simp] theorem State.modRng_pwr (s : State) (f : RngState → RngState) : (s.modRng f).pwr = s.pwr := rfl
@[simp] theorem State.modRng_qm (s : State) (f : RngState → RngState) : (s.modRng f).qm = s.qm := rfl
@[simp] theorem State.modRng_hif (s : State) (f : RngState → RngState) : (s.modRng f).hif = s.hif := rfl
@[simp] theorem State.modRng_flt (s : State) (f : RngState → RngState) : (s.modRng f).flt = s.flt := rfl
@[simp] theorem State.modRng_bbx (s : State) (f : RngState → RngState) : (s.modRng f).bbx = s.bbx := rfl
@[simp] theorem State.modRng_aes (s : State) (f : RngState → RngState) : (s.modRng f).aes = s.aes := rfl
@[simp] theorem State.modRng_lf (s : State) (f : RngState → RngState) : (s.modRng f).lf = s.lf := rfl
@[simp] theorem State.modRng_urx (s : State) (f : RngState → RngState) : (s.modRng f).urx = s.urx := rfl
@[simp] theorem State.modRng_utx (s : State) (f : RngState → RngState) : (s.modRng f).utx = s.utx := rfl
@[simp] theorem State.modRng_range (s : State) (f : RngState → RngState) : (s.modRng f).range = s.range := rfl
@[simp] theorem State.modRng_zone (s : State) (f : RngState → RngState) : (s.modRng f).zone = s.zone := rfl
@[simp] theorem State.modRng_cred (s : State) (f : RngState → RngState) : (s.modRng f).cred = s.cred := rfl
@[simp] theorem State.modRng_auth (s : State) (f : RngState → RngState) : (s.modRng f).auth = s.auth := rfl
@[simp] theorem State.modRng_rel (s : State) (f : RngState → RngState) : (s.modRng f).rel = s.rel := rfl
@[simp] theorem State.modRng_hfr (s : State) (f : RngState → RngState) : (s.modRng f).hfr = s.hfr := rfl
@[simp] theorem State.modRng_vlt (s : State) (f : RngState → RngState) : (s.modRng f).vlt = s.vlt := rfl
@[simp] theorem State.modRng_upd (s : State) (f : RngState → RngState) : (s.modRng f).upd = s.upd := rfl
@[simp] theorem State.modRng_wlk (s : State) (f : RngState → RngState) : (s.modRng f).wlk = s.wlk := rfl
@[simp] theorem State.modRng_cnt (s : State) (f : RngState → RngState) : (s.modRng f).cnt = s.cnt := rfl
@[simp] theorem State.modRng_rng (s : State) (f : RngState → RngState) : (s.modRng f).rng = f s.rng := rfl
@[simp] theorem State.modRng_free (s : State) (f : RngState → RngState) : (s.modRng f).free = s.free := rfl
@[simp] theorem State.modRng_pending (s : State) (f : RngState → RngState) : (s.modRng f).pending = s.pending := rfl

@[simp] theorem State.modFlt_regs (s : State) (f : FltState → FltState) : (s.modFlt f).regs = s.regs := rfl
@[simp] theorem State.modFlt_mem (s : State) (f : FltState → FltState) : (s.modFlt f).mem = s.mem := rfl
@[simp] theorem State.modFlt_units (s : State) (f : FltState → FltState) : (s.modFlt f).units = s.units := rfl
@[simp] theorem State.modFlt_sys (s : State) (f : FltState → FltState) : (s.modFlt f).sys = s.sys := rfl
@[simp] theorem State.modFlt_time (s : State) (f : FltState → FltState) : (s.modFlt f).time = s.time := rfl
@[simp] theorem State.modFlt_cal (s : State) (f : FltState → FltState) : (s.modFlt f).cal = s.cal := rfl
@[simp] theorem State.modFlt_fires (s : State) (f : FltState → FltState) : (s.modFlt f).fires = s.fires := rfl
@[simp] theorem State.modFlt_tmr (s : State) (f : FltState → FltState) : (s.modFlt f).tmr = s.tmr := rfl
@[simp] theorem State.modFlt_pwr (s : State) (f : FltState → FltState) : (s.modFlt f).pwr = s.pwr := rfl
@[simp] theorem State.modFlt_qm (s : State) (f : FltState → FltState) : (s.modFlt f).qm = s.qm := rfl
@[simp] theorem State.modFlt_hif (s : State) (f : FltState → FltState) : (s.modFlt f).hif = s.hif := rfl
@[simp] theorem State.modFlt_flt (s : State) (f : FltState → FltState) : (s.modFlt f).flt = f s.flt := rfl
@[simp] theorem State.modFlt_bbx (s : State) (f : FltState → FltState) : (s.modFlt f).bbx = s.bbx := rfl
@[simp] theorem State.modFlt_aes (s : State) (f : FltState → FltState) : (s.modFlt f).aes = s.aes := rfl
@[simp] theorem State.modFlt_lf (s : State) (f : FltState → FltState) : (s.modFlt f).lf = s.lf := rfl
@[simp] theorem State.modFlt_urx (s : State) (f : FltState → FltState) : (s.modFlt f).urx = s.urx := rfl
@[simp] theorem State.modFlt_utx (s : State) (f : FltState → FltState) : (s.modFlt f).utx = s.utx := rfl
@[simp] theorem State.modFlt_range (s : State) (f : FltState → FltState) : (s.modFlt f).range = s.range := rfl
@[simp] theorem State.modFlt_zone (s : State) (f : FltState → FltState) : (s.modFlt f).zone = s.zone := rfl
@[simp] theorem State.modFlt_cred (s : State) (f : FltState → FltState) : (s.modFlt f).cred = s.cred := rfl
@[simp] theorem State.modFlt_auth (s : State) (f : FltState → FltState) : (s.modFlt f).auth = s.auth := rfl
@[simp] theorem State.modFlt_rel (s : State) (f : FltState → FltState) : (s.modFlt f).rel = s.rel := rfl
@[simp] theorem State.modFlt_hfr (s : State) (f : FltState → FltState) : (s.modFlt f).hfr = s.hfr := rfl
@[simp] theorem State.modFlt_vlt (s : State) (f : FltState → FltState) : (s.modFlt f).vlt = s.vlt := rfl
@[simp] theorem State.modFlt_upd (s : State) (f : FltState → FltState) : (s.modFlt f).upd = s.upd := rfl
@[simp] theorem State.modFlt_wlk (s : State) (f : FltState → FltState) : (s.modFlt f).wlk = s.wlk := rfl
@[simp] theorem State.modFlt_cnt (s : State) (f : FltState → FltState) : (s.modFlt f).cnt = s.cnt := rfl
@[simp] theorem State.modFlt_rng (s : State) (f : FltState → FltState) : (s.modFlt f).rng = s.rng := rfl
@[simp] theorem State.modFlt_free (s : State) (f : FltState → FltState) : (s.modFlt f).free = s.free := rfl
@[simp] theorem State.modFlt_pending (s : State) (f : FltState → FltState) : (s.modFlt f).pending = s.pending := rfl

@[simp] theorem State.modHfr_regs (s : State) (f : HfrState → HfrState) : (s.modHfr f).regs = s.regs := rfl
@[simp] theorem State.modHfr_mem (s : State) (f : HfrState → HfrState) : (s.modHfr f).mem = s.mem := rfl
@[simp] theorem State.modHfr_units (s : State) (f : HfrState → HfrState) : (s.modHfr f).units = s.units := rfl
@[simp] theorem State.modHfr_sys (s : State) (f : HfrState → HfrState) : (s.modHfr f).sys = s.sys := rfl
@[simp] theorem State.modHfr_time (s : State) (f : HfrState → HfrState) : (s.modHfr f).time = s.time := rfl
@[simp] theorem State.modHfr_cal (s : State) (f : HfrState → HfrState) : (s.modHfr f).cal = s.cal := rfl
@[simp] theorem State.modHfr_fires (s : State) (f : HfrState → HfrState) : (s.modHfr f).fires = s.fires := rfl
@[simp] theorem State.modHfr_tmr (s : State) (f : HfrState → HfrState) : (s.modHfr f).tmr = s.tmr := rfl
@[simp] theorem State.modHfr_pwr (s : State) (f : HfrState → HfrState) : (s.modHfr f).pwr = s.pwr := rfl
@[simp] theorem State.modHfr_qm (s : State) (f : HfrState → HfrState) : (s.modHfr f).qm = s.qm := rfl
@[simp] theorem State.modHfr_hif (s : State) (f : HfrState → HfrState) : (s.modHfr f).hif = s.hif := rfl
@[simp] theorem State.modHfr_flt (s : State) (f : HfrState → HfrState) : (s.modHfr f).flt = s.flt := rfl
@[simp] theorem State.modHfr_bbx (s : State) (f : HfrState → HfrState) : (s.modHfr f).bbx = s.bbx := rfl
@[simp] theorem State.modHfr_aes (s : State) (f : HfrState → HfrState) : (s.modHfr f).aes = s.aes := rfl
@[simp] theorem State.modHfr_lf (s : State) (f : HfrState → HfrState) : (s.modHfr f).lf = s.lf := rfl
@[simp] theorem State.modHfr_urx (s : State) (f : HfrState → HfrState) : (s.modHfr f).urx = s.urx := rfl
@[simp] theorem State.modHfr_utx (s : State) (f : HfrState → HfrState) : (s.modHfr f).utx = s.utx := rfl
@[simp] theorem State.modHfr_range (s : State) (f : HfrState → HfrState) : (s.modHfr f).range = s.range := rfl
@[simp] theorem State.modHfr_zone (s : State) (f : HfrState → HfrState) : (s.modHfr f).zone = s.zone := rfl
@[simp] theorem State.modHfr_cred (s : State) (f : HfrState → HfrState) : (s.modHfr f).cred = s.cred := rfl
@[simp] theorem State.modHfr_auth (s : State) (f : HfrState → HfrState) : (s.modHfr f).auth = s.auth := rfl
@[simp] theorem State.modHfr_rel (s : State) (f : HfrState → HfrState) : (s.modHfr f).rel = s.rel := rfl
@[simp] theorem State.modHfr_hfr (s : State) (f : HfrState → HfrState) : (s.modHfr f).hfr = f s.hfr := rfl
@[simp] theorem State.modHfr_vlt (s : State) (f : HfrState → HfrState) : (s.modHfr f).vlt = s.vlt := rfl
@[simp] theorem State.modHfr_upd (s : State) (f : HfrState → HfrState) : (s.modHfr f).upd = s.upd := rfl
@[simp] theorem State.modHfr_wlk (s : State) (f : HfrState → HfrState) : (s.modHfr f).wlk = s.wlk := rfl
@[simp] theorem State.modHfr_cnt (s : State) (f : HfrState → HfrState) : (s.modHfr f).cnt = s.cnt := rfl
@[simp] theorem State.modHfr_rng (s : State) (f : HfrState → HfrState) : (s.modHfr f).rng = s.rng := rfl
@[simp] theorem State.modHfr_free (s : State) (f : HfrState → HfrState) : (s.modHfr f).free = s.free := rfl
@[simp] theorem State.modHfr_pending (s : State) (f : HfrState → HfrState) : (s.modHfr f).pending = s.pending := rfl

@[simp] theorem State.modRel_regs (s : State) (f : RelState → RelState) : (s.modRel f).regs = s.regs := rfl
@[simp] theorem State.modRel_mem (s : State) (f : RelState → RelState) : (s.modRel f).mem = s.mem := rfl
@[simp] theorem State.modRel_units (s : State) (f : RelState → RelState) : (s.modRel f).units = s.units := rfl
@[simp] theorem State.modRel_sys (s : State) (f : RelState → RelState) : (s.modRel f).sys = s.sys := rfl
@[simp] theorem State.modRel_time (s : State) (f : RelState → RelState) : (s.modRel f).time = s.time := rfl
@[simp] theorem State.modRel_cal (s : State) (f : RelState → RelState) : (s.modRel f).cal = s.cal := rfl
@[simp] theorem State.modRel_fires (s : State) (f : RelState → RelState) : (s.modRel f).fires = s.fires := rfl
@[simp] theorem State.modRel_tmr (s : State) (f : RelState → RelState) : (s.modRel f).tmr = s.tmr := rfl
@[simp] theorem State.modRel_pwr (s : State) (f : RelState → RelState) : (s.modRel f).pwr = s.pwr := rfl
@[simp] theorem State.modRel_qm (s : State) (f : RelState → RelState) : (s.modRel f).qm = s.qm := rfl
@[simp] theorem State.modRel_hif (s : State) (f : RelState → RelState) : (s.modRel f).hif = s.hif := rfl
@[simp] theorem State.modRel_flt (s : State) (f : RelState → RelState) : (s.modRel f).flt = s.flt := rfl
@[simp] theorem State.modRel_bbx (s : State) (f : RelState → RelState) : (s.modRel f).bbx = s.bbx := rfl
@[simp] theorem State.modRel_aes (s : State) (f : RelState → RelState) : (s.modRel f).aes = s.aes := rfl
@[simp] theorem State.modRel_lf (s : State) (f : RelState → RelState) : (s.modRel f).lf = s.lf := rfl
@[simp] theorem State.modRel_urx (s : State) (f : RelState → RelState) : (s.modRel f).urx = s.urx := rfl
@[simp] theorem State.modRel_utx (s : State) (f : RelState → RelState) : (s.modRel f).utx = s.utx := rfl
@[simp] theorem State.modRel_range (s : State) (f : RelState → RelState) : (s.modRel f).range = s.range := rfl
@[simp] theorem State.modRel_zone (s : State) (f : RelState → RelState) : (s.modRel f).zone = s.zone := rfl
@[simp] theorem State.modRel_cred (s : State) (f : RelState → RelState) : (s.modRel f).cred = s.cred := rfl
@[simp] theorem State.modRel_auth (s : State) (f : RelState → RelState) : (s.modRel f).auth = s.auth := rfl
@[simp] theorem State.modRel_rel (s : State) (f : RelState → RelState) : (s.modRel f).rel = f s.rel := rfl
@[simp] theorem State.modRel_hfr (s : State) (f : RelState → RelState) : (s.modRel f).hfr = s.hfr := rfl
@[simp] theorem State.modRel_vlt (s : State) (f : RelState → RelState) : (s.modRel f).vlt = s.vlt := rfl
@[simp] theorem State.modRel_upd (s : State) (f : RelState → RelState) : (s.modRel f).upd = s.upd := rfl
@[simp] theorem State.modRel_wlk (s : State) (f : RelState → RelState) : (s.modRel f).wlk = s.wlk := rfl
@[simp] theorem State.modRel_cnt (s : State) (f : RelState → RelState) : (s.modRel f).cnt = s.cnt := rfl
@[simp] theorem State.modRel_rng (s : State) (f : RelState → RelState) : (s.modRel f).rng = s.rng := rfl
@[simp] theorem State.modRel_free (s : State) (f : RelState → RelState) : (s.modRel f).free = s.free := rfl
@[simp] theorem State.modRel_pending (s : State) (f : RelState → RelState) : (s.modRel f).pending = s.pending := rfl

@[simp] theorem State.modUpd_regs (s : State) (f : UpdState → UpdState) : (s.modUpd f).regs = s.regs := rfl
@[simp] theorem State.modUpd_mem (s : State) (f : UpdState → UpdState) : (s.modUpd f).mem = s.mem := rfl
@[simp] theorem State.modUpd_units (s : State) (f : UpdState → UpdState) : (s.modUpd f).units = s.units := rfl
@[simp] theorem State.modUpd_sys (s : State) (f : UpdState → UpdState) : (s.modUpd f).sys = s.sys := rfl
@[simp] theorem State.modUpd_time (s : State) (f : UpdState → UpdState) : (s.modUpd f).time = s.time := rfl
@[simp] theorem State.modUpd_cal (s : State) (f : UpdState → UpdState) : (s.modUpd f).cal = s.cal := rfl
@[simp] theorem State.modUpd_fires (s : State) (f : UpdState → UpdState) : (s.modUpd f).fires = s.fires := rfl
@[simp] theorem State.modUpd_tmr (s : State) (f : UpdState → UpdState) : (s.modUpd f).tmr = s.tmr := rfl
@[simp] theorem State.modUpd_pwr (s : State) (f : UpdState → UpdState) : (s.modUpd f).pwr = s.pwr := rfl
@[simp] theorem State.modUpd_qm (s : State) (f : UpdState → UpdState) : (s.modUpd f).qm = s.qm := rfl
@[simp] theorem State.modUpd_hif (s : State) (f : UpdState → UpdState) : (s.modUpd f).hif = s.hif := rfl
@[simp] theorem State.modUpd_flt (s : State) (f : UpdState → UpdState) : (s.modUpd f).flt = s.flt := rfl
@[simp] theorem State.modUpd_bbx (s : State) (f : UpdState → UpdState) : (s.modUpd f).bbx = s.bbx := rfl
@[simp] theorem State.modUpd_aes (s : State) (f : UpdState → UpdState) : (s.modUpd f).aes = s.aes := rfl
@[simp] theorem State.modUpd_lf (s : State) (f : UpdState → UpdState) : (s.modUpd f).lf = s.lf := rfl
@[simp] theorem State.modUpd_urx (s : State) (f : UpdState → UpdState) : (s.modUpd f).urx = s.urx := rfl
@[simp] theorem State.modUpd_utx (s : State) (f : UpdState → UpdState) : (s.modUpd f).utx = s.utx := rfl
@[simp] theorem State.modUpd_range (s : State) (f : UpdState → UpdState) : (s.modUpd f).range = s.range := rfl
@[simp] theorem State.modUpd_zone (s : State) (f : UpdState → UpdState) : (s.modUpd f).zone = s.zone := rfl
@[simp] theorem State.modUpd_cred (s : State) (f : UpdState → UpdState) : (s.modUpd f).cred = s.cred := rfl
@[simp] theorem State.modUpd_auth (s : State) (f : UpdState → UpdState) : (s.modUpd f).auth = s.auth := rfl
@[simp] theorem State.modUpd_rel (s : State) (f : UpdState → UpdState) : (s.modUpd f).rel = s.rel := rfl
@[simp] theorem State.modUpd_hfr (s : State) (f : UpdState → UpdState) : (s.modUpd f).hfr = s.hfr := rfl
@[simp] theorem State.modUpd_vlt (s : State) (f : UpdState → UpdState) : (s.modUpd f).vlt = s.vlt := rfl
@[simp] theorem State.modUpd_upd (s : State) (f : UpdState → UpdState) : (s.modUpd f).upd = f s.upd := rfl
@[simp] theorem State.modUpd_wlk (s : State) (f : UpdState → UpdState) : (s.modUpd f).wlk = s.wlk := rfl
@[simp] theorem State.modUpd_cnt (s : State) (f : UpdState → UpdState) : (s.modUpd f).cnt = s.cnt := rfl
@[simp] theorem State.modUpd_rng (s : State) (f : UpdState → UpdState) : (s.modUpd f).rng = s.rng := rfl
@[simp] theorem State.modUpd_free (s : State) (f : UpdState → UpdState) : (s.modUpd f).free = s.free := rfl
@[simp] theorem State.modUpd_pending (s : State) (f : UpdState → UpdState) : (s.modUpd f).pending = s.pending := rfl

@[simp] theorem State.modUtx_regs (s : State) (f : UtxState → UtxState) : (s.modUtx f).regs = s.regs := rfl
@[simp] theorem State.modUtx_mem (s : State) (f : UtxState → UtxState) : (s.modUtx f).mem = s.mem := rfl
@[simp] theorem State.modUtx_units (s : State) (f : UtxState → UtxState) : (s.modUtx f).units = s.units := rfl
@[simp] theorem State.modUtx_sys (s : State) (f : UtxState → UtxState) : (s.modUtx f).sys = s.sys := rfl
@[simp] theorem State.modUtx_time (s : State) (f : UtxState → UtxState) : (s.modUtx f).time = s.time := rfl
@[simp] theorem State.modUtx_cal (s : State) (f : UtxState → UtxState) : (s.modUtx f).cal = s.cal := rfl
@[simp] theorem State.modUtx_fires (s : State) (f : UtxState → UtxState) : (s.modUtx f).fires = s.fires := rfl
@[simp] theorem State.modUtx_tmr (s : State) (f : UtxState → UtxState) : (s.modUtx f).tmr = s.tmr := rfl
@[simp] theorem State.modUtx_pwr (s : State) (f : UtxState → UtxState) : (s.modUtx f).pwr = s.pwr := rfl
@[simp] theorem State.modUtx_qm (s : State) (f : UtxState → UtxState) : (s.modUtx f).qm = s.qm := rfl
@[simp] theorem State.modUtx_hif (s : State) (f : UtxState → UtxState) : (s.modUtx f).hif = s.hif := rfl
@[simp] theorem State.modUtx_flt (s : State) (f : UtxState → UtxState) : (s.modUtx f).flt = s.flt := rfl
@[simp] theorem State.modUtx_bbx (s : State) (f : UtxState → UtxState) : (s.modUtx f).bbx = s.bbx := rfl
@[simp] theorem State.modUtx_aes (s : State) (f : UtxState → UtxState) : (s.modUtx f).aes = s.aes := rfl
@[simp] theorem State.modUtx_lf (s : State) (f : UtxState → UtxState) : (s.modUtx f).lf = s.lf := rfl
@[simp] theorem State.modUtx_urx (s : State) (f : UtxState → UtxState) : (s.modUtx f).urx = s.urx := rfl
@[simp] theorem State.modUtx_utx (s : State) (f : UtxState → UtxState) : (s.modUtx f).utx = f s.utx := rfl
@[simp] theorem State.modUtx_range (s : State) (f : UtxState → UtxState) : (s.modUtx f).range = s.range := rfl
@[simp] theorem State.modUtx_zone (s : State) (f : UtxState → UtxState) : (s.modUtx f).zone = s.zone := rfl
@[simp] theorem State.modUtx_cred (s : State) (f : UtxState → UtxState) : (s.modUtx f).cred = s.cred := rfl
@[simp] theorem State.modUtx_auth (s : State) (f : UtxState → UtxState) : (s.modUtx f).auth = s.auth := rfl
@[simp] theorem State.modUtx_rel (s : State) (f : UtxState → UtxState) : (s.modUtx f).rel = s.rel := rfl
@[simp] theorem State.modUtx_hfr (s : State) (f : UtxState → UtxState) : (s.modUtx f).hfr = s.hfr := rfl
@[simp] theorem State.modUtx_vlt (s : State) (f : UtxState → UtxState) : (s.modUtx f).vlt = s.vlt := rfl
@[simp] theorem State.modUtx_upd (s : State) (f : UtxState → UtxState) : (s.modUtx f).upd = s.upd := rfl
@[simp] theorem State.modUtx_wlk (s : State) (f : UtxState → UtxState) : (s.modUtx f).wlk = s.wlk := rfl
@[simp] theorem State.modUtx_cnt (s : State) (f : UtxState → UtxState) : (s.modUtx f).cnt = s.cnt := rfl
@[simp] theorem State.modUtx_rng (s : State) (f : UtxState → UtxState) : (s.modUtx f).rng = s.rng := rfl
@[simp] theorem State.modUtx_free (s : State) (f : UtxState → UtxState) : (s.modUtx f).free = s.free := rfl
@[simp] theorem State.modUtx_pending (s : State) (f : UtxState → UtxState) : (s.modUtx f).pending = s.pending := rfl

@[simp] theorem State.modVlt_regs (s : State) (f : VltState → VltState) : (s.modVlt f).regs = s.regs := rfl
@[simp] theorem State.modVlt_mem (s : State) (f : VltState → VltState) : (s.modVlt f).mem = s.mem := rfl
@[simp] theorem State.modVlt_units (s : State) (f : VltState → VltState) : (s.modVlt f).units = s.units := rfl
@[simp] theorem State.modVlt_sys (s : State) (f : VltState → VltState) : (s.modVlt f).sys = s.sys := rfl
@[simp] theorem State.modVlt_time (s : State) (f : VltState → VltState) : (s.modVlt f).time = s.time := rfl
@[simp] theorem State.modVlt_cal (s : State) (f : VltState → VltState) : (s.modVlt f).cal = s.cal := rfl
@[simp] theorem State.modVlt_fires (s : State) (f : VltState → VltState) : (s.modVlt f).fires = s.fires := rfl
@[simp] theorem State.modVlt_tmr (s : State) (f : VltState → VltState) : (s.modVlt f).tmr = s.tmr := rfl
@[simp] theorem State.modVlt_pwr (s : State) (f : VltState → VltState) : (s.modVlt f).pwr = s.pwr := rfl
@[simp] theorem State.modVlt_qm (s : State) (f : VltState → VltState) : (s.modVlt f).qm = s.qm := rfl
@[simp] theorem State.modVlt_hif (s : State) (f : VltState → VltState) : (s.modVlt f).hif = s.hif := rfl
@[simp] theorem State.modVlt_flt (s : State) (f : VltState → VltState) : (s.modVlt f).flt = s.flt := rfl
@[simp] theorem State.modVlt_bbx (s : State) (f : VltState → VltState) : (s.modVlt f).bbx = s.bbx := rfl
@[simp] theorem State.modVlt_aes (s : State) (f : VltState → VltState) : (s.modVlt f).aes = s.aes := rfl
@[simp] theorem State.modVlt_lf (s : State) (f : VltState → VltState) : (s.modVlt f).lf = s.lf := rfl
@[simp] theorem State.modVlt_urx (s : State) (f : VltState → VltState) : (s.modVlt f).urx = s.urx := rfl
@[simp] theorem State.modVlt_utx (s : State) (f : VltState → VltState) : (s.modVlt f).utx = s.utx := rfl
@[simp] theorem State.modVlt_range (s : State) (f : VltState → VltState) : (s.modVlt f).range = s.range := rfl
@[simp] theorem State.modVlt_zone (s : State) (f : VltState → VltState) : (s.modVlt f).zone = s.zone := rfl
@[simp] theorem State.modVlt_cred (s : State) (f : VltState → VltState) : (s.modVlt f).cred = s.cred := rfl
@[simp] theorem State.modVlt_auth (s : State) (f : VltState → VltState) : (s.modVlt f).auth = s.auth := rfl
@[simp] theorem State.modVlt_rel (s : State) (f : VltState → VltState) : (s.modVlt f).rel = s.rel := rfl
@[simp] theorem State.modVlt_hfr (s : State) (f : VltState → VltState) : (s.modVlt f).hfr = s.hfr := rfl
@[simp] theorem State.modVlt_vlt (s : State) (f : VltState → VltState) : (s.modVlt f).vlt = f s.vlt := rfl
@[simp] theorem State.modVlt_upd (s : State) (f : VltState → VltState) : (s.modVlt f).upd = s.upd := rfl
@[simp] theorem State.modVlt_wlk (s : State) (f : VltState → VltState) : (s.modVlt f).wlk = s.wlk := rfl
@[simp] theorem State.modVlt_cnt (s : State) (f : VltState → VltState) : (s.modVlt f).cnt = s.cnt := rfl
@[simp] theorem State.modVlt_rng (s : State) (f : VltState → VltState) : (s.modVlt f).rng = s.rng := rfl
@[simp] theorem State.modVlt_free (s : State) (f : VltState → VltState) : (s.modVlt f).free = s.free := rfl
@[simp] theorem State.modVlt_pending (s : State) (f : VltState → VltState) : (s.modVlt f).pending = s.pending := rfl

@[simp] theorem State.modWlk_regs (s : State) (f : WlkState → WlkState) : (s.modWlk f).regs = s.regs := rfl
@[simp] theorem State.modWlk_mem (s : State) (f : WlkState → WlkState) : (s.modWlk f).mem = s.mem := rfl
@[simp] theorem State.modWlk_units (s : State) (f : WlkState → WlkState) : (s.modWlk f).units = s.units := rfl
@[simp] theorem State.modWlk_sys (s : State) (f : WlkState → WlkState) : (s.modWlk f).sys = s.sys := rfl
@[simp] theorem State.modWlk_time (s : State) (f : WlkState → WlkState) : (s.modWlk f).time = s.time := rfl
@[simp] theorem State.modWlk_cal (s : State) (f : WlkState → WlkState) : (s.modWlk f).cal = s.cal := rfl
@[simp] theorem State.modWlk_fires (s : State) (f : WlkState → WlkState) : (s.modWlk f).fires = s.fires := rfl
@[simp] theorem State.modWlk_tmr (s : State) (f : WlkState → WlkState) : (s.modWlk f).tmr = s.tmr := rfl
@[simp] theorem State.modWlk_pwr (s : State) (f : WlkState → WlkState) : (s.modWlk f).pwr = s.pwr := rfl
@[simp] theorem State.modWlk_qm (s : State) (f : WlkState → WlkState) : (s.modWlk f).qm = s.qm := rfl
@[simp] theorem State.modWlk_hif (s : State) (f : WlkState → WlkState) : (s.modWlk f).hif = s.hif := rfl
@[simp] theorem State.modWlk_flt (s : State) (f : WlkState → WlkState) : (s.modWlk f).flt = s.flt := rfl
@[simp] theorem State.modWlk_bbx (s : State) (f : WlkState → WlkState) : (s.modWlk f).bbx = s.bbx := rfl
@[simp] theorem State.modWlk_aes (s : State) (f : WlkState → WlkState) : (s.modWlk f).aes = s.aes := rfl
@[simp] theorem State.modWlk_lf (s : State) (f : WlkState → WlkState) : (s.modWlk f).lf = s.lf := rfl
@[simp] theorem State.modWlk_urx (s : State) (f : WlkState → WlkState) : (s.modWlk f).urx = s.urx := rfl
@[simp] theorem State.modWlk_utx (s : State) (f : WlkState → WlkState) : (s.modWlk f).utx = s.utx := rfl
@[simp] theorem State.modWlk_range (s : State) (f : WlkState → WlkState) : (s.modWlk f).range = s.range := rfl
@[simp] theorem State.modWlk_zone (s : State) (f : WlkState → WlkState) : (s.modWlk f).zone = s.zone := rfl
@[simp] theorem State.modWlk_cred (s : State) (f : WlkState → WlkState) : (s.modWlk f).cred = s.cred := rfl
@[simp] theorem State.modWlk_auth (s : State) (f : WlkState → WlkState) : (s.modWlk f).auth = s.auth := rfl
@[simp] theorem State.modWlk_rel (s : State) (f : WlkState → WlkState) : (s.modWlk f).rel = s.rel := rfl
@[simp] theorem State.modWlk_hfr (s : State) (f : WlkState → WlkState) : (s.modWlk f).hfr = s.hfr := rfl
@[simp] theorem State.modWlk_vlt (s : State) (f : WlkState → WlkState) : (s.modWlk f).vlt = s.vlt := rfl
@[simp] theorem State.modWlk_upd (s : State) (f : WlkState → WlkState) : (s.modWlk f).upd = s.upd := rfl
@[simp] theorem State.modWlk_wlk (s : State) (f : WlkState → WlkState) : (s.modWlk f).wlk = f s.wlk := rfl
@[simp] theorem State.modWlk_cnt (s : State) (f : WlkState → WlkState) : (s.modWlk f).cnt = s.cnt := rfl
@[simp] theorem State.modWlk_rng (s : State) (f : WlkState → WlkState) : (s.modWlk f).rng = s.rng := rfl
@[simp] theorem State.modWlk_free (s : State) (f : WlkState → WlkState) : (s.modWlk f).free = s.free := rfl
@[simp] theorem State.modWlk_pending (s : State) (f : WlkState → WlkState) : (s.modWlk f).pending = s.pending := rfl

@[simp] theorem State.modZone_regs (s : State) (f : ZoneState → ZoneState) : (s.modZone f).regs = s.regs := rfl
@[simp] theorem State.modZone_mem (s : State) (f : ZoneState → ZoneState) : (s.modZone f).mem = s.mem := rfl
@[simp] theorem State.modZone_units (s : State) (f : ZoneState → ZoneState) : (s.modZone f).units = s.units := rfl
@[simp] theorem State.modZone_sys (s : State) (f : ZoneState → ZoneState) : (s.modZone f).sys = s.sys := rfl
@[simp] theorem State.modZone_time (s : State) (f : ZoneState → ZoneState) : (s.modZone f).time = s.time := rfl
@[simp] theorem State.modZone_cal (s : State) (f : ZoneState → ZoneState) : (s.modZone f).cal = s.cal := rfl
@[simp] theorem State.modZone_fires (s : State) (f : ZoneState → ZoneState) : (s.modZone f).fires = s.fires := rfl
@[simp] theorem State.modZone_tmr (s : State) (f : ZoneState → ZoneState) : (s.modZone f).tmr = s.tmr := rfl
@[simp] theorem State.modZone_pwr (s : State) (f : ZoneState → ZoneState) : (s.modZone f).pwr = s.pwr := rfl
@[simp] theorem State.modZone_qm (s : State) (f : ZoneState → ZoneState) : (s.modZone f).qm = s.qm := rfl
@[simp] theorem State.modZone_hif (s : State) (f : ZoneState → ZoneState) : (s.modZone f).hif = s.hif := rfl
@[simp] theorem State.modZone_flt (s : State) (f : ZoneState → ZoneState) : (s.modZone f).flt = s.flt := rfl
@[simp] theorem State.modZone_bbx (s : State) (f : ZoneState → ZoneState) : (s.modZone f).bbx = s.bbx := rfl
@[simp] theorem State.modZone_aes (s : State) (f : ZoneState → ZoneState) : (s.modZone f).aes = s.aes := rfl
@[simp] theorem State.modZone_lf (s : State) (f : ZoneState → ZoneState) : (s.modZone f).lf = s.lf := rfl
@[simp] theorem State.modZone_urx (s : State) (f : ZoneState → ZoneState) : (s.modZone f).urx = s.urx := rfl
@[simp] theorem State.modZone_utx (s : State) (f : ZoneState → ZoneState) : (s.modZone f).utx = s.utx := rfl
@[simp] theorem State.modZone_range (s : State) (f : ZoneState → ZoneState) : (s.modZone f).range = s.range := rfl
@[simp] theorem State.modZone_zone (s : State) (f : ZoneState → ZoneState) : (s.modZone f).zone = f s.zone := rfl
@[simp] theorem State.modZone_cred (s : State) (f : ZoneState → ZoneState) : (s.modZone f).cred = s.cred := rfl
@[simp] theorem State.modZone_auth (s : State) (f : ZoneState → ZoneState) : (s.modZone f).auth = s.auth := rfl
@[simp] theorem State.modZone_rel (s : State) (f : ZoneState → ZoneState) : (s.modZone f).rel = s.rel := rfl
@[simp] theorem State.modZone_hfr (s : State) (f : ZoneState → ZoneState) : (s.modZone f).hfr = s.hfr := rfl
@[simp] theorem State.modZone_vlt (s : State) (f : ZoneState → ZoneState) : (s.modZone f).vlt = s.vlt := rfl
@[simp] theorem State.modZone_upd (s : State) (f : ZoneState → ZoneState) : (s.modZone f).upd = s.upd := rfl
@[simp] theorem State.modZone_wlk (s : State) (f : ZoneState → ZoneState) : (s.modZone f).wlk = s.wlk := rfl
@[simp] theorem State.modZone_cnt (s : State) (f : ZoneState → ZoneState) : (s.modZone f).cnt = s.cnt := rfl
@[simp] theorem State.modZone_rng (s : State) (f : ZoneState → ZoneState) : (s.modZone f).rng = s.rng := rfl
@[simp] theorem State.modZone_free (s : State) (f : ZoneState → ZoneState) : (s.modZone f).free = s.free := rfl
@[simp] theorem State.modZone_pending (s : State) (f : ZoneState → ZoneState) : (s.modZone f).pending = s.pending := rfl

@[simp] theorem State.fresh_regs (s : State) (w : Nat) : (s.fresh w).2.regs = s.regs := rfl
@[simp] theorem State.fresh_mem (s : State) (w : Nat) : (s.fresh w).2.mem = s.mem := rfl
@[simp] theorem State.fresh_units (s : State) (w : Nat) : (s.fresh w).2.units = s.units := rfl
@[simp] theorem State.fresh_sys (s : State) (w : Nat) : (s.fresh w).2.sys = s.sys := rfl
@[simp] theorem State.fresh_time (s : State) (w : Nat) : (s.fresh w).2.time = s.time := rfl
@[simp] theorem State.fresh_cal (s : State) (w : Nat) : (s.fresh w).2.cal = s.cal := rfl
@[simp] theorem State.fresh_fires (s : State) (w : Nat) : (s.fresh w).2.fires = s.fires := rfl
@[simp] theorem State.fresh_tmr (s : State) (w : Nat) : (s.fresh w).2.tmr = s.tmr := rfl
@[simp] theorem State.fresh_pwr (s : State) (w : Nat) : (s.fresh w).2.pwr = s.pwr := rfl
@[simp] theorem State.fresh_qm (s : State) (w : Nat) : (s.fresh w).2.qm = s.qm := rfl
@[simp] theorem State.fresh_hif (s : State) (w : Nat) : (s.fresh w).2.hif = s.hif := rfl
@[simp] theorem State.fresh_flt (s : State) (w : Nat) : (s.fresh w).2.flt = s.flt := rfl
@[simp] theorem State.fresh_bbx (s : State) (w : Nat) : (s.fresh w).2.bbx = s.bbx := rfl
@[simp] theorem State.fresh_aes (s : State) (w : Nat) : (s.fresh w).2.aes = s.aes := rfl
@[simp] theorem State.fresh_lf (s : State) (w : Nat) : (s.fresh w).2.lf = s.lf := rfl
@[simp] theorem State.fresh_urx (s : State) (w : Nat) : (s.fresh w).2.urx = s.urx := rfl
@[simp] theorem State.fresh_utx (s : State) (w : Nat) : (s.fresh w).2.utx = s.utx := rfl
@[simp] theorem State.fresh_range (s : State) (w : Nat) : (s.fresh w).2.range = s.range := rfl
@[simp] theorem State.fresh_zone (s : State) (w : Nat) : (s.fresh w).2.zone = s.zone := rfl
@[simp] theorem State.fresh_cred (s : State) (w : Nat) : (s.fresh w).2.cred = s.cred := rfl
@[simp] theorem State.fresh_auth (s : State) (w : Nat) : (s.fresh w).2.auth = s.auth := rfl
@[simp] theorem State.fresh_rel (s : State) (w : Nat) : (s.fresh w).2.rel = s.rel := rfl
@[simp] theorem State.fresh_hfr (s : State) (w : Nat) : (s.fresh w).2.hfr = s.hfr := rfl
@[simp] theorem State.fresh_vlt (s : State) (w : Nat) : (s.fresh w).2.vlt = s.vlt := rfl
@[simp] theorem State.fresh_upd (s : State) (w : Nat) : (s.fresh w).2.upd = s.upd := rfl
@[simp] theorem State.fresh_wlk (s : State) (w : Nat) : (s.fresh w).2.wlk = s.wlk := rfl
@[simp] theorem State.fresh_cnt (s : State) (w : Nat) : (s.fresh w).2.cnt = s.cnt := rfl
@[simp] theorem State.fresh_rng (s : State) (w : Nat) : (s.fresh w).2.rng = s.rng := rfl
@[simp] theorem State.fresh_pending (s : State) (w : Nat) : (s.fresh w).2.pending = s.pending := rfl

@[simp] theorem State.fresh_free (s : State) (w : Nat) : (s.fresh w).2.free = s.free + 1 := rfl
@[simp] theorem State.setUnit_unit (s : State) (b : Nat) (u : UnitState) (h : b < s.units.length) : (s.setUnit b u).unit b = u := by
  simp [State.unit, State.setUnit, h]

end Sys2Proof.Machine
end

