-- ==== Sys2Proof/Laws/Memory.lean ====
section
/-!
SUPPORT. Laws/Memory.lean: every operation on the registers, the memories and the vault memory keeps their canonical form, and what
reads after a write return.
-/
namespace Sys2Proof.Machine

/-- The memory is in its canonical form. -/
def Memory.wf (m : List Host.Cell) : Bool := sparseWf memDefault m

/-- The registers are in their canonical form. -/
def Registers.wf (r : List (Nat × Word)) : Bool := sparseWf regDefault r

/-- Leaving entries out keeps the canonical form. -/
theorem sparse_filter_wf {α : Type} [DecidableEq α] {d : Nat → α} (f : Nat × α → Bool) {l : List (Nat × α)}
    (h : sparseWf d l = true) : sparseWf d (l.filter f) = true := by
  induction l with
  | nil => rfl
  | cons p l ih =>
    obtain ⟨k, v⟩ := p
    obtain ⟨h1, h2, h3⟩ := sparseWf_cons.1 h
    simp only [List.filter_cons]
    split
    · exact sparseWf_cons.2 ⟨h1, fun p hp => h2 p (List.mem_filter.1 hp).1, ih h3⟩
    · exact ih h3

/-! ### Memory -/

theorem setMem8_wf {s : State} (a : Nat) (v : Byte) (h : Memory.wf s.mem = true) : Memory.wf (s.setMem8 a v).mem = true :=
  sparseSet_wf a v h

theorem writeMem_wf {s : State} (a : Nat) (b : List Byte) (h : Memory.wf s.mem = true) : Memory.wf (s.writeMem a b).mem = true := by
  induction b generalizing s a with
  | nil => exact h
  | cons x b ih => exact ih (a + 1) (setMem8_wf a x h)

theorem programFlash_wf {s : State} (a : Nat) (b : List Byte) (h : Memory.wf s.mem = true) :
    Memory.wf (s.programFlash a b).mem = true := by
  induction b generalizing s a with
  | nil => exact h
  | cons x b ih => exact ih (a + 1) (setMem8_wf _ _ h)

theorem eraseMem_wf {s : State} (a n : Nat) (h : Memory.wf s.mem = true) : Memory.wf (s.eraseMem a n).mem = true :=
  writeMem_wf a _ h

theorem eraseFlash_wf {s : State} (a n : Nat) (h : Memory.wf s.mem = true) : Memory.wf (s.eraseFlash a n).mem = true :=
  sparse_filter_wf _ h

theorem reset_mem_wf : Memory.wf State.reset.mem = true := rfl

theorem mem8_setMem8_self {s : State} (a : Nat) (v : Byte) (h : Memory.wf s.mem = true) : (s.setMem8 a v).mem8 a = v :=
  sparseGet_set_self a v h

theorem mem8_setMem8_other {s : State} {a b : Nat} (v : Byte) (hab : b ≠ a) : (s.setMem8 a v).mem8 b = s.mem8 b :=
  sparseGet_set_other v hab

theorem mem8_writeMem_other {s : State} (a : Nat) (b : List Byte) {x : Nat} (hx : x < a ∨ a + b.length ≤ x) :
    (s.writeMem a b).mem8 x = s.mem8 x := by
  induction b generalizing s a with
  | nil => rfl
  | cons v b ih =>
    simp only [List.length_cons] at hx
    rw [State.writeMem, ih (a + 1) (by omega), mem8_setMem8_other v (by omega)]

/-- Programming flash changes memory alone. -/
theorem programFlash_frame (s : State) (a : Nat) (b : List Byte) :
    s.programFlash a b = { s with mem := (s.programFlash a b).mem } := by
  induction b generalizing s a with
  | nil => rfl
  | cons x b ih => exact (ih (s.setMem8 (0x30000000 + a) _) (a + 1)).trans rfl

theorem mem8_programFlash_other {s : State} (a : Nat) (b : List Byte) {x : Nat}
    (hx : x < 0x30000000 + a ∨ 0x30000000 + a + b.length ≤ x) : (s.programFlash a b).mem8 x = s.mem8 x := by
  induction b generalizing s a with
  | nil => rfl
  | cons v b ih =>
    simp only [List.length_cons] at hx
    rw [State.programFlash, ih (a + 1) (by omega), mem8_setMem8_other _ (by omega)]

theorem readMem_writeMem {s : State} (a : Nat) (b : List Byte) (h : Memory.wf s.mem = true) :
    (s.writeMem a b).readMem a b.length = b := by
  induction b generalizing s a with
  | nil => rfl
  | cons v b ih =>
    simp only [State.writeMem, List.length_cons, State.readMem]
    rw [ih (a + 1) (setMem8_wf a v h), mem8_writeMem_other (a + 1) b (by omega), mem8_setMem8_self a v h]

/-- Bytes read depend on those bytes alone. -/
theorem readMem_congr {s t : State} (a n : Nat) (h : ∀ i < n, s.mem8 (a + i) = t.mem8 (a + i)) :
    s.readMem a n = t.readMem a n := by
  induction n generalizing a with
  | zero => rfl
  | succ n ih =>
    have h1 : ∀ i < n, s.mem8 (a + 1 + i) = t.mem8 (a + 1 + i) := fun i hi => by
      have := h (i + 1) (by omega)
      rwa [show a + (i + 1) = a + 1 + i by omega] at this
    rw [State.readMem, State.readMem, ih (a + 1) h1, show s.mem8 a = t.mem8 a from h 0 (by omega)]

/-! ### Registers -/

theorem setReg_wf {s : State} (a : Nat) (v : Word) (h : Registers.wf s.regs = true) : Registers.wf (s.setReg a v).regs = true :=
  sparseSet_wf a v h

theorem put_wf {s : State} (f : Field) (v : Nat) (h : Registers.wf s.regs = true) : Registers.wf (s.put f v).regs = true :=
  sparseSet_wf _ _ h

theorem reset_regs_wf : Registers.wf State.reset.regs = true := rfl

theorem reg_setReg_self {s : State} (a : Nat) (v : Word) (h : Registers.wf s.regs = true) : (s.setReg a v).reg a = v :=
  sparseGet_set_self a v h

theorem reg_setReg_other {s : State} {a b : Nat} (v : Word) (hab : b ≠ a) : (s.setReg a v).reg b = s.reg b :=
  sparseGet_set_other v hab

/-- A field of another register is left alone. -/
theorem get_put_other {s : State} {f g : Field} (v : Nat) (hfg : g.addr ≠ f.addr) :
    (s.put f v).get g = s.get g := by
  simp only [State.get, State.put, reg_setReg_other _ hfg]

/-! ### The vault memory -/

/-- The vault memory is in its canonical form. -/
def VaultMemory.wf (s : State) : Bool := sparseWf nvDefault s.vlt.nv

theorem setNv8_wf {s : State} (a : Nat) (v : Byte) (h : VaultMemory.wf s = true) : VaultMemory.wf (s.setNv8 a v) = true :=
  sparseSet_wf a v h

theorem nvWrite_wf {s : State} (a : Nat) (b : List Byte) (h : VaultMemory.wf s = true) : VaultMemory.wf (s.nvWrite a b) = true := by
  induction b generalizing s a with
  | nil => exact h
  | cons x b ih => exact ih (a + 1) (setNv8_wf a x h)

theorem nvProgram_wf {s : State} (a : Nat) (b : List Byte) (h : VaultMemory.wf s = true) :
    VaultMemory.wf (s.nvProgram a b) = true := by
  induction b generalizing s a with
  | nil => exact h
  | cons x b ih => exact ih (a + 1) (setNv8_wf a _ h)

theorem nvStep_wf {s : State} (t : NvStep) (h : VaultMemory.wf s = true) : VaultMemory.wf (s.nvStep t) = true := by
  simp only [State.nvStep]
  split
  · exact nvWrite_wf _ _ h
  · exact nvProgram_wf _ _ h

theorem nvSteps_wf {s : State} (l : List NvStep) (h : VaultMemory.wf s = true) : VaultMemory.wf (s.nvSteps l) = true := by
  induction l generalizing s with
  | nil => exact h
  | cons t l ih => exact ih (nvStep_wf t h)

theorem reset_nv_wf : VaultMemory.wf State.reset = true := rfl

end Sys2Proof.Machine
end

