-- ==== Sys2Proof/Laws/Operands.lean ====
section
/-!
SUPPORT. Laws/Operands.lean: what the order of checks and the frame of a host command come to, said once (R466, R474).
-/
namespace Sys2Proof.Machine

@[simp] theorem firstFail_nil : firstFail [] = none := rfl

theorem firstFail_cons (ok : Bool) (st : Nat) (l : List (Bool × Nat)) :
    firstFail ((ok, st) :: l) = if ok then firstFail l else some st := rfl

/-- The checks of a list come before those of the next. -/
theorem firstFail_append (l k : List (Bool × Nat)) :
    firstFail (l ++ k) = match firstFail l with | some st => some st | none => firstFail k := by
  induction l with
  | nil => rfl
  | cons x l ih =>
    obtain ⟨ok, st⟩ := x
    cases ok with
    | false => rfl
    | true => simpa [firstFail] using ih

/-- No check fails when the checks of both lists pass. -/
theorem firstFail_append_none {l k : List (Bool × Nat)} (hl : firstFail l = none) (hk : firstFail k = none) :
    firstFail (l ++ k) = none := by
  rw [firstFail_append, hl]; exact hk

/-- The checks pass when each of them does. -/
theorem firstFail_none_of_all {l : List (Bool × Nat)} (h : ∀ x ∈ l, x.1 = true) : firstFail l = none := by
  induction l with
  | nil => rfl
  | cons x l ih =>
    obtain ⟨ok, st⟩ := x
    have : ok = true := h (ok, st) (by simp)
    simp only [firstFail, this, if_true]
    exact ih fun y hy => h y (by simp [hy])

theorem takes_hostReady {s : State} {m : Master} {op : Nat} (h : s.takes m op = true) : s.hostReady = true := by
  simp only [State.takes, Bool.and_eq_true] at h
  exact h.1.1.1.1

theorem takes_rightChecks {s : State} {m : Master} {op : Nat} (h : s.takes m op = true) :
    firstFail (s.rightChecks m op) = none := by
  simp only [State.takes, Bool.and_eq_true] at h
  obtain ⟨⟨⟨⟨-, h2⟩, h3⟩, -⟩, -⟩ := h
  simp [State.rightChecks, firstFail, h2, h3]

theorem takes_stateChecks {s : State} {m : Master} {op : Nat} (h : s.takes m op = true) : firstFail (s.stateChecks op) = none := by
  simp only [State.takes, Bool.and_eq_true] at h
  obtain ⟨⟨-, h4⟩, h5⟩ := h
  simp only [State.stateChecks, firstFail, h4, h5, if_true]

/-- A host command that comes to its own checks and passes those of its parameters has its own effect. -/
theorem hostCmdLater_comes {op : Nat} {m : Master} {p : List Byte} {syn : List (Bool × Nat)}
    {body : Option ReqCtx → State → State × Option (Nat × List Byte)} {s t : State} {c : Option ReqCtx}
    (h : s.comes m op p c t) (hs : firstFail syn = none) :
    hostCmdLater op m p syn body s =
      match body c t with
      | (t, some (st, d)) => t.answer m op c st d
      | (t, none) => t := by
  obtain ⟨h, ht⟩ := h
  rw [hostCmdLater, takes_hostReady h, ht]
  simp only [Bool.not_true, Bool.false_eq_true, if_false]
  rw [firstFail_append_none (firstFail_append_none (takes_rightChecks h) hs) (takes_stateChecks h)]
  all_goals rfl

/-- The same for a command that replies at once. -/
theorem hostCmd_comes {op : Nat} {m : Master} {p : List Byte} {syn : List (Bool × Nat)} {body : State → Effect} {s t : State}
    {c : Option ReqCtx} (h : s.comes m op p c t) (hs : firstFail syn = none) :
    hostCmd op m p syn body s = (body t).1.answer m op c (body t).2.1 (body t).2.2 := by
  rw [hostCmd, hostCmdLater_comes h hs]

/-- A host command that comes to its own checks is answered with the first that fails. -/
theorem hostCmdLater_comes_fails {op : Nat} {m : Master} {p : List Byte} {syn : List (Bool × Nat)}
    {body : Option ReqCtx → State → State × Option (Nat × List Byte)} {s t : State} {c : Option ReqCtx} {st : Nat}
    (h : s.comes m op p c t) (hs : firstFail syn = some st) : hostCmdLater op m p syn body s = t.answer m op c st [] := by
  obtain ⟨h, ht⟩ := h
  have hf : firstFail (s.rightChecks m op ++ syn ++ s.stateChecks op) = some st := by
    rw [firstFail_append, firstFail_append, takes_rightChecks h, hs]
  simp only [hostCmdLater, takes_hostReady h, ht, hf, Bool.not_true, Bool.false_eq_true, if_false]

theorem hostCmd_comes_fails {op : Nat} {m : Master} {p : List Byte} {syn : List (Bool × Nat)} {body : State → Effect}
    {s t : State} {c : Option ReqCtx} {st : Nat} (h : s.comes m op p c t) (hs : firstFail syn = some st) :
    hostCmd op m p syn body s = t.answer m op c st [] :=
  hostCmdLater_comes_fails h hs

/-- Where the firmware does not serve queue 1 no host command comes about (R474). -/
theorem hostCmdLater_unserved {op : Nat} {m : Master} {p : List Byte} {syn : List (Bool × Nat)}
    {body : Option ReqCtx → State → State × Option (Nat × List Byte)} {s : State} (h : s.hostReady = false) :
    hostCmdLater op m p syn body s = s := by
  simp [hostCmdLater, h]

/-- A host command whose first failing check is `st` is answered with it and changes nothing else (R466). -/
theorem hostCmdLater_fails {op : Nat} {m : Master} {p : List Byte} {syn : List (Bool × Nat)}
    {body : Option ReqCtx → State → State × Option (Nat × List Byte)} {s : State} {st : Nat} (h : s.hostReady = true)
    (hf : firstFail (s.rightChecks m op ++ syn ++ s.stateChecks op) = some st) :
    hostCmdLater op m p syn body s = (s.takeRequest m op p).2.answer m op (s.takeRequest m op p).1 st [] := by
  simp only [hostCmdLater, h, hf, Bool.not_true, Bool.false_eq_true, if_false]

/-- A bus access that reaches its block has its effect. -/
theorem onBus_reaches {s : State} {m : Master} {a : Nat} (f : State → State) (h : s.reaches m a = true) :
    s.onBus m a 1 f = f s := by
  simp only [State.reaches, Bool.and_eq_true, Bool.not_eq_true', beq_iff_eq] at h
  simp [State.onBus, h.1.1, h.1.2, h.2]

/-- A bus read that reaches its block returns its value and has its effect. -/
theorem onRead_readable {s : State} {m : Master} {a : Nat} (v : Nat) (f : State → State) (h : s.readable m a = true) :
    s.onRead m a v f = f (s.readBack m v) := by
  simp only [State.readable, Bool.and_eq_true, Bool.not_eq_true', beq_iff_eq] at h
  have ha : (s.readBack m v).awake = true := h.1.1
  have hq : (s.readBack m v).silent m = false := h.1.2
  have hb : (s.readBack m v).busOutcome m a 0 = .ok := h.2
  simp [State.onRead, State.onBus, h.1.1, h.1.2, h.2, ha, hq, hb]

/-- A read at the address of a word returns the word (R21). -/
theorem busRead_word (s : State) (m : Master) {a : Nat} (h : a % 4 = 0) :
    s.busRead m a = s.onRead m a (s.readAt m a).1 fun s => (s.readAt m a).2 := by
  have hb : ∀ v, (s.readBack m v).busOutcome m a 0 = s.busOutcome m a 0 := fun _ => rfl
  have ha : ∀ v, (s.readBack m v).awake = s.awake := fun _ => rfl
  have hq : ∀ v, (s.readBack m v).silent m = s.silent m := fun _ => rfl
  simp only [State.busRead, h, addressedPart, Nat.sub_zero]
  split
  · rename_i hc
    simp [State.onRead, hc]
  · rename_i hc
    split <;> rename_i ho <;> simp_all [State.onRead, State.onBus]

/-- A read that its block answers returns the part it addresses, and has the effect of reading the word (R9, R20, R21). -/
theorem busRead_readable {s : State} {m : Master} {a : Nat} (h : s.readable m (a - a % 4) = true) :
    s.busRead m a = ((s.readBack m (addressedPart a (s.readAt m (a - a % 4)).1)).readAt m (a - a % 4)).2 := by
  have hr := h
  simp only [State.readable, Bool.and_eq_true, Bool.not_eq_true', beq_iff_eq] at hr
  simp [State.busRead, hr.1.1, hr.1.2, hr.2, onRead_readable _ _ h]

theorem tmrCap_word (n : Fin 16) : (TMR_CH_CAP n).addr % 4 = 0 := by
  simp only [TMR_CH_CAP]
  omega

/-- A register command that comes to its own checks answers what those find. -/
theorem regCmd_takes {s : State} {m : Master} {op : Nat} (p : List Byte) (h : s.takesReg m op = true) :
    s.regCmd m op p = (regCommand m op p s).1.answer m op none (regCommand m op p s).2.1 (regCommand m op p s).2.2 := by
  simp only [State.takesReg, Bool.and_eq_true, Bool.not_eq_true'] at h
  obtain ⟨⟨⟨h1, h2⟩, h3⟩, h4⟩ := h
  simp [State.regCmd, h1, h2, h3, h4]

theorem onBus_asleep {s : State} {m : Master} {a k : Nat} (f : State → State) (h : s.awake = false) : s.onBus m a k f = s := by
  simp [State.onBus, h]

/-- M6 issues no access outside factory test mode (R22). -/
theorem onBus_silent {s : State} {m : Master} {a k : Nat} (f : State → State) (h : s.silent m = true) : s.onBus m a k f = s := by
  simp [State.onBus, h]

theorem onBus_decode {s : State} {m : Master} {a k : Nat} (f : State → State) (h : s.awake = true)
    (hq : s.silent m = false) (hb : s.busOutcome m a k = .decode) : s.onBus m a k f = s.decodeFault m a k := by
  simp [State.onBus, h, hq, hb]

theorem onBus_denied {s : State} {m : Master} {a k : Nat} (f : State → State) (h : s.awake = true)
    (hq : s.silent m = false) (hb : s.busOutcome m a k = .denied) : s.onBus m a k f = s.denyFault m a k := by
  simp [State.onBus, h, hq, hb]

theorem onBus_fenced {s : State} {m : Master} {a k : Nat} (f : State → State) (h : s.awake = true)
    (hq : s.silent m = false) (hb : s.busOutcome m a k = .fenced) : s.onBus m a k f = s := by
  simp [State.onBus, h, hq, hb]

/-! ### Rest -/

/-- Whether a state is at rest depends on these parts of it alone. -/
theorem atRest_congr {s t : State} (h1 : t.flt = s.flt) (h2 : t.auth = s.auth) (h3 : t.hfr = s.hfr) (h4 : t.cred = s.cred)
    (h5 : t.rel = s.rel) (h6 : t.lf = s.lf) (h7 : t.utx = s.utx) (h8 : t.sys.staged = s.sys.staged) (h9 : t.units = s.units)
    (h10 : t.urx = s.urx) (h11 : t.time = s.time) (h12 : t.awake = s.awake) (h13 : t.hif.flashOk = s.hif.flashOk)
    (h14 : t.reg CRED_CTRL.addr = s.reg CRED_CTRL.addr) (h15 : t.reg CRED_STATUS.addr = s.reg CRED_STATUS.addr)
    (h16 : ∀ i < 256, t.mem8 (0x30000000 + bankBase + i) = s.mem8 (0x30000000 + bankBase + i)) (h17 : t.zone = s.zone)
    (h18 : t.wlk = s.wlk) (h19 : t.singleRx = s.singleRx) (h20 : t.poolReady = s.poolReady) (h21 : t.rng = s.rng)
    (h22 : t.rngHalted = s.rngHalted) :
    t.atRest = s.atRest := by
  have hp : t.popHdr = s.popHdr := by
    simp only [State.popHdr, State.readFlash, h13, readMem_congr _ _ h16]
  have hi : t.popInUse = s.popInUse := by
    simp only [State.popInUse, State.popBarred, State.forcedMode, State.flag, State.get, hp, h13, h1, h4]
    rw [show CRED_CTRL_POP_EN.addr = CRED_CTRL.addr from rfl, show CRED_STATUS_MAP_LOADED.addr = CRED_STATUS.addr from rfl, h14, h15]
  have hm : ∀ k, t.modeNow k = s.modeNow k := by
    intro k
    simp only [State.modeNow, State.forcedMode, State.fenced, State.unit, hi, h1, h6, h9, h10, h11]
  have hl : t.lfQuiet = s.lfQuiet := by simp only [State.lfQuiet, h6, h11]
  simp only [State.atRest, h1, h2, h3, h4, h5, h6, h7, h8, h9, h10, hm, h12, h17, h18, h19, h20, h21, h22, hl]

/-- A reply that goes to no port leaves a state at rest. -/
theorem answer_none_atRest {s : State} (m : Master) (op st : Nat) (d : List Byte) (h : s.atRest = true) :
    (s.answer m op none st d).atRest = true := by
  rw [atRest_congr (s := s), h] <;> first | rfl | (intro i _; rfl)

end Sys2Proof.Machine
end

