-- ==== Sys2Proof/Laws/Ops.lean ====
section
/-!
SUPPORT. Laws/Ops.lean: what the passing of time leaves unchanged, and that what follows a command is nothing where nothing stands.
-/
namespace Sys2Proof.Machine

/-! ### Time passes: only the time base and the residency counts change -/

@[simp] theorem State.advance_regs (s : State) (a : Nat) : (s.advance a).regs = s.regs := by
  simp only [State.advance]; split <;> rfl
@[simp] theorem State.advance_mem (s : State) (a : Nat) : (s.advance a).mem = s.mem := by
  simp only [State.advance]; split <;> rfl
@[simp] theorem State.advance_units (s : State) (a : Nat) : (s.advance a).units = s.units := by
  simp only [State.advance]; split <;> rfl
@[simp] theorem State.advance_sys (s : State) (a : Nat) : (s.advance a).sys = s.sys := by
  simp only [State.advance]; split <;> rfl
@[simp] theorem State.advance_cal (s : State) (a : Nat) : (s.advance a).cal = s.cal := by
  simp only [State.advance]; split <;> rfl
@[simp] theorem State.advance_fires (s : State) (a : Nat) : (s.advance a).fires = s.fires := by
  simp only [State.advance]; split <;> rfl
@[simp] theorem State.advance_tmr (s : State) (a : Nat) : (s.advance a).tmr = s.tmr := by
  simp only [State.advance]; split <;> rfl
@[simp] theorem State.advance_qm (s : State) (a : Nat) : (s.advance a).qm = s.qm := by
  simp only [State.advance]; split <;> rfl
@[simp] theorem State.advance_hif (s : State) (a : Nat) : (s.advance a).hif = s.hif := by
  simp only [State.advance]; split <;> rfl
@[simp] theorem State.advance_flt (s : State) (a : Nat) : (s.advance a).flt = s.flt := by
  simp only [State.advance]; split <;> rfl
@[simp] theorem State.advance_bbx (s : State) (a : Nat) : (s.advance a).bbx = s.bbx := by
  simp only [State.advance]; split <;> rfl
@[simp] theorem State.advance_aes (s : State) (a : Nat) : (s.advance a).aes = s.aes := by
  simp only [State.advance]; split <;> rfl
@[simp] theorem State.advance_lf (s : State) (a : Nat) : (s.advance a).lf = s.lf := by
  simp only [State.advance]; split <;> rfl
@[simp] theorem State.advance_urx (s : State) (a : Nat) : (s.advance a).urx = s.urx := by
  simp only [State.advance]; split <;> rfl
@[simp] theorem State.advance_utx (s : State) (a : Nat) : (s.advance a).utx = s.utx := by
  simp only [State.advance]; split <;> rfl
@[simp] theorem State.advance_range (s : State) (a : Nat) : (s.advance a).range = s.range := by
  simp only [State.advance]; split <;> rfl
@[simp] theorem State.advance_zone (s : State) (a : Nat) : (s.advance a).zone = s.zone := by
  simp only [State.advance]; split <;> rfl
@[simp] theorem State.advance_cred (s : State) (a : Nat) : (s.advance a).cred = s.cred := by
  simp only [State.advance]; split <;> rfl
@[simp] theorem State.advance_auth (s : State) (a : Nat) : (s.advance a).auth = s.auth := by
  simp only [State.advance]; split <;> rfl
@[simp] theorem State.advance_rel (s : State) (a : Nat) : (s.advance a).rel = s.rel := by
  simp only [State.advance]; split <;> rfl
@[simp] theorem State.advance_hfr (s : State) (a : Nat) : (s.advance a).hfr = s.hfr := by
  simp only [State.advance]; split <;> rfl
@[simp] theorem State.advance_vlt (s : State) (a : Nat) : (s.advance a).vlt = s.vlt := by
  simp only [State.advance]; split <;> rfl
@[simp] theorem State.advance_upd (s : State) (a : Nat) : (s.advance a).upd = s.upd := by
  simp only [State.advance]; split <;> rfl
@[simp] theorem State.advance_wlk (s : State) (a : Nat) : (s.advance a).wlk = s.wlk := by
  simp only [State.advance]; split <;> rfl
@[simp] theorem State.advance_cnt (s : State) (a : Nat) : (s.advance a).cnt = s.cnt := by
  simp only [State.advance]; split <;> rfl
@[simp] theorem State.advance_rng (s : State) (a : Nat) : (s.advance a).rng = s.rng := by
  simp only [State.advance]; split <;> rfl
@[simp] theorem State.advance_free (s : State) (a : Nat) : (s.advance a).free = s.free := by
  simp only [State.advance]; split <;> rfl
@[simp] theorem State.advance_pending (s : State) (a : Nat) : (s.advance a).pending = s.pending := by
  simp only [State.advance]; split <;> rfl
@[simp] theorem State.advance_pwr_st (s : State) (a : Nat) : (s.advance a).pwr.st = s.pwr.st := by
  simp only [State.advance]; split <;> rfl
@[simp] theorem State.advance_pwr_wake (s : State) (a : Nat) : (s.advance a).pwr.wake = s.pwr.wake := by
  simp only [State.advance]; split <;> rfl
@[simp] theorem State.advance_pwr_fwRun (s : State) (a : Nat) : (s.advance a).pwr.fwRun = s.pwr.fwRun := by
  simp only [State.advance]; split <;> rfl
@[simp] theorem State.advance_pwr_fwServing (s : State) (a : Nat) : (s.advance a).pwr.fwServing = s.pwr.fwServing := by
  simp only [State.advance]; split <;> rfl
@[simp] theorem State.advance_pwr_hifUp (s : State) (a : Nat) : (s.advance a).pwr.hifUp = s.pwr.hifUp := by
  simp only [State.advance]; split <;> rfl
@[simp] theorem State.advance_pwr_entry (s : State) (a : Nat) : (s.advance a).pwr.entry = s.pwr.entry := by
  simp only [State.advance]; split <;> rfl
@[simp] theorem State.advance_pwr_reduced (s : State) (a : Nat) : (s.advance a).pwr.reduced = s.pwr.reduced := by
  simp only [State.advance]; split <;> rfl
@[simp] theorem State.advance_pwr_vid (s : State) (a : Nat) : (s.advance a).pwr.vid = s.pwr.vid := by
  simp only [State.advance]; split <;> rfl
@[simp] theorem State.advance_pwr_dvfs (s : State) (a : Nat) : (s.advance a).pwr.dvfs = s.pwr.dvfs := by
  simp only [State.advance]; split <;> rfl
@[simp] theorem State.advance_pwr_level (s : State) (a : Nat) : (s.advance a).pwr.level = s.pwr.level := by
  simp only [State.advance]; split <;> rfl
@[simp] theorem State.advance_pwr_padsHeld (s : State) (a : Nat) : (s.advance a).pwr.padsHeld = s.pwr.padsHeld := by
  simp only [State.advance]; split <;> rfl
@[simp] theorem State.advance_pwr_lockout (s : State) (a : Nat) : (s.advance a).pwr.lockout = s.pwr.lockout := by
  simp only [State.advance]; split <;> rfl

/-- The clock stands at the later of what it showed and the instant named. -/
theorem State.advance_now (s : State) (a : Nat) : (s.advance a).time.now = max s.time.now a := by
  simp only [State.advance]
  split
  · omega
  · show a = _
    omega

theorem State.wait_eq (s : State) (n : Nat) : s.wait n = s.advance (n + s.time.now) := rfl

/-- A wait until a reference time is a wait. -/
theorem State.advanceRef_eq (s : State) (r : Nat) : ∃ a, s.advanceRef r = s.advance a := by
  unfold State.advanceRef; split <;> exact ⟨_, rfl⟩

/-- A wait until a low-power count is a wait. -/
theorem State.advanceLp_eq (s : State) (n : Nat) : ∃ a, s.advanceLp n = s.advance a := ⟨_, rfl⟩

@[simp] theorem State.advanceRef_regs (s : State) (r : Nat) : (s.advanceRef r).regs = s.regs := by
  obtain ⟨a, h⟩ := s.advanceRef_eq r; rw [h, State.advance_regs]
@[simp] theorem State.advanceLp_regs (s : State) (n : Nat) : (s.advanceLp n).regs = s.regs := by
  obtain ⟨a, h⟩ := s.advanceLp_eq n; rw [h, State.advance_regs]
@[simp] theorem State.wait_regs (s : State) (n : Nat) : (s.wait n).regs = s.regs := State.advance_regs s _
@[simp] theorem State.advanceRef_mem (s : State) (r : Nat) : (s.advanceRef r).mem = s.mem := by
  obtain ⟨a, h⟩ := s.advanceRef_eq r; rw [h, State.advance_mem]
@[simp] theorem State.advanceLp_mem (s : State) (n : Nat) : (s.advanceLp n).mem = s.mem := by
  obtain ⟨a, h⟩ := s.advanceLp_eq n; rw [h, State.advance_mem]
@[simp] theorem State.wait_mem (s : State) (n : Nat) : (s.wait n).mem = s.mem := State.advance_mem s _
@[simp] theorem State.advanceRef_units (s : State) (r : Nat) : (s.advanceRef r).units = s.units := by
  obtain ⟨a, h⟩ := s.advanceRef_eq r; rw [h, State.advance_units]
@[simp] theorem State.advanceLp_units (s : State) (n : Nat) : (s.advanceLp n).units = s.units := by
  obtain ⟨a, h⟩ := s.advanceLp_eq n; rw [h, State.advance_units]
@[simp] theorem State.wait_units (s : State) (n : Nat) : (s.wait n).units = s.units := State.advance_units s _
@[simp] theorem State.advanceRef_sys (s : State) (r : Nat) : (s.advanceRef r).sys = s.sys := by
  obtain ⟨a, h⟩ := s.advanceRef_eq r; rw [h, State.advance_sys]
@[simp] theorem State.advanceLp_sys (s : State) (n : Nat) : (s.advanceLp n).sys = s.sys := by
  obtain ⟨a, h⟩ := s.advanceLp_eq n; rw [h, State.advance_sys]
@[simp] theorem State.wait_sys (s : State) (n : Nat) : (s.wait n).sys = s.sys := State.advance_sys s _
@[simp] theorem State.advanceRef_cal (s : State) (r : Nat) : (s.advanceRef r).cal = s.cal := by
  obtain ⟨a, h⟩ := s.advanceRef_eq r; rw [h, State.advance_cal]
@[simp] theorem State.advanceLp_cal (s : State) (n : Nat) : (s.advanceLp n).cal = s.cal := by
  obtain ⟨a, h⟩ := s.advanceLp_eq n; rw [h, State.advance_cal]
@[simp] theorem State.wait_cal (s : State) (n : Nat) : (s.wait n).cal = s.cal := State.advance_cal s _
@[simp] theorem State.advanceRef_fires (s : State) (r : Nat) : (s.advanceRef r).fires = s.fires := by
  obtain ⟨a, h⟩ := s.advanceRef_eq r; rw [h, State.advance_fires]
@[simp] theorem State.advanceLp_fires (s : State) (n : Nat) : (s.advanceLp n).fires = s.fires := by
  obtain ⟨a, h⟩ := s.advanceLp_eq n; rw [h, State.advance_fires]
@[simp] theorem State.wait_fires (s : State) (n : Nat) : (s.wait n).fires = s.fires := State.advance_fires s _
@[simp] theorem State.advanceRef_tmr (s : State) (r : Nat) : (s.advanceRef r).tmr = s.tmr := by
  obtain ⟨a, h⟩ := s.advanceRef_eq r; rw [h, State.advance_tmr]
@[simp] theorem State.advanceLp_tmr (s : State) (n : Nat) : (s.advanceLp n).tmr = s.tmr := by
  obtain ⟨a, h⟩ := s.advanceLp_eq n; rw [h, State.advance_tmr]
@[simp] theorem State.wait_tmr (s : State) (n : Nat) : (s.wait n).tmr = s.tmr := State.advance_tmr s _
@[simp] theorem State.advanceRef_qm (s : State) (r : Nat) : (s.advanceRef r).qm = s.qm := by
  obtain ⟨a, h⟩ := s.advanceRef_eq r; rw [h, State.advance_qm]
@[simp] theorem State.advanceLp_qm (s : State) (n : Nat) : (s.advanceLp n).qm = s.qm := by
  obtain ⟨a, h⟩ := s.advanceLp_eq n; rw [h, State.advance_qm]
@[simp] theorem State.wait_qm (s : State) (n : Nat) : (s.wait n).qm = s.qm := State.advance_qm s _
@[simp] theorem State.advanceRef_hif (s : State) (r : Nat) : (s.advanceRef r).hif = s.hif := by
  obtain ⟨a, h⟩ := s.advanceRef_eq r; rw [h, State.advance_hif]
@[simp] theorem State.advanceLp_hif (s : State) (n : Nat) : (s.advanceLp n).hif = s.hif := by
  obtain ⟨a, h⟩ := s.advanceLp_eq n; rw [h, State.advance_hif]
@[simp] theorem State.wait_hif (s : State) (n : Nat) : (s.wait n).hif = s.hif := State.advance_hif s _
@[simp] theorem State.advanceRef_flt (s : State) (r : Nat) : (s.advanceRef r).flt = s.flt := by
  obtain ⟨a, h⟩ := s.advanceRef_eq r; rw [h, State.advance_flt]
@[simp] theorem State.advanceLp_flt (s : State) (n : Nat) : (s.advanceLp n).flt = s.flt := by
  obtain ⟨a, h⟩ := s.advanceLp_eq n; rw [h, State.advance_flt]
@[simp] theorem State.wait_flt (s : State) (n : Nat) : (s.wait n).flt = s.flt := State.advance_flt s _
@[simp] theorem State.advanceRef_bbx (s : State) (r : Nat) : (s.advanceRef r).bbx = s.bbx := by
  obtain ⟨a, h⟩ := s.advanceRef_eq r; rw [h, State.advance_bbx]
@[simp] theorem State.advanceLp_bbx (s : State) (n : Nat) : (s.advanceLp n).bbx = s.bbx := by
  obtain ⟨a, h⟩ := s.advanceLp_eq n; rw [h, State.advance_bbx]
@[simp] theorem State.wait_bbx (s : State) (n : Nat) : (s.wait n).bbx = s.bbx := State.advance_bbx s _
@[simp] theorem State.advanceRef_aes (s : State) (r : Nat) : (s.advanceRef r).aes = s.aes := by
  obtain ⟨a, h⟩ := s.advanceRef_eq r; rw [h, State.advance_aes]
@[simp] theorem State.advanceLp_aes (s : State) (n : Nat) : (s.advanceLp n).aes = s.aes := by
  obtain ⟨a, h⟩ := s.advanceLp_eq n; rw [h, State.advance_aes]
@[simp] theorem State.wait_aes (s : State) (n : Nat) : (s.wait n).aes = s.aes := State.advance_aes s _
@[simp] theorem State.advanceRef_lf (s : State) (r : Nat) : (s.advanceRef r).lf = s.lf := by
  obtain ⟨a, h⟩ := s.advanceRef_eq r; rw [h, State.advance_lf]
@[simp] theorem State.advanceLp_lf (s : State) (n : Nat) : (s.advanceLp n).lf = s.lf := by
  obtain ⟨a, h⟩ := s.advanceLp_eq n; rw [h, State.advance_lf]
@[simp] theorem State.wait_lf (s : State) (n : Nat) : (s.wait n).lf = s.lf := State.advance_lf s _
@[simp] theorem State.advanceRef_urx (s : State) (r : Nat) : (s.advanceRef r).urx = s.urx := by
  obtain ⟨a, h⟩ := s.advanceRef_eq r; rw [h, State.advance_urx]
@[simp] theorem State.advanceLp_urx (s : State) (n : Nat) : (s.advanceLp n).urx = s.urx := by
  obtain ⟨a, h⟩ := s.advanceLp_eq n; rw [h, State.advance_urx]
@[simp] theorem State.wait_urx (s : State) (n : Nat) : (s.wait n).urx = s.urx := State.advance_urx s _
@[simp] theorem State.advanceRef_utx (s : State) (r : Nat) : (s.advanceRef r).utx = s.utx := by
  obtain ⟨a, h⟩ := s.advanceRef_eq r; rw [h, State.advance_utx]
@[simp] theorem State.advanceLp_utx (s : State) (n : Nat) : (s.advanceLp n).utx = s.utx := by
  obtain ⟨a, h⟩ := s.advanceLp_eq n; rw [h, State.advance_utx]
@[simp] theorem State.wait_utx (s : State) (n : Nat) : (s.wait n).utx = s.utx := State.advance_utx s _
@[simp] theorem State.advanceRef_range (s : State) (r : Nat) : (s.advanceRef r).range = s.range := by
  obtain ⟨a, h⟩ := s.advanceRef_eq r; rw [h, State.advance_range]
@[simp] theorem State.advanceLp_range (s : State) (n : Nat) : (s.advanceLp n).range = s.range := by
  obtain ⟨a, h⟩ := s.advanceLp_eq n; rw [h, State.advance_range]
@[simp] theorem State.wait_range (s : State) (n : Nat) : (s.wait n).range = s.range := State.advance_range s _
@[simp] theorem State.advanceRef_zone (s : State) (r : Nat) : (s.advanceRef r).zone = s.zone := by
  obtain ⟨a, h⟩ := s.advanceRef_eq r; rw [h, State.advance_zone]
@[simp] theorem State.advanceLp_zone (s : State) (n : Nat) : (s.advanceLp n).zone = s.zone := by
  obtain ⟨a, h⟩ := s.advanceLp_eq n; rw [h, State.advance_zone]
@[simp] theorem State.wait_zone (s : State) (n : Nat) : (s.wait n).zone = s.zone := State.advance_zone s _
@[simp] theorem State.advanceRef_cred (s : State) (r : Nat) : (s.advanceRef r).cred = s.cred := by
  obtain ⟨a, h⟩ := s.advanceRef_eq r; rw [h, State.advance_cred]
@[simp] theorem State.advanceLp_cred (s : State) (n : Nat) : (s.advanceLp n).cred = s.cred := by
  obtain ⟨a, h⟩ := s.advanceLp_eq n; rw [h, State.advance_cred]
@[simp] theorem State.wait_cred (s : State) (n : Nat) : (s.wait n).cred = s.cred := State.advance_cred s _
@[simp] theorem State.advanceRef_auth (s : State) (r : Nat) : (s.advanceRef r).auth = s.auth := by
  obtain ⟨a, h⟩ := s.advanceRef_eq r; rw [h, State.advance_auth]
@[simp] theorem State.advanceLp_auth (s : State) (n : Nat) : (s.advanceLp n).auth = s.auth := by
  obtain ⟨a, h⟩ := s.advanceLp_eq n; rw [h, State.advance_auth]
@[simp] theorem State.wait_auth (s : State) (n : Nat) : (s.wait n).auth = s.auth := State.advance_auth s _
@[simp] theorem State.advanceRef_rel (s : State) (r : Nat) : (s.advanceRef r).rel = s.rel := by
  obtain ⟨a, h⟩ := s.advanceRef_eq r; rw [h, State.advance_rel]
@[simp] theorem State.advanceLp_rel (s : State) (n : Nat) : (s.advanceLp n).rel = s.rel := by
  obtain ⟨a, h⟩ := s.advanceLp_eq n; rw [h, State.advance_rel]
@[simp] theorem State.wait_rel (s : State) (n : Nat) : (s.wait n).rel = s.rel := State.advance_rel s _
@[simp] theorem State.advanceRef_hfr (s : State) (r : Nat) : (s.advanceRef r).hfr = s.hfr := by
  obtain ⟨a, h⟩ := s.advanceRef_eq r; rw [h, State.advance_hfr]
@[simp] theorem State.advanceLp_hfr (s : State) (n : Nat) : (s.advanceLp n).hfr = s.hfr := by
  obtain ⟨a, h⟩ := s.advanceLp_eq n; rw [h, State.advance_hfr]
@[simp] theorem State.wait_hfr (s : State) (n : Nat) : (s.wait n).hfr = s.hfr := State.advance_hfr s _
@[simp] theorem State.advanceRef_vlt (s : State) (r : Nat) : (s.advanceRef r).vlt = s.vlt := by
  obtain ⟨a, h⟩ := s.advanceRef_eq r; rw [h, State.advance_vlt]
@[simp] theorem State.advanceLp_vlt (s : State) (n : Nat) : (s.advanceLp n).vlt = s.vlt := by
  obtain ⟨a, h⟩ := s.advanceLp_eq n; rw [h, State.advance_vlt]
@[simp] theorem State.wait_vlt (s : State) (n : Nat) : (s.wait n).vlt = s.vlt := State.advance_vlt s _
@[simp] theorem State.advanceRef_upd (s : State) (r : Nat) : (s.advanceRef r).upd = s.upd := by
  obtain ⟨a, h⟩ := s.advanceRef_eq r; rw [h, State.advance_upd]
@[simp] theorem State.advanceLp_upd (s : State) (n : Nat) : (s.advanceLp n).upd = s.upd := by
  obtain ⟨a, h⟩ := s.advanceLp_eq n; rw [h, State.advance_upd]
@[simp] theorem State.wait_upd (s : State) (n : Nat) : (s.wait n).upd = s.upd := State.advance_upd s _
@[simp] theorem State.advanceRef_wlk (s : State) (r : Nat) : (s.advanceRef r).wlk = s.wlk := by
  obtain ⟨a, h⟩ := s.advanceRef_eq r; rw [h, State.advance_wlk]
@[simp] theorem State.advanceLp_wlk (s : State) (n : Nat) : (s.advanceLp n).wlk = s.wlk := by
  obtain ⟨a, h⟩ := s.advanceLp_eq n; rw [h, State.advance_wlk]
@[simp] theorem State.wait_wlk (s : State) (n : Nat) : (s.wait n).wlk = s.wlk := State.advance_wlk s _
@[simp] theorem State.advanceRef_cnt (s : State) (r : Nat) : (s.advanceRef r).cnt = s.cnt := by
  obtain ⟨a, h⟩ := s.advanceRef_eq r; rw [h, State.advance_cnt]
@[simp] theorem State.advanceLp_cnt (s : State) (n : Nat) : (s.advanceLp n).cnt = s.cnt := by
  obtain ⟨a, h⟩ := s.advanceLp_eq n; rw [h, State.advance_cnt]
@[simp] theorem State.wait_cnt (s : State) (n : Nat) : (s.wait n).cnt = s.cnt := State.advance_cnt s _
@[simp] theorem State.advanceRef_rng (s : State) (r : Nat) : (s.advanceRef r).rng = s.rng := by
  obtain ⟨a, h⟩ := s.advanceRef_eq r; rw [h, State.advance_rng]
@[simp] theorem State.advanceLp_rng (s : State) (n : Nat) : (s.advanceLp n).rng = s.rng := by
  obtain ⟨a, h⟩ := s.advanceLp_eq n; rw [h, State.advance_rng]
@[simp] theorem State.wait_rng (s : State) (n : Nat) : (s.wait n).rng = s.rng := State.advance_rng s _
@[simp] theorem State.advanceRef_free (s : State) (r : Nat) : (s.advanceRef r).free = s.free := by
  obtain ⟨a, h⟩ := s.advanceRef_eq r; rw [h, State.advance_free]
@[simp] theorem State.advanceLp_free (s : State) (n : Nat) : (s.advanceLp n).free = s.free := by
  obtain ⟨a, h⟩ := s.advanceLp_eq n; rw [h, State.advance_free]
@[simp] theorem State.wait_free (s : State) (n : Nat) : (s.wait n).free = s.free := State.advance_free s _
@[simp] theorem State.advanceRef_pending (s : State) (r : Nat) : (s.advanceRef r).pending = s.pending := by
  obtain ⟨a, h⟩ := s.advanceRef_eq r; rw [h, State.advance_pending]
@[simp] theorem State.advanceLp_pending (s : State) (n : Nat) : (s.advanceLp n).pending = s.pending := by
  obtain ⟨a, h⟩ := s.advanceLp_eq n; rw [h, State.advance_pending]
@[simp] theorem State.wait_pending (s : State) (n : Nat) : (s.wait n).pending = s.pending := State.advance_pending s _
@[simp] theorem State.advanceRef_pwr_st (s : State) (r : Nat) : (s.advanceRef r).pwr.st = s.pwr.st := by
  obtain ⟨a, h⟩ := s.advanceRef_eq r; rw [h, State.advance_pwr_st]
@[simp] theorem State.advanceLp_pwr_st (s : State) (n : Nat) : (s.advanceLp n).pwr.st = s.pwr.st := by
  obtain ⟨a, h⟩ := s.advanceLp_eq n; rw [h, State.advance_pwr_st]
@[simp] theorem State.wait_pwr_st (s : State) (n : Nat) : (s.wait n).pwr.st = s.pwr.st := State.advance_pwr_st s _
@[simp] theorem State.advanceRef_pwr_wake (s : State) (r : Nat) : (s.advanceRef r).pwr.wake = s.pwr.wake := by
  obtain ⟨a, h⟩ := s.advanceRef_eq r; rw [h, State.advance_pwr_wake]
@[simp] theorem State.advanceLp_pwr_wake (s : State) (n : Nat) : (s.advanceLp n).pwr.wake = s.pwr.wake := by
  obtain ⟨a, h⟩ := s.advanceLp_eq n; rw [h, State.advance_pwr_wake]
@[simp] theorem State.wait_pwr_wake (s : State) (n : Nat) : (s.wait n).pwr.wake = s.pwr.wake := State.advance_pwr_wake s _
@[simp] theorem State.advanceRef_pwr_fwRun (s : State) (r : Nat) : (s.advanceRef r).pwr.fwRun = s.pwr.fwRun := by
  obtain ⟨a, h⟩ := s.advanceRef_eq r; rw [h, State.advance_pwr_fwRun]
@[simp] theorem State.advanceLp_pwr_fwRun (s : State) (n : Nat) : (s.advanceLp n).pwr.fwRun = s.pwr.fwRun := by
  obtain ⟨a, h⟩ := s.advanceLp_eq n; rw [h, State.advance_pwr_fwRun]
@[simp] theorem State.wait_pwr_fwRun (s : State) (n : Nat) : (s.wait n).pwr.fwRun = s.pwr.fwRun := State.advance_pwr_fwRun s _
@[simp] theorem State.advanceRef_pwr_fwServing (s : State) (r : Nat) : (s.advanceRef r).pwr.fwServing = s.pwr.fwServing := by
  obtain ⟨a, h⟩ := s.advanceRef_eq r; rw [h, State.advance_pwr_fwServing]
@[simp] theorem State.advanceLp_pwr_fwServing (s : State) (n : Nat) : (s.advanceLp n).pwr.fwServing = s.pwr.fwServing := by
  obtain ⟨a, h⟩ := s.advanceLp_eq n; rw [h, State.advance_pwr_fwServing]
@[simp] theorem State.wait_pwr_fwServing (s : State) (n : Nat) : (s.wait n).pwr.fwServing = s.pwr.fwServing := State.advance_pwr_fwServing s _
@[simp] theorem State.advanceRef_pwr_hifUp (s : State) (r : Nat) : (s.advanceRef r).pwr.hifUp = s.pwr.hifUp := by
  obtain ⟨a, h⟩ := s.advanceRef_eq r; rw [h, State.advance_pwr_hifUp]
@[simp] theorem State.advanceLp_pwr_hifUp (s : State) (n : Nat) : (s.advanceLp n).pwr.hifUp = s.pwr.hifUp := by
  obtain ⟨a, h⟩ := s.advanceLp_eq n; rw [h, State.advance_pwr_hifUp]
@[simp] theorem State.wait_pwr_hifUp (s : State) (n : Nat) : (s.wait n).pwr.hifUp = s.pwr.hifUp := State.advance_pwr_hifUp s _
@[simp] theorem State.advanceRef_pwr_entry (s : State) (r : Nat) : (s.advanceRef r).pwr.entry = s.pwr.entry := by
  obtain ⟨a, h⟩ := s.advanceRef_eq r; rw [h, State.advance_pwr_entry]
@[simp] theorem State.advanceLp_pwr_entry (s : State) (n : Nat) : (s.advanceLp n).pwr.entry = s.pwr.entry := by
  obtain ⟨a, h⟩ := s.advanceLp_eq n; rw [h, State.advance_pwr_entry]
@[simp] theorem State.wait_pwr_entry (s : State) (n : Nat) : (s.wait n).pwr.entry = s.pwr.entry := State.advance_pwr_entry s _
@[simp] theorem State.advanceRef_pwr_reduced (s : State) (r : Nat) : (s.advanceRef r).pwr.reduced = s.pwr.reduced := by
  obtain ⟨a, h⟩ := s.advanceRef_eq r; rw [h, State.advance_pwr_reduced]
@[simp] theorem State.advanceLp_pwr_reduced (s : State) (n : Nat) : (s.advanceLp n).pwr.reduced = s.pwr.reduced := by
  obtain ⟨a, h⟩ := s.advanceLp_eq n; rw [h, State.advance_pwr_reduced]
@[simp] theorem State.wait_pwr_reduced (s : State) (n : Nat) : (s.wait n).pwr.reduced = s.pwr.reduced := State.advance_pwr_reduced s _
@[simp] theorem State.advanceRef_pwr_vid (s : State) (r : Nat) : (s.advanceRef r).pwr.vid = s.pwr.vid := by
  obtain ⟨a, h⟩ := s.advanceRef_eq r; rw [h, State.advance_pwr_vid]
@[simp] theorem State.advanceLp_pwr_vid (s : State) (n : Nat) : (s.advanceLp n).pwr.vid = s.pwr.vid := by
  obtain ⟨a, h⟩ := s.advanceLp_eq n; rw [h, State.advance_pwr_vid]
@[simp] theorem State.wait_pwr_vid (s : State) (n : Nat) : (s.wait n).pwr.vid = s.pwr.vid := State.advance_pwr_vid s _
@[simp] theorem State.advanceRef_pwr_dvfs (s : State) (r : Nat) : (s.advanceRef r).pwr.dvfs = s.pwr.dvfs := by
  obtain ⟨a, h⟩ := s.advanceRef_eq r; rw [h, State.advance_pwr_dvfs]
@[simp] theorem State.advanceLp_pwr_dvfs (s : State) (n : Nat) : (s.advanceLp n).pwr.dvfs = s.pwr.dvfs := by
  obtain ⟨a, h⟩ := s.advanceLp_eq n; rw [h, State.advance_pwr_dvfs]
@[simp] theorem State.wait_pwr_dvfs (s : State) (n : Nat) : (s.wait n).pwr.dvfs = s.pwr.dvfs := State.advance_pwr_dvfs s _
@[simp] theorem State.advanceRef_pwr_level (s : State) (r : Nat) : (s.advanceRef r).pwr.level = s.pwr.level := by
  obtain ⟨a, h⟩ := s.advanceRef_eq r; rw [h, State.advance_pwr_level]
@[simp] theorem State.advanceLp_pwr_level (s : State) (n : Nat) : (s.advanceLp n).pwr.level = s.pwr.level := by
  obtain ⟨a, h⟩ := s.advanceLp_eq n; rw [h, State.advance_pwr_level]
@[simp] theorem State.wait_pwr_level (s : State) (n : Nat) : (s.wait n).pwr.level = s.pwr.level := State.advance_pwr_level s _
@[simp] theorem State.advanceRef_pwr_padsHeld (s : State) (r : Nat) : (s.advanceRef r).pwr.padsHeld = s.pwr.padsHeld := by
  obtain ⟨a, h⟩ := s.advanceRef_eq r; rw [h, State.advance_pwr_padsHeld]
@[simp] theorem State.advanceLp_pwr_padsHeld (s : State) (n : Nat) : (s.advanceLp n).pwr.padsHeld = s.pwr.padsHeld := by
  obtain ⟨a, h⟩ := s.advanceLp_eq n; rw [h, State.advance_pwr_padsHeld]
@[simp] theorem State.wait_pwr_padsHeld (s : State) (n : Nat) : (s.wait n).pwr.padsHeld = s.pwr.padsHeld := State.advance_pwr_padsHeld s _
@[simp] theorem State.advanceRef_pwr_lockout (s : State) (r : Nat) : (s.advanceRef r).pwr.lockout = s.pwr.lockout := by
  obtain ⟨a, h⟩ := s.advanceRef_eq r; rw [h, State.advance_pwr_lockout]
@[simp] theorem State.advanceLp_pwr_lockout (s : State) (n : Nat) : (s.advanceLp n).pwr.lockout = s.pwr.lockout := by
  obtain ⟨a, h⟩ := s.advanceLp_eq n; rw [h, State.advance_pwr_lockout]
@[simp] theorem State.wait_pwr_lockout (s : State) (n : Nat) : (s.wait n).pwr.lockout = s.pwr.lockout := State.advance_pwr_lockout s _

@[simp] theorem State.advance_unit (s : State) (a : Nat) (b : Nat) : (s.advance a).unit b = s.unit b := by
  simp [State.unit]
@[simp] theorem State.advanceRef_unit (s : State) (r : Nat) (b : Nat) : (s.advanceRef r).unit b = s.unit b := by
  simp [State.unit]
@[simp] theorem State.advanceLp_unit (s : State) (n : Nat) (b : Nat) : (s.advanceLp n).unit b = s.unit b := by
  simp [State.unit]
@[simp] theorem State.wait_unit (s : State) (n : Nat) (b : Nat) : (s.wait n).unit b = s.unit b := by
  simp [State.unit]
@[simp] theorem State.advance_unitOn (s : State) (a : Nat) (b : Nat) : (s.advance a).unitOn b = s.unitOn b := by
  simp [State.unitOn, State.unit]
@[simp] theorem State.advanceRef_unitOn (s : State) (r : Nat) (b : Nat) : (s.advanceRef r).unitOn b = s.unitOn b := by
  simp [State.unitOn, State.unit]
@[simp] theorem State.advanceLp_unitOn (s : State) (n : Nat) (b : Nat) : (s.advanceLp n).unitOn b = s.unitOn b := by
  simp [State.unitOn, State.unit]
@[simp] theorem State.wait_unitOn (s : State) (n : Nat) (b : Nat) : (s.wait n).unitOn b = s.unitOn b := by
  simp [State.unitOn, State.unit]
@[simp] theorem State.advance_fenced (s : State) (a : Nat) (b : Nat) : (s.advance a).fenced b = s.fenced b := by
  simp [State.fenced, State.unit]
@[simp] theorem State.advanceRef_fenced (s : State) (r : Nat) (b : Nat) : (s.advanceRef r).fenced b = s.fenced b := by
  simp [State.fenced, State.unit]
@[simp] theorem State.advanceLp_fenced (s : State) (n : Nat) (b : Nat) : (s.advanceLp n).fenced b = s.fenced b := by
  simp [State.fenced, State.unit]
@[simp] theorem State.wait_fenced (s : State) (n : Nat) (b : Nat) : (s.wait n).fenced b = s.fenced b := by
  simp [State.fenced, State.unit]
@[simp] theorem State.advance_reg (s : State) (a : Nat) (x : Nat) : (s.advance a).reg x = s.reg x := by
  simp [State.reg]
@[simp] theorem State.advanceRef_reg (s : State) (r : Nat) (x : Nat) : (s.advanceRef r).reg x = s.reg x := by
  simp [State.reg]
@[simp] theorem State.advanceLp_reg (s : State) (n : Nat) (x : Nat) : (s.advanceLp n).reg x = s.reg x := by
  simp [State.reg]
@[simp] theorem State.wait_reg (s : State) (n : Nat) (x : Nat) : (s.wait n).reg x = s.reg x := by
  simp [State.reg]
@[simp] theorem State.advance_get (s : State) (a : Nat) (f : Field) : (s.advance a).get f = s.get f := by
  simp [State.get, State.reg]
@[simp] theorem State.advanceRef_get (s : State) (r : Nat) (f : Field) : (s.advanceRef r).get f = s.get f := by
  simp [State.get, State.reg]
@[simp] theorem State.advanceLp_get (s : State) (n : Nat) (f : Field) : (s.advanceLp n).get f = s.get f := by
  simp [State.get, State.reg]
@[simp] theorem State.wait_get (s : State) (n : Nat) (f : Field) : (s.wait n).get f = s.get f := by
  simp [State.get, State.reg]
@[simp] theorem State.advance_flag (s : State) (a : Nat) (f : Field) : (s.advance a).flag f = s.flag f := by
  simp [State.flag, State.get, State.reg]
@[simp] theorem State.advanceRef_flag (s : State) (r : Nat) (f : Field) : (s.advanceRef r).flag f = s.flag f := by
  simp [State.flag, State.get, State.reg]
@[simp] theorem State.advanceLp_flag (s : State) (n : Nat) (f : Field) : (s.advanceLp n).flag f = s.flag f := by
  simp [State.flag, State.get, State.reg]
@[simp] theorem State.wait_flag (s : State) (n : Nat) (f : Field) : (s.wait n).flag f = s.flag f := by
  simp [State.flag, State.get, State.reg]
@[simp] theorem State.advance_mem8 (s : State) (a : Nat) (x : Nat) : (s.advance a).mem8 x = s.mem8 x := by
  simp [State.mem8]
@[simp] theorem State.advanceRef_mem8 (s : State) (r : Nat) (x : Nat) : (s.advanceRef r).mem8 x = s.mem8 x := by
  simp [State.mem8]
@[simp] theorem State.advanceLp_mem8 (s : State) (n : Nat) (x : Nat) : (s.advanceLp n).mem8 x = s.mem8 x := by
  simp [State.mem8]
@[simp] theorem State.wait_mem8 (s : State) (n : Nat) (x : Nat) : (s.wait n).mem8 x = s.mem8 x := by
  simp [State.mem8]
@[simp] theorem State.advance_padHeld (s : State) (a : Nat) (g : Nat) : (s.advance a).padHeld g = s.padHeld g := by
  simp [State.padHeld]
@[simp] theorem State.advanceRef_padHeld (s : State) (r : Nat) (g : Nat) : (s.advanceRef r).padHeld g = s.padHeld g := by
  simp [State.padHeld]
@[simp] theorem State.advanceLp_padHeld (s : State) (n : Nat) (g : Nat) : (s.advanceLp n).padHeld g = s.padHeld g := by
  simp [State.padHeld]
@[simp] theorem State.wait_padHeld (s : State) (n : Nat) (g : Nat) : (s.wait n).padHeld g = s.padHeld g := by
  simp [State.padHeld]
@[simp] theorem State.advance_awake (s : State) (a : Nat) : (s.advance a).awake = s.awake := by
  simp [State.awake]
@[simp] theorem State.advanceRef_awake (s : State) (r : Nat) : (s.advanceRef r).awake = s.awake := by
  simp [State.awake]
@[simp] theorem State.advanceLp_awake (s : State) (n : Nat) : (s.advanceLp n).awake = s.awake := by
  simp [State.awake]
@[simp] theorem State.wait_awake (s : State) (n : Nat) : (s.wait n).awake = s.awake := by
  simp [State.awake]
@[simp] theorem State.advance_recovery (s : State) (a : Nat) : (s.advance a).recovery = s.recovery := by
  simp [State.recovery]
@[simp] theorem State.advanceRef_recovery (s : State) (r : Nat) : (s.advanceRef r).recovery = s.recovery := by
  simp [State.recovery]
@[simp] theorem State.advanceLp_recovery (s : State) (n : Nat) : (s.advanceLp n).recovery = s.recovery := by
  simp [State.recovery]
@[simp] theorem State.wait_recovery (s : State) (n : Nat) : (s.wait n).recovery = s.recovery := by
  simp [State.recovery]

/-! ### What follows a command is nothing where nothing stands -/

theorem foldl_unchanged {α β : Type} (f : β → α → β) (s : β) (l : List α) (h : ∀ a ∈ l, f s a = s) : l.foldl f s = s := by
  induction l with
  | nil => rfl
  | cons a l ih => rw [List.foldl_cons, h a (by simp), ih fun b hb => h b (by simp [hb])]

/-- In a state at rest the blocks and the firmware go on with nothing, and the collector has nothing to take. -/
theorem settle_atRest {e : State} (h : e.atRest = true) : e.settle = e := by
  simp only [State.atRest, Bool.and_eq_true, Bool.or_eq_true, Bool.not_eq_true', List.isEmpty_iff, Option.isNone_iff_eq_none] at h
  obtain ⟨⟨⟨⟨⟨⟨⟨⟨⟨⟨⟨⟨⟨⟨⟨⟨⟨⟨⟨⟨⟨⟨h1, h2⟩, h3⟩, h4⟩, h5⟩, h6⟩, h7⟩, h8⟩, h9⟩, h10⟩, h11⟩, h12⟩, h13⟩, h14⟩,
    b1⟩, b2⟩, b3⟩, b4⟩, b5⟩, b6⟩, b7⟩, b8⟩, h15⟩ := h
  have a1 : e.edgeFollow = e := by simp [State.edgeFollow, h3]
  have a2 : e.rssiFollow = e := by simp [State.rssiFollow, h11]
  have a3 : e.authRun 64 = e := by simp [State.authRun, h2]
  have a4 : e.unlockFollow = e := by simp [State.unlockFollow, h5]
  have a5 : e.relFollow = e := by simp [State.relFollow, h4]
  have a6 : e.hfrFollow = e := by simp [State.hfrFollow, h7, h6]
  have a7 : e.vltFollow = e := by simp [State.vltFollow, h8]
  have a8 : e.dropEnds = e := by
    have l : ({ e.lf with fin := [] } : LfState) = e.lf := by rw [← h9]
    have u : ({ e.utx with fin := [] } : UtxState) = e.utx := by rw [← h10]
    simp only [State.dropEnds, l, u]
    split <;> rfl
  have a9 : e.boundaries = e := by
    have : (e.units.any fun u => u == .disabling || u == .restartPending) = false := by
      simp only [List.any_eq_false, List.all_eq_true] at *
      intro x hx
      have := h14 x hx
      simp_all
    have hb : e.burstOver [] = e := by
      simp only [State.lfQuiet] at b7
      unfold State.burstOver
      split
      · rename_i t ht
        simp only [ht] at b7
        exact if_neg (by simp_all)
      · rfl
    simp only [State.boundaries, hb, h13, this, List.isEmpty_nil, if_true, if_false, Bool.false_eq_true]
  have a10 : e.calBack = e := by simp [State.calBack, h12]
  have c1 : e.lfDiagBegin = e := by simp [State.lfDiagBegin, b1]
  have c2 : e.portsOut = e := by
    rcases b2 with b2 | b2
    · simp [State.portsOut, b2]
    · have l : ∀ f : UrxChan → UrxChan, (∀ c, c.phase ≠ 2 → f c = c) → e.urx.chans.map f = e.urx.chans := fun f hf => by
        refine (List.map_congr_left fun c hc => hf c ?_).trans (List.map_id _)
        simpa using List.all_eq_true.1 b2 c hc
      simp only [State.portsOut]
      split
      · rfl
      · rw [l _ fun c hc => by simp [hc]]
  have c3 : e.lfSave = e := by simp [State.lfSave, b3]
  have c4 : e.mapSwitch = e := by simp [State.mapSwitch, b4]
  have c5 : e.workerFollow = e := by simp [State.workerFollow, b5]
  have c6 : e.poolFollow = e := by rcases b6 with b6 | b6 <;> simp [State.poolFollow, b6]
  have c7 : e.haltFollow = e := by rcases b8 with b8 | b8 <;> simp [State.haltFollow, b8]
  have f : e.follow = e := by simp only [State.follow, a1, a2, a3, a4, a5, a6, a7, a8, a9, a10, c1, c2, c3, c4, c5, c6, c7]
  have c : e.collect 8 = e := by simp [State.collect, h1]
  have m : (if e.awake then e.modeSync else e) = e := by
    split
    · rename_i ha
      refine foldl_unchanged _ _ _ fun k hk => ?_
      rcases h15 with h15 | h15
      · simp [ha] at h15
      · have := List.all_eq_true.1 h15 k hk
        simp at this
        simp [this]
    · rfl
  simp only [State.settle, f, c, m]

/-- A command that leaves the device at rest has its own effect and no more. -/
theorem after_atRest (s : State) {e : State} (h : e.atRest = true) : s.after e = { e with pending := s.pending } := by
  rw [State.after, settle_atRest h]

/-- A step answers the next state of the command's effect. -/
theorem perform_next (s : State) (f : State → State) : s.perform f = .next (s.after (f s)) := rfl

@[simp] theorem after_pending (s e : State) : (s.after e).pending = s.pending := by
  simp only [State.after]

end Sys2Proof.Machine
end

