-- ==== Sys2Proof/Machine/Pins.lean ====
section
/-!
DEFINITION. Machine/Pins.lean: the levels the device puts on its output pads (R129, R165, R166, R176, R293, R523, R613, R621, R626),
as views of the state.
-/
namespace Sys2Proof.Machine

/-- The level of an output pad. -/
inductive PinLevel where
  | low
  | high
  | highZ
  deriving DecidableEq, Repr

/-- The output of a VDDIO pad that its block drives to `v`: high impedance with VDDIO at 0 V (R621). -/
def State.vddioPin (s : State) (v : Bool) : PinLevel := if !s.vlt.vddio then .highZ else if v then .high else .low

/-- What a circuit reads on a VDDIO line that its pull holds (R620, R621): a pull-up pulls towards 0 V while VDDIO is there. -/
def State.lineReads (s : State) (p : PinLevel) (pullUp : Bool) : Bool :=
  match p with
  | .low => false
  | .high => true
  | .highZ => pullUp && s.vlt.vddio

/-! ### The start pair (R293, R523, R621) -/

/-- START_EN_A and START_EN_B: in the off state while the group is held. -/
def State.startEnA (s : State) : PinLevel := s.vddioPin (s.rel.a && !s.relHeld)

def State.startEnB (s : State) : PinLevel := s.vddioPin (s.rel.b || s.relHeld)

/-- The start pair as the vehicle reads it: A high and B low is released, A low and B high is off, any other is transitional. -/
def State.startPair (s : State) : Bool × Bool := (s.lineReads s.startEnA false, s.lineReads s.startEnB true)

/-- The start pair is released (R293). -/
def State.startReleased (s : State) : Bool := s.startPair == (true, false)

/-! ### The reference (R626) -/

/-- The 40 MHz reference is needed: in P0 and P1, in a wake, and in P2 to P4 for each burst and its window and each handle telegram. -/
def State.refNeeded (s : State) : Bool :=
  !s.pwr.lockout && (s.pwr.st.num ≤ 1 || s.pwr.wake.isSome || s.lf.tx.isSome || s.lf.window.isSome)

/-- XTAL_O where TCXO mode was selected at power-on reset: TCXO_EN, at VRF18 level. Otherwise it is a pin of the oscillator. -/
def State.tcxoEn (s : State) : Option Bool := if Config.xtalStrap then some s.refNeeded else none

/-! ### The FEM lines (R129, R142, R165, R166, R192, R523) -/

/-- The present instant lies from `lead` before T to `lag` after E, in 0.1 µs (R165). -/
def FemRun.covers (f : FemRun) (now lead lag : Nat) : Bool := decide (f.t - tenths lead ≤ now ∧ now < f.e + tenths lag)

/-- A line of the last FEM sequence is in its transmit position: byte `k` of UTX_FEM_ON and byte `j` of UTX_FEM_OFF are its delays. -/
def State.femIn (s : State) (k j : Nat) : Bool :=
  match s.utx.fem with
  | some f => f.covers s.time.now (bitsAt f.seq.on (8 * k) 8) (bitsAt f.seq.off (8 * j) 8)
  | none => false

/-- UTX_FEM_CTRL as the sequence under way has it, else as it stands. -/
def State.femCtl (s : State) : Nat :=
  match s.utx.fem with
  | some f => if s.femIn 0 2 then f.seq.ctl else s.get UTX_FEM_CTRL
  | none => s.get UTX_FEM_CTRL

/-- The sentinel is on (R142). -/
def State.sentinelOn (s : State) : Bool := match s.lf.window with | some w => w.on | none => false

/-- Block UTX runs: it is ON, or is to be OFF after the transmission in progress (R190). -/
def State.utxRuns (s : State) : Bool := s.unit 6 == .on || s.unit 6 == .disabling || s.unit 6 == .restartPending

/-- UTX drives the FEM lines: its block runs or its last sequence is still under way, it is not fenced, and its group is not held (R165,
R166, R190, R192, R523). -/
def State.femDriven (s : State) : Bool :=
  (s.utxRuns || (s.femIn 0 2 && !s.fenced 6)) && s.awake && !s.padHeld 3 && !s.safeState

/-- FEM_PA_EN. -/
def State.femPaEn (s : State) : PinLevel := s.vddioPin ((s.femDriven && s.femIn 2 0) != (bitAt s.femCtl 0 == 1))

/-- FEM_LNA_EN: with UTX, active outside its transmissions; else it follows the path of the sentinel, or a window of URX
(notes/assumptions/155.md). -/
def State.femLnaEn (s : State) : PinLevel :=
  let active := if s.femDriven then !s.femIn 0 2 else s.sentinelOn || (s.awake && s.urx.wins.any fun w => w.st == .on)
  s.vddioPin (active != (bitAt s.femCtl 1 == 1))

/-- FEM_TRSW. -/
def State.femTrsw (s : State) : PinLevel := s.vddioPin ((s.femDriven && s.femIn 1 1) != (bitAt s.femCtl 2 == 1))

/-- FEM_BYP: TX_BYP in transmit, in receive high while bypass is engaged (notes/assumptions/155.md). -/
def State.femByp (s : State) : PinLevel :=
  s.vddioPin (if s.femDriven && s.femIn 1 1 then bitAt s.femCtl 3 == 1 else s.urx.bypass)

/-! ### Coexistence (R176) -/

/-- T of a pending send as an instant, where it is known (R167, R169). -/
def State.sendT (s : State) (d : UtxSend) : Option Nat :=
  match d.trig with
  | 1 => some (if d.start < s.time.ref then s.time.now else s.time.now + s.time.ticksToRef d.start)
  | 2 => d.trigN.map (· + 8 * Config.usTicks)
  | _ => none

/-- The next transmissions ask for the arbiter now, from REQ_LEAD_US before their T − ON_LNA_LEAD, and whether one with priority; an
instant that is not known beforehand asks as soon as its turn has come. -/
def State.coexNext (s : State) : Option Bool :=
  let lead := Config.usTicks * s.get UTX_COEX_CFG_REQ_LEAD_US
  let wait := s.utx.sends.filter fun d => match s.sendT d with
    | some t => t - tenths (if d.trig = 2 then d.lead else s.get UTX_FEM_ON_ON_LNA_LEAD) - lead ≤ s.time.now
    | none => false
  let now := s.utx.tx.toList.filter fun t => t.phase ≠ 3 && t.reqSeq - lead ≤ s.time.now
  let all := now.map (·.send) ++ wait
  let send : Option Bool := if all.isEmpty then none else some (all.any UtxSend.high)
  let run : Option Bool := match s.range.run with
    | some r =>
      let t := if r.stage = 1 then r.at_ 20 else r.at_ (500 + 95 * r.k)
      let due := r.o.isSome && (r.stage = 1 || (r.stage = 3 && !r.skipTones && r.k < r.n))
      if due && t - tenths (s.get UTX_FEM_ON_ON_LNA_LEAD) - lead ≤ s.time.now then some true else none
    | none => none
  match send with | some h => some h | none => run

/-- The request in force: of the transmission on the air until its E + OFF_LNA_LAG, or of the next. -/
def State.coexAsks (s : State) : Option Bool :=
  if !s.flag UTX_COEX_CFG_EN || s.padHeld 4 || s.fenced 6 then none
  else
    let next := if s.utxRuns then s.coexNext else none
    match s.utx.fem with
    | some f => if s.femIn 0 2 then some f.high else next
    | none => next

/-- COEX_REQ and COEX_PRIO. -/
def State.coexReq (s : State) : PinLevel := s.vddioPin s.coexAsks.isSome

def State.coexPrio (s : State) : PinLevel := s.vddioPin (s.coexAsks == some true)

/-! ### VID and nFAULT (R529, R552, R619) -/

/-- Bit `k` of the VID code. -/
def State.vidPin (s : State) (k : Nat) : PinLevel := s.vddioPin (bitAt s.pwr.vid k == 1)

/-- nFAULT, open drain: low from power-on until the reset ends, and while R552 asserts it. -/
def State.nFaultPin (s : State) : PinLevel :=
  let starting := match s.pwr.wake with | some w => w.powerOn | none => false
  if !s.vlt.vddio then .highZ else if starting || s.nfault then .low else .highZ

end Sys2Proof.Machine
end

