-- ==== Sys2Proof/Tests/Slice0.lean ====
section
/-!
SUPPORT. Tests/Slice0.lean: ill-formed commands that the checks of WellFormed refuse, single steps on small states, and for every statement
with hypotheses a theorem `wit_<its name>` that shows for each of its clauses a state and operands that meet all of them together.
-/
open Sys2Proof Sys2Proof.Machine

set_option autoImplicit false
set_option maxRecDepth 20000
set_option linter.unusedVariables false
set_option Elab.async false

namespace Sys2Proof.Tests

/-! ### Helpers: small states and operands -/

theorem and3 {a b c r : Prop} (h : a ∧ b ∧ c) (k : r) : a ∧ b ∧ c ∧ r := ⟨h.1, h.2.1, h.2.2, k⟩
theorem sg {α : Type} {o : Option α} (h : o.isSome = true) : o = some (o.get h) := (Option.some_get h).symm
theorem tup {α β : Type} {x : α × β} {b : β} (h : x.2 = b) : x = (x.1, b) := by rw [← h]
theorem put {α β : Type} {x : α × β} {b : α} (h : x.1 = b) : x = (b, x.2) := by rw [← h]
theorem trip {α β γ : Type} {x : α × β × γ} {b : β} (h : x.2.1 = b) : x = (x.1, b, x.2.2) := by rw [← h]
def zs (n : Nat) : List Byte := List.replicate n 0
def up0 : State :=
  { State.reset with
    units := List.replicate 23 .on
    time := { State.reset.time with running := true, lpxOk := true, servo := .locked }
    pwr := { State.reset.pwr with wake := none, hifUp := true, fwRun := true, fwServing := true, vid := 1 }
    sys := { State.reset.sys with cfgDefaults := false, region := { State.reset.sys.region with ok := true, locked := true, lfMin := 120000, lfMax := 140000, bands := [{ lo := 300000000, hi := 1000000000, dutyUs := 1000000, maxPwr := 63 }] } }
    bbx := { State.reset.bbx with ready := true }
    vlt := { State.reset.vlt with ready := true, powered := true, vddio := true, live := true } }
def up : State := up0.put TRNG_STATUS_GEN genReady
def pw (f : PwrState → PwrState) : State := { up with pwr := f up.pwr }
def bx (f : BbxState → BbxState) : State := { up with bbx := f up.bbx }
def cl (n : Nat) (c : CalSlot) : State := { up with cal := up.cal.set n (some c) }
def worker : State := { up with sys := { up.sys with role := 1, straps := 2 } }
def manager : State := { up with sys := { up.sys with straps := 1 } }
def wakeB : WakeSeq := { source := 0, detail := 0, left := 0, at_ := 0, stage := .boot, stageAt := 0 }
def slotC : CalSlot :=
  { target := 4, action := 0, wake := false, periodic := false, exclusive := false, resources := 0, prepLead := 0, time := 1000, duration := 0, period := 0, arg := 0 }
/-- The population is not in use, and its mode is in force. -/
def rest : State := { up with flt := { up.flt with modes := 4 } }
def idle (st : PState) (t : Option Nat) : State :=
  let s := pw fun p => { p with st := st, idleSince := some 0, triedAt := t }
  (((s.put PWR_POLICY_ALLOW 15).put PWR_IDLE0_IDLE_P2_MS 1).put PWR_IDLE1_IDLE_P3_MS 2).put PWR_IDLE1_IDLE_P4_S 1
theorem tupS {α β : Type} {x : α × Option β} (h : x.2.isSome = true) : x = (x.1, some (x.2.get h)) := by
  rw [Option.some_get]
theorem tupS3 {α β γ : Type} {x : α × Option β × γ} {c : γ} (h : x.2.1.isSome = true) (k : x.2.2 = c) :
    x = (x.1, some (x.2.1.get h), c) := by rw [Option.some_get, ← k]
def withCrc (b : List Byte) : List Byte := b ++ [byte (crc16 b / 256), byte (crc16 b % 256)]
def lfS : State :=
  { up with
    lf := { up.lf with chans := List.replicate 12 .on, pats := up.lf.pats.set 0 [{ ch := 11, phase := 0, amp := 100 }] } }
def sendL : LfSend := { id := 0, typ := 1, pats := [], preempt := false, atTime := none, nb := none }
def txL : LfTx :=
  { kind := 0, send := sendL, tel := [], slots := [], mask := 0, start := 0, freq := 125000, pre := 250, body := 500, gap := 500, len := 500 }
def mapB : List Byte :=
  let b := [0x5A, 0x4D, 1, 1, 1, 0, 0, 0] ++ zs 44
  b ++ le 4 (crc32 b)
def urS : State :=
  ((((({ up with urx := { up.urx with wins := List.replicate 4 { st := .on } } }).put (URX_CH_CFG_EN 63) 1).put (URX_CH_FRAME 63) 0x00200820).put (URX_CH_RATE 63) 9600).put (URX_CH_DEV 63) 5000)
def qS (q : Nat) : State := ((up.put (QM_Q_CFG_EN q) 1).put (QM_Q_LIMITS_QUOTA q) 100)
def utS : State := (up.put (UTX_CALTAB_LO_FREQ_HZ 0) 433920000).put (UTX_CALTAB_LO_PERMITTED 0) 1 |>.put (UTX_CALTAB_LO_VALID 0) 1
def sendU : UtxSend :=
  { id := 0, trig := 0, prio := false, entry := 0, power := 10, format := 0, rate := 9600, bits := 100, halfSpan := 20000, rxCh := 0, tol := 0, start := 0, lead := 0 }
def txU : UtxTx :=
  { send := sendU, phase := 0, hopAt := 0, lockAt := 100, reqT := none, band := 0, power := 10, clip := false, stored := true }
def sendP : List Byte := [0, 0, 0, 10, 2, 0, 0, 0] ++ zs 16 ++ [0xA0, 0x86, 1, 0] ++ zs 4
theorem sg2 {α β : Type} {o : Option (α × β)} (h : o.isSome = true) : o = some ((o.get h).1, (o.get h).2) := by rw [Option.some_get]
def rxU : Reception := { bytes := 7 :: zs 31, rssi := 0, rssiA := 0, rssiB := 0, fofs := 0, snr := 0, clip := false, better := false }
def rgS : State :=
  let s := (List.range 9).foldl (fun s k => ((s.put (UTX_CALTAB_LO_FREQ_HZ k) (400000000 + 1000000 * k)).put (UTX_CALTAB_LO_PERMITTED k) 1).put (UTX_CALTAB_LO_VALID k) 1) up
  (s.put RANGE_PLAN_CFG_N 8).put RANGE_STATUS_PLAN_OK 1
def runR : RangeRun :=
  { id := 0, mode := 0, skipRtt := false, skipTones := false, workers := false, rep := false, rxCh := 0, zone := none, org := 0, seed := zs 16, chips := zs 16
    f0 := 400000000, sp := 1000000, n := 8, first := 0, rttEntry := 0, power := 10, delay := 0, rnd := zs 32 }
def measR : RangeMeas := { locked := true, blocked := false, loopback := true, snr := 255, delayPs := 0, eps := 0, psi := 0, beta := 0 }
def wrapC : List Byte :=
  [116, 214, 255, 35, 136, 119, 237, 42, 155, 205, 233, 4, 62, 76, 166, 42, 42, 13, 52, 15] ++
  [6, 125, 60, 159, 194, 200, 210, 235, 249, 169, 105, 153, 133, 133, 200, 57, 81, 181, 60, 202]
def wrapK : List Byte :=
  [191, 59, 119, 181, 233, 12, 170, 159, 80, 9, 254, 150, 38, 228, 239, 226, 13, 237, 117, 238, 59, 26, 192, 213]
def meas0 : VaultMeas := { field := 0, vh := 0, vrstore := 0 }
def rowC : List Byte := (1 :: zs 11) ++ [0, 0x5A, 0, 0, 0] ++ zs 7 ++ wrapC
def kekS : State := { up with aes := { up.aes with slots := up.aes.slots.set 0 (some { key := zs 16, usage := 0, users := 0, kek := 0 }) } }
def cells (a : Nat) (l : List Byte) : List Host.Cell := ((List.range l.length).map fun i => (a + i, l.getD i 0)).filter fun c => c.2 != memDefault c.1
def dirS : State := { kekS with mem := cells 0x20005FC0 rowC }
def run : Nat → List Byte → List Host.Cell
  | _, [] => []
  | a, b :: l => (a, b) :: run (a + 1) l
def popMem : List Host.Cell :=
  run 0x31000000 ([75, 80, 1, 10] ++ zs 8 ++ [144, 208, 3] ++ zs 237 ++ [198, 206, 120, 156]) ++ run 822226176 [0, 0, 196, 93]
    ++ run 822251520 (rowC.take 26) ++ run 822251547 (rowC.drop 27) ++ run 822251600 (zs 44 ++ [0x78, 0xD1, 0xC2, 0x6B])
def popS : State := { ((up.put CRED_CTRL_POP_EN 1).put CRED_STATUS_MAP_LOADED 1) with mem := popMem }
def lockS : State := up.modCred fun c => { c with locks := [{ id := zs 12, until_ := some 5 }] }
def attA : Attempt := { id := 0, locate := false, origin := 0, quality := 0, start := 0, pats := [] }
def opS : State :=
  let s := { up with cnt := { up.cnt with ceil := up.cnt.ceil.set 47 8 } }
  (((s.put CNT_STATUS_LOADED 1).put REL_POLICY_TAP_MODE 2).put REL_OPEN_INFO_SOURCE 1).put REL_OPEN_INFO_START 1 |>.put REL_POLICY_ROLE_MASK 63 |>.modRel fun r => { r with armMode := 1, tap := some (zs 12, 0) }
def hf (f : HfrState → HfrState) : State := up.modHfr f
def actH : HfrAct := { id := 0, port := 0, tech := 0, rate := 0, flags := 0, afi := 0, timeout := 0, since := 0 }
def flowH (st : Nat) : HfrFlow := { id := 0, port := 0, stage := st }
def vl (f : VltState → VltState) : State := up.modVlt f
def strm (ph : Nat) : VltStream := { id := 0, first := 8, n := 8, queue := 0, phase := ph, unit_ := 8, since := 0 }
def jobV : VltJob := { kind := .read, master := .m0, first := 8, since := 0 }
def pgw (st : Nat) : PageWrite := { page := 264, slot := 0, seq := 1, data := zs 56, erase := false, stage := st, at_ := 0, owner := 0 }
def strong : VaultMeas := { field := 40, vh := 3000, vrstore := 0 }
theorem keyOk : KeyOk (zs 16) := by decide +kernel
theorem keyNe : roundKeys (zs 16) ≠ [] := by decide +kernel
def secS : State := vl fun y => { y with proto := 2, session := true, sk := zs 16 }
def secB (pt : List Byte) : List Byte := frameOf (0x7E :: ccmSeal (zs 16) ([byte 0] ++ le 4 0 ++ vaultIdBytes ++ []) [0x7E] pt 8)
theorem length_secB (pt : List Byte) : (secB pt).length = pt.length + 11 := by
  simp [secB, length_frameOf, length_ccmSeal keyOk keyNe]
theorem open_secB (pt : List Byte) (n : Nat) (h : n = pt.length + 8) :
    ccmOpen (zs 16) ([byte 0] ++ le 4 0 ++ vaultIdBytes ++ []) [0x7E] (((secB pt).drop 1).take n) 8 = some pt := by
  have h2 := length_ccmSeal keyOk keyNe ([byte 0] ++ le 4 0 ++ vaultIdBytes ++ []) [0x7E] pt (t := 8) (by decide)
  rw [h, ← h2, secB, frameOf_body]
  exact ccmOpen_ccmSeal keyOk keyNe _ _ _ (by decide)
def authTag : List Byte := (cmac (zs 16) ([0x52, 0x50] ++ zs 8)).take 8
theorem length_authTag : authTag.length = 8 := by simp [authTag, length_cmac keyOk keyNe]
def noMain (f : VltState → VltState) : State := vl fun y => f { y with vddio := false, powered := true }
theorem authTag_at : authTag = ((frameOf (0x71 :: authTag)).drop 1).take 8 := by
  have h := frameOf_body 0x71 authTag
  rw [length_authTag] at h
  exact h.symm
theorem quad {α β γ δ : Type} {x : α × β × γ × δ} {d : δ} (h : x.2.2.2 = d) : x = (x.1, x.2.1, x.2.2.1, d) := by rw [← h]
def itemQ : Item := { bytes := [7, 0, 1, 0, 0, 0], src := 0x80, cells := 1 }
def popP (f : PopPort → PopPort) : State := { up with qm := { up.qm with pop := up.qm.pop.modify 0 f } }
def openQ (len : Nat) : OpenItem := { queue := 5, len := len, data := [], cells := 1, src := 0x80 }
def pushS (len : Nat) : State := { qS 5 with qm := { up.qm with push := up.qm.push.set 0 { item := some (openQ len) } } }
def qI (q : Nat) (l : List Item) : State := { qS q with qm := { up.qm with queues := up.qm.queues.set q l } }
def hif (f : HifState → HifState) : State := { up with hif := f up.hif }
def fop (k : Nat) : FlashOp := { kind := k, addr := 0, data := [], owner := 0 }
def upd (f : UpdState → UpdState) : State := up.modUpd f
def cfgA (rev : Bool) (l : List Nat) : CfgApply := { epoch := 1, named := l, pending := l, at_ := 0, commit := false, master := .m0, ctx := none, reverting := rev }
def swF (st slot : Nat) (fb : Bool) : FwSwitch := { stage := st, slot := slot, fallback := fb, since := 0 }
def imgB (ws : List Nat) : List Byte := [0x43, 0x47, 1, 0, 1, 0, byte (ws.length / 2), 0] ++ leWords ws
def lfm (ty adr : Nat) (pay : List Byte) : List Byte :=
  let b := [0x7E, byte ty, byte adr] ++ le 2 pay.length ++ pay
  b ++ le 4 (crc32 b)
def fwdL : WlForward := { worker := 0, packet := [0, 0, 0, 0], at_ := 0, master := .m0, ctx := none }
def mgr (f : WlkState → WlkState) : State := { manager with wlk := f { manager.wlk with workers := List.replicate 4 { locked := true } } }
def wrk (f : WlkState → WlkState) : State := { worker.put WLK_STATUS_LOCKED 1 with wlk := f worker.wlk }
def img2 : List Byte := [0x43, 0x47, 1, 0, 1, 0, 16, 0] ++ [7, 1, 8, 0] ++ zs 4 ++ [8, 1, 8, 0] ++ zs 4
theorem eta {α β : Type} (x : α × β) : x = (x.1, x.2) := rfl
theorem testKey_whole : (roundKeys ((List.range 16).map Config.testKey)).length = 11 ∧ KeyOk ((List.range 16).map Config.testKey) :=
  roundKeys_whole (nk := 4) (by decide) (by simp)
theorem testKey_some : roundKeys ((List.range 16).map Config.testKey) ≠ [] := fun e => by
  have h := testKey_whole.1
  rw [e] at h
  exact absurd h (by decide)


/-! ### Ill-formed commands -/

/-- Every host command is ill-formed with more parameters than a packet carries (R8, R466). -/
theorem test_wf_long_parameters (i : Instr) (op : Nat) (m : Master) (p : List Byte) (h : hostCall i = some (op, m, p))
    (hl : 4104 < p.length) : i.wf = false := by
  have hp : paramsFit p = false := by simp [paramsFit, atMost]; omega
  cases i <;> simp only [hostCall, Option.some.injEq, Prod.mk.injEq, reduceCtorEq] at h
  all_goals (obtain ⟨-, -, rfl⟩ := h; exact hp)

theorem test_wf_long_bytes (b : List Byte) (m : VaultMeas) (w : Fin 4) (rx : Reception) (h : 1033 < b.length) (hr : rx.bytes = b) :
    (Instr.faultEvent 0 0 b 0).wf = false ∧ (Instr.pollAnswer b 0 0).wf = false ∧ (Instr.urxFrame 0 rx).wf = false ∧
      (Instr.hfrActivated true false (zs 4) 0 0 b 0).wf = false ∧ (Instr.helloReply b 0).wf = false ∧
      (Instr.proofReply b false 0 0).wf = false ∧ (Instr.vreq b true 0).wf = false ∧ (Instr.vwup b true 0).wf = false ∧
      (Instr.vsel b true 0).wf = false ∧ (Instr.auth1 b true 0).wf = false ∧ (Instr.auth2 b true 0).wf = false ∧
      (Instr.halt b true 0).wf = false ∧ (Instr.secureRead b true m 0).wf = false ∧ (Instr.secureWrite b true m 0).wf = false ∧
      (Instr.secureStatus b true m 0).wf = false ∧ (Instr.ticket b true m 0).wf = false ∧ (Instr.secureEnd b true 0).wf = false ∧
      (Instr.fwd b 0).wf = false ∧ (Instr.reply w b 0).wf = false ∧ (Instr.frame w b 0).wf = false ∧ (Instr.event w b 0).wf = false ∧
      (Instr.run true 0 0 b 0).wf = false ∧ (Instr.targetResponse b true 0).wf = false := by
  have h1 : ¬ b.length ≤ 14 := by omega
  have h2 : ¬ b.length ≤ 80 := by omega
  have h3 : ¬ b.length ≤ 127 := by omega
  have h4 : ¬ b.length ≤ 255 := by omega
  have h5 : ¬ b.length ≤ 256 := by omega
  have h6 : ¬ b.length ≤ 1033 := by omega
  simp [Instr.wf, atMost, hr, h1, h2, h3, h4, h5, h6]

theorem test_wf_other_checks :
    (Instr.lowWordRead .m0 2).wf = false ∧ (Instr.registerWrite .m0 2 0 .word).wf = false ∧
      (Instr.registerWrite .m0 1 0 .half).wf = false ∧ (Instr.wakeEvent (.source 9 4) 0).wf = false ∧
      (Instr.wakeEvent (.source 6 0) 0).wf = false ∧ (Instr.lfTxDone [⟨3, 0, 0, 0, false, 0, 0⟩, ⟨3, 1, 0, 0, false, 0, 0⟩]).wf = false ∧
      (Instr.pollWindowEnd 0 [⟨3, 0, 0, 0, false, 0, 0⟩, ⟨3, 1, 0, 0, false, 0, 0⟩]).wf = false ∧
      (Instr.lfDiagDone (List.replicate 13 ⟨0, false, 0, 0, 0, 0, 0, true⟩) 0).wf = false ∧
      (Instr.hfrActivated true false (zs 5) 0 0 [] 0).wf = false ∧ (Instr.spiRequest [] 0).wf = false ∧
      (Instr.spiRead 0 0).wf = false ∧ (Instr.sideWrite [] 0).wf = false ∧ (Instr.sideRead 0 0).wf = false ∧
      (Instr.run true 65536 0 [] 0).wf = false := by decide

/-! ### Single operations and steps -/

/-- Status and data of the reply that a command leaves. -/
def replyOf (o : Host.Outcome State Fault Refusal) : Option (Nat × List Byte) :=
  match o with
  | .next t => t.hif.lastReply.map fun r => (r.status, r.data)
  | _ => none

/-- A byte that a command leaves in memory. -/
def byteOf (a : Nat) (o : Host.Outcome State Fault Refusal) : Option Byte :=
  match o with
  | .next t => some (t.mem8 a)
  | _ => none

/-- The check values of "123456789" that the catalogues of CRCs give for the two codes of R7. -/
theorem test_crc_check_values :
    crc16 [0x31, 0x32, 0x33, 0x34, 0x35, 0x36, 0x37, 0x38, 0x39] = 0x29B1 ∧
      crc32 [0x31, 0x32, 0x33, 0x34, 0x35, 0x36, 0x37, 0x38, 0x39] = 0xCBF43926 := by decide +kernel

/-- Two values of the S-box table of FIPS 197. -/
theorem test_sbox : subByte 0x53 = 0xED ∧ invSubByte 0xED = 0x53 := by decide +kernel

/-- Multiplication by x and by x + 1 in the field of FIPS 197 (section 4.2: 57 by 02 is AE; 57 by 03 is F9). -/
theorem test_field : xtime 0x57 = 0xAE ∧ gmul 3 0x57 = 0xF9 := by decide +kernel

/-- The first word made by the key expansion of FIPS 197, appendix A.1. -/
theorem test_key_expansion :
    (roundKeys [0x2B, 0x7E, 0x15, 0x16, 0x28, 0xAE, 0xD2, 0xA6, 0xAB, 0xF7, 0x15, 0x88, 0x09, 0xCF, 0x4F, 0x3C])[1]?.map (·.take 4)
      = some [0xA0, 0xFA, 0xFE, 0x17] := by decide +kernel

/-- R484. -/
theorem test_nop : replyOf (exec (.nop .m0 []) up) = some (OK, []) := by decide +kernel

/-- R466, R484. -/
theorem test_nop_length : replyOf (exec (.nop .m0 [0]) up) = some (BAD_LENGTH, []) := by decide +kernel

/-- R484. -/
theorem test_echo : replyOf (exec (.echo .m1 [1, 2, 3]) up) = some (OK, [1, 2, 3]) := by decide +kernel

/-- R60: a free slot. -/
theorem test_cal_remove_free : replyOf (exec (.timeCalRemove .m0 [7]) up) = some (NOT_FOUND, []) := by decide +kernel

/-- R45, R60: slot 56 is the hardware's, slot 64 is none. -/
theorem test_cal_remove_hardware :
    replyOf (exec (.timeCalRemove .m0 [56]) up) = some (ACCESS_DENIED, []) ∧
      replyOf (exec (.timeCalRemove .m0 [64]) up) = some (BAD_PARAM, []) := by decide +kernel

/-- R321: nothing to end in CLOSED. -/
theorem test_rel_end_closed : replyOf (exec (.relEnd .m0 []) up) = some (BAD_STATE, []) := by decide +kernel

/-- R540: the groups still held. -/
theorem test_pad_release :
    replyOf (exec (.pwrPadRelease .m0 [2, 0, 0, 0]) (pw fun p => { p with padsHeld := 7 })) = some (OK, [5, 0, 0, 0]) := by
  decide +kernel

/-- R5, R21: a half-word write to system SRAM stores its low byte first. -/
theorem test_half_word_write :
    byteOf 0x10000002 (exec (.registerWrite .m0 0x10000002 0x1234 .half) up) = some 0x34 ∧
      byteOf 0x10000003 (exec (.registerWrite .m0 0x10000002 0x1234 .half) up) = some 0x12 := by decide +kernel

/-- R12: OTP takes no write outside factory test mode. -/
theorem test_otp_write : byteOf 0x28000000 (exec (.registerWrite .m0 0x28000000 0xFF .byte) up) = some (up.mem8 0x28000000) := by
  decide +kernel

/-- R401: an erased page. -/
theorem test_erased_page : (pageParse (List.replicate 64 0xFF)).map (·.2) = some 0 := by decide +kernel


/-! ### Witnesses: hypotheses that can be met, clause by clause -/

theorem wit_EmptyQueueLetsOneClockEdgePass :
    (∃ (s : State), s.pending = [] ∧ s.time.running = true) ∧
    (∃ (s : State), s.pending = [] ∧ s.time.running = false) ∧
    (∃ (s t : State), s.pending = [] ∧ step s = .next t) :=
  ⟨⟨up, by decide +kernel⟩,
    ⟨State.reset, by decide +kernel⟩,
    ⟨State.reset, _, by decide +kernel, rfl⟩⟩

theorem wit_EveryStepKeepsTheCanonicalForm :
    ∃ (s t : State), s.canonical = true ∧ step s = .next t :=
  ⟨{ up with pending := [.registerWrite .m0 0x10000000 0x1200 .word] }, _, by decide +kernel, rfl⟩

theorem wit_HostCommandsAreCheckedFirst :
    (∃ (s : State) (i : Instr) (op : Nat) (m : Master) (p : List Byte), hostCall i = some (op, m, p) ∧ s.hostReady = false) ∧
    (∃ (s t : State) (i : Instr) (op : Nat) (m : Master) (p : List Byte) (c : Option ReqCtx), hostCall i = some (op, m, p) ∧
      s.hostReady = true ∧ s.takeRequest m op p = (c, t) ∧ s.mayCommand m op = false) ∧
    (∃ (s t : State) (i : Instr) (op : Nat) (m : Master) (p : List Byte) (c : Option ReqCtx), hostCall i = some (op, m, p) ∧
      s.hostReady = true ∧ s.takeRequest m op p = (c, t) ∧ s.mayCommand m op = true ∧ s.fenced 15 = true) :=
  ⟨⟨State.reset, .nop .m0 [], _, _, _, rfl, by decide +kernel⟩,
    ⟨up, _, .softReset .m2 [], _, _, _, _, rfl, by decide +kernel, rfl, by decide +kernel⟩,
    ⟨up.setUnit 15 .fenced, _, .nop .m0 [], _, _, _, _, rfl, by decide +kernel, rfl, by decide +kernel⟩⟩

theorem wit_BusAccessesThatDoNotReach :
    (∃ (s : State) (i : Instr) (m : Master) (a : Nat), busWrite i = some (m, a) ∧ s.awake = false) ∧
    (∃ (s : State) (i : Instr) (m : Master) (a : Nat), busWrite i = some (m, a) ∧ s.silent m = true) ∧
    (∃ (s : State) (m : Master) (a : BitVec 32) (v : Word) (z : AccSize), s.awake = true ∧ s.silent m = false ∧ s.busOutcome m
      a.toNat 1 = .decode) ∧
    (∃ (s : State) (m : Master) (a : BitVec 32) (v : Word) (z : AccSize), s.awake = true ∧ s.silent m = false ∧ (blockOf
      a.toNat).isSome = true ∧ (z ≠ .word ∨ a.toNat % 4 ≠ 0)) ∧
    (∃ (s : State) (i : Instr) (m : Master) (a : Nat), busWrite i = some (m, a) ∧ s.awake = true ∧ s.silent m = false ∧
      s.busOutcome m a 1 = .denied) ∧
    (∃ (s : State) (i : Instr) (m : Master) (a : Nat), busWrite i = some (m, a) ∧ s.awake = true ∧ s.silent m = false ∧
      s.busOutcome m a 1 = .fenced) ∧
    (∃ (s : State) (m : Master) (a : BitVec 32), s.awake = true ∧ s.silent m = false ∧ s.busOutcome m (a.toNat - a.toNat % 4)
      0 = .decode) ∧
    (∃ (s : State) (m : Master) (a : BitVec 32), s.awake = true ∧ s.silent m = false ∧ s.busOutcome m (a.toNat - a.toNat % 4)
      0 = .denied) ∧
    (∃ (s : State) (m : Master) (a : BitVec 32), s.awake = true ∧ s.silent m = false ∧ s.busOutcome m (a.toNat - a.toNat % 4)
      0 = .fenced) :=
  ⟨⟨State.reset, .kick .m0, _, _, sg2 (by decide +kernel), by decide +kernel⟩,
    ⟨up, .kick .m6, _, _, sg2 (by decide +kernel), by decide +kernel⟩,
    ⟨up, .m0, 0xFFFFFFFC, 0, .word, by decide +kernel⟩,
    ⟨up, .m0, 0x40010002, 0, .half, by decide +kernel⟩,
    ⟨up, .kick .m4, _, _, sg2 (by decide +kernel), by decide +kernel⟩,
    ⟨up.setUnit 4 .fenced, .kick .m0, _, _, sg2 (by decide +kernel), by decide +kernel⟩,
    ⟨up, .m0, 0xFFFFFFFC, by decide +kernel⟩,
    ⟨up, .m4, 0x40040000, by decide +kernel⟩,
    ⟨up.setUnit 4 .fenced, .m0, 0x40040000, by decide +kernel⟩⟩

theorem wit_RegisterWriteActsFieldByField :
    (∃ (s : State) (m : Master) (a : BitVec 32) (v : Word) (b o : Nat), s.awake = true ∧ s.silent m = false ∧ s.busOutcome m
      a.toNat 1 = .ok ∧ a.toNat % 4 = 0 ∧ blockOf a.toNat = some (b, o) ∧ [0, 2, 12, 14, 16, 18, 20].contains b = true ∧ o ≠
      0) ∧
    (∃ (s : State) (b o v : Nat) (f : FieldRow), [0, 2, 12, 14, 16, 18, 20].contains b = true ∧ f ∈ regFields b o ∧ f.acc =
      .rwl ∧ s.lockSet b o = true) ∧
    (∃ (s : State) (b o v : Nat) (f : FieldRow), [0, 2, 12, 14, 16, 18, 20].contains b = true ∧ f ∈ regFields b o ∧ (f.acc =
      .ro ∨ f.acc = .rc ∨ f.acc = .wo)) ∧
    (∃ (s : State) (b o v : Nat) (f : FieldRow), [0, 2, 12, 14, 16, 18, 20].contains b = true ∧ f ∈ regFields b o ∧ (f.acc =
      .rw ∨ f.acc = .rwl ∧ s.lockSet b o = false)) ∧
    (∃ (s : State) (b o v : Nat) (f : FieldRow), [0, 2, 12, 14, 16, 18, 20].contains b = true ∧ f ∈ regFields b o ∧ f.acc =
      .w1c) :=
  ⟨⟨up, .m0, 0x40020010, 0, 2, 16, by decide +kernel⟩,
    (by obtain ⟨f, hf, ha⟩ := (by decide +kernel : ∃ f ∈ regFields 14 0, f.acc = .rwl); exact ⟨up.put VLT_CTRL_LOCK 1, 14, 0,
      1, f, by decide +kernel, hf, ha, by decide +kernel⟩),
    (by obtain ⟨f, hf, ha⟩ := (by decide +kernel : ∃ f ∈ regFields 2 4, f.acc = .rc); exact ⟨up, 2, 4, 1, f, by
      decide +kernel, hf, .inr (.inl ha)⟩),
    (by obtain ⟨f, hf, ha⟩ := (by decide +kernel : ∃ f ∈ regFields 14 0, f.acc = .rwl); exact ⟨up, 14, 0, 1, f, by
      decide +kernel, hf, .inr ⟨ha, by decide +kernel⟩⟩),
    (by obtain ⟨f, hf, ha⟩ := (by decide +kernel : ∃ f ∈ regFields 2 4, f.acc = .w1c); exact ⟨up, 2, 4, 1, f, by
      decide +kernel, hf, ha⟩)⟩

theorem wit_QueriesChangeNothing :
    ∃ (s t : State) (i : Instr) (op : Nat) (m : Master) (p : List Byte), isQuery i = true ∧ hostCall i = some (op, m, p) ∧
      s.atRest = true ∧ s.takeRequest m op p = (none, s) ∧ exec i s = .next t :=
  ⟨rest, _, .nop .m0 [], _, _, _, by decide +kernel, rfl, by decide +kernel, by decide +kernel, rfl⟩

theorem wit_StoringCommandsFrame :
    (∃ (s t : State) (m : Master) (a : BitVec 32) (v : Word) (z : AccSize) (k o : Nat), s.atRest = true ∧ s.awake = true ∧
      s.silent m = false ∧ a.toNat % accBytes z = 0 ∧ targetOf a.toNat = some (k, o) ∧ 1 ≤ k ∧ k ≤ 4 ∧ s.busOutcome m a.toNat
      1 = .ok ∧ exec (.registerWrite m a v z) s = .next t) ∧
    (∃ (s t : State) (m : Master) (p : List Byte) (b : Bool), s.atRest = true ∧ s.comes m 0xD4 p none s ∧ within 9 4104
      p.length = true ∧ u8 p 0 < 2 ∧ u8 p 1 = 1 ∧ u16 p 2 = 0 ∧ u32 p 4 < 0x100000 ∧ u32 p 4 % 256 = 0 ∧ u32 p 4 + (p.length -
      8) ≤ 0x100000 ∧ s.slotBarred (u8 p 0) = false ∧ s.upd.erase = none ∧ exec (.fwWriteSlot m p b) s = .next t) ∧
    (∃ (s t : State) (o : FlashOp) (g : FlashProg) (n : Nat), s.awake = true ∧ s.hif.flash = [o] ∧ o.kind = 1 ∧ o.owner = 2 ∧
      o.suspended = false ∧ s.upd.progs = [g] ∧ g.op = 0xD4 ∧ g.ctx = none ∧ (((s.advance n).programFlash o.addr
      o.data).flashEnd o [] OK).atRest = true ∧ exec (.flashOpDone n) s = .next t) ∧
    (∃ (s t : State) (m : Master) (p : List Byte), s.atRest = true ∧ s.takeRequest m 0xD5 p = (none, s) ∧ exec (.fwVerify m p)
      s = .next t) ∧
    (∃ (s t : State) (m : Master) (p : List Byte), s.atRest = true ∧ s.takeRequest m 0x15 p = (none, s) ∧ exec (.pwrSetRetain
      m p) s = .next t) ∧
    (∃ (s t : State) (m : Master) (p : List Byte), s.atRest = true ∧ s.takeRequest m 0xB5 p = (none, s) ∧ exec (.qWatermark m
      p) s = .next t) ∧
    (∃ (s t : State) (m : Master) (p : List Byte), s.atRest = true ∧ s.takeRequest m 0x13 p = (none, s) ∧ exec (.pwrPadRelease
      m p) s = .next t) :=
  ⟨⟨rest, _, .m0, 0x100FFFFC, 0, .word, 1, 0xFFFFC, and3 (by decide +kernel) (and3 (by decide +kernel) ⟨by decide +kernel, by
      decide +kernel, rfl⟩)⟩,
    ⟨rest, _, .m0, [1, 1, 0, 0, 0, 0xFF, 0xF, 0] ++ zs 1, false, by decide +kernel, ⟨by decide +kernel, rfl⟩, and3 (by
      decide +kernel) (and3 (by decide +kernel) (and3 (by decide +kernel) rfl))⟩,
    ⟨{ rest with hif := { rest.hif with flash := [{ kind := 1, addr := 0x100, data := [1], owner := 2 }] }, upd := { rest.upd with progs := [{ op := 0xD4, ok := true, master := .m0, ctx := none }] } },
      _, _, _, rest.time.now, by decide +kernel, rfl, and3 (by decide +kernel) ⟨rfl, and3 (by decide +kernel) rfl⟩⟩,
    ⟨rest, _, .m0, [], by decide +kernel, by decide +kernel, rfl⟩,
    ⟨rest, _, .m0, [], by decide +kernel, by decide +kernel, rfl⟩,
    ⟨rest, _, .m0, [], by decide +kernel, by decide +kernel, rfl⟩,
    ⟨rest, _, .m0, [], by decide +kernel, by decide +kernel, rfl⟩⟩

theorem wit_NopAndEcho :
    (∃ (s t : State) (m : Master) (c : Option ReqCtx), s.comes m 0x00 [] c t) ∧
    (∃ (s t : State) (m : Master) (p : List Byte) (c : Option ReqCtx), s.comes m 0x00 p c t ∧ p.length ≠ 0) ∧
    (∃ (s t : State) (m : Master) (p : List Byte) (c : Option ReqCtx), s.comes m 0x07 p c t ∧ p.length ≤ 4104) ∧
    (∃ (s t : State) (m : Master) (p : List Byte) (c : Option ReqCtx), s.comes m 0x07 p c t ∧ 4104 < p.length) :=
  ⟨⟨up, _, .m0, _, ⟨by decide +kernel, rfl⟩⟩,
    ⟨up, _, .m0, [0], _, ⟨by decide +kernel, rfl⟩, by decide +kernel⟩,
    ⟨up, _, .m0, zs 4104, _, ⟨by decide +kernel, rfl⟩, by decide +kernel⟩,
    ⟨up, _, .m0, zs 4105, _, ⟨by decide +kernel, rfl⟩, by decide +kernel⟩⟩

theorem wit_TimeCalRemoveFreesTheSlot :
    (∃ (s t : State) (m : Master) (p : List Byte) (c : Option ReqCtx), s.comes m 0x23 p c t ∧ p.length ≠ 1) ∧
    (∃ (s t : State) (m : Master) (p : List Byte) (c : Option ReqCtx), s.comes m 0x23 p c t ∧ p.length = 1 ∧ 63 < u8 p 0) ∧
    (∃ (s t : State) (m : Master) (p : List Byte) (c : Option ReqCtx), s.comes m 0x23 p c t ∧ p.length = 1 ∧ 56 ≤ u8 p 0 ∧ u8
      p 0 ≤ 63) ∧
    (∃ (s t : State) (m : Master) (p : List Byte) (c : Option ReqCtx), s.comes m 0x23 p c t ∧ p.length = 1 ∧ u8 p 0 < 56 ∧
      t.calSlot (u8 p 0) = none) ∧
    (∃ (s t : State) (m : Master) (p : List Byte) (k : CalSlot) (c : Option ReqCtx), s.comes m 0x23 p c t ∧ p.length = 1 ∧ u8
      p 0 < 56 ∧ t.calSlot (u8 p 0) = some k ∧ k.ownerFrees = true) ∧
    (∃ (s t u : State) (m : Master) (p : List Byte) (k : CalSlot) (gave : Bool) (c : Option ReqCtx), s.comes m 0x23 p c t ∧
      p.length = 1 ∧ u8 p 0 < 56 ∧ t.calSlot (u8 p 0) = some k ∧ k.ownerFrees = false ∧ (!k.fired && decide (k.time ≤
      t.refNow)) = false ∧ gave = k.gaveAt.any (fun d => k.fired || d / 8 == t.devNow / 8) ∧ u = (if k.prepDone && !k.fired ||
      k.stopAt.isSome then t.calCancel (u8 p 0) k else t)) ∧
    (∃ (s t u v : State) (m : Master) (p : List Byte) (k k2 : CalSlot) (gave : Bool) (c : Option ReqCtx), s.comes m 0x23 p c t
      ∧ p.length = 1 ∧ u8 p 0 < 56 ∧ t.calSlot (u8 p 0) = some k ∧ k.ownerFrees = false ∧ k.fired = false ∧ k.time ≤ t.refNow
      ∧ u = t.calFire (u8 p 0) false false ∧ u.calSlot (u8 p 0) = some k2 ∧ gave = k2.gaveAt.any (fun d => k2.fired || d / 8
      == u.devNow / 8) ∧ v = (if k2.prepDone && !k2.fired || k2.stopAt.isSome then u.calCancel (u8 p 0) k else u)) :=
  ⟨⟨up, _, .m0, [], _, ⟨by decide +kernel, rfl⟩, by decide +kernel⟩,
    ⟨up, _, .m0, [64], _, ⟨by decide +kernel, rfl⟩, by decide +kernel⟩,
    ⟨up, _, .m0, [63], _, ⟨by decide +kernel, rfl⟩, by decide +kernel⟩,
    ⟨up, _, .m0, [55], _, ⟨by decide +kernel, rfl⟩, by decide +kernel⟩,
    ⟨{ up with cal := up.cal.set 55 (some { slotC with ownerFrees := true }) }, _, .m0, [55], _, _, ⟨by decide +kernel, rfl⟩,
      by decide +kernel, by decide +kernel, sg (by decide +kernel), by decide +kernel⟩,
    ⟨{ up with cal := up.cal.set 0 (some slotC) }, _, _, .m0, [0], _, _, _, ⟨by decide +kernel, rfl⟩, by decide +kernel, by
      decide +kernel, sg (by decide +kernel), by decide +kernel, by decide +kernel, rfl, rfl⟩,
    ⟨{ up with cal := up.cal.set 0 (some { slotC with time := 0 }) }, _, _, _, .m0, [0], _, _, _, _, ⟨by decide +kernel, rfl⟩,
      by decide +kernel, by decide +kernel, sg (by decide +kernel), and3 (by decide +kernel) ⟨rfl, sg (by decide +kernel),
      rfl, rfl⟩⟩⟩

theorem wit_CredRemoveWritesTheEntryEmpty :
    (∃ (s t : State) (m : Master) (p : List Byte) (c : Option ReqCtx), s.comes m 0x61 p c t ∧ p.length ≠ 12) ∧
    (∃ (s t : State) (m : Master) (p : List Byte) (c : Option ReqCtx), s.comes m 0x61 p c t ∧ p.length = 12 ∧ t.credOff =
      false ∧ t.dirFindNew p = none) ∧
    (∃ (s t : State) (m : Master) (p : List Byte) (i : Nat) (w : RowWrite) (c : Option ReqCtx), s.comes m 0x61 p c t ∧
      p.length = 12 ∧ t.credOff = false ∧ t.dirFindNew p = some i ∧ w =
      { idx := i, row := List.replicate 64 0, kind := 1, master := m, ctx := c }) ∧
    (∃ (s u v : State) (at_ : Nat) (w : RowWrite) (l : List RowWrite) (old : List Byte), u = s.advance at_ ∧ u.cred.rows = w
      :: l ∧ u.awake = true ∧ w.kind = 1 ∧ w.row = List.replicate 64 0 ∧ old = u.dirRow w.idx ∧ v = ((u.modCred fun c =>
      { c with rows := l }).writeMem (dirAddr w.idx) (List.replicate 64 0)).noteGone (old.take 12)) :=
  ⟨⟨up, _, .m0, zs 13, _, ⟨by decide +kernel, rfl⟩, by decide +kernel⟩,
    ⟨up, _, .m0, [1] ++ zs 11, _, ⟨by decide +kernel, rfl⟩, by decide +kernel⟩,
    ⟨up.writeMem (dirAddr 383) ([1] ++ zs 11 ++ [0, 0x5A]), _, .m0, [1] ++ zs 11, _, _, _, ⟨by decide +kernel, rfl⟩, by
      decide +kernel, by decide +kernel, sg (by decide +kernel), rfl⟩,
    ⟨up.modCred (fun c => { c with rows := [{ idx := 0, row := List.replicate 64 0, kind := 1 }] }), _, _, 0, _, _, _, rfl,
      rfl, and3 (by decide +kernel) ⟨rfl, rfl⟩⟩⟩

theorem wit_RelEndEndsTheSession :
    (∃ (s t : State) (m : Master) (p : List Byte) (c : Option ReqCtx), s.comes m 0x73 p c t ∧ p.length ≠ 0) ∧
    (∃ (s t : State) (m : Master) (c : Option ReqCtx), s.comes m 0x73 [] c t ∧ (t.rel.sess = 0 ∨ t.rel.sess = 5)) ∧
    (∃ (s t u : State) (m : Master) (c : Option ReqCtx), s.comes m 0x73 [] c t ∧ t.rel.sess = 2 ∧ u = (t.relEndRecord (t.endOf
      (t.endNow 2)) false).relClose) ∧
    (∃ (s t u : State) (m : Master) (c : Option ReqCtx), s.comes m 0x73 [] c t ∧ t.rel.sess = 1 ∧ t.rel.held = none ∧ u =
      t.modRel (fun r => { r with held := some (t.endNow 2) })) ∧
    (∃ (s t u : State) (m : Master) (h : RelEnd) (c : Option ReqCtx), s.comes m 0x73 [] c t ∧ t.rel.sess = 1 ∧ t.rel.held =
      some h ∧ u = (if sameCycle h.at_ (t.endNow 2).at_ then t.modRel fun r => { r with held := some (h.first (t.endNow 2)) }
      else t)) ∧
    (∃ (s t : State) (m : Master) (c : Option ReqCtx), s.comes m 0x73 [] c t ∧ (t.rel.sess = 3 ∨ t.rel.sess = 4)) ∧
    (∃ (t u : State) (e : RelEnd), t.rel.held = some e ∧ e.cause = 2 ∧ u = (t.modRel fun r =>
      { r with sess := 2, held := none }).relOpened false) :=
  ⟨⟨up, _, .m0, [0], _, ⟨by decide +kernel, rfl⟩, by decide +kernel⟩,
    ⟨up, _, .m0, _, ⟨by decide +kernel, rfl⟩, by decide +kernel⟩,
    ⟨up.modRel (fun r => { r with sess := 2 }), _, _, .m0, _, ⟨by decide +kernel, rfl⟩, by decide +kernel, rfl⟩,
    ⟨up.modRel (fun r => { r with sess := 1 }), _, _, .m0, _, ⟨by decide +kernel, rfl⟩, by decide +kernel, by decide +kernel,
      rfl⟩,
    ⟨up.modRel (fun r => { r with sess := 1, held := some { cause := 2, door := 0xFF, ts := 0, quality := 0, at_ := 0 } }), _,
      _, .m0, _, _, ⟨by decide +kernel, rfl⟩, by decide +kernel, sg (by decide +kernel), rfl⟩,
    ⟨up.modRel (fun r => { r with sess := 3 }), _, .m0, _, ⟨by decide +kernel, rfl⟩, by decide +kernel⟩,
    ⟨up.modRel (fun r => { r with held := some { cause := 2, door := 0xFF, ts := 0, quality := 0, at_ := 0 } }), _, _, rfl, by
      decide +kernel, rfl⟩⟩

theorem wit_PadReleaseReleasesTheNamedGroups :
    (∃ (s t : State) (m : Master) (p : List Byte) (c : Option ReqCtx), s.comes m 0x13 p c t ∧ p.length = 4 ∧ 1024 ≤ u32 p 0) ∧
    (∃ (s t : State) (m : Master) (p : List Byte) (h g : Nat) (c : Option ReqCtx), s.comes m 0x13 p c t ∧ p.length = 4 ∧ u32 p
      0 < 1024 ∧ h = t.pwr.padsHeld - (t.pwr.padsHeld &&& u32 p 0) + (t.pwr.padsHeld &&& u32 p 0 &&& t.padsBound) ∧ g =
      (t.pwr.safeHeld ||| (if t.safeState then t.pwr.padsHeld &&& u32 p 0 &&& safePads else 0)) &&& h) ∧
    (∃ (h mask bound g : Nat), h < 1024 ∧ mask < 1024 ∧ g < 10) :=
  ⟨⟨up, _, .m0, [0, 4, 0, 0], _, ⟨by decide +kernel, rfl⟩, by decide +kernel⟩,
    ⟨up, _, .m0, [0xFF, 3, 0, 0], _, _, _, ⟨by decide +kernel, rfl⟩, by decide +kernel, by decide +kernel, rfl, rfl⟩,
    ⟨1023, 1023, 0, 9, by decide +kernel⟩⟩

theorem wit_TargetNumbers :
    (∃ a : Nat, a ≤ 0xFFFF) ∧
    (∃ o : Nat, o ≤ 0xFFFFF) ∧
    (∃ o : Nat, o ≤ 0x7FFFF) ∧
    (∃ o : Nat, o ≤ 0x1FFFF) ∧
    (∃ o : Nat, o ≤ 0x7FFFF) ∧
    (∃ o : Nat, o ≤ 0x1FFF) ∧
    (∃ o : Nat, o ≤ 0x3FFFFFF) ∧
    (∃ b o : Nat, b ≤ 22 ∧ o ≤ 0xFFFF) :=
  ⟨⟨0xFFFF, by decide +kernel⟩,
    ⟨0xFFFFF, by decide +kernel⟩,
    ⟨0x7FFFF, by decide +kernel⟩,
    ⟨0x1FFFF, by decide +kernel⟩,
    ⟨0x7FFFF, by decide +kernel⟩,
    ⟨0x1FFF, by decide +kernel⟩,
    ⟨0x3FFFFFF, by decide +kernel⟩,
    ⟨22, 0xFFFF, by decide +kernel⟩⟩

theorem wit_VaultPageLayout :
    (∃ (d : List Byte) (q : Nat), d.length = 56) ∧
    (∃ (d : List Byte) (q : Nat), d.length = 56 ∧ q < 2 ^ 32 ∧ pageErased (pageImage d q) = false) ∧
    (∃ (b : List Byte), b.length = 64 ∧ b ≠ List.replicate 64 0xFF ∧ crc32 (b.take 60) ≠ u32 b 60) ∧
    (∃ (b : List Byte), b.length = 64 ∧ b ≠ List.replicate 64 0xFF ∧ crc32 (b.take 60) = u32 b 60) :=
  ⟨⟨zs 56, 0xFFFFFFFF, by decide +kernel⟩,
    ⟨zs 56, 0xFFFFFFFF, by decide +kernel⟩,
    ⟨zs 64, by decide +kernel⟩,
    ⟨pageImage (zs 56) 1, by decide +kernel⟩⟩

theorem wit_OtpTakesNoWriteOutsideFactoryTest :
    (∃ (s : State) (m : Master) (a : BitVec 32) (v : Word) (z : AccSize) (o : Nat), s.sys.test = false ∧ targetOf a.toNat =
      some (5, o) ∧ s.busOutcome m a.toNat 1 = .ok) ∧
    (∃ (s : State) (m : Master) (p : List Byte), s.takesReg m 5 = true ∧ 8 ≤ p.length ∧ p.length = 8 + 4 * u16 p 4 ∧ u32 p 0 %
      4 = 0 ∧ within 1 256 (u16 p 4) = true ∧ zeroAt p 6 2 = true ∧ s.sys.test = false ∧ ((∀ a ∈ wordAddrs (u32 p 0) (u16 p
      4), s.busOutcome m a 0 ≠ .decode)) ∧ ((∃ a ∈ wordAddrs (u32 p 0) (u16 p 4), ∃ o : Nat, targetOf a = some (5, o)))) ∧
    (∃ (s : State) (m : Master) (p : List Byte) (o : Nat), s.takesReg m 6 = true ∧ p.length = 12 ∧ u32 p 0 % 4 = 0 ∧
      s.sys.test = false ∧ targetOf (u32 p 0) = some (5, o) ∧ s.busOutcome m (u32 p 0) 0 ≠ .decode) :=
  ⟨⟨up.put (ACC_T_DEFAULT 5) 3, .m0, 0x28001FFC, 0, .word, 0x1FFC, by decide +kernel⟩,
    ⟨up, .m0, [0xFC, 0x1F, 0, 0x28, 1, 0, 0, 0] ++ zs 4, and3 (by decide +kernel) (and3 (by decide +kernel) ⟨by
      decide +kernel, by decide +kernel, ⟨0x28001FFC, by decide +kernel, 0x1FFC, by decide +kernel⟩⟩)⟩,
    ⟨up, .m0, [0xFC, 0x1F, 0, 0x28] ++ zs 8, 0x1FFC, by decide +kernel⟩⟩

theorem wit_ResetsComplete :
    (∃ (s : State) (straps : Fin 4) (t : Nat), (((s.advance t).resetAll 1).sampleStraps straps.val).pwr.vid ≠ 0) ∧
    (∃ (s : State) (straps : Fin 4) (t : Nat), (((s.advance t).resetAll 1).sampleStraps straps.val).pwr.vid = 0) ∧
    (∃ (s t : State) (m : Master) (p : List Byte) (c : ReqCtx), s.comes m 0x03 p (some c) t ∧ p.length = 4 ∧ u32 p 0 =
      0xC0DE5AFE) ∧
    (∃ (s t : State) (m : Master) (p : List Byte), s.comes m 0x03 p none t ∧ p.length = 4 ∧ u32 p 0 = 0xC0DE5AFE) ∧
    (∃ (s : State) (due port : Nat), s.hif.softReset = some (due, port)) ∧
    (∃ (s : State) (t : Nat) (w : WakeSeq), s.awake = true ∧ s.pwr.fwRun = false ∧ s.recovery = false ∧ s.pwr.wake = some w ∧
      w.source = 0 ∧ s.sys.straps ≠ 3) ∧
    (∃ (s : State) (t : Nat), s.awake = true ∧ s.pwr.fwRun = false ∧ s.recovery = false ∧ s.pwr.wake = none) ∧
    (∃ (s : State) (t : Nat), s.awake = true ∧ s.pwr.fwServing = false ∧ s.recovery = false ∧ s.pwr.fwRun = true ∧
      s.upd.switch = none ∧ s.unitOn 11 = false) :=
  ⟨⟨up, 0, 0, by decide +kernel⟩,
    ⟨State.reset, 0, 0, by decide +kernel⟩,
    ⟨up.setQueue 1 [{ bytes := [1, 0, 0, 1, 3, 7, 4, 0, 0xFE, 0x5A, 0xDE, 0xC0], src := 0x80, cells := 1 }], _, .m1, [0xFE,
      0x5A, 0xDE, 0xC0], _, ⟨by decide +kernel, rfl⟩, by decide +kernel⟩,
    ⟨up, _, .m0, [0xFE, 0x5A, 0xDE, 0xC0], ⟨by decide +kernel, rfl⟩, by decide +kernel⟩,
    ⟨{ up with hif := { up.hif with softReset := some (5, 1) } }, _, _, sg2 (by decide +kernel)⟩,
    ⟨pw fun p => { p with fwRun := false, wake := some wakeB }, 0, _, and3 (by decide +kernel) ⟨sg (by decide +kernel), by
      decide +kernel⟩⟩,
    ⟨pw fun p => { p with fwRun := false }, 0, by decide +kernel⟩,
    ⟨(pw fun p => { p with fwServing := false }).setUnit 11 .off, 0, by decide +kernel⟩⟩

theorem wit_SupplyAndFaultRowsComplete :
    (∃ (s u : State) (w : WakeSeq), s.pwr.wake = some w ∧ w.powerOn = true ∧ w.stage = .vcoreWait ∧ s.pwr.vid ≠ 0 ∧ u =
      s.advance (2 * Config.msTicks + w.stageAt)) ∧
    (∃ (s u : State) (w : WakeSeq), s.pwr.wake = some w ∧ w.powerOn = true ∧ w.stage = .vcoreWait ∧ s.pwr.vid = 0 ∧ u =
      (s.advance (100 * Config.msTicks + w.stageAt)).bump PWR_WAKE_FAIL_TOTAL) ∧
    (∃ (s u v : State) (t : Nat), s.awake = true ∧ s.pwr.fwRun = true ∧ u = (s.advance t).loseStaged ∧ v =
      { u with regs := u.regs.filter fun r => sysStatus r.1 || !(0x40000000 ≤ r.1 && r.1 < 0x40010000), pwr := { u.pwr with fwRun := false, fwServing := false, resetCause := 3 }, auth := { u.auth with att := none, release := none }, hfr := { u.hfr with flow := none }, upd := { u.upd with apply := none, erase := none, eraseHeld := false, switch := none, confirm := none, challenge := none } }) ∧
    (∃ (s u : State) (t : Nat), s.pwr.dvfs = none ∧ s.pwr.lockout = false ∧ ¬ 3 ≤ s.pwr.st.num ∧ s.pwr.wake = none ∧ u =
      (s.advance t).coreReset true) ∧
    (∃ (s : State) (k : Nat) (t : Nat), s.upd.repair = some (k, t)) ∧
    (∃ (s : State) (t : Nat), s.awake = true ∧ s.urx.pllLost = false) ∧
    (∃ (s : State) (t : Nat), s.awake = true ∧ s.urx.pllLost = true) ∧
    (∃ (s : State) (fid : BitVec 16) (inst : Byte) (data : List Byte) (t : Nat) (r : SourceRow), sourceRow fid.toNat = some r) ∧
    (∃ (s : State) (f : FenceRec) (e : Nat), s.flt.fences = [f] ∧ f.until_ = some e ∧ s.flt.safeShadow = none) ∧
    (∃ (s : State) (r : BbxRec) (rest : List BbxRec) (verified : Bool), s.bbx.ready = true ∧ s.bbx.erasing = false ∧ s.awake =
      true ∧ s.bbx.srcs = [] ∧ s.bbx.buf = r :: rest) ∧
    (∃ (s : State) (t : Nat), s.bbx.ready = true ∧ s.bbx.erasing = true ∧ s.awake = true) :=
  ⟨⟨pw fun p => { p with wake := some { wakeB with stage := .vcoreWait, powerOn := true } }, _, _, sg (by decide +kernel),
      and3 (by decide +kernel) rfl⟩,
    ⟨pw fun p => { p with vid := 0, wake := some { wakeB with stage := .vcoreWait, powerOn := true } }, _, _, sg (by
      decide +kernel), and3 (by decide +kernel) rfl⟩,
    ⟨up, _, _, 0, by decide +kernel, by decide +kernel, rfl, rfl⟩,
    ⟨up, _, 0, and3 (by decide +kernel) ⟨by decide +kernel, rfl⟩⟩,
    ⟨up.modUpd fun u => { u with repair := some (1, 5) }, _, _, sg2 (by decide +kernel)⟩,
    ⟨up, 0, by decide +kernel⟩,
    ⟨{ up with urx := { up.urx with pllLost := true } }, 0, by decide +kernel⟩,
    ⟨up, 0x0101, 0, [], 0, _, sg (by decide +kernel)⟩,
    ⟨{ up with flt := { up.flt with fences := [{ block := 4, fid := 0, until_ := some 5 }] } }, _, _, rfl, sg (by
      decide +kernel), by decide +kernel⟩,
    ⟨bx fun b => { b with buf := [{ bytes := zs 32, key := 0, protected_ := false }] }, _, _, false, and3 (by decide +kernel)
      ⟨by decide +kernel, rfl⟩⟩,
    ⟨bx fun b => { b with erasing := true }, 0, by decide +kernel⟩⟩

theorem wit_EntryRowsComplete_a :
    (∃ (s u : State) (t : Nat), s.pwr.st = .p0 ∧ s.awake = true ∧ s.pwr.wake = none ∧ s.pwr.entry = none ∧ u = s.advance t) ∧
    (∃ (s : State) (d k : Nat), s.pwr.st = .p1 ∧ s.pwr.entry = none ∧ s.nextIdle [2, 3, 4] = some d ∧ (s.advance d).deepest
      [4, 3, 2] = some k) ∧
    (∃ (s : State) (t k : Nat), s.pwr.st = .p1 ∧ s.pwr.entry = none ∧ s.pwr.triedAt = some t ∧ (s.advance (Config.msTicks +
      t)).deepest [4, 3, 2] = some k) ∧
    (∃ (s u : State) (e : Entry), s.pwr.entry = some e ∧ e.step = 2 ∧ e.cycle = 0 ∧ ¬ 3 ≤ e.target ∧ u = s.advanceLp (e.winLp
      + 1)) ∧
    (∃ (s u : State) (e : Entry), s.pwr.entry = some e ∧ e.step = 2 ∧ e.cycle = 0 ∧ 3 ≤ e.target ∧ u = s.advanceLp (e.winLp +
      1)) ∧
    (∃ (s u : State) (e : Entry), s.pwr.entry = some e ∧ e.step = 2 ∧ e.cycle = 1 ∧ u = s.advanceLp (e.winLp + 2)) ∧
    (∃ (s u : State) (e : Entry), s.pwr.entry = some e ∧ e.step = 2 ∧ e.cycle = 2 ∧ s.time.running = true ∧ (s.advanceLp
      (e.winLp + 3)).time.running = true ∧ u = (s.advanceLp (e.winLp + 3)).tmrSyncAll) ∧
    (∃ (s : State) (e : Entry), s.pwr.entry = some e ∧ e.step = 2 ∧ e.cycle = 3) :=
  ⟨⟨up, _, 0, and3 (by decide +kernel) ⟨by decide +kernel, rfl⟩⟩,
    ⟨idle .p1 none, _, _, by decide +kernel, by decide +kernel, sg (by decide +kernel), sg (by decide +kernel)⟩,
    ⟨idle .p1 (some 10000000), _, _, by decide +kernel, by decide +kernel, sg (by decide +kernel), sg (by decide +kernel)⟩,
    ⟨pw fun p => { p with st := .p1, entry := some { target := 2, step := 2 } }, _, _, sg (by decide +kernel), and3 (by
      decide +kernel) rfl⟩,
    ⟨pw fun p => { p with st := .p1, entry := some { target := 3, step := 2 } }, _, _, sg (by decide +kernel), and3 (by
      decide +kernel) rfl⟩,
    ⟨pw fun p => { p with st := .p1, entry := some { target := 3, step := 2, cycle := 1 } }, _, _, sg (by decide +kernel), by
      decide +kernel, by decide +kernel, rfl⟩,
    ⟨pw fun p => { p with st := .p1, entry := some { target := 3, step := 2, cycle := 2 } }, _, _, sg (by decide +kernel),
      and3 (by decide +kernel) ⟨by decide +kernel, rfl⟩⟩,
    ⟨pw fun p => { p with st := .p1, entry := some { target := 3, step := 2, cycle := 3 } }, _, sg (by decide +kernel), by
      decide +kernel⟩⟩

theorem wit_EntryRowsComplete_b :
    (∃ (s : State) (d k : Nat), s.pwr.wake = none ∧ s.pwr.entry = none ∧ s.pwr.st = .p2 ∧ s.nextIdle [3, 4] = some d ∧
      (s.advance d).deepest [4, 3] = some k) ∧
    (∃ (s : State) (d : Nat), s.pwr.wake = none ∧ s.pwr.entry = none ∧ s.pwr.st = .p3 ∧ s.idleDue 4 = some d) ∧
    (∃ (s : State) (w : EnterWait), s.pwr.enterWait = some w) ∧
    (∃ (s : State) (t ns : Nat), s.get PWR_WAKE_CFG_WAKE_MODE ≠ 2) ∧
    (∃ (s : State) (t ns : Nat), s.get PWR_WAKE_CFG_WAKE_MODE = 2) ∧
    (∃ (s : State) (t c d : Nat), c ∈ [4, 5, 8, 9, 10, 11]) ∧
    (∃ (s u : State), s.pwr.timerLoad ≠ 0 ∧ u = s.advanceLp (s.pwr.timerLp + s.pwr.timerLoad)) :=
  ⟨⟨idle .p2 none, _, _, and3 (by decide +kernel) ⟨sg (by decide +kernel), sg (by decide +kernel)⟩⟩,
    ⟨idle .p3 none, _, and3 (by decide +kernel) (sg (by decide +kernel))⟩,
    ⟨pw fun p => { p with enterWait := some { target := 2, at_ := 0, port := 0 } }, _, sg (by decide +kernel)⟩,
    ⟨up, 0, 0, by decide +kernel⟩,
    ⟨up.put PWR_WAKE_CFG_WAKE_MODE 2, 0, 0, by decide +kernel⟩,
    ⟨up, 0, 4, 0, by decide +kernel⟩,
    ⟨pw fun p => { p with timerLoad := 1 }, _, by decide +kernel, rfl⟩⟩

theorem wit_WakeRowsComplete_a :
    (∃ (s : State) (w : WakeSeq) (t : Nat), s.pwr.wake = some w ∧ w.stage = .refStart ∧ ¬ 5 * Config.msTicks + w.stageAt < t) ∧
    (∃ (s : State) (w : WakeSeq) (ok : Bool) (t : Nat), s.pwr.wake = some w ∧ w.stage = .vcoreWait ∧ s.pwr.vid ≠ 0 ∧ w.powerOn
      = true) ∧
    (∃ (s : State) (w : WakeSeq) (ok : Bool) (t : Nat), s.pwr.wake = some w ∧ w.stage = .vcoreWait ∧ s.pwr.vid ≠ 0 ∧ w.powerOn
      = false) ∧
    (∃ (s u : State) (w : WakeSeq) (t : Nat), s.pwr.wake = some w ∧ w.stage = .boot ∧ w.source = 0 ∧ u = s.advance t) ∧
    (∃ (s : State) (w : WakeSeq) (t : Nat), s.pwr.wake = some w ∧ w.stage = .boot ∧ w.source ≠ 0) ∧
    (∃ (s u : State) (w : WakeSeq), s.pwr.wake = some w ∧ w.stage = .refStart ∧ w.powerOn = true ∧ s.pwr.lockout = false ∧
      (s.advance (5 * Config.msTicks + w.stageAt)).time.saved ≠ none ∧ u = s.advance (5 * Config.msTicks + w.stageAt)) ∧
    (∃ (s u v : State) (w : WakeSeq), s.pwr.wake = some w ∧ w.stage = .refStart ∧ w.powerOn = false ∧ u = s.advance (5 *
      Config.msTicks + w.stageAt) ∧ v = State.wakeFailed
      { u with pwr := { u.pwr with reduced := true, reducedRetries := 0, reducedAt := u.time.now } } 1 FID_PWR_WAKE_OSC) ∧
    (∃ (s u v : State) (w : WakeSeq), s.pwr.wake = some w ∧ w.powerOn = false ∧ ¬ w.left < 3 ∧ w.stage ≠ .boot ∧ s.pwr.st =
      .p4 ∧ u = s.advance (2 * Config.msTicks + w.at_) ∧ v =
      { u with pwr := { u.pwr with wake := none, vid := 0, retryAt := some (100 * Config.msTicks + u.time.now) } }) :=
  ⟨⟨pw fun p => { p with wake := some { wakeB with stage := .refStart } }, _, 0, sg (by decide +kernel), by decide +kernel⟩,
    ⟨pw fun p => { p with wake := some { wakeB with stage := .vcoreWait, powerOn := true } }, _, false, 0, sg (by
      decide +kernel), by decide +kernel⟩,
    ⟨pw fun p => { p with wake := some { wakeB with stage := .vcoreWait } }, _, false, 0, sg (by decide +kernel), by
      decide +kernel⟩,
    ⟨pw fun p => { p with wake := some wakeB }, _, _, 0, sg (by decide +kernel), by decide +kernel, by decide +kernel, rfl⟩,
    ⟨pw fun p => { p with wake := some { wakeB with source := 1 } }, _, 0, sg (by decide +kernel), by decide +kernel⟩,
    ⟨{ pw (fun p => { p with wake := some { wakeB with stage := .refStart, powerOn := true } }) with time := { up.time with saved := some { dev := 0, refOff := 0, rate := 0, lp := 0, ratio := 312500000, rcRatio := 312500000, rcAtSave := false } } },
      _, _, sg (by decide +kernel), and3 (by decide +kernel) ⟨by decide +kernel, rfl⟩⟩,
    ⟨pw fun p => { p with wake := some { wakeB with stage := .refStart } }, _, _, _, sg (by decide +kernel), by
      decide +kernel, by decide +kernel, rfl, rfl⟩,
    ⟨pw fun p => { p with st := .p4, wake := some { wakeB with source := 1, left := 4, stage := .vcoreWait } }, _, _, _, sg
      (by decide +kernel), and3 (by decide +kernel) ⟨by decide +kernel, rfl, rfl⟩⟩⟩

theorem wit_WakeRowsComplete_b :
    (∃ (s u v : State) (w : WakeSeq), s.pwr.wake = some w ∧ w.powerOn = false ∧ ¬ w.left < 3 ∧ w.stage ≠ .boot ∧ s.pwr.st ≠
      .p4 ∧ u = (((s.advance (2 * Config.msTicks + w.at_)).banksLost 4).toState .p4).pollSuspend ∧ v =
      { u with pwr := { u.pwr with wake := none, vid := 0, retryAt := some (100 * Config.msTicks + u.time.now) } }) ∧
    (∃ (s u v : State) (t : Nat), s.pwr.retryAt = some t ∧ s.pwr.lockout = false ∧ s.pwr.wake = none ∧ s.pwr.st = .p4 ∧ u =
      s.advance t ∧ v = { u with pwr := { u.pwr with retryAt := none } } ∧ v.wakePending = true) ∧
    (∃ (s u v : State), s.pwr.reduced = true ∧ s.awake = true ∧ s.pwr.wake = none ∧ u = s.advance (Config.sTicks +
      s.pwr.reducedAt) ∧ v =
      { u with pwr := { u.pwr with reducedAt := u.time.now, reducedRetries := u.pwr.reducedRetries + 1 } }) ∧
    (∃ (s u : State) (d : Dvfs) (t : Nat), s.pwr.dvfs = some d ∧ u = s.advance (max t (d.at_ + Config.usTicks * s.get
      PWR_DVFS_CFG_SETTLE_US))) ∧
    (∃ (s u : State) (d : Dvfs), s.pwr.dvfs = some d ∧ u = s.advance (2 * Config.msTicks + d.at_)) :=
  ⟨⟨pw fun p => { p with st := .p0, wake := some { wakeB with source := 1, left := 3, stage := .vcoreWait } }, _, _, _, sg
      (by decide +kernel), and3 (by decide +kernel) ⟨by decide +kernel, rfl, rfl⟩⟩,
    ⟨(pw fun p => { p with st := .p4, retryAt := some 5 }).put PWR_WAKE_PEND 4 |>.put PWR_WAKE_EN 4, _, _, _, sg (by
      decide +kernel), and3 (by decide +kernel) ⟨rfl, rfl, by decide +kernel⟩⟩,
    ⟨pw fun p => { p with reduced := true }, _, _, and3 (by decide +kernel) ⟨rfl, rfl⟩⟩,
    ⟨pw fun p => { p with dvfs := some { target := 2, at_ := 0, master := .m0, ctx := none } }, _, _, 0, sg (by
      decide +kernel), rfl⟩,
    ⟨pw fun p => { p with dvfs := some { target := 2, at_ := 0, master := .m0, ctx := none } }, _, _, sg (by decide +kernel),
      rfl⟩⟩

theorem wit_CalendarAndTimerRowsComplete_a :
    (∃ (s u v : State) (rising stepped : Bool) (t : Nat), u = (s.advance t).tmrInput 0x29 rising ∧ u.awake = true ∧
      u.time.running = true ∧ u.flag TIME_CTRL_REF_EN = true ∧ rising ≠ u.flag TIME_CTRL_REF_EDGE ∧ u.refEdge = (v, stepped)) ∧
    (∃ (s u : State) (rising : Bool) (t : Nat), u = (s.advance t).tmrInput 0x29 rising ∧ u.flag TIME_CTRL_REF_EN = false) ∧
    (∃ (s u v : State), s.time.servo = .locked ∧ s.time.running = true ∧ u = s.advanceRef (s.time.dueBase + s.refPeriod +
      s.refPeriod / 4) ∧ v =
      { u with time := { u.time with missed := u.time.missed + 1, dueBase := u.time.dueBase + s.refPeriod } } ∧ v.time.servo =
      .locked) ∧
    (∃ (s u : State) (ratio rcRatio : BitVec 32) (crystal : Bool) (t : Nat), u = s.advance t ∧ u.time.running = true) ∧
    (∃ (s : State) (n : Fin 64) (c : CalSlot), s.calWaiting n.val = some c ∧ c.hasPrep = true ∧ c.prepDone = false ∧ s.inP0 =
      true) ∧
    (∃ (s u : State) (n : Fin 64) (c : CalSlot), s.calWaiting n.val = some c ∧ s.inP0 = true ∧ u = (s.advanceRef
      c.time).toEdge ∧ u.inP0 = true) ∧
    (∃ (s u : State) (n : Fin 64) (c : CalSlot), s.calWaiting n.val = some c ∧ s.inP0 = false ∧ c.wake = false ∧ c.target ≠ 4
      ∧ c.target ≠ 1 ∧ u = (s.advanceRef c.time).toEdge ∧ u.inP0 = false) ∧
    (∃ (s : State) (n : Fin 64) (c : CalSlot), s.calWaiting n.val = some c ∧ c.wake = true ∧ c.woken = false ∧ c.target ≠ 4 ∧
      c.target ≠ 1 ∧ s.awake = false) :=
  ⟨⟨up.put TIME_CTRL_REF_EN 1, _, _, true, _, 0, rfl, and3 (by decide +kernel) ⟨by decide +kernel, rfl⟩⟩,
    ⟨up, _, true, 0, rfl, by decide +kernel⟩,
    ⟨up, _, _, by decide +kernel, by decide +kernel, rfl, rfl, by decide +kernel⟩,
    ⟨up, _, 0, 0, true, 0, rfl, by decide +kernel⟩,
    ⟨cl 0 { slotC with prepLead := 10000, time := 100000000 }, 0, _, sg (by decide +kernel), by decide +kernel⟩,
    ⟨cl 55 slotC, _, 55, _, sg (by decide +kernel), by decide +kernel, rfl, by decide +kernel⟩,
    ⟨cl 55 { slotC with target := 5 } |> fun s => { s with pwr := { s.pwr with st := .p3 } }, _, 55, _, sg (by
      decide +kernel), and3 (by decide +kernel) ⟨by decide +kernel, rfl, by decide +kernel⟩⟩,
    ⟨cl 55 { slotC with wake := true, target := 5 } |> fun s => { s with pwr := { s.pwr with st := .p3 } }, 55, _, sg (by
      decide +kernel), by decide +kernel⟩⟩

theorem wit_CalendarAndTimerRowsComplete_b :
    (∃ (s : State) (n : Fin 64) (c : CalSlot), n.val < 56 ∧ s.calSlot n.val = some c ∧ c.ownerFrees = false ∧ c.periodic =
      false ∧ c.fired = true ∧ c.duration ≠ 0 ∧ c.stopAt = none) ∧
    (∃ (s : State) (n : Fin 64) (c : CalSlot) (x : Nat), n.val < 56 ∧ s.calSlot n.val = some c ∧ c.ownerFrees = false ∧
      c.periodic = true ∧ c.stopAt = some x) ∧
    (∃ (s : State) (m : Master) (mask : BitVec 16), s.reaches m TMR_START.addr = true) ∧
    (∃ (s u : State) (n : Fin 16) (rising : Bool) (t : Nat), u = s.advance t ∧ isGpio (u.get (TMR_CH_TRIG_TRG_SEL n)) = true) ∧
    (∃ (s u v : State) (n : Fin 16) (o : List TrgEdge), u = s.tmrSync n ∧ u.tmrRuns n = true ∧ u.get (TMR_CH_CTRL_CLK n) ≠ 3 ∧
      ((u.wait (u.tmrTicks n (u.tmrTop n + 1 - u.pairVal n TMR_CH_CNT))).tmrSync n).tmrUpdated n 0 = (v, o)) ∧
    (∃ (s u v w x : State) (n : Fin 16) (k : Nat), u = s.tmrSync n ∧ u.tmrRuns n = true ∧ u.tmrToMatch n = some k ∧ (¬ (u.get
      (TMR_CH_CTRL_CLK n) = 3 ∧ k ≠ 0)) ∧ v = (u.wait (u.tmrTicks n k)).tmrSync n ∧ w = v.put (TMR_CH_STATUS_CMPF n) 1 ∧ x =
      w.setTmrCh n { v.tmrCh n with cmpArmed := false }) ∧
    (∃ (s u : State) (n : Fin 16) (rising : Bool) (t : Nat), u = s.advance t ∧ isGpio (u.get (TMR_CH_TRIG_CAP_SEL n)) = true) ∧
    (∃ (s : State) (m : Master) (n : Fin 16), s.readable m (TMR_CH_CAP n).addr = true) :=
  ⟨⟨cl 55 { slotC with fired := true, duration := 5 }, 55, _, by decide +kernel, sg (by decide +kernel), by decide +kernel⟩,
    ⟨cl 55 { slotC with periodic := true, stopAt := some 10 }, 55, _, _, by decide +kernel, sg (by decide +kernel), by
      decide +kernel, by decide +kernel, rfl⟩,
    ⟨up, .m0, 0, by decide +kernel⟩,
    ⟨up.put (TMR_CH_TRIG_TRG_SEL 15) 0x10, _, 15, false, 0, rfl, by decide +kernel⟩,
    ⟨up.put (TMR_CH_CTRL_EN 15) 1, _, _, 15, _, rfl, by decide +kernel, by decide +kernel, rfl⟩,
    ⟨((up.put (TMR_CH_CTRL_EN 15) 1).put (TMR_CH_CMP 15) 5), _, _, _, _, 15, _, rfl, by decide +kernel, sg (by
      decide +kernel), by decide +kernel, rfl, rfl, rfl⟩,
    ⟨up.put (TMR_CH_TRIG_CAP_SEL 15) 0x1F, _, 15, true, 0, rfl, by decide +kernel⟩,
    ⟨up, .m0, 0, by decide +kernel⟩⟩

theorem wit_RegisterRowsComplete :
    (∃ (s : State) (m : Master) (a : BitVec 32) (w : Nat), w = a.toNat - a.toNat % 4 ∧ s.readable m w = true) ∧
    (∃ (s : State) (m : Master) (a : BitVec 32) (w : Nat), w = a.toNat - a.toNat % 4 ∧ s.readable m w = true) ∧
    (∃ (s : State) (m : Master) (a : BitVec 32) (v : Word) (b o : Nat), s.awake = true ∧ s.silent m = false ∧ s.busOutcome m
      a.toNat 1 = .ok ∧ a.toNat % 4 = 0 ∧ blockOf a.toNat = some (b, o) ∧ s.fenced b = false) ∧
    (∃ (s : State) (m : Master) (a : BitVec 32) (v : Word) (n : AccSize), s.awake = true ∧ s.silent m = false ∧ s.busOutcome m
      a.toNat 1 = .ok ∧ a.toNat % accBytes n = 0 ∧ blockOf a.toNat = none) ∧
    (∃ (s : State) (m : Master) (b : Fin 23) (en : Bool), hasEn b.val = true ∧ s.reaches m (enField b.val).addr = true) ∧
    (∃ (s : State) (b : Fin 23) (t : Nat), s.awake = true) ∧
    (∃ (s : State) (w : Fin 4) (t : Nat), s.awake = true) ∧
    (∃ (s : State) (n : Fin 12) (t : Nat), s.awake = true) ∧
    (∃ (s : State) (m : Master) (p : List Byte), s.takesReg m 0x04 = true) ∧
    (∃ (s : State) (m : Master) (p : List Byte), s.takesReg m 0x05 = true) ∧
    (∃ (s : State) (m : Master) (p : List Byte), s.takesReg m 0x06 = true) :=
  ⟨⟨up, .m0, 0x40020010, _, rfl, by decide +kernel⟩,
    ⟨up, .m0, 0x40040000, _, rfl, by decide +kernel⟩,
    ⟨up, .m0, 0x40020010, 0, 2, 16, by decide +kernel⟩,
    ⟨up, .m0, 0x100FFFFC, 0, .word, by decide +kernel⟩,
    ⟨up, .m0, 4, false, by decide +kernel⟩,
    ⟨up, 0, 0, by decide +kernel⟩,
    ⟨up, 0, 0, by decide +kernel⟩,
    ⟨up, 0, 0, by decide +kernel⟩,
    ⟨up, .m0, [], by decide +kernel⟩,
    ⟨up, .m0, [], by decide +kernel⟩,
    ⟨up, .m0, [], by decide +kernel⟩⟩

theorem wit_SystemCommandsComplete :
    (∃ (s t : State) (m : Master) (p : List Byte) (c : Option ReqCtx), s.comes m 0x01 p c t ∧ p.length = 0) ∧
    (∃ (s t : State) (m : Master) (p : List Byte) (c : Option ReqCtx), s.comes m 0x02 p c t ∧ p.length = 0) ∧
    (∃ (s t u : State) (m : Master) (p : List Byte) (c : Option ReqCtx), s.comes m 0x10 p c t ∧ p.length = 20 ∧ u8 p 0 < 16 ∧
      u8 p 1 < 2 ∧ bitAt (u8 p 1) 0 = 0 ∧ u16 p 2 < 0x1000 ∧ bitAt (u16 p 2) 0 = 0 ∧ bitAt (u16 p 2) 3 = 0 ∧ bitsAt (u32 p 12)
      0 2 ≠ 3 ∧ reservedBits (regFields 1 (offOf PWR_WAKE_CFG)) (u32 p 12) = false ∧ within 1000 2000 (u16 p 16) = true ∧
      zeroAt p 18 2 = true ∧ t.flag PWR_CTRL_LOCK = false ∧ u = ((((((((t.put PWR_POLICY_ALLOW (u8 p 0)).put PWR_WAKE_EN (u16
      p 2)).put PWR_IDLE0_IDLE_P1_US (u16 p 4)).put PWR_IDLE0_IDLE_P2_MS (u16 p 6)).put PWR_IDLE1_IDLE_P3_MS (u16 p 8)).put
      PWR_IDLE1_IDLE_P4_S (u16 p 10)).put PWR_WAKE_CFG (u32 p 12)).put PWR_BUDGET_BUDGET_MW (u16 p 16))) ∧
    (∃ (s t : State) (m : Master) (p : List Byte) (c : Option ReqCtx), s.comes m 0x11 p c t ∧ p.length = 4 ∧ within 2 4 (u8 p
      0) = true ∧ zeroAt p 1 3 = true ∧ t.wakePending = false ∧ t.pwr.entry = none ∧ t.refusers (u8 p 0) = 0) ∧
    (∃ (s t : State) (m : Master) (p : List Byte) (c : Option ReqCtx), s.comes m 0x12 p c t ∧ p.length = 1 ∧ u8 p 0 = 0) ∧
    (∃ (s t : State) (m : Master) (p : List Byte) (c : Option ReqCtx), s.comes m 0x14 p c t ∧ p.length = 4 ∧ within 1 3 (u8 p
      0) = true ∧ zeroAt p 1 3 = true ∧ t.pwr.reduced = false ∧ t.pwr.dvfs = none) ∧
    (∃ (s t : State) (m : Master) (p : List Byte) (c : Option ReqCtx), s.comes m 0x15 p c t ∧ p.length = 4 ∧ zeroAt p 1 3 =
      true) ∧
    (∃ (s : State) (m : Master) (v : BitVec 3), s.reaches m PWR_CMD.addr = true) ∧
    (∃ (s : State) (t : Nat), s.isWorker = true ∧ s.linkUp = true) :=
  ⟨⟨up, _, .m0, [], _, ⟨by decide +kernel, rfl⟩, by decide +kernel⟩,
    ⟨up, _, .m0, [], _, ⟨by decide +kernel, rfl⟩, by decide +kernel⟩,
    ⟨up, _, _, .m0, [15, 0, 0xF6, 0x0F] ++ zs 12 ++ [0xE8, 3, 0, 0], _, ⟨by decide +kernel, rfl⟩, and3 (by decide +kernel)
      (and3 (by decide +kernel) (and3 (by decide +kernel) (and3 (by decide +kernel) rfl)))⟩,
    ⟨({ up with units := List.replicate 23 .off }).put PWR_CTRL_FW_DEEP_OK 1, _, .m0, [4, 0, 0, 0], _, ⟨by decide +kernel,
      rfl⟩, by decide +kernel⟩,
    ⟨up, _, .m0, [0], _, ⟨by decide +kernel, rfl⟩, by decide +kernel⟩,
    ⟨up, _, .m0, [3, 0, 0, 0], _, ⟨by decide +kernel, rfl⟩, by decide +kernel⟩,
    ⟨up, _, .m0, [255, 0, 0, 0], _, ⟨by decide +kernel, rfl⟩, by decide +kernel⟩,
    ⟨up, .m0, 0, by decide +kernel⟩,
    ⟨worker, 0, by decide +kernel⟩⟩

theorem wit_TimeCommandsComplete :
    (∃ (s t : State) (m : Master) (p : List Byte) (c : Option ReqCtx), s.comes m 0x20 p c t ∧ p.length = 0 ∧ t.time.servo =
      .locked) ∧
    (∃ (s t : State) (m : Master) (p : List Byte) (c : Option ReqCtx), s.comes m 0x20 p c t ∧ p.length = 0 ∧ t.time.servo =
      .holdover) ∧
    (∃ (s t : State) (m : Master) (p : List Byte) (e : Nat) (c : Option ReqCtx), s.comes m 0x21 p c t ∧ p.length = 16 ∧ u8 p 0
      = 0 ∧ zeroAt p 1 7 = true ∧ t.flag TIME_CTRL_REF_EN = true ∧ t.edgeThisCycle = false) ∧
    (∃ (s t u : State) (m : Master) (p : List Byte) (e : Nat) (d : Int) (stepped : Bool) (c : Option ReqCtx), s.comes m 0x21 p
      c t ∧ p.length = 16 ∧ u8 p 0 = 1 ∧ zeroAt p 1 7 = true ∧ t.refAssigned (u64 p 8) (min e t.time.now - (t.time.dev -
      (t.time.now - min e t.time.now)) % 8) false = (u, stepped, d) ∧ u.flag TIME_CTRL_REF_EN = true) ∧
    (∃ (s t u : State) (m : Master) (p : List Byte) (e q : Nat) (x : Int) (stepped : Bool) (c : Option ReqCtx), s.comes m 0x21
      p c t ∧ p.length = 16 ∧ u8 p 0 = 2 ∧ zeroAt p 1 7 = true ∧ t.flag TIME_CTRL_SAMPLE_EN = true ∧ t.flag TIME_CTRL_REF_EN =
      true ∧ t.forcedMode 5 = false ∧ t.time.servo = .locked ∧ q = min e t.time.now - (t.time.dev - (t.time.now - min e
      t.time.now)) % 8 ∧ t.edgeUsed (t.time.dev - (t.time.now - q)) = false ∧ x = (t.refAt q : Int) - (u64 p 8 : Nat) ∧
      t.acceptSample x false none = (u, stepped)) ∧
    (∃ (s t : State) (m : Master) (p : List Byte) (x : CalSlot) (c : Option ReqCtx), s.comes m 0x22 p c t ∧ x = askedSlot p ∧
      firstFail [lenIs p 28, paramOk (u8 p 0 < 64 || u8 p 0 = 0xFF), paramOk (x.target ≤ 0x16), paramOk (u8 p 3 < 8 &&
      x.resources < 8), paramOk (zeroAt p 5 1), paramOk (x.prepLead ≤ 10000), paramOk (!x.periodic || x.period ≠ 0), paramOk
      (!(x.exclusive && x.duration = 0)), paramOk (actionDefined x.target x.action x.arg), paramOk (s.refNow + Config.usTicks
      * (x.prepLead + 10) ≤ x.time)] = none ∧ u8 p 0 ≠ 0xFF ∧ ¬ 56 ≤ u8 p 0 ∧ t.calSlot (u8 p 0) = none ∧ conflictIn x t.cal 0
      = none) ∧
    (∃ (s t : State) (m : Master) (p : List Byte) (x : CalSlot) (k : Nat) (c : Option ReqCtx), s.comes m 0x22 p c t ∧ x =
      askedSlot p ∧ firstFail [lenIs p 28, paramOk (u8 p 0 < 64 || u8 p 0 = 0xFF), paramOk (x.target ≤ 0x16), paramOk (u8 p 3
      < 8 && x.resources < 8), paramOk (zeroAt p 5 1), paramOk (x.prepLead ≤ 10000), paramOk (!x.periodic || x.period ≠ 0),
      paramOk (!(x.exclusive && x.duration = 0)), paramOk (actionDefined x.target x.action x.arg), paramOk (s.refNow +
      Config.usTicks * (x.prepLead + 10) ≤ x.time)] = none ∧ u8 p 0 = 0xFF ∧ t.freeSlot = some k ∧ t.calSlot k = none ∧
      conflictIn x t.cal 0 = none) ∧
    (∃ (s t u v : State) (m : Master) (p : List Byte) (n ctrl trig : Nat) (c : Option ReqCtx), s.comes m 0x24 p c t ∧ n = u8 p
      0 ∧ ctrl = u32 p 4 ∧ trig = u32 p 8 ∧ firstFail [lenIs p 32, paramOk (n < 16), paramOk (zeroAt p 1 3), paramOk (ctrl <
      2048), paramOk (bitsAt ctrl 3 3 ≤ 4), paramOk (!(bitAt ctrl 6 == 1) || n % 2 == 0), paramOk (!s.chainHigh n), paramOk
      (trig < 2 ^ 17), paramOk (selOk n (bitsAt trig 0 6) && selOk n (bitsAt trig 8 6)), paramOk (bitsAt trig 6 2 < 3 &&
      bitsAt trig 14 2 < 3), paramOk (u32 p 12 < 2 ^ 16), paramOk (if bitAt ctrl 6 == 1 then u64 p 16 ≠ 0 else u32 p 20 = 0 &&
      u32 p 28 = 0)] = none ∧ t.flag (TMR_CH_CTRL_EN n) = false ∧ (¬ (bitAt ctrl 6 = 1 ∧ t.flag (TMR_CH_CTRL_EN (n + 1)) =
      true)) ∧ u = (((((t.tmrChange n fun q => q.put (TMR_CH_CTRL n) (ctrl - bitAt ctrl 0)).put (TMR_CH_TRIG n) trig).put
      (TMR_CH_PSC n) (u32 p 12)).setPair n TMR_CH_TOP (u64 p 16)).setPair n TMR_CH_CMP (u64 p 24)) ∧ v = u.setTmrCh n
      { u.tmrCh n with cmpArmed := true, lowTop := none, lowCmp := none, frac := 0 }) ∧
    (∃ (s t : State) (m : Master) (p : List Byte) (n k : Nat) (c : Option ReqCtx), s.comes m 0x25 p c t ∧ n = u8 p 0 ∧
      p.length = 1 ∧ n < 16 ∧ k = t.tmrOwner n) :=
  ⟨⟨up, _, .m0, [], _, ⟨by decide +kernel, rfl⟩, by decide +kernel⟩,
    ⟨{ up with time := { up.time with servo := .holdover } }, _, .m0, [], _, ⟨by decide +kernel, rfl⟩, by decide +kernel⟩,
    ⟨up.put TIME_CTRL_REF_EN 1, _, .m0, zs 16, 0, _, ⟨by decide +kernel, rfl⟩, by decide +kernel⟩,
    ⟨up.put TIME_CTRL_REF_EN 1, _, _, .m0, [1] ++ zs 14 ++ [1], 0, _, _, _, ⟨by decide +kernel, rfl⟩, and3 (by decide +kernel)
      ⟨rfl, by decide +kernel⟩⟩,
    ⟨(up.put TIME_CTRL_REF_EN 1).put TIME_CTRL_SAMPLE_EN 1, _, _, .m0, [2] ++ zs 15, 0, _, _, _, _, ⟨by decide +kernel, rfl⟩,
      and3 (by decide +kernel) (and3 (by decide +kernel) ⟨by decide +kernel, rfl, by decide +kernel, rfl, rfl⟩)⟩,
    ⟨up, _, .m0, [55, 4, 1, 0, 0, 0, 0, 0, 0, 0, 0, 1] ++ zs 16, _, _, ⟨by decide +kernel, rfl⟩, rfl, by decide +kernel⟩,
    ⟨up, _, .m0, [0xFF, 4, 1, 0, 0, 0, 0, 0, 0, 0, 0, 1] ++ zs 16, _, _, _, ⟨by decide +kernel, rfl⟩, rfl, by decide +kernel,
      by decide +kernel, sg (by decide +kernel), by decide +kernel⟩,
    ⟨up, _, _, _, .m0, [15] ++ zs 31, _, _, _, _, ⟨by decide +kernel, rfl⟩, rfl, rfl, rfl, and3 (by decide +kernel) ⟨rfl,
      rfl⟩⟩,
    ⟨up, _, .m0, [15], _, _, _, ⟨by decide +kernel, rfl⟩, rfl, by decide +kernel, by decide +kernel, rfl⟩⟩

theorem wit_LfCommandsComplete_a :
    (∃ (s t u v : State) (m : Master) (p : List Byte) (n : Nat) (c : Option ReqCtx), s.comes m 0x30 p c t ∧ n = u8 p 0 ∧ n ≠
      0xFF ∧ firstFail [lenIs p 8, paramOk (n < 12 && u8 p 1 < 2 && u8 p 2 < 16 && ilimOk n (u16 p 4)), paramOk (if n < 4 then
      within 10 1000 (u16 p 6) else u16 p 6 = 0)] = none ∧ t.flag LF_CTRL_LOCK = false ∧ u = (((t.stage t.lfQuiet 4
      (LF_CH_CTRL_RAMP_CYC n) (u8 p 2)).stage t.lfQuiet 4 (LF_CH_CTRL_PHASE_TRIM n) (u8 p 3)).stage t.lfQuiet 4
      (LF_CH_ILIM_ILIM_MA n) (u16 p 4)).stage t.lfQuiet 4 (LF_CH_ILIM_SENSE_MOHM n) (u16 p 6) ∧ v = u.lfEnable n (u8 p 1 = 1)) ∧
    (∃ (s t u v : State) (m : Master) (p : List Byte) (c : Option ReqCtx), s.comes m 0x30 p c t ∧ u8 p 0 = 0xFF ∧ firstFail
      [lenIs p 16, paramOk (u8 p 1 < 2 && zeroAt p 2 2 && zeroAt p 14 2), paramOk (within 20000 140000 (u32 p 4)), paramOk
      (within 125 1000 (u16 p 10)), paramOk (u8 p 12 < 32 && (u8 p 13 < 32 || u8 p 13 = 0xFF))] = none ∧ t.flag LF_CTRL_LOCK =
      false ∧ u8 p 13 = 0xFF ∧ u = ((((t.stage t.lfQuiet 4 LF_CARRIER_FREQ_HZ (u32 p 4)).stage t.lfQuiet 4 LF_TEL_CFG_WAKE_ID
      (u16 p 8)).stage t.lfQuiet 4 LF_TEL_CFG_PREBURST_CYC (u16 p 10)).stage t.lfQuiet 4 LF_TEL_PAT_TEL_PAT (u8 p 12)).stage
      t.lfQuiet 4 LF_TEL_PAT_ALT_EN (bit01 (u8 p 13 != 0xFF)) ∧ v = u.lfBlockEnable (u8 p 1 = 1)) ∧
    (∃ (s t : State) (m : Master) (p : List Byte) (x : List LfEntry) (c : Option ReqCtx), s.comes m 0x31 p c t ∧ x =
      (List.range (u8 p 2)).map (patEntry p) ∧ firstFail [lenIs p 20, paramOk (u8 p 0 < 32 && u8 p 1 < 2 && u8 p 2 ≤ 4 &&
      zeroAt p 3 1 && zeroAt p (4 + 4 * u8 p 2) (4 * (4 - u8 p 2))), paramOk (noDup (x.map (·.ch)) && x.all s.entryOk)] = none
      ∧ t.zone.map = none ∧ u8 p 2 ≠ 0 ∧ t.lfQuiet = true) ∧
    (∃ (s t u : State) (m : Master) (p : List Byte) (k : Nat) (c : Option ReqCtx), s.comes m 0x32 p c t ∧ firstFail [lenIs p
      28, paramOk (u8 p 0 < 3 && u8 p 1 < 4 && u8 p 2 ≤ 16 && (u8 p 0 != 2 || 1 ≤ u8 p 2) && zeroAt p 3 1), paramOk (bitAt (u8
      p 1) 1 = 1 || u64 p 4 = 0), paramOk (((List.range (u8 p 2)).map fun k => u8 p (12 + k)).all (· < 32) && zeroAt p (12 +
      u8 p 2) (16 - u8 p 2)), paramOk (!(bitAt (u8 p 1) 1 = 1) || 100 * Config.usTicks + s.time.ref ≤ u64 p 4)] = none ∧ u8 p
      0 ≠ 0 ∧ t.sys.role = 0 ∧ t.lfQueue
      { id := 0, typ := u8 p 0, pats := (List.range (u8 p 2)).map (fun k => u8 p (12 + k)), preempt := bitAt (u8 p 1) 0 = 1, atTime := if bitAt (u8 p 1) 1 = 1 then some (u64 p 4) else none, nb := none }
      = (u, ACCEPTED, k)) ∧
    (∃ (s t : State) (m : Master) (p : List Byte) (c : Option ReqCtx), s.comes m 0x33 p c t ∧ firstFail [lenIs p 36, paramOk
      (within 100 2000 (u16 p 0) && u8 p 2 < 32 && u8 p 3 < 16), paramOk (within 100 5000 (u16 p 4) && within 500 10000 (u16 p
      6)), paramOk (1 ≤ u8 p 9), paramOk (u16 p 0 ≤ u16 p 10 && u16 p 10 ≤ 8000), paramOk (within 1 63 (u8 p 12) && u8 p 13 <
      32 && u8 p 14 ≤ 16), paramOk (zeroAt p 15 1 && zeroAt p 32 4 && ((List.range (u8 p 14)).map fun k => u8 p (16 + k)).all
      (· < 32) && zeroAt p (16 + u8 p 14) (16 - u8 p 14))] = none ∧ t.patDefined (u8 p 2) = true ∧ ((List.range (u8 p 14)).map
      fun k => u8 p (16 + k)).all t.patDefined = true) ∧
    (∃ (s t u : State) (m : Master) (p : List Byte) (c : Option ReqCtx), s.comes m 0x34 p c t ∧ p.length = 0 ∧ t.sys.role = 0
      ∧ t.pollStart = (u, OK)) ∧
    (∃ (s t : State) (m : Master) (p : List Byte) (c : Option ReqCtx), s.comes m 0x35 p c t ∧ p.length = 0) ∧
    (∃ (s t u : State) (m : Master) (p : List Byte) (d : LfDiag) (c : Option ReqCtx), s.comes m 0x36 p c t ∧ firstFail [lenIs
      p 8, paramOk (u16 p 0 < 4096), paramOk (within 1 7 (u8 p 2) && zeroAt p 3 1), paramOk ((u16 p 4 = 0 || within 1000 20000
      (u16 p 4)) && (u16 p 6 = 0 || within 100 5000 (u16 p 6)))] = none ∧ t.lf.diag = none ∧ t.padHeld 1 = false ∧ t.padHeld 2
      = false ∧ t.safeState = false ∧ t.pwr.reduced = false ∧ t.unit 4 = .on ∧ t.lfRangeOk (t.get LF_CARRIER_FREQ_HZ) = true ∧
      t.sys.region.ok = true ∧ d =
      { id := t.lf.diagId, chmask := u16 p 0, tests := u8 p 2, span := if u16 p 4 = 0 then 10000 else u16 p 4, step := if u16 p 6 = 0 then 500 else u16 p 6 }
      ∧ t.fits (t.diagCharge d) = true ∧ u =
      { t with lf := { t.lf with diag := some d, diagId := (t.lf.diagId + 1) % 0x10000 } }) :=
  ⟨⟨up, _, _, _, .m0, [11, 1, 15, 255, 0x84, 3, 0, 0], _, _, ⟨by decide +kernel, rfl⟩, rfl, and3 (by decide +kernel) ⟨rfl,
      rfl⟩⟩,
    ⟨up, _, _, _, .m0, [0xFF, 1, 0, 0, 0xE0, 0x22, 2, 0, 0, 0, 0xE8, 3, 31, 0xFF, 0, 0], _, ⟨by decide +kernel, rfl⟩, and3 (by
      decide +kernel) ⟨by decide +kernel, rfl, rfl⟩⟩,
    ⟨up, _, .m0, [31, 0, 1, 0, 11, 0, 10, 0] ++ zs 12, _, _, ⟨by decide +kernel, rfl⟩, rfl, by decide +kernel⟩,
    ⟨up, _, _, .m0, [1] ++ zs 27, _, _, ⟨by decide +kernel, rfl⟩, and3 (by decide +kernel) (trip (by decide +kernel))⟩,
    ⟨lfS, _, .m0, [0xD0, 7, 0, 15, 0x88, 0x13, 0x10, 0x27, 0, 255, 0x40, 0x1F, 63, 31, 0] ++ zs 21, _, ⟨by decide +kernel,
      rfl⟩, by decide +kernel⟩,
    ⟨lfS, _, _, .m0, [], _, ⟨by decide +kernel, rfl⟩, by decide +kernel, by decide +kernel, tup (by decide +kernel)⟩,
    ⟨up, _, .m0, [], _, ⟨by decide +kernel, rfl⟩, by decide +kernel⟩,
    ⟨{ lfS with lf := { lfS.lf with tx := some txL } }, _, _, .m0, [1, 0, 7, 0, 0, 0, 0, 0], _, _, ⟨by decide +kernel, rfl⟩,
      and3 (by decide +kernel) (and3 (by decide +kernel) (and3 (by decide +kernel) ⟨rfl, by decide +kernel, rfl⟩))⟩⟩

theorem wit_LfCommandsComplete_b :
    (∃ (s t : State) (m : Master) (p : List Byte) (c : Option ReqCtx), s.comes m 0x37 p c t ∧ p.length = 4 ∧ u8 p 0 = 0 ∧ u8 p
      1 = 0 ∧ within 56 5156 (u16 p 2) = true) ∧
    (∃ (s t : State) (m : Master) (p b : List Byte) (n : Nat) (c : Option ReqCtx), s.comes m 0x37 p c t ∧ u8 p 0 = 1 ∧ 5 ≤
      p.length ∧ p.length ≤ 244 ∧ u8 p 1 = 0 ∧ t.zone.stage = some (n, b) ∧ u16 p 2 = b.length ∧ ¬ n < b.length + (p.length -
      4)) ∧
    (∃ (s t : State) (m : Master) (p b : List Byte) (n : Nat) (c : Option ReqCtx), s.comes m 0x37 p c t ∧ p.length = 4 ∧ u8 p
      0 = 2 ∧ u8 p 1 = 0 ∧ zeroAt p 2 2 = true ∧ t.zone.stage = some (n, b) ∧ ¬ b.length < n ∧ t.mapWriting = false ∧ mapCrcOk
      b = true ∧ mapFieldsOk b = true ∧ (parseMap b).pats.all t.patDefined = true) ∧
    (∃ (s t : State) (m : Master) (p : List Byte) (c : Option ReqCtx), s.comes m 0x37 p c t ∧ p.length = 4 ∧ u8 p 0 = 3 ∧ u8 p
      1 = 0 ∧ zeroAt p 2 2 = true) ∧
    (∃ (s : State) (m : Master) (v : Word), s.reaches m (LF_HNONCE 3).addr = true) ∧
    (∃ (s : State) (m : Master), s.reaches m LF_POLL_CMD.addr = true) ∧
    (∃ (s : State) (m : Master), s.reaches m LF_POLL_CMD.addr = true) :=
  ⟨⟨up, _, .m0, [0, 0, 56, 0], _, ⟨by decide +kernel, rfl⟩, by decide +kernel⟩,
    ⟨lfS.modZone fun z => { z with stage := some (5156, []) }, _, .m0, [1, 0, 0, 0] ++ zs 240, _, _, _, ⟨by decide +kernel,
      rfl⟩, and3 (by decide +kernel) ⟨by decide +kernel, sg2 (by decide +kernel), by decide +kernel⟩⟩,
    ⟨lfS.modZone fun z => { z with stage := some (56, mapB) }, _, .m0, [2, 0, 0, 0], _, _, _, ⟨by decide +kernel, rfl⟩, and3
      (by decide +kernel) ⟨by decide +kernel, sg2 (by decide +kernel), by decide +kernel⟩⟩,
    ⟨up, _, .m0, [3, 0, 0, 0], _, ⟨by decide +kernel, rfl⟩, by decide +kernel⟩,
    ⟨up, .m0, 0, by decide +kernel⟩,
    ⟨up, .m0, by decide +kernel⟩,
    ⟨up, .m0, by decide +kernel⟩⟩

theorem wit_LfRowsComplete_a :
    (∃ (s u : State) (x : LfSend), s.unit 4 = .on ∧ s.noRadio = false ∧ s.nextSend s.lf.sends = some x ∧ x.atTime = none ∧
      x.ready = true ∧ u = (s.advanceRef (s.sendTime x)).burstOver [] ∧ u.lfBusy = false) ∧
    (∃ (s : State) (x : LfTx) (meas : List LfMeas), s.lf.tx = some x ∧ x.kind < 2) ∧
    (∃ (s u : State) (x : CalSlot), s.pstate = 2 ∧ s.calSlot 56 = some x ∧ u = State.setBurst ((s.advanceRef x.time).burstOver
      []) (x.time + msOf ((s.advanceRef x.time).burstOver []).lf.period) ∧ u.lfRangeOk (u.get LF_CARRIER_FREQ_HZ) = true ∧
      u.pollPat ≠ [] ∧ u.lf.tx = none ∧ u.exclusiveOver resLf u.refNow (cycTicks 250 (u.get LF_CARRIER_FREQ_HZ)) = false ∧
      u.windowFree 0 = true) ∧
    (∃ (s u : State) (t : Nat), s.pstate = 2 ∧ s.lf.deferred = some t ∧ u = (s.advanceRef t).burstOver [] ∧ u.lf.tx = none ∧
      u.pollPat ≠ [] ∧ u.lfRangeOk (u.get LF_CARRIER_FREQ_HZ) = true) ∧
    (∃ (s u : State) (x : PollWindow), s.lf.window = some x ∧ u = (s.advance (x.start - 150 * Config.usTicks)).burstOver [] ∧
      x.on = false ∧ u.flag URX_SENT_CFG_EN = true ∧ u.fenced 5 = false ∧ u.urx.sentBad = false) ∧
    (∃ (s u v w : State) (x : PollWindow) (frame : List Byte) (rssi : BitVec 16) (t b h : Nat), u = (s.advance t).burstOver []
      ∧ u.lf.window = some x ∧ x.on = true ∧ x.hit = none ∧ b = u.time.now - u.sentBits (8 * frame.length) ∧ ¬ b < x.start ∧ ¬
      x.stop < b ∧ frame.length = 7 ∧ u8 frame 0 = 0x40 ∧ frameCrcOk frame = true ∧ v = u.setWindow (some
      { x with busy := u.time.now }) ∧ h = v.refAt b - v.get TIME_EXT_DLY_A % 2 ^ 16 ∧ w = (((v.setWindow (some
      { x with hit := some (toSigned 16 (v.rssiAtAntenna rssi)), hitRef := h, busy := v.time.now })).put
      URX_SENT_STATUS_LAST_RSSI (v.rssiAtAntenna rssi)).bump LF_POLL_HITS).rssiAfter v.time.now) ∧
    (∃ (s u : State) (level : BitVec 16) (meas : List LfMeas), s.pollWindowEnd level meas = (u, none)) ∧
    (∃ (s u : State) (level : BitVec 16) (meas : List LfMeas) (t : Nat), s.pollWindowEnd level meas = (u, some t)) :=
  ⟨⟨{ lfS with lf := { lfS.lf with sends := [{ sendL with typ := 2 }] } }, _, _, by decide +kernel, by decide +kernel, sg (by
      decide +kernel), by decide +kernel, by decide +kernel, rfl, by decide +kernel⟩,
    ⟨{ lfS with lf := { lfS.lf with tx := some txL } }, _, [], sg (by decide +kernel), by decide +kernel⟩,
    ⟨{ (lfS.put LF_POLL_STATUS_PSTATE 2) with cal := up.cal.set 56 (some slotC) }, _, _, by decide +kernel, sg (by
      decide +kernel), rfl, by decide +kernel⟩,
    ⟨{ lfS.put LF_POLL_STATUS_PSTATE 2 with lf := { lfS.lf with deferred := some 5 } }, _, _, by decide +kernel, sg (by
      decide +kernel), rfl, by decide +kernel⟩,
    ⟨lfS.setWindow (some { start := 1000000, stop := 2000000 }) |>.put URX_SENT_CFG_EN 1, _, _, sg (by decide +kernel), rfl,
      by decide +kernel⟩,
    ⟨lfS.setWindow (some { start := 0, stop := 1000000000, on := true }), _, _, _, _, withCrc [0x40, 1, 2, 3, 4], 0,
      100000000, _, _, rfl, sg (by decide +kernel), by decide +kernel, by decide +kernel, rfl, and3 (by decide +kernel) ⟨by
      decide +kernel, by decide +kernel, rfl, rfl, rfl⟩⟩,
    ⟨up, _, 0, [], tup (by decide +kernel)⟩,
    ⟨{ lfS.setWindow (some { start := 0, stop := 1000, hit := some (-100), on := true }) with lf := { lfS.lf with period := 8000, rssiRef := some (-400), window := some { start := 0, stop := 1000, hit := some (-100), on := true } } },
      _, 0, [], _, tupS (by decide +kernel)⟩⟩

theorem wit_LfRowsComplete_b :
    (∃ (s u : State), s.pstate = 2 ∧ u = s.advanceLp (s.lf.restartLp + s.get LF_POLL_CFG_STOP_DAYS * lpOfS 86400) ∧ u.pollBusy
      = false ∧ u.pstate ≠ 5) ∧
    (∃ (s u v : State) (i : Fin 5) (e : HandleEdge), s.handleQualified i = (u, some e) ∧ v = u.ewFire 1 e.ref ∧ v.awake = true
      ∧ v.pwr.fwServing = true) ∧
    (∃ (s u v : State) (i : Fin 5) (e : HandleEdge), s.handleQualified i = (u, some e) ∧ v = u.ewFire 1 e.ref ∧ v.awake =
      false ∧ v.auth.edge = none) ∧
    (∃ (s : State) (e : HandleEdge) (t : Nat), s.lf.htel = some e ∧ s.lf.tx = none) ∧
    (∃ (s u : State) (t : Nat), u = s.advance t) ∧
    (∃ (s : State) (x : LfTx) (meas : List LfMeas), s.lf.tx = some x ∧ x.kind = 3 ∧ x.cut ≠ none) ∧
    (∃ (s u v w : State) (x : LfDiag) (y : LfTx) (found : List LfFinding) (pairs tested : List (Nat × LfFinding)) (t : Nat),
      s.lf.diag = some x ∧ s.lf.tx = some y ∧ y.kind = 3 ∧ y.cut = none ∧ u = s.advance (max t y.stopAt) ∧ pairs =
      ((List.range 12).filter fun n => bitAt x.chmask n = 1).zip found ∧ tested = pairs.filter (fun q => bitAt x.tested q.1 ==
      1) ∧ v = tested.foldl (fun s q => s.diagApply x (!(u.sweepPoints x y.freq).isEmpty) q.1 q.2) u ∧ w =
      { v with lf := { v.lf with diag := none, tx := none } }) ∧
    (∃ (s u : State) (n : Fin 12) (temp : BitVec 8) (t : Nat), u = s.advance t ∧ u.lf.calTemp.getD n none = none) :=
  ⟨⟨lfS.put LF_POLL_STATUS_PSTATE 2, _, by decide +kernel, rfl, by decide +kernel⟩,
    ⟨{ lfS with lf := { lfS.lf with filt := [{ idx := 4, at_ := 0, ref := 0 }] } }, _, _, 4, _, tupS (by decide +kernel), rfl,
      by decide +kernel⟩,
    ⟨{ lfS with pwr := { lfS.pwr with st := .p3 }, lf := { lfS.lf with filt := [{ idx := 4, at_ := 0, ref := 0 }] } }, _, _,
      4, _, tupS (by decide +kernel), rfl, by decide +kernel⟩,
    ⟨{ lfS with lf := { lfS.lf with htel := some { idx := 4, at_ := 0, ref := 0 } } }, _, 0, sg (by decide +kernel), by
      decide +kernel⟩,
    ⟨up, _, 0, rfl⟩,
    ⟨{ lfS with lf := { lfS.lf with tx := some { txL with kind := 3, cut := some 10 } } }, _, [], sg (by decide +kernel), by
      decide +kernel⟩,
    ⟨{ lfS with lf := { lfS.lf with diag := some { id := 0, chmask := 1, tests := 1, span := 10000, step := 500, tested := 1 }, tx := some { txL with kind := 3 } } },
      _, _, _, _, _, [], _, _, 0, sg (by decide +kernel), sg (by decide +kernel), by decide +kernel, by decide +kernel, rfl,
      rfl, rfl, rfl, rfl⟩,
    ⟨up, _, 11, 0, 0, rfl, by decide +kernel⟩⟩

theorem wit_LfRowsComplete_c :
    ∃ (s u : State) (n : Fin 12) (k : Nat) (x : CalSlot) (temp : BitVec 8), s.lf.calDue.find? (·.1 == n.val) = some (n.val,
      some k) ∧ s.calSlot k = some x ∧ u = s.advanceRef (1000000 + x.time) ∧ u.awake = true ∧ u.fenced 4 = false ∧ u.lfQuiet =
      true :=
  ⟨{ lfS with lf := { lfS.lf with calDue := [(11, some 60)] }, cal := up.cal.set 60 (some slotC) }, _, 11, 60, slotC, 0, by
      decide +kernel, by decide +kernel, rfl, by decide +kernel⟩

theorem wit_UrxCommandsComplete :
    (∃ (s t : State) (m : Master) (p : List Byte) (w : Nat) (c : Option ReqCtx), s.comes m 0x40 p c t ∧ u8 p 0 = 0 ∧ w = u8 p
      1 ∧ firstFail [lenIs p 8, paramOk (w < 4 && u8 p 2 < 2 && u8 p 3 < 4 && u32 p 4 < 2 ^ 30), paramOk (u8 p 2 = 0 ||
      windowFits (u32 p 4) (winWidth (u8 p 3)))] = none ∧ ((List.range 16).any fun k => t.flag (URX_CH_CFG_EN (16 * w + k)) &&
      !offsetFits (toSigned 24 (t.get (URX_CH_OFS (16 * w + k)))) (chanBw (t.get (URX_CH_CFG_BW (16 * w + k)))) (winWidth (u8
      p 3))) = false) ∧
    (∃ (s t u : State) (m : Master) (p : List Byte) (n cfg fr : Nat) (q : Bool) (c : Option ReqCtx), s.comes m 0x40 p c t ∧ u8
      p 0 = 1 ∧ n = u8 p 1 ∧ cfg = u32 p 4 ∧ fr = u32 p 24 ∧ firstFail [lenIs p 28, paramOk (n < 64), (s.flag
      (URX_WIN_CFG_CONF (n / 16)), BAD_STATE), paramOk (zeroAt p 2 2 && bitsAt cfg 1 2 < 3 && bitsAt cfg 3 3 < 6 && bitsAt cfg
      8 2 < 3 && bitsAt cfg 10 2 < 2 && bitsAt cfg 13 3 = 0 && bitsAt cfg 23 9 = 0), paramOk (offsetFits (toSigned 32 (u32 p
      8)) (chanBw (bitsAt cfg 3 3)) (winWidth (s.get (URX_WIN_CFG_WIDTH (n / 16))))), paramOk (demodOk (bitsAt cfg 1 2) (u32 p
      12) (u32 p 16) (chanBw (bitsAt cfg 3 3)) && u32 p 16 < 2 ^ 18), paramOk (within 8 32 (bitsAt fr 0 6) && within 8 63
      (bitsAt fr 8 6) && bitsAt fr 14 2 = 0 && within 1 255 (bitsAt fr 16 8) && bitsAt fr 24 8 = 0), paramOk (bitsAt cfg 8 2 ≠
      2 || (bitsAt fr 0 6 = 32 && bitsAt cfg 10 2 = 1))] = none ∧ t.flag (QM_Q_CFG_EN (bitsAt cfg 16 7)) = true ∧ q = true ∧
      (t.uch n).phase ≠ 2 ∧ u = ((((((t.setUch n {}).stage q (1000 + n) (URX_CH_CFG n) cfg).stage q (1000 + n) (URX_CH_OFS n)
      (ofSigned 24 (toSigned 32 (u32 p 8)))).stage q (1000 + n) (URX_CH_RATE n) (u32 p 12)).stage q (1000 + n) (URX_CH_DEV n)
      (u32 p 16)).stage q (1000 + n) (URX_CH_SYNC n) (u32 p 20)).stage q (1000 + n) (URX_CH_FRAME n) fr) ∧
    (∃ (s t : State) (m : Master) (p : List Byte) (c : Option ReqCtx), s.comes m 0x40 p c t ∧ u8 p 0 = 2 ∧ firstFail [lenIs p
      12, paramOk (zeroAt p 1 3), paramOk (within 300000000 1000000000 (u32 p 4)), paramOk (bitsAt (u32 p 8) 2 6 = 0 && within
      20 120 (bitsAt (u32 p 8) 8 8) && within 1 15 (bitsAt (u32 p 8) 16 4) && bitsAt (u32 p 8) 20 12 = 0)] = none) ∧
    (∃ (s t : State) (m : Master) (p : List Byte) (c : Option ReqCtx), s.comes m 0x40 p c t ∧ u8 p 0 = 3 ∧ firstFail [lenIs p
      12, paramOk (zeroAt p 1 3 && bitsAt (u32 p 4) 24 8 = 0), paramOk (within 20 120 (bitsAt (u32 p 8) 0 8) && within 1 255
      (bitsAt (u32 p 8) 8 8) && bitsAt (u32 p 8) 17 15 = 0)] = none ∧ t.flag URX_CTRL_LOCK = false) ∧
    (∃ (s t u : State) (m : Master) (p : List Byte) (c : Option ReqCtx), s.comes m 0x41 p c t ∧ p.length = 1 ∧ u8 p 0 < 16 ∧
      t.urxStartMask (u8 p 0) 0 none = (u, OK)) ∧
    (∃ (s t : State) (m : Master) (p : List Byte) (c : Option ReqCtx), s.comes m 0x42 p c t ∧ p.length = 1 ∧ u8 p 0 < 16) ∧
    (∃ (s t : State) (m : Master) (p : List Byte) (g : Gather) (c : Option ReqCtx), s.comes m 0x47 p c t ∧ p.length = 24 ∧ u8
      p 0 = 0 ∧ u8 p 1 = 1 ∧ u8 p 2 = 0 ∧ u8 p 3 = 0 ∧ u8 p 5 = 0 ∧ zeroAt p 6 18 = true ∧ t.urx.gather.st = 0 ∧
      t.urx.wins.any (·.st == .on) = true ∧ t.fits (120 + if t.radioOn then 0 else 2240) = true ∧ g =
      { st := 1, id := t.urx.gather.next, next := (t.urx.gather.next + 1) % 0x10000, source := 1, trigger := 0, arg := 0, pre := 0, armedAt := t.time.now, trigAt := some t.time.now }) ∧
    (∃ (s t : State) (m : Master) (p : List Byte) (c : Option ReqCtx), s.comes m 0x47 p c t ∧ p.length = 24 ∧ u8 p 0 = 2 ∧ u8
      p 1 = 0 ∧ u8 p 2 = 0 ∧ u8 p 3 = 0 ∧ u8 p 4 = 0 ∧ u8 p 5 = 0 ∧ zeroAt p 6 18 = true) :=
  ⟨⟨up, _, .m0, [0, 3, 1, 3, 0, 0x46, 0xC3, 0x23], _, _, ⟨by decide +kernel, rfl⟩, by decide +kernel, rfl, by decide +kernel⟩,
    ⟨(up.put (URX_WIN_CFG_CONF 3) 1).put (QM_Q_CFG_EN 0) 1, _, _, .m0, [1, 63, 0, 0, 0, 0, 0, 0, 0, 0, 0, 0, 0x60, 9, 0, 0,
      0xC4, 9, 0, 0, 0, 0, 0, 0, 32, 8, 1, 0], _, _, _, _, _, ⟨by decide +kernel, rfl⟩, by decide +kernel, rfl, rfl, rfl, by
      decide +kernel, by decide +kernel, rfl, by decide +kernel, rfl⟩,
    ⟨up, _, .m0, [2, 0, 0, 0, 0, 0xCA, 0x9A, 0x3B, 0, 20, 1, 0], _, ⟨by decide +kernel, rfl⟩, by decide +kernel⟩,
    ⟨up, _, .m0, [3, 0, 0, 0, 0, 0, 0, 0, 20, 1, 0, 0], _, ⟨by decide +kernel, rfl⟩, by decide +kernel⟩,
    ⟨(up.put (URX_WIN_CFG_CONF 3) 1).put URX_CTRL_EN 1, _, _, .m0, [8], _, ⟨by decide +kernel, rfl⟩, by decide +kernel, by
      decide +kernel, tup (by decide +kernel)⟩,
    ⟨up, _, .m0, [15], _, ⟨by decide +kernel, rfl⟩, by decide +kernel⟩,
    ⟨urS, _, .m0, [0, 1] ++ zs 22, _, _, ⟨by decide +kernel, rfl⟩, and3 (by decide +kernel) (and3 (by decide +kernel) (and3
      (by decide +kernel) ⟨by decide +kernel, rfl⟩))⟩,
    ⟨up, _, .m0, [2] ++ zs 23, _, ⟨by decide +kernel, rfl⟩, by decide +kernel⟩⟩

theorem wit_UrxRowsComplete_a :
    (∃ (s u : State) (n : Fin 64) (bits more t : Nat), u = s.advance t ∧ u.chanListens n = true ∧ u.blanked = false ∧ (u.uch
      n).phase = 0 ∧ u.get (URX_CH_FRAME_PRE_MIN n) ≤ bits) ∧
    (∃ (s : State) (n : Fin 64), (s.uch n).phase = 1) ∧
    (∃ (s u : State) (n : Fin 64) (word : BitVec 32) (hdr : Byte) (t : Nat), u = (s.advance t).syncAccepted n word hdr ∧
      (s.uch n).phase ≠ 2 ∧ (u.uch n).phase = 2) ∧
    (∃ (s u : State) (n : Fin 64) (word : BitVec 32) (hdr : Byte) (t : Nat), u = (s.advance t).syncAccepted n word hdr ∧
      (u.uch n).phase ≠ 2) ∧
    (∃ (s u : State) (n : Fin 64) (rx : Reception) (b : List Byte), s.frameEnd n rx = (u, some b, false) ∧ u.authHears n =
      false) ∧
    (∃ (s u : State) (n : Fin 64) (rx : Reception), s.frameEnd n rx = (u, none, false) ∧ u.authHears n = false) ∧
    (∃ (s u v : State) (n : Fin 64) (rx : Reception), s.frameEnd n rx = (u, none, true) ∧ v = (u.gatherTrigger 3 n).utxTrigCrc
      n ∧ v.authHears n = false) ∧
    (∃ (s u : State) (w : Fin 4) (t : Nat), u = s.advance t ∧ (u.win w).jam = true ∧ (u.win w).st = .on ∧ u.flag
      URX_JAM_CFG_JAM_EN = true ∧ u.jamHeld w = true) :=
  ⟨⟨urS, _, 63, 63, 0, 0, rfl, by decide +kernel⟩,
    ⟨urS.setUch 63 { phase := 1 }, 63, by decide +kernel⟩,
    ⟨urS.setUch 63 { phase := 1 }, _, 63, 0, 7, 0, rfl, by decide +kernel⟩,
    ⟨up, _, 0, 0, 0, 0, rfl, by decide +kernel⟩,
    ⟨(urS.setUch 63 { phase := 2, hdr := 7 }).put (URX_CH_CFG_CRC_MODE 63) 0, _, 63, rxU, _, tupS3 (by decide +kernel) (by
      decide +kernel), by decide +kernel⟩,
    ⟨(urS.setUch 63 { phase := 0, hdr := 7 }), _, 63, rxU, tup (by decide +kernel), by decide +kernel⟩,
    ⟨(urS.setUch 63 { phase := 2, hdr := 7 }).put (URX_CH_CFG_CRC_MODE 63) 1, _, _, 63, rxU, tup (by decide +kernel), rfl, by
      decide +kernel⟩,
    ⟨(urS.setWin 3 { st := .on, jam := true }).put URX_JAM_CFG_JAM_EN 1, _, 3, 10000000000, rfl, by decide +kernel⟩⟩

theorem wit_UrxRowsComplete_b :
    (∃ (s u : State) (t : Nat), u = s.advance t ∧ u.flag URX_CTRL_BYP_AUTO = true ∧ u.radioOn = true ∧ u.anyFrame = false) ∧
    (∃ (s u : State) (t : Nat), u = s.advance t ∧ u.anyFrame = false) ∧
    (∃ (s u : State) (t : Nat), u = s.advance t ∧ u.flag URX_CTRL_BYP_AUTO = true ∧ u.radioOn = true ∧ u.anyFrame = true) ∧
    (∃ (s u : State) (portB : Bool) (t : Nat), u = s.advance t) ∧
    (∃ (s u : State) (portB : Bool) (t : Nat), u = s.advance t ∧ u.urx.adcCheck.getD (bit01 portB) false = true) ∧
    (∃ (s u v w : State) (g : Gather) (x t n pre d : Nat), u = s.advance t ∧ g = u.urx.gather ∧ g.st = 1 ∧ g.trigAt = some x ∧
      n = gatherSamples g.source ∧ pre = n * g.pre / 256 ∧ d = u.sampleTicks g.source ∧ v = u.advance (x + (n - pre) * d /
      1000) ∧ w =
      { v with free := 262144 + v.free, urx := { v.urx with gather := { g with st := 2, index := min pre (1000 * (x - g.armedAt) / max 1 d), base := v.free } } }) ∧
    (∃ (s u : State) (g : Gather), g = s.urx.gather ∧ g.st = 3 ∧ s.awake = true ∧ g.item < 63 ∧ s.pushItem g.queue
      (s.gatherItem g.item) 5 = some u) ∧
    (∃ (s u : State) (g : Gather), g = s.urx.gather ∧ g.st = 3 ∧ s.awake = true ∧ ¬ g.item < 63 ∧ s.pushItem g.queue
      (s.gatherItem g.item) 5 = some u) :=
  ⟨⟨urS.put URX_CTRL_BYP_AUTO 1, _, 0, rfl, by decide +kernel⟩,
    ⟨up, _, 0, rfl, by decide +kernel⟩,
    ⟨(urS.put URX_CTRL_BYP_AUTO 1).setUch 63 { phase := 2 }, _, 0, rfl, by decide +kernel⟩,
    ⟨up, _, false, 0, rfl⟩,
    ⟨{ up with urx := { up.urx with adcCheck := [true, true] } }, _, true, 0, rfl, by decide +kernel⟩,
    ⟨{ up with urx := { up.urx with gather := { st := 1, trigAt := some 0 } } }, _, _, _, _, _, 0, _, _, _, rfl, rfl, by
      decide +kernel, sg (by decide +kernel), rfl, rfl, rfl, rfl, rfl⟩,
    ⟨qS 5 |> fun s => { s with urx := { s.urx with gather := { st := 3, queue := 5 } } }, _, _, rfl, and3 (by decide +kernel)
      (sg (by decide +kernel))⟩,
    ⟨qS 5 |> fun s => { s with urx := { s.urx with gather := { st := 3, queue := 5, item := 63 } } }, _, _, rfl, and3 (by
      decide +kernel) (sg (by decide +kernel))⟩⟩

theorem wit_UrxRowsComplete_c :
    ∃ (s u : State) (g : Gather), g = s.urx.gather ∧ g.st = 3 ∧ s.awake = true ∧ u = s.advance (Config.sTicks + g.readAt) ∧
      u.pushItem g.queue (u.gatherItem g.item) 5 = none :=
  ⟨{ up with urx := { up.urx with gather := { st := 3, queue := 127 } } }, _, _, rfl, by decide +kernel, by decide +kernel,
      rfl, by decide +kernel⟩

theorem wit_UtxCommandsComplete :
    (∃ (s t u : State) (m : Master) (p : List Byte) (rate bits half id : Nat) (c : Option ReqCtx), s.comes m 0x43 p c t ∧
      firstFail [(32 ≤ p.length && p.length == 32 + u16 p 28, BAD_LENGTH), paramOk (s.sendTimeOk p), paramOk (u8 p 1 < 2 && u8
      p 2 < 128 && u8 p 3 < 64 && zeroAt p 30 2), paramOk (sendFieldsOk p)] = none ∧ (m == .m0 || (m == .m1 && u8 p 4 ≠ 0 &&
      t.flag UTX_CTRL_HOST_TX)) = true ∧ t.sys.role = 0 ∧ sendShape (u8 p 4) (u8 p 5) (u32 p 16) (u32 p 20) (u32 p 24) (u16 p
      28) = (rate, bits, half) ∧ t.utxQueue
      { id := 0, trig := u8 p 0, prio := u8 p 1 = 1, entry := u8 p 2, power := u8 p 3, format := u8 p 4, rate := rate, bits := bits, halfSpan := half, rxCh := u8 p 6, tol := u8 p 7, start := u64 p 8, lead := 0, data := p.drop 32, mod := (sendMod (u8 p 4) (u8 p 5) (u32 p 20)).1, dev := (sendMod (u8 p 4) (u8 p 5) (u32 p 20)).2 }
      = (u, ACCEPTED, id)) ∧
    (∃ (s t u v : State) (m : Master) (p : List Byte) (fs : List Nat) (c : Option ReqCtx), s.comes m 0x44 p c t ∧ fs =
      (List.range (u8 p 1)).map (fun k => u32 p (4 + 4 * k)) ∧ firstFail [(4 ≤ p.length && p.length == 4 + 4 * u8 p 1,
      BAD_LENGTH), paramOk (within 1 128 (u8 p 1) && u8 p 0 + u8 p 1 ≤ 128 && u8 p 2 < 2 && zeroAt p 3 1), paramOk (fs.all fun
      f => within 300000000 1000000000 f)] = none ∧ t.utx.sends = [] ∧ t.utx.tx = none ∧ u = (List.range (u8 p 1)).foldl (fun
      s k => (((s.stage t.utxQuiet 6 (UTX_CALTAB_LO_FREQ_HZ (u8 p 0 + k)) (fs.getD k 0)).stage t.utxQuiet 6
      (UTX_CALTAB_LO_VALID (u8 p 0 + k)) 0).stage t.utxQuiet 6 (UTX_CALTAB_LO_PERMITTED (u8 p 0 + k)) (bit01 (s.bandAt
      (fs.getD k 0) 0).isSome)).stage t.utxQuiet 6 (UTX_CALTAB_HI_BAND (u8 p 0 + k)) ((s.bandAt (fs.getD k 0) 0).getD 0)) t ∧
      v = (if u8 p 2 = 0 then u else (List.range (u8 p 1)).foldl (fun s k => if (s.bandAt (fs.getD k 0) 0).isSome then
      (s.calMark 0 (u8 p 0 + k) 0xFFFF).calAgain 0 (u8 p 0 + k) else s) u)) ∧
    (∃ (s t : State) (m : Master) (p : List Byte) (c : Option ReqCtx), s.comes m 0x45 p c t ∧ p.length = 4 ∧ u8 p 0 = 16 ∧ u8
      p 1 = 0 ∧ u8 p 2 = 0 ∧ zeroAt p 3 1 = true ∧ t.unitOn 6 = true ∧ t.pwr.reduced = false ∧ t.padHeld 3 = false ∧ t.padHeld
      9 = false ∧ t.safeState = false) ∧
    (∃ (s t : State) (m : Master) (p : List Byte) (c : Option ReqCtx), s.comes m 0x45 p c t ∧ p.length = 4 ∧ u8 p 0 = 1 ∧ u8 p
      1 = 0 ∧ u8 p 2 = 0 ∧ zeroAt p 3 1 = true ∧ t.unitOn 6 = true ∧ t.pwr.reduced = false ∧ t.padHeld 3 = false ∧ t.padHeld 9
      = false ∧ t.safeState = false) ∧
    (∃ (s t : State) (m : Master) (c : Option ReqCtx), s.comes m 0x46 [] c t) ∧
    (∃ (s t : State) (m : Master) (p : List Byte) (c : Option ReqCtx), s.comes m 0x48 p c t ∧ p.length = 4 ∧ bitsAt (u32 p 0)
      4 4 = 0 ∧ bitsAt (u32 p 0) 16 16 = 0 ∧ 1 ≤ bitsAt (u32 p 0) 8 8 ∧ t.flag UTX_CTRL_LOCK = false) ∧
    (∃ (s t : State) (m : Master) (p : List Byte) (c : Option ReqCtx), s.comes m 0x49 p c t ∧ p.length = 12 ∧ femOk (u32 p 0)
      (u32 p 4) = true ∧ u32 p 0 < 2 ^ 24 ∧ u32 p 4 < 2 ^ 24 ∧ u32 p 8 < 32 ∧ t.flag UTX_CTRL_LOCK = false) :=
  ⟨⟨utS, _, _, .m0, sendP, _, _, _, _, _, ⟨by decide +kernel, rfl⟩, and3 (by decide +kernel) ⟨rfl, trip (by decide +kernel)⟩⟩,
    ⟨up, _, _, _, .m0, [127, 1, 1, 0, 0, 0xA3, 0xE1, 0x11], _, _, ⟨by decide +kernel, rfl⟩, rfl, and3 (by decide +kernel)
      ⟨rfl, rfl⟩⟩,
    ⟨up, _, .m0, [16, 0, 0, 0], _, ⟨by decide +kernel, rfl⟩, by decide +kernel⟩,
    ⟨up, _, .m0, [1, 0, 0, 0], _, ⟨by decide +kernel, rfl⟩, by decide +kernel⟩,
    ⟨up, _, .m0, _, ⟨by decide +kernel, rfl⟩⟩,
    ⟨up, _, .m0, [0, 1, 0, 0], _, ⟨by decide +kernel, rfl⟩, by decide +kernel⟩,
    ⟨up, _, .m0, [255, 255, 255, 0, 50, 50, 50, 0, 31, 0, 0, 0], _, ⟨by decide +kernel, rfl⟩, by decide +kernel⟩⟩

theorem wit_UtxAndRfCalRowsComplete_a :
    (∃ (s : State) (x : UtxSend) (busy : Option Nat), s.utx.tx = none ∧ s.unitOn 6 = true ∧ s.urx.pllLost = false ∧ s.noRadio
      = false ∧ s.nextUtx s.utx.sends = some x ∧ x.lost = false) ∧
    (∃ (s : State) (x : UtxTx) (busy : Option Nat), s.utx.tx = some x ∧ x.phase = 1 ∧ s.urx.pllLost = false) ∧
    (∃ (s u : State) (x : UtxTx) (t : Nat), s.utx.tx = some x ∧ x.phase = 0 ∧ s.urx.pllLost = false ∧ x.lockLate = false ∧ u =
      (s.advance x.lockAt).modUtx (fun y => { y with synth := some x.send.entry }) ∧ x.listen = false) ∧
    (∃ (s u : State) (x : UtxTx) (t : Nat), s.utx.tx = some x ∧ x.phase = 0 ∧ s.urx.pllLost = false ∧ x.lockLate = false ∧ u =
      (s.advance x.lockAt).modUtx (fun y => { y with synth := some x.send.entry }) ∧ x.listen = true) ∧
    (∃ (s : State) (x : UtxTx), s.utx.tx = some x ∧ x.phase = 0 ∧ x.lockLate = false) ∧
    (∃ (s u : State) (t : Nat), u = (s.advance t).setGnt true ∧ u.utx.tx = none) ∧
    (∃ (s u : State) (x : UtxTx) (t : Nat), u = (s.advance t).setGnt true ∧ u.utx.tx = some x ∧ x.phase = 2) ∧
    (∃ (s u : State) (t : Nat), u = (s.advance t).setGnt false ∧ u.utx.tx = none) :=
  ⟨⟨utS.modUtx fun u => { u with sends := [sendU] }, _, none, and3 (by decide +kernel) ⟨by decide +kernel, sg (by
      decide +kernel), by decide +kernel⟩⟩,
    ⟨utS.modUtx fun u => { u with tx := some { txU with phase := 1 } }, _, none, sg (by decide +kernel), by decide +kernel⟩,
    ⟨utS.modUtx fun u => { u with tx := some txU }, _, _, 0, sg (by decide +kernel), and3 (by decide +kernel) ⟨rfl, by
      decide +kernel⟩⟩,
    ⟨utS.modUtx fun u => { u with tx := some { txU with listen := true } }, _, _, 0, sg (by decide +kernel), and3 (by
      decide +kernel) ⟨rfl, by decide +kernel⟩⟩,
    ⟨utS.modUtx fun u => { u with tx := some txU }, _, sg (by decide +kernel), by decide +kernel⟩,
    ⟨up, _, 0, rfl, by decide +kernel⟩,
    ⟨utS.modUtx fun u => { u with tx := some { txU with phase := 2 } }, _, _, 0, rfl, sg (by decide +kernel), by
      decide +kernel⟩,
    ⟨up, _, 0, rfl, by decide +kernel⟩⟩

theorem wit_UtxAndRfCalRowsComplete_b :
    (∃ (s u : State) (x : UtxTx) (t : Nat), u = (s.advance t).setGnt false ∧ u.utx.tx = some x ∧ x.phase = 3 ∧ (decide
      (u.time.now < x.eAt)) = true ∧ x.send.high = false ∧ u.flag UTX_COEX_CFG_EN = true ∧ u.flag UTX_COEX_CFG_HONOR_DROP =
      true) ∧
    (∃ (s : State) (x : UtxTx) (w : Nat), s.utx.tx = some x ∧ x.since = some w ∧ x.reqT = none ∧ x.phase = 2) ∧
    (∃ (s : State) (x : UtxTx) (w : Nat), s.utx.tx = some x ∧ x.since = some w ∧ x.reqT = none ∧ x.phase = 1) ∧
    (∃ (s : State) (x : UtxSend), firstWait s.utx.sends = some x) ∧
    (∃ (s u : State) (x : UtxTx), s.utx.tx = some x ∧ x.phase = 3 ∧ u = ((s.advance x.eAt).bump UTX_TX_COUNT).addDuty x.band
      x.bin x.send.airUs) ∧
    (∃ (s u : State) (x : UtxTx), s.utx.tx = some x ∧ x.phase = 3 ∧ u = (((s.advance x.eAt).bump UTX_TX_COUNT).addDuty x.band
      x.bin x.send.airUs).raise FID_UTX_TURNAROUND) ∧
    (∃ (s u : State) (i : Fin 128) (temp : BitVec 8) (t : Nat), i.val < 2 ∧ u =
      { s.advance t with sys := { (s.advance t).sys with temp := temp.toInt } } ∧ u.flag UTX_CAL_CFG_BG_EN = true ∧ (u.calItem
      3).valid = false) ∧
    (∃ (s u : State) (x : CalDue), s.flag UTX_CAL_CFG_BG_EN = true ∧ s.calPlace.nextCal s.calPlace.utx.due = some x ∧
      s.calPlace.time.ref ≤ s.calPlace.calTime x ∧ u = s.calPlace.advanceRef (s.calPlace.calTime x) ∧ ((x.item = 0 → x.idx ∈
      u.calEntries)) ∧ u.calMay x = true ∧ u.calBlock u.time.ref (stepTicks x.item) = none) :=
  ⟨⟨((utS.modUtx fun u => { u with tx := some { txU with phase := 3, eAt := 100 } }).put UTX_COEX_CFG_EN 1).put
      UTX_COEX_CFG_HONOR_DROP 1, _, _, 0, rfl, sg (by decide +kernel), by decide +kernel⟩,
    ⟨utS.modUtx fun u => { u with tx := some { txU with phase := 2, since := some 0 } }, _, _, sg (by decide +kernel), sg (by
      decide +kernel), by decide +kernel⟩,
    ⟨utS.modUtx fun u => { u with tx := some { txU with phase := 1, since := some 0 } }, _, _, sg (by decide +kernel), sg (by
      decide +kernel), by decide +kernel⟩,
    ⟨utS.modUtx fun u => { u with sends := [{ sendU with trig := 2 }] }, _, sg (by decide +kernel)⟩,
    ⟨utS.modUtx fun u => { u with tx := some { txU with phase := 3 } }, _, _, sg (by decide +kernel), by decide +kernel, rfl⟩,
    ⟨utS.modUtx fun u => { u with tx := some { txU with phase := 3 } }, _, _, sg (by decide +kernel), by decide +kernel, rfl⟩,
    ⟨utS.put UTX_CAL_CFG_BG_EN 1, _, 1, 0, 0, by decide +kernel, rfl, by decide +kernel⟩,
    ⟨(utS.put UTX_CAL_CFG_BG_EN 1).modUtx fun u => { u with due := [{ item := 0, idx := 0, calId := 0xFFFF }] }, _, _, by
      decide +kernel, sg (by decide +kernel), by decide +kernel, rfl, by decide +kernel⟩⟩

theorem wit_UtxAndRfCalRowsComplete_c :
    (∃ (s u v : State) (x : CalRun) (vco : BitVec 4) (cap : Byte) (gain : BitVec 6) (temp : BitVec 8), s.utx.run = some x ∧
      x.fg = false ∧ x.due.item = 3 ∧ x.again = false ∧ u =
      { s.advance (x.start + x.dur) with sys := { (s.advance (x.start + x.dur)).sys with temp := temp.toInt } } ∧ v =
      State.raise (((u.modUtx fun y => { y with run := none }).calDrop (u.dueNow x.due)).modUtx fun y =>
      { y with items := y.items.modify 3 fun i => { i with stale := true } }) FID_UTX_CAL_FAIL x.due.idx) ∧
    (∃ (s t u v : State) (x : CalRun) (vco : BitVec 4) (cap : Byte) (gain : BitVec 6) (temp : BitVec 8), s.utx.run = some x ∧
      x.fg = false ∧ x.due.item = 3 ∧ x.again = false ∧ t =
      { s.advance (x.start + x.dur) with sys := { (s.advance (x.start + x.dur)).sys with temp := temp.toInt } } ∧ u =
      State.calDrop (t.modUtx fun y => { y with run := none }) (t.dueNow x.due) ∧ v = (u.modUtx fun y =>
      { y with items := y.items.set 3 { valid := true, stale := false, temp := temp.toInt, at_ := u.time.lp } }).calAutoSave
      3) :=
  ⟨⟨utS.modUtx fun u =>
      { u with run := some { due := { item := 3, idx := 0, calId := 0xFFFF }, start := 0, dur := 100, fg := false } }, _, _,
      _, 0, 0, 0, 0, sg (by decide +kernel), and3 (by decide +kernel) ⟨rfl, rfl⟩⟩,
    ⟨utS.modUtx fun u =>
      { u with run := some { due := { item := 3, idx := 0, calId := 0xFFFF }, start := 0, dur := 100, fg := false } }, _, _,
      _, _, 0, 0, 0, 0, sg (by decide +kernel), and3 (by decide +kernel) ⟨rfl, rfl, rfl⟩⟩⟩

theorem wit_RangeZoneCommandsComplete :
    (∃ (s t u v : State) (m : Master) (p : List Byte) (vals : List (Field × Nat)) (b : Nat) (amb : Int) (c : Option ReqCtx),
      s.comes m 0x50 p c t ∧ firstFail [lenIs p 28, paramOk (u32 p 0 < 2 ^ 30 && within 100000 2000000 (u32 p 4) && within 8
      80 (u8 p 8)), paramOk (u8 p 9 < 128 && u8 p 10 < 128 && u8 p 11 < 64 && u16 p 12 ≤ 10000), paramOk (within 4 (u8 p 8)
      (u8 p 18) && u8 p 19 ≤ 40 && within 1 63 (u8 p 20) && u8 p 21 = 0), paramOk (within 10 1000 (u16 p 22) && within 5 255
      (u8 p 25))] = none ∧ t.flag RANGE_CTRL_LOCK = false ∧ t.range.run = none ∧ t.planBand (u32 p 0) (u32 p 4) (u8 p 8) (u8 p
      9) (u8 p 10) = some b ∧ vals = [(RANGE_PLAN_F0, u32 p 0), (RANGE_PLAN_SP, u32 p 4), (RANGE_PLAN_CFG, u8 p 8 + 2 ^ 8 * u8
      p 9 + 2 ^ 16 * u8 p 10 + 2 ^ 24 * u8 p 11), (RANGE_TIMING, u16 p 12), (RANGE_TRIM, u32 p 14), (RANGE_QUAL_CFG, u8 p 18 +
      2 ^ 8 * u8 p 19 + 2 ^ 16 * u8 p 20), (RANGE_THR, u16 p 22 + 2 ^ 16 * u8 p 24), (RANGE_THR2, u8 p 25 + 2 ^ 8 * u8 p 26 +
      2 ^ 16 * u8 p 27)] ∧ u = vals.foldl (fun s x => s.put x.1 x.2) t ∧ u.rounded 1498962290 (u32 p 4) = (amb, v)) ∧
    (∃ (s t : State) (m : Master) (p : List Byte) (a : RangeAsk) (c : Option ReqCtx), s.comes m 0x51 p c t ∧ a =
      { mode := u8 p 0, flags := u8 p 1, rxCh := u8 p 2, zoneSrc := u8 p 3, org := u64 p 4, seed := (p.drop 12).take 16, chips := (p.drop 28).take 16 }
      ∧ firstFail [lenIs p 48, paramOk (s.rangeAskOk a && zeroAt p 44 4)] = none ∧ (m == .m2 || (m == .m1 && !t.flag
      RANGE_CTRL_HOST_RUN)) = false ∧ t.rangeRefusal = none) ∧
    (∃ (s t : State) (m : Master) (p b : List Byte) (c : Option ReqCtx), s.comes m 0x52 p c t ∧ p.length = 2 ∧ u16 p 0 =
      0xFFFF ∧ t.range.results.head? = some b) ∧
    (∃ (s t : State) (m : Master) (p b : List Byte) (c : Option ReqCtx), s.comes m 0x52 p c t ∧ p.length = 2 ∧ u16 p 0 ≠
      0xFFFF ∧ t.range.run = none ∧ t.range.results.find? (fun b => u16 b 0 == u16 p 0) = some b) ∧
    (∃ (s t u v w : State) (m : Master) (p : List Byte) (dz : Nat → Nat) (c : Option ReqCtx), s.comes m 0x53 p c t ∧ firstFail
      [lenIs p 72, paramOk (within 1 16 (bitsAt (u32 p 0) 0 5) && bitsAt (u32 p 0) 5 3 = 0 && bitsAt (u32 p 0) 8 8 ≤ 40),
      paramOk (bitAt (u8 p 4) 1 = 0 && u8 p 4 < 8 && zeroAt p 5 3), paramOk ((List.range 8).all fun z => u8 p (10 + 4 * z) < 2
      && u8 p (11 + 4 * z) = 0 && (u8 p (10 + 4 * z) = 0 || u8 p (8 + 4 * z) ≤ u8 p (9 + 4 * z)))] = none ∧ t.flag
      ZONE_CTRL_LOCK = false ∧ dz = (fun z => u8 p (8 + 4 * z) + 256 * u8 p (9 + 4 * z) + 65536 * u8 p (10 + 4 * z)) ∧ u =
      (List.range 8).foldl (fun s z => s.stage t.zoneQuiet 8 (ZONE_D z) (dz z)) ((t.stage t.zoneQuiet 8 ZONE_CFG (u32 p
      0)).stage t.zoneQuiet 8 ZONE_CTRL_OFFSET_FREE (bitAt (u8 p 4) 2)) ∧ v = (List.range 4).foldl (fun s w => (s.stage
      t.zoneQuiet 8 (ZONE_WD_LO w) (u32 p (40 + 8 * w))).stage t.zoneQuiet 8 (ZONE_WD_HI w) (u32 p (44 + 8 * w))) u ∧ w = (if
      t.zoneQuiet then (v.stage true 8 ZONE_CTRL_EN (bitAt (u8 p 4) 0)).unitSwitch 8 (bitAt (u8 p 4) 0 == 1) false else
      v.stage false 8 ZONE_CTRL_EN (bitAt (u8 p 4) 0))) ∧
    (∃ (s t : State) (m : Master) (p : List Byte) (c : Option ReqCtx), s.comes m 0x54 p c t ∧ p.length = 1 ∧ u8 p 0 = 0) ∧
    (∃ (s t u v : State) (m : Master) (p : List Byte) (pat : Nat → Nat) (c : Option ReqCtx), s.comes m 0x54 p c t ∧ u8 p 0 = 1
      ∧ firstFail [(m != .m2 || u8 p 0 = 0, ACCESS_DENIED), paramOk (u8 p 0 < 2), (p.length == (if u8 p 0 = 1 then 68 else 1),
      BAD_LENGTH), paramOk (u8 p 0 = 0 || (within 1 16 (u8 p 1) && zeroAt p 2 2 && (List.range 16).all fun k => u8 p (4 + k) <
      32 || u8 p (4 + k) = 0xFF))] = none ∧ t.unit 8 = .on ∧ t.zone.solve = none ∧ pat = (fun k => if k < u8 p 1 then u8 p (4
      + k) else 0xFF) ∧ u = (List.range 4).foldl (fun s i => s.put (ZONE_SLOTPAT i) (pat (4 * i) + 256 * pat (4 * i + 1) +
      65536 * pat (4 * i + 2) + 16777216 * pat (4 * i + 3))) t ∧ v = (List.range 12).foldl (fun s i => s.put (ZONE_IN i) (u32
      p (20 + 4 * i))) u) :=
  ⟨⟨rgS, _, _, _, .m0, [0, 0x84, 0xD7, 0x17, 0x40, 0x42, 0xF, 0, 8, 0, 0, 63, 0x10, 0x27, 0, 0, 0, 0, 8, 40, 63, 0, 0xE8, 3,
      0, 255, 0, 0], _, _, _, _, ⟨by decide +kernel, rfl⟩, and3 (by decide +kernel) ⟨sg (by decide +kernel), rfl, rfl, rfl⟩⟩,
    ⟨rgS, _, .m0, [1, 0, 63, 7] ++ zs 44, _, _, ⟨by decide +kernel, rfl⟩, rfl, by decide +kernel⟩,
    ⟨{ up with range := { up.range with results := [zs 64] } }, _, .m0, [0xFF, 0xFF], zs 64, _, ⟨by decide +kernel, rfl⟩, by
      decide +kernel⟩,
    ⟨{ up with range := { up.range with results := [zs 64] } }, _, .m0, [0, 0], zs 64, _, ⟨by decide +kernel, rfl⟩, by
      decide +kernel⟩,
    ⟨up, _, _, _, _, .m0, [16, 40, 0, 0, 5] ++ zs 67, _, _, ⟨by decide +kernel, rfl⟩, by decide +kernel, by decide +kernel,
      rfl, rfl, rfl, rfl⟩,
    ⟨up, _, .m0, [0], _, ⟨by decide +kernel, rfl⟩, by decide +kernel⟩,
    ⟨up, _, _, _, .m0, [1, 16] ++ zs 66, _, _, ⟨by decide +kernel, rfl⟩, and3 (by decide +kernel) ⟨by decide +kernel, rfl,
      rfl, rfl⟩⟩⟩

theorem wit_RangeZoneRowsComplete_a :
    (∃ (s : State) (m : Master), s.reaches m RANGE_CMD.addr = true) ∧
    (∃ (s : State) (x : RangeRun) (n k o r f d : Nat), s.range.run = some x ∧ x.o = none ∧ x.mode = 1 ∧ x.trig = some n ∧ o =
      n + Config.usTicks * (200 + x.delay) ∧ r = s.refAhead (o - s.time.now) ∧ f = r - 50 * Config.usTicks ∧ d =
      Config.usTicks * (100 + x.lenUs) ∧ s.freeSlot = some k ∧ s.exclusiveOver resRadio f d = false) ∧
    (∃ (s u : State) (x : RangeRun) (o : Nat × Nat), s.range.run = some x ∧ x.o = some o ∧ x.stage = 0 ∧ u = (s.advance (x.at_
      (-50))).utxYield ∧ u.sys.region.ok = true ∧ u.flag (UTX_CALTAB_LO_PERMITTED x.rttEntry) = true ∧ u.dutyUsed (u.get
      (UTX_CALTAB_HI_BAND x.rttEntry)) + 133 + 24 * x.n ≤ u.dutyLimit (u.get (UTX_CALTAB_HI_BAND x.rttEntry))) ∧
    (∃ (s u : State) (x : RangeRun) (y : RangeMeas), s.range.run = some x ∧ x.stage = 1 ∧ y.locked = true ∧ s.utx.freeAt ≤
      x.at_ 20 ∧ s.rangeSend x (y.blocked && s.lbtUs x.rttEntry ≠ 0) (x.at_ 20) (x.at_ 153) x.rttEntry 133 (x.burst (s.entFreq
      x.rttEntry)) 0 = (u, true)) ∧
    (∃ (s : State) (x : RangeRun) (y : RangeMeas), s.range.run = some x ∧ x.stage = 2 ∧ 4 * s.get RANGE_QUAL_CFG_MIN_SNR_DB ≤
      y.snr.toNat) ∧
    (∃ (s u v : State) (x : RangeRun) (y : RangeMeas), s.range.run = some x ∧ x.stage = 3 ∧ x.abortAt = none ∧ x.skipTones =
      false ∧ x.k < x.n ∧ y.locked = true ∧ y.loopback = true ∧ s.utx.freeAt ≤ x.at_ (500 + 95 * x.k) ∧ 4 * s.get
      RANGE_QUAL_CFG_MIN_SNR_DB ≤ y.snr.toNat ∧ s.rangeSend x false (x.at_ (500 + 95 * x.k)) (x.at_ (500 + 95 * x.k + 24))
      (x.first + x.tone x.k) 24 [x.f0 + x.tone x.k * x.sp] (u8 x.rnd x.k) = (u, true) ∧ v = (u.put RANGE_STATUS_PHASE (if x.k
      + 1 = x.n then 3 else 2)).advance (x.at_ (500 + 95 * x.k + 38))) ∧
    (∃ (s : State) (x : RangeRun), s.range.run = some x ∧ x.mode = 1 ∧ x.trig = none) ∧
    (∃ (s : State) (x : RangeRun) (o : Nat × Nat) (t : Nat), s.range.run = some x ∧ x.o = some o ∧ x.stage = 3 ∧ x.n ≤ x.k ∧
      x.abortAt = none) :=
  ⟨⟨up, .m0, by decide +kernel⟩,
    ⟨{ rgS with range := { rgS.range with run := some { runR with mode := 1, trig := some 0 } } }, _, _, _, _, _, _, _, sg (by
      decide +kernel), by decide +kernel, by decide +kernel, sg (by decide +kernel), rfl, rfl, rfl, rfl, sg (by
      decide +kernel), by decide +kernel⟩,
    ⟨{ rgS with range := { rgS.range with run := some { runR with o := some (1000000, 1000000) } } }, _, _, _, sg (by
      decide +kernel), sg (by decide +kernel), by decide +kernel, rfl, by decide +kernel⟩,
    ⟨{ rgS with range := { rgS.range with run := some { runR with o := some (1000000, 1000000), stage := 1 } } }, _, _, measR,
      sg (by decide +kernel), and3 (by decide +kernel) (tup (by decide +kernel))⟩,
    ⟨{ rgS with range := { rgS.range with run := some { runR with o := some (1000000, 1000000), stage := 2 } } }, _, measR, sg
      (by decide +kernel), by decide +kernel⟩,
    ⟨{ rgS with range := { rgS.range with run := some { runR with o := some (1000000, 1000000), stage := 3, k := 7 } } }, _,
      _, _, measR, sg (by decide +kernel), and3 (by decide +kernel) (and3 (by decide +kernel) ⟨by decide +kernel, by
      decide +kernel, tup (by decide +kernel), rfl⟩)⟩,
    ⟨{ rgS with range := { rgS.range with run := some { runR with mode := 1 } } }, _, sg (by decide +kernel), by
      decide +kernel⟩,
    ⟨{ rgS with range := { rgS.range with run := some { runR with o := some (1000000, 1000000), stage := 3, k := 8 } } }, _,
      _, 0, sg (by decide +kernel), sg (by decide +kernel), by decide +kernel⟩⟩

theorem wit_RangeZoneRowsComplete_b :
    (∃ (s : State) (m : Master), s.reaches m ZONE_CMD.addr = true ∧ s.zoneFree = true) ∧
    (∃ (s u : State) (x : Solve) (t : Nat), s.zone.solve = some x ∧ u = ((s.advance (min t (Config.msTicks + x.at_))).modZone
      fun z => { z with solve := none }).zoneFinish x) ∧
    (∃ (s u : State) (x : FieldMap) (b : List Byte) (t : Nat), u = s.advance t ∧ u.zone.pend = some (x, b) ∧ u.zone.written =
      false) ∧
    (∃ (s u : State) (x : FieldMap) (b : List Byte) (t : Nat), u = s.advance t ∧ u.zone.pend = some (x, b) ∧ u.zone.written =
      false) ∧
    (∃ (s u : State) (x : FieldMap) (b : List Byte), s.zone.pend = some (x, b) ∧ s.zone.written = true ∧ s.lfQuiet = true ∧
      s.zone.solve = none ∧ u = (s.modZone fun z => { z with pend := none, written := false }).useMap (1 - s.zone.copy)
      ((s.zone.seq + 1) % 2 ^ 32) (some x)) :=
  ⟨⟨up, .m0, by decide +kernel⟩,
    ⟨up.modZone fun z =>
      { z with solve := some { map := none, out := [], at_ := 0, vals := [], pats := [], master := .m0, ctx := none, query := true } },
      _, _, 0, sg (by decide +kernel), rfl⟩,
    ⟨up.modZone fun z => { z with pend := some (parseMap mapB, mapB) }, _, _, _, 0, rfl, sg2 (by decide +kernel), by
      decide +kernel⟩,
    ⟨up.modZone fun z => { z with pend := some (parseMap mapB, mapB) }, _, _, _, 0, rfl, sg2 (by decide +kernel), by
      decide +kernel⟩,
    ⟨up.modZone fun z => { z with pend := some (parseMap mapB, mapB), written := true }, _, _, _, sg2 (by decide +kernel),
      and3 (by decide +kernel) rfl⟩⟩

theorem wit_CredCommandsComplete :
    (∃ (s t u : State) (m : Master) (p r : List Byte) (i : Nat) (c : Option ReqCtx), s.comes m 0x60 p c t ∧ firstFail [lenIs p
      68, paramOk (u8 p 0 < 2 && zeroAt p 1 3 && entryOk (p.drop 4) false)] = none ∧ t.credOff = false ∧ u8 p 0 = 1 ∧
      t.dirFindNew ((p.drop 4).take 12) = some i ∧ u = t.bump AES_UNWRAPS ∧ r = rowWithCtr (p.drop 4) (max (u32 (p.drop 4) 20)
      (u32 (u.dirNew i) 20))) ∧
    (∃ (s t u : State) (m : Master) (p : List Byte) (i : Nat) (c : Option ReqCtx), s.comes m 0x60 p c t ∧ firstFail [lenIs p
      68, paramOk (u8 p 0 < 2 && zeroAt p 1 3 && entryOk (p.drop 4) false)] = none ∧ t.credOff = false ∧ t.dirFindNew ((p.drop
      4).take 12) = none ∧ (t.bump AES_UNWRAPS).takeRow = some (i, u)) ∧
    (∃ (s t : State) (m : Master) (p row : List Byte) (i fl : Nat) (c : Option ReqCtx), s.comes m 0x62 p c t ∧ p.length = 12 ∧
      t.credOff = false ∧ t.dirFind p = some i ∧ row = t.dirRow i ∧ fl = bit01 (rowEpoch row < t.epochOf (rowIssuer row)) + 4
      * bit01 (t.rowExpired row) + 8 * bit01 (t.credLocked p) + 16 * bit01 (t.popEntry p).isSome) ∧
    (∃ (s t : State) (m : Master) (p row : List Byte) (f : PopFound) (fl : Nat) (c : Option ReqCtx), s.comes m 0x62 p c t ∧
      p.length = 12 ∧ t.credOff = false ∧ t.dirFind p = none ∧ t.popEntry p = some f ∧ row = f.blob.take 64 ∧ fl = bit01
      (rowEpoch row < t.epochOf (rowIssuer row)) + 2 * bit01 (t.mapRevoked f.index) + 4 * bit01 (t.rowExpired row) + 8 * bit01
      (t.credLocked p)) ∧
    (∃ (s t u : State) (m : Master) (p : List Byte) (c : Option ReqCtx), s.comes m 0x63 p c t ∧ u8 p 0 = 0 ∧ p.length = 20 ∧
      popParamOk p = true ∧ t.credOff = false ∧ t.cred.pop = none ∧ t.cred.build = 0 ∧ t.hif.flashOk = true ∧ u = t.modCred
      (fun k =>
      { k with build := 1, header := mkHeader (u8 p 4) (u32 p 8) (u32 p 12) (u32 p 16), popFailed := false, mapLoading := false })) ∧
    (∃ (s t : State) (m : Master) (p : List Byte) (c : Option ReqCtx), s.comes m 0x63 p c t ∧ u8 p 0 = 1 ∧ firstFail [(1 ≤
      p.length, BAD_LENGTH), paramOk (u8 p 0 < 6), (popLenOk p, BAD_LENGTH), paramOk (popParamOk p)] = none ∧ t.credOff =
      false ∧ t.cred.pop = none ∧ t.cred.build = 2) ∧
    (∃ (s t : State) (m : Master) (p : List Byte) (c : Option ReqCtx), s.comes m 0x63 p c t ∧ u8 p 0 = 2 ∧ p.length = 4 ∧
      popParamOk p = true ∧ t.credOff = false ∧ t.cred.pop = none ∧ t.cred.build = 2) ∧
    (∃ (s t u : State) (m : Master) (p : List Byte) (c : Option ReqCtx), s.comes m 0x63 p c t ∧ 3 ≤ u8 p 0 ∧ firstFail [(1 ≤
      p.length, BAD_LENGTH), paramOk (u8 p 0 < 6), (popLenOk p, BAD_LENGTH), paramOk (popParamOk p)] = none ∧ t.credOff =
      false ∧ t.cred.pop = none ∧ t.popChange m c p = (u, none)) ∧
    (∃ (s t : State) (m : Master) (p : List Byte) (c : Option ReqCtx), s.comes m 0x64 p c t ∧ p.length = 4 ∧ u8 p 0 < 16 ∧ u8
      p 1 = 0 ∧ t.credOff = false ∧ t.epochOf (u8 p 0) < u16 p 2 ∧ t.cred.epoch = none) :=
  ⟨⟨dirS, _, _, .m0, [1, 0, 0, 0] ++ rowC, _, _, _, ⟨by decide +kernel, rfl⟩, and3 (by decide +kernel) ⟨sg (by
      decide +kernel), rfl, rfl⟩⟩,
    ⟨kekS, _, _, .m0, [0, 0, 0, 0] ++ rowC, _, _, ⟨by decide +kernel, rfl⟩, and3 (by decide +kernel) (sg2 (by
      decide +kernel))⟩,
    ⟨dirS, _, .m0, rowC.take 12, _, _, _, _, ⟨by decide +kernel, rfl⟩, by decide +kernel, by decide +kernel, sg (by
      decide +kernel), rfl, rfl⟩,
    ⟨popS, _, .m0, rowC.take 12, _, _, _, _, ⟨by decide +kernel, rfl⟩, and3 (by decide +kernel) ⟨sg (by decide +kernel), rfl,
      rfl⟩⟩,
    ⟨up, _, _, .m0, [0, 0, 0, 0, 16, 0, 0, 0] ++ zs 8 ++ [0x90, 0xD0, 3, 0], _, ⟨by decide +kernel, rfl⟩, and3 (by
      decide +kernel) (and3 (by decide +kernel) ⟨by decide +kernel, rfl⟩)⟩,
    ⟨up.modCred fun c => { c with build := 2 }, _, .m0, [1, 0, 0, 0, 0, 0x10, 0, 0] ++ zs 240, _, ⟨by decide +kernel, rfl⟩, by
      decide +kernel⟩,
    ⟨up.modCred fun c => { c with build := 2 }, _, .m0, [2, 0, 0, 0], _, ⟨by decide +kernel, rfl⟩, by decide +kernel⟩,
    ⟨popS, _, _, .m0, [5, 0, 0, 0, 0, 0, 0, 0], _, ⟨by decide +kernel, rfl⟩, and3 (by decide +kernel) ⟨by decide +kernel, tup
      (by decide +kernel)⟩⟩,
    ⟨up, _, .m0, [15, 0, 1, 0], _, ⟨by decide +kernel, rfl⟩, by decide +kernel⟩⟩

theorem wit_AuthCommandsComplete :
    (∃ (s t : State) (m : Master) (p : List Byte) (pats : List Nat) (c : Option ReqCtx), s.comes m 0x65 p c t ∧ pats =
      (List.range (u8 p 2)).map (fun k => u8 p (4 + k)) ∧ firstFail [lenIs p 20, paramOk (u8 p 0 < 2 && u8 p 1 < 2 && u8 p 3 =
      0), paramOk (decide (u8 p 1 = 1) || (u8 p 2 ≤ 16 && pats.all (· < 32) && zeroAt p (4 + u8 p 2) (16 - u8 p 2)))] = none ∧
      t.auth.att = none ∧ t.globalLocked = false ∧ t.authUnits = true) ∧
    (∃ (s t : State) (m : Master) (p r : List Byte) (c : Option ReqCtx), s.comes m 0x66 p c t ∧ p.length = 2 ∧ t.sys.role = 0
      ∧ t.auth.att = none ∧ u16 p 0 = 0xFFFF ∧ t.auth.results.head? = some r) ∧
    (∃ (s t : State) (m : Master) (p r : List Byte) (c : Option ReqCtx), s.comes m 0x66 p c t ∧ p.length = 2 ∧ t.sys.role = 0
      ∧ t.auth.att = none ∧ u16 p 0 ≠ 0xFFFF ∧ t.auth.results.find? (fun r => u16 r 0 == u16 p 0) = some r) ∧
    (∃ (s t : State) (m : Master) (c : Option ReqCtx) (g : Nat), s.comes m 0x67 [] c t ∧ t.sys.role = 0 ∧ g =
      (t.cred.lockedUntil.map t.msUntil).getD 0) ∧
    (∃ (s t : State) (m : Master) (p : List Byte) (c : Option ReqCtx) (r : LockRow) (g : Nat), s.comes m 0x67 p c t ∧ p.length
      = 12 ∧ t.sys.role = 0 ∧ t.lockRow p = some r ∧ g = (t.cred.lockedUntil.map t.msUntil).getD 0) ∧
    (∃ (s t : State) (m : Master) (p : List Byte) (c : Option ReqCtx) (r : LockRow), s.comes m 0x68 p c t ∧ p.length = 16 ∧ u8
      p 0 = 1 ∧ zeroAt p 1 3 = true ∧ t.sys.role = 0 ∧ t.lockRow (p.drop 4) = some r) ∧
    (∃ (s t : State) (m : Master) (p : List Byte) (c : Option ReqCtx), s.comes m 0x68 p c t ∧ p.length = 4 ∧ u8 p 0 = 0 ∧
      zeroAt p 1 3 = true ∧ t.sys.role = 0) ∧
    (∃ (s t : State) (m : Master) (p : List Byte) (c : Option ReqCtx), s.comes m 0x68 p c t ∧ p.length = 4 ∧ u8 p 0 = 2 ∧
      zeroAt p 1 3 = true ∧ t.sys.role = 0) :=
  ⟨⟨up, _, .m0, [0, 0, 16, 0] ++ zs 16, _, _, ⟨by decide +kernel, rfl⟩, rfl, by decide +kernel⟩,
    ⟨{ up with auth := { up.auth with results := [zs 64] } }, _, .m0, [0xFF, 0xFF], zs 64, _, ⟨by decide +kernel, rfl⟩, by
      decide +kernel⟩,
    ⟨{ up with auth := { up.auth with results := [zs 64] } }, _, .m0, [0, 0], zs 64, _, ⟨by decide +kernel, rfl⟩, by
      decide +kernel⟩,
    ⟨up, _, .m0, _, _, ⟨by decide +kernel, rfl⟩, by decide +kernel, rfl⟩,
    ⟨lockS, _, .m0, zs 12, _, _, _, ⟨by decide +kernel, rfl⟩, by decide +kernel, by decide +kernel, sg (by decide +kernel),
      rfl⟩,
    ⟨lockS, _, .m0, [1, 0, 0, 0] ++ zs 12, _, _, ⟨by decide +kernel, rfl⟩, and3 (by decide +kernel) ⟨by decide +kernel, sg (by
      decide +kernel)⟩⟩,
    ⟨up, _, .m0, zs 4, _, ⟨by decide +kernel, rfl⟩, by decide +kernel⟩,
    ⟨up, _, .m0, [2, 0, 0, 0], _, ⟨by decide +kernel, rfl⟩, by decide +kernel⟩⟩

theorem wit_CredAuthRowsComplete :
    (∃ (s : State) (m : Master) (v : Word), s.reaches m CRED_LK_CMD.addr = true) ∧
    (∃ (s u v : State) (x : LookReq) (l : List LookReq) (r : LookRes) (ns : BitVec 32) (flash : Bool) (t : Nat), u = s.advance
      t ∧ u.cred.looks = x :: l ∧ u.awake = true ∧ u.popWaits = false ∧ (u.modCred fun c => { c with looks := l }).lookRun x
      ns.toNat flash = (v, r)) ∧
    (∃ (s u : State) (t : Nat), u = s.advance t ∧ u.cred.mapLoading = true ∧ u.awake = true ∧ u.hif.flashOk = true) ∧
    (∃ (s u : State) (t : Nat), u = s.advance t ∧ u.cred.build = 1 ∧ u.awake = true) ∧
    (∃ (s u : State) (h : PopHdr) (n t : Nat), u = s.advance t ∧ u.cred.build = 3 ∧ u.awake = true ∧ parseHdr u.cred.header =
      some h ∧ u.verifyBank h = (true, n)) ∧
    (∃ (s : State) (t : Nat), nextUnlock s.cred.locks = some t) ∧
    (∃ (s : State) (t : Nat), s.cred.lockedUntil = some t) ∧
    (∃ (s u : State) (w : RowWrite) (l : List RowWrite) (t : Nat), u = s.advance t ∧ u.cred.rows = w :: l ∧ u.awake = true ∧
      w.kind = 2) ∧
    (∃ (s : State) (a : Attempt), s.auth.att = some a ∧ a.stage = 2 ∧ a.chans = [] ∧ a.answers ≠ []) ∧
    (∃ (s : State) (a : Attempt), s.auth.att = some a ∧ a.stage = 6 ∧ a.xch = none) :=
  ⟨⟨up, .m0, 0, by decide +kernel⟩,
    ⟨up.modCred fun c => { c with mapLoading := false, looks := [{ who := 0, id := zs 12, kslot := 24, noUnwrap := true }] },
      _, _, _, _, _, 0, false, 0, rfl, rfl, by decide +kernel, by decide +kernel, rfl⟩,
    ⟨up, _, 0, rfl, by decide +kernel⟩,
    ⟨up.modCred fun c => { c with build := 1 }, _, 0, rfl, by decide +kernel⟩,
    ⟨up.modCred fun c => { c with build := 3, header := mkHeader 10 0 0 1 }, _, _, _, 0, rfl, by decide +kernel, by
      decide +kernel, sg (by decide +kernel), put (by decide +kernel)⟩,
    ⟨lockS, _, sg (by decide +kernel)⟩,
    ⟨up.modCred fun c => { c with lockedUntil := some 5 }, _, sg (by decide +kernel)⟩,
    ⟨up.modCred fun c => { c with rows := [{ idx := 0, row := zs 64, kind := 2 }] }, _, _, _, 0, rfl, rfl, by decide +kernel⟩,
    ⟨{ up with auth := { up.auth with att := some { attA with stage := 2, answers := [{ ch := 0, at_ := 0, ref := 0, bytes := [] }] } } },
      _, sg (by decide +kernel), by decide +kernel⟩,
    ⟨{ up with auth := { up.auth with att := some { attA with stage := 6 } } }, _, sg (by decide +kernel), by decide +kernel⟩⟩

theorem wit_RelCommandsComplete :
    (∃ (s t u v : State) (m : Master) (p : List Byte) (cfg pol fb : Nat) (q : Bool) (c : Option ReqCtx), s.comes m 0x70 p c t
      ∧ firstFail [lenIs p 16, paramOk (u8 p 0 < 2 && u8 p 1 < 3 && within 5 120 (u8 p 2) && u8 p 3 < 64 && within 2 50 (u8 p
      5) && u16 p 6 ≤ 1000 && within 1 50 (u8 p 8) && within 5 250 (u8 p 9) && within 1 20 (u8 p 10) && zeroAt p 11 5)] = none
      ∧ cfg = u8 p 2 + 2 ^ 8 * bitsAt (u8 p 4) 0 4 + 2 ^ 12 * bitsAt (u8 p 4) 4 4 + 2 ^ 16 * u16 p 6 ∧ pol = u8 p 3 + 2 ^ 8 *
      u8 p 1 + 2 ^ 16 * u8 p 5 ∧ fb = u8 p 8 + 2 ^ 8 * u8 p 9 + 2 ^ 16 * u8 p 10 ∧ t.flag REL_CTRL_LOCK = false ∧ q = decide
      (t.rel.sess = 0) ∧ u = ((t.stage q 10 REL_CFG cfg).stage q 10 REL_POLICY pol).stage q 10 REL_FB_CFG fb ∧ v = (if decide
      (u8 p 0 = 1) != u.flag REL_CTRL_EN then (u.putB REL_CTRL_EN (u8 p 0 = 1)).relEnable (u8 p 0 = 1) else u)) ∧
    (∃ (s t u : State) (m : Master) (p : List Byte) (c : Option ReqCtx), s.comes m 0x71 p c t ∧ p.length = 4 ∧ u8 p 0 < 3 ∧ u8
      p 1 = 0 ∧ u16 p 2 ≤ 3600 ∧ t.sys.role = 0 ∧ t.sys.test = false ∧ t.sys.cfgDefaults = false ∧ (u = t.modRel (fun r =>
      { r with armMode := u8 p 0, armUntil := if u8 p 0 ≠ 0 ∧ u16 p 2 ≠ 0 then some (t.time.lp + lpOfS (u16 p 2)) else none }))) ∧
    (∃ (s t : State) (m : Master) (c : Option ReqCtx), s.comes m 0x72 [] c t ∧ t.rel.sess = 0) ∧
    (∃ (s t : State) (m : Master) (c : Option ReqCtx), s.comes m 0x72 [] c t ∧ t.rel.sess = 2) ∧
    (∃ (s t : State) (m : Master) (p : List Byte) (c : Option ReqCtx), s.comes m 0x74 p c t ∧ p.length = 12 ∧ u8 p 0 = 0 ∧ u8
      p 1 < 4 ∧ u8 p 2 < 8 ∧ u8 p 3 < 64 ∧ u16 p 4 ≤ 10000 ∧ within 1 3600 (u16 p 6) = true ∧ 1 ≤ u8 p 8 ∧ zeroAt p 9 3 =
      true) ∧
    (∃ (s t : State) (m : Master) (p : List Byte) (c : Option ReqCtx), s.comes m 0x74 p c t ∧ p.length = 16 ∧ u8 p 0 = 1 ∧
      zeroAt p 1 3 = true ∧ (List.range 6).all (fun i => u16 p (4 + 2 * i) ≤ 60000) = true) ∧
    (∃ (s t u : State) (m : Master) (p : List Byte) (ls : List Nat) (c : Option ReqCtx), s.comes m 0x74 p c t ∧ p.length = 12
      ∧ u8 p 0 = 2 ∧ u8 p 1 < 16 ∧ zeroAt p 2 2 = true ∧ u64 p 4 = 0 ∧ ls = (List.range 4).filter (fun l => bitAt (u8 p 1) l
      == 1) ∧ t.ewActive = true ∧ (ls.any fun l => !t.flag (EWAKE_CFG_EN l)) = false ∧ u = ls.foldl (fun s l => if (s.ewLine
      l).on then s.ewExtend l (max (u64 p 4) s.time.ref) else s.ewPlace l 0xFF (u64 p 4)) t) ∧
    (∃ (s t u : State) (m : Master) (p : List Byte) (w : Nat) (c : Option ReqCtx), s.comes m 0x75 p c t ∧ p.length = 12 ∧ u8 p
      0 < 4 ∧ u8 p 1 < 4 ∧ within 4 40 (u8 p 2) = true ∧ within 5 50 (u8 p 3) = true ∧ zeroAt p 5 3 = true ∧ (List.range
      4).all (fun i => 5 ≤ u8 p (8 + i)) = true ∧ t.flag REL_CTRL_LOCK = false ∧ w = u8 p 0 + u8 p 1 * 4 + 2 ^ 8 * u8 p 2 + 2
      ^ 16 * u8 p 3 + 2 ^ 24 * u8 p 4 ∧ u = (t.put REL_TT_CFG w).put REL_TT_PAT (u32 p 8)) :=
  ⟨⟨up, _, _, _, .m0, [1, 2, 120, 63, 0xFF, 50, 0xE8, 3, 50, 250, 20] ++ zs 5, _, _, _, _, _, ⟨by decide +kernel, rfl⟩, by
      decide +kernel, rfl, rfl, rfl, by decide +kernel, rfl, rfl, rfl⟩,
    ⟨up, _, _, .m0, [2, 0, 0x10, 0xE], _, ⟨by decide +kernel, rfl⟩, and3 (by decide +kernel) (and3 (by decide +kernel) ⟨by
      decide +kernel, rfl⟩)⟩,
    ⟨up, _, .m0, _, ⟨by decide +kernel, rfl⟩, by decide +kernel⟩,
    ⟨up.modRel fun r => { r with sess := 2 }, _, .m0, _, ⟨by decide +kernel, rfl⟩, by decide +kernel⟩,
    ⟨up, _, .m0, [0, 3, 7, 63, 0x10, 0x27, 0x10, 0xE, 255, 0, 0, 0], _, ⟨by decide +kernel, rfl⟩, by decide +kernel⟩,
    ⟨up, _, .m0, [1, 0, 0, 0, 0x60, 0xEA, 0x60, 0xEA, 0x60, 0xEA, 0x60, 0xEA, 0x60, 0xEA, 0x60, 0xEA], _, ⟨by decide +kernel,
      rfl⟩, by decide +kernel⟩,
    ⟨(((up.put (EWAKE_CFG_EN 0) 1).put (EWAKE_CFG_EN 1) 1).put (EWAKE_CFG_EN 2) 1).put (EWAKE_CFG_EN 3) 1, _, _, .m0, [2, 15]
      ++ zs 10, _, _, ⟨by decide +kernel, rfl⟩, and3 (by decide +kernel) ⟨by decide +kernel, by decide +kernel, rfl, by
      decide +kernel, by decide +kernel, rfl⟩⟩,
    ⟨up, _, _, .m0, [3, 3, 40, 50, 255, 0, 0, 0, 5, 5, 5, 5], _, _, ⟨by decide +kernel, rfl⟩, and3 (by decide +kernel) (and3
      (by decide +kernel) ⟨by decide +kernel, by decide +kernel, rfl, rfl⟩)⟩⟩

theorem wit_RelRowsComplete :
    (∃ (s u : State) (m : Master) (v : Nat), s.reaches m REL_CMD.addr = true ∧ s.rel.sess = 0 ∧ s.openChecks = none ∧
      s.cntTake 47 = some (v, u) ∧ u.rel.sess = 0) ∧
    (∃ (s u : State) (m : Master) (v : Nat), s.reaches m REL_CMD.addr = true ∧ s.rel.sess = 2 ∧ s.openChecks = none ∧
      s.cntTake 47 = some (v, u) ∧ u.rel.sess = 2) ∧
    (∃ (s : State) (m : Master), s.reaches m REL_CMD.addr = true ∧ s.rel.sess = 2) ∧
    (∃ (s : State), s.rel.sess = 1 ∧ s.rel.a = false ∧ s.rel.fbB = false) ∧
    (∃ (s : State), s.rel.sess = 3) ∧
    (∃ (s u : State) (high : Bool) (t : Nat), u = s.advance t ∧ u.rel.sess ≠ 1 ∧ u.rel.fbB ≠ high) ∧
    (∃ (s u : State) (high : Bool) (t : Nat), u = s.advance t ∧ u.rel.sess ≠ 1 ∧ u.rel.fbA ≠ high) ∧
    (∃ (s u : State) (t : Nat), u = s.advance t ∧ u.rel.sess = 1 ∧ u.rel.a = true ∧ u.rel.fbA = false) ∧
    (∃ (s : State), s.fbBad false = true ∧ s.unit 10 ≠ .off ∧ s.asleep = false) ∧
    (∃ (s : State), s.fbBad true = true ∧ s.unit 10 ≠ .off ∧ s.asleep = false) ∧
    (∃ (s u : State), s.rel.sess = 2 ∧ u = s.advanceRef (s.rel.toBase + Config.sTicks * s.get REL_CFG_SESSION_TO_S)) ∧
    (∃ (s : State) (t : Nat), s.rel.armUntil = some t) :=
  ⟨⟨opS, _, .m0, _, and3 (by decide +kernel) ⟨sg2 (by decide +kernel), by decide +kernel⟩⟩,
    ⟨opS.modRel fun r => { r with sess := 2 }, _, .m0, _, and3 (by decide +kernel) ⟨sg2 (by decide +kernel), by
      decide +kernel⟩⟩,
    ⟨up.modRel fun r => { r with sess := 2 }, .m0, by decide +kernel⟩,
    ⟨up.modRel fun r => { r with sess := 1, fbB := false }, by decide +kernel⟩,
    ⟨up.modRel fun r => { r with sess := 3 }, by decide +kernel⟩,
    ⟨up, _, false, 0, rfl, by decide +kernel⟩,
    ⟨up, _, true, 0, rfl, by decide +kernel⟩,
    ⟨up.modRel fun r => { r with sess := 1, a := true }, _, 0, rfl, by decide +kernel⟩,
    ⟨up.modRel fun r => { r with fbA := true }, by decide +kernel⟩,
    ⟨up.modRel fun r => { r with fbB := false }, by decide +kernel⟩,
    ⟨up.modRel fun r => { r with sess := 2 }, _, by decide +kernel, rfl⟩,
    ⟨up.modRel fun r => { r with armUntil := some 5 }, _, sg (by decide +kernel)⟩⟩

theorem wit_DoorEwakeTelltaleRowsComplete :
    (∃ (s u v : State) (i : Fin 4) (high : Bool) (t : Nat), u = ((s.advance t).tmrInput (0x20 + i) high).putBit PAD_IN_DOOR i
      high ∧ v = u.modRel (fun r => { r with doors := r.doors.filter (·.idx != i.val) }) ∧ (high == v.bit REL_CFG_DOOR_POL i)
      = true) ∧
    (∃ (s u v : State) (i : Fin 4) (high : Bool) (t : Nat), u = ((s.advance t).tmrInput (0x20 + i) high).putBit PAD_IN_DOOR i
      high ∧ v = u.modRel (fun r => { r with doors := r.doors.filter (·.idx != i.val) }) ∧ (high == v.bit REL_CFG_DOOR_POL i)
      = false) ∧
    (∃ (s u : State) (i : Fin 4) (e : DoorEdge), s.rel.doors.find? (·.idx == i.val) = some e ∧ u = (s.advance (s.doorDue
      e)).modRel (fun r => { r with doors := r.doors.filter (·.idx != i.val) })) ∧
    (∃ (s : State) (l : Fin 4) (t : Nat), (s.ewLine l).off = some t ∧ (s.ewLine l).on = true ∧ (s.ewLine l).slot = none ∧
      s.awake = true ∧ s.ewActive = true) ∧
    (∃ (s : State) (t : Nat), s.unitOn 10 = true ∧ s.pwr.st = .p0 ∧ s.rel.tt.pat < 2 ∧ s.ttWanted ≠ s.rel.tt.pat) ∧
    (∃ (s u : State) (t : Nat), s.unitOn 10 = true ∧ s.pwr.st = .p0 ∧ 2 ≤ s.rel.tt.pat ∧ s.ttWanted = s.rel.tt.pat ∧ u =
      s.advance (s.rel.tt.at_ + s.ttPhaseTicks)) ∧
    (∃ (s u : State) (t : Nat), (s.pwr.st = .p3 ∨ s.pwr.st = .p4) ∧ 2 ≤ s.rel.tt.pat ∧ u = s.advance (s.rel.tt.at_ +
      s.ttPhaseTicks)) ∧
    (∃ (s u v : State) (x : Byte) (t : Nat), s.rel.tt.measured = false ∧ s.unitOn 10 = true ∧ s.awake = true ∧ s.flag
      REL_TT_CFG_TT_EN = true ∧ within (s.rel.tt.at_ + Config.msTicks / 2) (Config.msTicks + s.rel.tt.at_) t = true ∧
      s.rel.tt.on = false ∧ s.rel.tt.fresh = false ∧ s.rel.tt.resOff = 0 ∧ x.toNat < 10 ∧ u = s.advance t ∧ v = (u.put
      REL_TT_STATUS_I_OFF x.toNat).put REL_TT_STATUS_RESULT 0) ∧
    (∃ (s u : State), s.unitOn 10 = true ∧ s.awake = true ∧ s.flag REL_TT_CFG_TT_EN = true ∧ u = (s.advanceLp (s.rel.tt.sumLp
      + lpOfS 86400)).ttRecord 4) :=
  ⟨⟨up, _, _, 3, false, 0, rfl, rfl, by decide +kernel⟩,
    ⟨up, _, _, 3, true, 0, rfl, rfl, by decide +kernel⟩,
    ⟨up.modRel fun r => { r with doors := [{ idx := 3, at_ := 0, ref := 0 }] }, _, 3, _, sg (by decide +kernel), rfl⟩,
    ⟨up.modRel fun r => { r with lines := r.lines.set 3 { on := true, off := some 5 } }, 3, _, sg (by decide +kernel), by
      decide +kernel⟩,
    ⟨(up.put REL_TT_CFG_TT_EN 1).put REL_TT_CFG_TT_MODE 1 |>.put REL_TT_CFG_HOST_PAT 1, 0, by decide +kernel⟩,
    ⟨((up.put REL_TT_CFG_TT_EN 1).put REL_TT_CFG_TT_MODE 1 |>.put REL_TT_CFG_HOST_PAT 3).modRel fun r =>
      { r with tt := { r.tt with pat := 3 } }, _, 0, and3 (by decide +kernel) ⟨by decide +kernel, rfl⟩⟩,
    ⟨{ up with pwr := { up.pwr with st := .p3 }, rel := { up.rel with tt := { up.rel.tt with pat := 2 } } }, _, 0, by
      decide +kernel, by decide +kernel, rfl⟩,
    ⟨(up.put REL_TT_CFG_TT_EN 1).modRel fun r => { r with tt := { r.tt with fresh := false } }, _, _, 0, 2000000, and3 (by
      decide +kernel) (and3 (by decide +kernel) (and3 (by decide +kernel) ⟨rfl, rfl⟩))⟩,
    ⟨up.put REL_TT_CFG_TT_EN 1, _, and3 (by decide +kernel) rfl⟩⟩

theorem wit_AesCntRngCommandsComplete :
    (∃ (s t u v : State) (m : Master) (p : List Byte) (outs : List (List Byte)) (k : KeySlot) (c : Option ReqCtx), s.comes m
      0x80 p c t ∧ within 1 16 (u8 p 4) = true ∧ p.length = 40 + 16 * u8 p 4 ∧ u8 p 0 = 0 ∧ u8 p 1 = 0 ∧ u8 p 2 < 64 ∧ u8 p 3
      = 0 ∧ zeroAt p 5 3 = true ∧ zeroAt p 8 32 = true ∧ t.unitOn 11 = true ∧ t.slot (u8 p 2) = some k ∧ k.usage = 1 ∧
      usersHave k.users m = true ∧ outs = (chunks 16 (u8 p 4) (p.drop 40)).map (fun b => aesEncrypt k.key b) ∧ u =
      (t.blockDone 1).wait ((t.blockDone 1).busTicks ((if ((t.blockDone 1).engine 1).expanded != some (u8 p 2) then 20 else 0)
      + u8 p 4 * (8 + k.key.length / 4))) ∧ v = (u.putRegBytes (AES_E_DOUT 1) 4 (outs.getLastD [])).put (AES_E_STATUS_DONE 1)
      1 ∧ (t.blockDone 1).slot (u8 p 2) = some k) ∧
    (∃ (s t u v : State) (m : Master) (p key : List Byte) (outs : List (List Byte)) (c : Option ReqCtx), s.comes m 0x80 p c t
      ∧ within 1 16 (u8 p 4) = true ∧ p.length = 40 + 16 * u8 p 4 ∧ u8 p 0 = 1 ∧ u8 p 1 = 1 ∧ u8 p 2 = 0 ∧ u8 p 3 < 3 ∧ zeroAt
      p 5 3 = true ∧ zeroAt p (8 + (16 + 8 * u8 p 3)) (32 - (16 + 8 * u8 p 3)) = true ∧ t.unitOn 11 = true ∧ m = .m0 ∧ key =
      (p.drop 8).take (16 + 8 * u8 p 3) ∧ outs = (chunks 16 (u8 p 4) (p.drop 40)).map (fun b => aesDecrypt key b) ∧ u =
      (t.blockDone 1).wait ((t.blockDone 1).busTicks (20 + u8 p 4 * (8 + key.length / 4))) ∧ v = (u.putRegBytes (AES_E_DOUT 1)
      4 (outs.getLastD [])).put (AES_E_STATUS_DONE 1) 1) ∧
    (∃ (s t u v : State) (m : Master) (p : List Byte) (st n : Nat) (c : Option ReqCtx), s.comes m 0x81 p c t ∧ n = u8 p 5 ∧
      firstFail [lenIs p 48, paramOk (u8 p 0 < 64 && (u8 p 1 < 64 || u8 p 1 = 0xFE) && u8 p 2 < 3 && u8 p 3 < 4 && u8 p 4 <
      2), paramOk ([24, 32, 40].contains n && zeroAt p 6 2 && zeroAt p (8 + n) (40 - n))] = none ∧ t.unitOn 11 = true ∧
      t.sys.role = 0 ∧ t.aes.mrd = none ∧ t.aes.mrdWait = none ∧ t.unwrapStart (u8 p 0) (u8 p 1) (u8 p 2) (u8 p 3) ((p.drop
      8).take n) (u8 p 4 = 1) false m = (u, OK) ∧ (u.wait (unwrapTicks n)).unwrapEnd true = (v, st)) ∧
    (∃ (s t : State) (m : Master) (p : List Byte) (c : Option ReqCtx), s.comes m 0x82 p c t ∧ p.length = 8 ∧ m ≠ .m1) ∧
    (∃ (s t u : State) (m : Master) (p : List Byte) (c : Option ReqCtx), s.comes m 0x83 p c t ∧ p.length = 4 ∧ u8 p 0 < 64 ∧
      zeroAt p 1 3 = true ∧ t.cntAsk { n := u8 p 0, src := 0, master := m, ctx := c } = (u, none)) ∧
    (∃ (s t : State) (m : Master) (p : List Byte) (c : Option ReqCtx), s.comes m 0x84 p c t ∧ p.length = 1 ∧ u8 p 0 < 64) ∧
    (∃ (s t : State) (m : Master) (p : List Byte) (c : Option ReqCtx), s.comes m 0x84 p c t ∧ p.length = 1 ∧ u8 p 0 = 0xFF) ∧
    (∃ (s t : State) (m : Master) (p : List Byte) (c : Option ReqCtx), s.comes m 0x85 p c t ∧ p.length = 2 ∧ within 1 256 (u16
      p 0) = true ∧ t.unitOn 12 = true ∧ t.unit 12 = .on ∧ t.pwr.reduced = false ∧ t.rngHalted = false) ∧
    (∃ (s t : State) (m : Master) (p : List Byte) (c : Option ReqCtx), s.comes m 0x86 p c t ∧ p.length = 4 ∧ u8 p 0 = 0 ∧
      zeroAt p 1 3 = true ∧ t.unitOn 12 = true ∧ t.pwr.reduced = false) ∧
    (∃ (s t : State) (m : Master) (p : List Byte) (x : BitVec 2) (c : Option ReqCtx), s.comes m 0x86 p c t ∧ p.length = 4 ∧ u8
      p 0 = 1 ∧ zeroAt p 1 3 = true ∧ t.unitOn 12 = true ∧ t.pwr.reduced = false ∧ t.range.run = none ∧ t.auth.att = none) :=
  ⟨⟨{ up with aes := { up.aes with slots := up.aes.slots.set 3 (some { key := zs 16, usage := 1, users := 3, kek := 0 }) } },
      _, _, _, .m0, [0, 0, 3, 0, 1] ++ zs 51, _, _, _, ⟨by decide +kernel, rfl⟩, and3 (by decide +kernel) (and3 (by
      decide +kernel) (and3 (by decide +kernel) ⟨rfl, by decide +kernel, by decide +kernel, rfl, rfl, rfl, rfl⟩))⟩,
    ⟨up, _, _, _, _, [1, 1, 0, 0, 1] ++ zs 51, _, _, _, ⟨by decide +kernel, rfl⟩, and3 (by decide +kernel) (and3 (by
      decide +kernel) (and3 (by decide +kernel) ⟨rfl, rfl, rfl, rfl, rfl⟩))⟩,
    ⟨kekS, _, _, _, .m0, [25, 0, 0, 1, 0, 24] ++ zs 42, _, _, _, ⟨by decide +kernel, rfl⟩, rfl, and3 (by decide +kernel) ⟨by
      decide +kernel, by decide +kernel, tup (by decide +kernel), eta _⟩⟩,
    ⟨up, _, .m0, zs 8, _, ⟨by decide +kernel, rfl⟩, by decide +kernel⟩,
    ⟨up.put CNT_STATUS_LOADED 1, _, _, .m0, [0, 0, 0, 0], _, ⟨by decide +kernel, rfl⟩, and3 (by decide +kernel) (tup (by
      decide +kernel))⟩,
    ⟨up, _, .m0, [0], _, ⟨by decide +kernel, rfl⟩, by decide +kernel⟩,
    ⟨up, _, .m0, [0xFF], _, ⟨by decide +kernel, rfl⟩, by decide +kernel⟩,
    ⟨up, _, .m0, [1, 0], _, ⟨by decide +kernel, rfl⟩, by decide +kernel⟩,
    ⟨up, _, .m0, zs 4, _, ⟨by decide +kernel, rfl⟩, by decide +kernel⟩,
    ⟨up, _, .m0, [1, 0, 0, 0], 0, _, ⟨by decide +kernel, rfl⟩, by decide +kernel⟩⟩

theorem wit_AesCntRngRowsComplete_a :
    (∃ (s : State) (m : Master) (e : Fin 2), s.reaches m (AES_E_CMD e).addr = true) ∧
    (∃ (s u : State) (e : Fin 2) (b : List Byte) (t : Nat), (s.engine e).run = some (b, t) ∧ u = s.advance t) ∧
    (∃ (s : State) (m : Master), s.reaches m MRD_CMD.addr = true) ∧
    (∃ (s u : State) (x : UnwrapRun) (t : Nat), u = s.advance t ∧ u.aes.mrd = some x) ∧
    (∃ (s : State) (m : Master) (n : Fin 64), s.reaches m CNT_INC.addr = true) ∧
    (∃ (s u : State) (r : CntReq) (v t : Nat), (s.advance t).cntRecord true = some (u, r, OK, v) ∧ r.src ≠ 3 ∧ r.src ≠ 4) ∧
    (∃ (s u v : State) (n : Fin 64) (c t : Nat), u = s.advance t ∧ u.awake = true ∧ u.ceilDue n = true ∧ c = min (u.cntCeil n
      + 16) (cntLimit n) ∧ v = u.writeRecord n c true) ∧
    (∃ (s u v : State) (n : Fin 64) (c t : Nat), u = s.advance t ∧ u.awake = true ∧ u.ceilDue n = true ∧ c = min (u.cntCeil n
      + 16) (cntLimit n) ∧ v = ((u.writeRecord n c false).raise FID_CNT_NV n).ceilingFailed n ∧ n.val ≠ 47) :=
  ⟨⟨up, .m0, 0, by decide +kernel⟩,
    ⟨{ up with aes := { up.aes with eng := [{ run := some (zs 16, 5) }, {}] } }, _, 0, _, _, sg2 (by decide +kernel), rfl⟩,
    ⟨up, .m0, by decide +kernel⟩,
    ⟨{ up with aes := { up.aes with mrd := some { target := 0, wrapped := [], result := none } } }, _, _, 0, rfl, sg (by
      decide +kernel)⟩,
    ⟨up, .m0, 0, by decide +kernel⟩,
    ⟨{ (up.put CNT_STATUS_LOADED 1) with cnt := { up.cnt with pend := [{ n := 0, src := 0, master := .m0, ctx := none }] } },
      _, _, _, 0, rfl, by decide +kernel⟩,
    ⟨up.put CNT_STATUS_LOADED 1, _, _, 47, _, 0, rfl, by decide +kernel, by decide +kernel, rfl, rfl⟩,
    ⟨up.put CNT_STATUS_LOADED 1, _, _, 45, _, 0, rfl, by decide +kernel, by decide +kernel, rfl, rfl, by decide +kernel⟩⟩

theorem wit_AesCntRngRowsComplete_b :
    (∃ (s u : State) (n : Fin 64) (h t : Nat), u = s.advance t ∧ u.cnt.erase.getD n none = some h ∧ u.awake = true) ∧
    (∃ (s u : State) (t : Nat), u = s.advance t ∧ u.cntLoaded = false ∧ u.awake = true ∧ u.fenced 21 = false) ∧
    (∃ (s u v w : State) (t : Nat), s.unitOn 12 = true ∧ s.awake = true ∧ s.pwr.reduced = false ∧ s.get TRNG_STATUS_GEN =
      genGathering ∧ u = (List.range 4).foldl (fun s k => (s.fresh 16).2.put (TRNG_OSC k) (s.fresh 16).1) (s.advance t) ∧ v =
      (u.pairFigures none).event EV_RNG_READY ([byte (s.advance t).rng.cause] ++ le 4 (satNat 32 (((s.advance t).time.now -
      (s.advance t).rng.startAt) / Config.usTicks)) ++ [byte ((s.advance t).get TRNG_STATUS_SU_FAILS)]) ∧ w =
      (v.drbgInstantiate.put TRNG_STATUS_GEN genReady).put TRNG_STATUS_SU_FAILS 0) ∧
    (∃ (s : State) (x : Fin 7) (t : Nat), s.unitOn 12 = true ∧ s.awake = true ∧ s.rngHalted = false) ∧
    (∃ (s u v : State), s.rngReady = true ∧ s.get TRNG_STATUS_GEN = genReseeding ∧ u = s.advance (max s.time.now (768 *
      Config.usTicks + s.rng.poolAt) + 2 * Config.usTicks) ∧ v = ((u.drbgReseeded.put TRNG_STATUS_GEN genReady).put TRNG_REQS
      0).bump TRNG_RESEEDS) ∧
    (∃ (s u v : State) (r : RngReq) (b : List Byte), s.rngReady = true ∧ s.get TRNG_STATUS_GEN = genReady ∧ nextReq
      s.rng.lastHost s.rng.reqs = some r ∧ 64 < r.left ∧ s.drbgDraw 64 = (b, u) ∧ v = (if r.rank = 5 then u.modRng fun g =>
      { g with lastHost := some r.master } else u).bump TRNG_REQS ∧ v.get TRNG_REQS < 4096) ∧
    (∃ (s u v : State) (r : RngReq) (b : List Byte), s.rngReady = true ∧ s.get TRNG_STATUS_GEN = genReady ∧ nextReq
      s.rng.lastHost s.rng.reqs = some r ∧ r.left ≤ 64 ∧ s.drbgDraw r.left = (b, u) ∧ v = (if r.rank = 5 then u.modRng fun g
      => { g with lastHost := some r.master } else u).bump TRNG_REQS ∧ v.get TRNG_REQS < 4096) ∧
    (∃ (s u : State) (m : Master) (w : Nat) (l : List Nat), s.readable m TRNG_FIFO.addr = true ∧ s.rng.fifo = w :: l ∧ u =
      s.readBack m w) :=
  ⟨⟨{ up with cnt := { up.cnt with erase := up.cnt.erase.set 0 (some 1) } }, _, 0, 1, 0, rfl, by decide +kernel⟩,
    ⟨up, _, 0, rfl, by decide +kernel⟩,
    ⟨up.put TRNG_STATUS_GEN genGathering, _, _, _, 0, and3 (by decide +kernel) ⟨by decide +kernel, rfl, rfl, rfl⟩⟩,
    ⟨up, 0, 0, by decide +kernel⟩,
    ⟨up.put TRNG_STATUS_GEN genReseeding, _, _, by decide +kernel, by decide +kernel, rfl, rfl⟩,
    ⟨{ up with rng := { up.rng with reqs := [{ rank := 4, kind := 5, tag := 0, master := .m0, ctx := none, left := 100 }] } },
      _, _, _, _, by decide +kernel, by decide +kernel, sg (by decide +kernel), by decide +kernel, rfl, rfl, by
      decide +kernel⟩,
    ⟨{ up with rng := { up.rng with reqs := [{ rank := 4, kind := 5, tag := 0, master := .m0, ctx := none, left := 10 }] } },
      _, _, _, _, by decide +kernel, by decide +kernel, sg (by decide +kernel), by decide +kernel, rfl, rfl, by
      decide +kernel⟩,
    ⟨{ up with rng := { up.rng with fifo := [3] } }, _, .m0, 3, [], by decide +kernel, rfl, rfl⟩⟩

theorem wit_HfrCommandsComplete :
    (∃ (s t u v : State) (m : Master) (p : List Byte) (q : Bool) (c : Option ReqCtx), s.comes m 0x90 p c t ∧ firstFail [lenIs
      p 16, paramOk (u8 p 0 < 2 && zeroAt p 1 3 && (bitsAt (u32 p (4 + 4 * 0)) 6 2 = 0 && within 8 14 (bitsAt (u32 p (4 + 4 *
      0)) 8 8) && bitsAt (u32 p (4 + 4 * 0)) 16 16 < 8) && (bitsAt (u32 p (4 + 4 * 1)) 6 2 = 0 && within 8 14 (bitsAt (u32 p
      (4 + 4 * 1)) 8 8) && bitsAt (u32 p (4 + 4 * 1)) 16 16 < 8) && within 2 100 (bitsAt (u32 p 12) 0 8) && within 500 10000
      (bitsAt (u32 p 12) 8 16) && bitsAt (u32 p 12) 24 8 < 2)] = none ∧ t.flag HFR_CTRL_LOCK = false ∧ q = t.hfr.field.isNone
      ∧ u = ((t.stage q 13 (HFR_PORT_CFG 0) (u32 p 4)).stage q 13 (HFR_PORT_CFG 1) (u32 p 8)).stage q 13 HFR_TAP_CFG (u32 p
      12) ∧ v = (if decide (u8 p 0 = 1) != u.flag HFR_CTRL_EN then (u.putB HFR_CTRL_EN (u8 p 0 = 1)).hfrEnable (u8 p 0 = 1)
      else u)) ∧
    (∃ (s t u : State) (m : Master) (p : List Byte) (cfg thr : Nat) (c : Option ReqCtx), s.comes m 0x91 p c t ∧ cfg = u32 p 0
      ∧ thr = u32 p 4 ∧ firstFail [lenIs p 12, paramOk (bitsAt cfg 4 4 = 0 && within 100 1000 (bitsAt cfg 8 10) && bitsAt cfg
      18 6 = 0 && within 1 63 (bitsAt cfg 24 8) && within 1 1023 (bitsAt thr 0 16) && within 1 2048 (bitsAt thr 16 16) && u8 p
      8 < 4 && zeroAt p 9 3)] = none ∧ u = t.relearn (u8 p 8) ∧ (u.pingEn 0 || u.pingEn 1) = true) ∧
    (∃ (s t u : State) (m : Master) (p : List Byte) (cfg thr : Nat) (c : Option ReqCtx), s.comes m 0x91 p c t ∧ cfg = u32 p 0
      ∧ thr = u32 p 4 ∧ firstFail [lenIs p 12, paramOk (bitsAt cfg 4 4 = 0 && within 100 1000 (bitsAt cfg 8 10) && bitsAt cfg
      18 6 = 0 && within 1 63 (bitsAt cfg 24 8) && within 1 1023 (bitsAt thr 0 16) && within 1 2048 (bitsAt thr 16 16) && u8 p
      8 < 4 && zeroAt p 9 3)] = none ∧ u = t.relearn (u8 p 8) ∧ (u.pingEn 0 || u.pingEn 1) = false) ∧
    (∃ (s t u : State) (m : Master) (p : List Byte) (c : Option ReqCtx), s.comes m 0x92 p c t ∧ firstFail [lenIs p 8, paramOk
      (u8 p 0 < 2 && u8 p 1 < 3 && u8 p 2 < 4 && u8 p 3 < 8 && (u8 p 1 = 1 || u8 p 4 = 0) && u8 p 5 = 0 && within 10 1000 (u16
      p 6)), paramOk (!(decide (bitAt (u8 p 3) 1 = 1) && !decide (bitAt (u8 p 3) 0 = 1)) && !(decide (u8 p 1 = 2) && (decide
      (u8 p 2 = 3) || decide (bitAt (u8 p 3) 1 = 1) || decide (bitAt (u8 p 3) 0 = 1))))] = none ∧ t.hfrStart (u8 p 0) (u8 p 1)
      (u8 p 2) (u8 p 3) (u8 p 4) (u16 p 6) = (u, ACCEPTED)) ∧
    (∃ (s t : State) (m : Master) (p : List Byte) (x : Nat × Bool) (e : HfrExch) (c : Option ReqCtx), s.comes m 0x93 p c t ∧
      p.length = 6 + u16 p 4 ∧ u8 p 0 < 2 ∧ u8 p 1 < 2 ∧ within 1 5000 (u16 p 2) = true ∧ within 1 256 (u16 p 4) = true ∧
      t.hfr.flow = none ∧ t.hfr.exch = none ∧ t.padHeld 8 = false ∧ t.hfr.field = some (u8 p 0) ∧ t.hfr.target = some x ∧ x.1
      = u8 p 0 ∧ ((u8 p 1 = 0 ∨ x.2 = true)) ∧ e =
      { port := u8 p 0, master := m, ctx := c, due := t.time.now + Config.msTicks * u16 p 2 }) ∧
    (∃ (s t u : State) (m : Master) (p : List Byte) (q : Nat) (c : Option ReqCtx), s.comes m 0x94 p c t ∧ p.length = 4 ∧ u8 p
      0 < 4 ∧ u8 p 1 < 2 ∧ zeroAt p 2 2 = true ∧ t.hfr.field = some q ∧ u = (if bitAt (u8 p 0) q == 1 then t.hfrCut BAD_STATE
      0 else t)) :=
  ⟨⟨up, _, _, _, .m0, [1, 0, 0, 0, 0, 10, 0, 0, 0, 10, 0, 0, 20, 0xE8, 3, 0], _, _, ⟨by decide +kernel, rfl⟩, by
      decide +kernel, by decide +kernel, rfl, rfl, rfl⟩,
    ⟨up.put HFR_PING_CFG_EN0 1, _, _, .m0, [1, 100, 0, 5, 10, 0, 10, 0, 3, 0, 0, 0], _, _, _, ⟨by decide +kernel, rfl⟩, rfl,
      rfl, by decide +kernel, rfl, by decide +kernel⟩,
    ⟨up, _, _, .m0, [1, 100, 0, 5, 10, 0, 10, 0, 3, 0, 0, 0], _, _, _, ⟨by decide +kernel, rfl⟩, rfl, rfl, by decide +kernel,
      rfl, by decide +kernel⟩,
    ⟨up, _, _, .m0, [0, 0, 0, 1, 0, 0, 100, 0], _, ⟨by decide +kernel, rfl⟩, by decide +kernel, tup (by decide +kernel)⟩,
    ⟨hf fun h => { h with field := some 0, target := some (0, true) }, _, .m0, [0, 1, 100, 0, 1, 0, 7], (0, true), _, _, ⟨by
      decide +kernel, rfl⟩, and3 (by decide +kernel) (and3 (by decide +kernel) (and3 (by decide +kernel) (and3 (by
      decide +kernel) rfl)))⟩,
    ⟨hf fun h => { h with field := some 0 }, _, _, .m0, [1, 0, 0, 0], 0, _, ⟨by decide +kernel, rfl⟩, and3 (by decide +kernel)
      ⟨by decide +kernel, by decide +kernel, rfl⟩⟩⟩

theorem wit_HfrRowsComplete_a :
    (∃ (s : State), s.pwr.st = .p2) ∧
    (∃ (s u v : State) (port : Fin 2) (amp : BitVec 16) (phase : BitVec 12), s.pwr.st ≠ .p4 ∧ s.pingEn port = true ∧
      s.hfr.pend = none ∧ u = s.advanceLp (s.hfr.pingLp.getD port 0) ∧ v = u.modHfr (fun h =>
      { h with pingLp := h.pingLp.set port (lpStepAfter (s.hfr.pingLp.getD port 0) u.pingPeriod u.time.lp), pingRef := false })
      ∧ v.pingEn port = true ∧ v.hfr.field = none ∧ v.fenced 13 = false ∧ v.safeState = false ∧ v.forcedMode 4 = false ∧
      (((v.bump HFR_PINGS).put (HFR_PING_MEAS_AMP port) amp.toNat).put (HFR_PING_MEAS_PHASE port)
      phase.toNat).hfr.relearn.getD port false = true) ∧
    (∃ (s u v w : State) (port : Fin 2) (amp : BitVec 16) (phase : BitVec 12), s.pwr.st ≠ .p4 ∧ s.pingEn port = true ∧
      s.hfr.pend = none ∧ u = s.advanceLp (s.hfr.pingLp.getD port 0) ∧ v = u.modHfr (fun h =>
      { h with pingLp := h.pingLp.set port (lpStepAfter (s.hfr.pingLp.getD port 0) u.pingPeriod u.time.lp), pingRef := false })
      ∧ v.pingEn port = true ∧ v.hfr.field = none ∧ v.fenced 13 = false ∧ v.safeState = false ∧ v.forcedMode 4 = false ∧ w =
      ((v.bump HFR_PINGS).put (HFR_PING_MEAS_AMP port) amp.toNat).put (HFR_PING_MEAS_PHASE port) phase.toNat ∧
      w.hfr.relearn.getD port false = false ∧ w.flag (HFR_PING_BASE_VALID port) = true) ∧
    (∃ (s u : State) (a : HfrAct), s.hfr.act = some a ∧ a.searching = false ∧ u = s.advance (a.since + Config.usTicks * s.get
      HFR_TAP_CFG_EXT_CHECK_US)) ∧
    (∃ (s u : State) (a : HfrAct) (multi : Bool) (uid ats : List Byte) (sak : Byte) (atq : BitVec 16) (t : Nat), s.hfr.act =
      some a ∧ a.searching = true ∧ s.hfr.field = some a.port ∧ u = s.advance t ∧ bitAt a.flags 1 = 0) ∧
    (∃ (s : State) (a : HfrAct), s.hfr.act = some a ∧ a.searching = true) ∧
    (∃ (s : State) (e : HfrExch) (b : List Byte) (t : Nat), s.hfr.exch = some e) ∧
    (∃ (s : State) (e : HfrExch), s.hfr.exch = some e) :=
  ⟨⟨pw fun p => { p with st := .p2 }, by decide +kernel⟩,
    ⟨up.put HFR_PING_CFG_EN0 1, _, _, 0, 0, 0, and3 (by decide +kernel) ⟨rfl, rfl, by decide +kernel⟩⟩,
    ⟨((up.put HFR_PING_CFG_EN0 1).put (HFR_PING_BASE_VALID 0) 1).modHfr fun h => { h with relearn := [false, false] }, _, _,
      _, 0, 0, 0, and3 (by decide +kernel) ⟨rfl, rfl, and3 (by decide +kernel) ⟨by decide +kernel, by decide +kernel, rfl, by
      decide +kernel⟩⟩⟩,
    ⟨hf fun h => { h with act := some actH }, _, _, sg (by decide +kernel), by decide +kernel, rfl⟩,
    ⟨hf fun h => { h with act := some { actH with searching := true }, field := some 0 }, _, _, false, [], [], 0, 0, 0, sg (by
      decide +kernel), by decide +kernel, by decide +kernel, rfl, by decide +kernel⟩,
    ⟨hf fun h => { h with act := some { actH with searching := true }, field := some 0 }, _, sg (by decide +kernel), by
      decide +kernel⟩,
    ⟨hf fun h => { h with exch := some { port := 0, master := .m0, ctx := none, due := 5 } }, _, [], 0, sg (by
      decide +kernel)⟩,
    ⟨hf fun h => { h with exch := some { port := 0, master := .m0, ctx := none, due := 5 } }, _, sg (by decide +kernel)⟩⟩

theorem wit_HfrRowsComplete_b :
    (∃ (s : State) (q : Nat), s.hfr.field = some q ∧ s.hfr.flow = none ∧ s.hfr.act = none ∧ s.hfr.exch = none) ∧
    (∃ (s u : State) (port : Fin 2) (t : Nat), u = s.advance t ∧ u.hfr.field = some port.val) ∧
    (∃ (s u : State) (f g : HfrFlow) (b : List Byte) (t : Nat), s.hfr.flow = some f ∧ f.stage = 1 ∧ u = s.advance t ∧ b.length
      = 29 ∧ u8 b 0 = 0 ∧ g = { f with stage := 2, key := (b.drop 1).take 12, nk := b.drop 13 } ∧ u.lockedOut g.key = false) ∧
    (∃ (s u : State) (f : HfrFlow) (r : LookRes) (b : List Byte) (d t st : Nat), s.hfr.flow = some f ∧ f.stage = 3 ∧ u =
      s.advance t ∧ f.look = some r ∧ b.length = 15 ∧ u8 b 0 = 0 ∧ st = u.tapStatus f r b d) ∧
    (∃ (s u : State) (f : HfrFlow) (b : List Byte) (d t : Nat), s.hfr.flow = some f ∧ f.stage = 3 ∧ u = s.advance t) ∧
    (∃ (s : State) (f : HfrFlow) (t : Nat), s.hfr.flow = some f ∧ f.stage = 3) ∧
    (∃ (s : State) (f : HfrFlow) (t : Nat), s.hfr.flow = some f ∧ f.stage = 4) :=
  ⟨⟨hf fun h => { h with field := some 1 }, 1, by decide +kernel⟩,
    ⟨hf fun h => { h with field := some 0 }, _, 0, 0, rfl, by decide +kernel⟩,
    ⟨hf fun h => { h with flow := some (flowH 1) }, _, _, _, zs 29, 0, sg (by decide +kernel), by decide +kernel, rfl, by
      decide +kernel, by decide +kernel, rfl, by decide +kernel⟩,
    ⟨hf fun h =>
      { h with flow := some { flowH 3 with look := some { req := { who := 2, id := [], kslot := 23, noUnwrap := false }, status := 0 } } },
      _, _, _, zs 15, 0, 0, _, sg (by decide +kernel), by decide +kernel, rfl, sg (by decide +kernel), by decide +kernel, by
      decide +kernel, rfl⟩,
    ⟨hf fun h => { h with flow := some (flowH 3) }, _, _, [], 0, 0, sg (by decide +kernel), by decide +kernel, rfl⟩,
    ⟨hf fun h => { h with flow := some (flowH 3) }, _, 0, sg (by decide +kernel), by decide +kernel⟩,
    ⟨hf fun h => { h with flow := some (flowH 4) }, _, 0, sg (by decide +kernel), by decide +kernel⟩⟩

theorem wit_VltCommandsComplete :
    (∃ (s t : State) (m : Master) (p : List Byte) (c : Option ReqCtx), s.comes m 0xA0 p c t ∧ firstFail [lenIs p 8, paramOk
      (within 8 447 (u16 p 0) && within 1 440 (u16 p 2) && u16 p 0 + u16 p 2 ≤ 448 && u8 p 4 < 128 && zeroAt p 5 3)] = none ∧
      t.vltBars = false ∧ u16 p 2 ≤ 4) ∧
    (∃ (s t u : State) (m : Master) (p : List Byte) (x : VltStream) (c : Option ReqCtx), s.comes m 0xA0 p c t ∧ firstFail
      [lenIs p 8, paramOk (within 8 447 (u16 p 0) && within 1 440 (u16 p 2) && u16 p 0 + u16 p 2 ≤ 448 && u8 p 4 < 128 &&
      zeroAt p 5 3)] = none ∧ t.vltBars = false ∧ 4 < u16 p 2 ∧ t.vlt.stream = none ∧ x =
      { id := t.vlt.streamId, first := u16 p 0, n := u16 p 2, queue := u8 p 4, unit_ := u16 p 0, since := t.time.now } ∧ u =
      t.addJob { kind := .stream, master := m, first := u16 p 0, n := u16 p 2, since := t.time.now }) ∧
    (∃ (s t : State) (m : Master) (p : List Byte) (c : Option ReqCtx), s.comes m 0xA1 p c t ∧ firstFail [(m != .m1 || s.flag
      VLT_CTRL_HOST_WR, ACCESS_DENIED), (4 ≤ p.length, BAD_LENGTH), paramOk (within 264 447 (u16 p 0) && within 1 4 (u8 p 2)
      && u16 p 0 + u8 p 2 ≤ 448 && u8 p 3 < 2), lenIs p (4 + 60 * u8 p 2)] = none ∧ t.vltBars = false) ∧
    (∃ (s t : State) (p : List Byte) (c : Option ReqCtx), s.comes .m0 0xA2 p c t ∧ p.length = 12 ∧ vltConfigOk p = true ∧ u8 p
      0 = 0 ∧ t.vltBars = false ∧ t.flag VLT_CTRL_LOCK = false) ∧
    (∃ (s t : State) (p : List Byte) (x : Option (List Byte)) (c : Option ReqCtx), s.comes .m0 0xA2 p c t ∧ p.length = 28 ∧
      vltConfigOk p = true ∧ u8 p 0 = 1 ∧ t.vltBars = false ∧ x = kwUnwrap ((List.range 16).map Config.vaultKey) (p.drop 4)) ∧
    (∃ (s t : State) (p : List Byte) (c : Option ReqCtx), s.comes .m0 0xA2 p c t ∧ p.length = 4 ∧ vltConfigOk p = true ∧ u8 p
      0 = 2 ∧ t.vltBars = false) ∧
    (∃ (s t : State) (p : List Byte) (c : Option ReqCtx), s.comes .m0 0xA2 p c t ∧ p.length = 16 ∧ vltConfigOk p = true ∧ u8 p
      0 = 3 ∧ t.vltBars = false) ∧
    (∃ (s t : State) (m : Master) (c : Option ReqCtx), s.comes m 0xA3 [] c t ∧ t.unitOn 14 = true) ∧
    (∃ (s t : State) (p : List Byte) (c : Option ReqCtx), s.comes .m0 0xA4 p c t ∧ p.length = 8 ∧ u8 p 0 < 2 ∧ within 1 20 (u8
      p 1) = true ∧ within 30 55 (u8 p 2) = true ∧ u8 p 3 = 0 ∧ t.vltBars = false) :=
  ⟨⟨up, _, .m0, [8, 0, 4, 0, 0, 0, 0, 0], _, ⟨by decide +kernel, rfl⟩, by decide +kernel⟩,
    ⟨up, _, _, .m0, [8, 0, 5, 0, 0, 0, 0, 0], _, _, ⟨by decide +kernel, rfl⟩, and3 (by decide +kernel) ⟨by decide +kernel,
      rfl, rfl⟩⟩,
    ⟨up, _, .m0, [8, 1, 1, 1] ++ zs 60, _, ⟨by decide +kernel, rfl⟩, by decide +kernel⟩,
    ⟨up, _, [0, 0, 0, 0, 30, 0x10, 0, 0, 1, 0, 0, 0], _, ⟨by decide +kernel, rfl⟩, by decide +kernel⟩,
    ⟨up, _, [1, 0, 0, 0] ++ zs 24, _, _, ⟨by decide +kernel, rfl⟩, and3 (by decide +kernel) ⟨by decide +kernel, rfl⟩⟩,
    ⟨up, _, [2, 0, 0, 0], _, ⟨by decide +kernel, rfl⟩, by decide +kernel⟩,
    ⟨up, _, [3, 0, 0, 0xF0] ++ zs 12, _, ⟨by decide +kernel, rfl⟩, by decide +kernel⟩,
    ⟨up, _, .m0, _, ⟨by decide +kernel, rfl⟩, by decide +kernel⟩,
    ⟨up, _, [1, 20, 30, 0] ++ zs 4, _, ⟨by decide +kernel, rfl⟩, by decide +kernel⟩⟩

theorem wit_VaultMemoryRowsComplete :
    (∃ (s u : State) (v : VaultMeas) (i t : Nat) (j : VltJob), s.vltOpen = true ∧ s.vlt.ready = true ∧ s.vaultFree = true ∧
      s.nextJob = some i ∧ u = (s.advance t).setMeas v ∧ u.vlt.jobs[i]? = some j) ∧
    (∃ (s : State) (i : Nat) (j : VltJob), s.vaultFree = false ∧ s.waitingJobs.head? = some i ∧ s.vlt.jobs[i]? = some j) ∧
    (∃ (s u : State) (x : VltStream) (b : List Byte) (y : Option VltStream), s.vlt.stream = some x ∧ s.unitOn 14 = true ∧
      s.awake = true ∧ s.streamItem x = some (b, y) ∧ s.pushItem x.queue b 0x0E = some u) ∧
    (∃ (s u : State) (x : VltStream), s.vlt.stream = some x ∧ x.phase = 3 ∧ s.awake = true ∧ u = s.advance (Config.sTicks +
      x.since)) ∧
    (∃ (s u : State) (x : VltStream), s.vlt.stream = some x ∧ x.phase ≠ 1 ∧ x.phase ≠ 3 ∧ s.awake = true ∧ u = s.advance
      (Config.sTicks + x.since)) ∧
    (∃ (s u : State) (v : VaultMeas) (w : PageWrite), s.vlt.write = some w ∧ w.stage = 1 ∧ u = ((s.advance (w.at_ +
      w.commitTicks)).setMeas v).nvSteps w.shadowSteps) ∧
    (∃ (s u : State) (v : VaultMeas) (w : PageWrite), s.vlt.write = some w ∧ w.stage = 4 ∧ u = ((s.advance (w.at_ +
      copyTicks)).setMeas v).modVlt (fun t => { t with write := none })) ∧
    (∃ (s : State) (k : Nat), s.vlt.ready = true ∧ s.vlt.write = none ∧ s.vlt.req = none ∧ s.vlt.own = [] ∧ s.vlt.jobs = [] ∧
      s.slotOrder.find? (fun k => slotRetired (s.shadowSlot k)) = some k) ∧
    (∃ (s u : State), s.vltOpen = true ∧ s.fenced 14 = false ∧ s.time.servo = .locked ∧ u = s.advance (86400 * Config.sTicks +
      s.vlt.timeAt)) :=
  ⟨⟨vl fun y => { y with jobs := [jobV] }, _, meas0, _, 0, _, and3 (by decide +kernel) ⟨sg (by decide +kernel), rfl, sg (by
      decide +kernel)⟩⟩,
    ⟨vl fun y => { y with jobs := [jobV], write := some (pgw 1) }, _, _, by decide +kernel, sg (by decide +kernel), sg (by
      decide +kernel)⟩,
    ⟨(qS 0).modVlt fun y => { y with stream := some (strm 0) }, _, strm 0, _, _, and3 (by decide +kernel) ⟨sg2 (by
      decide +kernel), sg (by decide +kernel)⟩⟩,
    ⟨vl fun y => { y with stream := some (strm 3) }, _, _, sg (by decide +kernel), by decide +kernel, by decide +kernel, rfl⟩,
    ⟨vl fun y => { y with stream := some (strm 0) }, _, _, sg (by decide +kernel), and3 (by decide +kernel) rfl⟩,
    ⟨vl fun y => { y with write := some (pgw 1) }, _, meas0, _, sg (by decide +kernel), by decide +kernel, rfl⟩,
    ⟨vl fun y => { y with write := some (pgw 4) }, _, meas0, _, sg (by decide +kernel), by decide +kernel, rfl⟩,
    ⟨vl fun y => { y with nv := (List.range 16).map fun i => (0x7060 + i, (0 : Byte)) }, _, and3 (by decide +kernel) ⟨by
      decide +kernel, by decide +kernel, sg (by decide +kernel)⟩⟩,
    ⟨up, _, and3 (by decide +kernel) rfl⟩⟩

theorem wit_VaultSupplyRowsComplete :
    (∃ (s u v : State) (main : Bool) (x : VaultMeas) (t : Nat), s.vlt.ready = false ∧ u = ((s.advance t).setMeas x).modVlt
      (fun y => { y with vddio := main, powerUps := if y.powered then y.powerUps else y.powerUps + 1, powered := true }) ∧ v =
      u.modVlt (fun y => { y with logic := u.loadLogic }) ∧ v.fieldCheck = true) ∧
    (∃ (s : State) (t : Nat), s.vlt.powered = true ∧ s.vlt.write = none) ∧
    (∃ (s : State) (t : Nat), s.vlt.powered = true) ∧
    (∃ (s u : State) (x : VaultMeas) (t : Nat), s.vlt.powered = true ∧ u = ((s.advance t).setMeas x).modVlt (fun y =>
      { y with live := y.ready }) ∧ bitAt u.vlt.logic.fd 8 = 0) ∧
    (∃ (s u v : State) (x : VaultMeas) (t : Nat), s.vlt.powered = true ∧ u = ((s.advance t).setMeas x).modVlt (fun y =>
      { y with live := y.ready }) ∧ bitAt u.vlt.logic.fd 8 = 1 ∧ u.vlt.fdWake = false ∧ u.hfr.field = none ∧ u.vlt.vddio =
      true ∧ v = (u.modVlt fun y => { y with fdWake := true }).event EV_VLT_FIELD [1, byte ((u.modVlt fun y =>
      { y with fdWake := true }).get VLT_STATUS_OWN_FIELD), byte (u.modVlt fun y => { y with fdWake := true }).vpwr, byte
      (u.modVlt fun y => { y with fdWake := true }).vlt.field]) ∧
    (∃ (s : State) (t : Nat), s.vlt.fdWake = true) ∧
    (∃ (s : State) (t : Nat), s.vlt.relUntil = some t) ∧
    (∃ (s : State) (t : Nat), s.vlt.powered = true ∧ s.vlt.rngFail = true) ∧
    (∃ (s u : State) (t : Nat), s.vlt.powered = true ∧ s.vlt.rngFail = false ∧ u = (s.advance t).modVlt (fun y =>
      { y with rngFail := true })) :=
  ⟨⟨vl fun y => { y with ready := false }, _, _, true, strong, 0, by decide +kernel, rfl, rfl, by decide +kernel⟩,
    ⟨up, 0, by decide +kernel⟩,
    ⟨up, 0, by decide +kernel⟩,
    ⟨vl fun y => { y with logic := { y.logic with fd := 0 } }, _, meas0, 0, by decide +kernel, rfl, by decide +kernel⟩,
    ⟨vl fun y => { y with logic := { y.logic with fd := 0x114 } }, _, _, strong, 0, by decide +kernel, rfl, and3 (by
      decide +kernel) ⟨by decide +kernel, rfl⟩⟩,
    ⟨vl fun y => { y with fdWake := true }, 0, by decide +kernel⟩,
    ⟨vl fun y => { y with relUntil := some 5 }, 5, by decide +kernel⟩,
    ⟨vl fun y => { y with rngFail := true }, 0, by decide +kernel⟩,
    ⟨up, _, 0, by decide +kernel, by decide +kernel, rfl⟩⟩

theorem wit_VaultFramesComplete :
    (∃ (s u : State) (b : List Byte) (t : Nat), s.vlt.ready = true ∧ s.vlt.live = true ∧ frameGood b = true ∧ u = (s.advance
      t).modVlt (fun y => { y with out := [], outSlot := 0, delayed := false }) ∧ b.length = 8 ∧ u8 b 0 = 0x52 ∧ u8 b 1 ≤ 4 ∧
      u32 b 2 = 0 ∧ u.vlt.rngFail = false ∧ u.vlt.proto = 0 ∧ u.vlt.powered = true ∧ u.vlt.vddio = false) ∧
    (∃ (s u : State) (b : List Byte) (t : Nat), s.vlt.ready = true ∧ s.vlt.live = true ∧ frameGood b = true ∧ u = (s.advance
      t).modVlt (fun y => { y with out := [], outSlot := 0, delayed := false }) ∧ b.length = 8 ∧ u8 b 0 = 0x53 ∧ u8 b 1 ≤ 4 ∧
      u32 b 2 = 0 ∧ u.vlt.rngFail = false ∧ u.vlt.proto = 3 ∧ u.vlt.powered = true ∧ u.vlt.vddio = false) ∧
    (∃ (s u v : State) (b nv : List Byte) (t : Nat), s.vlt.ready = true ∧ s.vlt.live = true ∧ frameGood b = true ∧ u =
      (s.advance t).modVlt (fun y => { y with out := [], outSlot := 0, delayed := false }) ∧ b.length = 5 ∧ u8 b 0 = 0x5C ∧
      u.vlt.proto = 1 ∧ u16 b 1 = u.vlt.h ∧ u.freshBytes 16 = (nv, v)) ∧
    (∃ (s u v : State) (b sk : List Byte) (k : Nat × List Byte) (t : Nat), s.vlt.ready = true ∧ s.vlt.live = true ∧ frameGood
      b = true ∧ u = (s.advance t).modVlt (fun y => { y with out := [], outSlot := 0, delayed := false }) ∧ b.length = 20 ∧ u8
      b 0 = 0x70 ∧ u.vlt.proto = 2 ∧ u8 b 1 < 8 ∧ v = u.sessionEnd.modVlt (fun y => { y with kidx := u8 b 1 }) ∧ v.vaultKey
      (u8 b 1) = some k ∧ sk = cmac k.2 ([0x56, 0x53, 0x01] ++ vaultIdBytes ++ v.vlt.nv16 ++ (b.drop 2).take 16)) ∧
    (∃ (s u v : State) (b : List Byte) (t : Nat), s.vlt.ready = true ∧ s.vlt.live = true ∧ frameGood b = true ∧ u = (s.advance
      t).modVlt (fun y => { y with out := [], outSlot := 0, delayed := false }) ∧ b.length = 11 ∧ u8 b 0 = 0x71 ∧ u.vlt.proto
      = 2 ∧ u.vlt.auth1 = true ∧ (cmac u.vlt.sk ([0x52, 0x50] ++ u.vlt.pv)).take 8 = (b.drop 1).take 8 ∧ v = (u.setFails
      0).modVlt (fun y => { y with session := true, auth1 := false, rseq := 0, vseq := 0, sessions := y.sessions + 1 })) ∧
    (∃ (s u : State) (b : List Byte) (t : Nat), s.vlt.ready = true ∧ s.vlt.live = true ∧ frameGood b = true ∧ u = (s.advance
      t).modVlt (fun y => { y with out := [], outSlot := 0, delayed := false }) ∧ b.length = 3 ∧ u8 b 0 = 0x50 ∧ ((u.vlt.proto
      = 1 ∨ u.vlt.proto = 2))) ∧
    (∃ (s u : State) (b x : List Byte) (v : VaultMeas) (t : Nat), s.vlt.ready = true ∧ s.vlt.live = true ∧ frameGood b = true
      ∧ u = (s.advance t).modVlt (fun y => { y with out := [], outSlot := 0, delayed := false }) ∧ u8 b 0 = 0x7E ∧ b.length =
      14 ∧ u.vlt.proto = 2 ∧ u.vlt.session = true ∧ ccmOpen u.vlt.sk (u.vaultNonce 0 u.vlt.rseq) [0x7E] ((b.drop 1).take 11) 8
      = some x ∧ u8 x 0 = 1 ∧ x.length = 3) ∧
    (∃ (s u : State) (b x : List Byte) (v : VaultMeas) (t : Nat), s.vlt.ready = true ∧ s.vlt.live = true ∧ frameGood b = true
      ∧ u = (s.advance t).modVlt (fun y => { y with out := [], outSlot := 0, delayed := false }) ∧ u8 b 0 = 0x7E ∧ b.length =
      74 ∧ u.vlt.proto = 2 ∧ u.vlt.session = true ∧ ccmOpen u.vlt.sk (u.vaultNonce 0 u.vlt.rseq) [0x7E] ((b.drop 1).take 71) 8
      = some x ∧ u8 x 0 = 2 ∧ x.length = 63) ∧
    (∃ (s u : State) (b x : List Byte) (v : VaultMeas) (t : Nat), s.vlt.ready = true ∧ s.vlt.live = true ∧ frameGood b = true
      ∧ u = (s.advance t).modVlt (fun y => { y with out := [], outSlot := 0, delayed := false }) ∧ u8 b 0 = 0x7E ∧ b.length =
      36 ∧ u.vlt.proto = 2 ∧ u.vlt.session = true ∧ ccmOpen u.vlt.sk (u.vaultNonce 0 u.vlt.rseq) [0x7E] ((b.drop 1).take 33) 8
      = some x ∧ u8 x 0 = 4 ∧ x.length = 25) ∧
    (∃ (s u : State) (b x : List Byte) (t : Nat), s.vlt.ready = true ∧ s.vlt.live = true ∧ frameGood b = true ∧ u = (s.advance
      t).modVlt (fun y => { y with out := [], outSlot := 0, delayed := false }) ∧ u8 b 0 = 0x7E ∧ b.length = 12 ∧ u.vlt.proto
      = 2 ∧ u.vlt.session = true ∧ ccmOpen u.vlt.sk (u.vaultNonce 0 u.vlt.rseq) [0x7E] ((b.drop 1).take 9) 8 = some x ∧ u8 x 0
      = 5 ∧ x.length = 1) ∧
    (∃ (s u w : State) (b : List Byte) (x : List Byte) (v : VaultMeas) (t : Nat), s.vlt.ready = true ∧ s.vlt.live = true ∧
      frameGood b = true ∧ u = (s.advance t).modVlt (fun y => { y with out := [], outSlot := 0, delayed := false }) ∧ u8 b 0 =
      0x7E ∧ u.vlt.proto = 2 ∧ u.vlt.session = true ∧ ccmOpen u.vlt.sk (u.vaultNonce 0 u.vlt.rseq) [0x7E] ((b.drop 1).take 9)
      8 = some x ∧ b.length = 12 ∧ u8 x 0 = 3 ∧ x.length = 1 ∧ w = (u.modVlt fun t => { t with rseq := t.rseq + 1 }).setMeas
      v) :=
  ⟨⟨noMain fun y => y, _, frameOf (0x52 :: zs 5), 0, and3 (by decide +kernel) ⟨rfl, by decide +kernel⟩⟩,
    ⟨noMain fun y => { y with proto := 3 }, _, frameOf (0x53 :: zs 5), 0, and3 (by decide +kernel) ⟨rfl, by decide +kernel⟩⟩,
    ⟨noMain fun y => { y with proto := 1 }, _, _, frameOf [0x5C, 0, 0], _, 0, and3 (by decide +kernel) ⟨rfl, and3 (by
      decide +kernel) ⟨by decide +kernel, rfl⟩⟩⟩,
    ⟨noMain fun y => { y with proto := 2, logic := { y.logic with keys := y.logic.keys.set 0 (some (5, zs 16)) } }, _, _,
      frameOf (0x70 :: 0 :: zs 16), _, _, 0, and3 (by decide +kernel) ⟨rfl, and3 (by decide +kernel) ⟨by decide +kernel, rfl,
      sg (by decide +kernel), rfl⟩⟩⟩,
    ⟨vl fun y => { y with proto := 2, auth1 := true, sk := zs 16, pv := zs 8 }, _, _, frameOf (0x71 :: authTag), 0, by
      decide +kernel, by decide +kernel, frameGood_frameOf _, rfl, by simp [length_frameOf, length_authTag], rfl, by
      decide +kernel, by decide +kernel, authTag_at, rfl⟩,
    ⟨noMain fun y => { y with proto := 1 }, _, frameOf [0x50], 0, and3 (by decide +kernel) ⟨rfl, by decide +kernel⟩⟩,
    ⟨secS, _, secB [1, 8, 0], [1, 8, 0], meas0, 0, by decide +kernel, by decide +kernel, frameGood_frameOf _, rfl, rfl,
      length_secB _, by decide +kernel, by decide +kernel, open_secB _ 11 rfl, by decide +kernel⟩,
    ⟨secS, _, secB (2 :: zs 62), 2 :: zs 62, meas0, 0, by decide +kernel, by decide +kernel, frameGood_frameOf _, rfl, rfl,
      length_secB _, by decide +kernel, by decide +kernel, open_secB _ 71 rfl, by decide +kernel⟩,
    ⟨secS, _, secB (4 :: zs 24), 4 :: zs 24, meas0, 0, by decide +kernel, by decide +kernel, frameGood_frameOf _, rfl, rfl,
      length_secB _, by decide +kernel, by decide +kernel, open_secB _ 33 rfl, by decide +kernel⟩,
    ⟨secS, _, secB [5], [5], 0, by decide +kernel, by decide +kernel, frameGood_frameOf _, rfl, rfl, length_secB _, by
      decide +kernel, by decide +kernel, open_secB _ 9 rfl, by decide +kernel⟩,
    ⟨secS, _, _, secB [3], [3], meas0, 0, by decide +kernel, by decide +kernel, frameGood_frameOf _, rfl, rfl, by
      decide +kernel, by decide +kernel, open_secB _ 9 rfl, length_secB _, by decide +kernel, by decide +kernel, rfl⟩⟩

theorem wit_QueueCommandsComplete :
    (∃ (s t u : State) (m : Master) (p : List Byte) (x : QueueCfg) (c : Option ReqCtx), s.comes m 0xB0 p c t ∧ x =
      { queue := u8 p 0, cfg := u8 p 1, quota := u16 p 4, ct := u8 p 6, high := u16 p 8, low := u16 p 10 } ∧ firstFail [lenIs
      p 12, paramOk (u8 p 0 < 128), paramOk (u8 p 1 < 128), paramOk (zeroAt p 2 2 && zeroAt p 7 1), paramOk (within 1 8191
      (u16 p 4)), paramOk (u8 p 6 ≤ 64), paramOk (u16 p 8 ≤ 0x3FFF && u16 p 10 ≤ 0x3FFF), paramOk (u16 p 8 = 0 || u16 p 10 ≤
      u16 p 8)] = none ∧ (m != .m0 && (u8 p 0 = 1 || u8 p 0 = 2)) = false ∧ (u8 p 0 = 0 && (bitAt (u8 p 1) 0 = 0 || bitAt (u8
      p 1) 3 = 0)) = false ∧ t.qLockedChange (u8 p 0) (u8 p 1) (u16 p 4) (u8 p 6) = false ∧ u = (if 0 < t.openItems (u8 p 0)
      && bitAt (u8 p 1) 0 = 1 then { t with qm := { t.qm with waiting := t.qm.waiting ++ [x] } } else t.configQueue x)) ∧
    (∃ (s t u : State) (m : Master) (p b : List Byte) (ecc : List Ecc) (k : Nat) (c : Option ReqCtx), s.comes m 0xB1 p c t ∧
      p.length = 4 ∧ u8 p 0 < 128 ∧ within 1 16 (u8 p 1) = true ∧ within 4100 32800 (u16 p 2) = true ∧ t.queueRight m (u8 p 0)
      1 = true ∧ t.flag (QM_Q_CFG_EN (u8 p 0)) = true ∧ popMany (u8 p 0) (u8 p 1) (min (u16 p 2) 32799) ecc t = (k, b, u,
      false)) ∧
    (∃ (s t : State) (m : Master) (p : List Byte) (l : List Item) (it : Item) (c : Option ReqCtx), s.comes m 0xB2 p c t ∧
      within 5 4100 p.length = true ∧ u8 p 0 < 128 ∧ zeroAt p 1 3 = true ∧ t.queueRight m (u8 p 0) 0 = true ∧ t.flag
      (QM_Q_CFG_EN (u8 p 0)) = true ∧ t.packItem (u8 p 0) (p.drop 4) (0x80 + m.num) = (l, it) ∧ t.beginRefused (u8 p 0)
      it.cells = false) ∧
    (∃ (s t u : State) (m : Master) (p : List Byte) (n k o : Nat) (c : Option ReqCtx), s.comes m 0xB3 p c t ∧ p.length = 4 ∧
      u8 p 0 < 128 ∧ zeroAt p 1 3 = true ∧ (m != .m0 && (u8 p 0 = 1 || u8 p 0 = 2)) = false ∧ t.flag (QM_Q_CFG_EN (u8 p 0)) =
      true ∧ t.flushQueue (u8 p 0) ITEM_ABORTED = (u, n, k, o)) ∧
    (∃ (s t : State) (m : Master) (p : List Byte) (c : Option ReqCtx), s.comes m 0xB4 p c t ∧ p.length = 1 ∧ u8 p 0 < 128 ∧ u8
      p 0 ≠ 0xFF) ∧
    (∃ (s t : State) (m : Master) (p : List Byte) (c : Option ReqCtx), s.comes m 0xB4 p c t ∧ p.length = 1 ∧ u8 p 0 = 0xFF) ∧
    (∃ (s t u v w : State) (m : Master) (p : List Byte) (q fl : Nat) (c : Option ReqCtx), s.comes m 0xB5 p c t ∧ q = u8 p 0 ∧
      fl = u8 p 1 ∧ firstFail [lenIs p 8, paramOk (q < 128), paramOk (fl < 8), paramOk (zeroAt p 2 2), paramOk (bitAt fl 0 = 0
      || (u16 p 4 ≤ 0x3FFF && u16 p 6 ≤ 0x3FFF && (u16 p 4 = 0 || u16 p 6 ≤ u16 p 4)))] = none ∧ (m != .m0 && (q = 1 || q =
      2)) = false ∧ t.flag (QM_Q_CFG_EN q) = true ∧ u = (if bitAt fl 0 = 1 then t.put (QM_Q_WM q) (u16 p 4 + 2 ^ 16 * u16 p 6)
      else t) ∧ v = (if bitAt fl 1 = 1 then (u.put (QM_Q_STATUS_HWF q) 0).put (QM_Q_STATUS_LWF q) 0 else u) ∧ w = (if bitAt fl
      2 = 1 then v.put (QM_Q_XCNT q) 0 else v)) :=
  ⟨⟨up, _, _, .m0, [5, 1, 0, 0, 10, 0, 0, 0, 0, 0, 0, 0], _, _, ⟨by decide +kernel, rfl⟩, rfl, and3 (by decide +kernel) ⟨by
      decide +kernel, rfl⟩⟩,
    ⟨qS 5, _, _, .m0, [5, 1, 4, 0x10], _, [], _, _, ⟨by decide +kernel, rfl⟩, and3 (by decide +kernel) (and3 (by
      decide +kernel) (quad (by decide +kernel)))⟩,
    ⟨qS 5, _, .m0, [5, 0, 0, 0, 7], _, _, _, ⟨by decide +kernel, rfl⟩, and3 (by decide +kernel) ⟨by decide +kernel, by
      decide +kernel, rfl, by decide +kernel⟩⟩,
    ⟨qS 5, _, _, .m0, [5, 0, 0, 0], _, _, _, _, ⟨by decide +kernel, rfl⟩, and3 (by decide +kernel) ⟨by decide +kernel, by
      decide +kernel, rfl⟩⟩,
    ⟨up, _, .m0, [5], _, ⟨by decide +kernel, rfl⟩, by decide +kernel⟩,
    ⟨up, _, .m0, [0xFF], _, ⟨by decide +kernel, rfl⟩, by decide +kernel⟩,
    ⟨qS 5, _, _, _, _, .m0, [5, 7, 0, 0, 10, 0, 5, 0], _, _, _, ⟨by decide +kernel, rfl⟩, rfl, rfl, and3 (by decide +kernel)
      ⟨rfl, rfl, rfl⟩⟩⟩

theorem wit_QueuePortsComplete :
    (∃ (s : State) (m : Master) (port : Fin 8) (v : Word) (q n k : Nat), s.reaches m (QM_PUSH_BEGIN port).addr = true ∧
      s.fenced 15 = false ∧ (s.pushPort port).item = none ∧ q = bitsAt v.toNat 0 7 ∧ n = bitsAt v.toNat 8 13 ∧ n ≠ 0 ∧ n ≤
      4096 ∧ s.queueRight m q 0 = true ∧ s.flag (QM_Q_CFG_EN q) = true ∧ (s.packItem q (List.replicate n 0) 0x80).2.cells ≠ 0
      ∧ k = cellsOf n ∧ s.beginRefused q k = false) ∧
    (∃ (s : State) (m : Master) (port : Fin 8) (v : Word) (o : OpenItem) (b : List Byte), s.reaches m (QM_PUSH_DATA port).addr
      = true ∧ (s.pushPort port).item = some o ∧ b = (o.data ++ le 4 v.toNat).take o.len ∧ b.length < o.len) ∧
    (∃ (s u : State) (m : Master) (port : Fin 8) (v : Word) (o : OpenItem) (b : List Byte) (l : List Item) (it : Item),
      s.reaches m (QM_PUSH_DATA port).addr = true ∧ (s.pushPort port).item = some o ∧ b = (o.data ++ le 4 v.toNat).take o.len
      ∧ b.length = o.len ∧ u = s.setPushPort port { item := none, status := OK, bytes := o.len } ∧ u.packItem o.queue b o.src
      = (l, it)) ∧
    (∃ (s u : State) (m : Master) (port : Fin 8) (q : BitVec 7) (it : Item), s.reaches m (QM_POP_SEL port).addr = true ∧
      (s.releasePop port).fenced 15 = false ∧ (s.releasePop port).queueRight m q.toNat 1 = true ∧ (s.releasePop port).popItem
      q.toNat = some (it, u)) ∧
    (∃ (s u : State) (m : Master) (port : Fin 8) (it : Item), s.readable m (QM_POP_DATA port).addr = true ∧ u = s.readBack m
      (s.popWord port .clean) ∧ (u.popPort port).item = some it ∧ (u.popPort port).pos < it.bytes.length ∧ (u.popPort
      port).failed = false) ∧
    (∃ (s : State) (m : Master) (port : Fin 8), s.reaches m (QM_POP_DONE port).addr = true) ∧
    (∃ (s u : State) (q : Fin 128) (t n k o : Nat), ((s.advance t).raise FID_QM_LINK q).flushQueue q ITEM_ABORTED = (u, n, k,
      o)) :=
  ⟨⟨qS 5, .m0, 0, 0x105, _, _, _, and3 (by decide +kernel) ⟨rfl, rfl, and3 (by decide +kernel) ⟨by decide +kernel, by
      decide +kernel, rfl, by decide +kernel⟩⟩⟩,
    ⟨pushS 6, .m0, 0, 0, _, _, by decide +kernel, sg (by decide +kernel), rfl, by decide +kernel⟩,
    ⟨pushS 4, _, .m0, 0, 0, _, _, _, _, by decide +kernel, sg (by decide +kernel), rfl, by decide +kernel, rfl, rfl⟩,
    ⟨qI 5 [itemQ], _, .m0, 0, 5, _, and3 (by decide +kernel) (sg2 (by decide +kernel))⟩,
    ⟨popP fun p => { p with item := some itemQ }, _, .m0, 0, _, by decide +kernel, rfl, sg (by decide +kernel), by
      decide +kernel⟩,
    ⟨up, .m0, 0, by decide +kernel⟩,
    ⟨qI 5 [itemQ], _, 5, 0, _, _, _, rfl⟩⟩

theorem wit_HifRowsComplete_a :
    (∃ (s u : State) (b : List Byte) (t : Nat), u = s.advance t ∧ u.portUp false = true ∧ u8 b 0 = 0x5A ∧ b ≠ [] ∧
      u.hif.spi.pending = none ∧ u.hif.spi.reply = none) ∧
    (∃ (s u v : State) (n t : Nat), u = s.advance t ∧ u.portUp false = true ∧ n ≠ 0 ∧ u.hif.spi.reply = none ∧ v = u.flagSent
      false (u.readBytes false n)) ∧
    (∃ (s u : State) (b : List Byte) (t : Nat), u = s.advance t ∧ u.portUp true = true ∧ u8 b 0 = 0x5A ∧ b ≠ [] ∧
      u.hif.side.pending = none ∧ u.hif.side.reply = none) ∧
    (∃ (s u v : State) (n t : Nat), u = s.advance t ∧ u.portUp true = true ∧ n ≠ 0 ∧ u.hif.side.reply = none ∧ v = u.flagSent
      true (u.readBytes true n)) ∧
    (∃ (s u : State) (t : Nat), s.pwr.st = .p2 ∧ s.awake = false ∧ s.flag HIF_CTRL_SIDE_EN = true ∧ u = s.advance t) ∧
    (∃ (s : State) (t : Nat), s.hif.stretch = some t ∧ s.portUp true = true) ∧
    (∃ (s : State) (t : Nat), s.hif.stretch = some t ∧ s.portUp true = false) ∧
    (∃ (s : State) (t : Nat), s.portUp true = true) :=
  ⟨⟨up, _, [0x5A], 0, rfl, by decide +kernel⟩,
    ⟨up, _, _, 1, 0, rfl, and3 (by decide +kernel) rfl⟩,
    ⟨up.put HIF_CTRL_SIDE_EN 1, _, [0x5A], 0, rfl, by decide +kernel⟩,
    ⟨up.put HIF_CTRL_SIDE_EN 1, _, _, 1, 0, rfl, and3 (by decide +kernel) rfl⟩,
    ⟨(pw fun p => { p with st := .p2 }).put HIF_CTRL_SIDE_EN 1, _, 0, and3 (by decide +kernel) rfl⟩,
    ⟨(hif fun h => { h with stretch := some 3 }).put HIF_CTRL_SIDE_EN 1, 3, by decide +kernel⟩,
    ⟨(hif fun h => { h with stretch := some 3 }).put HIF_CTRL_SIDE_EN 0, 3, by decide +kernel⟩,
    ⟨up.put HIF_CTRL_SIDE_EN 1, 0, by decide +kernel⟩⟩

theorem wit_HifRowsComplete_b :
    (∃ (s u : State) (i : Item) (l r : List Item) (b : List Byte), s.awake = true ∧ s.pwr.hifUp = true ∧ s.queue 2 = i :: l ∧
      takeSegs (u8 i.bytes 0) (u8 i.bytes 1) (i :: l) [] = some (b, r) ∧ u = (s.popSegs ((i :: l).length -
      r.length)).deliverReply (u8 i.bytes 0) (u8 i.bytes 1) (u8 b 0) (u8 b 1) (b.drop 4)) ∧
    (∃ (s : State) (side : Bool) (r : PendReq), (s.port side).pending = some r ∧ s.awake = true ∧ s.pwr.hifUp = true) ∧
    (∃ (s : State) (o : FlashOp) (l : List FlashOp) (t : Nat), s.hif.flash = o :: l ∧ s.awake = true ∧ o.kind = 1 ∧
      o.suspended = false) ∧
    (∃ (s : State) (o : FlashOp) (l : List FlashOp) (t : Nat), s.hif.flash = o :: l ∧ s.awake = true ∧ o.kind = 2 ∧
      o.suspended = false) ∧
    (∃ (s u : State) (o : FlashOp) (l : List FlashOp) (g : FlashProg) (q : List FlashProg) (t : Nat), s.hif.flash = o :: l ∧
      s.awake = true ∧ o.kind = 1 ∧ o.suspended = false ∧ o.owner = 2 ∧ s.upd.progs = g :: q ∧ g.op = 0xD4 ∧ u = State.modUpd
      { (s.advance t).programFlash o.addr o.data with hif := { ((s.advance t).programFlash o.addr o.data).hif with flash := l } }
      (fun u => { u with progs := q })) ∧
    (∃ (s u : State) (o : FlashOp) (l : List FlashOp) (g : FlashProg) (q : List FlashProg) (t : Nat), s.hif.flash = o :: l ∧
      s.awake = true ∧ o.kind = 1 ∧ o.suspended = false ∧ o.owner = 2 ∧ s.upd.progs = g :: q ∧ g.op = 0xD3 ∧ u = State.modUpd
      { (s.advance t).programFlash o.addr o.data with hif := { ((s.advance t).programFlash o.addr o.data).hif with flash := l } }
      (fun u => { u with progs := q })) ∧
    (∃ (s u : State) (o : FlashOp) (l : List FlashOp) (done : Bool), s.hif.flash = o :: l ∧ s.awake = true ∧ o.kind = 2 ∧
      s.freshBool = (done, u)) :=
  ⟨⟨qI 2 [{ bytes := [0, 0, 0, 1, 0, 0, 0, 0], src := 0, cells := 1 }], _, _, _, _, _, by decide +kernel, by decide +kernel,
      rfl, sg2 (by decide +kernel), rfl⟩,
    ⟨hif fun h => { h with spi := { h.spi with pending := some { seq := 0, tag := 0, op := 0, params := [], at_ := 0 } } },
      false, _, sg (by decide +kernel), by decide +kernel⟩,
    ⟨hif fun h => { h with flash := [fop 1] }, fop 1, [], 0, rfl, by decide +kernel⟩,
    ⟨hif fun h => { h with flash := [fop 2] }, fop 2, [], 0, rfl, by decide +kernel⟩,
    ⟨{ up with hif := { up.hif with flash := [{ kind := 1, addr := 0x100, data := [1], owner := 2 }] }, upd := { up.upd with progs := [{ op := 0xD4, ok := true, master := .m0, ctx := none }] } },
      _, _, _, _, _, 0, rfl, and3 (by decide +kernel) ⟨by decide +kernel, rfl, by decide +kernel, rfl⟩⟩,
    ⟨{ up with hif := { up.hif with flash := [{ kind := 1, addr := 0x100, data := [1], owner := 2 }] }, upd := { up.upd with progs := [{ op := 0xD3, ok := true, master := .m0, ctx := none }] } },
      _, _, _, _, _, 0, rfl, and3 (by decide +kernel) ⟨by decide +kernel, rfl, by decide +kernel, rfl⟩⟩,
    ⟨hif fun h => { h with flash := [fop 2] }, _, fop 2, [], _, rfl, by decide +kernel, by decide +kernel, rfl⟩⟩

theorem wit_FltCommandsComplete :
    (∃ (s u : State) (j : Injection), s.flt.inject = some j ∧ u = (s.advance (j.at_ + Config.usTicks * (j.count -
      j.left))).takeInjected { fid := j.fid, inst := j.inst, data := j.data } j.react j.override_) ∧
    (∃ (s t u : State) (m : Master) (b : List Byte) (c : Option ReqCtx), s.comes m 0xF0 [] c t ∧ t.upd.wrong < 3 ∧ t.rngReady
      = true ∧ (t.bump TRNG_REQS).drbgDraw 16 = (b, u)) ∧
    (∃ (s t u : State) (m : Master) (p b : List Byte) (c : Option ReqCtx), s.comes m 0xF0 p c t ∧ p.length = 16 ∧ t.upd.wrong
      < 3 ∧ t.upd.challenge = some b ∧ cmac ((List.range 16).map Config.testKey) b = p ∧ t.rel.sess = 0 ∧ t.auth.att = none ∧
      u = (t.modUpd fun x => { x with challenge := none }).aesWipe) ∧
    (∃ (s t : State) (m : Master) (c : Option ReqCtx), s.comes m 0xF1 [] c t ∧ t.sys.test = true) ∧
    (∃ (s t : State) (m : Master) (p : List Byte) (l : List Nat) (c : Option ReqCtx), s.comes m 0xC0 p c t ∧ p = [] ∧ l =
      t.latchedFids) ∧
    (∃ (s t : State) (m : Master) (p : List Byte) (f i : Nat) (c : Option ReqCtx), s.comes m 0xC0 p c t ∧ p.isEmpty = false ∧
      p.length = 2 ∧ f = u16 p 0 ∧ i = srcIx f ∧ (sourceRow f).isNone = false) ∧
    (∃ (s t u : State) (m : Master) (p : List Byte) (f w w2 : Nat) (c : Option ReqCtx), s.comes m 0xC1 p c t ∧ f = u16 p 0 ∧ w
      = u32 p 4 ∧ w2 = u32 p 8 ∧ (sourceRow f).isSome = true ∧ firstFail [lenIs p 12, paramOk (zeroAt p 2 2), paramOk (bitsAt
      w 0 5 ≤ 16 && bitsAt w 5 3 = 0 && bitsAt w 8 16 ≠ 0 && bitsAt w 24 2 ≠ 3 && bitsAt w 26 2 = 0 && bitsAt w 31 1 = 0 &&
      bitsAt w 28 3 ≤ 4 && bitsAt w2 0 3 ≤ 5 && bitsAt w2 3 1 = 0 && bitsAt w2 8 24 = 0), paramOk (!(sourceRow f).isSome ||
      reactOk f (bitsAt w 28 3) (bitsAt w2 0 3))] = none ∧ t.flag (FLT_S_CFG2_FIXED (srcIx f)) = false ∧ t.flag FLT_CTRL_LOCK
      = false ∧ u = t.setSource f w w2) ∧
    (∃ (s t u v w x : State) (m : Master) (p : List Byte) (f n : Nat) (c : Option ReqCtx), s.comes m 0xC2 p c t ∧ p.length = 4
      ∧ u8 p 2 < 2 ∧ u8 p 3 = 0 ∧ f = u16 p 0 ∧ f ≠ 0xFFFF ∧ (sourceRow f).isNone = false ∧ t.clearable f = true ∧ n =
      ([f].filter fun f => (t.src f).latch != 0 || (t.src f).injLatch != 0).length ∧ u = (t.clearSource f (u8 p 2 = 1)).put
      FLT_STAT_NOTE 0 ∧ v = u.releaseAll f false ∧ w = v.put FLT_STAT_NOTE 0 ∧ x = w.eventBbx EV_FLT_CLEARED (le 2 f ++ le 2 n
      ++ le 4 w.fencedMask) true) ∧
    (∃ (s t u v w x : State) (m : Master) (p : List Byte) (n : Nat) (l : List Nat) (c : Option ReqCtx), s.comes m 0xC2 p c t ∧
      p.length = 4 ∧ u8 p 2 < 2 ∧ u8 p 3 = 0 ∧ u16 p 0 = 0xFFFF ∧ l = (t.flt.srcs.map (·.fid)).filter t.clearable ∧ n =
      (l.filter fun f => (t.src f).latch != 0 || (t.src f).injLatch != 0).length ∧ u = (l.foldl (fun s f => s.clearSource f
      (u8 p 2 = 1)) t).put FLT_STAT_NOTE 0 ∧ v = u.releaseAll 0xFFFF false ∧ w = v.put FLT_STAT_NOTE 0 ∧ x = w.eventBbx
      EV_FLT_CLEARED (le 2 0xFFFF ++ le 2 n ++ le 4 w.fencedMask) true) ∧
    (∃ (s t : State) (m : Master) (p : List Byte) (j : Injection) (c : Option ReqCtx), s.comes m 0xC4 p c t ∧ (sourceRow (u16
      p 0)).isSome = true ∧ firstFail [lenIs p 20, paramOk (u8 p 2 < 4 && within 1 16 (u8 p 4) && zeroAt p 5 3 && zeroAt p 17
      3 && u8 p 3 ≤ (if u8 p 2 / 2 % 2 = 1 then 4 else 0)), paramOk (!(sourceRow (u16 p 0)).isSome || !decide (u8 p 2 / 2 % 2
      = 1) || reactOk (u16 p 0) (u8 p 3) (s.get (FLT_S_CFG2_DEG_MODE (srcIx (u16 p 0)))))] = none ∧ t.sys.test = true ∧
      t.flt.inject = none ∧ j =
      { fid := u16 p 0, react := bitAt (u8 p 2) 0 = 1, override_ := if u8 p 2 / 2 % 2 = 1 then some (u8 p 3) else none, left := u8 p 4, count := u8 p 4, inst := u8 p 8, data := (p.drop 9).take 8, at_ := t.time.now, master := m, ctx := c }) ∧
    (∃ (s t : State) (m : Master) (p : List Byte) (n first : Nat) (l : List (Nat × List Byte)) (c : Option ReqCtx), s.comes m
      0xC3 p c t ∧ p.length = 8 ∧ n = u8 p 4 ∧ within 1 64 n = true ∧ zeroAt p 5 3 = true ∧ t.bbx.ready = true ∧ l = (if u32 p
      0 = 0xFFFFFFFF then t.bbxHeld.drop (t.bbxHeld.length - n) else (t.bbxHeld.filter fun x => u32 p 0 ≤ x.1).take n) ∧ first
      = (match l with | x :: _ => x.1 | [] => u32 p 0)) :=
  ⟨⟨{ up with flt := { up.flt with inject := some { fid := 0x0B01, react := false, override_ := none, left := 1, count := 1, inst := 0, data := [], at_ := 0, master := .m0, ctx := none } } },
      _, _, sg (by decide +kernel), rfl⟩,
    ⟨up, _, _, .m0, _, _, ⟨by decide +kernel, rfl⟩, by decide +kernel, by decide +kernel, rfl⟩,
    ⟨upd fun u => { u with challenge := some (zs 16) }, _, _, .m0, cmac ((List.range 16).map Config.testKey) (zs 16), zs 16,
      _, ⟨by decide +kernel, rfl⟩, length_cmac testKey_whole.2 testKey_some _, by decide +kernel, by decide +kernel, rfl, by
      decide +kernel, by decide +kernel, rfl⟩,
    ⟨{ up with sys := { up.sys with test := true } }, _, .m0, _, ⟨by decide +kernel, rfl⟩, by decide +kernel⟩,
    ⟨up, _, .m0, [], _, _, ⟨by decide +kernel, rfl⟩, by decide +kernel, rfl⟩,
    ⟨up, _, .m0, [1, 11], _, _, _, ⟨by decide +kernel, rfl⟩, by decide +kernel, by decide +kernel, rfl, rfl, by
      decide +kernel⟩,
    ⟨up, _, _, .m0, [1, 11, 0, 0, 3, 60, 0, 0, 0, 0, 0, 0], _, _, _, _, ⟨by decide +kernel, rfl⟩, rfl, rfl, rfl, and3 (by
      decide +kernel) ⟨by decide +kernel, rfl⟩⟩,
    ⟨up, _, _, _, _, _, .m0, [1, 11, 0, 0], _, _, _, ⟨by decide +kernel, rfl⟩, and3 (by decide +kernel) ⟨rfl, and3 (by
      decide +kernel) ⟨rfl, rfl, rfl, rfl, rfl⟩⟩⟩,
    ⟨up, _, _, _, _, _, .m0, [0xFF, 0xFF, 0, 0], _, _, _, ⟨by decide +kernel, rfl⟩, and3 (by decide +kernel) ⟨by
      decide +kernel, rfl, rfl, rfl, rfl, rfl, rfl⟩⟩,
    ⟨{ up with sys := { up.sys with test := true } }, _, .m0, [1, 11, 0, 0, 16] ++ zs 15, _, _, ⟨by decide +kernel, rfl⟩, and3
      (by decide +kernel) ⟨by decide +kernel, rfl⟩⟩,
    ⟨up, _, .m0, [0, 0, 0, 0, 1, 0, 0, 0], _, _, _, _, ⟨by decide +kernel, rfl⟩, by decide +kernel, rfl, and3 (by
      decide +kernel) ⟨rfl, rfl⟩⟩⟩

theorem wit_InjectionBbxTestRowsComplete :
    (∃ (s u : State) (j : Injection), s.flt.inject = some j ∧ u = s.advance (j.at_ + Config.usTicks * (j.count - j.left)) ∧ 1
      < j.left) ∧
    (∃ (s u : State) (j : Injection), s.flt.inject = some j ∧ u = s.advance (j.at_ + Config.usTicks * (j.count - j.left)) ∧
      j.left ≤ 1) ∧
    (∃ (s : State) (v : Bool) (r : BbxRec) (rest : List BbxRec), s.bbx.ready = true ∧ s.bbx.erasing = false ∧ s.awake = true ∧
      (s.bbx.srcs.find? fun x => x.refused ≠ 0 && x.startLp + bbxSpan ≤ s.time.lp && s.bbx.tokens ≠ 0) = none ∧ s.bbx.buf = r
      :: rest) ∧
    (∃ (s : State) (v : Bool) (x : BbxSrc), s.bbx.ready = true ∧ s.bbx.erasing = false ∧ s.awake = true ∧ (s.bbx.srcs.find?
      fun x => x.refused ≠ 0 && x.startLp + bbxSpan ≤ s.time.lp && s.bbx.tokens ≠ 0) = some x) ∧
    (∃ (s : State) (t : Nat), s.bbx.ready = true ∧ s.bbx.erasing = true ∧ s.awake = true) ∧
    (∃ (s u : State), u = s.advanceLp (32768 + s.bbx.tickLp)) ∧
    (∃ (s t u : State) (m : Master) (c : Option ReqCtx), s.comes m 0xF0 [] c t ∧ t.upd.wrong < 3 ∧ t.rngReady = true ∧ u =
      ((t.bump TRNG_REQS).drbgDraw 16).2) ∧
    (∃ (s t u v : State) (m : Master) (p b : List Byte) (c : Option ReqCtx), s.comes m 0xF0 p c t ∧ p.isEmpty = false ∧
      p.length = 16 ∧ t.upd.wrong < 3 ∧ t.upd.challenge = some b ∧ t.rel.sess = 0 ∧ t.auth.att = none ∧ u = (t.modUpd fun x =>
      { x with challenge := none }).aesWipe ∧ v =
      { u with sys := { u.sys with test := true }, pwr := { u.pwr with padsHeld := u.pwr.padsHeld - bitAt u.pwr.padsHeld 0 + 1, list := false } }) ∧
    (∃ (s t u : State) (m : Master) (c : Option ReqCtx), s.comes m 0xF1 [] c t ∧ t.sys.test = true ∧ u =
      { t.aesWipe with sys := { t.sys with test := false } }) :=
  ⟨⟨{ up with flt := { up.flt with inject := some { fid := 0x0B01, react := false, override_ := none, left := 2, count := 2, inst := 0, data := [], at_ := 0, master := .m0, ctx := none } } },
      _, _, sg (by decide +kernel), rfl, by decide +kernel⟩,
    ⟨{ up with flt := { up.flt with inject := some { fid := 0x0B01, react := false, override_ := none, left := 1, count := 1, inst := 0, data := [], at_ := 0, master := .m0, ctx := none } } },
      _, _, sg (by decide +kernel), rfl, by decide +kernel⟩,
    ⟨bx fun b => { b with ready := true, buf := [{ bytes := zs 48, key := 0, protected_ := false }] }, false, _, _, and3 (by
      decide +kernel) ⟨by decide +kernel, rfl⟩⟩,
    ⟨{ (bx fun b => { b with ready := true, srcs := [{ key := 0, refused := 1 }] }) with time := { up.time with lp := 60000000 } },
      false, _, and3 (by decide +kernel) (sg (by decide +kernel))⟩,
    ⟨bx fun b => { b with ready := true, erasing := true }, 0, by decide +kernel⟩,
    ⟨up, _, rfl⟩,
    ⟨up, _, _, .m0, _, ⟨by decide +kernel, rfl⟩, by decide +kernel, by decide +kernel, rfl⟩,
    ⟨upd fun u => { u with challenge := some (zs 16) }, _, _, _, .m0, zs 16, zs 16, _, ⟨by decide +kernel, rfl⟩, and3 (by
      decide +kernel) ⟨rfl, by decide +kernel, by decide +kernel, rfl, rfl⟩⟩,
    ⟨{ up with sys := { up.sys with test := true } }, _, _, .m0, _, ⟨by decide +kernel, rfl⟩, by decide +kernel, rfl⟩⟩

theorem wit_ConfigImageCommandsComplete :
    (∃ (s t : State) (m : Master) (p : List Byte) (c : Option ReqCtx), s.comes m 0xD0 p c t ∧ p.length = 4 ∧ u8 p 0 = 0 ∧ u8 p
      1 = 0 ∧ within 12 8192 (u16 p 2) = true ∧ t.upd.apply = none) ∧
    (∃ (s t : State) (m : Master) (p b : List Byte) (n : Nat) (c : Option ReqCtx), s.comes m 0xD0 p c t ∧ within 5 244
      p.length = true ∧ 1 ≤ p.length ∧ u8 p 0 = 1 ∧ u8 p 1 = 0 ∧ t.upd.apply = none ∧ t.upd.stage = some (n, b) ∧ (u16 p 2 ≠
      b.length || n < b.length + (p.length - 4)) = false) ∧
    (∃ (s t u : State) (m : Master) (p d : List Byte) (st : Nat) (c : Option ReqCtx), s.comes m 0xD0 p c t ∧ p.length = 4 ∧ u8
      p 0 = 2 ∧ u8 p 1 = 0 ∧ u16 p 2 = 0 ∧ t.upd.apply = none ∧ t.stageEnd = (u, st, d)) ∧
    (∃ (s t : State) (m : Master) (p : List Byte) (c : Option ReqCtx), s.comes m 0xD0 p c t ∧ p.length = 4 ∧ u8 p 0 = 3 ∧ u8 p
      1 = 0 ∧ u16 p 2 = 0 ∧ t.upd.apply = none) ∧
    (∃ (s t u : State) (m : Master) (p b : List Byte) (a : CfgApply) (c : Option ReqCtx), s.comes m 0xD1 p c t ∧ p.length = 4
      ∧ u8 p 2 < 2 ∧ u8 p 3 = 0 ∧ t.upd.apply = none ∧ t.upd.switch = none ∧ t.upd.staged = some b ∧ u16 b 4 = u16 p 0 ∧
      (imageBlocks t.stagedWords).isEmpty = false ∧ a =
      { epoch := u16 b 4, named := imageBlocks t.stagedWords, pending := imageBlocks t.stagedWords, at_ := t.time.now, commit := u8 p 2 = 1, master := m, ctx := c }
      ∧ u = (t.modUpd fun k => { k with apply := some a }).setCstate 2) ∧
    (∃ (s t u : State) (m : Master) (p b : List Byte) (a : CfgApply) (c : Option ReqCtx), s.comes m 0xD1 p c t ∧ p.length = 4
      ∧ u8 p 2 < 2 ∧ u8 p 3 = 0 ∧ t.upd.apply = none ∧ t.upd.switch = none ∧ t.upd.staged = some b ∧ u16 b 4 = u16 p 0 ∧
      imageBlocks t.stagedWords = [] ∧ a =
      { epoch := u16 b 4, named := [], pending := [], at_ := t.time.now, commit := u8 p 2 = 1, master := m, ctx := c } ∧ u =
      (t.modUpd fun k => { k with apply := some a }).setCstate 2) ∧
    (∃ (s t : State) (m : Master) (p b : List Byte) (c : Option ReqCtx), s.comes m 0xD2 p c t ∧ p.length = 6 ∧ u8 p 0 = 0 ∧ u8
      p 1 = 0 ∧ within 1 4096 (u16 p 4) = true ∧ b = (if t.upd.inForce.isEmpty then [0x43, 0x47, 1, 0, 0, 0, 0, 0] else
      t.upd.inForce)) ∧
    (∃ (s t : State) (m : Master) (p b : List Byte) (c : Option ReqCtx), s.comes m 0xD2 p c t ∧ p.length = 6 ∧ u8 p 0 = 1 ∧ u8
      p 1 = 0 ∧ within 1 4096 (u16 p 4) = true ∧ t.upd.staged = some b) ∧
    (∃ (s t : State) (m : Master) (p b : List Byte) (k : Nat) (c : Option ReqCtx), s.comes m 0xD2 p c t ∧ p.length = 6 ∧ u8 p
      0 = k + 2 ∧ k < 2 ∧ u8 p 1 = 0 ∧ within 1 4096 (u16 p 4) = true ∧ b = t.readMem (imageAddr k) 0x2000) ∧
    (∃ (s t u v : State) (m : Master) (b : Bool) (k : Nat) (c : Option ReqCtx), s.comes m 0xD3 [] c t ∧ t.upd.apply = none ∧
      t.sys.epoch ≠ 0 ∧ k = t.otherCopy ∧ u = (t.writeImage k t.upd.inForce).modUpd (fun u =>
      { u with progs := u.progs ++ [{ op := 0xD3, copy := k, ok := b, master := m, ctx := c }] }) ∧ v = (u.flashAsk
      { kind := 2, addr := archImage k, data := [], owner := 0 }).flashAsk
      { kind := 2, addr := archImage k + 0x1000, data := [], owner := 0 }) :=
  ⟨⟨up, _, .m0, [0, 0, 12, 0], _, ⟨by decide +kernel, rfl⟩, by decide +kernel⟩,
    ⟨upd fun u => { u with stage := some (12, []) }, _, .m0, [1, 0, 0, 0, 7], [], 12, _, ⟨by decide +kernel, rfl⟩, by
      decide +kernel⟩,
    ⟨upd fun u => { u with stage := some (12, zs 12) }, _, _, .m0, [2, 0, 0, 0], _, _, _, ⟨by decide +kernel, rfl⟩, and3 (by
      decide +kernel) ⟨by decide +kernel, by decide +kernel, rfl⟩⟩,
    ⟨up, _, .m0, [3, 0, 0, 0], _, ⟨by decide +kernel, rfl⟩, by decide +kernel⟩,
    ⟨upd fun u => { u with staged := some img2 }, _, _, .m0, [1, 0, 0, 0], img2, _, _, ⟨by decide +kernel, rfl⟩, and3 (by
      decide +kernel) (and3 (by decide +kernel) ⟨by decide +kernel, by decide +kernel, rfl, rfl⟩)⟩,
    ⟨upd fun u => { u with staged := some (img2.take 6 ++ zs 6) }, _, _, .m0, [1, 0, 0, 0], img2.take 6 ++ zs 6, _, _, ⟨by
      decide +kernel, rfl⟩, and3 (by decide +kernel) (and3 (by decide +kernel) ⟨by decide +kernel, by decide +kernel, rfl,
      rfl⟩)⟩,
    ⟨up, _, .m0, [0, 0, 0, 0, 1, 0], _, _, ⟨by decide +kernel, rfl⟩, and3 (by decide +kernel) ⟨by decide +kernel, rfl⟩⟩,
    ⟨upd fun u => { u with staged := some img2 }, _, .m0, [1, 0, 0, 0, 0, 0x10], img2, _, ⟨by decide +kernel, rfl⟩, by
      decide +kernel⟩,
    ⟨up, _, .m0, [3, 0, 0, 0, 1, 0], _, 1, _, ⟨by decide +kernel, rfl⟩, and3 (by decide +kernel) ⟨by decide +kernel, by
      decide +kernel, rfl⟩⟩,
    ⟨{ up with sys := { up.sys with epoch := 1 } }, _, _, _, .m0, false, _, _, ⟨by decide +kernel, rfl⟩, by decide +kernel, by
      decide +kernel, rfl, rfl, rfl⟩⟩

theorem wit_FirmwareCommandsComplete :
    (∃ (s t : State) (m : Master) (p : List Byte) (b : Bool) (c : Option ReqCtx), s.comes m 0xD4 p c t ∧ p.length = 8 ∧ u8 p 0
      < 2 ∧ u8 p 1 = 0 ∧ u16 p 2 = 0 ∧ u32 p 4 < 0x100000 ∧ t.slotBarred (u8 p 0) = false ∧ t.upd.erase = none) ∧
    (∃ (s t : State) (m : Master) (p : List Byte) (b : Bool) (c : Option ReqCtx), s.comes m 0xD4 p c t ∧ within 9 4104
      p.length = true ∧ 2 ≤ p.length ∧ u8 p 0 < 2 ∧ u8 p 1 = 1 ∧ u16 p 2 = 0 ∧ u32 p 4 < 0x100000 ∧ u32 p 4 % 256 = 0 ∧ u32 p
      4 + (p.length - 8) ≤ 0x100000 ∧ t.slotBarred (u8 p 0) = false ∧ t.upd.erase = none) ∧
    (∃ (s u : State) (at_ k : Nat), s.upd.erase = some k ∧ s.upd.eraseHeld = false ∧ u = ((s.advance at_).eraseMem (0x30000000
      + fwAddr k) 0x100000).modUpd (fun u => { u with erase := none })) ∧
    (∃ (s t : State) (m : Master) (p h : List Byte) (c : Option ReqCtx), s.comes m 0xD5 p c t ∧ p.length = 4 ∧ u8 p 0 < 2 ∧
      zeroAt p 1 3 = true ∧ h = t.fwHeader (u8 p 0)) ∧
    (∃ (s t : State) (m : Master) (p : List Byte) (k : Nat) (c : Option ReqCtx), s.comes m 0xD6 p c t ∧ p.length = 4 ∧ u8 p 0
      = 0 ∧ zeroAt p 1 3 = true ∧ t.upd.apply = none ∧ t.upd.switch = none ∧ t.recovery = false ∧ k = 1 - t.get
      SYS_FW_STATUS_SLOT ∧ t.flag (fwVerified k) = true) ∧
    (∃ (s t u v : State) (m : Master) (p : List Byte) (k : Nat) (c : Option ReqCtx), s.comes m 0xD6 p c t ∧ firstFail [lenIs p
      4, paramOk (u8 p 0 < 2 && zeroAt p 1 3)] = none ∧ u8 p 0 = 0 ∧ t.upd.apply = none ∧ t.upd.switch = none ∧ t.recovery =
      true ∧ ((t.flag (fwVerified 0) = true ∧ k = 0 ∨ t.flag (fwVerified 0) = false ∧ t.flag (fwVerified 1) = true ∧ k = 1)) ∧
      u = t.writeDesc k 2 0 k ∧ v = { u with hif := { u.hif with softReset := some (10 * Config.usTicks + u.time.now, 0) } }) ∧
    (∃ (s t u v : State) (m : Master) (p : List Byte) (k : Nat) (x : FwConfirm) (c : Option ReqCtx), s.comes m 0xD6 p c t ∧
      firstFail [lenIs p 4, paramOk (u8 p 0 < 2 && zeroAt p 1 3)] = none ∧ u8 p 0 = 1 ∧ t.flag SYS_FW_STATUS_TRIAL = true ∧ k
      = t.get SYS_FW_STATUS_SLOT ∧ u = (t.writeDesc k 2 0 k).put SYS_FW_STATUS_TRIAL 0 ∧ x =
      { target := fwSecver (u.fwHeader k), master := m, ctx := c } ∧ v = u.modUpd (fun u =>
      { u with trialAt := none, confirm := some x })) ∧
    (∃ (s t : State) (m : Master) (p : List Byte) (c : Option ReqCtx), s.comes m 0xD7 p c t ∧ p.length = 4 ∧ u8 p 0 = 0 ∧ u8 p
      1 < 32 ∧ zeroAt p 2 2 = true ∧ t.utx.fgItems = 0) ∧
    (∃ (s t : State) (m : Master) (p : List Byte) (l : List Nat) (c : Option ReqCtx), s.comes m 0xD7 p c t ∧ p.length = 4 ∧ u8
      p 0 < 3 ∧ (u8 p 0 == 0) = false ∧ u8 p 1 < 32 ∧ zeroAt p 2 2 = true ∧ t.utx.fgItems = 0 ∧ l = t.calStaged (u8 p 0) (u8 p
      1)) :=
  ⟨⟨up, _, .m0, [1, 0, 0, 0, 0, 0, 0xF, 0], false, _, ⟨by decide +kernel, rfl⟩, by decide +kernel⟩,
    ⟨up, _, .m0, [1, 1, 0, 0, 0, 0xFF, 0xF, 0, 5], false, _, ⟨by decide +kernel, rfl⟩, by decide +kernel⟩,
    ⟨upd fun u => { u with erase := some 1 }, _, 0, _, sg (by decide +kernel), by decide +kernel, rfl⟩,
    ⟨up, _, .m0, [1, 0, 0, 0], _, _, ⟨by decide +kernel, rfl⟩, and3 (by decide +kernel) rfl⟩,
    ⟨(upd fun u => { u with booted := true }).put SYS_FW_STATUS_VERIFIED_B 1, _, .m0, zs 4, _, _, ⟨by decide +kernel, rfl⟩,
      and3 (by decide +kernel) (and3 (by decide +kernel) ⟨rfl, by decide +kernel⟩)⟩,
    ⟨(up.put SYS_FW_STATUS_RECOVERY 1).put SYS_FW_STATUS_VERIFIED_A 1, _, _, _, .m0, zs 4, 0, _, ⟨by decide +kernel, rfl⟩,
      and3 (by decide +kernel) (and3 (by decide +kernel) ⟨rfl, rfl⟩)⟩,
    ⟨up.put SYS_FW_STATUS_TRIAL 1, _, _, _, .m0, [1, 0, 0, 0], _, _, _, ⟨by decide +kernel, rfl⟩, and3 (by decide +kernel)
      ⟨rfl, rfl, rfl, rfl⟩⟩,
    ⟨up, _, .m0, [0, 31, 0, 0], _, ⟨by decide +kernel, rfl⟩, by decide +kernel⟩,
    ⟨up, _, .m0, [2, 0, 0, 0], _, _, ⟨by decide +kernel, rfl⟩, and3 (by decide +kernel) (and3 (by decide +kernel) rfl)⟩⟩

theorem wit_ApplyAndSwitchRowsComplete :
    (∃ (s u : State) (b : Fin 23) (ok : Bool) (at_ : Nat) (a a2 : CfgApply), s.upd.apply = some a ∧ a.reverting = false ∧
      a.pending.contains b.val = true ∧ s.quietBlock b.val = true ∧ u = (s.advance at_).switchBlock b.val ∧ u.upd.apply = some
      a2 ∧ a2.pending.isEmpty = false) ∧
    (∃ (s u : State) (b : Fin 23) (ok : Bool) (at_ : Nat) (a a2 : CfgApply), s.upd.apply = some a ∧ a.reverting = false ∧
      a.pending.contains b.val = true ∧ s.quietBlock b.val = true ∧ u = (s.advance at_).switchBlock b.val ∧ u.upd.apply = some
      a2 ∧ a2.pending.isEmpty = true) ∧
    (∃ (s u v w : State) (a : CfgApply) (never : Nat) (back : List Nat), s.upd.apply = some a ∧ a.reverting = false ∧ u =
      s.advance (a.at_ + Config.msTicks * s.get SYS_UPD_CFG_APPLY_TO_MS) ∧ never = maskOf a.pending ∧ back = (a.named.filter
      fun b => !a.pending.contains b) ∧ v = (u.setCstate 3).modApply (fun a =>
      { a with reverting := true, pending := back, never := never }) ∧ w = v.cfgDone a DEFERRED never) ∧
    (∃ (s : State) (b : Fin 23) (at_ : Nat) (a : CfgApply), s.upd.apply = some a ∧ a.reverting = true ∧ a.pending.contains
      b.val = true ∧ s.quietBlock b.val = true) ∧
    (∃ (s u v : State) (at_ : Nat) (w : FwSwitch) (h : List Byte), s.upd.switch = some w ∧ w.stage = 1 ∧ u = s.advance at_ ∧ h
      = u.fwHeader w.slot ∧ fwHeadOk h = true ∧ v = u.copyBank w.slot (1 - u.upd.bank)) ∧
    (∃ (s u : State) (at_ : Nat) (w : FwSwitch) (h : List Byte), s.upd.switch = some w ∧ w.stage = 1 ∧ u = s.advance at_ ∧ h =
      u.fwHeader w.slot ∧ fwHeadOk h = false) ∧
    (∃ (s : State) (at_ : Nat) (w : FwSwitch), s.upd.switch = some w ∧ w.stage = 2 ∧ s.awake = true ∧ s.handoverOk = true) ∧
    (∃ (s : State) (w : FwSwitch), s.upd.switch = some w ∧ w.stage = 2 ∧ w.fallback = false) ∧
    (∃ (s u : State) (w : FwSwitch), s.upd.switch = some w ∧ w.stage = 2 ∧ w.fallback = true ∧ s.awake = true ∧ u = s.advance
      (Config.sTicks + w.since) ∧ u.handoverOk = true) ∧
    (∃ (s u : State) (w : FwSwitch), s.upd.switch = some w ∧ w.stage = 2 ∧ w.fallback = true ∧ s.awake = true ∧ u = s.advance
      (Config.sTicks + w.since) ∧ u.handoverOk = false) ∧
    (∃ (s : State) (t : Nat), s.upd.trialAt = some t) :=
  ⟨⟨upd fun u => { u with staged := some img2, apply := some (cfgA false [7, 8]) }, _, 7, false, 0, _, _, sg (by
      decide +kernel), and3 (by decide +kernel) ⟨rfl, sg (by decide +kernel), by decide +kernel⟩⟩,
    ⟨upd fun u => { u with staged := some img2, apply := some (cfgA false [7]) }, _, 7, false, 0, _, _, sg (by
      decide +kernel), and3 (by decide +kernel) ⟨rfl, sg (by decide +kernel), by decide +kernel⟩⟩,
    ⟨upd fun u => { u with apply := some (cfgA false [7]) }, _, _, _, _, _, _, sg (by decide +kernel), by decide +kernel, rfl,
      rfl, rfl, rfl, rfl⟩,
    ⟨upd fun u => { u with apply := some (cfgA true [7]) }, 7, 0, _, sg (by decide +kernel), by decide +kernel⟩,
    ⟨{ (upd fun u => { u with switch := some (swF 1 0 false) }) with mem := cells (0x30000000 + 0x100000) ([0x57, 0x46, 1, 0] ++ zs 8 ++ [0, 4, 0, 0] ++ zs 48) },
      _, _, 0, _, _, sg (by decide +kernel), by decide +kernel, rfl, rfl, by decide +kernel, rfl⟩,
    ⟨upd fun u => { u with switch := some (swF 1 0 false) }, _, 0, _, _, sg (by decide +kernel), by decide +kernel, rfl, rfl,
      by decide +kernel⟩,
    ⟨upd fun u => { u with switch := some (swF 2 0 false) }, 0, _, sg (by decide +kernel), by decide +kernel⟩,
    ⟨upd fun u => { u with switch := some (swF 2 0 false) }, _, sg (by decide +kernel), by decide +kernel⟩,
    ⟨upd fun u => { u with switch := some (swF 2 0 true) }, _, _, sg (by decide +kernel), and3 (by decide +kernel) ⟨rfl, by
      decide +kernel⟩⟩,
    ⟨{ upd fun u => { u with switch := some (swF 2 0 true) } with auth := { up.auth with att := some attA } }, _, _, sg (by
      decide +kernel), and3 (by decide +kernel) ⟨rfl, by decide +kernel⟩⟩,
    ⟨upd fun u => { u with trialAt := some 5 }, _, sg (by decide +kernel)⟩⟩

theorem wit_LinkCommandsComplete :
    (∃ (s t u : State) (m : Master) (p : List Byte) (q : Nat) (c : Option ReqCtx), s.comes m 0xE0 p c t ∧ p.length = 4 ∧ u8 p
      0 < 2 ∧ u8 p 1 < 4 ∧ u8 p 2 < 128 ∧ u8 p 3 < 128 ∧ q = u8 p 2 + 2 ^ 8 * u8 p 3 ∧ t.flag WLK_CTRL_LOCK = false ∧ u =
      ((t.put WLK_CTRL_INDEX (u8 p 1)).put WLK_QCFG q).writeEn 20 (u8 p 0 = 1)) ∧
    (∃ (s t u : State) (m : Master) (c : Option ReqCtx), s.comes m 0xE1 [] c t ∧ t.isManager = true ∧ t.unitOn 20 = true ∧
      t.wlk.discover = none ∧ u = t.modWlk (fun k => { k with discover := some (m, c, t.time.now) })) ∧
    (∃ (s t : State) (m : Master) (c : Option ReqCtx), s.comes m 0xE2 [] c t) ∧
    (∃ (s t : State) (m : Master) (p : List Byte) (f : WlForward) (c : Option ReqCtx), s.comes m 0xE3 p c t ∧ firstFail [(8 ≤
      p.length && p.length == 8 + u16 (p.drop 4) 2, BAD_LENGTH), paramOk (u8 p 0 < 4 && zeroAt p 1 3 && u8 (p.drop 4) 0 ≠
      0xE3)] = none ∧ t.unitOn 20 = true ∧ (t.worker (u8 p 0)).locked = true ∧ t.wlk.fwd = none ∧ f =
      { worker := u8 p 0, packet := p.drop 4, at_ := t.time.now, master := m, ctx := c }) ∧
    (∃ (s t : State) (m : Master) (p : List Byte) (c : Option ReqCtx), s.comes m 0xE3 p c t ∧ firstFail [(8 ≤ p.length &&
      p.length == 8 + u16 (p.drop 4) 2, BAD_LENGTH), paramOk (u8 p 0 < 4 && zeroAt p 1 3 && u8 (p.drop 4) 0 ≠ 0xE3)] = none ∧
      (t.worker (u8 p 0)).locked = false) :=
  ⟨⟨up, _, _, .m0, [1, 3, 5, 6], _, _, ⟨by decide +kernel, rfl⟩, and3 (by decide +kernel) ⟨by decide +kernel, by
      decide +kernel, rfl, by decide +kernel, rfl⟩⟩,
    ⟨manager.put WLK_CTRL_EN 1, _, _, .m0, _, ⟨by decide +kernel, rfl⟩, and3 (by decide +kernel) rfl⟩,
    ⟨up, _, .m0, _, ⟨by decide +kernel, rfl⟩⟩,
    ⟨mgr fun k => k, _, .m0, [3, 0, 0, 0, 0, 0, 0, 0], _, _, ⟨by decide +kernel, rfl⟩, and3 (by decide +kernel) ⟨by
      decide +kernel, rfl⟩⟩,
    ⟨up, _, .m0, [3, 0, 0, 0, 0, 0, 0, 0], _, ⟨by decide +kernel, rfl⟩, by decide +kernel⟩⟩

theorem wit_ManagerLinkRowsComplete_a :
    (∃ (s u : State) (f : WlForward), s.wlk.fwd = some f ∧ f.got = false ∧ f.tries < 3 ∧ u = (s.advance (Config.msTicks +
      f.at_)).bump WLK_TX_FRAMES (linkFrames f.packet.length)) ∧
    (∃ (s : State) (f : WlForward), s.wlk.fwd = some f ∧ (!f.got && f.tries < 3) = false) ∧
    (∃ (s u v : State) (w : Fin 4) (b pay r : List Byte) (at_ : Nat) (f : WlForward) (a : List Byte) (n : Nat), s.linkUp =
      true ∧ s.isManager = true ∧ (s.worker w).locked = true ∧ linkFrame b = some (3, 0x0F, pay) ∧ u = s.linkGot ∧ v =
      u.advance at_ ∧ v.wlk.fwd = some f ∧ f.worker = w ∧ assemble f.asm f.seg pay = (a, n, some r)) ∧
    (∃ (s u v : State) (w : Fin 4) (b pay : List Byte) (at_ : Nat) (f : WlForward) (a : List Byte) (n : Nat), s.linkUp = true
      ∧ s.isManager = true ∧ (s.worker w).locked = true ∧ linkFrame b = some (3, 0x0F, pay) ∧ u = s.linkGot ∧ v = u.advance
      at_ ∧ v.wlk.fwd = some f ∧ f.worker = w ∧ assemble f.asm f.seg pay = (a, n, none)) ∧
    (∃ (s u : State) (w : Fin 4) (b pay : List Byte) (at_ : Nat), s.linkUp = true ∧ s.isManager = true ∧ (s.worker w).locked =
      true ∧ linkFrame b = some (0x10, 0x0F, pay) ∧ u = s.linkGot.advance at_) ∧
    (∃ (s u : State) (w : Fin 4) (b pay : List Byte) (at_ : Nat), s.linkUp = true ∧ s.isManager = true ∧ (s.worker w).locked =
      true ∧ linkFrame b = some (0x12, 0x0F, pay) ∧ u = s.linkGot.advance at_) ∧
    (∃ (s : State) (w : Fin 4) (b : List Byte) (at_ : Nat), s.linkUp = true ∧ s.isManager = true ∧ (s.worker w).locked = true
      ∧ linkFrame b = none) ∧
    (∃ (s : State) (w : Fin 4) (tones : Byte) (d : BitVec 16) (at_ : Nat), s.linkUp = true ∧ s.isManager = true ∧ (s.worker
      w).locked = true) :=
  ⟨⟨mgr fun k => { k with fwd := some fwdL }, _, _, sg (by decide +kernel), by decide +kernel, by decide +kernel, rfl⟩,
    ⟨mgr fun k => { k with fwd := some { fwdL with tries := 3 } }, _, sg (by decide +kernel), by decide +kernel⟩,
    ⟨mgr fun k => { k with fwd := some fwdL }, _, _, 0, lfm 3 15 [0, 1, 0, 0, 0, 0], [0, 1, 0, 0, 0, 0], [0, 0, 0, 0], 0, _,
      _, _, and3 (by decide +kernel) ⟨by decide +kernel, rfl, rfl, sg (by decide +kernel), by decide +kernel, rfl⟩⟩,
    ⟨mgr fun k => { k with fwd := some fwdL }, _, _, 0, lfm 3 15 [0, 0, 0, 0, 0, 0], [0, 0, 0, 0, 0, 0], 0, _, _, _, and3 (by
      decide +kernel) ⟨by decide +kernel, rfl, rfl, sg (by decide +kernel), by decide +kernel, rfl⟩⟩,
    ⟨mgr fun k => k, _, 0, lfm 0x10 15 [0, 1], [0, 1], 0, and3 (by decide +kernel) ⟨by decide +kernel, rfl⟩⟩,
    ⟨mgr fun k => k, _, 0, lfm 0x12 15 [0, 1], [0, 1], 0, and3 (by decide +kernel) ⟨by decide +kernel, rfl⟩⟩,
    ⟨mgr fun k => k, 0, [], 0, by decide +kernel⟩,
    ⟨mgr fun k => k, 0, 0, 0, 0, by decide +kernel⟩⟩

theorem wit_ManagerLinkRowsComplete_b :
    (∃ (s : State) (w : Fin 4) (tones : Byte) (d : BitVec 16) (at_ : Nat), s.linkUp = true ∧ s.isManager = true ∧ (s.worker
      w).locked = true) ∧
    (∃ (s : State) (w : Fin 4) (at_ : Nat), s.linkUp = true ∧ s.isManager = true ∧ (s.worker w).meas = none) ∧
    (∃ (s u v : State) (w : Fin 4) (t1 t2 t3 t4 at_ : Nat) (l : List Int), s.linkUp = true ∧ s.isManager = true ∧ u =
      (s.advance at_).linkGot ∧ (u.worker w).meas = some l ∧ l.length < 15 ∧ v = u.modWorker w (fun k =>
      { k with meas := some (l ++ [((t4 : Int) - t1) - ((t3 : Int) - t2)]) })) ∧
    (∃ (s u : State) (w : Fin 4) (t1 t2 t3 t4 at_ : Nat) (l : List Int), s.linkUp = true ∧ s.isManager = true ∧ u = (s.advance
      at_).linkGot ∧ (u.worker w).meas = some l ∧ l.length = 15) ∧
    (∃ (s : State) (w : Fin 4) (t1 t2 t3 t4 at_ : Nat), s.linkUp = true ∧ s.isManager = true) ∧
    (∃ (s u : State) (w : Fin 4) (l : List Int), (s.worker w).meas = some l ∧ l.length = 16 ∧ u = s.advance (200 *
      Config.usTicks + (s.worker w).since)) ∧
    (∃ (s u : State) (w : Fin 4) (l : List Int), (s.worker w).meas = some l ∧ l.length ≠ 16 ∧ u = s.advance (200 *
      Config.usTicks + (s.worker w).since)) ∧
    (∃ (s u : State) (w : Fin 4) (at_ : Nat), s.linkUp = true ∧ s.isWorker = false ∧ (s.worker w).locked = true ∧ u =
      (((s.advance at_).raise FID_WLK_LOS w).modWorker w fun k =>
      { k with locked := false, present := false, meas := none }).showPresent) :=
  ⟨⟨mgr fun k => k, 0, 0, 0, 0, by decide +kernel⟩,
    ⟨mgr fun k => k, 0, 0, by decide +kernel⟩,
    ⟨mgr fun k => { k with workers := List.replicate 4 { meas := some [] } }, _, _, 0, 0, 0, 0, 0, 0, [], by decide +kernel,
      by decide +kernel, rfl, rfl, by decide +kernel, rfl⟩,
    ⟨mgr fun k => { k with workers := List.replicate 4 { meas := some (List.replicate 15 0) } }, _, 0, 0, 0, 0, 0, 0,
      List.replicate 15 0, by decide +kernel, by decide +kernel, rfl, rfl, by decide +kernel⟩,
    ⟨mgr fun k => k, 0, 0, 0, 0, 0, 0, by decide +kernel⟩,
    ⟨mgr fun k => { k with workers := List.replicate 4 { meas := some (List.replicate 16 0) } }, _, 0, List.replicate 16 0,
      rfl, by decide +kernel, rfl⟩,
    ⟨mgr fun k => { k with workers := List.replicate 4 { meas := some [] } }, _, 0, [], rfl, by decide +kernel, rfl⟩,
    ⟨mgr fun k => k, _, 0, 0, and3 (by decide +kernel) rfl⟩⟩

theorem wit_WorkerLinkRowsComplete :
    (∃ (s u : State) (b pay a : List Byte) (at_ adr n : Nat), s.isWorker = true ∧ s.linkUp = true ∧ s.flag WLK_STATUS_LOCKED =
      true ∧ linkFrame b = some (2, adr, pay) ∧ u = (s.advance at_).linkGot ∧ (adr ≠ (s.advance at_).get WLK_CTRL_INDEX && adr
      ≠ 0xFF) = false ∧ assemble u.wlk.asm u.wlk.seg pay = (a, n, none)) ∧
    (∃ (s u : State) (b pay a r : List Byte) (at_ adr n : Nat), s.isWorker = true ∧ s.linkUp = true ∧ s.flag WLK_STATUS_LOCKED
      = true ∧ linkFrame b = some (2, adr, pay) ∧ u = (s.advance at_).linkGot ∧ (adr ≠ (s.advance at_).get WLK_CTRL_INDEX &&
      adr ≠ 0xFF) = false ∧ assemble u.wlk.asm u.wlk.seg pay = (a, n, some r)) ∧
    (∃ (s : State) (b : List Byte) (at_ : Nat), s.isWorker = true ∧ s.linkUp = true ∧ s.flag WLK_STATUS_LOCKED = true ∧
      linkFrame b = none) ∧
    (∃ (s : State) (i o : Nat) (l : List Byte) (at_ : Nat), s.isWorker = true ∧ s.linkUp = true ∧ s.flag WLK_STATUS_LOCKED =
      true) ∧
    (∃ (s : State) (i o : Nat) (l : List Byte) (at_ : Nat), s.isWorker = true ∧ s.linkUp = true ∧ s.flag WLK_STATUS_LOCKED =
      true) ∧
    (∃ (s : State) (at_ : Nat), s.isWorker = true ∧ s.linkUp = true) ∧
    (∃ (s u : State) (t at_ : Nat), s.isWorker = true ∧ s.linkUp = true ∧ u = (s.advance at_).linkGot.bump WLK_TX_FRAMES ∧
      u.wlk.slaved = false) ∧
    (∃ (s u : State) (t at_ : Nat), s.isWorker = true ∧ s.linkUp = true ∧ u = (s.advance at_).linkGot.bump WLK_TX_FRAMES ∧
      u.wlk.slaved = true ∧ 3 ≤ ((t : Int) - u.time.dev).natAbs) ∧
    (∃ (s : State) (d : Option Nat) (at_ : Nat), s.isWorker = true ∧ s.linkUp = true) ∧
    (∃ (s : State) (w : Fin 4) (at_ : Nat), s.isWorker = true ∧ s.linkUp = true ∧ s.flag WLK_STATUS_LOCKED = true) ∧
    (∃ (s : State) (ok : Bool) (t : Nat), s.isWorker = true ∧ s.linkUp = true ∧ s.wlk.lost = some t) :=
  ⟨⟨wrk fun k => k, _, lfm 2 0 [0, 0, 7], [0, 0, 7], _, 0, 0, _, and3 (by decide +kernel) ⟨by decide +kernel, rfl, by
      decide +kernel, rfl⟩⟩,
    ⟨wrk fun k => k, _, lfm 2 255 [0, 1, 7], [0, 1, 7], _, [7], 0, 255, _, and3 (by decide +kernel) ⟨by decide +kernel, rfl,
      by decide +kernel, rfl⟩⟩,
    ⟨wrk fun k => k, [], 0, by decide +kernel⟩,
    ⟨wrk fun k => k, 0, 0, [], 0, by decide +kernel⟩,
    ⟨wrk fun k => k, 0, 0, [], 0, by decide +kernel⟩,
    ⟨wrk fun k => k, 0, by decide +kernel⟩,
    ⟨wrk fun k => k, _, 0, 0, by decide +kernel, by decide +kernel, rfl, by decide +kernel⟩,
    ⟨wrk fun k => { k with slaved := true }, _, 1000000000000, 0, by decide +kernel, by decide +kernel, rfl, by
      decide +kernel⟩,
    ⟨wrk fun k => k, none, 0, by decide +kernel⟩,
    ⟨wrk fun k => k, 0, 0, by decide +kernel⟩,
    ⟨wrk fun k => { k with lost := some 0 }, false, 0, by decide +kernel⟩⟩

end Sys2Proof.Tests
end

/-!
PROOF. OTP takes no write outside factory test mode (R12), O19: where OTP lies among the addresses (R17, R491), what the model's
write path and the checks of the register commands (R488 to R490) come to there, and the obligation from these.
-/
namespace Sys2Proof.Machine

/-! ### Where OTP lies (R17, R491) -/

/-- Target 5 is the 8 KiB from 0x28000000 on: no other range of the address map answers with it, and the number of a peripheral
block is 8 or more. -/
theorem targetOf_eq_otp_iff {a o : Nat} :
    targetOf a = some (5, o) ↔ 0x28000000 ≤ a ∧ a ≤ 0x28001FFF ∧ o = a - 0x28000000 := by
  constructor
  · intro h
    simp only [targetOf, within, Bool.and_eq_true, decide_eq_true_eq] at h
    repeat' split at h
    case isFalse.isFalse.isFalse.isFalse.isFalse.isFalse.isFalse =>
      obtain ⟨⟨b, r⟩, -, hb⟩ := Option.map_eq_some_iff.mp h
      simp only [Prod.mk.injEq] at hb
      omega
    all_goals simp only [Option.some.injEq, Prod.mk.injEq] at h; omega
  · rintro ⟨hlo, hhi, ho⟩
    simp only [targetOf, within, Bool.and_eq_true, decide_eq_true_eq]
    rw [if_neg (by omega), if_neg (by omega), if_neg (by omega), if_neg (by omega), if_neg (by omega), if_pos ⟨hlo, hhi⟩, ho]

/-- No register lies in OTP. -/
theorem blockOf_eq_none_of_otp {a o : Nat} (h : targetOf a = some (5, o)) : blockOf a = none := by
  obtain ⟨-, hhi, -⟩ := targetOf_eq_otp_iff.mp h
  exact if_neg (by omega)

/-! ### A write by a bus master -/

/-- Outside factory test mode the memory write stores nothing in OTP. -/
theorem writeMemAt_otp {s : State} {a o : Nat} (n v : Nat) (ht : s.sys.test = false) (h : targetOf a = some (5, o)) :
    s.writeMemAt a n v = s := by
  simp [State.writeMemAt, h, ht]

/-- A write to OTP that the access controller lets through leaves the state as it is, whether the core domain sleeps, the master
is silent, the address is misaligned for its size, or the write comes to the memory. -/
theorem registerWrite_otp {s : State} {m : Master} {a : BitVec 32} {o : Nat} (v : Word) (z : AccSize) (ht : s.sys.test = false)
    (h : targetOf a.toNat = some (5, o)) (hb : s.busOutcome m a.toNat 1 = .ok) : registerWrite m a v z s = s := by
  have hreg : (blockOf a.toNat).isSome = false := by rw [blockOf_eq_none_of_otp h, Option.isSome_none]
  simp only [registerWrite, hreg, hb, writeMemAt_otp _ _ ht h, Bool.false_and, Bool.false_eq_true, if_false, ite_self]

/-! ### A write by a register command -/

/-- The checks of R488 for a write: once every address is listed, one in OTP ends them with FACTORY_ONLY, before any right is
looked at. -/
theorem regCheck_otp {s : State} {m : Master} {ks l : List Nat} (hw : 1 ∈ ks) (ht : s.sys.test = false)
    (hlisted : ∀ a ∈ l, s.busOutcome m a 0 ≠ .decode) (hotp : ∃ a ∈ l, ∃ o : Nat, targetOf a = some (5, o)) :
    s.regCheck m ks l = (s, FACTORY_ONLY) := by
  have hfind : l.find? (fun a => s.busOutcome m a 0 == .decode) = none :=
    List.find?_eq_none.mpr fun a ha => by simpa using hlisted a ha
  have hany : l.any (fun a => (targetOf a).map (·.1) == some 5) = true := by
    obtain ⟨a, ha, o, hto⟩ := hotp
    exact List.any_eq_true.mpr ⟨a, ha, by simp [hto]⟩
  simp [State.regCheck, hfind, hany, hw, ht]

/-- REG_WRITE with OTP among its addresses writes nothing and returns FACTORY_ONLY. -/
theorem regWriteRun_otp {s : State} {m : Master} {p : List Byte} (hlen : 8 ≤ p.length) (hwords : p.length = 8 + 4 * u16 p 4)
    (halign : u32 p 0 % 4 = 0) (hcount : within 1 256 (u16 p 4) = true) (hres : zeroAt p 6 2 = true) (ht : s.sys.test = false)
    (hlisted : ∀ a ∈ wordAddrs (u32 p 0) (u16 p 4), s.busOutcome m a 0 ≠ .decode)
    (hotp : ∃ a ∈ wordAddrs (u32 p 0) (u16 p 4), ∃ o : Nat, targetOf a = some (5, o)) :
    regWriteRun m p s = (s, FACTORY_ONLY, []) := by
  have hlong : ¬ p.length < 8 := Nat.not_lt.mpr hlen
  have hcheck : s.regCheck m [1] (wordAddrs (u32 p 0) (u16 p 4)) = (s, FACTORY_ONLY) :=
    regCheck_otp (List.mem_singleton_self 1) ht hlisted hotp
  simp [regWriteRun, hcheck, hlong, ← hwords, halign, hcount, hres]

/-- REG_MODIFY of a word of OTP writes nothing and returns FACTORY_ONLY. -/
theorem regModifyRun_otp {s : State} {m : Master} {p : List Byte} {o : Nat} (hlen : p.length = 12) (halign : u32 p 0 % 4 = 0)
    (ht : s.sys.test = false) (h : targetOf (u32 p 0) = some (5, o)) (hlisted : s.busOutcome m (u32 p 0) 0 ≠ .decode) :
    regModifyRun m p s = (s, FACTORY_ONLY, []) := by
  have hcheck : s.regCheck m [0, 1] [u32 p 0] = (s, FACTORY_ONLY) :=
    regCheck_otp (by decide) ht (by simpa using hlisted) (by simpa using ⟨o, h⟩)
  simp [regModifyRun, hcheck, hlen, halign]

/-! ### The obligation -/

/-- Settles O19: a direct write leaves the state as it is; REG_WRITE and REG_MODIFY end in their checks. -/
theorem otpTakesNoWriteOutsideFactoryTest : Obligations.OtpTakesNoWriteOutsideFactoryTest := by
  unfold Obligations.OtpTakesNoWriteOutsideFactoryTest
  refine ⟨fun s m a v z o ht h hb => ?_, fun s m p htakes hlen hwords halign hcount hres ht hlisted hotp => ?_,
    fun s m p o htakes hlen halign ht h hlisted => ?_⟩
  · show s.perform (registerWrite m a v z) = _
    rw [perform_next, registerWrite_otp v z ht h hb]
  · have hrun : regCommand m 5 p s = (s, FACTORY_ONLY, []) :=
      regWriteRun_otp hlen hwords halign hcount hres ht hlisted hotp
    show s.perform (regWrite m p) = _
    rw [perform_next, regWrite, regCmd_takes p htakes, hrun]
  · have hrun : regCommand m 6 p s = (s, FACTORY_ONLY, []) := regModifyRun_otp hlen halign ht h hlisted
    show s.perform (regModify m p) = _
    rw [perform_next, regModify, regCmd_takes p htakes, hrun]

end Sys2Proof.Machine

/-!
PROOF. CRED_REMOVE (R282), O14: what the command answers or starts, what the end of its row write does (R244), and the obligation from
these.
-/
namespace Sys2Proof.Machine

/-! ### The length check and padding -/

/-- Parameters of the stated length pass its check. -/
theorem firstFail_lenIs {p : List Byte} {n : Nat} (h : p.length = n) : firstFail [lenIs p n] = none := by
  simp [firstFail, lenIs, h]

/-- Parameters of any other length fail it with BAD_LENGTH. -/
theorem firstFail_lenIs_ne {p : List Byte} {n : Nat} (h : p.length ≠ n) : firstFail [lenIs p n] = some BAD_LENGTH := by
  simp [firstFail, lenIs, h]

/-- Padding to its own length leaves a list of bytes as it is. -/
theorem padTo_of_length {n : Nat} {b : List Byte} (h : b.length = n) : padTo n b = b := by
  simp [padTo, ← h]

/-! ### The command (R282, R466) -/

section
variable {s t : State} {m : Master} {p : List Byte} {c : Option ReqCtx}

theorem credRemove_badLength (h : s.comes m 0x61 p c t) (hlen : p.length ≠ 12) :
    credRemove m p s = t.answer m 0x61 c BAD_LENGTH [] :=
  hostCmdLater_comes_fails h (firstFail_lenIs_ne hlen)

theorem credRemove_notFound (h : s.comes m 0x61 p c t) (hlen : p.length = 12) (hon : t.credOff = false)
    (hfind : t.dirFindNew p = none) : credRemove m p s = t.answer m 0x61 c NOT_FOUND [] := by
  rw [credRemove, hostCmdLater_comes h (firstFail_lenIs hlen)]
  simp [hon, hfind]

/-- The write of an EMPTY row over the entry starts; no reply is given yet. -/
theorem credRemove_found {i : Nat} (h : s.comes m 0x61 p c t) (hlen : p.length = 12) (hon : t.credOff = false)
    (hfind : t.dirFindNew p = some i) :
    credRemove m p s = t.rowWrite { idx := i, row := List.replicate 64 0, kind := 1, master := m, ctx := c } := by
  rw [credRemove, hostCmdLater_comes h (firstFail_lenIs hlen)]
  simp [hon, hfind]

end

/-! ### The end of the row write (R244, R278) -/

/-- State `s` once the oldest row write `w` has completed and the writes `l` wait behind it. -/
def State.rowStored (s : State) (w : RowWrite) (l : List RowWrite) : State :=
  (s.modCred fun c => { c with rows := l }).writeMem (dirAddr w.idx) (padTo 64 w.row)

/-- The row write of a CRED_REMOVE ends: the row is stored, what hangs on the KEY_ID that the entry held is forgotten, the change is
reported, and the command is answered with the entry's index. -/
theorem directoryRowWritten_remove {s u : State} {at_ : Nat} {w : RowWrite} {l : List RowWrite} {old : List Byte}
    (hu : u = s.advance at_) (hrows : u.cred.rows = w :: l) (hawake : u.awake = true) (hkind : w.kind = 1)
    (hold : old = u.dirRow w.idx) :
    directoryRowWritten at_ s =
      ((((u.rowStored w l).noteGone (old.take 12)).credChanged 0x61 w.idx (rowIssuer old) (rowEpoch old)).answer
        w.master 0x61 w.ctx OK (le 2 w.idx)).credBoundary := by
  simp [directoryRowWritten, ← hu, hrows, hawake, hkind, hold, State.rowStored]

/-! ### The obligation -/

/-- Settles O14: the command's three ends, and the end of the row write it starts. -/
theorem credRemoveWritesTheEntryEmpty : Obligations.CredRemoveWritesTheEntryEmpty := by
  unfold Obligations.CredRemoveWritesTheEntryEmpty
  refine ⟨fun s t m p c h hlen => ?_, fun s t m p c h hlen hon hfind => ?_, fun s t m p i w c h hlen hon hfind hw => ?_,
    fun s u v at_ w l old hu hrows hawake hkind hrow hold hv => ?_⟩
  · show s.perform (credRemove m p) = _
    rw [perform_next, credRemove_badLength h hlen]
  · show s.perform (credRemove m p) = _
    rw [perform_next, credRemove_notFound h hlen hon hfind]
  · show s.perform (credRemove m p) = _
    rw [perform_next, credRemove_found h hlen hon hfind, hw]
  · have hpad : padTo 64 w.row = List.replicate 64 0 := by rw [hrow, padTo_of_length List.length_replicate]
    show s.perform (directoryRowWritten at_) = _
    rw [perform_next, directoryRowWritten_remove hu hrows hawake hkind hold, State.rowStored, hpad, hv]

end Sys2Proof.Machine

/-!
PROOF. REL_END (R321), O15: what an end cause does in each state of the session (R296 to R298), what the command answers there, and the
obligation from these.
-/
namespace Sys2Proof.Machine

/-! ### An end cause in each state of the session (R296 to R298) -/

section
variable {s : State} {e h : RelEnd}

/-- In OPEN the session ends: the first cause of the cycle is recorded, and closing begins. -/
theorem relEndCause_open (hs : s.rel.sess = 2) : s.relEndCause e = (s.relEndRecord (s.endOf e) false).relClose := by
  simp [State.relEndCause, hs]

/-- In OPENING the first end cause is held. -/
theorem relEndCause_opening_first (hs : s.rel.sess = 1) (hh : s.rel.held = none) :
    s.relEndCause e = s.modRel fun r => { r with held := some e } := by
  simp [State.relEndCause, hs, hh]

/-- In OPENING a cause held already gives way only to an earlier one in the order of R298, of the same cycle. -/
theorem relEndCause_opening_held (hs : s.rel.sess = 1) (hh : s.rel.held = some h) :
    s.relEndCause e = if sameCycle h.at_ e.at_ then s.modRel fun r => { r with held := some (h.first e) } else s := by
  simp [State.relEndCause, hs, hh]

/-- In CLOSING and RESTART_PENDING an end cause changes nothing. -/
theorem relEndCause_closing (hs : s.rel.sess = 3 ∨ s.rel.sess = 4) : s.relEndCause e = s := by
  obtain hs | hs := hs <;> simp [State.relEndCause, hs]

/-- Once the pair is released, a held cause other than DOOR arises anew, at this instant. -/
theorem relReached_held (hh : s.rel.held = some e) (hc : e.cause ≠ 0) {u : State}
    (hu : u = (s.modRel fun r => { r with sess := 2, held := none }).relOpened false) :
    s.relReached = u.relEndCause (u.endNow e.cause) := by
  simp [State.relReached, hh, hc, ← hu]

end

/-! ### The command (R321, R466) -/

section
variable {s t : State} {m : Master} {p : List Byte} {c : Option ReqCtx}

theorem exec_relEnd : exec (.relEnd m p) s = .next (s.after (relEnd m p s)) := perform_next s (relEnd m p)

theorem relEnd_badLength (h : s.comes m 0x73 p c t) (hlen : p.length ≠ 0) :
    relEnd m p s = t.answer m 0x73 c BAD_LENGTH [] :=
  hostCmd_comes_fails h (firstFail_lenIs_ne hlen)

theorem relEnd_noSession (h : s.comes m 0x73 [] c t) (hs : t.rel.sess = 0 ∨ t.rel.sess = 5) :
    relEnd m [] s = t.answer m 0x73 c BAD_STATE [] := by
  rw [relEnd, hostCmd_comes h (firstFail_lenIs List.length_nil)]
  simp [hs, State.ends]

/-- In every other state the end cause HOST arises, and the SESSION_ID is returned. -/
theorem relEnd_session {u : State} (h : s.comes m 0x73 [] c t) (hclosed : t.rel.sess ≠ 0) (hfault : t.rel.sess ≠ 5)
    (hu : t.relEndCause (t.endNow 2) = u) :
    relEnd m [] s = u.answer m 0x73 c OK (le 2 (u.get REL_SESSION_ID)) := by
  rw [relEnd, hostCmd_comes h (firstFail_lenIs List.length_nil)]
  simp [hclosed, hfault, hu]

end

/-! ### The obligation -/

/-- Settles O15: the command's two failures, the end cause HOST in each state of the session, and the held end once OPEN is
reached. -/
theorem relEndEndsTheSession : Obligations.RelEndEndsTheSession := by
  unfold Obligations.RelEndEndsTheSession
  refine ⟨fun s t m p c h hlen => ?badLength, fun s t m c h hs => ?noSession, fun s t u m c h hs hu => ?isOpen,
    fun s t u m c h hs hh hu => ?openingFirst, fun s t u m e c h hs hh hu => ?openingHeld,
    fun s t m c h hs => ?closing, fun t u e hh hc hu => ?reached⟩
  case badLength =>
    rw [exec_relEnd, relEnd_badLength h hlen]
  case noSession =>
    rw [exec_relEnd, relEnd_noSession h hs]
  case isOpen =>
    rw [exec_relEnd, relEnd_session h (by omega) (by omega) ((relEndCause_open hs).trans hu.symm)]
  case openingFirst =>
    rw [exec_relEnd, relEnd_session h (by omega) (by omega) ((relEndCause_opening_first hs hh).trans hu.symm)]
  case openingHeld =>
    rw [exec_relEnd, relEnd_session h (by omega) (by omega) ((relEndCause_opening_held hs hh).trans hu.symm)]
  case closing =>
    rw [exec_relEnd, relEnd_session h (by omega) (by omega) (relEndCause_closing hs)]
  case reached =>
    rw [relReached_held hh (by omega) hu, hc]

end Sys2Proof.Machine

/-!
PROOF. The layout of a vault page (R401), O18: what a little-endian field written into a list of bytes reads as (R5), when a page is
erased, how a page image divides into its three fields, and the obligation from these.
-/
namespace Sys2Proof.Machine

/-! ### Little-endian fields (R5) -/

@[simp] theorem length_le (n v : Nat) : (le n v).length = n := by
  induction n generalizing v with
  | zero => rfl
  | succ n ih => rw [le, List.length_cons, ih]

/-- Written as `n` bytes, a number keeps what `n` bytes can hold. -/
theorem ofLe_le (n v : Nat) : ofLe (le n v) = v % 256 ^ n := by
  induction n generalizing v with
  | zero => rw [le, ofLe, Nat.pow_zero, Nat.mod_one]
  | succ n ih => rw [le, ofLe, ih, BitVec.toNat_ofNat, Nat.pow_succ' (m := 256) (n := n), Nat.mod_mul]

/-- A 32-bit number reads back from the offset that it was written at. -/
theorem u32_append_le {p r : List Byte} {i v : Nat} (hi : p.length = i) (hv : v < 2 ^ 32) : u32 (p ++ le 4 v ++ r) i = v := by
  have hfield : ((p ++ le 4 v ++ r).drop i).take 4 = le 4 v := by
    rw [List.append_assoc, List.drop_left' hi, List.take_left' (length_le 4 v)]
  rw [u32, fieldLe, hfield, ofLe_le]
  exact Nat.mod_eq_of_lt hv

theorem crc32_lt (p : List Byte) : crc32 p < 2 ^ 32 := BitVec.isLt _

/-! ### Erased pages -/

theorem pageErased_iff {b : List Byte} (hb : b.length = 64) : pageErased b = true ↔ b = List.replicate 64 0xFF := by
  simp only [pageErased, List.all_eq_true, beq_iff_eq, List.eq_replicate_iff, hb, true_and]

/-- An erased page reads as 56 bytes of 0xFF with SEQ 0. -/
theorem pageParse_erased : pageParse (List.replicate 64 0xFF) = some (List.replicate 56 0xFF, 0) := by
  rw [pageParse, if_pos ((pageErased_iff List.length_replicate).mpr rfl), List.take_replicate]
  rfl

/-- A page that is not erased reads as its data and SEQ if its CRC is right. -/
theorem pageParse_of_crc {b : List Byte} (he : pageErased b = false) (hcrc : crc32 (b.take 60) = u32 b 60) :
    pageParse b = some (b.take 56, u32 b 56) := by
  simp [pageParse, he, hcrc]

/-- A page that is not erased is corrupt if its CRC fails. -/
theorem pageParse_of_crc_ne {b : List Byte} (he : pageErased b = false) (hcrc : crc32 (b.take 60) ≠ u32 b 60) :
    pageParse b = none := by
  simp [pageParse, he, hcrc]

/-! ### The three fields of a page image -/

section
variable {d : List Byte} {q : Nat} (hd : d.length = 56)
include hd

/-- The image is the data, SEQ and the CRC over both. -/
theorem pageImage_eq : pageImage d q = d ++ le 4 q ++ le 4 (crc32 (d ++ le 4 q)) := by
  rw [pageImage, padTo_of_length hd]

theorem length_pageImage : (pageImage d q).length = 64 := by
  simp [pageImage_eq hd, hd]

theorem take_data_pageImage : (pageImage d q).take 56 = d := by
  rw [pageImage_eq hd, List.append_assoc, List.take_left' hd]

/-- The CRC of an image is right. -/
theorem crc32_pageImage : crc32 ((pageImage d q).take 60) = u32 (pageImage d q) 60 := by
  have hlen : (d ++ le 4 q).length = 60 := by simp [hd]
  have hread := u32_append_le (r := []) hlen (crc32_lt (d ++ le 4 q))
  rw [List.append_nil] at hread
  rw [pageImage_eq hd, hread, List.take_left' hlen]

theorem seq_pageImage (hq : q < 2 ^ 32) : u32 (pageImage d q) 56 = q := by
  rw [pageImage_eq hd, u32_append_le hd hq]

/-- A page image that is not erased reads as its data and SEQ. -/
theorem pageParse_pageImage (hq : q < 2 ^ 32) (he : pageErased (pageImage d q) = false) :
    pageParse (pageImage d q) = some (d, q) := by
  rw [pageParse_of_crc he (crc32_pageImage hd), take_data_pageImage hd, seq_pageImage hd hq]

end

/-! ### The obligation -/

/-- Settles O18: the three fields of an image and their reading back, the erased page, and the two outcomes of the CRC on any other
content. -/
theorem vaultPageLayout : Obligations.VaultPageLayout := by
  unfold Obligations.VaultPageLayout
  have hprogrammed : ∀ b : List Byte, b.length = 64 → b ≠ List.replicate 64 0xFF → pageErased b = false :=
    fun b hb hne => Bool.eq_false_iff.mpr (mt (pageErased_iff hb).mp hne)
  exact ⟨fun d q hd => ⟨pageImage_eq hd, length_pageImage hd⟩,
    fun d q hd hq he => pageParse_pageImage hd hq he,
    pageParse_erased,
    fun b hb hne hcrc => pageParse_of_crc_ne (hprogrammed b hb hne) hcrc,
    fun b hb hne hcrc => pageParse_of_crc (hprogrammed b hb hne) hcrc⟩

end Sys2Proof.Machine

/-!
PROOF. NOP and ECHO (R484), O12: what each answers for the parameters it takes and for any other length (R466, row 4), and the
obligation from these.
-/
namespace Sys2Proof.Machine

section
variable {s t : State} {m : Master} {p : List Byte} {c : Option ReqCtx}

/-! ### NOP -/

theorem exec_nop : exec (.nop m p) s = .next (s.after (nop m p s)) := perform_next s (nop m p)

theorem nop_ok (h : s.comes m 0x00 [] c t) : nop m [] s = t.answer m 0x00 c OK [] :=
  hostCmd_comes h (firstFail_lenIs List.length_nil)

theorem nop_badLength (h : s.comes m 0x00 p c t) (hlen : p.length ≠ 0) : nop m p s = t.answer m 0x00 c BAD_LENGTH [] :=
  hostCmd_comes_fails h (firstFail_lenIs_ne hlen)

/-! ### ECHO -/

theorem exec_echo : exec (.echo m p) s = .next (s.after (echo m p s)) := perform_next s (echo m p)

theorem echo_ok (h : s.comes m 0x07 p c t) (hlen : p.length ≤ 4104) : echo m p s = t.answer m 0x07 c OK p :=
  hostCmd_comes h (by simp [firstFail, hlen])

theorem echo_badLength (h : s.comes m 0x07 p c t) (hlen : 4104 < p.length) : echo m p s = t.answer m 0x07 c BAD_LENGTH [] :=
  hostCmd_comes_fails h (by simp [firstFail, hlen])

end

/-! ### The obligation -/

/-- Settles O12: each command's reply to the lengths it takes and to those it refuses. -/
theorem nopAndEcho : Obligations.NopAndEcho := by
  unfold Obligations.NopAndEcho
  refine ⟨fun s t m c h => ?nop, fun s t m p c h hlen => ?nopLength, fun s t m p c h hlen => ?echo,
    fun s t m p c h hlen => ?echoLength⟩
  case nop => rw [exec_nop, nop_ok h]
  case nopLength => rw [exec_nop, nop_badLength h hlen]
  case echo => rw [exec_echo, echo_ok h hlen]
  case echoLength => rw [exec_echo, echo_badLength h hlen]

end Sys2Proof.Machine

/-!
PROOF. The numbers of the access targets (R491), O17: the window of the address map (R17) that each target number stands for, that an
address has number `k` exactly if it lies in window `k`, and the obligation from this.
-/
namespace Sys2Proof.Machine

/-! ### The windows of the address map (R17) -/

/-- The first address of target `k`. -/
def targetBase : Nat → Nat
  | 0 => 0
  | 1 => 0x10000000
  | 2 => 0x18000000
  | 3 => 0x1C000000
  | 4 => 0x20000000
  | 5 => 0x28000000
  | 6 => 0x30000000
  | 7 => 0
  | b + 8 => 0x40000000 + 0x10000 * b

/-- The bytes of target `k`: the vault memory, target 7, has none, and the last of the 23 peripheral blocks is PAD. -/
def targetSize : Nat → Nat
  | 0 => 0x10000
  | 1 => 0x100000
  | 2 => 0x80000
  | 3 => 0x20000
  | 4 => 0x80000
  | 5 => 0x2000
  | 6 => 0x4000000
  | 7 => 0
  | b + 8 => if b ≤ 22 then 0x10000 else 0

/-- Block `b` of the 23 peripheral blocks is the 64 KiB from 0x40000000 + 0x10000 · `b` on. -/
theorem blockOf_eq_some_iff {a b o : Nat} :
    blockOf a = some (b, o) ↔ b ≤ 22 ∧ o < 0x10000 ∧ a = 0x40000000 + 0x10000 * b + o := by
  simp only [blockOf, Option.ite_none_right_eq_some, Option.some.injEq, Prod.mk.injEq]
  omega

/-- An address of peripheral block `b` lies above every memory, and so has number 8 + `b`. -/
theorem targetOf_of_blockOf {a b o : Nat} (h : blockOf a = some (b, o)) : targetOf a = some (8 + b, o) := by
  obtain ⟨-, -, ha⟩ := blockOf_eq_some_iff.mp h
  simp only [targetOf, within, Bool.and_eq_true, decide_eq_true_eq]
  repeat rw [if_neg (by omega)]
  rw [h]
  rfl

/-- The windows do not overlap, so that being in window `k` decides the number and the offset, and the other way round. -/
theorem targetOf_eq_some_iff {a k o : Nat} : targetOf a = some (k, o) ↔ o < targetSize k ∧ a = targetBase k + o := by
  constructor
  · intro h
    simp only [targetOf, within, Bool.and_eq_true, decide_eq_true_eq] at h
    repeat' split at h
    case isFalse.isFalse.isFalse.isFalse.isFalse.isFalse.isFalse =>
      obtain ⟨⟨b, r⟩, hblock, hb⟩ := Option.map_eq_some_iff.mp h
      obtain ⟨hlast, hr, ha⟩ := blockOf_eq_some_iff.mp hblock
      obtain ⟨rfl, rfl⟩ := Prod.mk.inj hb
      rw [Nat.add_comm 8 b]
      simp [targetSize, targetBase, hlast, hr, ha]
    all_goals
      obtain ⟨rfl, rfl⟩ := Prod.mk.inj (Option.some.inj h)
      simp only [targetSize, targetBase]
      omega
  · rintro ⟨ho, ha⟩
    match k with
    | 0 | 1 | 2 | 3 | 4 | 5 | 6 =>
      simp only [targetSize, targetBase] at ho ha
      simp only [targetOf, within, Bool.and_eq_true, decide_eq_true_eq]
      repeat rw [if_neg (by omega)]
      rw [if_pos (by omega)]
      simp [ha]
    | 7 => exact absurd ho (Nat.not_lt_zero o)
    | b + 8 =>
      obtain ⟨hlast, hr⟩ : b ≤ 22 ∧ o < 0x10000 := by
        simp only [targetSize] at ho
        split at ho <;> omega
      simp only [targetBase] at ha
      rw [targetOf_of_blockOf (blockOf_eq_some_iff.mpr ⟨hlast, hr, ha⟩), Nat.add_comm 8 b]

/-- An address at an offset within the window of target `k` has number `k`. -/
theorem targetOf_base_add {k o : Nat} (h : o < targetSize k) : targetOf (targetBase k + o) = some (k, o) :=
  targetOf_eq_some_iff.mpr ⟨h, rfl⟩

/-! ### The obligation -/

/-- Settles O17: each clause is an address in the window of its number; the window of target 7 is empty. -/
theorem targetNumbers : Obligations.TargetNumbers := by
  unfold Obligations.TargetNumbers
  refine ⟨fun a h => ?rom, fun o h => targetOf_base_add (k := 1) (Nat.lt_succ_of_le h),
    fun o h => targetOf_base_add (k := 2) (Nat.lt_succ_of_le h), fun o h => targetOf_base_add (k := 3) (Nat.lt_succ_of_le h),
    fun o h => targetOf_base_add (k := 4) (Nat.lt_succ_of_le h), fun o h => targetOf_base_add (k := 5) (Nat.lt_succ_of_le h),
    fun o h => targetOf_base_add (k := 6) (Nat.lt_succ_of_le h), fun b o hb ho => ?peripheral, fun a o h => ?vault⟩
  case rom => exact targetOf_eq_some_iff.mpr ⟨Nat.lt_succ_of_le h, (Nat.zero_add a).symm⟩
  case peripheral =>
    rw [Nat.add_comm 8 b]
    exact targetOf_base_add (k := b + 8) (by simp only [targetSize, if_pos hb]; omega)
  case vault => exact Nat.not_lt_zero o (targetOf_eq_some_iff.mp h).1

end Sys2Proof.Machine

/-!
PROOF. Steps and runs, O1 to O3: every meaning is an effect followed by what it leads to, so that no command stops the machine or
touches the queue.
-/
namespace Sys2Proof.Machine

/-! ### Every meaning is an effect -/

/-- The meaning of every command is the performance of an effect. -/
theorem exec_eq_perform (i : Instr) (s : State) : ∃ f : State → State, exec i s = s.perform f := by
  cases i <;> exact ⟨_, rfl⟩

/-- Every command ends in a next state, with the commands that wait as they were. -/
theorem exec_next (i : Instr) (s : State) : ∃ t : State, exec i s = .next t ∧ t.pending = s.pending := by
  obtain ⟨f, hf⟩ := exec_eq_perform i s
  exact ⟨s.after (f s), hf.trans (perform_next s f), after_pending s (f s)⟩

/-! ### The empty queue -/

@[simp] theorem idle_pending (s : State) : s.idle.pending = s.pending := by
  unfold State.idle
  split <;> exact State.advance_pending s _

/-- Time goes on by what is waited for. -/
theorem wait_now_le (s : State) (n : Nat) : s.time.now ≤ (s.wait n).time.now := by
  rw [State.wait_eq, State.advance_now]
  exact Nat.le_max_left _ _

theorem idle_now_le (s : State) : s.time.now ≤ s.idle.time.now := by
  unfold State.idle
  split <;> exact wait_now_le s _

theorem step_nil {s : State} (h : s.pending = []) : step s = .next s.idle := by
  simp [step, h]

/-! ### Runs -/

/-- A step takes the first waiting command, if there is one, and ends in a next state. -/
theorem step_next (s : State) : ∃ t : State, step s = .next t ∧ t.pending = s.pending.drop 1 := by
  match h : s.pending with
  | [] => exact ⟨s.idle, step_nil h, by rw [idle_pending, h, List.drop_nil]⟩
  | c :: rest =>
    obtain ⟨t, ht, hp⟩ := exec_next c { s with pending := rest }
    exact ⟨t, by rw [step, h]; exact ht, hp⟩

/-- A run whose first step goes on is the run from there. -/
theorem run_succ_of_step {M : Host.Core} {s u : M.State} (h : M.step s = .next u) (k : Nat) : M.run (k + 1) s = M.run k u := by
  rw [Host.Core.run, h]

/-! ### The obligations -/

/-- Settles O1: the equation of a step on a queue that is not empty. -/
theorem stepRunsTheFrontCommand : Obligations.StepRunsTheFrontCommand := fun _ _ _ => rfl

/-- Settles O2: the two cases of the idle step, which leaves the queue empty and lets time go on. -/
theorem emptyQueueLetsOneClockEdgePass : Obligations.EmptyQueueLetsOneClockEdgePass := by
  unfold Obligations.EmptyQueueLetsOneClockEdgePass
  refine ⟨fun s h hr => ?_, fun s h hr => ?_, fun s t h ht => ?_⟩
  · rw [step_nil h, State.idle, if_pos hr]
  · rw [step_nil h, State.idle, if_neg (by simp [hr])]
  · obtain rfl : s.idle = t := Host.Outcome.next.inj ((step_nil h).symm.trans ht)
    exact ⟨(idle_pending s).trans h, idle_now_le s⟩

/-- Settles O3, by induction on the number of steps: each ends in a next state and takes one command. -/
theorem runsTakeTheCommandsInOrder : Obligations.RunsTakeTheCommandsInOrder := by
  unfold Obligations.RunsTakeTheCommandsInOrder
  intro s k
  induction k generalizing s with
  | zero => exact ⟨s, rfl, rfl⟩
  | succ k ih =>
    obtain ⟨u, hu, hup⟩ := step_next s
    obtain ⟨t, ht, htp⟩ := ih u
    exact ⟨t, (run_succ_of_step (M := Sys2Proof.core) hu k).trans ht, by rw [htp, hup, List.drop_drop, Nat.add_comm]⟩

end Sys2Proof.Machine

/-!
PROOF. What a bus read returns does not depend on the bytes of the keys in Mordant's slots (R17, R330), O6: a slot shows its length
and attributes alone, and no other register or memory looks at the slots.
-/
namespace Sys2Proof.Machine

section
variable (s : State) (f : Nat → Nat → Byte)

/-! ### The slots (R355) -/

@[simp] theorem rekey_length (k : KeySlot) (g : Nat → Byte) : (k.rekey g).key.length = k.key.length := by
  simp [KeySlot.rekey]

theorem slot_rekeyed (i : Nat) : (s.rekeyed f).slot i = (s.slot i).map fun k => k.rekey (f i) := by
  simp only [State.slot, State.rekeyed, List.getD_eq_getElem?_getD, List.getElem?_mapIdx]
  cases s.aes.slots[i]? <;> rfl

theorem slotWord_rekeyed (i : Nat) : (s.rekeyed f).slotWord i = s.slotWord i := by
  simp only [State.slotWord, slot_rekeyed]
  cases s.slot i with
  | none => rfl
  | some k =>
    simp only [Option.map_some, rekey_length]
    rfl

theorem slotsUsed_rekeyed : (s.rekeyed f).slotsUsed = s.slotsUsed := by
  have hcount : ∀ (l : List (Option KeySlot)) (g : Nat → Nat → Byte),
      ((l.mapIdx fun n k => k.map fun k => k.rekey (g n)).filter (·.isSome)).length = (l.filter (·.isSome)).length := by
    intro l
    induction l with
    | nil => intro g; rfl
    | cons k l ih =>
      intro g
      rw [List.mapIdx_cons, List.filter_cons, List.filter_cons, Option.isSome_map]
      have ih := ih fun n => g (n + 1)
      split <;> simp only [List.length_cons, ih]
  exact hcount s.aes.slots f

/-! ### What a register shows (R9, R10) -/

theorem aesView_rekeyed (o : Nat) : aesView (s.rekeyed f) o = aesView s o := by
  simp only [aesView, slotWord_rekeyed, slotsUsed_rekeyed]
  rfl

/-- The population's header lies in flash. -/
theorem popInUse_rekeyed : (s.rekeyed f).popInUse = s.popInUse := by
  have hflash : (s.rekeyed f).readFlash bankBase 256 = s.readFlash bankBase 256 := readMem_congr _ _ fun _ _ => rfl
  have hheader : (s.rekeyed f).popHdr = s.popHdr := by
    simp only [State.popHdr, hflash]
    rfl
  simp only [State.popInUse, hheader]
  rfl

theorem modeNow_rekeyed (k : Nat) : (s.rekeyed f).modeNow k = s.modeNow k := by
  simp only [State.modeNow, popInUse_rekeyed]
  rfl

theorem credView_rekeyed (o : Nat) : credView (s.rekeyed f) o = credView s o := by
  simp only [credView, State.popState, popInUse_rekeyed, modeNow_rekeyed]
  rfl

theorem trngView_rekeyed (o : Nat) : trngView (s.rekeyed f) o = trngView s o := by
  have hfifo : (s.rekeyed f).fifoRead.1 = s.fifoRead.1 := by
    have hlist : (s.rekeyed f).rng.fifo = s.rng.fifo := rfl
    simp only [State.fifoRead, hlist]
    split <;> rfl
  simp only [trngView, hfifo]
  rfl

theorem fltView_rekeyed (o : Nat) : fltView (s.rekeyed f) o = fltView s o := by
  simp only [fltView, State.modesNow, modeNow_rekeyed]
  rfl

/-- No block but AES looks at the slots. -/
theorem viewFields_rekeyed (m : Master) (b o : Nat) : (s.rekeyed f).viewFields m b o = s.viewFields m b o := by
  unfold State.viewFields
  split
  case h_10 => exact credView_rekeyed s f o
  case h_12 => exact aesView_rekeyed s f o
  case h_13 => exact trngView_rekeyed s f o
  case h_18 => exact fltView_rekeyed s f o
  all_goals rfl

theorem regView_rekeyed (m : Master) (a : Nat) : (s.rekeyed f).regView m a = s.regView m a := by
  simp only [State.regView, viewFields_rekeyed]
  rfl

theorem readWord_rekeyed (m : Master) (a : Nat) : (s.rekeyed f).readWord m a = s.readWord m a := by
  simp only [State.readWord, regView_rekeyed]
  rfl

/-! ### What a word outside the registers holds (R17) -/

theorem memWord_rekeyed (a : Nat) : (s.rekeyed f).memWord a = s.memWord a := rfl

theorem poolWord_rekeyed (a : Nat) : ((s.rekeyed f).poolWord a).1 = (s.poolWord a).1 := by
  have hqueue : (s.rekeyed f).queue 0 = s.queue 0 := rfl
  have hfree : (s.rekeyed f).freeCells = s.freeCells := rfl
  simp only [State.poolWord, hqueue, hfree, memWord_rekeyed]
  split
  · rfl
  · split <;> rfl

end

/-! ### The obligation -/

/-- Settles O6: in each of the three kinds of place that a read can reach. -/
theorem keyBytesNeverReachTheBus : Obligations.KeyBytesNeverReachTheBus := by
  unfold Obligations.KeyBytesNeverReachTheBus
  intro s f m a
  have hfenced : ∀ b, (s.rekeyed f).fenced b = s.fenced b := fun _ => rfl
  simp only [State.readAt, memWord_rekeyed, readWord_rekeyed, hfenced]
  split
  · split
    · exact poolWord_rekeyed s f a
    · rfl
  · split <;> rfl

end Sys2Proof.Machine

/-!
PROOF. The checks before a host command's own (R453, R466, R474), O7: every command that the firmware serves is one call of
`hostCmdLater`, whatever form its parameters select, and that call ends with the first check that fails.
-/
namespace Sys2Proof.Machine

/-! ### Every command of the host goes through the same checks -/

/-- A host command makes the checks of R466 with what its parameters must meet, and then has an effect of its own. -/
theorem exec_hostCall {i : Instr} {op : Nat} {m : Master} {p : List Byte} (h : hostCall i = some (op, m, p)) (s : State) :
    ∃ (syn : List (Bool × Nat)) (body : Option ReqCtx → State → State × Option (Nat × List Byte)),
      exec i s = .next (s.after (hostCmdLater op m p syn body s)) := by
  cases i
  case lfConfigCh m p =>
    cases h
    show ∃ syn body, s.perform (lfConfigCh m p) = _
    simp only [perform_next, lfConfigCh]
    split <;> exact ⟨_, _, rfl⟩
  case urxConfig m p =>
    cases h
    show ∃ syn body, s.perform (urxConfig m p) = _
    simp only [perform_next, urxConfig]
    split <;> exact ⟨_, _, rfl⟩
  all_goals cases h <;> exact ⟨_, _, rfl⟩

/-- The first of a host command's checks are those of the master's right and of QM's fence. -/
theorem hostCmdLater_rightFails {s t : State} {op : Nat} {m : Master} {p : List Byte} {syn : List (Bool × Nat)}
    {body : Option ReqCtx → State → State × Option (Nat × List Byte)} {c : Option ReqCtx} {st : Nat} (hr : s.hostReady = true)
    (ht : s.takeRequest m op p = (c, t)) (hf : firstFail (s.rightChecks m op) = some st) :
    hostCmdLater op m p syn body s = t.answer m op c st [] := by
  have hall : firstFail (s.rightChecks m op ++ syn ++ s.stateChecks op) = some st := by
    rw [firstFail_append, firstFail_append, hf]
  rw [hostCmdLater_fails hr hall, ht]

/-! ### The obligation -/

/-- Settles O7: the three checks in their order. -/
theorem hostCommandsAreCheckedFirst : Obligations.HostCommandsAreCheckedFirst := by
  unfold Obligations.HostCommandsAreCheckedFirst
  refine ⟨fun s i op m p h hr => ?unserved, fun s t i op m p c h hr ht hm => ?denied, fun s t i op m p c h hr ht hm hq => ?fenced⟩
  case unserved =>
    obtain ⟨syn, body, hexec⟩ := exec_hostCall h s
    rw [hexec, hostCmdLater_unserved hr]
  case denied =>
    obtain ⟨syn, body, hexec⟩ := exec_hostCall h s
    rw [hexec, hostCmdLater_rightFails (st := ACCESS_DENIED) hr ht (by simp [State.rightChecks, firstFail, hm])]
  case fenced =>
    obtain ⟨syn, body, hexec⟩ := exec_hostCall h s
    rw [hexec, hostCmdLater_rightFails (st := FENCED) hr ht (by simp [State.rightChecks, firstFail, hm, hq])]

end Sys2Proof.Machine

/-!
PROOF. Bus accesses that do not reach their block (R20 to R22, R493, R549), O8: every register write with an effect of its own is one
bus access, and so are the direct write and the read.
-/
namespace Sys2Proof.Machine

/-! ### Register writes with an effect of their own -/

/-- Such a write is one bus access at its register. -/
theorem exec_busWrite {i : Instr} {m : Master} {a : Nat} (h : busWrite i = some (m, a)) (s : State) :
    ∃ f : State → State, exec i s = .next (s.after (s.onBus m a 1 f)) := by
  cases i <;> cases h <;> exact ⟨_, rfl⟩

section
variable {s : State} {m : Master} {a : BitVec 32}

/-! ### The direct write -/

theorem registerWrite_decode (v : Word) (z : AccSize) (h : s.awake = true) (hq : s.silent m = false)
    (hb : s.busOutcome m a.toNat 1 = .decode) : registerWrite m a v z s = s.decodeFault m a.toNat 1 := by
  simp [registerWrite, h, hq, hb]

/-- A register takes no write but that of an aligned word (R21). -/
theorem registerWrite_notWord (v : Word) {z : AccSize} (h : s.awake = true) (hq : s.silent m = false)
    (hreg : (blockOf a.toNat).isSome = true) (hz : z ≠ .word ∨ a.toNat % 4 ≠ 0) :
    registerWrite m a v z s = s.decodeFault m a.toNat 1 := by
  simp [registerWrite, h, hq, hreg, hz]

/-! ### The read -/

/-- What a read returns is nothing that the access controller looks at. -/
theorem busOutcome_readBack (v k x : Nat) : (s.readBack m v).busOutcome m x k = s.busOutcome m x k := rfl

theorem rcRegisterRead_decode (h : s.awake = true) (hq : s.silent m = false)
    (hb : s.busOutcome m (a.toNat - a.toNat % 4) 0 = .decode) :
    rcRegisterRead m a s = (s.readBack m 0).decodeFault m a.toNat 0 := by
  simp [rcRegisterRead, State.busRead, h, hq, hb]

theorem rcRegisterRead_denied (h : s.awake = true) (hq : s.silent m = false)
    (hb : s.busOutcome m (a.toNat - a.toNat % 4) 0 = .denied) :
    rcRegisterRead m a s = (s.readBack m 0).denyFault m a.toNat 0 := by
  simp [rcRegisterRead, State.busRead, h, hq, hb]

theorem rcRegisterRead_fenced (h : s.awake = true) (hq : s.silent m = false)
    (hb : s.busOutcome m (a.toNat - a.toNat % 4) 0 = .fenced) : rcRegisterRead m a s = s.readBack m 0 := by
  have hawake : (s.readBack m 0).awake = true := h
  have hsilent : (s.readBack m 0).silent m = false := hq
  have hback : (s.readBack m 0).busOutcome m (a.toNat - a.toNat % 4) 0 = .fenced := hb
  simp [rcRegisterRead, State.busRead, State.onRead, h, hq, hb, onBus_fenced _ hawake hsilent hback]

end

/-! ### The obligation -/

/-- Settles O8: the outcomes of the register writes, then those of the direct write and of the read. -/
theorem busAccessesThatDoNotReach : Obligations.BusAccessesThatDoNotReach := by
  unfold Obligations.BusAccessesThatDoNotReach
  refine ⟨fun s i m a hi h => ?asleep, fun s i m a hi hq => ?silent, fun s m a v z h hq hb => ?writeDecode,
    fun s m a v z h hq hreg hz => ?notWord, fun s i m a hi h hq hb => ?denied, fun s i m a hi h hq hb => ?fenced,
    fun s m a h hq hb => ?readDecode, fun s m a h hq hb => ?readDenied, fun s m a h hq hb => ?readFenced⟩
  case asleep =>
    obtain ⟨f, hexec⟩ := exec_busWrite hi s
    rw [hexec, onBus_asleep f h]
  case silent =>
    obtain ⟨f, hexec⟩ := exec_busWrite hi s
    rw [hexec, onBus_silent f hq]
  case denied =>
    obtain ⟨f, hexec⟩ := exec_busWrite hi s
    rw [hexec, onBus_denied f h hq hb]
  case fenced =>
    obtain ⟨f, hexec⟩ := exec_busWrite hi s
    rw [hexec, onBus_fenced f h hq hb]
  case writeDecode =>
    show s.perform (registerWrite m a v z) = _
    rw [perform_next, registerWrite_decode v z h hq hb]
  case notWord =>
    show s.perform (registerWrite m a v z) = _
    rw [perform_next, registerWrite_notWord v h hq hreg hz]
  case readDecode =>
    show s.perform (rcRegisterRead m a) = _
    rw [perform_next, rcRegisterRead_decode h hq hb]
  case readDenied =>
    show s.perform (rcRegisterRead m a) = _
    rw [perform_next, rcRegisterRead_denied h hq hb]
  case readFenced =>
    show s.perform (rcRegisterRead m a) = _
    rw [perform_next, rcRegisterRead_fenced h hq hb]

end Sys2Proof.Machine

/-!
PROOF. A direct write acts field by field (R9, R11), O9: a fold of disjoint fields into a word sets each of them and leaves the rest, and
the fields of every register are disjoint and hold what their ranges allow.
-/
namespace Sys2Proof.Machine

/-! ### A field put into a number -/

/-- `w` with the `k` bits from bit `l` on replaced by `n`. -/
def setBits (w l k n : Nat) : Nat := w - bitsAt w l k * 2 ^ l + n * 2 ^ l

theorem setBits_eq (w l k n : Nat) : setBits w l k n = 2 ^ l * (2 ^ k * (w / 2 ^ (l + k)) + n) + w % 2 ^ l := by
  have hlow := Nat.div_add_mod w (2 ^ l)
  have hhigh := Nat.div_add_mod (w / 2 ^ l) (2 ^ k)
  rw [Nat.div_div_eq_div_mul, ← Nat.pow_add] at hhigh
  have hw : w = 2 ^ l * (2 ^ k * (w / 2 ^ (l + k))) + bitsAt w l k * 2 ^ l + w % 2 ^ l := by
    rw [bitsAt, Nat.mul_comm _ (2 ^ l), ← Nat.mul_add, hhigh, hlow]
  rw [setBits, Nat.mul_add, Nat.mul_comm n]
  omega

section
variable {w l k n : Nat} (hn : n < 2 ^ k)
include hn

/-- What lies above the field stays. -/
theorem setBits_div {j : Nat} (h : l + k ≤ j) : setBits w l k n / 2 ^ j = w / 2 ^ j := by
  obtain ⟨i, rfl⟩ := Nat.exists_eq_add_of_le h
  have hdiv : setBits w l k n / 2 ^ (l + k) = w / 2 ^ (l + k) := by
    rw [setBits_eq, Nat.pow_add 2 l k, ← Nat.div_div_eq_div_mul, Nat.mul_add_div (Nat.two_pow_pos l),
      Nat.div_eq_of_lt (Nat.mod_lt w (Nat.two_pow_pos l)), Nat.add_zero, Nat.mul_add_div (Nat.two_pow_pos k),
      Nat.div_eq_of_lt hn, Nat.add_zero]
  rw [Nat.pow_add, ← Nat.div_div_eq_div_mul, hdiv, Nat.div_div_eq_div_mul]

theorem bitsAt_setBits_self : bitsAt (setBits w l k n) l k = n := by
  rw [bitsAt, setBits_eq, Nat.mul_add_div (Nat.two_pow_pos l), Nat.div_eq_of_lt (Nat.mod_lt w (Nat.two_pow_pos l)), Nat.add_zero,
    Nat.mul_add_mod, Nat.mod_eq_of_lt hn]

theorem bitsAt_setBits_disjoint {l' k' : Nat} (h : l + k ≤ l' ∨ l' + k' ≤ l) :
    bitsAt (setBits w l k n) l' k' = bitsAt w l' k' := by
  obtain h | h := h
  · rw [bitsAt, bitsAt, setBits_div hn h]
  · have hmod : setBits w l k n % 2 ^ (l' + k') = w % 2 ^ (l' + k') := by
      have hdvd : 2 ^ (l' + k') ∣ 2 ^ l := Nat.pow_dvd_pow 2 h
      rw [← Nat.mod_mod_of_dvd _ hdvd, setBits_eq, Nat.mul_add_mod, Nat.mod_mod, Nat.mod_mod_of_dvd _ hdvd]
    rw [bitsAt, bitsAt, ← Nat.mod_mul_right_div_self, ← Nat.mod_mul_right_div_self, ← Nat.pow_add, hmod]

theorem setBits_lt {j : Nat} (h : l + k ≤ j) (hw : w < 2 ^ j) : setBits w l k n < 2 ^ j := by
  rw [← Nat.div_eq_zero_iff_lt (Nat.two_pow_pos j), setBits_div hn h, Nat.div_eq_of_lt hw]

end

/-! ### The fields of a register -/

/-- Fields `f` and `g` share no bit. -/
abbrev FieldRow.apart (f g : FieldRow) : Prop := f.lsb + f.width ≤ g.lsb ∨ g.lsb + g.width ≤ f.lsb

/-- The fields lie in a word of 32 bits without overlap, and each holds every value of its range. -/
abbrev fieldsFit (fs : List FieldRow) : Prop :=
  fs.Pairwise FieldRow.apart ∧ ∀ f ∈ fs, f.lsb + f.width ≤ 32 ∧ f.lo < 2 ^ f.width ∧ f.hi < 2 ^ f.width

/-- The blocks whose registers have no effect but that of R9. -/
abbrev plainBlocks : List Nat := [0, 2, 12, 14, 16, 18, 20]

theorem blockRows_fit : ∀ b ∈ plainBlocks, ∀ r ∈ blockRows b, fieldsFit r.fields := by decide +kernel

theorem regFields_fit {b : Nat} (hb : b ∈ plainBlocks) (o : Nat) : fieldsFit (regFields b o) := by
  unfold regFields
  split
  · rename_i r hr
    exact blockRows_fit b hb r (List.mem_of_find?_eq_some hr)
  · exact ⟨List.Pairwise.nil, by simp⟩

/-- What a write makes of a field fits into it. -/
theorem written_lt {f : FieldRow} {locked : Bool} {old v n : Nat} (hlo : f.lo < 2 ^ f.width) (hhi : f.hi < 2 ^ f.width)
    (h : f.written locked old v = some n) : n < 2 ^ f.width := by
  have hclamp : ∀ x, clampNat f.lo f.hi x < 2 ^ f.width := fun x =>
    Nat.max_lt.mpr ⟨hlo, Nat.lt_of_le_of_lt (Nat.min_le_left f.hi x) hhi⟩
  have hold : bitsAt old f.lsb f.width < 2 ^ f.width := Nat.mod_lt _ (Nat.two_pow_pos _)
  unfold FieldRow.written at h
  split at h
  · exact Option.some.inj h ▸ hclamp _
  · split at h
    · cases h
    · exact Option.some.inj h ▸ hclamp _
  · exact Option.some.inj h ▸ Nat.lt_of_le_of_lt Nat.and_le_left hold
  · cases h

/-! ### A write of a register -/

/-- One field of a write. -/
def FieldRow.writeIn (f : FieldRow) (locked : Bool) (old v w : Nat) : Nat :=
  match f.written locked old v with
  | some n => setBits w f.lsb f.width n
  | none => w

theorem writeFields_eq (fs : List FieldRow) (locked : Bool) (old v : Nat) :
    writeFields fs locked old v = fs.foldl (fun w f => f.writeIn locked old v w) old := rfl

section
variable {locked : Bool} {old v : Nat}

section
variable {f : FieldRow} (w : Nat) (hf : f.lsb + f.width ≤ 32 ∧ f.lo < 2 ^ f.width ∧ f.hi < 2 ^ f.width)
include hf

theorem bitsAt_writeIn_self : bitsAt (f.writeIn locked old v w) f.lsb f.width
    = (f.written locked old v).getD (bitsAt w f.lsb f.width) := by
  obtain ⟨-, hlo, hhi⟩ := hf
  unfold FieldRow.writeIn
  split
  · rename_i n hn
    rw [bitsAt_setBits_self (written_lt hlo hhi hn), hn, Option.getD_some]
  · rename_i hn
    rw [hn, Option.getD_none]

theorem bitsAt_writeIn_apart {g : FieldRow} (h : f.apart g) :
    bitsAt (f.writeIn locked old v w) g.lsb g.width = bitsAt w g.lsb g.width := by
  obtain ⟨-, hlo, hhi⟩ := hf
  unfold FieldRow.writeIn
  split
  · rename_i n hn
    exact bitsAt_setBits_disjoint (written_lt hlo hhi hn) h
  · rfl

theorem writeIn_lt (hw : w < 2 ^ 32) : f.writeIn locked old v w < 2 ^ 32 := by
  obtain ⟨hin, hlo, hhi⟩ := hf
  unfold FieldRow.writeIn
  split
  · rename_i n hn
    exact setBits_lt (written_lt hlo hhi hn) hin hw
  · exact hw

end

/-- Fields apart from `g` leave it. -/
theorem bitsAt_foldl_apart {fs : List FieldRow} (hfit : ∀ f ∈ fs, f.lsb + f.width ≤ 32 ∧ f.lo < 2 ^ f.width ∧ f.hi < 2 ^ f.width)
    {g : FieldRow} (hg : ∀ f ∈ fs, g.apart f) (w : Nat) :
    bitsAt (fs.foldl (fun w f => f.writeIn locked old v w) w) g.lsb g.width = bitsAt w g.lsb g.width := by
  induction fs generalizing w with
  | nil => rfl
  | cons f fs ih =>
    rw [List.forall_mem_cons] at hfit hg
    rw [List.foldl_cons, ih hfit.2 hg.2, bitsAt_writeIn_apart w hfit.1 hg.1.symm]

/-- Each field of the fold ends as its own step leaves it. -/
theorem bitsAt_foldl_mem {fs : List FieldRow} (hfit : fieldsFit fs) {g : FieldRow} (hg : g ∈ fs) (w : Nat) :
    bitsAt (fs.foldl (fun w f => f.writeIn locked old v w) w) g.lsb g.width
      = (g.written locked old v).getD (bitsAt w g.lsb g.width) := by
  induction fs generalizing w with
  | nil => cases hg
  | cons f fs ih =>
    obtain ⟨hapart, hin⟩ := hfit
    rw [List.pairwise_cons] at hapart
    rw [List.forall_mem_cons] at hin
    rw [List.foldl_cons]
    rcases List.mem_cons.mp hg with rfl | hg
    · rw [bitsAt_foldl_apart hin.2 hapart.1, bitsAt_writeIn_self w hin.1]
    · rw [ih ⟨hapart.2, hin.2⟩ hg, bitsAt_writeIn_apart w hin.1 (hapart.1 g hg)]

theorem foldl_writeIn_lt {fs : List FieldRow} (hfit : ∀ f ∈ fs, f.lsb + f.width ≤ 32 ∧ f.lo < 2 ^ f.width ∧ f.hi < 2 ^ f.width)
    {w : Nat} (hw : w < 2 ^ 32) : fs.foldl (fun w f => f.writeIn locked old v w) w < 2 ^ 32 := by
  induction fs generalizing w with
  | nil => exact hw
  | cons f fs ih =>
    rw [List.forall_mem_cons] at hfit
    exact ih hfit.2 (writeIn_lt w hfit.1 hw)

end

/-! ### The word written, and the write -/

section
variable (s : State) {b o v : Nat}

theorem rangeOpen_plain : ∀ b ∈ plainBlocks, rangeOpen b = false := by decide

/-- No field of these blocks has an open range, and none belongs to a fixed fault source. -/
theorem writtenWord_plain (hb : b ∈ plainBlocks) :
    s.writtenWord b o v = BitVec.ofNat 32 (writeFields (regFields b o) (s.lockSet b o) (s.reg (regAt b o)).toNat v) := by
  have hfixed : fixedSource b o = false := by
    have : b ≠ 17 := by rintro rfl; exact absurd hb (by decide)
    simp [fixedSource, this]
  have hopen : rangeOpen b = false := rangeOpen_plain b hb
  simp [State.writtenWord, writeRows, hfixed, hopen]

/-- A field of the word written is what a write makes of it, or stays. -/
theorem bitsAt_writtenWord (hb : b ∈ plainBlocks) {f : FieldRow} (hf : f ∈ regFields b o) :
    bitsAt (s.writtenWord b o v).toNat f.lsb f.width
      = (f.written (s.lockSet b o) (s.reg (regAt b o)).toNat v).getD (bitsAt (s.reg (regAt b o)).toNat f.lsb f.width) := by
  have hfit := regFields_fit hb o
  have hlt := foldl_writeIn_lt (locked := s.lockSet b o) (old := (s.reg (regAt b o)).toNat) (v := v) hfit.2
    (s.reg (regAt b o)).isLt
  rw [writtenWord_plain s hb, writeFields_eq, BitVec.toNat_ofNat, Nat.mod_eq_of_lt hlt, bitsAt_foldl_mem hfit hf]

/-- The write of a register other than a unit's control stores the word. -/
theorem writeReg_plain (m : Master) (hb : b ∈ plainBlocks) (ho : o ≠ 0) :
    s.writeReg m b o v = s.setReg (regAt b o) (s.writtenWord b o v) := by
  have hopen : rangeOpen b = false := rangeOpen_plain b hb
  obtain ⟨hadjust, hblock⟩ : s.adjust b o v = v ∧ s.writeBlock m b o v = s.storeWord b o v := by
    simp only [plainBlocks, List.mem_cons, List.not_mem_nil, or_false] at hb
    rcases hb with rfl | rfl | rfl | rfl | rfl | rfl | rfl <;> exact ⟨rfl, rfl⟩
  simp [State.writeReg, hadjust, hblock, State.storeWord, State.openRanges, hopen, ho]

theorem registerWrite_plain {m : Master} {a : BitVec 32} (v : Word) (h : s.awake = true) (hq : s.silent m = false)
    (hok : s.busOutcome m a.toNat 1 = .ok) (ha : a.toNat % 4 = 0) (hblock : blockOf a.toNat = some (b, o))
    (hb : b ∈ plainBlocks) (ho : o ≠ 0) :
    registerWrite m a v .word s = s.setReg (regAt b o) (s.writtenWord b o v.toNat) := by
  have hfenced : s.fenced b = false := by
    rw [State.busOutcome, targetOf_of_blockOf hblock] at hok
    refine Bool.eq_false_iff.mpr fun hf => ?_
    simp only [Nat.add_sub_cancel_left, hf] at hok
    split at hok
    · cases hok
    · split at hok
      · cases hok
      · simp at hok
  simp [registerWrite, h, hq, hok, ha, hblock, accBytes, State.writeAt, hfenced, writeReg_plain s m hb ho]

end

/-! ### The obligation -/

/-- Settles O9: the write stores its word, and each kind of field is what the write makes of it. -/
theorem registerWriteActsFieldByField : Obligations.RegisterWriteActsFieldByField := by
  unfold Obligations.RegisterWriteActsFieldByField
  have hplain : ∀ {b : Nat}, [0, 2, 12, 14, 16, 18, 20].contains b = true → b ∈ plainBlocks := List.mem_of_elem_eq_true
  refine ⟨fun s m a v b o h hq hok ha hblock hb ho => ?store, fun s b o v f hb hf hacc hlock => ?locked,
    fun s b o v f hb hf hacc => ?readOnly, fun s b o v f hb hf hacc => ?readWrite, fun s b o v f hb hf hacc => ?clearing⟩
  case store =>
    show s.perform (registerWrite m a v .word) = _
    rw [perform_next, registerWrite_plain s v h hq hok ha hblock (hplain hb) ho]
  case locked => simp [bitsAt_writtenWord s (hplain hb) hf, FieldRow.written, hacc, hlock]
  case readOnly =>
    rw [bitsAt_writtenWord s (hplain hb) hf]
    rcases hacc with hacc | hacc | hacc <;> simp [FieldRow.written, hacc]
  case readWrite =>
    rw [bitsAt_writtenWord s (hplain hb) hf]
    rcases hacc with hacc | ⟨hacc, hlock⟩
    · simp [FieldRow.written, hacc]
    · simp [FieldRow.written, hacc, hlock]
  case clearing => simp [bitsAt_writtenWord s (hplain hb) hf, FieldRow.written, hacc]

end Sys2Proof.Machine

/-!
PROOF. Commands that only report change nothing but the last reply (R466), O10: the body of such a command returns the state it is
given, and a device at rest goes on with nothing.
-/
namespace Sys2Proof.Machine

/-! ### A body that returns its state -/

/-- A command whose body keeps the state leaves it as it is, or gives a reply alone. -/
theorem hostCmd_reports {op : Nat} {m : Master} {p : List Byte} {syn : List (Bool × Nat)} {body : State → Effect} {s : State}
    (hbody : ∀ s, ∃ st d, body s = (s, st, d)) (ht : s.takeRequest m op p = (none, s)) :
    hostCmd op m p syn body s = s ∨ ∃ st d, hostCmd op m p syn body s = s.answer m op none st d := by
  rw [hostCmd, hostCmdLater, ht]
  split
  · exact .inl rfl
  · right
    dsimp only
    split
    · exact ⟨_, _, rfl⟩
    · obtain ⟨st, d, hs⟩ := hbody s
      exact ⟨st, d, by rw [hs]⟩

/-- A command that only reports, and has come through no port, does nothing or gives a reply. -/
theorem exec_query {i : Instr} {op : Nat} {m : Master} {p : List Byte} (hq : isQuery i = true) (h : hostCall i = some (op, m, p))
    {s : State} (ht : s.takeRequest m op p = (none, s)) :
    ∃ e : State, exec i s = .next (s.after e) ∧ (e = s ∨ ∃ st d, e = s.answer m op none st d) := by
  cases i <;> cases hq <;> cases h
  case nop => exact ⟨nop m p s, rfl, hostCmd_reports (fun s => ⟨_, _, rfl⟩) ht⟩
  case echo => exact ⟨echo m p s, rfl, hostCmd_reports (fun s => ⟨_, _, rfl⟩) ht⟩
  case getId => exact ⟨getId m p s, rfl, hostCmd_reports (fun s => ⟨_, _, rfl⟩) ht⟩
  case getStatus => exact ⟨getStatus m p s, rfl, hostCmd_reports (fun s => ⟨_, _, rfl⟩) ht⟩
  case timeGet => exact ⟨timeGet m p s, rfl, hostCmd_reports (fun s => ⟨_, _, rfl⟩) ht⟩
  case relStatus => exact ⟨relStatus m p s, rfl, hostCmd_reports (fun s => ⟨_, _, rfl⟩) ht⟩
  case wlStatus => exact ⟨wlStatus m p s, rfl, hostCmd_reports (fun s => ⟨_, _, rfl⟩) ht⟩
  case credQuery =>
    refine ⟨credQuery m p s, rfl, ?_⟩
    rw [credQuery]
    refine hostCmd_reports (fun s => ?_) ht
    repeat' split
    all_goals exact ⟨_, _, rfl⟩
  case authResult =>
    refine ⟨authResult m p s, rfl, ?_⟩
    rw [authResult]
    refine hostCmd_reports (fun s => ?_) ht
    repeat' split
    all_goals exact ⟨_, _, rfl⟩
  case authLockoutStatus =>
    refine ⟨authLockoutStatus m p s, rfl, ?_⟩
    rw [authLockoutStatus]
    refine hostCmd_reports (fun s => ?_) ht
    split <;> exact ⟨_, _, rfl⟩
  case cntRead =>
    refine ⟨cntRead m p s, rfl, ?_⟩
    rw [cntRead]
    refine hostCmd_reports (fun s => ?_) ht
    split <;> exact ⟨_, _, rfl⟩
  case qStatus =>
    refine ⟨qStatus m p s, rfl, ?_⟩
    rw [qStatus]
    refine hostCmd_reports (fun s => ?_) ht
    split <;> exact ⟨_, _, rfl⟩
  case fltStatus =>
    refine ⟨fltStatus m p s, rfl, ?_⟩
    rw [fltStatus]
    refine hostCmd_reports (fun s => ?_) ht
    split
    · exact ⟨_, _, rfl⟩
    · dsimp only
      split <;> exact ⟨_, _, rfl⟩
  case bbxRead =>
    refine ⟨bbxRead m p s, rfl, ?_⟩
    rw [bbxRead]
    refine hostCmd_reports (fun s => ?_) ht
    split <;> exact ⟨_, _, rfl⟩
  case cfgRead =>
    refine ⟨cfgRead m p s, rfl, ?_⟩
    rw [cfgRead]
    refine hostCmd_reports (fun s => ?_) ht
    repeat' split
    all_goals exact ⟨_, _, rfl⟩

/-! ### A reply to no port -/

/-- A device at rest that gives a reply to no port keeps all but the last reply. -/
theorem after_answer_none {s : State} (m : Master) (op st : Nat) (d : List Byte) (h : s.atRest = true) :
    s.after (s.answer m op none st d) = s.answer m op none st d := after_atRest s (answer_none_atRest m op st d h)

/-! ### The obligation -/

/-- Settles O10: the effect is nothing or a reply, and nothing follows it. -/
theorem queriesChangeNothing : Obligations.QueriesChangeNothing := by
  unfold Obligations.QueriesChangeNothing
  intro s t i op m p hq h hrest ht hexec
  obtain ⟨e, heq, he⟩ := exec_query hq h ht
  obtain rfl : s.after e = t := Host.Outcome.next.inj (heq.symm.trans hexec)
  obtain rfl | ⟨st, d, rfl⟩ := he
  · rw [after_atRest e hrest]
  · rw [after_answer_none m op st d hrest]
    rfl

end Sys2Proof.Machine

/-!
PROOF. What commands that store leave unchanged, O11: which parts of the state decide that a device is at rest, the frame of each
command's effect, and the obligation from these.
-/
namespace Sys2Proof.Machine

/-! ### Rest depends on few registers and on the header of the population -/

/-- `t` differs from `s` in registers, memory, held pads, replies, flash operations and the programs of an update alone, and in none
of what decides that the device is at rest. -/
structure RestKept (s t : State) : Prop where
  parts : t = { s with regs := t.regs, mem := t.mem, pwr := t.pwr, hif := t.hif, upd := t.upd }
  pads : t.pwr = { s.pwr with padsHeld := t.pwr.padsHeld, safeHeld := t.pwr.safeHeld }
  port : t.hif.flashOk = s.hif.flashOk
  credCtrl : t.reg CRED_CTRL.addr = s.reg CRED_CTRL.addr
  credStatus : t.reg CRED_STATUS.addr = s.reg CRED_STATUS.addr
  trngStatus : t.reg TRNG_STATUS.addr = s.reg TRNG_STATUS.addr
  header : ∀ i < 256, t.mem8 (0x30000000 + bankBase + i) = s.mem8 (0x30000000 + bankBase + i)

theorem RestKept.atRest {s t : State} (h : RestKept s t) (hs : s.atRest = true) : t.atRest = true := by
  obtain ⟨hparts, hpads, hport, hctrl, hstatus, htrng, hheader⟩ := h
  have hgen : t.get TRNG_STATUS_GEN = s.get TRNG_STATUS_GEN :=
    congrArg (fun w : Word => bitsAt w.toNat TRNG_STATUS_GEN.lsb TRNG_STATUS_GEN.width) htrng
  have hunits : t.units = s.units := by rw [hparts]
  have htime : t.time = s.time := by rw [hparts]
  have hrng : t.rng = s.rng := by rw [hparts]
  have hawake : t.awake = s.awake := by
    rw [State.awake, hpads]
    rfl
  have hreduced : t.pwr.reduced = s.pwr.reduced := by rw [hpads]
  have hpool : t.poolReady = s.poolReady := by
    simp only [State.poolReady, State.rngReady, State.unitOn, State.unit, hunits, htime, hrng, hawake, hreduced, hgen]
  have hhalted : t.rngHalted = s.rngHalted := by simp only [State.rngHalted, hgen]
  rw [atRest_congr (s := s) (t := t) (h12 := hawake) (h13 := hport) (h14 := hctrl) (h15 := hstatus) (h16 := hheader)
    (h20 := hpool) (h22 := hhalted), hs]
  all_goals rw [hparts]
  rfl

/-- After an effect that leaves the device at rest, the next state is the effect's. -/
theorem after_restKept {s e : State} (h : RestKept s e) (hs : s.atRest = true) : s.after e = e := by
  rw [after_atRest s (h.atRest hs), h.parts]

theorem RestKept.refl (s : State) : RestKept s s := ⟨rfl, rfl, rfl, rfl, rfl, rfl, fun _ _ => rfl⟩

/-- A reply to no port decides nothing. -/
theorem RestKept.answer {s u : State} (h : RestKept s u) (m : Master) (op st : Nat) (d : List Byte) :
    RestKept s (u.answer m op none st d) := by
  obtain ⟨hparts, hpads, hport, hctrl, hstatus, htrng, hheader⟩ := h
  refine ⟨?_, hpads, hport, hctrl, hstatus, htrng, hheader⟩
  rw [State.answer, hparts]

/-- Nor does a register other than the three. -/
theorem RestKept.setReg {s u : State} (h : RestKept s u) {a : Nat} (w : Word) (hctrl : CRED_CTRL.addr ≠ a)
    (hstatus : CRED_STATUS.addr ≠ a) (htrng : TRNG_STATUS.addr ≠ a) : RestKept s (u.setReg a w) := by
  refine ⟨?_, h.pads, h.port, ?_, ?_, ?_, h.header⟩
  · rw [h.parts]
    rfl
  · rw [reg_setReg_other w hctrl, h.credCtrl]
  · rw [reg_setReg_other w hstatus, h.credStatus]
  · rw [reg_setReg_other w htrng, h.trngStatus]

/-! ### What a command that came through no port can do -/

/-- It does nothing, is refused with a status alone, or has its own effect. -/
theorem hostCmd_noPort {op : Nat} {m : Master} {p : List Byte} {syn : List (Bool × Nat)} {body : State → Effect} {s : State}
    (ht : s.takeRequest m op p = (none, s)) :
    hostCmd op m p syn body s = s ∨ (∃ st, hostCmd op m p syn body s = s.answer m op none st []) ∨
      hostCmd op m p syn body s = (body s).1.answer m op none (body s).2.1 (body s).2.2 := by
  rw [hostCmd, hostCmdLater, ht]
  split
  · exact .inl rfl
  · right
    dsimp only
    split
    · exact .inl ⟨_, rfl⟩
    · exact .inr rfl

/-- A command whose own effect keeps `P`, as a reply does, keeps it whatever its checks find. -/
theorem hostCmd_noPort_keeps {op : Nat} {m : Master} {p : List Byte} {syn : List (Bool × Nat)} {body : State → Effect} {s : State}
    (ht : s.takeRequest m op p = (none, s)) {P : State → Prop} (hP : ∀ u st d, P u → P (u.answer m op none st d)) (hs : P s)
    (hbody : P (body s).1) : P (hostCmd op m p syn body s) := by
  obtain h | ⟨st, h⟩ | h := hostCmd_noPort (syn := syn) (body := body) ht <;> rw [h]
  · exact hs
  · exact hP _ _ _ hs
  · exact hP _ _ _ hbody

/-! ### Registers alone -/

/-- `t` is `s` but for the last reply and the registers at addresses in `l`. -/
structure RegsOnly (l : List Nat) (s t : State) : Prop where
  parts : t = { s with regs := t.regs, hif := t.hif }
  port : t.hif = { s.hif with lastReply := t.hif.lastReply }
  regs : ∀ x, x ∉ l → t.reg x = s.reg x

theorem RegsOnly.refl (l : List Nat) (s : State) : RegsOnly l s s := ⟨rfl, rfl, fun _ _ => rfl⟩

theorem RegsOnly.answer {l : List Nat} {s u : State} (m : Master) (op st : Nat) (d : List Byte) (h : RegsOnly l s u) :
    RegsOnly l s (u.answer m op none st d) := by
  obtain ⟨hparts, hport, hregs⟩ := h
  refine ⟨?_, ?_, hregs⟩
  · rw [State.answer, hparts]
  · rw [State.answer, hport]

theorem RegsOnly.put {l : List Nat} {s u : State} {f : Field} (v : Nat) (hf : f.addr ∈ l) (h : RegsOnly l s u) :
    RegsOnly l s (u.put f v) := by
  obtain ⟨hparts, hport, hregs⟩ := h
  refine ⟨?_, hport, fun x hx => ?_⟩
  · rw [hparts]
    rfl
  · have hne : x ≠ f.addr := fun he => hx (he ▸ hf)
    rw [State.put, reg_setReg_other _ hne, hregs x hx]

theorem RegsOnly.ite {l : List Nat} {s u v : State} {c : Prop} [Decidable c] (hu : RegsOnly l s u) (hv : RegsOnly l s v) :
    RegsOnly l s (if c then u else v) := by
  split
  · exact hu
  · exact hv

theorem RegsOnly.putIf {l : List Nat} {s u : State} (h : RegsOnly l s u) (c : Prop) [Decidable c] {f : Field} (v : Nat)
    (hf : f.addr ∈ l) : RegsOnly l s (if c then u.put f v else u) := RegsOnly.ite (h.put v hf) h

/-- Where none of the registers is one that rest depends on, a device at rest ends as the effect leaves it. -/
theorem RegsOnly.after {l : List Nat} {s e : State} (h : RegsOnly l s e) (hs : s.atRest = true) (hctrl : CRED_CTRL.addr ∉ l)
    (hstatus : CRED_STATUS.addr ∉ l) (htrng : TRNG_STATUS.addr ∉ l) : s.after e = e := by
  obtain ⟨hparts, hport, hregs⟩ := h
  refine after_restKept ⟨?_, ?_, ?_, hregs _ hctrl, hregs _ hstatus, hregs _ htrng, fun i _ => ?_⟩ hs
  · rw [hparts]
  · rw [hparts]
  · rw [hport]
  · rw [hparts]
    rfl

/-! ### FW_VERIFY, PWR_SET_RETAIN, Q_WATERMARK -/

section
variable {s : State} {m : Master} {p : List Byte}

theorem fwVerify_regsOnly (ht : s.takeRequest m 0xD5 p = (none, s)) : RegsOnly [SYS_FW_STATUS.addr] s (fwVerify m p s) := by
  rw [fwVerify]
  refine hostCmd_noPort_keeps ht (fun u st d => RegsOnly.answer m _ st d) (RegsOnly.refl _ s) ?_
  have hfield : (fwVerified (u8 p 0)).addr ∈ [SYS_FW_STATUS.addr] := by
    unfold fwVerified
    split <;> exact List.mem_singleton_self _
  dsimp only
  split
  · exact (RegsOnly.refl _ s).put 1 hfield
  · exact RegsOnly.refl _ s

theorem pwrSetRetain_regsOnly (ht : s.takeRequest m 0x15 p = (none, s)) : RegsOnly [PWR_RET_CFG.addr] s (pwrSetRetain m p s) := by
  rw [pwrSetRetain]
  exact hostCmd_noPort_keeps ht (fun u st d => RegsOnly.answer m _ st d) (RegsOnly.refl _ s)
    ((RegsOnly.refl _ s).put _ (List.mem_singleton_self _))

theorem qWatermark_regsOnly (ht : s.takeRequest m 0xB5 p = (none, s)) :
    RegsOnly [(QM_Q_WM (u8 p 0)).addr, (QM_Q_STATUS (u8 p 0)).addr, (QM_Q_XCNT (u8 p 0)).addr] s (qWatermark m p s) := by
  rw [qWatermark]
  refine hostCmd_noPort_keeps ht (fun u st d => RegsOnly.answer m _ st d) (RegsOnly.refl _ s) ?_
  split
  · exact RegsOnly.refl _ s
  · split
    · exact RegsOnly.refl _ s
    · have h0 := RegsOnly.refl [(QM_Q_WM (u8 p 0)).addr, (QM_Q_STATUS (u8 p 0)).addr, (QM_Q_XCNT (u8 p 0)).addr] s
      have h1 := h0.putIf (bitAt (u8 p 1) 0 = 1) (f := QM_Q_WM (u8 p 0)) (u16 p 4 + 2 ^ 16 * u16 p 6) (by simp)
      have h2 := RegsOnly.ite (c := bitAt (u8 p 1) 1 = 1)
        ((h1.put (f := QM_Q_STATUS_HWF (u8 p 0)) 0 (by simp [QM_Q_STATUS_HWF, QM_Q_STATUS])).put
          (f := QM_Q_STATUS_LWF (u8 p 0)) 0 (by simp [QM_Q_STATUS_LWF, QM_Q_STATUS])) h1
      exact h2.putIf (bitAt (u8 p 1) 2 = 1) (f := QM_Q_XCNT (u8 p 0)) 0 (by simp)

end

/-! ### A write to memory -/

/-- A direct write to one of the memories 1 to 4 stores its bytes. -/
theorem registerWrite_memory {s : State} {m : Master} {a : BitVec 32} {k o : Nat} (v : Word) (z : AccSize) (h : s.awake = true)
    (hq : s.silent m = false) (halign : a.toNat % accBytes z = 0) (ht : targetOf a.toNat = some (k, o)) (hlo : 1 ≤ k) (hhi : k ≤ 4)
    (hok : s.busOutcome m a.toNat 1 = .ok) : registerWrite m a v z s = s.writeMem a.toNat (le (accBytes z) v.toNat) := by
  have hreg : blockOf a.toNat = none := by
    refine Option.eq_none_iff_forall_ne_some.mpr fun ⟨b, x⟩ hb => ?_
    have := targetOf_of_blockOf hb
    rw [ht] at this
    injection this with this
    injection this with this
    omega
  have hstore : s.writeMemAt a.toNat (accBytes z) v.toNat = s.writeMem a.toNat (le (accBytes z) v.toNat) := by
    have hotp : k ≠ 5 := by omega
    simp [State.writeMemAt, ht, within, hlo, hhi]
  simp [registerWrite, h, hq, hok, hreg, halign, hstore]

theorem writeMem_frame (s : State) (a : Nat) (b : List Byte) : s.writeMem a b = { s with mem := (s.writeMem a b).mem } := by
  induction b generalizing s a with
  | nil => rfl
  | cons x b ih => exact (ih (s.setMem8 a x) (a + 1)).trans rfl

theorem accBytes_le (z : AccSize) : accBytes z ≤ 4 := by cases z <;> decide

/-- Memories 1 to 4 lie below the flash window, where the population's header is. -/
theorem writeMem_restKept {s : State} {a k o : Nat} (v : Word) (z : AccSize) (ht : targetOf a = some (k, o)) (hlo : 1 ≤ k)
    (hhi : k ≤ 4) : RestKept s (s.writeMem a (le (accBytes z) v.toNat)) := by
  have ha : a < 0x28000000 := by
    obtain ⟨ho, ha⟩ := targetOf_eq_some_iff.mp ht
    obtain rfl | rfl | rfl | rfl : k = 1 ∨ k = 2 ∨ k = 3 ∨ k = 4 := by omega
    all_goals
      simp only [targetSize, targetBase] at ho ha
      omega
  have hz := accBytes_le z
  have hframe := writeMem_frame s a (le (accBytes z) v.toNat)
  refine ⟨?_, ?_, ?_, ?_, ?_, ?_, fun i _ => ?_⟩
  case refine_7 => exact mem8_writeMem_other _ _ (.inr (by rw [length_le]; omega))
  all_goals rw [hframe]
  all_goals rfl

/-! ### FW_WRITE_SLOT -/

/-- The state once FW_WRITE_SLOT has put the program `o` of `g` in the flash port's queue. -/
def State.slotProgram (s : State) (k : Nat) (g : FlashProg) (o : FlashOp) : State :=
  ((s.put (fwVerified k) 0).modUpd fun u => { u with progs := u.progs ++ [g] }).flashAsk o

theorem fwWriteSlot_program {s t : State} {m : Master} {p : List Byte} {b : Bool} {c : Option ReqCtx} (h : s.comes m 0xD4 p c t)
    (hlen : within 9 4104 p.length = true) (hslot : u8 p 0 < 2) (hop : u8 p 1 = 1) (hres : u16 p 2 = 0) (hoff : u32 p 4 < 0x100000)
    (halign : u32 p 4 % 256 = 0) (hend : u32 p 4 + (p.length - 8) ≤ 0x100000) (hbar : t.slotBarred (u8 p 0) = false)
    (hidle : t.upd.erase = none) :
    fwWriteSlot m p b s = t.slotProgram (u8 p 0) { op := 0xD4, ok := b, master := m, ctx := c }
      { kind := 1, addr := fwAddr (u8 p 0) + u32 p 4, data := p.drop 8, owner := 2 } := by
  have hshort : 2 ≤ p.length := by
    simp only [within, Bool.and_eq_true, decide_eq_true_eq] at hlen
    omega
  rw [fwWriteSlot, hostCmdLater_comes h (by simp [firstFail, paramOk, hlen, hslot, hop, hres, hoff, halign, hend, hshort])]
  simp [hbar, hidle, hop, State.slotProgram]

theorem fwVerified_addr (k : Nat) : (fwVerified k).addr = SYS_FW_STATUS.addr := by
  unfold fwVerified
  split <;> rfl

theorem reg_slotProgram {s : State} {k x : Nat} {g : FlashProg} {o : FlashOp} (hx : x ≠ SYS_FW_STATUS.addr)
    (hpeak : x ≠ PWR_BUDGET_STAT.addr) : (s.slotProgram k g o).reg x = s.reg x := by
  have hfw : x ≠ (fwVerified k).addr := by rwa [fwVerified_addr]
  exact (reg_setReg_other (a := PWR_BUDGET_STAT_PEAK_MW.addr) _ hpeak).trans (reg_setReg_other _ hfw)

theorem slotProgram_restKept (s : State) (k : Nat) (g : FlashProg) (o : FlashOp) : RestKept s (s.slotProgram k g o) :=
  ⟨rfl, rfl, rfl, reg_slotProgram (by decide) (by decide), reg_slotProgram (by decide) (by decide),
    reg_slotProgram (by decide) (by decide), fun _ _ => rfl⟩

/-! ### The end of a program (FLASH_OP_DONE) -/

theorem flashOpDone_program {s : State} {o : FlashOp} {n : Nat} (h : s.awake = true) (hport : s.hif.flash = [o])
    (hkind : o.kind = 1) (hrun : o.suspended = false) :
    flashOpDone n s = ((s.advance n).programFlash o.addr o.data).flashEnd o [] OK := by
  simp [flashOpDone, h, hport, hkind, hrun]

/-- The end of a program of FW_WRITE_SLOT: the queue of the port and that of the programs are emptied, and the reply is formed. -/
theorem flashEnd_slot {s : State} {o : FlashOp} {g : FlashProg} (howner : o.owner = 2) (hprogs : s.upd.progs = [g]) (hop : g.op = 0xD4)
    (hctx : g.ctx = none) :
    s.flashEnd o [] OK = { s with
      hif := { s.hif with flash := [], lastReply := (s.flashEnd o [] OK).hif.lastReply }, upd := { s.upd with progs := [] } } := by
  simp [State.flashEnd, State.progDone, howner, hprogs, hop, hctx, State.answer, State.modUpd]

/-! ### PWR_PAD_RELEASE -/

theorem pwrPadRelease_restKept {s : State} {m : Master} {p : List Byte} (ht : s.takeRequest m 0x13 p = (none, s)) :
    pwrPadRelease m p s = { s with pwr := (pwrPadRelease m p s).pwr, hif := (pwrPadRelease m p s).hif } ∧
      (pwrPadRelease m p s).pwr = { s.pwr with
        padsHeld := (pwrPadRelease m p s).pwr.padsHeld, safeHeld := (pwrPadRelease m p s).pwr.safeHeld } ∧
      (pwrPadRelease m p s).hif = { s.hif with lastReply := (pwrPadRelease m p s).hif.lastReply } := by
  unfold pwrPadRelease
  generalize hbody : (fun s : State => _) = body
  obtain h | ⟨st, h⟩ | h := hostCmd_noPort (body := body) ht <;> rw [h]
  · exact ⟨rfl, rfl, rfl⟩
  · exact ⟨rfl, rfl, rfl⟩
  · subst hbody
    exact ⟨rfl, rfl, rfl⟩

/-! ### The obligation -/

/-- Settles O11: the frame of each command, where the device stays at rest. -/
theorem storingCommandsFrame : Obligations.StoringCommandsFrame := by
  unfold Obligations.StoringCommandsFrame
  refine ⟨fun s t m a v z k o hs h hq halign htgt hlo hhi hok hexec => ?memory,
    fun s t m p b hs h hlen hslot hop hres hoff halign hend hbar hidle hexec => ?slot,
    fun s t o g n h hport hkind howner hrun hprogs hop hctx hs hexec => ?flash, fun s t m p hs ht hexec => ?verify,
    fun s t m p hs ht hexec => ?retain, fun s t m p hs ht hexec => ?watermark, fun s t m p hs ht hexec => ?pads⟩
  case memory =>
    have hkept := writeMem_restKept (s := s) v z htgt hlo hhi
    have hnext : s.perform (registerWrite m a v z) = .next t := hexec
    rw [perform_next, registerWrite_memory v z h hq halign htgt hlo hhi hok, after_restKept hkept hs] at hnext
    obtain rfl := Host.Outcome.next.inj hnext
    refine ⟨writeMem_frame s _ _, rfl, fun x hx => mem8_writeMem_other _ _ (by rwa [length_le])⟩
  case slot =>
    have hnext : s.perform (fwWriteSlot m p b) = .next t := hexec
    rw [perform_next, fwWriteSlot_program h hlen hslot hop hres hoff halign hend hbar hidle,
      after_restKept (slotProgram_restKept s _ _ _) hs] at hnext
    obtain rfl := Host.Outcome.next.inj hnext
    exact ⟨rfl, rfl, rfl, fun x hx hpeak => reg_slotProgram hx hpeak⟩
  case flash =>
    have hnext : s.perform (flashOpDone n) = .next t := hexec
    rw [perform_next, flashOpDone_program h hport hkind hrun, after_atRest s hs] at hnext
    obtain rfl := Host.Outcome.next.inj hnext
    have hframe := programFlash_frame (s.advance n) o.addr o.data
    rw [flashEnd_slot howner (by rw [hframe]; simpa using hprogs) hop hctx]
    refine ⟨?_, ?_, ?_, fun x hx => ?_⟩
    · rw [hframe]
      simp
    · rw [hframe]
      simp
    · rw [hframe]
      simp
    · exact (mem8_programFlash_other o.addr o.data hx).trans (State.advance_mem8 s n x)
  case verify =>
    have hkept := fwVerify_regsOnly ht
    have hnext : s.perform (fwVerify m p) = .next t := hexec
    rw [perform_next, hkept.after hs (by decide) (by decide) (by decide)] at hnext
    obtain rfl := Host.Outcome.next.inj hnext
    exact ⟨hkept.parts, hkept.port, fun x hx => hkept.regs x (by simpa using hx)⟩
  case retain =>
    have hkept := pwrSetRetain_regsOnly ht
    have hnext : s.perform (pwrSetRetain m p) = .next t := hexec
    rw [perform_next, hkept.after hs (by decide) (by decide) (by decide)] at hnext
    obtain rfl := Host.Outcome.next.inj hnext
    exact ⟨hkept.parts, hkept.port, fun x hx => hkept.regs x (by simpa using hx)⟩
  case watermark =>
    have hkept := qWatermark_regsOnly ht
    have hnext : s.perform (qWatermark m p) = .next t := hexec
    have hqm : ∀ a, a < 0x400F1008 → a ∉ [(QM_Q_WM (u8 p 0)).addr, (QM_Q_STATUS (u8 p 0)).addr, (QM_Q_XCNT (u8 p 0)).addr] := by
      intro a ha
      simp only [QM_Q_WM, QM_Q_STATUS, QM_Q_XCNT, List.mem_cons, List.not_mem_nil, or_false]
      omega
    rw [perform_next, hkept.after hs (hqm _ (by decide)) (hqm _ (by decide)) (hqm _ (by decide))] at hnext
    obtain rfl := Host.Outcome.next.inj hnext
    exact ⟨hkept.parts, hkept.port, fun x h1 h2 h3 => hkept.regs x (by simp [h1, h2, h3])⟩
  case pads =>
    obtain ⟨hparts, hpads, hport⟩ := pwrPadRelease_restKept (m := m) (p := p) ht
    have hkept : RestKept s (pwrPadRelease m p s) := by
      refine ⟨?_, hpads, ?_, ?_, ?_, ?_, fun i _ => ?_⟩
      case refine_2 => rw [hport]
      all_goals rw [hparts]
      all_goals rfl
    have hnext : s.perform (pwrPadRelease m p) = .next t := hexec
    rw [perform_next, after_restKept hkept hs] at hnext
    obtain rfl := Host.Outcome.next.inj hnext
    exact ⟨hparts, hpads, hport⟩

end Sys2Proof.Machine

/-!
PROOF. TIME_CAL_REMOVE (R60, R49), O13, PWR_PAD_RELEASE (R540), O16, and what reset leaves, O5.
-/
namespace Sys2Proof.Machine

/-- A command whose effect on `s` is `e` ends in the next state of `e`. -/
theorem perform_eq {s e : State} {f : State → State} (h : f s = e) : s.perform f = .next (s.after e) := by
  rw [perform_next, h]

/-! ### TIME_CAL_REMOVE (R60) -/

section
variable {s t u : State} {m : Master} {p : List Byte} {k k2 : CalSlot} {c : Option ReqCtx} (h : s.comes m 0x23 p c t)
include h

theorem timeCalRemove_badLength (hlen : p.length ≠ 1) : timeCalRemove m p s = t.answer m 0x23 c BAD_LENGTH [] :=
  hostCmd_comes_fails h (by simp [firstFail, lenIs, hlen])

section
variable (hlen : p.length = 1)
include hlen

theorem timeCalRemove_reserved (hn : 63 < u8 p 0) : timeCalRemove m p s = t.answer m 0x23 c BAD_PARAM [] :=
  hostCmd_comes_fails h (by simp [firstFail, lenIs, paramOk, hlen, show 64 ≤ u8 p 0 from hn])

theorem timeCalRemove_hardware (hlo : 56 ≤ u8 p 0) (hhi : u8 p 0 ≤ 63) :
    timeCalRemove m p s = t.answer m 0x23 c ACCESS_DENIED [] := by
  rw [timeCalRemove, hostCmd_comes h (by simp [firstFail, lenIs, paramOk, hlen, show u8 p 0 < 64 by omega])]
  simp [hlo, State.ends]

variable (hn : u8 p 0 < 56)
include hn

theorem timeCalRemove_free (hslot : t.calSlot (u8 p 0) = none) : timeCalRemove m p s = t.answer m 0x23 c NOT_FOUND [] := by
  rw [timeCalRemove, hostCmd_comes h (by simp [firstFail, lenIs, paramOk, hlen, show u8 p 0 < 64 by omega])]
  simp [show ¬ 56 ≤ u8 p 0 by omega, hslot, State.ends]

variable (hslot : t.calSlot (u8 p 0) = some k)
include hslot

theorem timeCalRemove_ownerFrees (hown : k.ownerFrees = true) : timeCalRemove m p s = t.answer m 0x23 c ACCESS_DENIED [] := by
  rw [timeCalRemove, hostCmd_comes h (by simp [firstFail, lenIs, paramOk, hlen, show u8 p 0 < 64 by omega])]
  simp [show ¬ 56 ≤ u8 p 0 by omega, hslot, hown, State.ends]

/-- With the slot fired first where it is due, the target is told where it is to be, and the slot is freed. -/
theorem timeCalRemove_freed (hown : k.ownerFrees = false)
    (hu : u = if !k.fired && decide (k.time ≤ t.refNow) then t.calFire (u8 p 0) false false else t)
    (hslot2 : u.calSlot (u8 p 0) = some k2) :
    timeCalRemove m p s =
      ((if k2.prepDone && !k2.fired || k2.stopAt.isSome then u.calCancel (u8 p 0) k else u).calFree (u8 p 0)).answer m 0x23 c OK
        [byte (bit01 (k2.gaveAt.any fun d => k2.fired || d / 8 == u.devNow / 8))] := by
  rw [timeCalRemove, hostCmd_comes h (by simp [firstFail, lenIs, paramOk, hlen, show u8 p 0 < 64 by omega])]
  simp only [if_neg (show ¬ 56 ≤ u8 p 0 by omega), hslot, hown, Bool.false_eq_true, if_false, ← hu, hslot2]
  cases k2.gaveAt <;> rfl

end

end

/-- Settles O13: the command's refusals, and the two ways in which the slot is freed. -/
theorem timeCalRemoveFreesTheSlot : Obligations.TimeCalRemoveFreesTheSlot := by
  unfold Obligations.TimeCalRemoveFreesTheSlot
  refine ⟨fun s t m p c h hlen => perform_eq (timeCalRemove_badLength h hlen),
    fun s t m p c h hlen hn => perform_eq (timeCalRemove_reserved h hlen hn),
    fun s t m p c h hlen hlo hhi => perform_eq (timeCalRemove_hardware h hlen hlo hhi),
    fun s t m p c h hlen hn hslot => perform_eq (timeCalRemove_free h hlen hn hslot),
    fun s t m p k c h hlen hn hslot hown => perform_eq (timeCalRemove_ownerFrees h hlen hn hslot hown),
    fun s t u m p k gave c h hlen hn hslot hown hdue hgave hu => perform_eq ?notDue,
    fun s t u v m p k k2 gave c h hlen hn hslot hown hfired hdue hu hslot2 hgave hv => perform_eq ?due⟩
  case notDue => rw [timeCalRemove_freed h hlen hn hslot hown (by rw [hdue]; rfl) hslot, hu, hgave]
  case due => rw [timeCalRemove_freed h hlen hn hslot hown (by simp [hu, hfired, hdue]) hslot2, hv, hgave]

/-! ### PWR_PAD_RELEASE (R540) -/

theorem bitAt_eq_one_iff (n i : Nat) : bitAt n i = 1 ↔ n.testBit i = true := by
  rw [bitAt, Nat.testBit_eq_decide_div_mod_eq, decide_eq_true_eq]

theorem bitAt_eq_zero_iff (n i : Nat) : bitAt n i = 0 ↔ n.testBit i = false := by
  rw [bitAt, Nat.testBit_eq_decide_div_mod_eq, decide_eq_false_iff_not]
  omega

/-- Numbers that share no bit add without a carry. -/
theorem testBit_add_of_apart {x y : Nat} (h : ∀ i, (x.testBit i && y.testBit i) = false) (i : Nat) :
    (x + y).testBit i = (x.testBit i || y.testBit i) := by
  have hcarry : ¬ (x % 2 = 1 ∧ y % 2 = 1) := by simpa [Nat.testBit_zero] using h 0
  induction i generalizing x y with
  | zero =>
    simp only [Nat.testBit_zero, ← Bool.decide_or]
    exact decide_eq_decide.mpr (by omega)
  | succ i ih =>
    have hhalf : ∀ i, ((x / 2).testBit i && (y / 2).testBit i) = false := fun i => by
      simpa only [Nat.testBit_succ] using h (i + 1)
    rw [Nat.testBit_succ, Nat.testBit_succ, Nat.testBit_succ, show (x + y) / 2 = x / 2 + y / 2 by omega]
    exact ih hhalf (by simpa [Nat.testBit_zero] using hhalf 0)

/-- Taking away bits that are set clears them. -/
theorem sub_and_eq_xor (h x : Nat) : h - (h &&& x) = h ^^^ (h &&& x) := by
  have hsum : (h ^^^ (h &&& x)) + (h &&& x) = h := by
    apply Nat.eq_of_testBit_eq
    intro i
    rw [testBit_add_of_apart]
    · simp only [Nat.testBit_and, Nat.testBit_xor]
      cases h.testBit i <;> cases x.testBit i <;> rfl
    · intro i
      simp only [Nat.testBit_and, Nat.testBit_xor]
      cases h.testBit i <;> cases x.testBit i <;> rfl
  omega

/-- A group stays held if it was not named, or is bound. -/
theorem padsKept_iff (h mask bound g : Nat) :
    bitAt (h - (h &&& mask) + (h &&& mask &&& bound)) g = 1 ↔ bitAt h g = 1 ∧ (bitAt mask g = 0 ∨ bitAt bound g = 1) := by
  rw [bitAt_eq_one_iff, bitAt_eq_one_iff, bitAt_eq_zero_iff, bitAt_eq_one_iff, sub_and_eq_xor, testBit_add_of_apart]
  · simp only [Nat.testBit_and, Nat.testBit_xor]
    cases h.testBit g <;> cases mask.testBit g <;> cases bound.testBit g <;> simp
  · intro i
    simp only [Nat.testBit_and, Nat.testBit_xor]
    cases h.testBit i <;> cases mask.testBit i <;> rfl

section
variable {s t : State} {m : Master} {p : List Byte} {c : Option ReqCtx} (h : s.comes m 0x13 p c t)
include h

theorem pwrPadRelease_reserved (hlen : p.length = 4) (hmask : 1024 ≤ u32 p 0) :
    pwrPadRelease m p s = t.answer m 0x13 c BAD_PARAM [] :=
  hostCmd_comes_fails h (by simp [firstFail, lenIs, paramOk, hlen, hmask])

theorem pwrPadRelease_released (hlen : p.length = 4) (hmask : u32 p 0 < 1024) {h g : Nat}
    (hh : h = t.pwr.padsHeld - (t.pwr.padsHeld &&& u32 p 0) + (t.pwr.padsHeld &&& u32 p 0 &&& t.padsBound))
    (hg : g = (t.pwr.safeHeld ||| (if t.safeState then t.pwr.padsHeld &&& u32 p 0 &&& safePads else 0)) &&& h) :
    pwrPadRelease m p s = State.answer { t with pwr := { t.pwr with padsHeld := h, safeHeld := g } } m 0x13 c OK (le 4 h) := by
  rename_i hcomes
  rw [pwrPadRelease, hostCmd_comes hcomes (by simp [firstFail, lenIs, paramOk, hlen, hmask])]
  simp only [← hh, ← hg]

end

/-- Settles O16: the two replies, and which groups stay held. -/
theorem padReleaseReleasesTheNamedGroups : Obligations.PadReleaseReleasesTheNamedGroups := by
  unfold Obligations.PadReleaseReleasesTheNamedGroups
  exact ⟨fun s t m p c h hlen hmask => perform_eq (pwrPadRelease_reserved h hlen hmask),
    fun s t m p h g c hcomes hlen hmask hh hg => perform_eq (pwrPadRelease_released hcomes hlen hmask hh hg),
    fun h mask bound g _ _ _ => padsKept_iff h mask bound g⟩

/-! ### Reset (R9, R45, R293, R441, R548) -/

/-- Every unit is off after reset, or is none. -/
theorem reset_fenced (b : Nat) : State.reset.fenced b = false := by
  have hunits : ∀ u ∈ State.reset.units, u ≠ .fenced := by decide
  rw [State.fenced, State.unit, beq_eq_false_iff_ne, List.getD_eq_getElem?_getD]
  cases hget : State.reset.units[b]? with
  | none => decide
  | some u => exact hunits u (List.mem_of_getElem? hget)

/-- A list of `none` holds nothing, at whatever index it is read. -/
theorem getD_of_all_none {α : Type} {l : List (Option α)} (h : ∀ x ∈ l, x = none) (n : Nat) : l.getD n none = none := by
  rw [List.getD_eq_getElem?_getD]
  cases hget : l[n]? with
  | none => rfl
  | some x => exact h x (List.mem_of_getElem? hget)

theorem reset_queue (q : Nat) : State.reset.queue q = [] := by
  have hqueues : ∀ l ∈ State.reset.qm.queues, l = [] := fun l hl => List.eq_of_mem_replicate hl
  rw [State.queue, List.getD_eq_getElem?_getD]
  cases hget : State.reset.qm.queues[q]? with
  | none => rfl
  | some l => exact hqueues l (List.mem_of_getElem? hget)

/-- Settles O5, by evaluation, and by what the lists of the state after reset hold. -/
theorem resetState : Obligations.ResetState := by
  unfold Obligations.ResetState
  have hrest : State.reset.atRest = true := by decide +kernel
  have hcal : ∀ x ∈ State.reset.cal, x = none := fun x hx => List.eq_of_mem_replicate hx
  have hslots : ∀ x ∈ State.reset.aes.slots, x = none := fun x hx => List.eq_of_mem_replicate hx
  exact ⟨rfl, rfl, rfl, hrest, rfl, rfl, rfl, rfl, getD_of_all_none hcal, reset_queue, reset_fenced, getD_of_all_none hslots,
    fun _ => rfl, fun _ => rfl⟩

end Sys2Proof.Machine

/-!
PROOF. The rows of the resets, of power, of time and of registers, and the host commands of SYS, PWR, TIME and TMR complete as
stated.
-/
namespace Sys2Proof.Machine

/-- Settles O20: each reset row has no condition beyond its hypotheses, and `SOFT_RESET` goes through the checks of a host
command. -/
theorem resetsComplete : Obligations.ResetsComplete := by
  unfold Obligations.ResetsComplete
  refine ⟨fun s straps => ?powerOnReset,
    fun s straps t hvid => ?nreset1,
    fun s straps t hvid => ?nreset2,
    fun s t m p c h hlen hp => ?softReset1,
    fun s t m p h hlen hp => ?softReset2,
    fun s due port hsoftreset => ?softResetBegin,
    fun s t w hawake hfwrun hrecovery hwake hsource hstraps => ?bootDone1,
    fun s t hawake hfwrun hrecovery hwake => ?bootDone2,
    fun s t hawake hfwserving hrecovery hfwrun hswitch huniton => ?fwReady⟩
  case powerOnReset =>
    exact perform_eq (by simp [powerOnReset])
  case nreset1 =>
    exact perform_eq (by simp [nreset, hvid])
  case nreset2 =>
    exact perform_eq (by simp [nreset, hvid])
  case softReset1 =>
    refine perform_eq ?_
    rw [softReset, hostCmdLater_comes h (by simp [firstFail, lenIs, paramOk, hlen, hp])]
  case softReset2 =>
    refine perform_eq ?_
    rw [softReset, hostCmdLater_comes h (by simp [firstFail, lenIs, paramOk, hlen, hp])]
  case softResetBegin =>
    exact perform_eq (by simp [softResetBegin, hsoftreset])
  case bootDone1 =>
    exact perform_eq (by simp [bootDone, hawake, hfwrun, hrecovery, hwake, hsource, hstraps])
  case bootDone2 =>
    exact perform_eq (by simp [bootDone, hawake, hfwrun, hrecovery, hwake])
  case fwReady =>
    refine perform_eq ?_
    simp only [fwReady, hawake, hfwserving, hrecovery, hfwrun, hswitch, Bool.not_true, Bool.or_false, Bool.false_eq_true,
      if_false]
    exact if_neg (by simpa [State.unitOn, State.unit] using huniton)

/-- Settles O22: with the power state and the entry named by the hypotheses each row has one branch left. -/
theorem entryRowsComplete : Obligations.EntryRowsComplete := by
  unfold Obligations.EntryRowsComplete
  refine ⟨fun s u t hp0 hawake hwake hentry hu => ?idleTimerP1,
    fun s d k hp1 hentry hnextidle hdeepest => ?powerEntryStart,
    fun s t k hp1 hentry htriedat hdeepest => ?entryRetry,
    fun s u e hentry hstep hcycle htarget hu => ?commitWindowCycle1,
    fun s u e hentry hstep hcycle htarget hu => ?commitWindowCycle2,
    fun s u e hentry hstep hcycle hu => ?commitWindowCycle3,
    fun s u e hentry hstep hcycle hrunning hrunning2 hu => ?commitWindowCycle4,
    fun s e hentry hstep hcycle => ?commitWindowCycle5,
    fun s d k hwake hentry hp2 hnextidle hdeepest => ?idleExpiryDeeper1,
    fun s d hwake hentry hp3 hidledue => ?idleExpiryDeeper2,
    fun s w henterwait => ?pwrEnterBegin,
    fun s t => ?wakeEvent1,
    fun s t => ?wakeEvent2,
    fun s t ns hget => ?wakeEvent3,
    fun s t ns hget => ?wakeEvent4,
    fun s t c d hc => ?wakeEvent5,
    fun s u htimerload hu => ?wakeTimer⟩
  case idleTimerP1 =>
    subst hu
    exact perform_eq (by simp [idleTimerP1, hp0, hawake, hwake, hentry])
  case powerEntryStart =>
    exact perform_eq (by simp [powerEntryStart, hp1, hentry, hnextidle, hdeepest])
  case entryRetry =>
    exact perform_eq (by simp [entryRetry, hp1, hentry, htriedat, hdeepest])
  case commitWindowCycle1 =>
    subst hu
    refine perform_eq ?_
    simp only [commitWindowCycle, hentry, hstep, hcycle, ne_eq, not_true_eq_false, if_false]
    exact if_neg (by simpa using htarget)
  case commitWindowCycle2 =>
    subst hu
    refine perform_eq ?_
    simp only [commitWindowCycle, hentry, hstep, hcycle, ne_eq, not_true_eq_false, if_false]
    exact if_pos (decide_eq_true htarget)
  case commitWindowCycle3 =>
    subst hu
    exact perform_eq (by simp [commitWindowCycle, hentry, hstep, hcycle])
  case commitWindowCycle4 =>
    subst hu
    exact perform_eq (by simp [commitWindowCycle, hentry, hstep, hcycle, hrunning2])
  case commitWindowCycle5 =>
    exact perform_eq (by simp [commitWindowCycle, hentry, hstep, hcycle])
  case idleExpiryDeeper1 =>
    exact perform_eq (by simp [idleExpiryDeeper, hwake, hentry, hp2, hnextidle, hdeepest])
  case idleExpiryDeeper2 =>
    exact perform_eq (by simp [idleExpiryDeeper, hwake, hentry, hp3, hidledue])
  case pwrEnterBegin =>
    exact perform_eq (by simp [pwrEnterBegin, henterwait])
  case wakeEvent1 =>
    exact perform_eq (by simp [wakeEvent])
  case wakeEvent2 =>
    exact perform_eq (by simp [wakeEvent])
  case wakeEvent3 =>
    exact perform_eq (by simp [wakeEvent, hget])
  case wakeEvent4 =>
    exact perform_eq (by simp [wakeEvent, hget])
  case wakeEvent5 =>
    exact perform_eq (by simp [wakeEvent, hc])
  case wakeTimer =>
    subst hu
    exact perform_eq (by simp [wakeTimer, htimerload])

/-- Settles O23: the stage of the wake that the hypotheses name leaves one branch of each row. -/
theorem wakeRowsComplete : Obligations.WakeRowsComplete := by
  unfold Obligations.WakeRowsComplete
  refine ⟨fun s w t hwake hrefstart hstageat => ?wakeRefStable,
    fun s w ok t hwake hvcorewait hvid hpoweron => ?vcorePgRise1,
    fun s w ok t hwake hvcorewait hvid hpoweron => ?vcorePgRise2,
    fun s u w t hwake hboot hsource hu => ?wakeComplete1,
    fun s w t hwake hboot hsource => ?wakeComplete2,
    fun s u w hwake hrefstart hpoweron hlockout hsaved hu => ?wakeOscTimeout1,
    fun s u v w hwake hrefstart hpoweron hu hv => ?wakeOscTimeout2,
    fun s u v w hwake hpoweron hleft hboot hp4 hu hv => ?wakeVcoreTimeout1,
    fun s u v w hwake hpoweron hleft hboot hp4 hu hv => ?wakeVcoreTimeout2,
    fun s u v t hretryat hlockout hwake hp4 hu hv hwakepending => ?wakeRetry,
    fun s u v hreduced hawake hwake hu hv => ?referenceRestart,
    fun s u d t hdvfs hu => ?dvfsChangeDone,
    fun s u d hdvfs hu => ?pwrDvfsPg⟩
  case wakeRefStable =>
    exact perform_eq (by simp [wakeRefStable, hwake, hrefstart, hstageat])
  case vcorePgRise1 =>
    exact perform_eq (by simp [vcorePgRise, hwake, hvcorewait, hvid, hpoweron])
  case vcorePgRise2 =>
    exact perform_eq (by simp [vcorePgRise, hwake, hvcorewait, hvid, hpoweron])
  case wakeComplete1 =>
    subst hu
    exact perform_eq (by simp [wakeComplete, hwake, hboot, hsource])
  case wakeComplete2 =>
    exact perform_eq (by simp [wakeComplete, hwake, hboot, hsource])
  case wakeOscTimeout1 =>
    subst hu
    exact perform_eq (by simp [wakeOscTimeout, hwake, hrefstart, hpoweron, hlockout, hsaved])
  case wakeOscTimeout2 =>
    subst hu hv
    exact perform_eq (by simp [wakeOscTimeout, hwake, hrefstart, hpoweron])
  case wakeVcoreTimeout1 =>
    subst hu hv
    exact perform_eq (by simp [wakeVcoreTimeout, hwake, hpoweron, hleft, hboot, hp4])
  case wakeVcoreTimeout2 =>
    subst hu hv
    exact perform_eq (by simp [wakeVcoreTimeout, hwake, hpoweron, hleft, hboot, hp4])
  case wakeRetry =>
    refine perform_eq ?_
    simp only [wakeRetry, hretryat, hlockout, hwake, hp4, ← hu, ← hv, hwakepending]
    rfl
  case referenceRestart =>
    subst hu hv
    exact ⟨perform_eq (by simp [referenceRestart, hreduced, hawake, hwake]), perform_eq (by simp [referenceRestart, hreduced,
      hawake, hwake])⟩
  case dvfsChangeDone =>
    subst hu
    exact perform_eq (by simp [dvfsChangeDone, hdvfs])
  case pwrDvfsPg =>
    subst hu
    exact perform_eq (by simp [pwrDvfsPg, hdvfs])

/-- Settles O24: each row is its own branch on the slot, the channel or the servo that the hypotheses name. -/
theorem calendarAndTimerRowsComplete : Obligations.CalendarAndTimerRowsComplete := by
  unfold Obligations.CalendarAndTimerRowsComplete
  refine ⟨fun s u v rising stepped t hu hawake hrunning hflag hflag2 hrefedge => ?refSyncEdge1,
    fun s u rising t hu hflag => ?refSyncEdge2,
    fun s u v hlocked hrunning hu hv hlocked2 => ?expectedSampleMissed,
    fun s u ratio rcRatio crystal t hu hrunning => ?lpRatioUpdate,
    fun s n c hval hhasprep hprepdone hinp0 => ?calendarPrep,
    fun s u n c hval hinp0 hu hinp02 => ?calendarFire1,
    fun s u n c hval hinp0 hwake htarget htarget2 hu hinp02 => ?calendarFire2,
    fun s n c hval hwake hwoken htarget htarget2 hawake => ?calendarWakeLead,
    fun s n c hval hval2 hownerfrees hperiodic hfired hduration hstopat => ?calendarSlotFree1,
    fun s n c x hval hval2 hownerfrees hperiodic hstopat => ?calendarSlotFree2,
    fun s m mask haddr => ?tmrStart,
    fun s u n rising t hu hget => ?tmrTrigger,
    fun s u v n o hu htmrruns hget htmrupdated => ?tmrUpdate,
    fun s u v w x n k hu htmrruns htmrtomatch hget hv hw hx => ?tmrCompare,
    fun s u n rising t hu hget => ?tmrCapture,
    fun s m n haddr => ?tmrCapRead⟩
  case refSyncEdge1 =>
    subst hu
    exact perform_eq (by simp [refSyncEdge, hawake, hrunning, hflag, hflag2, hrefedge])
  case refSyncEdge2 =>
    subst hu
    exact perform_eq (by simp [refSyncEdge, hflag])
  case expectedSampleMissed =>
    refine perform_eq ?_
    have hfree : (Servo.locked == Servo.free) = false := rfl
    have hservo : u.time.servo = .locked := by rw [hv] at hlocked2; exact hlocked2
    simp only [expectedSampleMissed, hlocked, hrunning, hfree, ← hu, ← hv, Bool.not_true, Bool.or_false, Bool.false_eq_true,
      if_false]
    simp only [hservo, beq_self_eq_true, Bool.true_and, decide_eq_true_eq]
  case lpRatioUpdate =>
    subst hu
    exact perform_eq (by simp [lpRatioUpdate, hrunning])
  case calendarPrep =>
    exact perform_eq (by simp [calendarPrep, hval, hhasprep, hprepdone, hinp0])
  case calendarFire1 =>
    subst hu
    exact perform_eq (by simp [calendarFire, hval, hinp0, hinp02])
  case calendarFire2 =>
    subst hu
    exact perform_eq (by simp [calendarFire, hval, hinp0, hwake, htarget, htarget2, hinp02])
  case calendarWakeLead =>
    exact perform_eq (by simp [calendarWakeLead, hval, hwake, hwoken, htarget, htarget2, hawake])
  case calendarSlotFree1 =>
    exact perform_eq (by simp [calendarSlotFree, hval, hval2, hownerfrees, hperiodic, hfired, hduration, hstopat])
  case calendarSlotFree2 =>
    exact perform_eq (by simp [calendarSlotFree, hval, hval2, hownerfrees, hperiodic, hstopat])
  case tmrStart =>
    exact perform_eq (onBus_reaches _ haddr)
  case tmrTrigger =>
    exact perform_eq (by simp only [tmrTrigger, ← hu, hget, if_true])
  case tmrUpdate =>
    subst hu
    exact perform_eq (by simp [tmrUpdate, htmrruns, hget, htmrupdated])
  case tmrCompare =>
    subst hu hv hw hx
    exact perform_eq (by simp [tmrCompare, htmrruns, htmrtomatch, hget])
  case tmrCapture =>
    exact perform_eq (by simp only [tmrCapture, ← hu, hget, if_true])
  case tmrCapRead =>
    exact perform_eq ((busRead_word s m (tmrCap_word n)).trans (onRead_readable _ _ haddr))

/-- Settles O25: a bus access that reaches its block is `onBus_reaches`; the host forms are `regCmd_takes`. -/
theorem registerRowsComplete : Obligations.RegisterRowsComplete := by
  unfold Obligations.RegisterRowsComplete
  refine ⟨fun s m a w hw hreadable => ?lowWordRead,
    fun s m a w hw hreadable => ?rcRegisterRead,
    fun s m a v b o hawake hsilent hok htonat htonat2 hfenced => ?registerWrite1,
    fun s m a v n hawake hsilent hok htonat htonat2 => ?registerWrite2,
    fun s m b en hval haddr => ?unitEnWrite,
    fun s b t hawake => ?startingDone1,
    fun s w t hawake => ?startingDone2,
    fun s n t hawake => ?startingDone3,
    fun s m p htakesreg => ?regRead,
    fun s m p htakesreg => ?regWrite,
    fun s m p htakesreg => ?regModify⟩
  case lowWordRead =>
    subst hw
    exact perform_eq (busRead_readable hreadable)
  case rcRegisterRead =>
    subst hw
    exact perform_eq (busRead_readable hreadable)
  case registerWrite1 =>
    exact perform_eq (by simp [registerWrite, accBytes, State.writeAt, hawake, hsilent, hok, htonat, htonat2, hfenced])
  case registerWrite2 =>
    exact perform_eq (by simp [registerWrite, hawake, hsilent, hok, htonat, htonat2])
  case unitEnWrite =>
    refine perform_eq ?_
    have haccess := haddr
    simp only [State.reaches, Bool.and_eq_true, Bool.not_eq_true', beq_iff_eq] at haccess
    simp [unitEnWrite, hval, haccess.1.1, haccess.2, onBus_reaches _ haddr]
  case startingDone1 =>
    exact perform_eq (by simp [startingDone, hawake])
  case startingDone2 =>
    exact perform_eq (by simp [startingDone, hawake])
  case startingDone3 =>
    exact perform_eq (by simp [startingDone, hawake])
  case regRead =>
    exact perform_eq (regCmd_takes p htakesreg)
  case regWrite =>
    exact perform_eq (regCmd_takes p htakesreg)
  case regModify =>
    exact perform_eq (regCmd_takes p htakesreg)

/-- Settles O26: a host command whose checks pass comes to its own effect (`hostCmd_comes`). -/
theorem systemCommandsComplete : Obligations.SystemCommandsComplete := by
  unfold Obligations.SystemCommandsComplete
  refine ⟨fun s t m p c h hlen => ?getId,
    fun s t m p c h hlen => ?getStatus,
    fun s t u m p c h hlen hp hp2 hp3 hp4 hp5 hp6 hp7 hp8 hp9 hzeroat hflag hu => ?pwrSetPolicy,
    fun s t m p c h hlen hp hzeroat hwakepending hentry hp2 => ?pwrEnter,
    fun s t m p c h hlen hp => ?pwrGetStats,
    fun s t m p c h hlen hp hzeroat hreduced hdvfs => ?pwrSetDvfs,
    fun s t m p c h hlen hzeroat => ?pwrSetRetain,
    fun s m v haddr => ?pwrCmdEnter,
    fun s t hisworker hlinkup => ?wlClkAbsent⟩
  case getId =>
    refine perform_eq ?_
    rw [getId, hostCmd_comes h (by simp [firstFail, lenIs, hlen])]
  case getStatus =>
    refine perform_eq ?_
    rw [getStatus, hostCmd_comes h (by simp [firstFail, lenIs, hlen])]
  case pwrSetPolicy =>
    subst hu
    refine perform_eq ?_
    rw [pwrSetPolicy, hostCmd_comes h (by simp [firstFail, lenIs, paramOk, hlen, hp, hp2, hp4, hp5, hp6, hp7, hp8, hp9, hzeroat])]
    simp [hp3, hflag]
  case pwrEnter =>
    refine perform_eq ?_
    rw [pwrEnter, hostCmdLater_comes h (by simp [firstFail, lenIs, paramOk, hlen, hp, hzeroat])]
    simp only [hwakepending, hentry, hp2, Bool.false_eq_true, if_false, Option.isSome_none, ne_eq, not_true_eq_false]
    cases c <;> rfl
  case pwrGetStats =>
    refine perform_eq ?_
    rw [pwrGetStats, hostCmd_comes h (by simp [firstFail, lenIs, paramOk, hlen, hp])]
    simp [hp]
  case pwrSetDvfs =>
    refine perform_eq ?_
    rw [pwrSetDvfs, hostCmdLater_comes h (by simp [firstFail, lenIs, paramOk, hlen, hp, hzeroat])]
    simp [hreduced, hdvfs]
  case pwrSetRetain =>
    refine perform_eq ?_
    rw [pwrSetRetain, hostCmd_comes h (by simp [firstFail, lenIs, paramOk, hlen, hzeroat])]
    simp
  case pwrCmdEnter =>
    exact perform_eq (onBus_reaches _ haddr)
  case wlClkAbsent =>
    exact perform_eq (by simp [wlClkAbsent, hisworker, hlinkup])

/-- Settles O27: a host command whose checks pass comes to its own effect (`hostCmd_comes`). -/
theorem timeCommandsComplete : Obligations.TimeCommandsComplete := by
  unfold Obligations.TimeCommandsComplete
  refine ⟨fun s t m p c h hlen hlocked => ?timeGet1,
    fun s t m p c h hlen hholdover => ?timeGet2,
    fun s t m p e c h hlen hp hzeroat hflag hedgethiscyc => ?timeSetRef1,
    fun s t u m p e d stepped c h hlen hp hzeroat hnow hflag => ?timeSetRef2,
    fun s t u m p e q x stepped c h hlen hp hzeroat hflag hflag2 hforcedmode hlocked hq hnow hx hacceptsampl => ?timeSetRef3,
    fun s t m p x c h hx hchk hp hp2 hp3 hcal => ?timeCalAdd1,
    fun s t m p x k c h hx hchk hp hfreeslot hcalslot hcal => ?timeCalAdd2,
    fun s t u v m p n ctrl trig c h hn hctrl htrig hchk hflag hflag2 hu hv => ?tmrConfig,
    fun s t m p n k c h hn hlen hn2 hk => ?tmrRead⟩
  case timeGet1 =>
    refine perform_eq ?_
    rw [timeGet, hostCmd_comes h (by simp [firstFail, lenIs, hlen])]
    simp only [hlocked]
    rfl
  case timeGet2 =>
    refine perform_eq ?_
    rw [timeGet, hostCmd_comes h (by simp [firstFail, lenIs, hlen])]
    simp [hholdover]
  case timeSetRef1 =>
    refine perform_eq ?_
    rw [timeSetRef, hostCmd_comes h (by simp [firstFail, lenIs, paramOk, hlen, hp, hzeroat])]
    simp only [hp, hflag, hedgethiscyc, if_true, if_false, Bool.not_true, Bool.false_eq_true]
    rfl
  case timeSetRef2 =>
    refine perform_eq ?_
    rw [timeSetRef, hostCmd_comes h (by simp [firstFail, lenIs, paramOk, hlen, hp, hzeroat])]
    simp only [hp, hnow, hflag, Nat.one_ne_zero, if_true, if_false, Bool.not_true, Bool.false_and, Bool.false_eq_true]
    rfl
  case timeSetRef3 =>
    refine perform_eq ?_
    have hservo : (t.time.servo == .free) = false := by rw [hlocked]; rfl
    rw [timeSetRef, hostCmd_comes h (by simp [firstFail, lenIs, paramOk, hlen, hp, hzeroat])]
    simp only [hp, ← hq, ← hx, hflag, hflag2, hforcedmode, hservo, hnow, hacceptsampl,
      if_true, if_false, Bool.not_true, Bool.false_eq_true]
    rfl
  case timeCalAdd1 =>
    subst hx
    refine perform_eq ?_
    rw [timeCalAdd, hostCmd_comes h hchk]
    simp [hp, hp2, hp3, hcal]
  case timeCalAdd2 =>
    subst hx
    refine perform_eq ?_
    rw [timeCalAdd, hostCmd_comes h hchk]
    simp [hp, hfreeslot, hcalslot, hcal]
  case tmrConfig =>
    subst hn hctrl htrig
    refine perform_eq ?_
    rw [tmrConfig, hostCmd_comes h hchk]
    have hchain : (bitAt (u32 p 4) 6 == 1 && t.flag (TMR_CH_CTRL_EN (u8 p 0 + 1))) = false := by
      simpa using hflag2
    simp only [hflag, hchain, Bool.or_false, Bool.false_eq_true, if_false, ← hu, ← hv]
    rfl
  case tmrRead =>
    subst hn hk
    refine perform_eq ?_
    rw [tmrRead, hostCmd_comes h (by simp [firstFail, lenIs, paramOk, hlen, hn2])]

end Sys2Proof.Machine

/-!
PROOF. The rows and host commands of LF, URX, UTX, of ranging and of zones complete as stated.
-/
namespace Sys2Proof.Machine

/-- Settles O28: a host command whose checks pass comes to its own effect, and a register write that reaches LF is
`onBus_reaches`. -/
theorem lfCommandsComplete : Obligations.LfCommandsComplete := by
  unfold Obligations.LfCommandsComplete
  refine ⟨fun s t u v m p n c h hn hn2 hchk hflag hu hv => ?lfConfigCh1,
    fun s t u v m p c h hp hchk hflag hp2 hu hv => ?lfConfigCh2,
    fun s t m p x c h hx hchk hmap hp hlfquiet => ?lfPatternDef,
    fun s t u m p k c h hchk hp hrole hp2 => ?lfSend,
    fun s t m p c h hchk hp hp2 => ?lfPollConfig,
    fun s t u m p c h hlen hrole hpollstart => ?lfPollStart,
    fun s t m p c h hlen => ?lfPollStop,
    fun s t u m p d c h hchk hdiag hpadheld hpadheld2 hsafestate hreduced hon hget hok hd hdiagcharge hu => ?lfDiag,
    fun s t m p c h hlen hp hp2 hp3 => ?lfMapLoad1,
    fun s t m p b n c h hp hlen hlen2 hp2 hstage hp3 hlen3 => ?lfMapLoad2,
    fun s t m p b n c h hlen hp hp2 hzeroat hstage hlength hmapwriting hmapcrcok hmapfieldsok hpatdefined => ?lfMapLoad3,
    fun s t m p c h hlen hp hp2 hzeroat => ?lfMapLoad4,
    fun s m v haddr => ?lfHnonce3Write,
    fun s m haddr => ?kick,
    fun s m haddr => ?nonceClr⟩
  case lfConfigCh1 =>
    subst hn hu hv
    refine perform_eq ?_
    rw [lfConfigCh, if_neg hn2, lfConfigChan, hostCmd_comes h hchk]
    simp [hflag]
  case lfConfigCh2 =>
    subst hu hv
    refine perform_eq ?_
    rw [lfConfigCh, if_pos hp, lfConfigAll, hostCmd_comes h hchk]
    simp [hflag, hp2]
  case lfPatternDef =>
    subst hx
    refine perform_eq ?_
    rw [lfPatternDef, hostCmd_comes h hchk]
    simp only [hmap, hp, hlfquiet, Bool.false_and, Bool.or_false, decide_false, Bool.false_eq_true, if_true, if_false]
    rfl
  case lfSend =>
    refine perform_eq ?_
    have hworker : t.workerBars (u8 p 0) c = false := by simp [State.workerBars, hrole]
    rw [lfSend, hostCmdLater_comes h hchk]
    simp [hp, hworker, hp2]
  case lfPollConfig =>
    refine perform_eq ?_
    rw [lfPollConfig, hostCmd_comes h hchk]
    simp [State.ok, hp, hp2]
  case lfPollStart =>
    refine perform_eq ?_
    rw [lfPollStart, hostCmd_comes h (by simp [firstFail, lenIs, hlen])]
    simp [hrole, hpollstart]
  case lfPollStop =>
    refine perform_eq ?_
    rw [lfPollStop, hostCmd_comes h (by simp [firstFail, lenIs, hlen])]
  case lfDiag =>
    subst hd hu
    refine perform_eq ?_
    rw [lfDiag, hostCmd_comes h hchk]
    simp [hdiag, hpadheld, hpadheld2, hsafestate, hreduced, hon, hget, hok, hdiagcharge]
  case lfMapLoad1 =>
    refine perform_eq ?_
    rw [lfMapLoad, hostCmd_comes h (by simp [firstFail, paramOk, hlen, hp, hp2, hp3])]
    simp [State.ok, hp]
  case lfMapLoad2 =>
    refine perform_eq ?_
    rw [lfMapLoad, hostCmd_comes h (by simp [firstFail, paramOk, hp, hlen, hlen2, hp2])]
    simp [hp, hstage, hp3, hlen3]
  case lfMapLoad3 =>
    refine perform_eq ?_
    rw [lfMapLoad, hostCmd_comes h (by simp [firstFail, paramOk, hlen, hp, hp2, hzeroat])]
    simp [hp, hstage, hlength, hmapwriting, hmapcrcok, hmapfieldsok, hpatdefined]
  case lfMapLoad4 =>
    refine perform_eq ?_
    rw [lfMapLoad, hostCmd_comes h (by simp [firstFail, paramOk, hlen, hp, hp2, hzeroat])]
    simp [State.ok, hp]
  case lfHnonce3Write =>
    exact perform_eq (onBus_reaches _ haddr)
  case kick =>
    exact perform_eq (onBus_reaches _ haddr)
  case nonceClr =>
    exact perform_eq (onBus_reaches _ haddr)

/-- Settles O29: each row is its own branch on the transmitter, the polling window or the handle that the hypotheses name. -/
theorem lfRowsComplete : Obligations.LfRowsComplete := by
  unfold Obligations.LfRowsComplete
  refine ⟨fun s u x hon hnoradio hsends hattime hready hu hlfbusy => ?lfSendStart,
    fun s x meas htx hkind => ?lfTxDone1,
    fun s u x hpstate hcalslot hu hget hpollpat htx hget2 hwindowfree => ?pollBurst,
    fun s u t hpstate hdeferred hu htx hpollpat hget => ?pollBurstDeferred,
    fun s u x hwindow hu hon hflag hfenced hsentbad => ?sentinelPowerUp,
    fun s u v w x frame rssi t b h hu hwindow hon hhit hb hstart hstop hlength hu8 hframecrcok hv hh hw => ?pollAnswer,
    fun s u level meas hpollwindowe => ?pollWindowEnd1,
    fun s u level meas t hpollwindowe => ?pollWindowEnd2,
    fun s u hpstate hu hpollbusy hpstate2 => ?lfPollIdleStop,
    fun s i high t => ?handleInEdge,
    fun s u v i e hhandlequali hv hawake hfwserving => ?handleQualified1,
    fun s u v i e hhandlequali hv hawake hedge => ?handleQualified2,
    fun s e t hhtel htx => ?lfHtelStart,
    fun s n t => ?lfOvercurrent,
    fun s t => ?lfVlf,
    fun s u t hu => ?vlfReturn,
    fun s x meas htx hkind hcut => ?lfTxDone2,
    fun s u v w x y found pairs tested t hdiag htx hkind hcut hu hpairs htested hv hw => ?lfDiagDone,
    fun s u n temp t hu hgetd => ?lfCalDue,
    fun s u n k x temp hval hcalslot hu hawake hfenced hlfquiet => ?lfCalDone⟩
  case lfSendStart =>
    subst hu
    exact perform_eq (by simp [lfSendStart, hon, hnoradio, hsends, hattime, hready, hlfbusy])
  case lfTxDone1 =>
    exact perform_eq (by simp [lfTxDone, htx, hkind])
  case pollBurst =>
    subst hu
    exact perform_eq (by simp [pollBurst, hpstate, hcalslot, hget, hpollpat, htx, hget2, hwindowfree])
  case pollBurstDeferred =>
    subst hu
    exact perform_eq (by simp [pollBurstDeferred, hpstate, hdeferred, htx, hpollpat, hget])
  case sentinelPowerUp =>
    subst hu
    exact perform_eq (by simp [sentinelPowerUp, hwindow, hon, hflag, hfenced, hsentbad])
  case pollAnswer =>
    refine perform_eq ?_
    have hin : (!x.on || x.hit.isSome || decide (b < x.start) || decide (x.stop < b)) = false := by
      simp [hon, hhit, hstart, hstop]
    have hframe : ¬ (frame.length ≠ 7 || u8 frame 0 ≠ 0x40) = true := by simp [hlength, hu8]
    simp only [pollAnswer, ← hu, hwindow, ← hb, ← hv, hin, hframecrcok, hframe, Bool.not_true, Bool.false_eq_true, if_false, ← hh]
    rw [hw]
    rfl
  case pollWindowEnd1 =>
    exact perform_eq (by simp [pollWindowEnd, hpollwindowe])
  case pollWindowEnd2 =>
    exact perform_eq (by simp [pollWindowEnd, hpollwindowe])
  case lfPollIdleStop =>
    subst hu
    exact perform_eq (by simp [lfPollIdleStop, hpstate, hpollbusy, hpstate2])
  case handleInEdge =>
    exact perform_eq (by simp [handleInEdge])
  case handleQualified1 =>
    subst hv
    exact perform_eq (by simp [handleQualified, hhandlequali, hawake, hfwserving])
  case handleQualified2 =>
    subst hv
    exact perform_eq (by simp [handleQualified, hhandlequali, hawake, hedge])
  case lfHtelStart =>
    exact perform_eq (by simp [lfHtelStart, hhtel, htx])
  case lfOvercurrent =>
    exact perform_eq (by simp [lfOvercurrent])
  case lfVlf =>
    exact perform_eq (by simp [lfVlf])
  case vlfReturn =>
    subst hu
    exact perform_eq (by simp [vlfReturn])
  case lfTxDone2 =>
    exact perform_eq (by simp [lfTxDone, htx, hkind, hcut])
  case lfDiagDone =>
    subst hu hpairs htested hv hw
    exact perform_eq (by simp [lfDiagDone, hdiag, htx, hkind, hcut])
  case lfCalDue =>
    exact perform_eq (by simp only [lfCalDue, hgetd, ← hu, Bool.true_or, if_true])
  case lfCalDone =>
    have hbusy : (!u.awake || u.fenced 4) = false := by simp [hawake, hfenced]
    have hdone : ∀ k : Fin 2, s.lfCalDone n k.val temp.toInt = u.lfCalEnd n (k.val = 0) temp.toInt := fun k => by
      have hend : k.val ≠ 2 := by omega
      simp only [State.lfCalDone, hval, Option.bind_some, hcalslot, ← hu, hbusy, hend, hlfquiet, Bool.false_eq_true, if_false,
        Bool.not_true]
    exact ⟨perform_eq (congrArg (fun s => s.calPlace.pollHeld) (hdone 0)),
      perform_eq (congrArg (fun s => s.calPlace.pollHeld) (hdone 1))⟩

/-- Settles O30: a host command whose checks pass comes to its own effect, form by form of URX_CONFIG. -/
theorem urxCommandsComplete : Obligations.UrxCommandsComplete := by
  unfold Obligations.UrxCommandsComplete
  refine ⟨fun s t m p w c h hp hw hchk hp2 => ?urxConfig1,
    fun s t u m p n cfg fr q c h hp hn hcfg hfr hchk hflag hq hphase hu => ?urxConfig2,
    fun s t m p c h hp hchk => ?urxConfig3,
    fun s t m p c h hp hchk hflag => ?urxConfig4,
    fun s t u m p c h hlen hp hp2 => ?urxStart,
    fun s t m p c h hlen hp => ?urxStop,
    fun s t m p g c h hlen hp hp2 hp3 hp4 hp5 hzeroat hst hon hradioon hg => ?rfCapture1,
    fun s t m p c h hlen hp hp2 hp3 hp4 hp5 hp6 hzeroat => ?rfCapture2⟩
  case urxConfig1 =>
    subst hw
    refine perform_eq ?_
    rw [urxConfig, hp]
    rw [urxConfigWin, hostCmd_comes h hchk]
    simp [hp2]
  case urxConfig2 =>
    subst hn hcfg hfr hq
    refine perform_eq ?_
    rw [urxConfig, hp]
    rw [urxConfigChan, hostCmd_comes h hchk]
    simp [hflag, hphase, ← hu]
  case urxConfig3 =>
    refine perform_eq ?_
    rw [urxConfig, hp, urxConfigSent, hostCmd_comes h hchk]
    rfl
  case urxConfig4 =>
    refine perform_eq ?_
    rw [urxConfig, hp]
    rw [urxConfigAll, hostCmd_comes h hchk]
    simp [hflag]
  case urxStart =>
    refine perform_eq ?_
    rw [urxStart, hostCmd_comes h (by simp [firstFail, lenIs, paramOk, hlen, hp])]
    simp [hp2]
  case urxStop =>
    refine perform_eq ?_
    rw [urxStop, hostCmd_comes h (by simp [firstFail, lenIs, paramOk, hlen, hp])]
  case rfCapture1 =>
    subst hg
    refine perform_eq ?_
    rw [rfCapture, hostCmd_comes h (by simp [firstFail, lenIs, paramOk, bitsAt, hlen, hp, hp2, hp3, hp4, hp5, hzeroat])]
    simp only [hp, hp2, hp3, hp4, hst, hon, hradioon, Nat.zero_ne_one, Bool.not_true,
      Bool.and_false, Bool.false_eq_true, if_true, if_false]
    rfl
  case rfCapture2 =>
    refine perform_eq ?_
    rw [rfCapture, hostCmd_comes h (by simp [firstFail, lenIs, paramOk, hlen, hp, hp2, hp3, hp4, hp5, hp6, hzeroat])]
    simp [State.ok, hp]

/-- Settles O31: each row is its own branch on the receiver's window, the jam watch or the gather that the hypotheses name. -/
theorem urxRowsComplete : Obligations.UrxRowsComplete := by
  unfold Obligations.UrxRowsComplete
  refine ⟨fun s u n bits more t hu hchanlistens hblanked hphase hget => ?preambleDetected,
    fun s n hphase => ?syncSearchTimeout,
    fun s u n word hdr t hu hphase hphase2 => ?syncAccepted1,
    fun s u n word hdr t hu hphase => ?syncAccepted2,
    fun s u n rx b hframeend hauthhears => ?urxFrame1,
    fun s u n rx hframeend hauthhears => ?urxFrame2,
    fun s u v n rx hframeend hv hauthhears => ?urxFrame3,
    fun s w power t => ?urxJam,
    fun s u w t hu hjam hon hflag hjamheld => ?urxJamClear,
    fun s u t hu hflag hradioon hanyframe => ?bypassEngage1,
    fun s u t hu hanyframe => ?bypassRelease,
    fun s u t hu hflag hradioon hanyframe => ?bypassEngage2,
    fun s u portB t hu => ?urxAdcFault,
    fun s u portB t hu hgetd => ?adcSelfCheckDone,
    fun s u v w g x t n pre d hu hg hst htrigat hn hpre hd hv hw => ?captureTrigger,
    fun s u g hg hst hawake hitem hitem2 => ?gatherReadItem1,
    fun s u g hg hst hawake hitem hitem2 => ?gatherReadItem2,
    fun s u g hg hst hawake hu hitem => ?gatherReadTimeout⟩
  case preambleDetected =>
    exact perform_eq (by simp [preambleDetected, hchanlistens, hblanked, hphase, Nat.not_lt.mpr hget, ← hu])
  case syncSearchTimeout =>
    exact perform_eq (by simp [syncSearchTimeout, hphase])
  case syncAccepted1 =>
    subst hu
    exact perform_eq (by simp [syncAccepted, hphase, hphase2])
  case syncAccepted2 =>
    subst hu
    exact perform_eq (by simp [syncAccepted, hphase])
  case urxFrame1 =>
    exact perform_eq (by simp [urxFrame, hframeend, hauthhears])
  case urxFrame2 =>
    exact perform_eq (by simp [urxFrame, hframeend, hauthhears])
  case urxFrame3 =>
    subst hv
    exact perform_eq (by simp [urxFrame, hframeend, hauthhears])
  case urxJam =>
    exact perform_eq (by simp [urxJam])
  case urxJamClear =>
    subst hu
    exact perform_eq (by simp [urxJamClear, hjam, hon, hflag, hjamheld])
  case bypassEngage1 =>
    refine perform_eq ?_
    have hsettle : State.anyFrame { u with urx := { u.urx with bypassWant := some true } } = false := hanyframe
    simp only [bypassEngage, ← hu, hflag, hradioon, Bool.not_true, Bool.or_false, Bool.false_eq_true, if_false,
      State.bypassSettle, hsettle]
  case bypassRelease =>
    refine perform_eq ?_
    have hsettle : State.anyFrame { u with urx := { u.urx with bypassWant := some false } } = false := hanyframe
    simp only [bypassRelease, ← hu, Bool.false_eq_true, if_false, State.bypassSettle, hsettle]
  case bypassEngage2 =>
    refine perform_eq ?_
    have hsettle : State.anyFrame { u with urx := { u.urx with bypassWant := some true } } = true := hanyframe
    simp only [bypassEngage, ← hu, hflag, hradioon, Bool.not_true, Bool.or_false, Bool.false_eq_true, if_false, if_true,
      State.bypassSettle, hsettle]
  case urxAdcFault =>
    subst hu
    exact perform_eq (by simp [urxAdcFault])
  case adcSelfCheckDone =>
    exact ⟨perform_eq (by simp only [adcSelfCheckDone, ← hu, hgetd, Bool.not_true, Bool.false_eq_true, if_false, if_true]),
      perform_eq (by simp only [adcSelfCheckDone, ← hu, hgetd, Bool.not_true, Bool.false_eq_true, if_false])⟩
  case captureTrigger =>
    subst hu hg hn hpre hd hv hw
    exact perform_eq (by simp only [captureTrigger, hst, htrigat, if_true])
  case gatherReadItem1 =>
    subst hg
    exact perform_eq (by simp [gatherReadItem, hst, hawake, hitem, hitem2])
  case gatherReadItem2 =>
    subst hg
    exact perform_eq (by simp [gatherReadItem, hst, hawake, hitem, hitem2])
  case gatherReadTimeout =>
    subst hg hu
    exact perform_eq (by simp [gatherReadTimeout, hst, hawake, hitem])

/-- Settles O32: a host command whose checks pass comes to its own effect (`hostCmd_comes`). -/
theorem utxCommandsComplete : Obligations.UtxCommandsComplete := by
  unfold Obligations.UtxCommandsComplete
  refine ⟨fun s t u m p rate bits half id c h hchk hmay hrole hshape hqueue => ?utxSend,
    fun s t u v m p fs c h hfs hchk hsends htx hu hv => ?utxHopTable,
    fun s t m p c h hlen hp hp2 hp3 hzeroat huniton hreduced hpadheld hpadheld2 hsafestate => ?rfCalibrate1,
    fun s t m p c h hlen hp hp2 hp3 hzeroat huniton hreduced hpadheld hpadheld2 hsafestate => ?rfCalibrate2,
    fun s t m c h => ?rfCalStatus,
    fun s t m p c h hlen hp hp2 hp3 hflag => ?coexConfig,
    fun s t m p c h hlen hp hp2 hp3 hp4 hflag => ?femSeqConfig⟩
  case utxSend =>
    refine perform_eq ?_
    rw [utxSend, hostCmd_comes h hchk]
    simp only [hmay, hrole, hshape, Bool.not_true, Bool.false_eq_true, if_false, ne_eq, not_true_eq_false, hqueue]
    rfl
  case utxHopTable =>
    subst hfs
    refine perform_eq ?_
    rw [utxHopTable, hostCmd_comes h hchk]
    simp only [hsends, htx, List.any_nil, Bool.or_false, Bool.false_eq_true, if_false, ← hu, ← hv]
  case rfCalibrate1 =>
    refine perform_eq ?_
    have h0 : (bitAt 16 0 == 1) = false := rfl
    have h1 : (bitAt 16 1 == 1) = false := rfl
    have h2 : (bitAt 16 2 == 1) = false := rfl
    have h3 : (bitAt 16 3 == 1) = false := rfl
    have h4 : (bitAt 16 4 == 1) = true := rfl
    rw [rfCalibrate, hostCmd_comes h (by simp [firstFail, lenIs, paramOk, within, hlen, hp, hp2, hp3, hzeroat])]
    simp only [hp, hp2, huniton, hreduced, hpadheld, hpadheld2, hsafestate, h0, h1, h2, h3, h4, Nat.zero_ne_one, decide_false,
      Bool.not_true, Bool.false_and, Bool.or_false, Bool.false_eq_true, if_true, if_false, List.append_nil, List.foldl_nil]
    rfl
  case rfCalibrate2 =>
    refine perform_eq ?_
    have h0 : (bitAt 1 0 == 1) = true := rfl
    have h1 : (bitAt 1 1 == 1) = false := rfl
    have h2 : (bitAt 1 2 == 1) = false := rfl
    have h3 : (bitAt 1 3 == 1) = false := rfl
    have h4 : (bitAt 1 4 == 1) = false := rfl
    rw [rfCalibrate, hostCmd_comes h (by simp [firstFail, lenIs, paramOk, within, hlen, hp, hp2, hp3, hzeroat])]
    simp only [hp, hp2, huniton, hreduced, hpadheld, hpadheld2, hsafestate, h0, h1, h2, h3, h4, Nat.zero_ne_one, decide_false,
      Bool.not_true, Bool.false_and, Bool.or_false, Bool.false_eq_true, if_true, if_false, List.append_nil]
  case rfCalStatus =>
    refine perform_eq ?_
    rw [rfCalStatus, hostCmd_comes h rfl]
  case coexConfig =>
    refine perform_eq ?_
    rw [coexConfig, hostCmd_comes h (by simp [firstFail, lenIs, paramOk, hlen, hp, hp2, hp3])]
    simp [hflag, State.ok]
  case femSeqConfig =>
    refine perform_eq ?_
    rw [femSeqConfig, hostCmd_comes h (by simp [firstFail, lenIs, paramOk, hlen, hp, hp4]; exact ⟨hp2, hp3⟩)]
    simp [hflag, State.ok]

/-- Settles O33: each row is its own branch on the send's phase or the calibration item that the hypotheses name. -/
theorem utxAndRfCalRowsComplete : Obligations.UtxAndRfCalRowsComplete := by
  unfold Obligations.UtxAndRfCalRowsComplete
  refine ⟨fun s x busy htx huniton hplllost hnoradio hsends hlost => ?utxSendStart1,
    fun s x busy htx hphase hplllost => ?utxSendStart2,
    fun s u x t htx hphase hplllost hlocklate hu hlisten => ?synthLocked1,
    fun s u x t htx hphase hplllost hlocklate hu hlisten => ?synthLocked2,
    fun s x htx hphase hlocklate => ?utxSynthLock,
    fun s u t hu htx => ?coexGntRise1,
    fun s u x t hu htx hphase => ?coexGntRise2,
    fun s u t hu htx => ?coexGntFall1,
    fun s u x t hu htx hphase heat hhigh hflag hflag2 => ?coexGntFall2,
    fun s x w htx hsince hreqt hphase => ?coexWaitTimeout1,
    fun s x w htx hsince hreqt hphase => ?coexWaitTimeout2,
    fun s x hsends => ?afterRxTimeout,
    fun s u x htx hphase hu => ?utxTxDone1,
    fun s u x htx hphase hu => ?utxTxDone2,
    fun s => ?dutyBinRoll,
    fun s u i temp t hval hu hflag hvalid => ?calDue,
    fun s u x hflag hdue hcaltime hu hcalentries hcalmay hitem => ?calStepStart,
    fun s u v x vco cap gain temp hrun hfg hitem hagain hu hv => ?rfCalDone1,
    fun s t u v x vco cap gain temp hrun hfg hitem hagain ht hu hv => ?rfCalDone2⟩
  case utxSendStart1 =>
    exact perform_eq (by simp [utxSendStart, htx, huniton, hplllost, hnoradio, hsends, hlost])
  case utxSendStart2 =>
    exact perform_eq (by simp [utxSendStart, htx, hphase, hplllost])
  case synthLocked1 =>
    subst hu
    exact perform_eq (by simp [synthLocked, htx, hphase, hplllost, hlocklate, hlisten])
  case synthLocked2 =>
    subst hu
    exact perform_eq (by simp [synthLocked, htx, hphase, hplllost, hlocklate, hlisten])
  case utxSynthLock =>
    exact perform_eq (by simp [utxSynthLock, htx, hphase, hlocklate])
  case coexGntRise1 =>
    subst hu
    exact perform_eq (by simp [coexGntRise, htx])
  case coexGntRise2 =>
    subst hu
    exact perform_eq (by simp [coexGntRise, htx, hphase])
  case coexGntFall1 =>
    subst hu
    exact perform_eq (by simp [coexGntFall, htx])
  case coexGntFall2 =>
    subst hu
    exact perform_eq (by simp [coexGntFall, htx, hphase, heat, hhigh, hflag, hflag2])
  case coexWaitTimeout1 =>
    exact perform_eq (by simp [coexWaitTimeout, htx, hsince, hreqt, hphase])
  case coexWaitTimeout2 =>
    exact perform_eq (by simp [coexWaitTimeout, htx, hsince, hreqt, hphase])
  case afterRxTimeout =>
    exact perform_eq (by simp [afterRxTimeout, hsends])
  case utxTxDone1 =>
    refine perform_eq ?_
    simp only [utxTxDone, htx, hphase, ← hu, Bool.not_true, if_true, if_false, ne_eq, not_true_eq_false]
    rfl
  case utxTxDone2 =>
    subst hu
    exact perform_eq (by simp [utxTxDone, htx, hphase, bit01, Nat.add_comm])
  case dutyBinRoll =>
    exact perform_eq (by simp [dutyBinRoll])
  case calDue =>
    refine perform_eq ?_
    have hidx : ((3 : Fin 4) = 0) = False := by simp
    simp only [calDue, ← hu, hidx, if_false, hflag]
    have hitem : ((3 : Fin 4) : Nat) = 3 := rfl
    rw [hitem, hvalid]
    simp [hval]
  case calStepStart =>
    refine perform_eq ?_
    have hlate : decide (s.calPlace.calTime x < s.calPlace.time.ref) = false := by simpa using hcaltime
    have hentry : (decide (x.item = 0) && !u.calEntries.contains x.idx) = false := by simpa using hcalentries
    simp only [calStepStart, hflag, hdue, hlate, ← hu, hcalmay, hitem, hentry, Bool.not_true, Bool.false_eq_true, if_false,
      Option.isSome_none, Bool.or_false]
  case rfCalDone1 =>
    subst hu hv
    exact perform_eq (by simp [rfCalDone, hrun, hfg, hitem, hagain])
  case rfCalDone2 =>
    subst ht hu hv
    exact perform_eq (by simp [rfCalDone, hrun, hfg, hitem, hagain])

/-- Settles O34: a host command whose checks pass comes to its own effect (`hostCmd_comes`). -/
theorem rangeZoneCommandsComplete : Obligations.RangeZoneCommandsComplete := by
  unfold Obligations.RangeZoneCommandsComplete
  refine ⟨fun s t u v m p vals b amb c h hchk hflag hrun hp hvals hu hp2 => ?rangeConfig,
    fun s t m p a c h ha hchk hflag hrangerefusa => ?rangeRun,
    fun s t m p b c h hlen hp hhead => ?rangeResult1,
    fun s t m p b c h hlen hp hrun hp2 => ?rangeResult2,
    fun s t u v w m p dz c h hchk hflag hdz hu hv hw => ?zoneConfig,
    fun s t m p c h hlen hp => ?zoneQuery1,
    fun s t u v m p pat c h hp hchk hon hsolve hpat hu hv => ?zoneQuery2⟩
  case rangeConfig =>
    subst hvals hu
    refine perform_eq ?_
    rw [rangeConfig, hostCmd_comes h hchk]
    simp only [hflag, hrun, hp, hp2, Bool.false_and, Bool.false_eq_true, if_false, Option.isSome_none, ne_eq]
  case rangeRun =>
    subst ha
    refine perform_eq ?_
    rw [rangeRun, hostCmd_comes h hchk]
    simp [hflag, hrangerefusa]
  case rangeResult1 =>
    refine perform_eq ?_
    rw [rangeResult, hostCmd_comes h (by simp [firstFail, lenIs, hlen])]
    simp [hp, hhead]
  case rangeResult2 =>
    refine perform_eq ?_
    rw [rangeResult, hostCmd_comes h (by simp [firstFail, lenIs, hlen])]
    simp [hp, hrun, hp2]
  case zoneConfig =>
    subst hdz hu hv hw
    refine perform_eq ?_
    rw [zoneConfig, hostCmd_comes h hchk]
    cases hquiet : t.zoneQuiet <;> simp only [hflag, Bool.false_and, Bool.false_eq_true, if_false, if_true]
  case zoneQuery1 =>
    refine perform_eq ?_
    rw [zoneQuery, hostCmdLater_comes h (by simp [firstFail, paramOk, hlen, hp])]
    simp [hp]
  case zoneQuery2 =>
    subst hpat hu hv
    refine perform_eq ?_
    rw [zoneQuery, hostCmdLater_comes h hchk]
    simp only [hp, hon, hsolve, Nat.one_ne_zero, if_false, bne_self_eq_false, Bool.false_eq_true, Option.isSome_none]

/-- Settles O35: each row is its own branch on the run's phase that the hypotheses name. -/
theorem rangeZoneRowsComplete : Obligations.RangeZoneRowsComplete := by
  unfold Obligations.RangeZoneRowsComplete
  refine ⟨fun s m haddr => ?rangeCmdGo,
    fun s x n k o r f d hrun ho hmode htrig ho2 hr hf hd hfreeslot hexclusiveov => ?rangeOriginFixed,
    fun s u x o hrun ho hstage hu hok hrttentry hrttentry2 => ?rangeSlotBegin,
    fun s u x y hrun hstage hlocked hat hrttentry => ?rangeStep1,
    fun s x y hrun hstage htonat => ?rangeStep2,
    fun s u v x y hrun hstage habortat hskiptones hn hlocked hloopback hk htonat hk2 hv => ?rangeStep3,
    fun s x hrun hmode htrig => ?rangeTimeout,
    fun s x o t hrun ho hstage hk habortat => ?rangeDone,
    fun s m haddr hzonefree => ?zoneCmdStart,
    fun s u x t hsolve hu => ?zoneSolved,
    fun s u x b t hu hpend hwritten => ?zoneMapLoaded1,
    fun s u x b t hu hpend hwritten => ?zoneMapLoaded2,
    fun s u x b hpend hwritten hlfquiet hsolve hu => ?mapSwitch⟩
  case rangeCmdGo =>
    exact ⟨perform_eq (onBus_reaches _ haddr), perform_eq (onBus_reaches _ haddr)⟩
  case rangeOriginFixed =>
    refine perform_eq ?_
    have horigin : (if x.mode = 0 then some (s.time.now + s.time.ticksToRef x.org, x.org)
        else x.trig.map fun n => (n + Config.usTicks * (200 + x.delay),
          s.refAhead (n + Config.usTicks * (200 + x.delay) - s.time.now))) =
        some (o, r) := by simp [hmode, htrig, ← ho2, ← hr]
    have hfree : s.exclusiveOver resRadio f (Config.usTicks * (100 + RangeRun.lenUs { x with o := some (o, r) })) = false := by
      rw [← hexclusiveov, hd]
      rfl
    simp only [rangeOriginFixed, hrun, ho, Option.isSome_none, Bool.false_eq_true, if_false, horigin, hfreeslot, ← hf, hfree]
    rw [hd]
    rfl
  case rangeSlotBegin =>
    subst hu
    exact perform_eq (by simp [rangeSlotBegin, hrun, ho, hstage, hok, hrttentry, Nat.not_lt.mpr hrttentry2])
  case rangeStep1 =>
    refine perform_eq ?_
    have htime : (!y.locked || decide (x.at_ 20 < s.utx.freeAt)) = false := by simpa [hlocked] using hat
    simp only [rangeStep, hrun, hstage, htime, hrttentry, Bool.false_eq_true, if_false]
    rfl
  case rangeStep2 =>
    exact perform_eq (by simp [rangeStep, hrun, hstage, htonat])
  case rangeStep3 =>
    refine perform_eq ?_
    have hmore : (x.skipTones || decide (x.n ≤ x.k)) = false := by simpa [hskiptones] using hn
    have htime : (!y.locked || decide (x.at_ (500 + 95 * x.k) < s.utx.freeAt)) = false := by simpa [hlocked] using hk
    simp only [rangeStep, hrun, hstage, habortat, hmore, htime, htonat, hloopback, hk2, ← hv, Bool.true_and, decide_true,
      Bool.false_eq_true, if_true, if_false]
  case rangeTimeout =>
    exact perform_eq (by simp [rangeTimeout, hrun, hmode, htrig])
  case rangeDone =>
    refine perform_eq ?_
    simp only [rangeDone, State.rangeDone, hrun, ho, hstage, hk, habortat, Option.isNone_some, ne_eq, not_true_eq_false,
      decide_false, decide_true, Bool.or_true, Bool.not_true, Bool.or_false, Bool.false_eq_true, if_false, Option.isSome_none]
  case zoneCmdStart =>
    refine perform_eq ?_
    rw [zoneCmdStart, onBus_reaches _ haddr]
    simp [hzonefree]
  case zoneSolved =>
    subst hu
    exact perform_eq (by simp [zoneSolved, hsolve])
  case zoneMapLoaded1 =>
    refine perform_eq ?_
    have hwriting : u.mapWriting = true := by simp [State.mapWriting, hpend, hwritten]
    simp only [zoneMapLoaded, ← hu, hwriting, hpend, if_true]
    rfl
  case zoneMapLoaded2 =>
    refine perform_eq ?_
    have hwriting : u.mapWriting = true := by simp [State.mapWriting, hpend, hwritten]
    simp only [zoneMapLoaded, ← hu, hwriting, hpend, if_true]
    rfl
  case mapSwitch =>
    subst hu
    simp only [State.mapSwitch, hpend, hwritten, hlfquiet, hsolve]
    rfl

end Sys2Proof.Machine

/-!
PROOF. The rows and host commands of CRED, AUTH, REL, of the AES engines, the counters and the generator complete as stated.
-/
namespace Sys2Proof.Machine

/-- Settles O36: a host command whose checks pass comes to its own effect (`hostCmd_comes`). -/
theorem credCommandsComplete : Obligations.CredCommandsComplete := by
  unfold Obligations.CredCommandsComplete
  refine ⟨fun s t u m p r i c h hchk hcredoff hp htake hu hr => ?credAdd1,
    fun s t u m p i c h hchk hcredoff htake htakerow => ?credAdd2,
    fun s t m p row i fl c h hlen hcredoff hdirfind hrow hfl => ?credQuery1,
    fun s t m p row f fl c h hlen hcredoff hdirfind hpopentry hrow hfl => ?credQuery2,
    fun s t u m p c h hp hlen hpopparamok hcredoff hpop hbuild hflashok hu => ?credPopLoad1,
    fun s t m p c h hp hchk hcredoff hpop hbuild => ?credPopLoad2,
    fun s t m p c h hp hlen hpopparamok hcredoff hpop hbuild => ?credPopLoad3,
    fun s t u m p c h hp hchk hcredoff hpop hpopchange => ?credPopLoad4,
    fun s t m p c h hlen hp hp2 hcredoff hp3 hepoch => ?credRevokeEpoch⟩
  case credAdd1 =>
    refine perform_eq ?_
    rw [credAdd, hostCmdLater_comes h hchk]
    cases hunwrap : (t.unwrapRow (p.drop 4)).isNone <;>
      simp only [hcredoff, hp, htake, ← hu, ← hr, Nat.one_ne_zero, decide_false, Bool.and_false, Bool.or_false, Bool.false_eq_true,
        if_false, if_true]
  case credAdd2 =>
    refine perform_eq ?_
    rw [credAdd, hostCmdLater_comes h hchk]
    cases hunwrap : (t.unwrapRow (p.drop 4)).isNone <;>
      simp only [hcredoff, htake, htakerow, Option.isSome_none, Bool.false_and, Bool.or_false, Bool.false_eq_true, if_false,
        if_true]
  case credQuery1 =>
    subst hrow hfl
    refine perform_eq ?_
    rw [credQuery, hostCmd_comes h (by simp [firstFail, lenIs, hlen])]
    simp only [hcredoff, hdirfind, Bool.false_eq_true, if_false]
    rfl
  case credQuery2 =>
    subst hrow hfl
    refine perform_eq ?_
    rw [credQuery, hostCmd_comes h (by simp [firstFail, lenIs, hlen])]
    simp only [hcredoff, hdirfind, hpopentry, Bool.true_and, Bool.false_eq_true, if_false, beq_self_eq_true]
    rfl
  case credPopLoad1 =>
    refine perform_eq ?_
    have hpoplen : popLenOk p = true := by simp [popLenOk, hp, hlen]
    rw [credPopLoad, hostCmdLater_comes h (by simp [firstFail, paramOk, hp, hlen, hpoplen, hpopparamok])]
    simp [hcredoff, hpop, hp, State.popBuild, hbuild, hflashok, hu]
  case credPopLoad2 =>
    refine perform_eq ?_
    rw [credPopLoad, hostCmdLater_comes h hchk]
    simp [hcredoff, hpop, hp, State.popBuild, hbuild]
  case credPopLoad3 =>
    refine perform_eq ?_
    have hpoplen : popLenOk p = true := by simp [popLenOk, hp, hlen]
    rw [credPopLoad, hostCmdLater_comes h (by simp [firstFail, paramOk, hp, hlen, hpoplen, hpopparamok])]
    simp [hcredoff, hpop, hp, State.popBuild, hbuild]
  case credPopLoad4 =>
    refine perform_eq ?_
    rw [credPopLoad, hostCmdLater_comes h hchk]
    simp [hcredoff, hpop, show ¬ u8 p 0 < 3 by omega, hpopchange]
  case credRevokeEpoch =>
    refine perform_eq ?_
    rw [credRevokeEpoch, hostCmdLater_comes h (by simp [firstFail, lenIs, paramOk, hlen, hp, hp2])]
    simp [hcredoff, hepoch, show ¬ u16 p 2 ≤ t.epochOf (u8 p 0) by omega]

/-- Settles O37: a host command whose checks pass comes to its own effect; the lock-out forms split on what stands locked. -/
theorem authCommandsComplete : Obligations.AuthCommandsComplete := by
  unfold Obligations.AuthCommandsComplete
  refine ⟨fun s t m p pats c h hpats hchk hatt hgloballocke hauthunits => ?authStart,
    fun s t m p r c h hlen hrole hatt hp hhead => ?authResult1,
    fun s t m p r c h hlen hrole hatt hp hp2 => ?authResult2,
    fun s t m c g h hrole hg => ?authLockoutStatus1,
    fun s t m p c r g h hlen hrole hlockrow hg => ?authLockoutStatus2,
    fun s t m p c r h hlen hp hzeroat hrole hdrop => ?authLockoutClear1,
    fun s t m p c h hlen hp hzeroat hrole => ?authLockoutClear2,
    fun s t m p c h hlen hp hzeroat hrole => ?authLockoutClear3⟩
  case authStart =>
    subst hpats
    refine perform_eq ?_
    rw [authStart, hostCmd_comes h hchk]
    simp [hatt, hgloballocke, hauthunits]
  case authResult1 =>
    refine perform_eq ?_
    rw [authResult, hostCmd_comes h (by simp [firstFail, lenIs, hlen])]
    simp [hrole, hatt, hp, hhead]
  case authResult2 =>
    refine perform_eq ?_
    rw [authResult, hostCmd_comes h (by simp [firstFail, lenIs, hlen])]
    simp [hrole, hatt, hp, hp2]
  case authLockoutStatus1 =>
    subst hg
    refine perform_eq ?_
    rw [authLockoutStatus, hostCmd_comes h rfl]
    simp only [hrole, ne_eq, not_true_eq_false, if_false]
    cases t.cred.lockedUntil <;> rfl
  case authLockoutStatus2 =>
    subst hg
    refine perform_eq ?_
    have hid : p.isEmpty = false := by cases p <;> simp_all
    rw [authLockoutStatus, hostCmd_comes h (by simp [firstFail, hlen])]
    simp only [hrole, hid, hlockrow, ne_eq, not_true_eq_false, if_false, Bool.false_eq_true]
    cases t.cred.lockedUntil <;> cases r.until_ <;> rfl
  case authLockoutClear1 =>
    refine perform_eq ?_
    rw [authLockoutClear, hostCmd_comes h (by simp [firstFail, lenIs, paramOk, hlen, hp, hzeroat])]
    simp [hrole, hp, hdrop, State.ok]
  case authLockoutClear2 =>
    refine perform_eq ?_
    rw [authLockoutClear, hostCmd_comes h (by simp [firstFail, lenIs, paramOk, hlen, hp, hzeroat])]
    simp [hrole, hp, State.ok]
  case authLockoutClear3 =>
    refine perform_eq ?_
    rw [authLockoutClear, hostCmd_comes h (by simp [firstFail, lenIs, paramOk, hlen, hp, hzeroat])]
    simp [hrole, hp, State.ok]

/-- Settles O38: each row is its own branch on the lookup, the population or the attempt that the hypotheses name. -/
theorem credAuthRowsComplete : Obligations.CredAuthRowsComplete := by
  unfold Obligations.CredAuthRowsComplete
  refine ⟨fun s m v haddr => ?credLkGo,
    fun s u v x l r ns flash t hu hlooks hawake hpopwaits htonat => ?lookupDone,
    fun s u t hu hmaploading hawake hflashok => ?revmapLoaded,
    fun s u t hu hbuild hawake => ?buildEraseDone,
    fun s u h n t hu hbuild hawake hheader hverifybank => ?buildCommitDone,
    fun s t hlocks => ?credLockExpiry,
    fun s t hlockeduntil => ?globalLockExpiry,
    fun s u w l t hu hrows hawake hkind => ?directoryRowWritten,
    fun s a hatt hstage hchans hanswers => ?answerWindowEnd,
    fun s a hatt hstage hxch => ?keyProofTimeout⟩
  case credLkGo =>
    exact perform_eq (onBus_reaches _ haddr)
  case lookupDone =>
    exact perform_eq (by simp [lookupDone, hlooks, hawake, hpopwaits, htonat, ← hu])
  case revmapLoaded =>
    have hload : (!u.cred.mapLoading || !u.awake || !u.hif.flashOk) = false := by simp [hmaploading, hawake, hflashok]
    exact ⟨perform_eq (by simp only [revmapLoaded, ← hu, hload, Bool.false_eq_true, if_false, Bool.not_true]),
      perform_eq (by simp only [revmapLoaded, ← hu, hload, Bool.false_eq_true, if_false, if_true, Bool.not_false])⟩
  case buildEraseDone =>
    exact perform_eq (by simp [buildEraseDone, hbuild, hawake, ← hu])
  case buildCommitDone =>
    exact perform_eq (by simp [buildCommitDone, hbuild, hawake, hheader, hverifybank, ← hu])
  case credLockExpiry =>
    exact perform_eq (by simp [credLockExpiry, hlocks])
  case globalLockExpiry =>
    exact perform_eq (by simp [globalLockExpiry, hlockeduntil])
  case directoryRowWritten =>
    exact perform_eq (by simp [directoryRowWritten, hrows, hawake, hkind, ← hu])
  case answerWindowEnd =>
    exact perform_eq (by simp [answerWindowEnd, hatt, hstage, hchans, hanswers])
  case keyProofTimeout =>
    exact perform_eq (by simp [keyProofTimeout, hatt, hstage, hxch])

/-- Settles O39: a host command whose checks pass comes to its own effect (`hostCmd_comes`). -/
theorem relCommandsComplete : Obligations.RelCommandsComplete := by
  unfold Obligations.RelCommandsComplete
  refine ⟨fun s t u v m p cfg pol fb q c h hchk hcfg hpol hfb hflag hq hu hv => ?relConfig,
    fun s t u m p c h hlen hp hp2 hp3 hrole htest hcfgdefaults hu => ?relArm,
    fun s t m c h hsess => ?relStatus1,
    fun s t m c h hsess => ?relStatus2,
    fun s t m p c h hlen hp hp2 hp3 hp4 hp5 hp6 hp7 hzeroat => ?ewakeConfig1,
    fun s t m p c h hlen hp hzeroat hp2 => ?ewakeConfig2,
    fun s t u m p ls c h hlen hp hp2 hzeroat hu64 hls hewactive hflag hu => ?ewakeConfig3,
    fun s t u m p w c h hlen hp hp2 hp3 hp4 hzeroat hp5 hflag hw hu => ?telltaleConfig⟩
  case relConfig =>
    subst hcfg hpol hfb hq hu hv
    refine perform_eq ?_
    rw [relConfig, hostCmd_comes h hchk]
    simp [hflag]
  case relArm =>
    subst hu
    refine perform_eq ?_
    rw [relArm, hostCmd_comes h (by simp [firstFail, lenIs, paramOk, hlen, hp, hp2, hp3])]
    simp [hrole, htest, hcfgdefaults]
  case relStatus1 =>
    refine perform_eq ?_
    rw [relStatus, hostCmd_comes h (by simp [firstFail, lenIs])]
    simp [hsess]
  case relStatus2 =>
    refine perform_eq ?_
    rw [relStatus, hostCmd_comes h (by simp [firstFail, lenIs])]
    simp [hsess]
  case ewakeConfig1 =>
    refine perform_eq ?_
    rw [ewakeConfig, hostCmd_comes h (by simp [firstFail, lenIs, paramOk, hlen, hp, hp2, hp3, hp4, hp5, hp6, hp7, hzeroat])]
    simp [State.ok, hp]
  case ewakeConfig2 =>
    refine perform_eq ?_
    rw [ewakeConfig, hostCmd_comes h (by simp [firstFail, lenIs, paramOk, hlen, hp, hzeroat, hp2])]
    simp [State.ok, hp]
  case ewakeConfig3 =>
    subst hls hu
    refine perform_eq ?_
    rw [ewakeConfig, hostCmd_comes h (by simp [firstFail, lenIs, paramOk, hlen, hp, hp2, hzeroat, hu64])]
    simp [hp, hu64, hewactive, hflag]
  case telltaleConfig =>
    subst hw hu
    refine perform_eq ?_
    rw [telltaleConfig, hostCmd_comes h (by simp [firstFail, lenIs, paramOk, hlen, hp, hp2, hp3, hp4, hzeroat, hp5])]
    simp [hflag]

/-- A write of REL_CMD.OPEN that reaches the block asks for a session. -/
theorem relCmdOpen_reaches {s : State} {m : Master} (h : s.reaches m REL_CMD.addr = true) : relCmdOpen m s = s.relOpenCmd := by
  have haccess := h
  simp only [State.reaches, Bool.and_eq_true, Bool.not_eq_true', beq_iff_eq] at haccess
  simp [relCmdOpen, haccess.2, onBus_reaches _ h]

/-- Settles O40: the opening of a session is a bus write that reaches REL, its end takes the cause of `relEndCause_open`; the
other rows are their own branches on the pair. -/
theorem relRowsComplete : Obligations.RelRowsComplete := by
  unfold Obligations.RelRowsComplete
  refine ⟨fun s u m v haddr hsess hopenchecks hcnttake hsess2 => ?relCmdOpen1,
    fun s u m v haddr hsess hopenchecks hcnttake hsess2 => ?relCmdOpen2,
    fun s m haddr hsess => ?relCmdEnd,
    fun s hsess ha hfbb => ?openingGap,
    fun s hsess => ?closingGap,
    fun s u high t hu hsess hfbb => ?startFbChange1,
    fun s u high t hu hsess hfba => ?startFbChange2,
    fun s u t hu hsess ha hfba => ?startFbChange3,
    fun s hfbbad hoff hasleep => ?readbackFault1,
    fun s hfbbad hoff hasleep => ?readbackFault2,
    fun s u hsess hu => ?sessionTimeout,
    fun s t harmuntil => ?armExpiry⟩
  case relCmdOpen1 =>
    refine perform_eq ?_
    rw [relCmdOpen_reaches haddr]
    simp [State.relOpenCmd, State.relTryOpen, hsess, hopenchecks, hcnttake, hsess2]
  case relCmdOpen2 =>
    refine perform_eq ?_
    rw [relCmdOpen_reaches haddr]
    simp [State.relOpenCmd, State.relTryOpen, hsess, hopenchecks, hcnttake, hsess2]
  case relCmdEnd =>
    exact perform_eq ((onBus_reaches _ haddr).trans (relEndCause_open hsess))
  case openingGap =>
    exact perform_eq (by simp [openingGap, hsess, ha, hfbb])
  case closingGap =>
    exact perform_eq (by simp [closingGap, hsess])
  case startFbChange1 =>
    refine perform_eq ?_
    simp only [startFbChange, ← hu, State.modRel, if_true, if_neg hfbb]
    exact if_pos hsess
  case startFbChange2 =>
    refine perform_eq ?_
    simp only [startFbChange, ← hu, State.modRel, Bool.false_eq_true, if_false, if_neg hfba]
    exact if_pos hsess
  case startFbChange3 =>
    refine perform_eq ?_
    simp only [startFbChange, ← hu, State.modRel, Bool.false_eq_true, if_false, if_neg (show ¬ u.rel.fbA = true by simp [hfba])]
    rw [if_neg (Decidable.not_not.mpr hsess), if_pos (by simp [ha])]
  case readbackFault1 =>
    exact perform_eq (by simp [readbackFault, hfbbad, hoff, hasleep])
  case readbackFault2 =>
    exact perform_eq (by simp [readbackFault, hfbbad, hoff, hasleep])
  case sessionTimeout =>
    refine perform_eq ?_
    have hopen : u.rel.sess = 2 := by rw [hu]; simpa using hsess
    rw [sessionTimeout, if_neg (Decidable.not_not.mpr hsess), ← hu]
    exact relEndCause_open hopen
  case armExpiry =>
    exact perform_eq (by simp [armExpiry, harmuntil])

/-- Settles O41: each row is its own branch on the line, the hold or the tell-tale's phase that the hypotheses name. -/
theorem doorEwakeTelltaleRowsComplete : Obligations.DoorEwakeTelltaleRowsComplete := by
  unfold Obligations.DoorEwakeTelltaleRowsComplete
  refine ⟨fun s u v i high t hu hv hbit => ?doorInEdge1,
    fun s u v i high t hu hv hbit => ?doorInEdge2,
    fun s u i e hval hu => ?doorQualified,
    fun s l t => ?relEwakeRb,
    fun s l t hoff hon hslot hawake hewactive => ?ewakeDeassert,
    fun s t huniton hp0 hpat hpat2 => ?ttPhase1,
    fun s u t huniton hp0 hpat hpat2 hu => ?ttPhase2,
    fun s u t hp4 hpat hu => ?ttPhase3,
    fun s u v x t hmeasured huniton hawake hflag hat hon hfresh hresoff htonat hu hv => ?ttMeasure,
    fun s u huniton hawake hflag hu => ?ttSummary⟩
  case doorInEdge1 =>
    subst hu hv
    exact perform_eq (by simp [doorInEdge, hbit])
  case doorInEdge2 =>
    subst hu hv
    exact perform_eq (by simp [doorInEdge, hbit])
  case doorQualified =>
    subst hu
    exact perform_eq (by simp [doorQualified, hval])
  case relEwakeRb =>
    exact perform_eq (by simp [relEwakeRb])
  case ewakeDeassert =>
    exact perform_eq (by simp [ewakeDeassert, hoff, hon, hslot, hawake, hewactive])
  case ttPhase1 =>
    exact perform_eq (by simp [ttPhase, huniton, hp0, hpat, hpat2])
  case ttPhase2 =>
    refine perform_eq ?_
    have hpat3 : ¬ s.rel.tt.pat < 2 := by omega
    have hholds : (s.pwr.st == .p3 || s.pwr.st == .p4) = false := by rw [hp0]; rfl
    simp only [ttPhase, hholds, huniton, hpat3, hpat2, ← hu, Bool.true_or, Bool.not_true, Bool.false_eq_true, if_false, ne_eq,
      not_true_eq_false]
  case ttPhase3 =>
    refine perform_eq ?_
    have hpat3 : ¬ s.rel.tt.pat < 2 := by omega
    have hholds : (s.pwr.st == .p3 || s.pwr.st == .p4) = true := by rcases hp4 with h | h <;> rw [h] <;> rfl
    simp only [ttPhase, hholds, hpat3, ← hu, Bool.or_true, Bool.not_true, Bool.false_eq_true, if_true, if_false, ne_eq,
      not_true_eq_false]
  case ttMeasure =>
    refine perform_eq ?_
    have hres : u.ttResult s.rel.tt.on x.toNat = 0 := by simp [State.ttResult, hon, show ¬ 10 ≤ x.toNat by omega]
    have hgo : (s.rel.tt.measured || !s.unitOn 10 || !s.awake || !s.flag REL_TT_CFG_TT_EN
        || !within (s.rel.tt.at_ + Config.msTicks / 2) (Config.msTicks + s.rel.tt.at_) t) = false := by
      simp [hmeasured, huniton, hawake, hflag, hat]
    simp only [ttMeasure, hgo, ← hu, hres]
    simp only [hon, hfresh, hresoff, ttFault, Bool.false_eq_true, if_false, Bool.false_and, ne_eq, not_true_eq_false,
      decide_false, ← hv]
  case ttSummary =>
    subst hu
    exact perform_eq (by simp [ttSummary, huniton, hawake, hflag])

/-- Settles O42: a host command whose checks pass comes to its own effect (`hostCmd_comes`). -/
theorem aesCntRngCommandsComplete : Obligations.AesCntRngCommandsComplete := by
  unfold Obligations.AesCntRngCommandsComplete
  refine ⟨fun s t u v m p outs k c h hp hlen hp2 hp3 hp4 hp5 hzeroat hzeroat2 huniton hp6 husage husers houts hu hv hp7 =>
      ?aesBlock1,
    fun s t u v m p key outs c h hp hlen hp2 hp3 hp4 hp5 hzeroat hp6 huniton hm hkey houts hu hv => ?aesBlock2,
    fun s t u v m p st n c h hn hchk huniton hrole hmrd hmrdwait hp hunwrapend => ?keyUnwrap,
    fun s t m p c h hlen hm1 => ?keySlotClear,
    fun s t u m p c h hlen hp hzeroat hp2 => ?cntIncrement,
    fun s t m p c h hlen hp => ?cntRead1,
    fun s t m p c h hlen hp => ?cntRead2,
    fun s t m p c h hlen hp huniton hon hreduced hrnghalted => ?rngRead,
    fun s t m p c h hlen hp hzeroat huniton hreduced => ?rngSelftest1,
    fun s t m p x c h hlen hp hzeroat huniton hreduced hrun hatt => ?rngSelftest2⟩
  case aesBlock1 =>
    refine perform_eq ?_
    have hmay : slotErr (some k) m false = 0 := by simp [slotErr, husage, husers]
    rw [aesBlock, hostCmd_comes h (by simp [firstFail, paramOk, hp, hlen, hp2, hp3, hp4, hp5, hzeroat, hzeroat2])]
    simp only [huniton, hp2, hp3, hp6, hp7, Nat.zero_ne_one, decide_false, Bool.false_eq_true, if_false, Bool.false_or, hmay, ne_eq,
      not_true_eq_false, Bool.not_true, ← houts, ← hu, ← hv]
  case aesBlock2 =>
    subst hm hkey houts hu hv
    refine perform_eq ?_
    rw [aesBlock, hostCmd_comes h (by simp [firstFail, paramOk, hp, hlen, hp2, hp3, hp4, hp5, hzeroat, hp6])]
    simp [hlen, hp2, hp3, hp4, huniton]
  case keyUnwrap =>
    subst hn
    refine perform_eq ?_
    have hturn : t.mrdYield.mrdNext.mrdYield = t := by simp [State.mrdYield, State.mrdNext, hmrd, hmrdwait]
    rw [keyUnwrap, hostCmd_comes h hchk]
    simp only [huniton, hrole, hturn, hp, hunwrapend, ne_eq, not_true_eq_false, decide_false, Bool.false_and, Bool.not_true,
      Bool.or_false, Bool.false_eq_true, if_false]
    cases v.slot (u8 p 0) <;> rfl
  case keySlotClear =>
    refine perform_eq ?_
    rw [keySlotClear, hostCmd_comes h (by simp [firstFail, lenIs, hlen])]
    simp [hm1]
  case cntIncrement =>
    refine perform_eq ?_
    rw [cntIncrement, hostCmdLater_comes h (by simp [firstFail, lenIs, paramOk, hlen, hp, hzeroat])]
    simp [hp2]
  case cntRead1 =>
    refine perform_eq ?_
    rw [cntRead, hostCmd_comes h (by simp [firstFail, lenIs, paramOk, hlen, hp])]
    simp [show u8 p 0 ≠ 255 by omega]
  case cntRead2 =>
    refine perform_eq ?_
    rw [cntRead, hostCmd_comes h (by simp [firstFail, lenIs, paramOk, hlen, hp])]
    simp [hp]
  case rngRead =>
    refine perform_eq ?_
    rw [rngRead, hostCmdLater_comes h (by simp [firstFail, lenIs, paramOk, hlen, hp])]
    simp [hon, hreduced, hrnghalted]
  case rngSelftest1 =>
    have hchk : firstFail [lenIs p 4, paramOk (u8 p 0 < 2 && zeroAt p 1 3)] = none := by
      simp [firstFail, lenIs, paramOk, hlen, hp, hzeroat]
    refine ⟨perform_eq ?_, perform_eq ?_⟩ <;> rw [rngSelftest, hostCmd_comes h hchk] <;> simp [huniton, hreduced, hp]
  case rngSelftest2 =>
    refine perform_eq ?_
    rw [rngSelftest, hostCmd_comes h (by simp [firstFail, lenIs, paramOk, hlen, hp, hzeroat])]
    simp [State.ends, hp, huniton, hreduced, hrun, hatt]

/-- Settles O43: each row is its own branch on the engine, the counter's record or the generator that the hypotheses name. -/
theorem aesCntRngRowsComplete : Obligations.AesCntRngRowsComplete := by
  unfold Obligations.AesCntRngRowsComplete
  refine ⟨fun s m e haddr => ?aesGo,
    fun s u e b t hrun hu => ?aesBlockDone,
    fun s m haddr => ?mrdGo,
    fun s u x t hu hmrd => ?unwrapDone,
    fun s m n haddr => ?cntInc,
    fun s u r v t hcntrecord hsrc hsrc2 => ?counterRecordWritten,
    fun s u v n c t hu hawake hceildue hc hv => ?ceilingWrite1,
    fun s u v n c t hu hawake hceildue hc hv hval => ?ceilingWrite2,
    fun s u n h t hu hgetd hawake => ?counterHalfErased,
    fun s u t hu hcntloaded hawake hfenced => ?cntLoaded,
    fun s u v w t huniton hawake hreduced hget hu hv hw => ?rngReady,
    fun s x t huniton hawake hrnghalted => ?trngHealthFailure,
    fun s u v hrngready hget hu hv => ?reseedDone,
    fun s u v r b hrngready hget hreqs hleft hdrbgdraw hv hget2 => ?rngRequestServed1,
    fun s u v r b hrngready hget hreqs hleft hleft2 hv hget2 => ?rngRequestServed2,
    fun s u m w l haddr hfifo hu => ?trngFifoRead⟩
  case aesGo =>
    exact ⟨perform_eq (onBus_reaches _ haddr), perform_eq (onBus_reaches _ haddr)⟩
  case aesBlockDone =>
    subst hu
    exact perform_eq (by simp only [aesBlockDone, State.blockDone, hrun])
  case mrdGo =>
    exact perform_eq (onBus_reaches _ haddr)
  case unwrapDone =>
    exact perform_eq (by simp [unwrapDone, hmrd, ← hu])
  case cntInc =>
    exact perform_eq (onBus_reaches _ haddr)
  case counterRecordWritten =>
    exact perform_eq (by simp [counterRecordWritten, hcntrecord, hsrc, hsrc2])
  case ceilingWrite1 =>
    subst hc
    refine perform_eq ?_
    simp only [ceilingWrite, State.ceilingWritten, ← hu, ← hv, hawake, hceildue, Bool.not_true, Bool.or_false, Bool.false_and,
      Bool.false_eq_true, if_false]
  case ceilingWrite2 =>
    subst hc
    refine perform_eq ?_
    simp only [ceilingWrite, State.ceilingWritten, ← hu, ← hv, hawake, hceildue, hval, Bool.not_true, Bool.not_false,
      Bool.or_false, decide_false, Bool.and_false, Bool.false_and, Bool.false_eq_true, if_false, if_true]
  case counterHalfErased =>
    exact perform_eq (by simp only [counterHalfErased, hgetd, hawake, ← hu, Bool.not_true, Bool.false_eq_true, if_false])
  case cntLoaded =>
    refine perform_eq ?_
    simp only [cntLoaded, State.cntLoadAll, ← hu, hcntloaded, hawake, hfenced, Bool.not_true, Bool.or_false, Bool.false_eq_true,
      if_false]
  case rngReady =>
    refine perform_eq ?_
    have hcause : (u.pairFigures none).rng.cause = (s.advance t).rng.cause := by
      rw [hu]
      rfl
    have hgo : (!s.unitOn 12 || !s.awake || s.pwr.reduced || s.get TRNG_STATUS_GEN != genGathering) = false := by
      simp [huniton, hawake, hreduced, hget]
    simp only [rngReady, hgo, Bool.false_eq_true, if_false, ← hu, hcause, ← hv, ← hw]
  case trngHealthFailure =>
    exact perform_eq (by simp [trngHealthFailure, huniton, hawake, hrnghalted])
  case reseedDone =>
    subst hu hv
    exact perform_eq (by simp [reseedDone, hrngready, hget])
  case rngRequestServed1 =>
    refine perform_eq ?_
    have hmin : min 64 r.left = 64 := by omega
    have hmore : r.left - 64 ≠ 0 := by omega
    have hneed : ¬ 4096 ≤ v.get TRNG_REQS := by omega
    simp only [rngRequestServed, hrngready, hget, hreqs, hmin, hdrbgdraw, ← hv, hmore, hneed, bne_self_eq_false, Bool.not_true,
      Bool.or_false, Bool.false_eq_true, if_false]
  case rngRequestServed2 =>
    refine perform_eq ?_
    have hmin : min 64 r.left = r.left := by omega
    have hneed : ¬ 4096 ≤ v.get TRNG_REQS := by omega
    simp only [rngRequestServed, hrngready, hget, hreqs, hmin, hleft2, ← hv, hneed, Nat.sub_self, bne_self_eq_false,
      Bool.not_true, Bool.or_false, Bool.false_eq_true, if_false, if_true]
  case trngFifoRead =>
    subst hu
    refine perform_eq ?_
    rw [trngFifoRead, onRead_readable _ _ haddr]
    simp [State.fifoRead, hfifo, State.readBack]

end Sys2Proof.Machine

/-!
PROOF. The rows and host commands of HFR, the vault, the queues and the host interfaces complete as stated.
-/
namespace Sys2Proof.Machine

/-- Settles O44: a host command whose checks pass comes to its own effect (`hostCmd_comes`). -/
theorem hfrCommandsComplete : Obligations.HfrCommandsComplete := by
  unfold Obligations.HfrCommandsComplete
  refine ⟨fun s t u v m p q c h hchk hflag hq hu hv => ?hfrConfig,
    fun s t u m p cfg thr c h hcfg hthr hchk hu hpingen => ?hfrPingConfig1,
    fun s t u m p cfg thr c h hcfg hthr hchk hu hpingen => ?hfrPingConfig2,
    fun s t u m p c h hchk hp => ?hfrActivate,
    fun s t m p x e c h hlen hp hp2 hp3 hp4 hflow hexch hpadheld hp5 htarget hp6 hp7 he => ?hfrExchange,
    fun s t u m p q c h hlen hp hp2 hzeroat hfield hu => ?hfrFieldOff⟩
  case hfrConfig =>
    subst hq hu hv
    refine perform_eq ?_
    rw [hfrConfig, hostCmd_comes h hchk]
    simp [hflag]
  case hfrPingConfig1 =>
    subst hcfg hthr hu
    refine perform_eq ?_
    rw [hfrPingConfig, hostCmd_comes h hchk]
    simp [State.ok, hpingen]
  case hfrPingConfig2 =>
    subst hcfg hthr hu
    refine perform_eq ?_
    rw [hfrPingConfig, hostCmd_comes h hchk]
    simp [State.ok, hpingen]
  case hfrActivate =>
    refine perform_eq ?_
    rw [hfrActivate, hostCmd_comes h hchk]
    simp [hp]
  case hfrExchange =>
    refine perform_eq ?_
    have htarget2 : (t.hfr.target.any fun x => x.1 == u8 p 0 && (decide (u8 p 1 = 0) || x.2)) = true := by
      simp [htarget, hp6, hp7]
    rw [hfrExchange, hostCmdLater_comes h (by simp [firstFail, lenIs, paramOk, hlen, hp, hp2, hp3, hp4])]
    simp only [hflow, hexch, hpadheld, hp5, htarget2, Option.isSome_none, Bool.false_eq_true, if_false, ne_eq,
      not_true_eq_false, decide_false, Bool.or_false, Bool.not_true, ← he]
  case hfrFieldOff =>
    subst hu
    refine perform_eq ?_
    rw [hfrFieldOff, hostCmd_comes h (by simp [firstFail, lenIs, paramOk, hlen, hp, hp2, hzeroat])]
    simp [State.ok, hfield]

/-- Settles O45: each row is its own branch on the field's activity that the hypotheses name. -/
theorem hfrRowsComplete : Obligations.HfrRowsComplete := by
  unfold Obligations.HfrRowsComplete
  refine ⟨fun s hp2 => ?pingReferenceStart,
    fun s u v port amp phase hp4 hpingen hpend hu hv hpingen2 hfield hfenced hsafestate hforcedmode hgetd => ?hfrPing1,
    fun s u v w port amp phase hp4 hpingen hpend hu hv hpingen2 hfield hfenced hsafestate hforcedmode hw hgetd hflag => ?hfrPing2,
    fun s u a hact hsearching hu => ?extCheckEnd,
    fun s u a multi uid ats sak atq t hact hsearching hport hu hflags => ?hfrActivated,
    fun s a hact hsearching => ?hfrActivateTimeout,
    fun s e b t hexch => ?targetResponse,
    fun s e hexch => ?hfrExchangeTimeout,
    fun s q hfield hflow hact hexch => ?hfrFieldTimeout,
    fun s u port t hu hval => ?hfrOvercurrent,
    fun s u f g b t hflow hstage hu hlength hu8 hg hkey => ?helloReply,
    fun s u f r b d t st hflow hstage hu hlook hlength hu8 hst => ?proofReply1,
    fun s u f b d t hflow hstage hu => ?proofReply2,
    fun s f t hflow hstage => ?tapFdtTimeout,
    fun s f t hflow hstage => ?closeReply⟩
  case pingReferenceStart =>
    exact perform_eq (by simp [pingReferenceStart, hp2])
  case hfrPing1 =>
    refine perform_eq ?_
    have hpend2 : u.hfr.pend = none := by rw [hu]; simpa using hpend
    have hawake : (s.pwr.st == .p4) = false := by simpa using hp4
    simp only [hfrPing, hawake, hpingen, ← hu, hpend2, ← hv, hpingen2, hfield, hfenced, hsafestate, hforcedmode, hgetd,
      Bool.not_true, Bool.or_false, Bool.true_or, Bool.false_eq_true, if_false, if_true, Option.isSome_none]
  case hfrPing2 =>
    refine perform_eq ?_
    have hpend2 : u.hfr.pend = none := by rw [hu]; simpa using hpend
    have hawake : (s.pwr.st == .p4) = false := by simpa using hp4
    simp only [hfrPing, hawake, hpingen, ← hu, hpend2, ← hv, hpingen2, hfield, hfenced, hsafestate, hforcedmode, ← hw, hgetd,
      hflag, Bool.not_true, Bool.or_false, Bool.false_eq_true, if_false, Option.isSome_none]
  case extCheckEnd =>
    subst hu
    exact ⟨perform_eq (by simp [extCheckEnd, hact, hsearching]), perform_eq (by simp [extCheckEnd, hact, hsearching])⟩
  case hfrActivated =>
    subst hu
    exact perform_eq (by simp [hfrActivated, hact, hsearching, hport, hflags])
  case hfrActivateTimeout =>
    exact perform_eq (by simp [hfrActivateTimeout, hact, hsearching])
  case targetResponse =>
    exact ⟨perform_eq (by simp [targetResponse, hexch]), perform_eq (by simp [targetResponse, hexch])⟩
  case hfrExchangeTimeout =>
    exact perform_eq (by simp [hfrExchangeTimeout, hexch])
  case hfrFieldTimeout =>
    exact perform_eq (by simp [hfrFieldTimeout, hfield, hflow, hact, hexch])
  case hfrOvercurrent =>
    exact perform_eq (by simp [hfrOvercurrent, hval, ← hu])
  case helloReply =>
    refine perform_eq ?_
    have hlong : b ≠ [0x02] := by rintro rfl; simp at hlength
    have hshape : ¬ (b.length ≠ 29 || u8 b 0 ≠ 0) = true := by simp [hlength, hu8]
    have hfree : u.lockedOut ((b.drop 1).take 12) = false := by rw [hg] at hkey; exact hkey
    simp only [helloReply, hflow, hstage, ← hu, ne_eq, not_true_eq_false, if_false, hlong]
    rw [if_neg hshape, if_neg (by simp only [hfree, Bool.false_eq_true, not_false_eq_true]), hg]
  case proofReply1 =>
    subst hu hst
    exact perform_eq (by simp [proofReply, hflow, hstage, hlook, hlength, hu8])
  case proofReply2 =>
    subst hu
    exact perform_eq (by simp [proofReply, hflow, hstage])
  case tapFdtTimeout =>
    exact perform_eq (by simp [tapFdtTimeout, hflow, hstage])
  case closeReply =>
    exact perform_eq (by simp [closeReply, hflow, hstage])

/-- Settles O46: a host command whose checks pass comes to its own effect (`hostCmd_comes`). -/
theorem vltCommandsComplete : Obligations.VltCommandsComplete := by
  unfold Obligations.VltCommandsComplete
  refine ⟨fun s t m p c h hchk hvltbars hp => ?vltRead1,
    fun s t u m p x c h hchk hvltbars hp hstream hx hu => ?vltRead2,
    fun s t m p c h hchk hvltbars => ?vltWrite,
    fun s t p c h hlen hvltconfigok hp hvltbars hflag => ?vltConfig1,
    fun s t p x c h hlen hvltconfigok hp hvltbars hx => ?vltConfig2,
    fun s t p c h hlen hvltconfigok hp hvltbars => ?vltConfig3,
    fun s t p c h hlen hvltconfigok hp hvltbars => ?vltConfig4,
    fun s t m c h huniton => ?vltStatus,
    fun s t p c h hlen hp hp2 hp3 hp4 hvltbars => ?vltRelArm⟩
  case vltRead1 =>
    refine perform_eq ?_
    rw [vltRead, hostCmdLater_comes h hchk]
    simp [hvltbars, hp]
  case vltRead2 =>
    refine perform_eq ?_
    have hmany : ¬ u16 p 2 ≤ 4 := by omega
    have hid : x.id = t.vlt.streamId := by rw [hx]
    rw [vltRead, hostCmdLater_comes h hchk]
    simp only [hvltbars, hmany, hstream, ← hx, ← hu, hid, Bool.false_eq_true, if_false, Option.isSome_none]
  case vltWrite =>
    refine perform_eq ?_
    rw [vltWrite, hostCmdLater_comes h hchk]
    simp [hvltbars]
  case vltConfig1 =>
    refine perform_eq ?_
    rw [vltConfig, hostCmdLater_comes h (by simp [firstFail, lenIs, paramOk, vltConfigLen, hlen, hvltconfigok, hp])]
    simp [hp, hvltbars, hflag]
  case vltConfig2 =>
    subst hx
    refine perform_eq ?_
    rw [vltConfig, hostCmdLater_comes h (by simp [firstFail, lenIs, paramOk, vltConfigLen, hlen, hvltconfigok, hp])]
    cases hkey : kwUnwrap ((List.range 16).map Config.vaultKey) (p.drop 4) <;> simp [hp, hvltbars]
  case vltConfig3 =>
    refine perform_eq ?_
    rw [vltConfig, hostCmdLater_comes h (by simp [firstFail, lenIs, paramOk, vltConfigLen, hlen, hvltconfigok, hp])]
    simp [hp, hvltbars]
  case vltConfig4 =>
    refine perform_eq ?_
    rw [vltConfig, hostCmdLater_comes h (by simp [firstFail, lenIs, paramOk, vltConfigLen, hlen, hvltconfigok, hp])]
    simp [hp, hvltbars]
  case vltStatus =>
    refine perform_eq ?_
    rw [vltStatus, hostCmd_comes h (by simp [firstFail, lenIs])]
    simp [huniton]
  case vltRelArm =>
    refine perform_eq ?_
    rw [vltRelArm, hostCmdLater_comes h (by simp [firstFail, lenIs, paramOk, hlen, hp, hp2, hp3, hp4])]
    simp [hvltbars]

/-- Settles O47: each row is its own branch on the wired operation or the page write that the hypotheses name. -/
theorem vaultMemoryRowsComplete : Obligations.VaultMemoryRowsComplete := by
  unfold Obligations.VaultMemoryRowsComplete
  refine ⟨fun s u v i t j hvltopen hready hvaultfree hnextjob hu hjobs => ?wiredOperationGrant,
    fun s i j hvaultfree hhead hjobs => ?vaultBusyTimeout,
    fun s u x b y hstream huniton hawake hstreamitem hqueue => ?vltStreamItem,
    fun s u x hstream hphase hawake hu => ?vltStreamTimeout1,
    fun s u x hstream hphase hphase2 hawake hu => ?vltStreamTimeout2,
    fun s u v w hwrite hstage hu => ?pageWriteCommitted,
    fun s u v w hwrite hstage hu => ?pageWriteCopyDone,
    fun s k hready hwrite hreq hown hjobs hshadowslot => ?retiredSlotErase,
    fun s u hvltopen hfenced hlocked hu => ?lastTimeWrite⟩
  case wiredOperationGrant =>
    subst hu
    exact perform_eq (by simp [wiredOperationGrant, hvltopen, hready, hvaultfree, hnextjob, hjobs])
  case vaultBusyTimeout =>
    exact perform_eq (by simp [vaultBusyTimeout, hvaultfree, hhead, hjobs])
  case vltStreamItem =>
    exact perform_eq (by simp [vltStreamItem, hstream, huniton, hawake, hstreamitem, hqueue])
  case vltStreamTimeout1 =>
    subst hu
    exact perform_eq (by simp [vltStreamTimeout, hstream, hphase, hawake])
  case vltStreamTimeout2 =>
    subst hu
    exact perform_eq (by simp [vltStreamTimeout, hstream, hphase, hphase2, hawake])
  case pageWriteCommitted =>
    subst hu
    exact perform_eq (by simp [pageWriteCommitted, hwrite, hstage])
  case pageWriteCopyDone =>
    subst hu
    exact perform_eq (by simp [pageWriteCopyDone, hwrite, hstage])
  case retiredSlotErase =>
    exact perform_eq (by simp [retiredSlotErase, hready, hwrite, hreq, hown, hjobs, hshadowslot])
  case lastTimeWrite =>
    subst hu
    exact perform_eq (by simp [lastTimeWrite, hvltopen, hfenced, hlocked])

/-- Settles O48: each row is its own branch on the vault's supply that the hypotheses name. -/
theorem vaultSupplyRowsComplete : Obligations.VaultSupplyRowsComplete := by
  unfold Obligations.VaultSupplyRowsComplete
  refine ⟨fun s u v main x t hready hu hv hfieldcheck => ?vaultPowerUp,
    fun s t hpowered hwrite => ?vaultBrownOut,
    fun s t hpowered => ?vaultFieldLoss,
    fun s u x t hpowered hu hfd => ?fdWakeRise1,
    fun s u v x t hpowered hu hfd hfdwake hfield hvddio hv => ?fdWakeRise2,
    fun s t hfdwake => ?fdWakeFall,
    fun s t hreluntil => ?vaultRelPulseEnd,
    fun s t hpowered hrngfail => ?vltRng1,
    fun s u t hpowered hrngfail hu => ?vltRng2⟩
  case vaultPowerUp =>
    subst hu hv
    exact perform_eq (by simp [vaultPowerUp, hready, hfieldcheck])
  case vaultBrownOut =>
    exact perform_eq (by simp [vaultBrownOut, hpowered, hwrite])
  case vaultFieldLoss =>
    exact perform_eq (by simp [vaultFieldLoss, hpowered])
  case fdWakeRise1 =>
    exact perform_eq (by simp [fdWakeRise, hpowered, hfd, ← hu])
  case fdWakeRise2 =>
    refine perform_eq ?_
    have hfd2 : (decide (bitAt u.vlt.logic.fd 8 = 0) || u.vlt.fdWake) = false := by simp [hfd, hfdwake]
    have hlive : (u.modVlt fun y => { y with fdWake := true }).vlt.vddio = true := hvddio
    simp only [fdWakeRise, hpowered, ← hu, hfd2, hfield, hlive, ← hv, Bool.not_true, Bool.false_eq_true, if_false,
      Option.isSome_none]
  case fdWakeFall =>
    exact perform_eq (by simp [fdWakeFall, hfdwake])
  case vaultRelPulseEnd =>
    exact perform_eq (by simp [vaultRelPulseEnd, hreluntil])
  case vltRng1 =>
    exact perform_eq (by simp [vltRng, hpowered, hrngfail])
  case vltRng2 =>
    subst hu
    exact perform_eq (by simp [vltRng, hpowered, hrngfail])

/-- A frame of the field protocol as the vault takes it leaves the answer of the frame before it behind (R406). -/
theorem onFrame_takes {s u : State} {b : List Byte} {first : Nat} {lens : List Nat} {t : Nat} (f : State → State)
    (hready : s.vlt.ready = true) (hlive : s.vlt.live = true) (hgood : frameGood b = true)
    (hu : u = (s.advance t).modVlt fun y => { y with out := [], outSlot := 0, delayed := false })
    (hlen : lens.contains b.length = true) (hfirst : u8 b 0 = first) :
    s.onFrame b true first lens t f = f u := by
  simp only [State.onFrame, hready, hlive, hgood, hlen, hfirst, ← hu, ne_eq, not_true_eq_false, decide_false, Bool.not_true,
    Bool.or_false, Bool.false_eq_true, if_false]

/-- Supplied by the field alone, the vault takes a handle of its own in the anticollision (R408). -/
theorem anticoll_ownHandle {u : State} {b : List Byte} {ps : List Nat} (hproto : ps.contains u.vlt.proto = true)
    (hrng : u.vlt.rngFail = false) (hslots : u8 b 1 ≤ 4) (hid : u32 b 2 = 0) (hpowered : u.vlt.powered = true)
    (hvddio : u.vlt.vddio = false) : u.anticoll b ps = (u.toProto 1).ownHandle (u8 b 1) := by
  have hsupply : ((u.toProto 1).vpwr == 2) = false := by
    have hp : (u.toProto 1).vlt.powered = true := hpowered
    have hv : (u.toProto 1).vlt.vddio = false := hvddio
    rw [State.vpwr, hp, hv]
    rfl
  simp only [State.anticoll, State.inProto, hrng, if_neg (show ¬ 4 < u8 b 1 by omega), if_pos hproto, hsupply, hid, true_or,
    if_true, Bool.false_and, Bool.false_eq_true, if_false]

/-- A secure frame whose body opens under the session's key, with the command and the length `n` it names,
has its effect (R413). -/
theorem onSecure_takes {s u : State} {b x : List Byte} {scmd n t : Nat} (f : State → List Byte → State)
    (hready : s.vlt.ready = true) (hlive : s.vlt.live = true) (hgood : frameGood b = true)
    (hu : u = (s.advance t).modVlt fun y => { y with out := [], outSlot := 0, delayed := false }) (hfirst : u8 b 0 = 0x7E)
    (hlen : [12, 14, 36, 74].contains b.length = true) (hproto : u.vlt.proto = 2) (hsession : u.vlt.session = true)
    (hopen : ccmOpen u.vlt.sk (u.vaultNonce 0 u.vlt.rseq) [0x7E] ((b.drop 1).take (b.length - 3)) 8 = some x)
    (hscmd : u8 x 0 = scmd) (hxlen : x.length = n + 1) :
    s.onSecure b true scmd n t f = f (u.modVlt fun t => { t with rseq := t.rseq + 1 }) (x.drop 1) := by
  have hin : [2].contains u.vlt.proto = true := by simp [hproto]
  rw [State.onSecure, onFrame_takes _ hready hlive hgood hu hlen hfirst, State.inProto, if_pos hin]
  simp only [hsession, hopen, hscmd, hxlen, Bool.not_true, Bool.false_eq_true, if_false, ne_eq, not_true_eq_false]

/-- Settles O49: a frame that the vault takes has its own effect (`onFrame_takes`, `onSecure_takes`). -/
theorem vaultFramesComplete : Obligations.VaultFramesComplete := by
  unfold Obligations.VaultFramesComplete
  refine ⟨fun s u b t hready hlive hframegood hu hlength hu8 hu82 hu32 hrngfail hproto hpowered hvddio => ?vreq,
    fun s u b t hready hlive hframegood hu hlength hu8 hu82 hu32 hrngfail hproto hpowered hvddio => ?vwup,
    fun s u v b nv t hready hlive hframegood hu hlength hu8 hproto hh hfreshbytes => ?vsel,
    fun s u v b sk k t hready hlive hframegood hu hlength hu8 hproto hu82 hv hvaultkey hsk => ?auth1,
    fun s u v b t hready hlive hframegood hu hlength hu8 hproto hauth1 htake hv => ?auth2,
    fun s u b t hready hlive hframegood hu hlength hu8 hproto => ?halt,
    fun s u b x v t hready hlive hframegood hu hu8 hlength hproto hsession htake hu82 hlength2 => ?secureRead,
    fun s u b x v t hready hlive hframegood hu hu8 hlength hproto hsession htake hu82 hlength2 => ?secureWrite,
    fun s u b x v t hready hlive hframegood hu hu8 hlength hproto hsession htake hu82 hlength2 => ?ticket,
    fun s u b x t hready hlive hframegood hu hu8 hlength hproto hsession htake hu82 hlength2 => ?secureEnd,
    fun s u w b x v t hready hlive hframegood hu hu8 hproto hsession htake hlength hu82 hlength2 hw => ?secureStatus⟩
  case vreq =>
    refine perform_eq ?_
    rw [vreq, onFrame_takes _ hready hlive hframegood hu (by simp [hlength]) hu8]
    exact anticoll_ownHandle (by simp [hproto]) hrngfail hu82 hu32 hpowered hvddio
  case vwup =>
    refine perform_eq ?_
    rw [vwup, onFrame_takes _ hready hlive hframegood hu (by simp [hlength]) hu8]
    exact anticoll_ownHandle (by simp [hproto]) hrngfail hu82 hu32 hpowered hvddio
  case vsel =>
    refine perform_eq ?_
    rw [vsel, onFrame_takes _ hready hlive hframegood hu (by simp [hlength]) hu8, State.inProto, if_pos (by simp [hproto]),
      if_neg (Decidable.not_not.mpr hh), hfreshbytes]
  case auth1 =>
    refine perform_eq ?_
    rw [auth1, onFrame_takes _ hready hlive hframegood hu (by simp [hlength]) hu8, State.inProto, if_pos (by simp [hproto])]
    simp only [← hv, hu82, if_true, hvaultkey, ← hsk]
  case auth2 =>
    refine perform_eq ?_
    have hproof : ¬ (!u.vlt.auth1 || decide ((cmac u.vlt.sk ([0x52, 0x50] ++ u.vlt.pv)).take 8 ≠ (b.drop 1).take 8)) = true := by
      rw [hauth1, htake]
      simp
    rw [auth2, onFrame_takes _ hready hlive hframegood hu (by simp [hlength]) hu8, State.inProto, if_pos (by simp [hproto]),
      if_neg hproof, hv]
  case halt =>
    refine perform_eq ?_
    rw [halt, onFrame_takes _ hready hlive hframegood hu (by simp [hlength]) hu8, State.inProto, if_pos (by simpa using hproto)]
  case secureRead =>
    refine perform_eq ?_
    rw [secureRead,
      onSecure_takes _ hready hlive hframegood hu hu8 (by simp [hlength]) hproto hsession
        (by rw [hlength]; exact htake) hu82 hlength2]
  case secureWrite =>
    refine perform_eq ?_
    rw [secureWrite,
      onSecure_takes _ hready hlive hframegood hu hu8 (by simp [hlength]) hproto hsession
        (by rw [hlength]; exact htake) hu82 hlength2]
  case ticket =>
    refine perform_eq ?_
    rw [ticket,
      onSecure_takes _ hready hlive hframegood hu hu8 (by simp [hlength]) hproto hsession
        (by rw [hlength]; exact htake) hu82 hlength2]
  case secureEnd =>
    refine perform_eq ?_
    rw [secureEnd,
      onSecure_takes _ hready hlive hframegood hu hu8 (by simp [hlength]) hproto hsession
        (by rw [hlength]; exact htake) hu82 hlength2]
  case secureStatus =>
    refine perform_eq ?_
    rw [secureStatus,
      onSecure_takes _ hready hlive hframegood hu hu8 (by simp [hlength]) hproto hsession
        (by rw [hlength]; exact htake) hu82 hlength2, ← hw]

/-- Settles O50: a host command whose checks pass comes to its own effect (`hostCmd_comes`). -/
theorem queueCommandsComplete : Obligations.QueueCommandsComplete := by
  unfold Obligations.QueueCommandsComplete
  refine ⟨fun s t u m p x c h hx hchk hp hp2 hp3 hu => ?qConfig,
    fun s t u m p b ecc k c h hlen hp hp2 hp3 hp4 hp5 hp6 => ?qPop,
    fun s t m p l it c h hlen hp hzeroat hp2 hp3 hp4 hp5 => ?qPush,
    fun s t u m p n k o c h hlen hp hzeroat hp2 hp3 hp4 => ?qFlush,
    fun s t m p c h hlen hp hp2 => ?qStatus1,
    fun s t m p c h hlen hp => ?qStatus2,
    fun s t u v w m p q fl c h hq hfl hchk hm0 hflag hu hv hw => ?qWatermark⟩
  case qConfig =>
    subst hx hu
    refine perform_eq ?_
    rw [qConfig, hostCmd_comes h hchk]
    simp [hp, hp2, hp3]
  case qPop =>
    refine perform_eq ?_
    have haccess : t.qAccess m (u8 p 0) 1 = none := by simp [State.qAccess, hp4, hp5]
    rw [qPop, hostCmd_comes h (by simp [firstFail, lenIs, paramOk, hlen, hp, hp2, hp3])]
    simp [haccess, hp6]
  case qPush =>
    refine perform_eq ?_
    have haccess : t.qAccess m (u8 p 0) 0 = none := by simp [State.qAccess, hp2, hp3]
    rw [qPush, hostCmd_comes h (by simp [firstFail, paramOk, hlen, hp, hzeroat])]
    simp [haccess, hp4, hp5, State.ok]
  case qFlush =>
    refine perform_eq ?_
    rw [qFlush, hostCmd_comes h (by simp [firstFail, lenIs, paramOk, hlen, hp, hzeroat])]
    simp [hp2, hp3, hp4]
  case qStatus1 =>
    refine perform_eq ?_
    rw [qStatus, hostCmd_comes h (by simp [firstFail, lenIs, paramOk, hlen, hp, hp2])]
    simp [hp2]
  case qStatus2 =>
    refine perform_eq ?_
    rw [qStatus, hostCmd_comes h (by simp [firstFail, lenIs, paramOk, hlen, hp])]
    simp [hp]
  case qWatermark =>
    subst hq hfl hu hv hw
    refine perform_eq ?_
    rw [qWatermark, hostCmd_comes h hchk]
    simp [hm0, hflag]

/-- Settles O51: a port command that reaches QM is `onBus_reaches`; the ports' own conditions are the hypotheses. -/
theorem queuePortsComplete : Obligations.QueuePortsComplete := by
  unfold Obligations.QueuePortsComplete
  refine ⟨fun s m port v q n k haddr hfenced hitem hq hn hn2 hn3 hqueueright hflag hcells hk hbeginrefuse => ?qmPushBegin,
    fun s m port v o b haddr hitem hb hlen => ?qmPushData1,
    fun s u m port v o b l it haddr hitem hb hlen hu hsrc => ?qmPushData2,
    fun s u m port q it haddr hfenced htonat htonat2 => ?qmPopSel,
    fun s u m port it haddr hu hitem hlength hfailed => ?qmPopData,
    fun s m port haddr => ?qmPopDone,
    fun s u q t n k o hflushqueue => ?qmLink⟩
  case qmPushBegin =>
    refine perform_eq ?_
    rw [qmPushBegin, onBus_reaches _ haddr]
    have hlen : (decide (n = 0) || decide (4096 < n)) = false := by simp [hn2, hn3]
    simp only [pushBegin, hfenced, hitem, ← hq, ← hn, hlen, hqueueright, hflag, hcells, ← hk, hbeginrefuse, Option.isSome_none,
      Bool.not_true, Bool.false_eq_true, if_false]
  case qmPushData1 =>
    refine perform_eq ?_
    rw [qmPushData, onBus_reaches _ haddr]
    simp only [pushData, hitem, ← hb, hlen, if_true]
  case qmPushData2 =>
    refine perform_eq ?_
    rw [qmPushData, onBus_reaches _ haddr]
    simp only [pushData, hitem, ← hb, hlen, Nat.lt_irrefl, if_false, ← hu, hsrc]
  case qmPopSel =>
    refine perform_eq ?_
    rw [qmPopSel, onBus_reaches _ haddr]
    simp only [popSel, hfenced, htonat, htonat2, Bool.not_true, Bool.false_eq_true, if_false]
  case qmPopData =>
    refine perform_eq ?_
    have hleft : (decide (it.bytes.length ≤ (u.popPort port).pos) || (u.popPort port).failed) = false := by
      simp [hlength, hfailed]
    rw [qmPopData, onRead_readable _ _ haddr, ← hu]
    simp only [popData, hitem, hleft, Bool.false_eq_true, if_false]
  case qmPopDone =>
    exact perform_eq (onBus_reaches _ haddr)
  case qmLink =>
    exact perform_eq (by simp [qmLink, hflushqueue])

/-- While a port holds no reply, its event is not the end of a reply's reading. -/
theorem portEvent_unanswered {s : State} {side : Bool} (f : State → State) (h : (s.port side).reply = none) :
    s.portEvent side f = f s := by
  simp [State.portEvent, h]

/-- A flash program that completes with the core awake stores its data and ends, whatever waits behind it (R500). -/
theorem flashOpDone_program_cons {s : State} {o : FlashOp} {l : List FlashOp} {t : Nat} (hflash : s.hif.flash = o :: l)
    (hawake : s.awake = true) (hkind : o.kind = 1) (hrun : o.suspended = false) :
    flashOpDone t s = ((s.advance t).programFlash o.addr o.data).flashEnd o l OK := by
  simp [flashOpDone, hflash, hawake, hkind, hrun]

/-- A flash program that is done is the first one asked for; its command is answered (R481). -/
theorem progDone_cons {s : State} {g : FlashProg} {l : List FlashProg} (h : s.upd.progs = g :: l) :
    s.progDone OK =
      let u := s.modUpd fun u => { u with progs := l }
      let st := if !g.ok then INTEGRITY else OK
      let u := if g.op = 0xD3 && st = OK then u.committed g.copy else u
      u.answer g.master g.op g.ctx st (if g.op = 0xD3 && st = OK then [byte g.copy] else []) := by
  simp only [State.progDone, h, decide_true, Bool.true_and]

/-- Settles O52: a port without a reply in hand meets the event itself (`portEvent_unanswered`), a flash program is
`flashOpDone_program_cons`. -/
theorem hifRowsComplete : Obligations.HifRowsComplete := by
  unfold Obligations.HifRowsComplete
  refine ⟨fun s u b t hu hportup hu8 hb hpending hreply => ?spiRequest,
    fun s u v n t hu hportup hn hreply hv => ?spiRead,
    fun s u b t hu hportup hu8 hb hpending hreply => ?sideWrite,
    fun s u v n t hu hportup hn hreply hv => ?sideRead,
    fun s u t hp2 hawake hflag hu => ?sideAddressMatch,
    fun s t hstretch hportup => ?sideStretchEnd1,
    fun s t hstretch hportup => ?sideStretchEnd2,
    fun s t hportup => ?hifSideStuck,
    fun s u i l r b hawake hhifup hqueue hbytes hu => ?replyFormed,
    fun s side r hpending hawake hhifup => ?hifCmdTimeout,
    fun s o l t hflash hawake hkind hsuspended => ?flashOpDone1,
    fun s o l t hflash hawake hkind hsuspended => ?flashOpDone2,
    fun s u o l g q t hflash hawake hkind hsuspended howner hprogs hop hu => ?flashOpDone3,
    fun s u o l g q t hflash hawake hkind hsuspended howner hprogs hop hu => ?flashOpDone4,
    fun s u o l done hflash hawake hkind hfreshbool => ?hifXspiTimeout⟩
  case spiRequest =>
    refine perform_eq ?_
    have hreply2 : (u.port false).reply = none := hreply
    have hpending2 : ((u.flagSent false (padTo b.length [byte (u.flagByte false)])).port false).pending = none := hpending
    rw [spiRequest, ← hu, portEvent_unanswered _ hreply2]
    simp [State.requestOn, hportup, hb, hu8, hpending2]
  case spiRead =>
    refine perform_eq ?_
    have hreply2 : (u.port false).reply = none := hreply
    rw [spiRead, ← hu, portEvent_unanswered _ hreply2]
    simp only [State.readOn, hportup, hn, ← hv, Bool.not_true, decide_false, Bool.or_false, Bool.false_eq_true, if_false]
  case sideWrite =>
    refine perform_eq ?_
    have hreply2 : (u.port true).reply = none := hreply
    have hpending2 : (u.port true).pending = none := hpending
    rw [sideWrite, ← hu, portEvent_unanswered _ hreply2]
    simp [State.requestOn, hportup, hb, hu8, hpending2]
  case sideRead =>
    refine perform_eq ?_
    have hreply2 : (u.port true).reply = none := hreply
    rw [sideRead, ← hu, portEvent_unanswered _ hreply2]
    simp only [State.readOn, hportup, hn, ← hv, Bool.not_true, decide_false, Bool.or_false, Bool.false_eq_true, if_false]
  case sideAddressMatch =>
    subst hu
    exact perform_eq (by simp [sideAddressMatch, hp2, hawake, hflag])
  case sideStretchEnd1 =>
    exact perform_eq (by simp [sideStretchEnd, hstretch, hportup])
  case sideStretchEnd2 =>
    exact perform_eq (by simp [sideStretchEnd, hstretch, hportup])
  case hifSideStuck =>
    exact perform_eq (by simp [hifSideStuck, hportup])
  case replyFormed =>
    subst hu
    exact perform_eq (by simp [replyFormed, hawake, hhifup, hqueue, hbytes])
  case hifCmdTimeout =>
    exact perform_eq (by simp [hifCmdTimeout, hpending, hawake, hhifup])
  case flashOpDone1 =>
    exact perform_eq (by simp [flashOpDone, hflash, hawake, hkind, hsuspended])
  case flashOpDone2 =>
    exact perform_eq (by simp [flashOpDone, hflash, hawake, hkind, hsuspended])
  case flashOpDone3 =>
    refine perform_eq ?_
    have hprogs' : ((s.advance t).programFlash o.addr o.data).upd.progs = g :: q := by
      rw [programFlash_frame, State.advance_upd, hprogs]
    rw [flashOpDone_program_cons hflash hawake hkind hsuspended, State.flashEnd, if_neg (by omega), if_pos howner,
      progDone_cons (g := g) (l := q), ← hu]
    · simp only [hop]
      cases g.ok <;> simp
    · exact hprogs'
  case flashOpDone4 =>
    refine perform_eq ?_
    have hprogs' : ((s.advance t).programFlash o.addr o.data).upd.progs = g :: q := by
      rw [programFlash_frame, State.advance_upd, hprogs]
    rw [flashOpDone_program_cons hflash hawake hkind hsuspended, State.flashEnd, if_neg (by omega), if_pos howner,
      progDone_cons (g := g) (l := q), ← hu]
    · simp only [hop]
      cases g.ok <;> simp
    · exact hprogs'
  case hifXspiTimeout =>
    exact perform_eq (by simp [hifXspiTimeout, hflash, hawake, hkind, hfreshbool])

end Sys2Proof.Machine

/-!
PROOF. The rows and host commands of faults, images, firmware and the worker link complete as stated.
-/
namespace Sys2Proof.Machine

/-- Settles O53: a host command whose checks pass comes to its own effect; factory test mode's rows are their own branches. -/
theorem fltCommandsComplete : Obligations.FltCommandsComplete := by
  unfold Obligations.FltCommandsComplete
  refine ⟨fun s u j hinject hu => ?injectedEvent,
    fun s t u m b c h hwrong hrngready hdrbgdraw => ?testEnter1,
    fun s t u m p b c h hlen hwrong hchallenge htestkey hsess hatt hu => ?testEnter2,
    fun s t m c h htest => ?testExit,
    fun s t m p l c h hp hl => ?fltStatus1,
    fun s t m p f i c h hisempty hlen hf hi hisnone => ?fltStatus2,
    fun s t u m p f w w2 c h hf hw hw2 hissome hchk hflag hflag2 hu => ?fltConfig,
    fun s t u v w x m p f n c h hlen hp hp2 hf hf2 hisnone hclearable hn hu hv hw hx => ?fltClear1,
    fun s t u v w x m p n l c h hlen hp hp2 hp3 hl hn hu hv hw hx => ?fltClear2,
    fun s t m p j c h hp hchk htest hinject hj => ?fltInject,
    fun s t m p n first l c h hlen hn hwithin hzeroat hready hl hfirst => ?bbxRead⟩
  case injectedEvent =>
    subst hu
    exact perform_eq (by simp [injectedEvent, hinject])
  case testEnter1 =>
    refine perform_eq ?_
    rw [testEnter, hostCmd_comes h rfl]
    simp only [show ¬ 3 ≤ t.upd.wrong by omega, hrngready, hdrbgdraw, List.isEmpty_nil, if_true, if_false, Bool.not_true,
      Bool.false_eq_true]
  case testEnter2 =>
    refine perform_eq ?_
    have hp : p.isEmpty = false := by cases p <;> simp_all
    have hidle : (decide (t.rel.sess ≠ 0) || t.auth.att.isSome) = false := by simp [hsess, hatt]
    rw [testEnter, hostCmd_comes h (by simp [firstFail, hlen])]
    simp only [show ¬ 3 ≤ t.upd.wrong by omega, hp, hchallenge, htestkey, hidle, ne_eq, not_true_eq_false, if_false,
      Bool.false_eq_true, ← hu]
    rfl
  case testExit =>
    refine perform_eq ?_
    rw [testExit, hostCmd_comes h (by simp [firstFail, lenIs])]
    simp [State.ok, htest]
  case fltStatus1 =>
    subst hp hl
    refine perform_eq ?_
    rw [fltStatus, hostCmd_comes h (by simp [firstFail, ])]
    simp
  case fltStatus2 =>
    subst hf hi
    refine perform_eq ?_
    rw [fltStatus, hostCmd_comes h (by simp [firstFail, hisempty, hlen])]
    simp [hisempty, hisnone]
  case fltConfig =>
    subst hf hw hw2 hu
    refine perform_eq ?_
    rw [fltConfig, hostCmd_comes h hchk]
    simp [hissome, hflag, hflag2]
  case fltClear1 =>
    refine perform_eq ?_
    rw [fltClear, hostCmd_comes h (by simp [firstFail, lenIs, paramOk, hlen, hp, hp2])]
    simp only [← hf, hf2, hisnone, hclearable, decide_false, Bool.not_false, Bool.true_and, Bool.not_true, Bool.false_eq_true,
      if_false, ← hn, List.foldl_cons, List.foldl_nil, ← hu, ← hv, ← hw, ← hx]
  case fltClear2 =>
    refine perform_eq ?_
    rw [fltClear, hostCmd_comes h (by simp [firstFail, lenIs, paramOk, hlen, hp, hp2])]
    simp only [hp3, decide_true, Bool.not_true, Bool.false_and, Bool.false_eq_true, if_false, if_true, ← hl, ← hn, ← hu, ← hv,
      ← hw, ← hx]
  case fltInject =>
    subst hj
    refine perform_eq ?_
    rw [fltInject, hostCmdLater_comes h hchk]
    simp [hp, htest, hinject]
  case bbxRead =>
    subst hn hl hfirst
    refine perform_eq ?_
    rw [bbxRead, hostCmd_comes h (by simp [firstFail, lenIs, paramOk, hlen, hwithin, hzeroat])]
    simp [hready] <;> rfl

/-- Settles O54: each row is its own branch on the injection, the black box or the challenge that the hypotheses name. -/
theorem injectionBbxTestRowsComplete : Obligations.InjectionBbxTestRowsComplete := by
  unfold Obligations.InjectionBbxTestRowsComplete
  refine ⟨fun s u j hinject hu hleft => ?injectedEvent1,
    fun s u j hinject hu hleft => ?injectedEvent2,
    fun s v r rest hready herasing hawake htokens hbuf => ?bbxRecordWrite1,
    fun s v x hready herasing hawake htokens => ?bbxRecordWrite2,
    fun s t hready herasing hawake => ?bbxHalfErased,
    fun s u hu => ?bbxTokenTick,
    fun s t u m c h hwrong hrngready hu => ?testEnter1,
    fun s t u v m p b c h hisempty hlen hwrong hchallenge hsess hatt hu hv => ?testEnter2,
    fun s t u m c h htest hu => ?testExit⟩
  case injectedEvent1 =>
    subst hu
    exact perform_eq (by simp [injectedEvent, hinject, Nat.not_le.mpr hleft])
  case injectedEvent2 =>
    subst hu
    exact perform_eq (by simp [injectedEvent, hinject, hleft])
  case bbxRecordWrite1 =>
    refine perform_eq ?_
    simp only [bbxRecordWrite, hready, herasing, hawake, htokens, hbuf, Bool.not_true, Bool.or_false, Bool.false_eq_true,
      if_false, ne_eq]
  case bbxRecordWrite2 =>
    refine perform_eq ?_
    simp only [bbxRecordWrite, hready, herasing, hawake, htokens, Bool.not_true, Bool.or_false, Bool.false_eq_true, if_false,
      ne_eq]
  case bbxHalfErased =>
    exact perform_eq (by simp [bbxHalfErased, hready, herasing, hawake])
  case bbxTokenTick =>
    subst hu
    exact perform_eq (by simp [bbxTokenTick])
  case testEnter1 =>
    subst hu
    refine perform_eq ?_
    rw [testEnter, hostCmd_comes h rfl]
    simp only [show ¬ 3 ≤ t.upd.wrong by omega, hrngready, List.isEmpty_nil, if_true, if_false, Bool.not_true, Bool.false_eq_true]
  case testEnter2 =>
    refine perform_eq ?_
    have hidle : (decide (t.rel.sess ≠ 0) || t.auth.att.isSome) = false := by simp [hsess, hatt]
    rw [testEnter, hostCmd_comes h (by simp [firstFail, hlen])]
    by_cases hmac : cmac ((List.range 16).map Config.testKey) b = p <;>
      simp only [show ¬ 3 ≤ t.upd.wrong by omega, hisempty, hchallenge, hmac, hidle, ne_eq, not_true_eq_false,
        not_false_eq_true, if_false, if_true, Bool.false_eq_true, ← hu]
    · rw [hv]
      rfl
    · rfl
  case testExit =>
    subst hu
    refine perform_eq ?_
    rw [testExit, hostCmd_comes h (by simp [firstFail, lenIs])]
    simp [State.ok, htest]

/-- Settles O55: a host command whose checks pass comes to its own effect (`hostCmd_comes`). -/
theorem configImageCommandsComplete : Obligations.ConfigImageCommandsComplete := by
  unfold Obligations.ConfigImageCommandsComplete
  refine ⟨fun s t m p c h hlen hp hp2 hp3 happly => ?cfgStage1,
    fun s t m p b n c h hlen hlen2 hp hp2 happly hstage hlen3 => ?cfgStage2,
    fun s t u m p d st c h hlen hp hp2 hp3 happly hstageend => ?cfgStage3,
    fun s t m p c h hlen hp hp2 hp3 happly => ?cfgStage4,
    fun s t u m p b a c h hlen hp hp2 happly hswitch hstaged hp3 hisempty ha hu => ?cfgApply1,
    fun s t u m p b a c h hlen hp hp2 happly hswitch hstaged hp3 hstagedwords ha hu => ?cfgApply2,
    fun s t m p b c h hlen hp hp2 hp3 hb => ?cfgRead1,
    fun s t m p b c h hlen hp hp2 hp3 hstaged => ?cfgRead2,
    fun s t m p b k c h hlen hp hk hp2 hp3 hb => ?cfgRead3,
    fun s t u v m b k c h happly hepoch hk hu hv => ?cfgCommitNv⟩
  case cfgStage1 =>
    refine perform_eq ?_
    rw [cfgStage, hostCmd_comes h (by simp [firstFail, paramOk, hlen, hp, hp2, hp3])]
    simp [State.ok, hp, happly]
  case cfgStage2 =>
    refine perform_eq ?_
    rw [cfgStage, hostCmd_comes h (by simp [firstFail, paramOk, hlen, hlen2, hp, hp2])]
    simp only [hp, happly, hstage, hlen3, Bool.false_eq_true, if_false, Option.isSome_none, ne_eq]
  case cfgStage3 =>
    refine perform_eq ?_
    rw [cfgStage, hostCmd_comes h (by simp [firstFail, paramOk, hlen, hp, hp2, hp3])]
    simp [hp, happly, hstageend]
  case cfgStage4 =>
    refine perform_eq ?_
    rw [cfgStage, hostCmd_comes h (by simp [firstFail, paramOk, hlen, hp, hp2, hp3])]
    simp [State.ok, hp, happly]
  case cfgApply1 =>
    subst ha hu
    refine perform_eq ?_
    rw [cfgApply, hostCmdLater_comes h (by simp [firstFail, lenIs, paramOk, hlen, hp, hp2])]
    simp [happly, hswitch, hstaged, hp3, hisempty]
  case cfgApply2 =>
    subst ha hu
    refine perform_eq ?_
    rw [cfgApply, hostCmdLater_comes h (by simp [firstFail, lenIs, paramOk, hlen, hp, hp2])]
    simp [happly, hswitch, hstaged, hp3, hstagedwords]
  case cfgRead1 =>
    subst hb
    refine perform_eq ?_
    rw [cfgRead, hostCmd_comes h (by simp [firstFail, lenIs, paramOk, hlen, hp, hp2, hp3])]
    simp [hp]
  case cfgRead2 =>
    refine perform_eq ?_
    rw [cfgRead, hostCmd_comes h (by simp [firstFail, lenIs, paramOk, hlen, hp, hp2, hp3])]
    simp [hp, hstaged]
  case cfgRead3 =>
    subst hb
    refine perform_eq ?_
    rw [cfgRead, hostCmd_comes h (by simp [firstFail, lenIs, paramOk, hlen, hp, hk, hp2, hp3])]
    simp [hp]
  case cfgCommitNv =>
    subst hk hu hv
    refine perform_eq ?_
    rw [cfgCommitNv, hostCmdLater_comes h (by simp [firstFail, lenIs])]
    simp [happly, hepoch]

/-- Settles O56: a host command whose checks pass comes to its own effect (`hostCmd_comes`). -/
theorem firmwareCommandsComplete : Obligations.FirmwareCommandsComplete := by
  unfold Obligations.FirmwareCommandsComplete
  refine ⟨fun s t m p b c h hlen hp hp2 hp3 hp4 hp5 herase => ?fwWriteSlot1,
    fun s t m p b c h hlen hlen2 hp hp2 hp3 hp4 hp5 hlen3 hp6 herase => ?fwWriteSlot2,
    fun s u at_ k herase heraseheld hu => ?fwEraseDone,
    fun s t m p x c h hlen hp hzeroat hx => ?fwVerify,
    fun s t m p k c h hlen hp hzeroat happly hswitch hrecovery hk hflag => ?fwSwitch1,
    fun s t u v m p k c h hchk hp happly hswitch hrecovery hflag hu hv => ?fwSwitch2,
    fun s t u v m p k x c h hchk hp hflag hk hu hx hv => ?fwSwitch3,
    fun s t m p c h hlen hp hp2 hzeroat hfgitems => ?calStage1,
    fun s t m p l c h hlen hp hp2 hp3 hzeroat hfgitems hl => ?calStage2⟩
  case fwWriteSlot1 =>
    refine perform_eq ?_
    rw [fwWriteSlot, hostCmdLater_comes h (by simp [firstFail, paramOk, hlen, hp, hp2, hp3, hp4])]
    simp [hp2, hp5, herase]
  case fwWriteSlot2 =>
    refine perform_eq ?_
    rw [fwWriteSlot, hostCmdLater_comes h (by simp [firstFail, paramOk, hlen, hlen2, hp, hp2, hp3, hp4, hp5, hlen3])]
    simp [hp2, hp6, herase]
  case fwEraseDone =>
    subst hu
    exact perform_eq (by simp [fwEraseDone, herase, heraseheld])
  case fwVerify =>
    subst hx
    refine perform_eq ?_
    rw [fwVerify, hostCmd_comes h (by simp [firstFail, lenIs, paramOk, hlen, hp, hzeroat])]
    by_cases hok : t.fwVerifyStatus (u8 p 0) = OK <;> simp only [hok, if_true, if_false]
    rfl
  case fwSwitch1 =>
    subst hk
    refine perform_eq ?_
    rw [fwSwitch, hostCmdLater_comes h (by simp [firstFail, lenIs, paramOk, hlen, hp, hzeroat])]
    simp [hp, happly, hswitch, hrecovery, hflag]
  case fwSwitch2 =>
    refine perform_eq ?_
    have hfirst : ([0, 1].find? fun k => t.flag (fwVerified k)) = some k := by
      rcases hflag with ⟨h0, rfl⟩ | ⟨h0, h1, rfl⟩ <;> simp [*]
    rw [fwSwitch, hostCmdLater_comes h hchk]
    simp only [hp, happly, hswitch, hrecovery, hfirst, Nat.zero_ne_one, Option.isSome_none, Bool.or_false, Bool.false_eq_true,
      if_false, if_true, ← hu, ← hv]
  case fwSwitch3 =>
    refine perform_eq ?_
    rw [fwSwitch, hostCmdLater_comes h hchk]
    simp only [hp, if_true, State.fwConfirm, hflag, ← hk, ← hu, ← hx, ← hv, Bool.not_true, Bool.false_eq_true, if_false]
  case calStage1 =>
    refine perform_eq ?_
    rw [calStage, hostCmd_comes h (by simp [firstFail, lenIs, paramOk, hlen, hp, hp2, hzeroat])]
    simp [hp, hfgitems]
  case calStage2 =>
    refine perform_eq ?_
    have hop : u8 p 0 ≠ 0 := by simpa using hp2
    rw [calStage, hostCmd_comes h (by simp [firstFail, lenIs, paramOk, hlen, hp, hp3, hzeroat])]
    simp only [hop, hfgitems, ← hl, ne_eq, not_true_eq_false, if_false]

/-- Settles O57: each row is its own branch on the apply or the switch that the hypotheses name. -/
theorem applyAndSwitchRowsComplete : Obligations.ApplyAndSwitchRowsComplete := by
  unfold Obligations.ApplyAndSwitchRowsComplete
  refine ⟨fun s u b ok at_ a a2 happly hreverting hval hval2 hu happly2 hisempty => ?configSwitch1,
    fun s u b ok at_ a a2 happly hreverting hval hval2 hu happly2 hisempty => ?configSwitch2,
    fun s u v w a never back happly hreverting hu hnever hback hv hw => ?applyTimeout,
    fun s b at_ a happly hreverting hval hval2 => ?configRevert,
    fun s u v at_ w h hswitch hstage hu hh hfwheadok hv => ?switchBankLoaded1,
    fun s u at_ w h hswitch hstage hu hh hfwheadok => ?switchBankLoaded2,
    fun s at_ w hswitch hstage hawake hhandoverok => ?handoverPoint,
    fun s w hswitch hstage hfallback => ?switchWaitTimeout,
    fun s u w hswitch hstage hfallback hawake hu hhandoverok => ?fallbackRetry1,
    fun s u w hswitch hstage hfallback hawake hu hhandoverok => ?fallbackRetry2,
    fun s t htrialat => ?trialTimeout⟩
  case configSwitch1 =>
    refine perform_eq ?_
    simp only [configSwitch, happly, hreverting, hval, hval2, happly2, hisempty, ← hu, Bool.not_true, Bool.or_false,
      Bool.false_eq_true, if_false]
  case configSwitch2 =>
    refine perform_eq ?_
    simp only [configSwitch, happly, hreverting, hval, hval2, happly2, hisempty, ← hu, Bool.not_true, Bool.or_false,
      Bool.false_eq_true, if_true, if_false]
  case applyTimeout =>
    subst hu hnever hback hv hw
    exact perform_eq (by simp [applyTimeout, happly, hreverting])
  case configRevert =>
    refine perform_eq ?_
    simp only [configRevert, happly, hreverting, hval, hval2, Bool.not_true, Bool.or_false, Bool.false_eq_true, if_false]
  case switchBankLoaded1 =>
    subst hu hh hv
    exact perform_eq (by simp [switchBankLoaded, hswitch, hstage, hfwheadok])
  case switchBankLoaded2 =>
    subst hu hh
    exact perform_eq (by simp [switchBankLoaded, hswitch, hstage, hfwheadok])
  case handoverPoint =>
    exact perform_eq (by simp [handoverPoint, hswitch, hstage, hawake, hhandoverok])
  case switchWaitTimeout =>
    exact perform_eq (by simp [switchWaitTimeout, hswitch, hstage, hfallback])
  case fallbackRetry1 =>
    subst hu
    exact perform_eq (by simp [fallbackRetry, hswitch, hstage, hfallback, hawake, hhandoverok])
  case fallbackRetry2 =>
    subst hu
    exact perform_eq (by simp [fallbackRetry, hswitch, hstage, hfallback, hawake, hhandoverok])
  case trialTimeout =>
    exact perform_eq (by simp [trialTimeout, htrialat])

/-- Settles O58: a host command whose checks pass comes to its own effect (`hostCmd_comes`). -/
theorem linkCommandsComplete : Obligations.LinkCommandsComplete := by
  unfold Obligations.LinkCommandsComplete
  refine ⟨fun s t u m p q c h hlen hp hp2 hp3 hp4 hq hflag hu => ?wlConfig,
    fun s t u m c h hismanager huniton hdiscover hu => ?wlDiscover,
    fun s t m c h => ?wlStatus,
    fun s t m p f c h hchk huniton hlocked hfwd hf => ?wlForward1,
    fun s t m p c h hchk hlocked => ?wlForward2⟩
  case wlConfig =>
    subst hq hu
    refine perform_eq ?_
    rw [wlConfig, hostCmd_comes h (by simp [firstFail, lenIs, paramOk, hlen, hp, hp2, hp3, hp4])]
    simp [hflag]
  case wlDiscover =>
    subst hu
    refine perform_eq ?_
    rw [wlDiscover, hostCmdLater_comes h (by simp [firstFail, lenIs])]
    simp [hismanager, huniton, hdiscover]
  case wlStatus =>
    refine perform_eq ?_
    rw [wlStatus, hostCmd_comes h (by simp [firstFail, lenIs, ])]
  case wlForward1 =>
    refine perform_eq ?_
    rw [wlForward, hostCmdLater_comes h hchk]
    simp only [huniton, hlocked, hfwd, ← hf, Bool.not_true, Bool.or_false, Option.isSome_none, Bool.false_eq_true, if_false]
  case wlForward2 =>
    refine perform_eq ?_
    rw [wlForward, hostCmdLater_comes h hchk]
    simp [hlocked]

/-- A manager takes a whole frame that a locked worker sends it up (R593). -/
theorem upFrame_takes {s : State} {w typ : Nat} {b pay : List Byte} (f : List Byte → State → State)
    (hlinkup : s.linkUp = true) (hismanager : s.isManager = true) (hlocked : (s.worker w).locked = true)
    (hframe : linkFrame b = some (typ, 0x0F, pay)) : s.upFrame w typ b f = f pay s.linkGot := by
  simp [State.upFrame, hlinkup, hismanager, hlocked, hframe]

/-- A manager counts a frame from a locked worker that is not whole (R593). -/
theorem upFrame_crc {s : State} {w typ : Nat} {b : List Byte} (f : List Byte → State → State)
    (hlinkup : s.linkUp = true) (hismanager : s.isManager = true) (hlocked : (s.worker w).locked = true)
    (hframe : linkFrame b = none) : s.upFrame w typ b f = s.linkCrc w := by
  simp [State.upFrame, hlinkup, hismanager, hlocked, hframe]

/-- Settles O59: a frame from a locked worker is taken or counted by `upFrame_takes` and `upFrame_crc`; the rest are branches of
their rows. -/
theorem managerLinkRowsComplete : Obligations.ManagerLinkRowsComplete := by
  unfold Obligations.ManagerLinkRowsComplete
  refine ⟨fun s u f hfwd hgot htries hu => ?fwdRepeat,
    fun s f hfwd htries => ?wlForwardTimeout,
    fun s u v w b pay r at_ f a n hlinkup hismanager hlocked hlinkframe hu hv hfwd hworker hseg => ?reply1,
    fun s u v w b pay at_ f a n hlinkup hismanager hlocked hlinkframe hu hv hfwd hworker hseg => ?reply2,
    fun s u w b pay at_ hlinkup hismanager hlocked hlinkframe hu => ?frame1,
    fun s u w b pay at_ hlinkup hismanager hlocked hlinkframe hu => ?event,
    fun s w b at_ hlinkup hismanager hlocked hlinkframe => ?frame2,
    fun s w tones d at_ hlinkup hismanager hlocked => ?rangeW1,
    fun s w tones d at_ hlinkup hismanager hlocked => ?rangeW2,
    fun s w at_ hlinkup hismanager hmeas => ?delayMeasurement,
    fun s u v w t1 t2 t3 t4 at_ l hlinkup hismanager hu hmeas hlength hv => ?drsp1,
    fun s u w t1 t2 t3 t4 at_ l hlinkup hismanager hu hmeas hlength => ?drsp2,
    fun s w t1 t2 t3 t4 at_ hlinkup hismanager => ?drsp3,
    fun s u w l hmeas hlength hu => ?delayMeasured1,
    fun s u w l hmeas hlength hu => ?delayMeasured2,
    fun s u w at_ hlinkup hisworker hlocked hu => ?wlkLos⟩
  case fwdRepeat =>
    subst hu
    exact perform_eq (by simp [fwdRepeat, hfwd, hgot, Nat.not_le.mpr htries])
  case wlForwardTimeout =>
    exact perform_eq (by simp [wlForwardTimeout, hfwd, htries])
  case reply1 =>
    refine perform_eq ?_
    rw [reply, upFrame_takes _ hlinkup hismanager hlocked hlinkframe]
    simp only [← hu, ← hv, hfwd, hworker, hseg, ne_eq, not_true, if_false]
  case reply2 =>
    refine perform_eq ?_
    rw [reply, upFrame_takes _ hlinkup hismanager hlocked hlinkframe]
    simp only [← hu, ← hv, hfwd, hworker, hseg, ne_eq, not_true, if_false]
  case frame1 =>
    subst hu
    exact perform_eq (upFrame_takes _ hlinkup hismanager hlocked hlinkframe)
  case event =>
    subst hu
    exact perform_eq (upFrame_takes _ hlinkup hismanager hlocked hlinkframe)
  case frame2 =>
    exact ⟨perform_eq (upFrame_crc _ hlinkup hismanager hlocked hlinkframe),
      perform_eq (upFrame_crc _ hlinkup hismanager hlocked hlinkframe)⟩
  case rangeW1 =>
    exact perform_eq (by simp [rangeW, hlinkup, hismanager, hlocked])
  case rangeW2 =>
    exact perform_eq (by simp [rangeW, hlinkup, hismanager, hlocked])
  case delayMeasurement =>
    exact perform_eq (by simp [delayMeasurement, hlinkup, hismanager, hmeas])
  case drsp1 =>
    refine perform_eq ?_
    have hmore : ¬ 16 ≤ l.length := by omega
    simp only [drsp, hlinkup, hismanager, Bool.not_true, Bool.or_self, Bool.false_eq_true, if_false, ← hu, hmeas, hmore, ← hv,
      hlength, if_true]
  case drsp2 =>
    subst hu
    exact perform_eq (by simp [drsp, hlinkup, hismanager, hmeas, hlength])
  case drsp3 =>
    exact perform_eq (by simp [drsp, hlinkup, hismanager])
  case delayMeasured1 =>
    subst hu
    exact perform_eq (by simp [delayMeasured, hmeas, hlength])
  case delayMeasured2 =>
    subst hu
    exact perform_eq (by simp [delayMeasured, hmeas, hlength])
  case wlkLos =>
    subst hu
    exact perform_eq (by simp [wlkLos, hlinkup, hisworker, hlocked])

/-- A piece of a packet that is forwarded to this worker is kept until the last one comes (R593). -/
theorem takeFwd_piece {s u : State} {b pay a : List Byte} {adr n : Nat} (reg : Master → Nat → List Byte → State → Effect)
    (hframe : linkFrame b = some (2, adr, pay)) (hadr : (adr ≠ s.get WLK_CTRL_INDEX && adr ≠ 0xFF) = false)
    (hu : u = s.linkGot) (hseg : assemble u.wlk.asm u.wlk.seg pay = (a, n, none)) :
    s.takeFwd b reg = u.modWlk fun k => { k with asm := a, seg := n } := by
  simp only [State.takeFwd, hframe, hadr, ← hu, hseg, ne_eq, not_true, decide_false, Bool.or_self, Bool.false_eq_true, if_false]

/-- The last piece of a packet that is forwarded to this worker completes it (R593). -/
theorem takeFwd_whole {s u : State} {b pay a r : List Byte} {adr n : Nat} (reg : Master → Nat → List Byte → State → Effect)
    (hframe : linkFrame b = some (2, adr, pay)) (hadr : (adr ≠ s.get WLK_CTRL_INDEX && adr ≠ 0xFF) = false)
    (hu : u = s.linkGot) (hseg : assemble u.wlk.asm u.wlk.seg pay = (a, n, some r)) :
    s.takeFwd b reg = (u.modWlk fun k => { k with asm := a, seg := n }).forwarded r reg := by
  simp only [State.takeFwd, hframe, hadr, ← hu, hseg, ne_eq, not_true, decide_false, Bool.or_self, Bool.false_eq_true, if_false]

/-- Settles O60: a forwarded frame is taken by `takeFwd_piece` or `takeFwd_whole`; the rest are branches of their rows. -/
theorem workerLinkRowsComplete : Obligations.WorkerLinkRowsComplete := by
  unfold Obligations.WorkerLinkRowsComplete
  refine ⟨fun s u b pay a at_ adr n hisworker hlinkup hflag hlinkframe hu hget hseg => ?fwd1,
    fun s u b pay a r at_ adr n hisworker hlinkup hflag hlinkframe hu hget hseg => ?fwd2,
    fun s b at_ hisworker hlinkup hflag hlinkframe => ?fwd3,
    fun s i o l at_ hisworker hlinkup hflag => ?run1,
    fun s i o l at_ hisworker hlinkup hflag => ?run2,
    fun s at_ hisworker hlinkup => ?dreq1,
    fun s u t at_ hisworker hlinkup hu hslaved => ?dreq2,
    fun s u t at_ hisworker hlinkup hu hslaved hnatabs => ?dreq3,
    fun s d at_ hisworker hlinkup => ?dreq4,
    fun s w at_ hisworker hlinkup hflag => ?wlkLos,
    fun s ok t hisworker hlinkup hlost => ?lockRetry⟩
  case fwd1 =>
    refine perform_eq ?_
    simp only [fwd, hisworker, hlinkup, hflag, Bool.not_true, Bool.or_self, Bool.false_eq_true, if_false,
      takeFwd_piece portCommand hlinkframe hget hu hseg]
  case fwd2 =>
    refine perform_eq ?_
    simp only [fwd, hisworker, hlinkup, hflag, Bool.not_true, Bool.or_self, Bool.false_eq_true, if_false,
      takeFwd_whole portCommand hlinkframe hget hu hseg]
  case fwd3 =>
    exact perform_eq (by simp [fwd, State.takeFwd, hisworker, hlinkup, hflag, hlinkframe])
  case run1 =>
    exact perform_eq (by simp [run, hisworker, hlinkup, hflag])
  case run2 =>
    exact perform_eq (by simp [run, hisworker, hlinkup, hflag])
  case dreq1 =>
    exact perform_eq (by simp [dreq, hisworker, hlinkup])
  case dreq2 =>
    refine perform_eq ?_
    simp only [dreq, hisworker, hlinkup, Bool.not_true, Bool.or_self, Bool.false_eq_true, if_false, ← hu, State.slaveTime,
      hslaved, Bool.not_false, if_true]
  case dreq3 =>
    refine perform_eq ?_
    have hfar : ¬ ((t : Int) - u.time.dev).natAbs < 3 := by omega
    simp only [dreq, hisworker, hlinkup, Bool.not_true, Bool.or_self, Bool.false_eq_true, if_false, ← hu, State.slaveTime,
      hslaved, hfar]
  case dreq4 =>
    exact perform_eq (by simp [dreq, hisworker, hlinkup])
  case wlkLos =>
    exact perform_eq (by simp [wlkLos, hisworker, hlinkup, hflag])
  case lockRetry =>
    exact perform_eq (by simp [lockRetry, hisworker, hlinkup, hlost])

end Sys2Proof.Machine

/-!
PROOF. The predicate behind O4: `InForm c s` says that `s` is in canonical form and, where `c` names one, that the generator's
start has that cause (R349). Its rules for the operations on the registers, the memories and the vault memory, and for the shapes in
which the model composes them.
-/
namespace Sys2Proof.Machine

-- The lemmas are many and short: proved one after the other, they stay within the threads that the check allows.
set_option Elab.async false

/-- The state is in canonical form, and the cause of the generator's start is the one that `c` names, if any. -/
def InForm (c : Option Nat) (s : State) : Prop :=
  Registers.wf s.regs = true ∧ Memory.wf s.mem = true ∧ VaultMemory.wf s = true ∧ c.elim True fun n => s.rng.cause = n

theorem inForm_none_iff {s : State} : InForm none s ↔ s.canonical = true := by
  simp [InForm, State.canonical, Registers.wf, Memory.wf, VaultMemory.wf, and_assoc]

/-- A state in form is in form whatever the cause. -/
theorem InForm.any {c : Option Nat} {s : State} (h : InForm c s) : InForm none s := by
  obtain ⟨hr, hm, hn, -⟩ := h
  exact ⟨hr, hm, hn, trivial⟩

/-- A record update that leaves registers, memories, vault memory and cause alone keeps the form. -/
theorem InForm.frame {c : Option Nat} {s : State} {units} {sys} {time} {cal} {fires} {tmr} {tmrIn} {pwr} {qm} {hif} {flt} {bbx}
    {aes} {lf} {urx} {utx} {range} {zone} {cred} {auth} {rel} {hfr} {vlt} {upd} {wlk} {cnt} {rng} {free} {pending}
    (h : InForm c s) (hv : vlt.nv = s.vlt.nv := by rfl) (hg : rng.cause = s.rng.cause := by rfl) :
    InForm c { s with units := units, sys := sys, time := time, cal := cal, fires := fires, tmr := tmr, tmrIn := tmrIn
                      pwr := pwr, qm := qm, hif := hif, flt := flt, bbx := bbx, aes := aes, lf := lf, urx := urx, utx := utx
                      range := range, zone := zone, cred := cred, auth := auth, rel := rel, hfr := hfr, vlt := vlt
                      upd := upd, wlk := wlk, cnt := cnt, rng := rng, free := free, pending := pending } := by
  obtain ⟨hr, hm, hn, hc⟩ := h
  exact ⟨hr, hm, by simpa only [VaultMemory.wf, hv] using hn, by simpa only [hg] using hc⟩

/-- The same for a record update of the vault alone, where the base need not be unfolded. -/
theorem InForm.modVlt {c : Option Nat} {s : State} {f : VltState → VltState} (h : InForm c s)
    (hf : ∀ v, (f v).nv = v.nv := by exact fun _ => rfl) : InForm c (s.modVlt f) :=
  h.frame (hf s.vlt)

theorem InForm.modUpd {c : Option Nat} {s : State} {f : UpdState → UpdState} (h : InForm c s) : InForm c (s.modUpd f) :=
  h.frame

theorem InForm.modWlk {c : Option Nat} {s : State} {f : WlkState → WlkState} (h : InForm c s) : InForm c (s.modWlk f) :=
  h.frame

theorem InForm.modBbx {c : Option Nat} {s : State} {f : BbxState → BbxState} (h : InForm c s) : InForm c (s.modBbx f) :=
  h.frame

theorem InForm.raise {c : Option Nat} {s : State} {fid inst : Nat} {d : List Byte} (h : InForm c s) :
    InForm c (s.raise fid inst d) :=
  h.frame

/-- Where the cause may change, only the form is kept. -/
theorem InForm.modRng {c : Option Nat} {s : State} {f : RngState → RngState} (h : InForm c s) : InForm none (s.modRng f) := by
  obtain ⟨hr, hm, hn, -⟩ := h
  exact ⟨hr, hm, hn, trivial⟩

/-! ### The shapes in which operations are composed -/

theorem InForm.ite {c : Option Nat} {s t : State} {p : Prop} [Decidable p] (hs : InForm c s) (ht : InForm c t) :
    InForm c (if p then s else t) := by
  split
  · exact hs
  · exact ht

theorem InForm.iteFst {c : Option Nat} {α : Type} {x y : State × α} {p : Prop} [Decidable p] (hx : InForm c x.1)
    (hy : InForm c y.1) : InForm c (if p then x else y).1 := by
  split
  · exact hx
  · exact hy

theorem InForm.iteSnd {c : Option Nat} {α : Type} {x y : α × State} {p : Prop} [Decidable p] (hx : InForm c x.2)
    (hy : InForm c y.2) : InForm c (if p then x else y).2 := by
  split
  · exact hx
  · exact hy

theorem InForm.foldl {c : Option Nat} {α : Type} {f : State → α → State} {s : State} {l : List α} (h : InForm c s)
    (hf : ∀ {t a}, InForm c t → InForm c (f t a)) : InForm c (l.foldl f s) := by
  induction l generalizing s with
  | nil => exact h
  | cons a l ih => exact ih (hf h)

theorem InForm.foldlFst {c : Option Nat} {α β : Type} {f : State × β → α → State × β} {x : State × β} {l : List α}
    (h : InForm c x.1) (hf : ∀ {t a}, InForm c t.1 → InForm c (f t a).1) : InForm c (l.foldl f x).1 := by
  induction l generalizing x with
  | nil => exact h
  | cons a l ih => exact ih (hf h)

theorem InForm.foldlSnd {c : Option Nat} {α β : Type} {f : β × State → α → β × State} {x : β × State} {l : List α}
    (h : InForm c x.2) (hf : ∀ {t a}, InForm c t.2 → InForm c (f t a).2) : InForm c (l.foldl f x).2 := by
  induction l generalizing x with
  | nil => exact h
  | cons a l ih => exact ih (hf h)

theorem InForm.fst {c : Option Nat} {α : Type} {s : State} {a : α} (h : InForm c s) : InForm c (s, a).1 := h

theorem InForm.snd {c : Option Nat} {α : Type} {s : State} {a : α} (h : InForm c s) : InForm c (a, s).2 := h

theorem InForm.fstEq {c : Option Nat} {α : Type} {x : State × α} {s : State} {a : α} (h : InForm c x.1) (e : x = (s, a)) :
    InForm c s := by
  rw [e] at h
  exact h

theorem InForm.sndEq {c : Option Nat} {α : Type} {x : α × State} {s : State} {a : α} (h : InForm c x.2) (e : x = (a, s)) :
    InForm c s := by
  rw [e] at h
  exact h

theorem some_of_ite_none {α : Type} {p : Prop} [Decidable p] {o : Option α} {x : α} (e : (if p then o else none) = some x) :
    o = some x := by
  split at e
  · exact e
  · cases e

theorem InForm.getD {c : Option Nat} {o : Option State} {s : State} (ho : ∀ {t}, o = some t → InForm c t) (hs : InForm c s) :
    InForm c (o.getD s) := by
  cases o with
  | none => exact hs
  | some t => exact ho rfl

theorem InForm.foldlBind {c : Option Nat} {α : Type} {f : State → α → Option State} {o : Option State} {t : State} {l : List α}
    (ho : ∀ {s}, o = some s → InForm c s) (hf : ∀ {s a t}, InForm c s → f s a = some t → InForm c t)
    (e : l.foldl (fun o a => o.bind fun s => f s a) o = some t) : InForm c t := by
  induction l generalizing o with
  | nil => exact ho e
  | cons a l ih =>
    refine ih (fun e => ?_) e
    obtain ⟨u, hu, e⟩ := Option.bind_eq_some_iff.1 e
    exact hf (ho hu) e

/-! ### Registers, memories and vault memory -/

theorem InForm.withRegs {c : Option Nat} {s : State} {r : List (Nat × Word)} (h : InForm c s) (hr : Registers.wf r = true) :
    InForm c { s with regs := r } := by
  obtain ⟨-, hm, hn, hg⟩ := h
  exact ⟨hr, hm, hn, hg⟩

theorem InForm.withMem {c : Option Nat} {s : State} {m : List Host.Cell} (h : InForm c s) (hm : Memory.wf m = true) :
    InForm c { s with mem := m } := by
  obtain ⟨hr, -, hn, hg⟩ := h
  exact ⟨hr, hm, hn, hg⟩

theorem InForm.memWf {c : Option Nat} {s : State} (h : InForm c s) : Memory.wf s.mem = true := by
  obtain ⟨-, hm, -⟩ := h
  exact hm

theorem InForm.regsWf {c : Option Nat} {s : State} (h : InForm c s) : Registers.wf s.regs = true := by
  obtain ⟨hr, -⟩ := h
  exact hr

theorem InForm.setReg {c : Option Nat} {s : State} {a : Nat} {v : Word} (h : InForm c s) : InForm c (s.setReg a v) :=
  h.withRegs (setReg_wf a v h.regsWf)

theorem InForm.setMem8 {c : Option Nat} {s : State} {a : Nat} {v : Byte} (h : InForm c s) : InForm c (s.setMem8 a v) :=
  h.withMem (setMem8_wf a v h.memWf)

theorem InForm.writeMem {c : Option Nat} {s : State} {a : Nat} {b : List Byte} (h : InForm c s) : InForm c (s.writeMem a b) := by
  induction b generalizing s a with
  | nil => exact h
  | cons x b ih => exact ih h.setMem8

theorem InForm.programFlash {c : Option Nat} {s : State} {a : Nat} {b : List Byte} (h : InForm c s) :
    InForm c (s.programFlash a b) := by
  induction b generalizing s a with
  | nil => exact h
  | cons x b ih => exact ih h.setMem8

theorem InForm.filterMem {c : Option Nat} {s : State} {f : Host.Cell → Bool} (h : InForm c s) :
    InForm c { s with mem := s.mem.filter f } :=
  h.withMem (sparse_filter_wf f h.memWf)

theorem InForm.eraseFlash {c : Option Nat} {s : State} {a n : Nat} (h : InForm c s) : InForm c (s.eraseFlash a n) :=
  h.filterMem

theorem InForm.moveMem {c : Option Nat} {s : State} {src dst n : Nat} (h : InForm c s) : InForm c (s.moveMem src dst n) := by
  refine h.withMem (InForm.memWf (c := c) (s := List.foldl _ _ _) ?_)
  exact .foldl h.filterMem fun h1 => h1.setMem8

theorem InForm.freeFill {c : Option Nat} {s : State} {a n : Nat} (h : InForm c s) : InForm c (s.freeFill a n) :=
  h.withMem (writeMem_wf _ _ h.memWf)

theorem InForm.setNv8 {c : Option Nat} {s : State} {a : Nat} {v : Byte} (h : InForm c s) : InForm c (s.setNv8 a v) := by
  obtain ⟨hr, hm, hn, hg⟩ := h
  exact ⟨hr, hm, setNv8_wf a v hn, hg⟩

theorem InForm.nvWrite {c : Option Nat} {s : State} {a : Nat} {b : List Byte} (h : InForm c s) : InForm c (s.nvWrite a b) := by
  induction b generalizing s a with
  | nil => exact h
  | cons x b ih => exact ih h.setNv8

theorem InForm.nvProgram {c : Option Nat} {s : State} {a : Nat} {b : List Byte} (h : InForm c s) : InForm c (s.nvProgram a b) := by
  induction b generalizing s a with
  | nil => exact h
  | cons x b ih => exact ih h.setNv8

end Sys2Proof.Machine

/-!
PROOF. The functions of Ops.lean, Queue.lean, Operands.lean, PwrOps.lean, HifOps.lean, Aes.lean, Budget.lean, Cnt.lean,
TimeOps.lean and Cred.lean under Machine/ keep the form of the state (O4), in the order of the model; each by the rules for what
it is composed of.
-/
namespace Sys2Proof.Machine

-- The lemmas are many and short: proved one after the other, they stay within the threads that the check allows.
set_option Elab.async false

variable {c : Option Nat} {s : State}

/-! ### Ops.lean -/

theorem InForm.put {f : Field} {v : Nat} (h : InForm c s) : InForm c (s.put f v) :=
  h.setReg

theorem InForm.putB {f : Field} {b : Bool} (h : InForm c s) : InForm c (s.putB f b) :=
  h.put

theorem InForm.bump {f : Field} {n : Nat} (h : InForm c s) : InForm c (s.bump f n) :=
  h.put

theorem InForm.putBit {f : Field} {i : Nat} {b : Bool} (h : InForm c s) : InForm c (s.putBit f i b) :=
  h.put

theorem InForm.eraseMem {a n : Nat} (h : InForm c s) : InForm c (s.eraseMem a n) :=
  h.writeMem

theorem InForm.freshBytes {n : Nat} (h : InForm c s) : InForm c (s.freshBytes n).2 := by
  induction n generalizing s with
  | zero => exact h
  | succ n ih => exact ih (s := (s.fresh 8).2) h

theorem InForm.rounded {n d : Int} (h : InForm c s) : InForm c (s.rounded n d).2 :=
  .iteSnd h h

theorem InForm.advance {at_ : Nat} (h : InForm c s) : InForm c (s.advance at_) :=
  .ite h h

theorem InForm.wait {dt : Nat} (h : InForm c s) : InForm c (s.wait dt) :=
  h.advance

theorem InForm.advanceRef {r : Nat} (h : InForm c s) : InForm c (s.advanceRef r) :=
  .ite h.wait h.wait

theorem InForm.advanceLp {n : Nat} (h : InForm c s) : InForm c (s.advanceLp n) :=
  h.wait

theorem InForm.stage {quiet : Bool} {b : Nat} {f : Field} {v : Nat} (h : InForm c s) : InForm c (s.stage quiet b f v) :=
  .ite h.put h

theorem InForm.putFree {f : Field} {v : Nat} (h : InForm c s) : InForm c (s.putFree f v) :=
  h.setReg

theorem InForm.applyStaged {b : Nat} (h : InForm c s) : InForm c (s.applyStaged b) :=
  .foldl h .putFree

theorem InForm.putField {f : Field} {w : Nat} (h : InForm c s) : InForm c (s.putField f w) :=
  h.put

/-! ### Queue.lean -/

theorem InForm.cross {q old new : Nat} (h : InForm c s) : InForm c (s.cross q old new).1 :=
  .ite (.bump (.put (.ite h.put.bump h))) (.ite h.put.bump h)

theorem InForm.poolEmpty {q cells : Nat} (h : InForm c s) : InForm c (s.poolEmpty q cells) :=
  .ite h h.bump.frame

theorem InForm.refuseBegin {q cells : Nat} (h : InForm c s) : InForm c (s.refuseBegin q cells) :=
  h.bump.put.poolEmpty

theorem InForm.loseRecord {code : Nat} (h : InForm c s) : InForm c (s.loseRecord code) :=
  .ite (.frame (.ite (.frame h.bump.put.frame) (.ite h.bump.put.frame (.frame h.bump.put.frame)))) (.ite (.frame h.bump.put.frame)
    (.ite h.bump.put.frame (.frame h.bump.put.frame)))

theorem InForm.refuse {q cells code : Nat} (h : InForm c s) : InForm c (s.refuse q cells code) :=
  .ite h.poolEmpty.loseRecord h.refuseBegin

theorem InForm.linkSent (h : InForm c s) : InForm c s.linkSent :=
  .ite h.bump h

theorem InForm.pushEvtItem {bytes : List Byte} {src : Nat} (h : InForm c s) : InForm c (s.pushEvtItem bytes src) :=
  .ite h (.ite h.linkSent.loseRecord (.ite h.linkSent.refuse (.cross (.frame h.linkSent.frame))))

theorem InForm.flushHeld (h : InForm c s) : InForm c s.flushHeld :=
  .foldl h .pushEvtItem

theorem InForm.eventAt {ts qual code : Nat} {data : List Byte} (h : InForm c s) : InForm c (s.eventAt ts qual code data) :=
  h.pushEvtItem

theorem InForm.event {code : Nat} {data : List Byte} (h : InForm c s) : InForm c (s.event code data) :=
  h.eventAt

theorem InForm.bbxPut {bytes : List Byte} {key : Nat} {prot : Bool} (h : InForm c s) : InForm c (s.bbxPut bytes key prot) :=
  .ite (.bump h) h

theorem InForm.eventBbx {code : Nat} {data : List Byte} {prot : Bool} (h : InForm c s) : InForm c (s.eventBbx code data prot) :=
  h.pushEvtItem.bbxPut

theorem InForm.wmEvents {q new : Nat} {up down : Bool} (h : InForm c s) : InForm c (s.wmEvents q new up down) :=
  .ite h (.ite (.event (.ite h.event h)) (.ite h.event h))

theorem InForm.levelChanged {q old : Nat} (h : InForm c s) : InForm c (s.levelChanged q old) :=
  h.cross.wmEvents

theorem InForm.pushItem {t : State} {q : Nat} {b : List Byte} {src : Nat} (h : InForm c s) (e : s.pushItem q b src = some t) :
    InForm c t := by
  simp only [State.pushItem, Option.ite_none_left_eq_some, Option.some.injEq] at e
  obtain ⟨-, -, rfl⟩ := e
  exact .levelChanged h

theorem InForm.pushOrCount {q : Nat} {bytes : List Byte} {src : Nat} (h : InForm c s) :
    InForm c (s.pushOrCount q bytes src).1 := by
  unfold State.pushOrCount
  split
  · rename_i t0 e0
    exact h.pushItem e0
  · exact h.refuseBegin

theorem InForm.popItem {x : Item × State} {q : Nat} (h : InForm c s) (e : s.popItem q = some x) : InForm c x.2 := by
  unfold State.popItem at e
  split at e
  · cases e
  · cases e
    exact .levelChanged (.ite h h)

theorem InForm.drainQueue {q fuel : Nat} (h : InForm c s) : InForm c (s.drainQueue q fuel) := by
  induction fuel generalizing s with
  | zero => exact h
  | succ fuel ih =>
    unfold State.drainQueue
    split
    · rename_i e
      exact ih (h.popItem e)
    · exact h

theorem InForm.flushQueue {q st : Nat} (h : InForm c s) : InForm c (s.flushQueue q st).1 :=
  .levelChanged (.ite h h)

theorem InForm.flushedEvent {q cause items cells opens : Nat} (h : InForm c s) :
    InForm c (s.flushedEvent q cause items cells opens) :=
  h.event

/-! ### Operands.lean -/

theorem InForm.takeRequest {m : Master} {op : Nat} {p : List Byte} (h : InForm c s) : InForm c (s.takeRequest m op p).2 := by
  unfold State.takeRequest
  split
  · exact .levelChanged h
  · exact h

theorem InForm.pushAll {t : State} {q src : Nat} {its : List (List Byte)} (h : InForm c s) (e : s.pushAll q src its = some t) :
    InForm c t := by
  unfold State.pushAll at e
  split at e
  · cases e
  · refine .foldlBind (fun e => ?_) (fun h e => h.pushItem e) e
    cases e
    exact h

theorem InForm.sendReply {c' : ReqCtx} {st : Nat} {data : List Byte} (h : InForm c s) : InForm c (s.sendReply c' st data) :=
  .ite (.getD (fun e => h.pushAll e) h) h

theorem InForm.answer {m : Master} {op : Nat} {c' : Option ReqCtx} {st : Nat} {data : List Byte} (h : InForm c s) :
    InForm c (s.answer m op c' st data) := by
  unfold State.answer
  dsimp only
  split
  · exact .sendReply h
  · exact h

theorem InForm.hostCmdLater {op : Nat} {m : Master} {p : List Byte} {syn : List (Bool × Nat)}
    {body : Option ReqCtx → State → State × Option (Nat × List Byte)} (h : InForm c s)
    (hf : ∀ {a0 t}, InForm c t → InForm c (body a0 t).1) : InForm c (hostCmdLater op m p syn body s) := by
  refine .ite h ?_
  split
  · rename_i _ t0 e0
    split
    · exact .answer (h.takeRequest.sndEq e0)
    · split
      · rename_i t2 _ _ e2
        exact .answer (.fstEq (hf (h.takeRequest.sndEq e0)) e2)
      · rename_i t2 e2
        exact .fstEq (hf (h.takeRequest.sndEq e0)) e2

theorem InForm.hostCmd {op : Nat} {m : Master} {p : List Byte} {syn : List (Bool × Nat)} {body : State → Effect} (h : InForm c s)
    (hf : ∀ {t}, InForm c t → InForm c (body t).1) : InForm c (hostCmd op m p syn body s) :=
  h.hostCmdLater hf

theorem InForm.decodeFault {m : Master} {a k : Nat} (h : InForm c s) : InForm c (s.decodeFault m a k) :=
  h.put.put.frame

theorem InForm.denyFault {m : Master} {a k : Nat} (h : InForm c s) : InForm c (s.denyFault m a k) :=
  h.bump.put.put.frame

theorem InForm.onBus {m : Master} {a k : Nat} {f : State → State} (h : InForm c s) (hf : ∀ {t}, InForm c t → InForm c (f t)) :
    InForm c (s.onBus m a k f) :=
  .ite h (by split; exact h.decodeFault; exact h.denyFault; exact h; exact hf h)

theorem InForm.onRead {m : Master} {a v : Nat} {f : State → State} (h : InForm c s) (hf : ∀ {t}, InForm c t → InForm c (f t)) :
    InForm c (s.onRead m a v f) :=
  .ite h (.onBus h hf)

/-! ### PwrOps.lean -/

theorem InForm.toState {p : PState} (h : InForm c s) : InForm c (s.toState p) :=
  .ite h (.bump h)

theorem InForm.abortEntry {src block cnt : Nat} (h : InForm c s) : InForm c (s.abortEntry src block cnt) := by
  unfold State.abortEntry
  split
  · exact h
  · exact .event (.ite (.put (.put (.put (.bump h)))) (.frame (.put (.put (.put (.bump h))))))

theorem InForm.latchWake {c' detail : Nat} (h : InForm c s) : InForm c (s.latchWake c' detail) :=
  .putBit h

theorem InForm.wakeTogether {w : WakeSeq} {c' detail : Nat} (h : InForm c s) : InForm c (s.wakeTogether w c' detail) :=
  .ite h h

theorem InForm.wakeSource {cause detail : Nat} {level : Bool} (h : InForm c s) : InForm c (s.wakeSource cause detail level) := by
  unfold State.wakeSource
  extract_lets t
  have ht : InForm c t := .ite h.latchWake h
  refine .ite h (.ite ht (.ite (.ite ht ?_) (.ite ht ht.abortEntry)))
  split
  · exact ht.wakeTogether
  · exact .frame ht.frame

theorem InForm.coreInterrupt (h : InForm c s) : InForm c s.coreInterrupt :=
  .ite h (.ite (.frame h.put.abortEntry.frame) h.put.abortEntry.frame)

theorem InForm.unitSwitch {b : Nat} {en busy : Bool} (h : InForm c s) : InForm c (s.unitSwitch b en busy) := by
  unfold State.unitSwitch
  split
  · exact h
  · exact h
  · exact h
  · exact h
  · exact h

theorem InForm.unitSettle {b : Nat} (h : InForm c s) : InForm c (s.unitSettle b) := by
  unfold State.unitSettle
  split
  · exact h
  · exact h
  · exact h

theorem InForm.withdraw {b : Nat} (h : InForm c s) : InForm c (s.withdraw b) :=
  .ite h.abortEntry h

/-! ### HifOps.lean -/

theorem InForm.setPort {side : Bool} {p : Port} (h : InForm c s) : InForm c (s.setPort side p) :=
  .ite h h

theorem InForm.formReply {side : Bool} {st tag : Nat} {data : List Byte} (h : InForm c s) :
    InForm c (s.formReply side st tag data) :=
  .setPort (.ite h.bump h)

theorem InForm.acceptRequest {side : Bool} (h : InForm c s) : InForm c (s.acceptRequest side) :=
  .setPort (.frame (.ite h.bump.bump h.bump))

theorem InForm.enqueueRequest {side : Bool} {op tag : Nat} {params : List Byte} (h : InForm c s) :
    InForm c (s.enqueueRequest side op tag params) := by
  unfold State.enqueueRequest
  dsimp only
  split
  · exact h.formReply
  · rename_i t0 e0
    exact .coreInterrupt (.setPort (h.pushAll e0))

theorem InForm.receivePacket {side : Bool} {b : List Byte} {reg : Master → Nat → List Byte → State → Effect} (h : InForm c s)
    (hf : ∀ {a0 a1 a2 t}, InForm c t → InForm c (reg a0 a1 a2 t).1) : InForm c (s.receivePacket side b reg) :=
  .ite h.bump (.ite h.acceptRequest.formReply (.ite h.acceptRequest.formReply (.ite h.acceptRequest.formReply (.ite
    h.acceptRequest.formReply (.ite (.formReply (hf h.acceptRequest)) (.ite h.acceptRequest.formReply
    h.acceptRequest.enqueueRequest))))))

theorem InForm.flagSent {side : Bool} {out : List Byte} (h : InForm c s) : InForm c (s.flagSent side out) :=
  .setPort h

theorem InForm.readOn {side : Bool} {n : Nat} (h : InForm c s) : InForm c (s.readOn side n) :=
  .ite h h.flagSent.setPort

theorem InForm.requestOn {side : Bool} {b : List Byte} {reg : Master → Nat → List Byte → State → Effect} (h : InForm c s)
    (hf : ∀ {a0 a1 a2 t}, InForm c t → InForm c (reg a0 a1 a2 t).1) : InForm c (s.requestOn side b reg) :=
  .ite h (.ite (.ite h h.readOn) (.ite (.bump (.ite h h.flagSent)) (.ite (.bump (.put (.setPort (.ite h h.flagSent))))
    (.receivePacket (.ite h h.flagSent) hf))))

/-! ### Aes.lean -/

theorem InForm.putRegBytes {f : Nat → Field} {n : Nat} {b : List Byte} (h : InForm c s) : InForm c (s.putRegBytes f n b) :=
  h.foldl .put

theorem InForm.aesGoOn {m : Master} {e : Nat} (h : InForm c s) : InForm c (aesGoOn m e s) :=
  .ite h (.ite h.put.put (.put h.put.put.frame))

theorem InForm.aesGo {m : Master} {e : Fin 2} (h : InForm c s) : InForm c (aesGo m e s) :=
  h.onBus .aesGoOn

theorem InForm.blockDone {e : Nat} (h : InForm c s) : InForm c (s.blockDone e) := by
  unfold State.blockDone
  split
  · exact h
  · exact .put (.put (.putRegBytes h.advance.frame))

theorem InForm.aesBlockDone {e : Fin 2} (h : InForm c s) : InForm c (aesBlockDone e s) :=
  h.blockDone

theorem InForm.engineClear {e : Nat} (h : InForm c s) : InForm c (s.engineClear e) :=
  .put h.putRegBytes.putRegBytes.putRegBytes.frame

theorem InForm.aesClear {m : Master} {e : Fin 2} (h : InForm c s) : InForm c (aesClear m e s) :=
  h.onBus .engineClear

theorem InForm.engineWork {src : Nat} {out : List Byte} (h : InForm c s) : InForm c (s.engineWork src out) :=
  .ite (.engineClear h.blockDone.putRegBytes.put.put.frame) h.blockDone.putRegBytes.put.put.frame

theorem InForm.engineWerr {e : Nat} (h : InForm c s) : InForm c (s.engineWerr e).1 :=
  .iteFst h.put h

theorem InForm.unwrapStart {t kek usage users : Nat} {wrapped : List Byte} {replace cred : Bool} {m : Master} (h : InForm c s) :
    InForm c (s.unwrapStart t kek usage users wrapped replace cred m).1 :=
  .iteFst h (by split; exact h; exact .iteFst h h)

theorem InForm.archive {slot usage users kek : Nat} {wrapped : List Byte} (h : InForm c s) :
    InForm c (s.archive slot usage users kek wrapped) :=
  .ite h (.programFlash h)

theorem InForm.reinstallOne {b : List Byte} (h : InForm c s) : InForm c (s.reinstallOne b) := by
  unfold State.reinstallOne
  dsimp only
  split
  · exact h
  · split
    · exact .bump h
    · exact h

theorem InForm.reinstall (h : InForm c s) : InForm c s.reinstall :=
  .foldl h .reinstallOne

theorem InForm.unwrapEnd {report : Bool} (h : InForm c s) : InForm c (s.unwrapEnd report).1 := by
  unfold State.unwrapEnd
  split
  · exact h
  · dsimp only
    split
    · exact .ite (.archive (.frame (.archive (.bump h)))) (.archive (.bump h))
    · exact .ite (.archive (.frame (.ite (.frame (.bump h)) (.bump h)))) (.ite (.frame (.bump h)) (.bump h))

theorem InForm.mrdFinish (h : InForm c s) : InForm c s.mrdFinish :=
  h.unwrapEnd.put.put.put

theorem InForm.mrdBegin {a : UnwrapAsk} (h : InForm c s) : InForm c (s.mrdBegin a) :=
  .ite h.put.put (.ite h.put.unwrapStart.put h.put.unwrapStart.put.put)

theorem InForm.mrdNext (h : InForm c s) : InForm c s.mrdNext := by
  unfold State.mrdNext
  split
  · exact .ite h (.mrdBegin h)
  · exact h

theorem InForm.mrdYield (h : InForm c s) : InForm c s.mrdYield := by
  unfold State.mrdYield
  split
  · exact h.advance.mrdFinish
  · exact h

theorem InForm.mrdGoOn {m : Master} (h : InForm c s) : InForm c (mrdGoOn m s) :=
  .ite h (.ite h.putRegBytes.frame h.putRegBytes.mrdBegin)

theorem InForm.mrdGo {m : Master} (h : InForm c s) : InForm c (mrdGo m s) :=
  h.onBus .mrdGoOn

theorem InForm.unwrapDone {at_ : Nat} (h : InForm c s) : InForm c (unwrapDone at_ s) :=
  .ite h.advance h.advance.mrdFinish.mrdNext

theorem InForm.aesBlock {m : Master} {p : List Byte} (h : InForm c s) : InForm c (aesBlock m p s) :=
  h.hostCmd (fun h1 => .iteFst h1 (.iteFst h1 (.iteFst h1 (.ite (.engineClear h1.blockDone.wait.putRegBytes.put.frame)
    h1.blockDone.wait.putRegBytes.put.frame))))

theorem InForm.keyUnwrap {m : Master} {p : List Byte} (h : InForm c s) : InForm c (keyUnwrap m p s) := by
  refine h.hostCmd (fun h1 => .iteFst h1 (.iteFst h1.mrdYield.mrdNext.mrdYield.unwrapStart ?_))
  split
  · rename_i t1 _ e1
    split
    · exact h1.mrdYield.mrdNext.mrdYield.unwrapStart.wait.unwrapEnd.fstEq e1
    · exact h1.mrdYield.mrdNext.mrdYield.unwrapStart.wait.unwrapEnd.fstEq e1

theorem InForm.clearSlot {i : Nat} (h : InForm c s) : InForm c (s.clearSlot i) :=
  .ite h (.archive h)

theorem InForm.clearSlots {mask : Nat} (h : InForm c s) : InForm c (s.clearSlots mask) :=
  h.foldl fun h1 => .ite h1.clearSlot h1

theorem InForm.keySlotClear {m : Master} {p : List Byte} (h : InForm c s) : InForm c (keySlotClear m p s) :=
  h.hostCmd fun h1 => .iteFst h1 h1.clearSlots

theorem InForm.aesFence (h : InForm c s) : InForm c s.aesFence :=
  .frame (.engineClear (.engineClear (.put (.put (.ite h.put.put.put h)))))

/-! ### Budget.lean -/

theorem InForm.refuseBudget (h : InForm c s) : InForm c s.refuseBudget :=
  h.bump

theorem InForm.notePeak (h : InForm c s) : InForm c s.notePeak :=
  h.put

/-! ### Cnt.lean -/

theorem InForm.writeRecord {n v : Nat} {verified : Bool} (h : InForm c s) : InForm c (s.writeRecord n v verified) :=
  .frame (.writeMem (.iteSnd h h.freshBytes))

theorem InForm.loadCounter {n : Nat} (h : InForm c s) : InForm c (s.loadCounter n) := by
  unfold State.loadCounter
  exact .ite h h

theorem InForm.cntRefuse {n : Nat} (h : InForm c s) : InForm c (s.cntRefuse n) :=
  .ite h (.event h)

theorem InForm.cntTake {n : Nat} {x : Nat × State} (h : InForm c s) (e : s.cntTake n = some x) : InForm c x.2 := by
  unfold State.cntTake at e
  cases some_of_ite_none e
  exact h

theorem InForm.cntAsk {r : CntReq} (h : InForm c s) : InForm c (s.cntAsk r).1 := by
  refine .iteFst h (.iteFst h (.iteFst h.cntRefuse ?_))
  split
  · rename_i _ t0 e0
    exact h.cntTake (some_of_ite_none e0)
  · exact h

theorem InForm.cntIncOn {m : Master} {n : Nat} (h : InForm c s) : InForm c (cntIncOn m n s) := by
  unfold Machine.cntIncOn
  split
  · rename_i t0 _ _ e0
    exact .frame (h.cntAsk.fstEq e0)
  · rename_i t0 e0
    exact .frame (h.cntAsk.fstEq e0)

theorem InForm.cntInc {m : Master} {n : Fin 64} (h : InForm c s) : InForm c (cntInc m n s) :=
  h.onBus .cntIncOn

theorem InForm.cntIncrement {m : Master} {p : List Byte} (h : InForm c s) : InForm c (cntIncrement m p s) := by
  refine h.hostCmdLater (fun h1 => ?_)
  split
  · rename_i t1 _ _ e1
    exact h1.cntAsk.fstEq e1
  · rename_i t1 e1
    exact h1.cntAsk.fstEq e1

theorem InForm.cntRead {m : Master} {p : List Byte} (h : InForm c s) : InForm c (cntRead m p s) :=
  h.hostCmd fun h1 => .iteFst h1 h1

theorem InForm.cntFinish {r : CntReq} {st v : Nat} (h : InForm c s) : InForm c (s.cntFinish r st v) :=
  .ite h.answer (.ite h h)

theorem InForm.serveReserved {n : Nat} (h : InForm c s) : InForm c (s.serveReserved n) :=
  .ite h (.foldl h fun h1 => .ite (.cntFinish h1) (.ite h1.cntRefuse.cntFinish h1))

theorem InForm.cntLoadAll {at_ : Nat} (h : InForm c s) : InForm c (s.cntLoadAll at_) :=
  .ite h.advance (.foldl (.put (h.advance.foldl .loadCounter)) .serveReserved)

theorem InForm.cntRecord {verified : Bool} {x : State × CntReq × Nat × Nat} (h : InForm c s) (e : s.cntRecord verified = some x)
    : InForm c x.1 := by
  unfold State.cntRecord at e
  split at e
  · cases e
  · dsimp only at e
    split at e
    · cases e
      exact .cntRefuse h
    · split at e
      · cases e
        exact .frame (.writeRecord h)
      · cases e
        exact .frame (.writeRecord h)

theorem InForm.ceilingFailed {n : Nat} (h : InForm c s) : InForm c (s.ceilingFailed n) :=
  .foldl h .cntFinish

theorem InForm.ceilingWritten {n : Fin 64} {verified : Bool} {at_ : Nat} (h : InForm c s) :
    InForm c (s.ceilingWritten n verified at_) :=
  .ite h.advance (.ite (.ceilingFailed h.advance.writeRecord.frame) (.serveReserved h.advance.writeRecord.frame))

theorem InForm.counterHalfErased {n : Fin 64} {at_ : Nat} (h : InForm c s) : InForm c (counterHalfErased n at_ s) := by
  unfold Machine.counterHalfErased
  dsimp only
  split
  · exact h.advance
  · exact .ite h.advance h.advance.eraseMem.frame

theorem InForm.cntFence (h : InForm c s) : InForm c s.cntFence :=
  .foldl h .cntFinish

/-! ### TimeOps.lean -/

theorem InForm.correct {c' : Int} (h : InForm c s) : InForm c (s.correct c').1 :=
  .iteFst (.put h) h

theorem InForm.trackRate {e : Int} (h : InForm c s) : InForm c (s.trackRate e) :=
  .ite h h

theorem InForm.acceptSample {e : Int} {anchor : Bool} {due : Option Nat} (h : InForm c s) :
    InForm c (s.acceptSample e anchor due).1 := by
  unfold State.acceptSample
  extract_lets u t near
  have ht : InForm c t := h.put
  split
  rename_i v stepped e
  have hv : InForm c v := (InForm.iteFst ht ht.correct).fstEq e
  extract_lets good a b w y z
  have hw : InForm c w := hv.frame
  have hy : InForm c y := .ite hw hw.trackRate
  have hz : InForm c z := .ite hy.frame hy
  exact .fst (.ite hz.frame hz)

theorem InForm.assignRef {value at_ : Nat} (h : InForm c s) : InForm c (s.assignRef value at_).1 :=
  .ite (.frame h.correct.frame) (.frame (.frame h.correct.frame))

theorem InForm.unuseEdge (h : InForm c s) : InForm c s.unuseEdge := by
  unfold State.unuseEdge
  split
  · exact h
  · exact .put (.put (.put (.put h)))

theorem InForm.refEdge (h : InForm c s) : InForm c s.refEdge.1 := by
  refine .iteFst (.put h) ?_
  split
  · exact .put (.frame (.assignRef h))
  · refine .iteFst h ?_
    dsimp only
    split
    · exact .frame (.acceptSample h)
    · exact .frame (.acceptSample h)
    · exact .iteFst (.iteFst (.frame (.frame (.frame (.bump h)))) (.frame (.bump h))) (.frame (.acceptSample h))

theorem InForm.expectedSampleMissed (h : InForm c s) : InForm c (expectedSampleMissed s) :=
  .ite h (.ite (.frame (.frame h.advanceRef.frame)) h.advanceRef.frame)

theorem InForm.restoreTime (h : InForm c s) : InForm c s.restoreTime := by
  unfold State.restoreTime
  split
  · exact h.frame
  · exact .ite h.frame (.ite h.frame h.frame)

theorem InForm.lpRatioUpdate {ratio rcRatio : BitVec 32} {crystal : Bool} {at_ : Nat} (h : InForm c s) :
    InForm c (lpRatioUpdate ratio rcRatio crystal at_ s) :=
  .ite h.advance (.ite (.frame h.advance.frame) h.advance.frame)

theorem InForm.timeGet {m : Master} {p : List Byte} (h : InForm c s) : InForm c (timeGet m p s) :=
  h.hostCmd fun h1 => h1

theorem InForm.setPair {n : Nat} {f : Nat → Field} {v : Nat} (h : InForm c s) : InForm c (s.setPair n f v) :=
  .ite h.put.put h.put

theorem InForm.tmrMoved {n : Nat} (h : InForm c s) : InForm c (s.tmrMoved n) :=
  .ite h h

theorem InForm.tmrSync {n : Nat} (h : InForm c s) : InForm c (s.tmrSync n) :=
  .ite h.setPair.frame (.tmrMoved h.setPair.frame)

theorem InForm.tmrSyncAll (h : InForm c s) : InForm c s.tmrSyncAll :=
  h.foldl .tmrSync

theorem InForm.tmrSetCount {n v : Nat} (h : InForm c s) : InForm c (s.tmrSetCount n v) :=
  h.tmrSync.setPair.tmrMoved

theorem InForm.tmrSetEn {n : Nat} {b : Bool} (h : InForm c s) : InForm c (s.tmrSetEn n b).1 :=
  .putB (.tmrSync (h.foldl .tmrSync))

theorem InForm.tmrUpdated {n v : Nat} (h : InForm c s) : InForm c (s.tmrUpdated n v).1 :=
  .iteFst h (.iteFst (.tmrSetEn (.put (.tmrMoved (.setPair h)))) (.put (.tmrMoved (.setPair h))))

theorem InForm.tmrWithdraw {n : Nat} (h : InForm c s) : InForm c (s.tmrWithdraw n) := by
  unfold State.tmrWithdraw
  split
  · exact .ite h.putB.putB.frame h
  · exact h

theorem InForm.tmrReset {n : Nat} (h : InForm c s) : InForm c (s.tmrReset n).1 :=
  h.tmrSetCount.tmrWithdraw.frame

theorem InForm.tmrWriteCount {n v : Nat} (h : InForm c s) : InForm c (s.tmrWriteCount n v) :=
  h.tmrSetCount.tmrWithdraw.frame

theorem InForm.tmrAdd {n e : Nat} (h : InForm c s) : InForm c (s.tmrAdd n e).1 :=
  .iteFst (.tmrMoved (.setPair h)) (.tmrUpdated h)

theorem InForm.tmrTake {n : Nat} {rising : Bool} (h : InForm c s) : InForm c (s.tmrTake n rising).1 :=
  .iteFst h (.iteFst (.tmrAdd (.iteFst (.tmrSetEn (.iteFst h.tmrSync.tmrReset h.tmrSync)) (.iteFst h.tmrSync.tmrReset h.tmrSync)))
    (.iteFst (.tmrSetEn (.iteFst h.tmrSync.tmrReset h.tmrSync)) (.iteFst h.tmrSync.tmrReset h.tmrSync)))

theorem InForm.tmrCapture {n : Nat} (h : InForm c s) : InForm c (s.tmrCapture n) :=
  .ite (.pushEvtItem (.frame (.put (.setPair (.frame (.ite h.tmrSync.put h.tmrSync)))))) (.put (.setPair (.frame (.ite
    h.tmrSync.put h.tmrSync))))

theorem InForm.tmrCapEdge {n : Nat} {rising : Bool} (h : InForm c s) : InForm c (s.tmrCapEdge n rising) :=
  .ite h h.tmrCapture

theorem InForm.tmrPulseHi {n : Nat} {b : Bool} (h : InForm c s) : InForm c (s.tmrPulseHi n b) :=
  .frame (h.foldl .tmrSync)

theorem InForm.tmrSource {fuel : Nat} {l : List Nat} {src : Nat} {rising : Bool} (h : InForm c s) :
    InForm c (State.tmrSource fuel s l src rising).1 := by
  induction fuel generalizing s l src rising with
  | zero => exact h
  | succ fuel ih =>
    unfold State.tmrSource
    refine .foldlFst h fun {t n} h1 => ?_
    obtain ⟨u, k⟩ := t
    have heard : InForm c (if u.get (TMR_CH_TRIG_TRG_SEL n) = src then
        (u.tmrTake n rising).2.foldl (fun (s, l) e =>
          if !e.pulse then State.tmrSource fuel s l n e.rising
          else if s.tmrHeard n && !l.contains n then State.tmrSource fuel (s.tmrPulseHi n true) (l ++ [n]) n true
          else (s, l)) ((u.tmrTake n rising).1, k)
      else (u, k)).1 :=
      .iteFst (.foldlFst (.tmrTake h1) fun h2 => .iteFst (ih h2) (.iteFst (ih h2.tmrPulseHi) h2)) h1
    exact .iteFst h1 (.ite heard.tmrCapEdge heard)

theorem InForm.tmrFalls {fuel : Nat} {l : List Nat} (h : InForm c s) : InForm c (State.tmrFalls fuel s l) := by
  induction fuel generalizing s l with
  | zero => exact .foldl h .tmrPulseHi
  | succ fuel ih => exact .ite h (ih (.foldlFst h.wait fun h1 => .tmrSource h1.tmrPulseHi))

theorem InForm.tmrOuts {n : Nat} {o : List TrgEdge} (h : InForm c s) : InForm c (s.tmrOuts n o) :=
  .tmrFalls (h.foldlFst fun h1 => .iteFst h1.tmrSource (.iteFst h1.tmrPulseHi.tmrSource h1))

theorem InForm.tmrInput {src : Nat} {rising : Bool} (h : InForm c s) : InForm c (s.tmrInput src rising) :=
  .tmrFalls (.tmrSource (.frame (h.foldl .tmrSync)))

theorem InForm.tmrChange {n : Nat} {f : State → State} (h : InForm c s) (hf : ∀ {t}, InForm c t → InForm c (f t)) :
    InForm c (s.tmrChange n f) :=
  .tmrOuts (hf (.tmrSync (h.foldl .tmrSync)))

theorem InForm.tmrEnable {n : Nat} {b : Bool} (h : InForm c s) : InForm c (s.tmrEnable n b) :=
  h.tmrChange .putB

theorem InForm.tmrStartMask {mask : Nat} (h : InForm c s) : InForm c (s.tmrStartMask mask) :=
  h.foldl fun h1 => .ite h1.tmrEnable h1

theorem InForm.tmrStart {m : Master} {mask : BitVec 16} (h : InForm c s) : InForm c (tmrStart m mask s) :=
  h.onBus .tmrStartMask

theorem InForm.tmrTrigger {n : Fin 16} {rising : Bool} {at_ : Nat} (h : InForm c s) : InForm c (tmrTrigger n rising at_ s) :=
  .ite h.advance.tmrInput h.advance

theorem InForm.tmrCaptureRow {n : Fin 16} {rising : Bool} {at_ : Nat} (h : InForm c s) :
    InForm c (Machine.tmrCapture n rising at_ s) :=
  .ite h.advance.tmrInput h.advance

theorem InForm.tmrUpdate {n : Fin 16} (h : InForm c s) : InForm c (tmrUpdate n s) :=
  .ite h.tmrSync h.tmrSync.wait.tmrSync.tmrUpdated.tmrOuts

theorem InForm.tmrCompare {n : Fin 16} (h : InForm c s) : InForm c (tmrCompare n s) := by
  unfold Machine.tmrCompare
  dsimp only
  split
  · exact h.tmrSync
  · exact .ite h.tmrSync (.tmrOuts h.tmrSync.wait.tmrSync.put.frame)

theorem InForm.capRead {n : Nat} (h : InForm c s) : InForm c (s.capRead n) :=
  .ite h h.put

theorem InForm.fireEdge {arg : Nat} {b : Bool} (h : InForm c s) : InForm c (s.fireEdge arg b) :=
  .ite (.tmrCapEdge (.ite (.tmrOuts (.tmrTake h.tmrSync.frame)) h.tmrSync.frame)) (.ite (.tmrOuts (.tmrTake h.tmrSync.frame))
    h.tmrSync.frame)

theorem InForm.tmrFire {arg : Nat} (h : InForm c s) : InForm c (tmrFire arg s) :=
  .ite h h.fireEdge.wait.fireEdge

theorem InForm.tmrConfig {m : Master} {p : List Byte} (h : InForm c s) : InForm c (tmrConfig m p s) :=
  h.hostCmd fun h1 => .iteFst h1 (.tmrEnable (.frame (.setPair (.setPair (.put (.put (h1.tmrChange .put)))))))

theorem InForm.tmrRead {m : Master} {p : List Byte} (h : InForm c s) : InForm c (tmrRead m p s) := by
  unfold Machine.tmrRead
  exact h.hostCmd .capRead

/-! ### Cred.lean -/

theorem InForm.rowWrite {w : RowWrite} (h : InForm c s) : InForm c (s.rowWrite w) :=
  .withdraw h

theorem InForm.lookUnwrap {r : List Byte} {k : Nat} (h : InForm c s) : InForm c (s.lookUnwrap r k).1 := by
  unfold State.lookUnwrap
  dsimp only
  split
  · exact .mrdNext (.bump (.frame h.mrdYield.frame))
  · exact .ite (.mrdNext (.frame (.bump h.mrdYield.frame))) (.mrdNext h.mrdYield.frame)

theorem InForm.lookChecks {q : LookReq} {source index : Nat} {row : List Byte} {ctr : Nat} (h : InForm c s) :
    InForm c (s.lookChecks q source index row ctr).1 :=
  .iteFst h.lookUnwrap h

theorem InForm.lookMissed {q : LookReq} (h : InForm c s) : InForm c (s.lookMissed q).1 :=
  h.bump

theorem InForm.flashSuspend (h : InForm c s) : InForm c s.flashSuspend :=
  .ite (.put h) h

theorem InForm.lookPop {q : LookReq} {h' : PopHdr} {ns : Nat} {flash : Bool} (h : InForm c s) :
    InForm c (s.lookPop q h' ns flash).1 := by
  unfold State.lookPop
  extract_lets t u f v
  have ht : InForm c t := h.flashSuspend.put
  have hu : InForm c u := .ite ht.raise ht
  have hv : InForm c v := .ite hu.raise hu
  exact .iteFst hu.raise.lookMissed (.iteFst hv.raise.lookMissed (.iteFst hv.lookMissed (.iteFst hv.raise.lookMissed
    hv.bump.lookChecks)))

theorem InForm.lookRun {q : LookReq} {ns : Nat} {flash : Bool} (h : InForm c s) : InForm c (s.lookRun q ns flash).1 := by
  unfold State.lookRun
  refine .iteFst h.bump.lookMissed ?_
  dsimp only
  split
  · exact .lookChecks (.bump (.ite h.bump.frame h.bump))
  · split
    · exact .lookPop (.ite h.bump.frame h.bump)
    · exact .lookMissed (.ite h.bump.frame h.bump)

theorem InForm.lookAsk {q : LookReq} (h : InForm c s) : InForm c (s.lookAsk q) :=
  .frame (.withdraw h)

theorem InForm.lookShow {r : LookRes} (h : InForm c s) : InForm c (s.lookShow r) :=
  h.put

theorem InForm.lookGo {v : Word} (h : InForm c s) : InForm c (s.lookGo v) :=
  .ite h.put.put (.ite h.put.put.lookShow h.put.put.put.lookAsk)

theorem InForm.credLkGo {m : Master} {v : Word} (h : InForm c s) : InForm c (credLkGo m v s) :=
  h.onBus .lookGo

theorem InForm.credBoundary (h : InForm c s) : InForm c s.credBoundary :=
  .ite h.applyStaged.unitSettle h

theorem InForm.lookupDone {timeNs : BitVec 32} {flash : Bool} {at_ : Nat} (h : InForm c s) :
    InForm c (lookupDone timeNs flash at_ s) := by
  unfold Machine.lookupDone
  dsimp only
  split
  · exact h.advance
  · exact .ite h.advance (.credBoundary (.frame (.ite (.lookShow (.lookRun h.advance.frame)) (.frame (.lookRun
      h.advance.frame)))))

theorem InForm.mapLoadStart (h : InForm c s) : InForm c s.mapLoadStart :=
  .put h

theorem InForm.popShow (h : InForm c s) : InForm c s.popShow := by
  unfold State.popShow
  split
  · exact h.put.put.put
  · exact h.put.put.put

theorem InForm.mapCopy_ (h : InForm c s) : InForm c s.mapCopy_ :=
  .foldl (InForm.filterMem h) .setMem8

theorem InForm.revmapLoaded {ok : Bool} {at_ : Nat} (h : InForm c s) : InForm c (revmapLoaded ok at_ s) :=
  .ite h.advance (.ite (.frame (.frame (.popShow h.advance.frame))) (.put (.mapCopy_ (.popShow h.advance.frame))))

theorem InForm.lockEvent {scope : Nat} {id : List Byte} {secs : Nat} (h : InForm c s) : InForm c (s.lockEvent scope id secs) :=
  h.event

theorem InForm.lockEventAll {scope secs : Nat} (h : InForm c s) : InForm c (s.lockEventAll scope secs) := by
  unfold State.lockEventAll
  dsimp only
  exact h.freshBytes.lockEvent

theorem InForm.countCred {id : List Byte} (h : InForm c s) : InForm c (s.countCred id) := by
  unfold State.countCred
  split
  · exact h
  · exact .ite (.lockEvent (.bump h)) h

theorem InForm.countGlobal (h : InForm c s) : InForm c s.countGlobal :=
  .ite (.lockEventAll (.frame (.bump h.bump.frame))) h.bump.frame

theorem InForm.countOutcome {st : Nat} {id : List Byte} {found : Bool} (h : InForm c s) : InForm c (s.countOutcome st id found) :=
  .ite (.countGlobal (.ite h.countCred h)) (.ite h.countCred h)

theorem InForm.credLockExpiry (h : InForm c s) : InForm c (credLockExpiry s) := by
  unfold Machine.credLockExpiry
  split
  · exact h
  · exact h.advanceLp.frame

theorem InForm.globalLockExpiry (h : InForm c s) : InForm c (globalLockExpiry s) := by
  unfold Machine.globalLockExpiry
  split
  · exact h
  · exact h.advanceLp.frame

theorem InForm.authLockoutStatus {m : Master} {p : List Byte} (h : InForm c s) : InForm c (authLockoutStatus m p s) :=
  h.hostCmd fun h1 => .iteFst h1 h1

theorem InForm.authLockoutClear {m : Master} {p : List Byte} (h : InForm c s) : InForm c (authLockoutClear m p s) :=
  h.hostCmd fun h1 => .iteFst h1 (.iteFst (.iteFst h1 (.lockEvent h1)) (.lockEventAll h1))

theorem InForm.credChanged {op idx issuer epoch : Nat} (h : InForm c s) : InForm c (s.credChanged op idx issuer epoch) :=
  h.event

theorem InForm.slotStore {t : State} {p : PopHdr} {i ctr : Nat} (h : InForm c s) (e : s.slotStore p i ctr = some t) :
    InForm c t := by
  obtain ⟨k, -, rfl⟩ := Option.map_eq_some_iff.1 e
  exact h.programFlash

theorem InForm.evictFrom {l : List Nat} {x : Nat × State} (h : InForm c s) (e : s.evictFrom l = some x) : InForm c x.2 := by
  induction l with
  | nil => cases e
  | cons i l ih =>
    unfold State.evictFrom at e
    dsimp only at e
    split at e
    · exact ih e
    · split at e
      · exact ih e
      · split at e
        · rename_i hstored
          cases e
          exact .frame (h.slotStore (some_of_ite_none hstored))
        · exact ih e

theorem InForm.takeRow {x : Nat × State} (h : InForm c s) (e : s.takeRow = some x) : InForm c x.2 := by
  unfold State.takeRow at e
  split at e
  · cases e
    exact h
  · exact h.evictFrom e

theorem InForm.blobStore {f : LookRes} {ctr : Nat} (h : InForm c s) : InForm c (s.blobStore f ctr) := by
  unfold State.blobStore
  refine .getD (fun e => ?_) h.frame
  split at e
  · cases e
  · split at e
    · exact h.slotStore e
    · exact h.slotStore (some_of_ite_none e)

theorem InForm.storeCounter {f : LookRes} {ctr : Nat} (h : InForm c s) : InForm c (s.storeCounter f ctr) := by
  unfold State.storeCounter
  split
  · exact h.rowWrite
  · refine .ite (.ite h.blobStore h) ?_
    split
    · rename_i _ t1 e1
      exact .rowWrite (h.takeRow (some_of_ite_none e1))
    · exact h.blobStore

theorem InForm.credAdd {m : Master} {p : List Byte} (h : InForm c s) : InForm c (credAdd m p s) := by
  refine h.hostCmdLater (fun h1 => .iteFst h1 (.iteFst (.ite h1.bump.frame h1) ?_))
  dsimp only
  split
  · exact h1.bump.rowWrite
  · split
    · rename_i _ t2 e2
      exact .rowWrite (h1.bump.takeRow e2)
    · exact h1.bump

theorem InForm.credRemove {m : Master} {p : List Byte} (h : InForm c s) : InForm c (credRemove m p s) :=
  h.hostCmdLater fun h1 => .iteFst h1 (by split; exact h1; exact h1.rowWrite)

theorem InForm.credQuery {m : Master} {p : List Byte} (h : InForm c s) : InForm c (credQuery m p s) :=
  h.hostCmd fun h1 => .iteFst h1 (by dsimp only; split <;> exact h1)

theorem InForm.flashAsk {o : FlashOp} (h : InForm c s) : InForm c (s.flashAsk o) :=
  .frame (.notePeak h)

theorem InForm.popStart {o : PopOp} {addr : Nat} {data : List Byte} (h : InForm c s) : InForm c (s.popStart o addr data) :=
  .withdraw (.flashAsk h)

theorem InForm.popDone {op st live : Nat} (h : InForm c s) : InForm c (s.popDone op st live) :=
  h.event

theorem InForm.popBuild {m : Master} {c' : Option ReqCtx} {p : List Byte} (h : InForm c s) : InForm c (s.popBuild m c' p).1 := by
  unfold State.popBuild
  split
  · exact .iteFst h (.withdraw (.put h))
  · exact .iteFst h h.popStart
  · exact .iteFst h (.withdraw h)

theorem InForm.popChange {m : Master} {c' : Option ReqCtx} {p : List Byte} (h : InForm c s) :
    InForm c (s.popChange m c' p).1 := by
  unfold State.popChange
  split
  · exact h
  · split
    · exact .iteFst h (.iteFst h (by split; exact h; exact h.popStart))
    · exact .iteFst h h.popStart
    · exact .iteFst h h.popStart

theorem InForm.credPopLoad {m : Master} {p : List Byte} (h : InForm c s) : InForm c (credPopLoad m p s) :=
  h.hostCmdLater fun h1 => .iteFst h1 (.iteFst h1 (.iteFst h1.popBuild h1.popChange))

theorem InForm.popFlashDone {st : Nat} (h : InForm c s) : InForm c (s.popFlashDone st) := by
  unfold State.popFlashDone
  split
  · exact h
  · extract_lets done reply t u a
    have hdone {t} (ht : InForm c t) : InForm c (done t) := ht.frame
    have hreply {t} (ht : InForm c t) : InForm c (reply t) := .credBoundary (.ite (hdone ht) (hdone ht).answer)
    refine .ite (hreply h) ?_
    split
    · exact hreply h
    · exact .ite (hreply h) (.flashAsk h.frame)
    · have ht : InForm c t := h.credChanged
      have hu : InForm c u := .ite ht ht.frame
      refine .ite (hreply hu.setMem8) (.ite ?_ (hreply hu))
      split
      · exact .ite (.rowWrite (hdone hu)) (hreply hu)
      · exact hreply hu

theorem InForm.directoryRowWritten {at_ : Nat} (h : InForm c s) : InForm c (directoryRowWritten at_ s) := by
  unfold Machine.directoryRowWritten
  extract_lets t
  have ht : InForm c t := h.advance
  split
  · exact ht
  · extract_lets old u v w
    have hu : InForm c u := .writeMem ht.frame
    have hv : InForm c v := .ite hu hu.frame
    have hw : InForm c w := .ite hv.credChanged.answer (.ite (.answer (.credChanged hu.frame)) (.ite hu.answer hu))
    exact .ite ht hw.credBoundary

theorem InForm.buildEraseDone {at_ : Nat} (h : InForm c s) : InForm c (buildEraseDone at_ s) :=
  .ite h.advance (.credBoundary (.popDone (.popShow h.advance.eraseFlash.frame)))

theorem InForm.buildCommitDone {flash : Bool} {at_ : Nat} (h : InForm c s) : InForm c (buildCommitDone flash at_ s) := by
  unfold Machine.buildCommitDone
  dsimp only
  split
  · exact h.advance
  · exact .credBoundary (.popDone (.ite (.mapLoadStart (.popShow (.programFlash (.frame (.ite h.advance h.advance.frame)))))
      (.frame (.ite h.advance h.advance.frame))))

theorem InForm.epochStep (h : InForm c s) : InForm c s.epochStep := by
  unfold State.epochStep
  split
  · exact h
  · refine .ite (.answer (.ite (.credChanged h) h)) ?_
    split
    · rename_i t1 _ _ e1
      exact .answer (.ite (.credChanged (.frame (h.cntAsk.fstEq e1))) (.frame (h.cntAsk.fstEq e1)))
    · rename_i t1 e1
      exact h.cntAsk.fstEq e1

theorem InForm.credRevokeEpoch {m : Master} {p : List Byte} (h : InForm c s) : InForm c (credRevokeEpoch m p s) :=
  h.hostCmdLater fun h1 => .iteFst h1 (.iteFst h1 (.iteFst h1 (.epochStep h1)))

theorem InForm.epochCounted {st : Nat} (h : InForm c s) : InForm c (s.epochCounted st) := by
  unfold State.epochCounted
  split
  · exact h
  · exact .ite h.epochStep (.answer h)

theorem InForm.credFence (h : InForm c s) : InForm c s.credFence := by
  unfold State.credFence
  extract_lets t u v w x
  have ht : InForm c t := .ite h.lookShow h
  have hu : InForm c u := by
    unfold u
    split
    · exact .ite ht ht.answer
    · exact ht
  have hv : InForm c v := by
    unfold v
    split
    · exact hu.answer
    · exact hu
  have hw : InForm c w := .foldl hv fun hr => .ite hr.answer (.ite hr.answer (.ite hr.answer hr))
  exact .frame hw.frame

end Sys2Proof.Machine

/-!
PROOF. The functions of Rng.lean, Lf.lean, Urx.lean and Utx.lean under Machine/ keep the form of the state (O4), in the order of
the model; each by the rules for what it is composed of.
-/
namespace Sys2Proof.Machine

-- The lemmas are many and short: proved one after the other, they stay within the threads that the check allows.
set_option Elab.async false

variable {c : Option Nat} {s : State}

/-! ### Rng.lean -/

theorem InForm.refillFifo (h : InForm c s) : InForm c s.refillFifo :=
  .ite h h

theorem InForm.conditioned {n : Nat} (h : InForm c s) : InForm c (s.conditioned n).2 := by
  induction n generalizing s with
  | zero => exact h
  | succ n ih =>
    have hadc : InForm c (if (s.freshBytes 64).2.flag TRNG_CTRL_RF_MIX && (s.freshBytes 64).2.radioOn then
        (s.freshBytes 64).2.freshBytes 8 else ([], (s.freshBytes 64).2)).2 :=
      .iteSnd h.freshBytes.freshBytes h.freshBytes.snd
    exact ih hadc

theorem InForm.poolFollow (h : InForm c s) : InForm c s.poolFollow := by
  refine .ite h ?_
  split
  · rename_i _ t0 e0
    exact .frame (h.conditioned.sndEq e0)

theorem InForm.drbgInstantiate (h : InForm c s) : InForm c s.drbgInstantiate := by
  unfold State.drbgInstantiate
  split
  · rename_i _ t0 e0
    exact .frame (h.conditioned.sndEq e0)

theorem InForm.drbgReseeded (h : InForm c s) : InForm c s.drbgReseeded :=
  .frame (by split; exact h; exact h.conditioned)

theorem InForm.rngStart {cause : Nat} {stopped : Bool} (h : InForm none s) : InForm none (s.rngStart cause stopped) :=
  .put (.put h)

theorem InForm.rngRead {m : Master} {p : List Byte} (h : InForm c s) : InForm c (rngRead m p s) :=
  h.hostCmdLater fun h1 => .iteFst h1 (.iteFst h1 h1)

theorem InForm.fifoRead (h : InForm c s) : InForm c s.fifoRead.2 := by
  unfold State.fifoRead
  split
  · exact h.put.snd
  · exact .snd (.refillFifo h)

theorem InForm.trngFifoRead {m : Master} (h : InForm c s) : InForm c (trngFifoRead m s) :=
  h.onRead .fifoRead

/-! ### Lf.lean -/

theorem InForm.lfBoundary (h : InForm c s) : InForm c s.lfBoundary :=
  .ite h (.applyStaged h)

theorem InForm.lfCut (h : InForm c s) : InForm c s.lfCut := by
  unfold State.lfCut
  split
  · exact h
  · exact .ite h h

theorem InForm.lfDone {sd : LfSend} {outcome status played mask us : Nat} (h : InForm c s) :
    InForm c (s.lfDone sd outcome status played mask us) :=
  .ite (.pushEvtItem h) (.pushEvtItem h)

theorem InForm.lfRefuse {sd : LfSend} {status : Nat} (h : InForm c s) : InForm c (s.lfRefuse sd status) :=
  .lfDone h

theorem InForm.lfRefuseAll {status : Nat} (h : InForm c s) : InForm c (s.lfRefuseAll status) :=
  h.foldl .lfRefuse

theorem InForm.lfCalPlaceOne {d : Nat × Option Nat} (h : InForm c s) : InForm c (s.lfCalPlaceOne d) := by
  unfold State.lfCalPlaceOne
  split
  · exact h
  · exact h

theorem InForm.lfCalPlace (h : InForm c s) : InForm c s.lfCalPlace :=
  h.foldl .lfCalPlaceOne

theorem InForm.lfCalMark {n : Nat} (h : InForm c s) : InForm c (s.lfCalMark n) :=
  .ite h (.lfCalPlace h)

theorem InForm.lfCalUndue {n : Nat} (h : InForm c s) : InForm c (s.lfCalUndue n) :=
  .frame (by split <;> exact h)

theorem InForm.lfCalReport {n result : Nat} {temp : Int} (h : InForm c s) : InForm c (s.lfCalReport n result temp) :=
  .ite h (.ite h.event h.event.frame)

theorem InForm.lfCalStopped {n : Nat} {temp : Int} (h : InForm c s) : InForm c (s.lfCalStopped n temp) :=
  .event (.lfCalReport (.lfCalMark (.frame (by split <;> exact h))))

theorem InForm.lfCalPreempt {used : Nat → Bool} (h : InForm c s) : InForm c (s.lfCalPreempt used) := by
  unfold State.lfCalPreempt
  split
  · exact .ite h.lfCalStopped h
  · exact h

theorem InForm.lfBegin {t : LfTx} (h : InForm c s) : InForm c (s.lfBegin t) :=
  .lfCalPreempt h

theorem InForm.lfStart {sd : LfSend} (h : InForm c s) : InForm c (s.lfStart sd) :=
  .ite h.lfRefuse (by split; exact h.lfRefuse; exact .ite h.refuseBudget.lfRefuse (.withdraw (.notePeak (.lfBegin h))))

theorem InForm.lfCorrect {n : Nat} {ahead : Int} (h : InForm c s) : InForm c (s.lfCorrect n ahead) :=
  .ite h h

theorem InForm.lfMeasured {t : LfTx} {m : LfMeas} (h : InForm c s) : InForm c (s.lfMeasured t m) := by
  unfold State.lfMeasured
  split
  · exact h
  · exact .ite (.frame (.put (.ite h.put.put.putB.lfCorrect.put.frame h.put.put.putB.lfCorrect))) (.ite
      h.put.put.putB.lfCorrect.put.frame h.put.put.putB.lfCorrect)

theorem InForm.lfFinish {status : Nat} {meas : List LfMeas} (h : InForm c s) : InForm c (s.lfFinish status meas) := by
  unfold State.lfFinish
  split
  · exact h
  · exact .lfBoundary (.frame (.ite (.lfDone (.ite (.frame (.frame (h.foldl .lfMeasured))) (.frame (h.foldl .lfMeasured)))) (.ite
      (.frame (.frame (h.foldl .lfMeasured))) (.frame (h.foldl .lfMeasured)))))

theorem InForm.burstOver {meas : List LfMeas} (h : InForm c s) : InForm c (s.burstOver meas) := by
  unfold State.burstOver
  split
  · exact .ite h.lfFinish h
  · exact h

theorem InForm.lfSendStart (h : InForm c s) : InForm c (lfSendStart s) := by
  refine .ite h ?_
  split
  · exact h
  · exact .ite h.advanceRef.burstOver.lfRefuse (.ite h.advanceRef.burstOver (.ite (.ite h.advanceRef.burstOver.lfCut
      h.advanceRef.burstOver) h.advanceRef.burstOver.lfStart))

theorem InForm.lfTxDone {meas : List LfMeas} (h : InForm c s) : InForm c (lfTxDone meas s) := by
  unfold Machine.lfTxDone
  split
  · exact h
  · exact .ite h.advance.lfFinish (.ite (.lfFinish h.advance.frame) h)

theorem InForm.lfAbort {status : Nat} (h : InForm c s) : InForm c (s.lfAbort status) := by
  unfold State.lfAbort
  split
  · exact h
  · exact .frame (.lfFinish h)

theorem InForm.lfOvercurrent {n : Fin 12} {at_ : Nat} (h : InForm c s) : InForm c (lfOvercurrent n at_ s) :=
  .frame h.advance.put.frame

theorem InForm.lfVlf {at_ : Nat} (h : InForm c s) : InForm c (lfVlf at_ s) :=
  .frame (h.advance.foldl .frame)

theorem InForm.vlfReturn {at_ : Nat} (h : InForm c s) : InForm c (vlfReturn at_ s) :=
  h.advance.frame

theorem InForm.lfFaultEffect {fid n : Nat} (h : InForm c s) : InForm c (s.lfFaultEffect fid n) := by
  unfold State.lfFaultEffect
  refine .ite (.foldl h .frame) (.ite h ?_)
  split
  extract_lets t u
  have ht : InForm c t := by
    unfold t
    split
    · exact h.put
    · exact h
  have hu : InForm c u := .ite ht.put ht
  exact .ite hu.frame hu

theorem InForm.lfChansStart (h : InForm c s) : InForm c s.lfChansStart :=
  h.foldl fun h1 => .ite h1 h1

theorem InForm.lfEnable {n : Nat} {en : Bool} (h : InForm c s) : InForm c (s.lfEnable n en) := by
  unfold State.lfEnable
  dsimp only
  split
  · exact .ite h.putB.frame h.putB
  · exact h.putB.frame
  · exact h.putB.frame
  · exact h.putB.frame
  · exact h.putB

theorem InForm.lfConfigChan {m : Master} {p : List Byte} (h : InForm c s) : InForm c (lfConfigChan m p s) :=
  h.hostCmd fun h1 => .iteFst h1 h1.stage.stage.stage.stage.lfEnable.fst

theorem InForm.lfBlockEnable {en : Bool} (h : InForm c s) : InForm c (s.lfBlockEnable en) := by
  unfold State.lfBlockEnable
  dsimp only
  split
  · exact .lfChansStart h.putB.frame
  · exact h.putB.frame
  · exact h.putB.frame
  · exact h.putB.lfRefuseAll.frame
  · exact h.putB

theorem InForm.lfConfigAll {m : Master} {p : List Byte} (h : InForm c s) : InForm c (lfConfigAll m p s) :=
  h.hostCmd (fun h1 => .iteFst h1 (.fst (.lfBlockEnable (.ite h1.stage.stage.stage.stage.stage
    h1.stage.stage.stage.stage.stage.stage))))

theorem InForm.lfConfigCh {m : Master} {p : List Byte} (h : InForm c s) : InForm c (lfConfigCh m p s) :=
  .ite h.lfConfigAll h.lfConfigChan

theorem InForm.lfQueue {sd : LfSend} (h : InForm c s) : InForm c (s.lfQueue sd).1 :=
  .iteFst h (.iteFst h (.fst (.ite (.withdraw h) (.ite (.lfRefuse (.withdraw h)) (.frame (.withdraw h))))))

theorem InForm.lfSend {m : Master} {p : List Byte} (h : InForm c s) : InForm c (lfSend m p s) :=
  h.hostCmdLater fun h1 => .iteFst h1 (.iteFst h1 h1.lfQueue.fst)

theorem InForm.nonceErase (h : InForm c s) : InForm c s.nonceErase :=
  .put (.foldl h .put)

theorem InForm.lfRngHealth (h : InForm c s) : InForm c s.lfRngHealth :=
  h.nonceErase.foldl .lfRefuse

theorem InForm.lfDiag {m : Master} {p : List Byte} (h : InForm c s) : InForm c (lfDiag m p s) :=
  h.hostCmd fun h1 => .iteFst h1 (.iteFst h1 (.iteFst h1 (.iteFst h1.refuseBudget.fst (.fst (.withdraw h1)))))

theorem InForm.lfCalEnd {n : Nat} {ok : Bool} {temp : Int} (h : InForm c s) : InForm c (s.lfCalEnd n ok temp) :=
  .lfCalPlace (.event (.lfCalReport (.ite (.put (.frame (.frame (.frame (by split <;> exact h))))) (.frame (.put (.frame
    (.frame (by split <;> exact h))))))))

theorem InForm.lfCalDue {n : Fin 12} {temp : BitVec 8} {at_ : Nat} (h : InForm c s) : InForm c (lfCalDue n temp at_ s) :=
  .ite h.advance.lfCalMark h.advance

theorem InForm.diagApply {d : LfDiag} {sweep : Bool} {n : Nat} {f : LfFinding} (h : InForm c s) :
    InForm c (s.diagApply d sweep n f) := by
  unfold State.diagApply
  extract_lets found t u v l w x
  have ht : InForm c t := .ite h.lfFaultEffect.raise h
  have hu : InForm c u := .ite ht.lfFaultEffect.raise ht
  have hv : InForm c v := .ite hu.lfFaultEffect.raise hu
  have hw : InForm c w := .ite h (.ite hv.frame hv)
  have hx : InForm c x := .ite hw hw.put.put
  exact .ite hx hx.lfCalEnd

theorem InForm.diagReport {d : LfDiag} {ents : List Byte} {n tested : Nat} (h : InForm c s) :
    InForm c (s.diagReport d ents n tested) :=
  h.pushEvtItem.event

theorem InForm.lfDiagDone {found : List LfFinding} {at_ : Nat} (h : InForm c s) : InForm c (lfDiagDone found at_ s) := by
  unfold Machine.lfDiagDone
  split
  · exact .ite h (.lfBoundary (.frame (.diagReport (.frame (h.advance.foldl .diagApply)))))
  · exact h

theorem InForm.lfDiagEnd (h : InForm c s) : InForm c s.lfDiagEnd := by
  unfold State.lfDiagEnd
  split
  · exact h
  · exact .diagReport h

theorem InForm.lfDiagBegin (h : InForm c s) : InForm c s.lfDiagBegin := by
  unfold State.lfDiagBegin
  split
  · exact h
  · exact .ite h (.ite h.lfDiagEnd (.ite h (.ite h.lfDiagEnd (.ite h.refuseBudget.lfDiagEnd (.notePeak (.lfBegin h))))))

theorem InForm.lfCalDone {n outcome : Nat} {temp : Int} (h : InForm c s) : InForm c (s.lfCalDone n outcome temp) := by
  unfold State.lfCalDone
  split
  · exact h
  · extract_lets t
    have ht : InForm c t := by
      unfold t
      split
      · exact h.advanceRef
      · exact h
    exact .ite ht (.ite ht.lfCalStopped (.ite ht ht.lfCalEnd))

/-! ### Urx.lean -/

theorem InForm.winEvent {w : Nat} {u : UnitState} {cause : Nat} (h : InForm c s) : InForm c (s.winEvent w u cause) :=
  h.event

theorem InForm.captureEvent {phase status : Nat} (h : InForm c s) : InForm c (s.captureEvent phase status) :=
  h.event

theorem InForm.cancelCapture (h : InForm c s) : InForm c s.cancelCapture :=
  .ite h (.frame (.captureEvent h))

theorem InForm.moveWin {w : Nat} {u : UnitState} {cause : Nat} (h : InForm c s) : InForm c (s.moveWin w u cause) :=
  .ite (.cancelCapture (.winEvent h)) (.winEvent h)

theorem InForm.urxBoundary {w : Nat} (h : InForm c s) : InForm c (s.urxBoundary w) := by
  unfold State.urxBoundary
  exact .ite (h.foldl fun h1 => .ite h1 h1.applyStaged) (.applyStaged (h.foldl fun h1 => .ite h1 h1.applyStaged))

theorem InForm.winSettle {w : Nat} (h : InForm c s) : InForm c (s.winSettle w) :=
  .ite h (by split; exact h.moveWin; exact h.moveWin.moveWin.frame; exact h)

theorem InForm.startWin {w cause : Nat} (h : InForm c s) : InForm c (s.startWin w cause) := by
  unfold State.startWin
  split
  · exact h.moveWin
  · exact h.moveWin
  · exact h
  · exact h

theorem InForm.stopWin {w cause : Nat} (h : InForm c s) : InForm c (s.stopWin w cause) := by
  unfold State.stopWin
  split
  · exact .winSettle (h.moveWin.foldl fun h2 => .ite h2 h2)
  · exact h
  · exact h.moveWin
  · exact h

theorem InForm.winStarted {w : Nat} (h : InForm c s) : InForm c (s.winStarted w) :=
  .ite h (.ite (.winSettle (.moveWin h)) (.moveWin h))

theorem InForm.portsOut (h : InForm c s) : InForm c s.portsOut :=
  .ite h h

theorem InForm.preambleDetected {n : Fin 64} {bits more at_ : Nat} (h : InForm c s) :
    InForm c (preambleDetected n bits more at_ s) :=
  .ite h.advance h.advance.frame

theorem InForm.jamArmed {before : Bool} (h : InForm c s) : InForm c (s.jamArmed before) :=
  .ite h (h.foldl .frame)

theorem InForm.skipFrom {w : Nat} (h : InForm c s) : InForm c (s.skipFrom w) :=
  .ite h h

theorem InForm.skipEnd {w : Nat} (h : InForm c s) : InForm c (s.skipEnd w) := by
  unfold State.skipEnd
  dsimp only
  split
  · exact h
  · exact h

theorem InForm.syncAccepted {n : Nat} {word : BitVec 32} {hdr : Byte} (h : InForm c s) : InForm c (s.syncAccepted n word hdr) :=
  .ite h (.skipFrom h)

theorem InForm.syncSearchTimeout {n : Fin 64} (h : InForm c s) : InForm c (syncSearchTimeout n s) :=
  .ite h h.advance.frame

theorem InForm.frameLost {n : Nat} {report : Bool} (h : InForm c s) : InForm c (s.frameLost n report) :=
  .ite h.bump.bump.frame h.bump.bump

theorem InForm.bypassSettle (h : InForm c s) : InForm c s.bypassSettle := by
  unfold State.bypassSettle
  split
  · exact h
  · exact h

theorem InForm.adcSettle (h : InForm c s) : InForm c s.adcSettle := by
  unfold State.adcSettle
  split
  · exact h
  · exact h

theorem InForm.frameGone {n : Nat} (h : InForm c s) : InForm c (s.frameGone n) :=
  .adcSettle (.bypassSettle (.urxBoundary (.winSettle (.skipEnd h))))

theorem InForm.frameEnd {n : Nat} {rx : Reception} (h : InForm c s) : InForm c (s.frameEnd n rx).1 := by
  refine .iteFst h (.iteFst h.advance.frameGone.fst (.iteFst (.fst (.frameGone (.ite h.advance h.advance.bump))) ?_))
  split
  · rename_i t0 e0
    exact .fst (.frameGone (.bump (.linkSent (.pushItem (.ite h.advance h.advance.bump) e0))))
  · exact .fst (.frameGone (.frameLost (.ite h.advance h.advance.bump)))

theorem InForm.gatherTrigger {k a : Nat} (h : InForm c s) : InForm c (s.gatherTrigger k a) :=
  .ite h h

theorem InForm.jamOn {w : Nat} {power : BitVec 16} (h : InForm c s) : InForm c (s.jamOn w power) :=
  .ite h (.gatherTrigger (.frame (.event (.putBit h))))

theorem InForm.urxJamClear {w : Fin 4} {at_ : Nat} (h : InForm c s) : InForm c (urxJamClear w at_ s) :=
  .ite h.advance (.event (.frame h.advance.frame))

theorem InForm.bypassEngage {at_ : Nat} (h : InForm c s) : InForm c (bypassEngage at_ s) :=
  .ite h.advance (.bypassSettle h.advance.frame)

theorem InForm.bypassRelease {at_ : Nat} (h : InForm c s) : InForm c (bypassRelease at_ s) :=
  .bypassSettle h.advance.frame

theorem InForm.urxAdcFault {portB : Bool} {at_ : Nat} (h : InForm c s) : InForm c (urxAdcFault portB at_ s) :=
  .frame h.advance.frame

theorem InForm.adcSelfCheckDone {portB passed : Bool} {at_ : Nat} (h : InForm c s) :
    InForm c (adcSelfCheckDone portB passed at_ s) :=
  .ite h.advance (.ite (.frame h.advance.frame) (.frame (.frame h.advance.frame)))

theorem InForm.captureTrigger {at_ : Nat} (h : InForm c s) : InForm c (captureTrigger at_ s) := by
  unfold Machine.captureTrigger
  dsimp only
  split
  · exact h.advance
  · exact .eventAt h.advance.advance.frame

theorem InForm.gatherReadItem (h : InForm c s) : InForm c (gatherReadItem s) := by
  refine .ite h ?_
  split
  · exact h
  · rename_i t0 e0
    exact .ite (.frame (h.pushItem e0)) (.captureEvent (.frame (h.pushItem e0)))

theorem InForm.gatherReadTimeout (h : InForm c s) : InForm c (gatherReadTimeout s) := by
  unfold Machine.gatherReadTimeout
  refine .ite h ?_
  dsimp only
  split
  · rename_i t0 e0
    exact h.advance
  · exact .captureEvent h.advance.frame

theorem InForm.rfCapture {m : Master} {p : List Byte} (h : InForm c s) : InForm c (rfCapture m p s) :=
  h.hostCmd (fun h1 => .iteFst (.iteFst h1 (.iteFst h1.refuseBudget.fst (.fst (.withdraw (.notePeak h1))))) (.iteFst (.iteFst h1
    (.iteFst h1.refuseBudget.fst h1)) h1.cancelCapture.fst))

theorem InForm.urxStartMask {mask cause : Nat} {slot : Option Nat} (h : InForm c s) :
    InForm c (s.urxStartMask mask cause slot).1 :=
  .iteFst h (.iteFst h.refuseBudget.fst (.fst (.withdraw (.notePeak (h.foldl fun h1 => .ite h1.startWin.frame h1.startWin)))))

theorem InForm.urxStopMask {mask cause : Nat} (h : InForm c s) : InForm c (s.urxStopMask mask cause) :=
  h.foldl .stopWin

theorem InForm.urxStart {m : Master} {p : List Byte} (h : InForm c s) : InForm c (urxStart m p s) :=
  h.hostCmd fun h1 => h1.urxStartMask.fst

theorem InForm.urxStop {m : Master} {p : List Byte} (h : InForm c s) : InForm c (urxStop m p s) :=
  h.hostCmd fun h1 => h1.urxStopMask.fst

theorem InForm.urxConfigWin {m : Master} {p : List Byte} (h : InForm c s) : InForm c (urxConfigWin m p s) :=
  h.hostCmd fun h1 => .iteFst h1 h1.stage.stage.stage.fst

theorem InForm.urxConfigChan {m : Master} {p : List Byte} (h : InForm c s) : InForm c (urxConfigChan m p s) :=
  h.hostCmd fun h1 => .iteFst h1 (.fst (.stage (.stage (.stage (.stage (.stage (.stage (.ite h1 h1))))))))

theorem InForm.urxConfigSent {m : Master} {p : List Byte} (h : InForm c s) : InForm c (urxConfigSent m p s) := by
  unfold Machine.urxConfigSent
  exact h.hostCmd fun h1 => h1.put.put.fst

theorem InForm.urxConfigAll {m : Master} {p : List Byte} (h : InForm c s) : InForm c (urxConfigAll m p s) :=
  h.hostCmd fun h1 => .iteFst h1 h1.put.put.jamArmed.fst

theorem InForm.urxConfig {m : Master} {p : List Byte} (h : InForm c s) : InForm c (urxConfig m p s) := by
  unfold Machine.urxConfig
  split
  · exact h.urxConfigWin
  · exact h.urxConfigChan
  · exact h.urxConfigSent
  · exact h.urxConfigAll
  · exact h.hostCmd .frame

theorem InForm.dropFrames (h : InForm c s) : InForm c s.dropFrames := by
  unfold State.dropFrames
  exact .adcSettle (.bypassSettle (.foldl (h.foldl fun h1 => .ite h1.frameLost.frame h1) fun h1 => h1.skipEnd.urxBoundary))

theorem InForm.urxPllLost (h : InForm c s) : InForm c s.urxPllLost :=
  .foldl (.dropFrames h) fun h1 => .ite h1.moveWin.frame h1.winSettle

theorem InForm.urxRelock (h : InForm c s) : InForm c s.urxRelock :=
  .foldl h fun h1 => .ite h1.winStarted h1

theorem InForm.urxFence (h : InForm c s) : InForm c s.urxFence :=
  .foldl (by split; exact h.dropFrames.cancelCapture.frame; exact h.dropFrames.cancelCapture) fun h1 => .ite h1 h1.moveWin

theorem InForm.urxRelease (h : InForm c s) : InForm c s.urxRelease :=
  h.foldl fun h1 => .ite h1.moveWin h1

/-! ### Utx.lean -/

theorem InForm.refuseDuty {b : Nat} {high : Bool} (h : InForm c s) : InForm c (s.refuseDuty b high) :=
  .ite h.bump (.frame (.event h.bump.frame))

theorem InForm.dutyBinRoll (h : InForm c s) : InForm c (dutyBinRoll s) :=
  h.advanceLp.frame

theorem InForm.blank {to_ : Nat} (h : InForm c s) : InForm c (s.blank to_) := by
  unfold State.blank
  dsimp only
  split
  · exact .ite (.frame (.foldl (.frame h.bump.frame) .frameGone)) (.foldl (.frame h.bump.frame) .frameGone)
  · exact .foldl (.frame h.bump.frame) .frameGone

theorem InForm.calEvent {d : CalDue} {result : Nat} {temp : Int} {us : Nat} (h : InForm c s) :
    InForm c (s.calEvent d result temp us) :=
  h.event

end Sys2Proof.Machine

/-!
PROOF. The functions of Utx.lean, Poll.lean, Zone.lean and Range.lean under Machine/ keep the form of the state (O4), in the
order of the model; each by the rules for what it is composed of.
-/
namespace Sys2Proof.Machine

-- The lemmas are many and short: proved one after the other, they stay within the threads that the check allows.
set_option Elab.async false

variable {c : Option Nat} {s : State}

/-! ### Utx.lean -/

theorem InForm.calPlaceList {l : List CalDue} (h : InForm c s) : InForm c (s.calPlaceList l) := by
  induction l generalizing s with
  | nil => exact h
  | cons d l ih =>
    unfold State.calPlaceList
    exact ih (.ite h (by split <;> exact h))

theorem InForm.calPlace (h : InForm c s) : InForm c s.calPlace :=
  .lfCalPlace (.ite h.calPlaceList h)

theorem InForm.calMark {item idx calId : Nat} (h : InForm c s) : InForm c (s.calMark item idx calId) :=
  .calPlace h

theorem InForm.calUnplace {d : CalDue} (h : InForm c s) : InForm c (s.calUnplace d) :=
  .frame (by split <;> exact h)

theorem InForm.calDrop {d : CalDue} (h : InForm c s) : InForm c (s.calDrop d) :=
  .frame (.frame (by split <;> exact h))

theorem InForm.calStop (h : InForm c s) : InForm c s.calStop := by
  unfold State.calStop
  split
  · exact h
  · exact .calPlace (.frame (.frame (by split; exact .frame (.calEvent h); exact .calEvent h)))

theorem InForm.calPreempt (h : InForm c s) : InForm c s.calPreempt :=
  .ite h.bump.calStop h

theorem InForm.calYield {meets wide : Nat → Nat → Bool} (h : InForm c s) : InForm c (s.calYield meets wide) :=
  .calPlace (.foldl (by split; exact .ite h.calPreempt h; exact h) fun h1 => .frame (by split <;> exact h1))

theorem InForm.utxBoundary (h : InForm c s) : InForm c s.utxBoundary :=
  .ite h.applyStaged h

theorem InForm.calSave {k : Nat} (h : InForm c s) : InForm c (s.calSave k) :=
  .ite h (.freeFill h)

theorem InForm.calAutoSave {k : Nat} (h : InForm c s) : InForm c (s.calAutoSave k) :=
  .ite h.calSave h

theorem InForm.lfSave (h : InForm c s) : InForm c s.lfSave :=
  .ite h (.ite (.calSave h) (.calAutoSave h))

theorem InForm.calStart {d : CalDue} {fg : Bool} (h : InForm c s) : InForm c (s.calStart d fg) :=
  .withdraw (.notePeak h)

theorem InForm.calStepStart (h : InForm c s) : InForm c (calStepStart s) := by
  refine .ite h ?_
  dsimp only
  split
  · exact h.calPlace
  · exact .ite (.calPlace (.frame (by split; exact h.calPlace.advanceRef.frame; exact h.calPlace.advanceRef))) 
      (.ite (.calPlace (.frame (.frame (by split; exact h.calPlace.advanceRef.frame; exact h.calPlace.advanceRef))))
        h.calPlace.advanceRef.calStart)

theorem InForm.calDue {item : Fin 4} {idx : Fin 128} {temp : BitVec 8} {at_ : Nat} (h : InForm c s) :
    InForm c (calDue item idx temp at_ s) :=
  .ite h.advance.frame (.calMark h.advance.frame)

theorem InForm.calNextFg (h : InForm c s) : InForm c s.calNextFg := by
  unfold State.calNextFg
  split
  · exact .calStart h
  · exact .frame (.ite (h.foldl fun h2 => .ite h2.calSave h2) h)

theorem InForm.rfCalDone {good : Bool} {vco : BitVec 4} {cap : Byte} {gain : BitVec 6} {temp : BitVec 8} (h : InForm c s) :
    InForm c (rfCalDone good vco cap gain temp s) := by
  unfold Machine.rfCalDone
  split
  · exact h
  · extract_lets t1 y t2 k e due t3 t4 t5 t6 t7 it t8 t9 t10 t11
    have h1 : InForm c t1 := h.advance
    have h2 : InForm c t2 := h1.frame
    have h3 : InForm c t3 := h2.frame
    have h4 : InForm c t4 := .ite h3.calUnplace h3.calDrop
    have h5 : InForm c t5 := h4.put.put
    have h6 : InForm c t6 := h5.put.put
    have h7 : InForm c t7 := .ite h4 (.frame h6.put)
    have h8 : InForm c t8 := .ite h7.frame h7.frame
    have h9 : InForm c t9 := .ite (.raise h4.frame) h8.calAutoSave
    have h10 : InForm c t10 := h9.calEvent
    have h11 : InForm c t11 := .ite h10.calNextFg h10
    exact h11.utxBoundary.calPlace

theorem InForm.utxFree {freeAt : Nat} (h : InForm c s) : InForm c (s.utxFree freeAt) :=
  .utxBoundary (.unitSettle h)

theorem InForm.utxRecord {d : UtxSend} {ts quality outcome status : Nat} {slip : Int} {air power flags band : Nat}
    (h : InForm c s) : InForm c (s.utxRecord d ts quality outcome status slip air power flags band) :=
  .eventAt h

theorem InForm.utxRefuse {d : UtxSend} {outcome status : Nat} {slip : Int} (h : InForm c s) :
    InForm c (s.utxRefuse d outcome status slip) :=
  .utxRecord (.ite (.frame (.bump h)) h)

theorem InForm.utxGiveUp {t : UtxTx} {outcome status : Nat} {slip : Int} (h : InForm c s) :
    InForm c (s.utxGiveUp t outcome status slip) :=
  .utxFree (.utxRecord (.ite h.bump.frame h))

theorem InForm.utxCut {t : UtxTx} {e outcome status : Nat} (h : InForm c s) : InForm c (s.utxCut t e outcome status) :=
  .ite h.utxGiveUp (.utxFree (.frame (.utxRecord h)))

theorem InForm.utxOnAir {t : UtxTx} (h : InForm c s) : InForm c (s.utxOnAir t) :=
  .ite h.utxGiveUp (.blank h)

theorem InForm.utxAsk {t : UtxTx} (h : InForm c s) : InForm c (s.utxAsk t) :=
  .ite h.utxOnAir (.ite h.put.utxOnAir (.ite h.utxGiveUp h.put.frame))

theorem InForm.utxSequence {t : UtxTx} (h : InForm c s) : InForm c (s.utxSequence t) :=
  h.advance.utxAsk

theorem InForm.utxListen {t : UtxTx} {busy : Option Nat} (h : InForm c s) : InForm c (s.utxListen t busy) := by
  unfold State.utxListen
  dsimp only
  split
  · exact h.advance.utxSequence
  · exact .ite (.utxGiveUp h.advance.bump.frame) (.frame h.advance.bump.frame)

theorem InForm.utxHop {d : UtxSend} {band : Nat} (h : InForm c s) : InForm c (s.utxHop d band) :=
  .withdraw (.notePeak (.frame (.ite h.calPreempt h)))

theorem InForm.utxBegin {d : UtxSend} (h : InForm c s) : InForm c (s.utxBegin d) := by
  unfold State.utxBegin
  dsimp only
  split
  · exact h.utxRefuse
  · exact .ite h.utxRefuse (.ite h.refuseDuty.utxRefuse (.ite h.refuseBudget.utxRefuse h.utxHop))

theorem InForm.utxSendStart {busy : Option Nat} (h : InForm c s) : InForm c (utxSendStart busy s) := by
  unfold Machine.utxSendStart
  split
  · exact .ite h.utxListen h
  · exact .ite h (by split; exact h; exact .ite h.utxRefuse h.advance.advanceRef.utxBegin)

theorem InForm.synthLocked {at_ : Nat} (h : InForm c s) : InForm c (synthLocked at_ s) := by
  unfold Machine.synthLocked
  split
  · exact h
  · exact .ite h (.ite (.utxSequence h.advance.frame) (.frame h.advance.frame))

theorem InForm.utxSynthLock (h : InForm c s) : InForm c (utxSynthLock s) := by
  unfold Machine.utxSynthLock
  split
  · exact h
  · exact .ite h (.frame h.advance.frame)

theorem InForm.coexGntRise {at_ : Nat} (h : InForm c s) : InForm c (coexGntRise at_ s) := by
  unfold Machine.coexGntRise
  dsimp only
  split
  · exact .ite (.utxOnAir h.advance.frame) h.advance.frame
  · exact h.advance.frame

theorem InForm.coexGntFall {at_ : Nat} (h : InForm c s) : InForm c (coexGntFall at_ s) := by
  unfold Machine.coexGntFall
  dsimp only
  split
  · exact .ite (.utxCut (.advance h.advance.frame)) h.advance.frame
  · exact h.advance.frame

theorem InForm.coexWaitTimeout (h : InForm c s) : InForm c (coexWaitTimeout s) := by
  unfold Machine.coexWaitTimeout
  split
  · exact h
  · split
    · exact h
    · split
      · exact .ite h.advance.utxGiveUp (.ite h.advance.utxGiveUp h.advance)
      · exact .ite h h.advance.utxGiveUp

theorem InForm.afterRxTimeout (h : InForm c s) : InForm c (afterRxTimeout s) := by
  unfold Machine.afterRxTimeout
  split
  · exact h
  · exact h.advanceRef.utxRefuse

theorem InForm.utxTxDone {inTol : Bool} (h : InForm c s) : InForm c (utxTxDone inTol s) := by
  unfold Machine.utxTxDone
  split
  · exact h
  · exact .ite h (.utxFree (.utxRecord (.ite h.advance.bump.frame (.frame h.advance.bump.frame))))

theorem InForm.utxTrigger {n : Nat} (h : InForm c s) : InForm c (s.utxTrigger n) :=
  .ite h h

theorem InForm.utxQueue {d : UtxSend} (h : InForm c s) : InForm c (s.utxQueue d).1 :=
  .iteFst h (.iteFst h (.fst (.withdraw (.frame (.ite h.calPreempt h)))))

theorem InForm.utxSend {m : Master} {p : List Byte} (h : InForm c s) : InForm c (utxSend m p s) :=
  h.hostCmd fun h1 => .iteFst h1 (.iteFst h1 h1.utxQueue.fst)

theorem InForm.utxHopTable {m : Master} {p : List Byte} (h : InForm c s) : InForm c (utxHopTable m p s) :=
  h.hostCmd (fun h1 => .iteFst h1 (.fst (.ite (h1.foldl fun h2 => h2.stage.stage.stage.stage) (.foldl (h1.foldl fun h2 =>
    h2.stage.stage.stage.stage) fun h2 => .ite h2.calMark.frame h2))))

theorem InForm.rfCalibrate {m : Master} {p : List Byte} (h : InForm c s) : InForm c (rfCalibrate m p s) :=
  h.hostCmd (fun h1 => .iteFst h1 (.iteFst h1 (.iteFst h1.refuseBudget.fst (.fst (.ite (.calNextFg (.frame (.frame (.calStop (.ite
    (.foldl h1 .lfCalMark) h1))))) (.foldl (.ite (.foldl h1 .lfCalMark) h1) .calMark))))))

theorem InForm.rfCalStatus {m : Master} {p : List Byte} (h : InForm c s) : InForm c (rfCalStatus m p s) :=
  h.hostCmd fun h1 => h1

theorem InForm.coexConfig {m : Master} {p : List Byte} (h : InForm c s) : InForm c (coexConfig m p s) :=
  h.hostCmd fun h1 => .iteFst h1 h1.stage.fst

theorem InForm.femSeqConfig {m : Master} {p : List Byte} (h : InForm c s) : InForm c (femSeqConfig m p s) :=
  h.hostCmd fun h1 => .iteFst h1 h1.stage.stage.stage.fst

theorem InForm.utxRefuseAll {status : Nat} (h : InForm c s) : InForm c (s.utxRefuseAll status) :=
  h.foldl .utxRefuse

theorem InForm.utxWithdraw {ids : List Nat} {status : Nat} (h : InForm c s) : InForm c (s.utxWithdraw ids status) := by
  unfold State.utxWithdraw
  dsimp only
  split
  · exact .ite (.utxGiveUp (h.foldl .utxRefuse)) (h.foldl .utxRefuse)
  · exact h.foldl .utxRefuse

theorem InForm.utxOff (h : InForm c s) : InForm c s.utxOff :=
  h.utxRefuseAll.calPreempt.unitSwitch

theorem InForm.utxStop {status : Nat} (h : InForm c s) : InForm c (s.utxStop status) := by
  unfold State.utxStop
  extract_lets t u v
  have ht : InForm c t := h.utxRefuseAll
  have hu : InForm c u := by
    unfold u
    split
    · exact ht.utxCut
    · exact ht
  have hv : InForm c v := by
    unfold v
    split
    · exact .calUnplace hu.frame
    · exact hu
  exact hv.frame

theorem InForm.utxPllLost (h : InForm c s) : InForm c s.utxPllLost :=
  .frame (by split; exact .ite h.utxCut.utxFree h; exact h)

/-! ### Poll.lean -/

theorem InForm.setPstate {v : Nat} (h : InForm c s) : InForm c (s.setPstate v) :=
  h.put

theorem InForm.setPeriod {p c' : Nat} (h : InForm c s) : InForm c (s.setPeriod p c') :=
  .ite (.ite (.setPstate h) h) (.event (.ite (.setPstate h) h))

theorem InForm.pollRestore {c' : Nat} (h : InForm c s) : InForm c (s.pollRestore c') :=
  .setPeriod h

theorem InForm.restartCount (h : InForm c s) : InForm c s.restartCount :=
  .ite h h

theorem InForm.firstBurst (h : InForm c s) : InForm c s.firstBurst :=
  .ite h (by split <;> exact h)

theorem InForm.pollHeld (h : InForm c s) : InForm c s.pollHeld :=
  .ite h.firstBurst h

theorem InForm.lfCalDoneRow {n : Fin 12} {outcome : Fin 3} {temp : BitVec 8} (h : InForm c s) :
    InForm c (Machine.lfCalDone n outcome temp s) :=
  h.lfCalDone.calPlace.pollHeld

theorem InForm.pollRun (h : InForm c s) : InForm c s.pollRun :=
  .ite (.firstBurst (.setPstate h)) (.setPstate h)

theorem InForm.pollRngReady (h : InForm c s) : InForm c s.pollRngReady :=
  .ite (.firstBurst (.setPstate h)) h

theorem InForm.restartEvent (h : InForm c s) : InForm c s.restartEvent :=
  h.restartCount.pollRestore

theorem InForm.pollResume {cause : Nat} (h : InForm c s) : InForm c (s.pollResume cause) :=
  .ite h (.firstBurst (.event h.setPstate.restartEvent.frame))

theorem InForm.pollStart (h : InForm c s) : InForm c s.pollStart.1 :=
  .iteFst h (.iteFst h (.iteFst h
    (by split; exact h.restartEvent.pollRun.fst; exact h.pollResume.fst; exact h.restartEvent.setPstate.fst
        exact h.restartEvent.fst)))

theorem InForm.pollHalt (h : InForm c s) : InForm c s.pollHalt :=
  .setPstate h

theorem InForm.pollStop (h : InForm c s) : InForm c s.pollStop := by
  unfold State.pollStop
  split
  · exact h
  · exact h
  · exact h.setPstate
  · exact .ite (.setPstate h) h.pollHalt

theorem InForm.lfPollStart {m : Master} {p : List Byte} (h : InForm c s) : InForm c (lfPollStart m p s) :=
  h.hostCmd fun h1 => .iteFst h1 h1.pollStart.fst

theorem InForm.lfPollStop {m : Master} {p : List Byte} (h : InForm c s) : InForm c (lfPollStop m p s) :=
  h.hostCmd fun h1 => h1.pollStop.fst

theorem InForm.pollSet {c' : Staged} (h : InForm c s) : InForm c (s.pollSet c') :=
  .ite h.put.put h.put

theorem InForm.moveDeadline {old : Nat} (h : InForm c s) : InForm c (s.moveDeadline old) := by
  unfold State.moveDeadline
  split
  · exact h
  · exact h

theorem InForm.pollApply (h : InForm c s) : InForm c s.pollApply :=
  .ite (.setPeriod (.moveDeadline (.foldl h .pollSet))) (.moveDeadline (.foldl h .pollSet))

theorem InForm.idleStop (h : InForm c s) : InForm c s.idleStop :=
  .event (.put (.setPstate h))

theorem InForm.idleCheck (h : InForm c s) : InForm c s.idleCheck :=
  .ite h.idleStop h

theorem InForm.pollStage {l : List Staged} (h : InForm c s) : InForm c (s.pollStage l) :=
  .ite h (.idleCheck (.pollApply h))

theorem InForm.lfPollConfig {m : Master} {p : List Byte} (h : InForm c s) : InForm c (lfPollConfig m p s) :=
  h.hostCmd fun h1 => .iteFst h1 h1.pollStage.fst

theorem InForm.skipBurst (h : InForm c s) : InForm c s.skipBurst :=
  h.bump

theorem InForm.beginBurst (h : InForm c s) : InForm c s.beginBurst :=
  .frame (.bump (.lfBegin h))

theorem InForm.pollBurst {stable : Bool} (h : InForm c s) : InForm c (pollBurst stable s) := by
  unfold Machine.pollBurst
  split
  · exact h
  · extract_lets t u
    have ht : InForm c t := h.advanceRef.burstOver
    have hu : InForm c u := ht.frame
    refine .ite hu.skipBurst (.ite hu.skipBurst ?_)
    split
    · extract_lets e
      split
      · exact .ite hu.frame hu.skipBurst
      · exact hu.skipBurst
    · exact .ite hu.bump.skipBurst (.ite hu.beginBurst hu.skipBurst)

theorem InForm.pollBurstDeferred (h : InForm c s) : InForm c (pollBurstDeferred s) := by
  unfold Machine.pollBurstDeferred
  split
  · exact h
  · exact .ite (.skipBurst h.advanceRef.burstOver.frame) (.frame (.bump (.lfBegin h.advanceRef.burstOver.frame)))

theorem InForm.sentinelPowerUp (h : InForm c s) : InForm c (sentinelPowerUp s) := by
  unfold Machine.sentinelPowerUp
  split
  · exact h
  · exact .ite h.advance.burstOver h.advance.burstOver.frame

theorem InForm.pollAnswer {frame : List Byte} {rssi : BitVec 16} {at_ : Nat} (h : InForm c s) :
    InForm c (pollAnswer frame rssi at_ s) := by
  unfold Machine.pollAnswer
  dsimp only
  split
  · exact h.advance.burstOver
  · exact .ite h.advance.burstOver (.ite h.advance.burstOver.frame (.ite (.bump h.advance.burstOver.frame) (.wakeSource (.eventAt
      (.frame (.bump (.put (.frame h.advance.burstOver.frame))))))))

theorem InForm.sentJamRun {jammed : Bool} {level : Nat} (h : InForm c s) : InForm c (s.sentJamRun jammed level) :=
  .ite (.ite (.frame (.event (.put h.bump.frame))) h.bump) (.ite (.event h.put.frame) h.put)

theorem InForm.pollHit {rssi : Int} (h : InForm c s) : InForm c (s.pollHit rssi) :=
  .ite (.pollRestore h) (.ite (.setPeriod h) h)

theorem InForm.pollMiss (h : InForm c s) : InForm c s.pollMiss :=
  .ite (.pollRestore h) h

theorem InForm.pollAfter {old : Nat} (h : InForm c s) : InForm c (s.pollAfter old) := by
  unfold State.pollAfter
  extract_lets t u
  have ht : InForm c t := h.pollApply
  have hu : InForm c u := by
    unfold u
    split
    · exact .ite ht.frame ht
    · exact ht
  split
  · exact hu.pollHalt
  · exact hu.pollHalt.restartEvent.pollRun
  · exact hu.idleCheck

theorem InForm.pollWindowEnd {level : BitVec 16} {meas : List LfMeas} (h : InForm c s) :
    InForm c (s.pollWindowEnd level meas).1 := by
  unfold State.pollWindowEnd
  split
  · exact h
  · extract_lets t u lv jammed blanked void v w old x
    have ht : InForm c t := h.advance.burstOver
    have hu : InForm c u := by
      unfold u
      split
      · exact .foldl ht .lfMeasured
      · exact ht
    have hw : InForm c w := .sentJamRun (.frame hu.frame)
    have hx : InForm c x := by
      unfold x
      split
      · exact hw.pollHit
      · exact .ite hw.bump hw.pollMiss
    exact hx.pollAfter.fst

theorem InForm.lfPollIdleStop (h : InForm c s) : InForm c (lfPollIdleStop s) :=
  .ite h (.ite h.advanceLp.frame h.advanceLp.idleStop)

theorem InForm.pollKick (h : InForm c s) : InForm c s.pollKick :=
  .ite h.restartCount h.restartEvent

theorem InForm.kick {m : Master} (h : InForm c s) : InForm c (kick m s) :=
  h.onBus .pollKick

theorem InForm.nonceClear (h : InForm c s) : InForm c s.nonceClear :=
  h.nonceErase

theorem InForm.nonceClr {m : Master} (h : InForm c s) : InForm c (nonceClr m s) :=
  h.onBus .nonceClear

theorem InForm.nonceWord {k : Nat} {v : Word} (h : InForm c s) : InForm c (s.nonceWord k v) :=
  .ite (.put h.put.frame) h.put

theorem InForm.lfHnonce3Write {m : Master} {v : Word} (h : InForm c s) : InForm c (lfHnonce3Write m v s) :=
  h.onBus .nonceWord

theorem InForm.handleEdge {i : Nat} {high : Bool} (h : InForm c s) : InForm c (s.handleEdge i high) :=
  .ite h.putBit.frame (.ite h.putBit.wakeSource (.ite (.pollResume h.putBit.wakeSource.frame) (.ite h.putBit.wakeSource.frame
    (.pollRestore h.putBit.wakeSource.frame))))

theorem InForm.handleQualified {i : Nat} (h : InForm c s) : InForm c (s.handleQualified i).1 := by
  unfold State.handleQualified
  split
  · exact h
  · dsimp only
    split
    · exact .iteFst (.fst h.advance.frame) (.fst (.lfCut (.frame (.nonceClear h.advance.frame))))
    · exact .fst h.advance.frame

theorem InForm.htelBegin {e : HandleEdge} {at_ burstEnd : Nat} (h : InForm c s) : InForm c (s.htelBegin e at_ burstEnd) :=
  .ite h.advance.burstOver (.ite (.lfDone h.advance.burstOver.frame)
    (by split; exact .lfDone h.advance.burstOver.frame; exact .eventAt h.advance.burstOver.lfBegin.frame))

theorem InForm.lfHtelStart {stableAt : Nat} (h : InForm c s) : InForm c (lfHtelStart stableAt s) := by
  unfold Machine.lfHtelStart
  split
  · exact h
  · split
    · exact .ite h.htelBegin h
    · exact h.htelBegin

theorem InForm.lfStop {status : Nat} (h : InForm c s) : InForm c (s.lfStop status) :=
  .pollApply (.frame (.pollHalt (.lfDiagEnd (.lfRefuseAll (by split; exact .lfDone h.lfAbort.frame; exact h.lfAbort)))))

theorem InForm.lfFence (h : InForm c s) : InForm c s.lfFence :=
  h.lfStop.frame

theorem InForm.pollSuspend (h : InForm c s) : InForm c s.pollSuspend :=
  .ite (.setPstate h) h

theorem InForm.pollUnsuspend (h : InForm c s) : InForm c s.pollUnsuspend :=
  .ite h (.ite h.setPstate.pollRestore.idleStop h.setPstate.pollRestore.firstBurst)

/-! ### Zone.lean -/

theorem InForm.useMap {c' seq : Nat} {m : Option FieldMap} (h : InForm c s) : InForm c (s.useMap c' seq m) := by
  unfold State.useMap
  dsimp only
  split
  · exact .put (.put (.put (.putB h)))
  · exact .put (.put (.put (.putB h)))

theorem InForm.zoneSelect (h : InForm c s) : InForm c s.zoneSelect := by
  unfold State.zoneSelect
  split
  · split
    · split
      · exact .ite h.useMap h.useMap
      · exact h.useMap
      · exact h.useMap
      · exact .ite h.useMap.frame h.useMap

theorem InForm.zoneLoad (h : InForm c s) : InForm c s.zoneLoad :=
  .ite h.zoneSelect.frame h.zoneSelect

theorem InForm.mapCut (h : InForm c s) : InForm c s.mapCut := by
  unfold State.mapCut
  split
  · exact h.eraseMem.frame
  · exact h

theorem InForm.zoneBoundary (h : InForm c s) : InForm c s.zoneBoundary :=
  .ite h (.ite h.applyStaged.unitSettle.unitSwitch h.applyStaged.unitSettle)

theorem InForm.zoneFinish {v : Solve} (h : InForm c s) : InForm c (s.zoneFinish v) := by
  unfold State.zoneFinish
  extract_lets free ofsMax pats pts ms n ds dist few freq zoneOf
  clear_value pats pts freq zoneOf
  refine .event (.bump (.put (.put (.put (.put (.put (.put (.put (.put ?_)))))))))
  split
  · exact h
  · dsimp only
    split
    · exact h
    · split
      · exact h
      · exact h.rounded

theorem InForm.zoneStart {m : Master} {c' : Option ReqCtx} {query : Bool} (h : InForm c s) : InForm c (s.zoneStart m c' query) :=
  .withdraw h

theorem InForm.zoneCmdStart {m : Master} (h : InForm c s) : InForm c (zoneCmdStart m s) :=
  h.onBus fun h1 => .ite h1.zoneStart h1

theorem InForm.zoneSolved {at_ : Nat} (h : InForm c s) : InForm c (zoneSolved at_ s) := by
  unfold Machine.zoneSolved
  split
  · exact h
  · exact .zoneBoundary (.ite (.answer (.zoneFinish h.advance.frame)) (.zoneFinish h.advance.frame))

theorem InForm.mapEvent {m : FieldMap} {st : Nat} (h : InForm c s) : InForm c (s.mapEvent m st) :=
  h.event

theorem InForm.mapSwitch (h : InForm c s) : InForm c s.mapSwitch := by
  unfold State.mapSwitch
  split
  · exact h
  · exact .zoneBoundary (.mapEvent (.put (.useMap h)))

theorem InForm.zoneMapLoaded {ok : Bool} {at_ : Nat} (h : InForm c s) : InForm c (zoneMapLoaded ok at_ s) := by
  unfold Machine.zoneMapLoaded
  dsimp only
  split
  · exact h.advance
  · exact .ite (.zoneBoundary (.mapSwitch h.advance.writeMem.frame)) h.advance.mapCut.put.mapEvent.zoneBoundary

theorem InForm.zoneConfig {m : Master} {p : List Byte} (h : InForm c s) : InForm c (zoneConfig m p s) :=
  h.hostCmd (fun h1 => .iteFst h1 (.fst (.ite (.unitSwitch (.stage (.foldl (h1.stage.stage.foldl .stage) fun h2 =>
    h2.stage.stage))) (.stage (.foldl (h1.stage.stage.foldl .stage) fun h2 => h2.stage.stage)))))

theorem InForm.zoneQuery {m : Master} {p : List Byte} (h : InForm c s) : InForm c (zoneQuery m p s) :=
  h.hostCmdLater fun h1 => .iteFst h1 (.iteFst h1 (.iteFst h1 (.fst (.zoneStart (.foldl (h1.foldl .put) .put)))))

theorem InForm.lfMapLoad {m : Master} {p : List Byte} (h : InForm c s) : InForm c (lfMapLoad m p s) := by
  refine h.hostCmd (fun h1 => ?_)
  split
  · exact h1
  · exact h1
  · exact .iteFst h1 h1
  · exact .iteFst h1 (.iteFst h1 (.iteFst h1 (.iteFst h1 (.iteFst h1 (.fst (.withdraw (.put h1)))))))
  · exact h1
  · exact h1

theorem InForm.lfPatternDef {m : Master} {p : List Byte} (h : InForm c s) : InForm c (lfPatternDef m p s) :=
  h.hostCmd fun h1 => .iteFst h1 (.fst (.ite (.frame (.ite h1 h1)) (.frame (.ite h1 h1))))

theorem InForm.zoneStop {status : Nat} (h : InForm c s) : InForm c (s.zoneStop status) := by
  unfold State.zoneStop
  split
  · exact h
  · exact .ite (.answer h) h

/-! ### Range.lean -/

theorem InForm.rangeCheckPlan (h : InForm c s) : InForm c s.rangeCheckPlan :=
  h.putB

theorem InForm.rangeConfig {m : Master} {p : List Byte} (h : InForm c s) : InForm c (rangeConfig m p s) :=
  h.hostCmd fun h1 => .iteFst h1 (by split; exact h1; exact .fst (.put (.rounded (h1.foldl .put))))

theorem InForm.tellWorkers {r : RangeRun} (h : InForm c s) : InForm c (s.tellWorkers r) :=
  .ite h (.frame (.bump h))

theorem InForm.rangeArm {a : RangeAsk} (h : InForm c s) : InForm c (s.rangeArm a) :=
  .withdraw (.notePeak (.frame (.put (.put (.tellWorkers h)))))

theorem InForm.rangeRun {m : Master} {p : List Byte} (h : InForm c s) : InForm c (rangeRun m p s) :=
  h.hostCmd fun h1 => .iteFst h1 (by split; exact .fst (.ite h1.refuseBudget h1); exact h1.rangeArm.fst)

theorem InForm.rangeGo (h : InForm c s) : InForm c s.rangeGo :=
  .ite h.rangeArm (.ite h.refuseBudget h)

theorem InForm.rangeCmdGo {m : Master} (h : InForm c s) : InForm c (rangeCmdGo m s) :=
  h.onBus .rangeGo

theorem InForm.figure {has : Bool} {q : Int × Int} (h : InForm c s) : InForm c (s.figure has q).2 :=
  .iteSnd h.rounded h

theorem InForm.setLast {b : List Byte} (h : InForm c s) : InForm c (s.setLast b) :=
  .foldl h .put

theorem InForm.rangeEnd {r : RangeRun} {status endRef : Nat} {aborted whole : Bool} (h : InForm c s) :
    InForm c (s.rangeEnd r status aborted whole endRef) := by
  unfold State.rangeEnd
  extract_lets f hasR hasT va vb vc valid v checks oRef
  clear_value f hasR hasT va vb vc valid v checks oRef
  split
  rename_i rtt s1 e1
  split
  rename_i dr s2 e2
  split
  rename_i dp s3 e3
  split
  rename_i df s4 e4
  split
  rename_i amb s5 e5
  have h5 := ((((h.figure.sndEq e1).figure.sndEq e2).figure.sndEq e3).figure.sndEq e4).rounded.sndEq e5
  split
  rename_i x s6 e6
  have h6 := InForm.sndEq (x := s5.fresh 40) h5.frame e6
  extract_lets resid low b2 t1 g t2 t3
  have h1 : InForm c t1 := by
    unfold t1
    split
    · exact h6.frame
    · exact h6
  have h2 : InForm c t2 := h1.frame
  have h3 : InForm c t3 := .put (.put h2.frame)
  clear_value resid low b2 t3
  split
  extract_lets res t4 r5 t5 t6 t7 t8 t9 t10
  have h4 : InForm c t4 := h3.put.setLast.bump
  have h5 : InForm c t5 := h4.frame
  have h6 : InForm c t6 := .ite h5 h5.bump
  have h7 : InForm c t7 := .ite (.frame h6.bump) h6
  have h8 : InForm c t8 := .ite (.frame h7.bump) h7
  have h9 : InForm c t9 := .ite h8.frame h8
  clear_value res t9
  exact h9.eventAt.unitSettle.applyStaged

theorem InForm.rangeFail {r : RangeRun} {status : Nat} (h : InForm c s) : InForm c (s.rangeFail r status) :=
  h.rangeEnd

theorem InForm.rangeStop {status : Nat} (h : InForm c s) : InForm c (s.rangeStop status) := by
  unfold State.rangeStop
  split
  · exact h.rangeFail
  · exact h

theorem InForm.rangeAbort (h : InForm c s) : InForm c s.rangeAbort := by
  unfold State.rangeAbort
  split
  · exact h
  · exact .ite h.rangeEnd (.ite h h)

theorem InForm.rangeCmdAbort {m : Master} (h : InForm c s) : InForm c (rangeCmdAbort m s) :=
  h.onBus .rangeAbort

theorem InForm.rangeTrigger {n : Nat} (h : InForm c s) : InForm c (s.rangeTrigger n) := by
  unfold State.rangeTrigger
  dsimp only
  split
  · exact .ite h h
  · exact h

theorem InForm.rangeOriginFixed (h : InForm c s) : InForm c (rangeOriginFixed s) := by
  unfold Machine.rangeOriginFixed
  split
  · exact h
  · refine .ite h ?_
    extract_lets o
    clear_value o
    split
    · exact h
    · extract_lets r t d
      clear_value r t d
      split
      · exact h.rangeFail
      · exact .ite h.rangeFail (.calYield h.frame)

theorem InForm.utxYield (h : InForm c s) : InForm c s.utxYield := by
  unfold State.utxYield
  split
  · exact .ite h h
  · exact h

theorem InForm.rangeSlotBegin (h : InForm c s) : InForm c (rangeSlotBegin s) := by
  unfold Machine.rangeSlotBegin
  split
  · exact h
  · exact .ite h (.ite h.advance.utxYield.rangeFail (.ite h.advance.utxYield.refuseDuty.rangeFail (.frame (.put (.put
      h.advance.utxYield.frame)))))

theorem InForm.rangeSend {r : RangeRun} {busy : Bool} {t to_ entry us : Nat} {hz : List Nat} {phase : Nat} (h : InForm c s) :
    InForm c (s.rangeSend r busy t to_ entry us hz phase).1 :=
  .iteFst (.fst h.advance.bump.frame) (.iteFst h.advance.put.fst (.fst (.blank (.frame (.frame (.frame (.ite h.advance
    h.advance.put)))))))

theorem InForm.rangeMissed {r : RangeRun} (h : InForm c s) : InForm c (s.rangeMissed r) :=
  .rangeFail h

theorem InForm.rangeStep {meas : RangeMeas} (h : InForm c s) : InForm c (rangeStep meas s) := by
  unfold Machine.rangeStep
  split
  · exact h
  · split
    · exact h.advance.rangeEnd
    · dsimp only
      split
      · refine .ite h.advance.rangeMissed ?_
        split
        · rename_i t3 e3
          exact .rangeFail (.advance (h.rangeSend.fstEq e3))
        · rename_i t3 e3
          exact .frame (h.rangeSend.fstEq e3)
      · exact .ite h.advance.put.frame h.advance.put.frame
      · refine .ite h (.ite h.advance.rangeMissed ?_)
        split
        · rename_i t3 e3
          exact .rangeFail (.advance (h.rangeSend.fstEq e3))
        · rename_i t3 e3
          exact .frame (.ite (.advance (.put (h.rangeSend.fstEq e3))) (.frame (.advance (.put (h.rangeSend.fstEq e3)))))
      · exact h

end Sys2Proof.Machine

/-!
PROOF. The functions of Range.lean, Auth.lean, Rel.lean and Vault.lean under Machine/ keep the form of the state (O4), in the
order of the model; each by the rules for what it is composed of.
-/
namespace Sys2Proof.Machine

-- The lemmas are many and short: proved one after the other, they stay within the threads that the check allows.
set_option Elab.async false

variable {c : Option Nat} {s : State}

/-! ### Range.lean -/

theorem InForm.rangeTimeout (h : InForm c s) : InForm c (rangeTimeout s) := by
  unfold Machine.rangeTimeout
  split
  · exact .ite h.advanceRef.rangeFail h
  · exact h

theorem InForm.rangeDone {at_ : Nat} (h : InForm c s) : InForm c (s.rangeDone at_) := by
  unfold State.rangeDone
  split
  · exact h
  · exact .ite h (.ite h.advance.rangeEnd h.advance.rangeEnd)

theorem InForm.rangeWorker {w tones dsum : Nat} (h : InForm c s) : InForm c (s.rangeWorker w tones dsum) := by
  unfold State.rangeWorker
  split
  · exact .ite h h
  · exact h

theorem InForm.rangeResult {m : Master} {p : List Byte} (h : InForm c s) : InForm c (rangeResult m p s) :=
  h.hostCmd fun h1 => .iteFst h1 (by split <;> exact h1)

/-! ### Auth.lean -/

theorem InForm.keyEvent {a : Attempt} {st : Nat} {f : LookRes} {second : Bool} {ctr verdict : Nat} (h : InForm c s) :
    InForm c (s.keyEvent a st f second ctr verdict) :=
  h.eventAt

theorem InForm.keyTold {a : Attempt} {k : AuthKey} {second : Bool} (h : InForm c s) : InForm c (s.keyTold a k second) :=
  h.keyEvent

theorem InForm.closeXch {a : Attempt} (h : InForm c s) : InForm c (s.closeXch a).1 := by
  unfold State.closeXch
  dsimp only
  split
  · exact h.stopWin
  · exact h

theorem InForm.closeChan {n : Nat} (h : InForm c s) : InForm c (s.closeChan n) :=
  .stage (.ite h h)

theorem InForm.closeXchs {a : Attempt} (h : InForm c s) : InForm c (s.closeXchs a) :=
  h.foldl .closeChan

theorem InForm.abortRun {a : Attempt} (h : InForm c s) : InForm c (s.abortRun a) := by
  unfold State.abortRun
  split
  · exact .ite h.rangeAbort h
  · exact h

theorem InForm.authEnd {a : Attempt} {st : Nat} (h : InForm c s) : InForm c (s.authEnd a st) :=
  .eventAt (.frame (h.closeXch.closeXchs.foldl .frame))

theorem InForm.authBreak {st : Nat} (h : InForm c s) : InForm c (s.authBreak st) := by
  unfold State.authBreak
  split
  · exact h
  · exact .authEnd (.utxWithdraw (.frame (.frame (.foldl (h.abortRun.foldl fun h2 => by split; exact .ite h2 h2.keyTold; exact h2)
      .keyEvent))))

theorem InForm.authBegin {locate : Bool} {pats : List Nat} {origin quality start : Nat} {nb : Option (List Byte)}
    (h : InForm c s) : InForm c (s.authBegin locate pats origin quality start nb) :=
  .withdraw h

theorem InForm.authSend {a : Attempt} (h : InForm c s) : InForm c (s.authSend a) :=
  .ite h.lfQueue.frame h.lfQueue.authEnd

theorem InForm.authWindow {a : Attempt} {f : LfFin} (h : InForm c s) : InForm c (s.authWindow a f) :=
  .ite h.authEnd (.frame (by split <;> exact h))

theorem InForm.answerWindowEnd (h : InForm c s) : InForm c (answerWindowEnd s) := by
  unfold Machine.answerWindowEnd
  split
  · exact h
  · exact .ite h (.ite h.advance.frame h.advance.frame)

theorem InForm.authZone {a : Attempt} {r : AuthAnswer} (h : InForm c s) : InForm c (s.authZone a r) :=
  h.putRegBytes.putRegBytes.zoneStart.frame

theorem InForm.authSolve {t : State} {a : Attempt} (h : InForm c s) (e : s.authSolve a = some t) : InForm c t := by
  unfold State.authSolve at e
  split at e
  · split at e
    · cases e
    · cases e
      exact h.frame
  · split at e
    · cases e
    · split at e
      · cases e
        exact h.frame
      · split at e
        · cases e
          exact h.authZone
        · cases e

theorem InForm.authRefuse {a : Attempt} {r : AuthAnswer} {st : Nat} {f : LookRes} (h : InForm c s) :
    InForm c (s.authRefuse a r st f) :=
  h.countOutcome.keyEvent.frame

theorem InForm.authLocate {a : Attempt} {r : AuthAnswer} {z c' : Nat} (h : InForm c s) : InForm c (s.authLocate a r z c') :=
  h.keyTold.frame

theorem InForm.authTake {a : Attempt} {r : AuthAnswer} (h : InForm c s) : InForm c (s.authTake a r) :=
  .ite (by split; exact h.keyTold.frame; exact h) (.ite h.countOutcome.keyEvent.frame (.frame (.frame (.withdraw h))))

theorem InForm.authFound {a : Attempt} {r : AuthAnswer} {f : LookRes} (h : InForm c s) : InForm c (s.authFound a r f) :=
  .ite (.frame (.keyEvent (.countOutcome h))) (.ite (.frame (.keyEvent (.countOutcome h))) (.ite (.frame (.keyEvent (.countOutcome
    h))) h))

theorem InForm.authTx {n : Nat} {data : List Byte} {start : Option Nat} (h : InForm c s) :
    InForm c (s.authTx n data start).1 := by
  unfold State.authTx
  split
  · exact h
  · exact .fst (.ite h.utxQueue.frame h.utxQueue)

theorem InForm.openXch {n k : Nat} (h : InForm c s) : InForm c (s.openXch n k) :=
  h.setReg.put.setReg.put.put.setReg.setReg

theorem InForm.authArm {ks : List Byte} {z c' u mode rxCh org : Nat} (h : InForm c s) :
    InForm c (s.authArm ks z c' u mode rxCh org).1 :=
  .iteFst h h.rangeArm.fst

theorem InForm.authClose {a : Attempt} {verdict : Option Nat} (h : InForm c s) : InForm c (s.authClose a verdict) := by
  unfold State.authClose
  split
  · exact h
  · exact .authTx (by split; exact h.authTx; exact h)

theorem InForm.authKeyEnd {a : Attempt} {st : Nat} (h : InForm c s) : InForm c (s.authKeyEnd a st) := by
  unfold State.authKeyEnd
  split
  · exact h
  · exact .frame (.engineClear (.closeXch (.keyTold (.ite h.countOutcome.frame h.countOutcome))))

theorem InForm.authExchange {a : Attempt} {k : AuthKey} {z c' : Nat} (h : InForm c s) : InForm c (s.authExchange a k z c') := by
  unfold State.authExchange
  dsimp only
  split
  · exact h.authKeyEnd
  · exact h.authKeyEnd
  · exact .ite (.authKeyEnd (.iteFst h h.urxStartMask)) (.ite (.frame (.authTx (.authArm (.engineWork (.engineWork (.iteFst h
      h.urxStartMask)))))) (.authKeyEnd (.abortRun (.authTx (.authArm (.engineWork (.engineWork (.iteFst h h.urxStartMask))))))))

theorem InForm.authProofSent {a : Attempt} {f : UtxFin} (h : InForm c s) : InForm c (s.authProofSent a f) :=
  .ite h.abortRun.authKeyEnd h

theorem InForm.authProof {a : Attempt} {b : List Byte} {at_ : Nat} (h : InForm c s) : InForm c (s.authProof a b at_) := by
  unfold State.authProof
  split
  · exact h
  · exact .ite h.abortRun.authKeyEnd h.storeCounter.frame

theorem InForm.keyProofTimeout (h : InForm c s) : InForm c (keyProofTimeout s) := by
  unfold Machine.keyProofTimeout
  split
  · exact h
  · exact .ite h h.advance.abortRun.authKeyEnd

theorem InForm.xchFor {a : Attempt} {n : Nat} (h : InForm c s) : InForm c (s.xchFor a n).1 :=
  .iteFst h (by split; exact h.openXch.fst; exact h)

theorem InForm.authFrame {n at_ ref : Nat} {b : Option (List Byte)} (h : InForm c s) : InForm c (s.authFrame n at_ ref b) := by
  unfold State.authFrame
  split
  · exact h
  · exact .ite (by split; exact h; exact .ite h.xchFor.frame h) (.ite (by split; exact .ite h.authProof h; exact h) h)

theorem InForm.authUnranged {a : Attempt} (h : InForm c s) : InForm c (s.authUnranged a) :=
  h.authClose.authKeyEnd

theorem InForm.authRepeat {a : Attempt} {n : Nat} (h : InForm c s) : InForm c (s.authRepeat a n) := by
  unfold State.authRepeat
  extract_lets data lbt t
  clear_value data lbt t
  split
  extract_lets o
  clear_value o
  split
  split
  · rename_i t1 e1
    exact .authUnranged (h.authArm.fstEq e1)
  · rename_i t1 r e1
    have h1 := h.authArm.fstEq e1
    extract_lets b
    clear_value b
    split
    rename_i t2 st id e2
    have h2 := h1.authTx.fstEq e2
    exact .ite h2.frame h2.abortRun.authUnranged

theorem InForm.authRanged {a : Attempt} {res : List Byte} (h : InForm c s) : InForm c (s.authRanged a res) := by
  unfold State.authRanged
  dsimp only
  split
  · exact h.authRepeat
  · exact h.authClose.authKeyEnd

theorem InForm.authStep (h : InForm c s) : InForm c s.authStep := by
  unfold State.authStep
  split
  · exact h
  split
  · rename_i e
    exact h.authSolve e
  split
  · exact .ite h.authSend h
  · split; exact h.authWindow; exact h
  · split
    · exact h.frame
    · exact .ite (by split; exact h.authFound; exact h) h.authTake
  · split
    · split; exact h.authExchange; exact h
    · exact h.authEnd
  · split; exact h.authProofSent; exact h
  · split
    · exact h.authUnranged
    · exact .ite h (by split; exact h.authRanged; exact h.authUnranged)
  · exact h

theorem InForm.authRun {n : Nat} (h : InForm c s) : InForm c (s.authRun n) := by
  induction n generalizing s with
  | zero => exact h
  | succ n ih => exact .ite h (.ite h (ih h.authStep))

theorem InForm.authStart {m : Master} {p : List Byte} (h : InForm c s) : InForm c (authStart m p s) :=
  h.hostCmd fun h1 => .iteFst h1 (.iteFst h1 (.iteFst h1 h1.authBegin.fst))

theorem InForm.authResult {m : Master} {p : List Byte} (h : InForm c s) : InForm c (authResult m p s) :=
  h.hostCmd fun h1 => .iteFst h1 (.iteFst h1 (by split <;> exact h1))

theorem InForm.authHandle {e : HandleEdge} (h : InForm c s) : InForm c (s.authHandle e) :=
  .ite h (.ite h h.authBegin)

/-! ### Rel.lean -/

theorem InForm.ewFreeSlot {l : Nat} (h : InForm c s) : InForm c (s.ewFreeSlot l) := by
  unfold State.ewFreeSlot
  split
  · exact h
  · exact h

theorem InForm.ewTakeSlot {l act t : Nat} (h : InForm c s) : InForm c (s.ewTakeSlot l act t) := by
  unfold State.ewTakeSlot
  dsimp only
  split
  · exact h.ewFreeSlot
  · exact .frame h.ewFreeSlot.frame

theorem InForm.ewEvent {l level src : Nat} {noslot : Bool} (h : InForm c s) : InForm c (s.ewEvent l level src noslot) :=
  h.eventAt

theorem InForm.ewAssert {l src span : Nat} {hurried : Bool} (h : InForm c s) : InForm c (s.ewAssert l src span hurried) :=
  .withdraw (.ewEvent (.ewTakeSlot h.ewFreeSlot.frame))

theorem InForm.ewDrop {l : Nat} (h : InForm c s) : InForm c (s.ewDrop l) :=
  .ewEvent h.ewFreeSlot.frame

theorem InForm.ewPlace {l src a : Nat} (h : InForm c s) : InForm c (s.ewPlace l src a) :=
  .ite h.ewAssert (.ite h (.ite (.ewAssert (.ewTakeSlot h)) (.withdraw (.ewTakeSlot h))))

theorem InForm.ewExtend {l t : Nat} (h : InForm c s) : InForm c (s.ewExtend l t) :=
  .ite h (.ewTakeSlot h)

theorem InForm.ewSource {src t l : Nat} (h : InForm c s) : InForm c (s.ewSource src t l) :=
  .ite h (.ite h.ewExtend h.ewPlace)

theorem InForm.ewFire {src t : Nat} (h : InForm c s) : InForm c (s.ewFire src t) :=
  .ite h (.ite h (.ite h (h.foldl .ewSource)))

theorem InForm.ewWake (h : InForm c s) : InForm c s.ewWake :=
  .ite h (.foldl h .ewFire)

theorem InForm.relFire {action arg slot : Nat} (h : InForm c s) : InForm c (s.relFire action arg slot) :=
  .ite h (.ite (.ite h h.ewAssert) (.ite h.ewDrop h))

theorem InForm.ewakeDeassert {l : Fin 4} (h : InForm c s) : InForm c (ewakeDeassert l s) := by
  unfold Machine.ewakeDeassert
  dsimp only
  split
  · exact .ite h.advanceRef.ewDrop h
  · exact h

theorem InForm.relEwakeRb {l : Fin 4} {at_ : Nat} (h : InForm c s) : InForm c (relEwakeRb l at_ s) :=
  h.advance.frame

theorem InForm.ewakeConfig {m : Master} {p : List Byte} (h : InForm c s) : InForm c (ewakeConfig m p s) := by
  refine h.hostCmd (fun h1 => ?_)
  split
  · exact h1.setReg.setReg.fst
  · exact h1.put.put.put.fst
  · exact .iteFst h1 (.fst (h1.foldl fun h3 => .ite h3.ewExtend h3.ewPlace))

theorem InForm.ttPhase {at_ : Nat} (h : InForm c s) : InForm c (ttPhase at_ s) :=
  .ite h (.ite (.ite h.advance h.advance.frame) (.ite h.advance.frame h.advance.frame))

theorem InForm.ttRecord {result : Nat} (h : InForm c s) : InForm c (s.ttRecord result) :=
  .eventBbx h

theorem InForm.ttMeasure {current : Byte} {at_ : Nat} (h : InForm c s) : InForm c (ttMeasure current at_ s) :=
  .ite h (.ite (.ttRecord (by split; exact .frame (.frame h.advance.put.put.frame); exact h.advance.put.put.frame))
    (by split; exact .frame (.frame h.advance.put.put.frame); exact h.advance.put.put.frame))

theorem InForm.ttSummary (h : InForm c s) : InForm c (ttSummary s) :=
  .ite h h.advanceLp.ttRecord.frame

theorem InForm.telltaleConfig {m : Master} {p : List Byte} (h : InForm c s) : InForm c (telltaleConfig m p s) :=
  h.hostCmd fun h1 => .iteFst h1 h1.put.put.fst

theorem InForm.driveLine {b v : Bool} (h : InForm c s) : InForm c (s.driveLine b v) :=
  .ite (.ite h h) (.ite h h)

theorem InForm.relRefuse {reason st : Nat} (h : InForm c s) : InForm c (s.relRefuse reason st) :=
  .eventBbx (.ite h.bump.frame h.bump)

theorem InForm.relOpened {extended : Bool} (h : InForm c s) : InForm c (s.relOpened extended) :=
  .ite (.bbxPut (.pushEvtItem (.bump (.ite h h.engineWork)))) (.ewFire (.bbxPut (.pushEvtItem (.bump (.ite h h.engineWork)))))

theorem InForm.relTakeKey {sseq : Nat} {restarted : Bool} (h : InForm c s) : InForm c (s.relTakeKey sseq restarted) := by
  unfold State.relTakeKey
  dsimp only
  exact .frame (.snd (.frame (.snd h.put.frame)))

theorem InForm.oneShot (h : InForm c s) : InForm c s.oneShot :=
  .ite h h

theorem InForm.relStart {sseq : Nat} {restarted : Bool} (h : InForm c s) : InForm c (s.relStart sseq restarted) :=
  .withdraw (.driveLine h.relTakeKey.oneShot.frame)

theorem InForm.relTryOpen {restarted : Bool} (h : InForm c s) : InForm c (s.relTryOpen restarted) := by
  unfold State.relTryOpen
  split
  · exact h.relRefuse
  · split
    · exact .ite h.relRefuse (.ite h.cntRefuse.relRefuse h)
    · rename_i _ t1 e1
      exact .ite (.relOpened (.frame (.oneShot (.relTakeKey (h.cntTake e1))))) (.relStart (h.cntTake e1))

theorem InForm.relServe (h : InForm c s) : InForm c s.relServe := by
  unfold State.relServe
  split
  · exact h
  · exact .relTryOpen h

theorem InForm.relCntFailed (h : InForm c s) : InForm c s.relCntFailed :=
  .ite (.relRefuse h) h

theorem InForm.relOpenCmd (h : InForm c s) : InForm c s.relOpenCmd := by
  unfold State.relOpenCmd
  split
  · exact h
  · exact h
  · exact h
  · exact h.relTryOpen

theorem InForm.relEndRecord {e : RelEnd} {opening : Bool} (h : InForm c s) : InForm c (s.relEndRecord e opening) :=
  .bbxPut (.pushEvtItem (.frame (.put (.ite h.bump (.ite h.bump h)))))

theorem InForm.relClose (h : InForm c s) : InForm c s.relClose :=
  h.driveLine.frame

theorem InForm.relEndCause {e : RelEnd} (h : InForm c s) : InForm c (s.relEndCause e) := by
  unfold State.relEndCause
  split
  · exact h.relEndRecord.driveLine.frame
  · split
    · exact h
    · exact .ite h h
  · exact h

theorem InForm.relReached (h : InForm c s) : InForm c s.relReached := by
  unfold State.relReached
  dsimp only
  split
  · exact .relEndCause (.relOpened h)
  · exact .relOpened h

theorem InForm.relRaiseA (h : InForm c s) : InForm c s.relRaiseA :=
  .put (.put h.driveLine.frame)

theorem InForm.openingGap (h : InForm c s) : InForm c (openingGap s) :=
  .ite h h.advance.relRaiseA

theorem InForm.relBoundary (h : InForm c s) : InForm c s.relBoundary :=
  .ite h.applyStaged.unitSettle h

theorem InForm.relOff (h : InForm c s) : InForm c s.relOff :=
  .ite h (.ite (.relTryOpen (.relBoundary h)) (.relBoundary h))

theorem InForm.closingGap (h : InForm c s) : InForm c (closingGap s) :=
  .ite h h.advance.driveLine.relOff

theorem InForm.startFbChange {lineB high : Bool} {at_ : Nat} (h : InForm c s) : InForm c (startFbChange lineB high at_ s) :=
  .ite h.advance.frame (.ite (.relReached h.advance.frame) (.ite (.relRaiseA h.advance.frame) h.advance.frame))

theorem InForm.relFbFault {lineB : Bool} (h : InForm c s) : InForm c (s.relFbFault lineB) := by
  unfold State.relFbFault
  dsimp only
  split
  · exact h
  · exact .ite (.frame (.driveLine (.relRefuse h))) (.frame (.driveLine (.relEndRecord h)))
  · exact .relEndCause h
  · exact h

theorem InForm.readbackFault {lineB : Bool} (h : InForm c s) : InForm c (readbackFault lineB s) :=
  .ite h h.advance.relFbFault

theorem InForm.relClearFault {lineB : Bool} (h : InForm c s) : InForm c (s.relClearFault lineB) :=
  .ite h (.ite (.relBoundary h) h)

theorem InForm.relStarted (h : InForm c s) : InForm c s.relStarted :=
  .ewWake (.frame (.ite (.relFbFault (.ite h.relFbFault h)) (.ite h.relFbFault h)))

theorem InForm.relCmdOpen {m : Master} (h : InForm c s) : InForm c (relCmdOpen m s) :=
  .ite h.relRefuse (h.onBus .relOpenCmd)

theorem InForm.relCmdEnd {m : Master} (h : InForm c s) : InForm c (relCmdEnd m s) :=
  h.onBus .relEndCause

theorem InForm.doorInEdge {i : Fin 4} {high : Bool} {at_ : Nat} (h : InForm c s) : InForm c (doorInEdge i high at_ s) :=
  .ite h.advance.tmrInput.putBit.frame (.wakeSource (.frame h.advance.tmrInput.putBit.frame))

theorem InForm.doorQualified {i : Fin 4} (h : InForm c s) : InForm c (doorQualified i s) := by
  unfold Machine.doorQualified
  split
  · exact h
  · exact .ewFire (.ite (.relEndCause h.advance.frame) h.advance.frame)

theorem InForm.sessionTimeout (h : InForm c s) : InForm c (sessionTimeout s) :=
  .ite h h.advanceRef.relEndCause

theorem InForm.armExpiry (h : InForm c s) : InForm c (armExpiry s) := by
  unfold Machine.armExpiry
  split
  · exact h.advanceLp.frame
  · exact h

theorem InForm.relForceOff {st : Nat} (h : InForm c s) : InForm c (s.relForceOff st) :=
  .ite (.relRefuse (.relBoundary (.frame (.driveLine (.driveLine (by
      split; exact h.relEndRecord; exact h.relEndRecord; exact h))))))
    (.relBoundary (.frame (.driveLine (.driveLine (by split; exact h.relEndRecord; exact h.relEndRecord; exact h)))))

theorem InForm.relFence (h : InForm c s) : InForm c s.relFence :=
  h.relForceOff.frame

theorem InForm.relEnable {en : Bool} (h : InForm c s) : InForm c (s.relEnable en) :=
  .ite h.unitSwitch h.unitSwitch.relEndCause

theorem InForm.relConfig {m : Master} {p : List Byte} (h : InForm c s) : InForm c (relConfig m p s) :=
  h.hostCmd fun h1 => .iteFst h1 (.fst (.ite h1.stage.stage.stage.putB.relEnable h1.stage.stage.stage))

theorem InForm.relArm {m : Master} {p : List Byte} (h : InForm c s) : InForm c (relArm m p s) :=
  h.hostCmd fun h1 => .iteFst h1 h1

theorem InForm.relStatus {m : Master} {p : List Byte} (h : InForm c s) : InForm c (relStatus m p s) :=
  h.hostCmd fun h1 => h1

theorem InForm.relEnd {m : Master} {p : List Byte} (h : InForm c s) : InForm c (relEnd m p s) :=
  h.hostCmd fun h1 => .iteFst h1 h1.relEndCause.fst

theorem InForm.relFollow (h : InForm c s) : InForm c s.relFollow := by
  unfold State.relFollow
  split
  · exact h
  · exact .ite h (.ite (.relRefuse h) (.relOpenCmd (.put (.foldl h .put))))

/-! ### Vault.lean -/

theorem InForm.nvStep {t : NvStep} (h : InForm c s) : InForm c (s.nvStep t) :=
  .ite h.nvWrite h.nvProgram

theorem InForm.nvRun {l : List NvStep} {e : Nat} (h : InForm c s) : InForm c (nvRun s l e) := by
  induction l generalizing s e with
  | nil => exact h
  | cons t l ih => exact .ite (ih h.nvStep) (.ite h h.freshBytes.nvWrite)

theorem InForm.nvSteps {l : List NvStep} (h : InForm c s) : InForm c (s.nvSteps l) :=
  h.foldl .nvStep

end Sys2Proof.Machine

/-!
PROOF. The functions of Vault.lean and Hfr.lean under Machine/ keep the form of the state (O4), in the order of the model; each
by the rules for what it is composed of.
-/
namespace Sys2Proof.Machine

-- The lemmas are many and short: proved one after the other, they stay within the threads that the check allows.
set_option Elab.async false

variable {c : Option Nat} {s : State}

/-! ### Vault.lean -/

theorem InForm.setMeas {v : VaultMeas} (h : InForm c s) : InForm c (s.setMeas v) :=
  h.frame

theorem InForm.vaultLogFault {fid src : Nat} (h : InForm c s) : InForm c (s.vaultLogFault fid src) := by
  unfold State.vaultLogFault
  split
  · rename_i _ t0 e0
    exact .frame (h.freshBytes.sndEq e0)

theorem InForm.vaultFault {fid : Nat} (h : InForm c s) : InForm c (s.vaultFault fid) :=
  .ite h h

theorem InForm.vaultFaultLog {fid : Nat} (h : InForm c s) : InForm c (s.vaultFaultLog fid) :=
  .ite h h.vaultFault.vaultLogFault

theorem InForm.vaultEvent {ev : Nat} {data : List Byte} (h : InForm c s) : InForm c (s.vaultEvent ev data) :=
  .ite h.event h

theorem InForm.vaultReports (h : InForm c s) : InForm c s.vaultReports :=
  .ite h (.foldl h fun h1 => .ite h1.put.event.frame (.ite h1.event h1))

theorem InForm.vaultMain (h : InForm c s) : InForm c s.vaultMain :=
  .vaultReports h

theorem InForm.startWrite {page : Nat} {data : List Byte} {owner : Nat} (h : InForm c s) :
    InForm c (s.startWrite page data owner).1 := by
  unfold State.startWrite
  exact .iteFst h (.iteFst h h)

theorem InForm.logTag {prev b : List Byte} (h : InForm c s) : InForm c (s.logTag prev b).2 := by
  unfold State.logTag
  split
  · exact h
  · exact h.freshBytes

theorem InForm.startLog {ev src : Nat} {data : List Byte} {owner : Nat} (h : InForm c s) :
    InForm c (s.startLog ev src data owner).1 := by
  unfold State.startLog
  exact h.logTag.startWrite

theorem InForm.logDone {w : PageWrite} (h : InForm c s) : InForm c (s.logDone w) :=
  .ite h h

theorem InForm.startOwn {x1 : VaultOwn} (h : InForm c s) : InForm c (s.startOwn x1) := by
  unfold State.startOwn
  split
  · exact h.startLog
  · exact h.startWrite

theorem InForm.ownRun {n : Nat} (h : InForm c s) : InForm c (State.ownRun n s) := by
  induction n generalizing s with
  | zero => exact h
  | succ n ih =>
    unfold State.ownRun
    refine .ite h ?_
    split
    · exact h
    · exact ih (.startOwn h.frame)

theorem InForm.vaultOwn (h : InForm c s) : InForm c s.vaultOwn :=
  h.ownRun

theorem InForm.frameError (h : InForm c s) : InForm c s.frameError :=
  .ite h h

theorem InForm.onFrame {b : List Byte} {parityOk : Bool} {first : Nat} {lens : List Nat} {at_ : Nat} {f : State → State}
    (h : InForm c s) (hf : ∀ {t}, InForm c t → InForm c (f t)) : InForm c (s.onFrame b parityOk first lens at_ f) :=
  .ite h (.ite (.frameError h.advance.frame) (hf h.advance.frame))

theorem InForm.inProto {ps : List Nat} {f : State → State} (h : InForm c s) (hf : ∀ {t}, InForm c t → InForm c (f t)) :
    InForm c (s.inProto ps f) :=
  .ite (hf h) h

theorem InForm.vaultHandle {q v : Nat} (h : InForm c s) : InForm c (s.vaultHandle q v) :=
  .ite h h

theorem InForm.ownHandle {q : Nat} (h : InForm c s) : InForm c (s.ownHandle q) :=
  .vaultHandle h

theorem InForm.vaultGotH {b : List Byte} (h : InForm c s) : InForm c (s.vaultGotH b) := by
  unfold State.vaultGotH
  split
  · exact h
  · exact .ite h h.vaultHandle

theorem InForm.vaultRngHealth (h : InForm c s) : InForm c s.vaultRngHealth := by
  unfold State.vaultRngHealth
  split
  · exact h
  · exact h.ownHandle

theorem InForm.anticoll {b : List Byte} {ps : List Nat} (h : InForm c s) : InForm c (s.anticoll b ps) := by
  unfold State.anticoll
  exact .ite (h.inProto fun h1 => h1) (.ite h.frame (h.inProto fun h1 => .ite h1.frame (.ownHandle h1.frame)))

theorem InForm.vreq {b : List Byte} {parityOk : Bool} {at_ : Nat} (h : InForm c s) : InForm c (vreq b parityOk at_ s) :=
  h.onFrame .anticoll

theorem InForm.vwup {b : List Byte} {parityOk : Bool} {at_ : Nat} (h : InForm c s) : InForm c (vwup b parityOk at_ s) :=
  h.onFrame .anticoll

theorem InForm.vsel {b : List Byte} {parityOk : Bool} {at_ : Nat} (h : InForm c s) : InForm c (vsel b parityOk at_ s) := by
  refine h.onFrame (fun h1 => h1.inProto (fun h2 => .ite h2 ?_))
  split
  · rename_i _ t2 e2
    exact .frame (.frame (.frame (.frame (h2.freshBytes.sndEq e2))))

theorem InForm.halt {b : List Byte} {parityOk : Bool} {at_ : Nat} (h : InForm c s) : InForm c (halt b parityOk at_ s) :=
  h.onFrame fun h1 => h1.inProto .frame

theorem InForm.setFails {n : Nat} (h : InForm c s) : InForm c (s.setFails n) :=
  .ite h h

theorem InForm.authFailed (h : InForm c s) : InForm c s.authFailed :=
  .vaultOwn (.vaultFault (.vaultLogFault (.setFails h)))

theorem InForm.auth1 {b : List Byte} {parityOk : Bool} {at_ : Nat} (h : InForm c s) : InForm c (auth1 b parityOk at_ s) :=
  h.onFrame fun h1 => h1.inProto fun h2 => by dsimp only; split; exact .authFailed h2.frame; exact h2.frame

theorem InForm.auth2 {b : List Byte} {parityOk : Bool} {at_ : Nat} (h : InForm c s) : InForm c (auth2 b parityOk at_ s) :=
  h.onFrame (fun h1 => h1.inProto fun h2 => .ite h2.vaultEvent.authFailed (.vaultOwn (.frame (.vaultEvent (.frame
    h2.setFails.frame)))))

theorem InForm.secureReadRun {b : List Byte} (h : InForm c s) : InForm c (s.secureReadRun b) :=
  .ite h (by split; exact .vaultOwn (.vaultFaultLog h); exact h)

theorem InForm.secureWriteRun {b : List Byte} (h : InForm c s) : InForm c (s.secureWriteRun b) := by
  refine .ite h (.ite h ?_)
  split
  · rename_i t0 _ e0
    exact .ite (h.startWrite.fstEq e0) (.frame (.frame (h.startWrite.fstEq e0)))

theorem InForm.ticketRun {b : List Byte} (h : InForm c s) : InForm c (s.ticketRun b) := by
  unfold State.ticketRun
  extract_lets st l
  clear_value st l
  refine .ite h.frame ?_
  split
  rename_i t u e
  have ht := h.startWrite.fstEq e
  exact .ite ht ht.frame

theorem InForm.ticketFire (h : InForm c s) : InForm c s.ticketFire :=
  .ite (.event (.frame (.ite h.frame h.frame))) (.frame (.frame (.ite h.frame h.frame)))

theorem InForm.secureRun {r : VaultReq} (h : InForm c s) : InForm c (s.secureRun r) :=
  .ite h.secureReadRun (.ite h.secureWriteRun h.ticketRun)

theorem InForm.vaultNext (h : InForm c s) : InForm c s.vaultNext :=
  .ite h (by split; exact .vaultOwn (.secureRun h); exact h.vaultOwn)

theorem InForm.onSecure {b : List Byte} {parityOk : Bool} {scmd n at_ : Nat} {f : State → List Byte → State} (h : InForm c s)
    (hf : ∀ {t a1}, InForm c t → InForm c (f t a1)) : InForm c (s.onSecure b parityOk scmd n at_ f) :=
  h.onFrame fun h1 => h1.inProto fun h2 => .ite h2 (by split; exact h2.frameError; exact .ite h2 (.ite h2.frameError (hf h2)))

theorem InForm.secureAsk {scmd : Nat} {body : List Byte} (h : InForm c s) : InForm c (s.secureAsk scmd body) :=
  .ite h h.secureRun

theorem InForm.secureRead {b : List Byte} {parityOk : Bool} {v : VaultMeas} {at_ : Nat} (h : InForm c s) :
    InForm c (secureRead b parityOk v at_ s) :=
  h.onSecure fun h1 => .secureAsk h1

theorem InForm.secureWrite {b : List Byte} {parityOk : Bool} {v : VaultMeas} {at_ : Nat} (h : InForm c s) :
    InForm c (secureWrite b parityOk v at_ s) :=
  h.onSecure fun h1 => .secureAsk h1

theorem InForm.secureStatus {b : List Byte} {parityOk : Bool} {v : VaultMeas} {at_ : Nat} (h : InForm c s) :
    InForm c (secureStatus b parityOk v at_ s) :=
  h.onSecure .frame

theorem InForm.ticket {b : List Byte} {parityOk : Bool} {v : VaultMeas} {at_ : Nat} (h : InForm c s) :
    InForm c (ticket b parityOk v at_ s) :=
  h.onSecure fun h1 => .secureAsk h1

theorem InForm.secureEnd {b : List Byte} {p : Bool} {a : Nat} (h : InForm c s) : InForm c (secureEnd b p a s) :=
  h.onSecure fun {t _} ht =>
    have hs : InForm c (t.secureAnswer OK []) := ht.frame
    hs.frame

theorem InForm.recover (h : InForm c s) : InForm c s.recover :=
  .ite (.foldl (.foldl (h.foldl fun h1 => h1.wait.nvSteps) fun h1 => h1.wait.nvStep) fun h1 => h1.vaultFault.vaultLogFault)
    (.frame (.put (.frame (.foldl (.foldl (h.foldl fun h1 => h1.wait.nvSteps) fun h1 => h1.wait.nvStep) fun h1 =>
    h1.vaultFault.vaultLogFault))))

theorem InForm.vaultPowerUp {main : Bool} {v : VaultMeas} {at_ : Nat} (h : InForm c s) : InForm c (vaultPowerUp main v at_ s) :=
  .ite h (.ite (.frame (.frame h.advance.frame)) (.vaultOwn (.vaultReports (.frame (.recover (.frame (.frame
    h.advance.frame)))))))

theorem InForm.vaultBrownOut {at_ : Nat} (h : InForm c s) : InForm c (vaultBrownOut at_ s) :=
  .ite h (.frame (.frame (.frame
    (by split; exact .ite (.ite h.advance.nvRun.logDone h.advance.nvRun) h.advance.nvRun; exact h.advance))))

theorem InForm.vaultFieldLoss {at_ : Nat} (h : InForm c s) : InForm c (vaultFieldLoss at_ s) :=
  .ite h (.frame (.frame h.advance.frame))

theorem InForm.fdWakeRise {v : VaultMeas} {at_ : Nat} (h : InForm c s) : InForm c (fdWakeRise v at_ s) :=
  .ite h (.ite (.frame h.advance.frame) (.ite (.put (.frame h.advance.frame)) (.ite (.frame (.frame h.advance.frame)) (.ewFire
    (.pollResume (.wakeSource (.event (.frame (.frame h.advance.frame)))))))))

theorem InForm.fdWakeFall {at_ : Nat} (h : InForm c s) : InForm c (fdWakeFall at_ s) :=
  .ite h h.advance.frame

theorem InForm.fdOwnField (h : InForm c s) : InForm c s.fdOwnField :=
  h.put.frame

theorem InForm.retiredSlotErase {v : Bool} (h : InForm c s) : InForm c (retiredSlotErase v s) := by
  refine .ite h ?_
  split
  · exact h
  · exact .ite (.nvWrite h.wait) (.vaultOwn (.vaultFaultLog h.wait))

theorem InForm.vaultRelPulseEnd (h : InForm c s) : InForm c (vaultRelPulseEnd s) := by
  unfold Machine.vaultRelPulseEnd
  split
  · exact h
  · exact h.advance.frame

theorem InForm.vltRng {failing : Bool} {at_ : Nat} (h : InForm c s) : InForm c (vltRng failing at_ s) :=
  .ite h (.ite (.vaultOwn (.vaultLogFault (.vaultFault h.advance.frame))) h.advance.frame)

/-! ### Hfr.lean -/

theorem InForm.fieldEvent {port level cause : Nat} (h : InForm c s) : InForm c (s.fieldEvent port level cause) :=
  h.event

theorem InForm.hfrBoundary (h : InForm c s) : InForm c s.hfrBoundary :=
  .ite h.applyStaged.unitSettle h

theorem InForm.fieldOff {cause : Nat} (h : InForm c s) : InForm c (s.fieldOff cause) := by
  unfold State.fieldOff
  split
  · exact h
  · exact hfrBoundary (.fieldEvent h)

theorem InForm.fieldOn {p : Nat} (h : InForm c s) : InForm c (s.fieldOn p) :=
  .withdraw (.fieldEvent (.notePeak (.frame (.put h))))

theorem InForm.actEvent {a : HfrAct} {st : Nat} {multi : Bool} {uid : List Byte} {sak atq : Nat} {ats : List Byte}
    (h : InForm c s) : InForm c (s.actEvent a st multi uid sak atq ats) :=
  h.pushEvtItem

theorem InForm.actFail {a : HfrAct} {st : Nat} (h : InForm c s) : InForm c (s.actFail a st) :=
  .actEvent h

theorem InForm.tapEvent {f : HfrFlow} {st ctr : Nat} {unlock console : Bool} (h : InForm c s) :
    InForm c (s.tapEvent f st ctr unlock console) :=
  h.event

theorem InForm.flowEnd {cause : Nat} (h : InForm c s) : InForm c (s.flowEnd cause) := by
  unfold State.flowEnd
  split
  · exact h
  · exact .fieldOff h

theorem InForm.flowFail {f : HfrFlow} {st : Nat} (h : InForm c s) : InForm c (s.flowFail f st) :=
  .flowEnd (.tapEvent (.ite (.ite h.countGlobal h) h.countOutcome))

theorem InForm.flowBreak {st cause : Nat} (h : InForm c s) : InForm c (s.flowBreak st cause) := by
  unfold State.flowBreak
  split
  · exact h
  · exact .flowEnd (.ite h h.tapEvent)

theorem InForm.tapGotNb {nb : List Byte} (h : InForm c s) : InForm c (s.tapGotNb nb) := by
  unfold State.tapGotNb
  split
  · exact h
  · exact .ite h h

theorem InForm.helloReply {b : List Byte} {at_ : Nat} (h : InForm c s) : InForm c (helloReply b at_ s) := by
  unfold Machine.helloReply
  split
  · exact h
  · exact .ite h (.ite h.advance.flowFail (.ite h.advance.flowFail (.ite h.advance.flowFail (.frame (.withdraw (.frame
      h.advance.frame))))))

theorem InForm.tapFound {f : HfrFlow} {r : LookRes} (h : InForm c s) : InForm c (s.tapFound f r) := by
  unfold State.tapFound
  dsimp only
  split
  · exact .ite (.flowFail h.frame) h.frame
  · exact .flowFail h.frame

theorem InForm.tapClose {f : HfrFlow} {r : Nat} (h : InForm c s) : InForm c (s.tapClose f r) :=
  h.frame

theorem InForm.tapPassed {f : HfrFlow} {r : LookRes} {ctr : Nat} (h : InForm c s) : InForm c (s.tapPassed f r ctr) := by
  unfold State.tapPassed
  extract_lets console t u v o w
  have ht : InForm c t := .pollKick (.frame h.storeCounter)
  have hu : InForm c u := .ite ht.frame ht
  have hv : InForm c v := hu.tapEvent
  have hw : InForm c w := .ite hv.frame hv
  exact hw.tapClose

theorem InForm.proofReply {b : List Byte} {wtx : Bool} {delayUs at_ : Nat} (h : InForm c s) :
    InForm c (proofReply b wtx delayUs at_ s) := by
  unfold Machine.proofReply
  split
  · exact h
  · refine .ite h ?_
    extract_lets t
    have ht : InForm c t := h.advance
    split
    · exact ht.flowFail
    · exact .ite ht.flowFail (.ite ht.tapPassed ht.countOutcome.tapEvent.tapClose)

theorem InForm.tapFdtTimeout {at_ : Nat} (h : InForm c s) : InForm c (tapFdtTimeout at_ s) := by
  unfold Machine.tapFdtTimeout
  split
  · exact h
  · exact .ite h h.advance.flowFail

theorem InForm.closeReply {at_ : Nat} (h : InForm c s) : InForm c (closeReply at_ s) := by
  unfold Machine.closeReply
  split
  · exact h
  · exact .ite h h.advance.flowEnd

theorem InForm.hfrFaultEffect {fid : Nat} (h : InForm c s) : InForm c (s.hfrFaultEffect fid) :=
  .ite (.ite h h) (.fieldOff (.ite h h))

theorem InForm.hfrStart {port tech rate flags afi timeoutMs : Nat} (h : InForm c s) :
    InForm c (s.hfrStart port tech rate flags afi timeoutMs).1 :=
  .iteFst h (.iteFst h (.iteFst h (.iteFst h.refuseBudget.fst (.fst (.withdraw h)))))

theorem InForm.hfrActivate {m : Master} {p : List Byte} (h : InForm c s) : InForm c (hfrActivate m p s) := by
  unfold Machine.hfrActivate
  exact h.hostCmd fun h1 => .fst (hfrStart h1)

theorem InForm.extCheckEnd {ext : Bool} (h : InForm c s) : InForm c (extCheckEnd ext s) := by
  unfold Machine.extCheckEnd
  split
  · exact h
  · exact .ite h (.ite h.advance.put.bump.fieldEvent.actFail (.fieldOn h.advance.frame))

theorem InForm.hfrActivated {ok multi : Bool} {uid : List Byte} {sak : Byte} {atq : BitVec 16} {ats : List Byte} {at_ : Nat}
    (h : InForm c s) : InForm c (hfrActivated ok multi uid sak atq ats at_ s) := by
  unfold Machine.hfrActivated
  split
  · exact h
  · exact .ite h (.ite h.advance.actFail (.ite h.advance.actFail.fieldOff (.ite (.actEvent h.advance.frame) (.ite (.flowBreak
      (.frame (.actEvent h.advance.frame))) (.frame (.frame (.actEvent h.advance.frame)))))))

theorem InForm.hfrActivateTimeout (h : InForm c s) : InForm c (hfrActivateTimeout s) := by
  unfold Machine.hfrActivateTimeout
  split
  · exact h
  · exact .ite h h.advance.actFail

theorem InForm.hfrExchange {m : Master} {p : List Byte} (h : InForm c s) : InForm c (hfrExchange m p s) :=
  h.hostCmdLater fun h1 => .iteFst h1 (.iteFst h1 (.iteFst h1 h1))

theorem InForm.exchEnd {st : Nat} {d : List Byte} (h : InForm c s) : InForm c (s.exchEnd st d) := by
  unfold State.exchEnd
  split
  · exact h
  · exact .answer h

theorem InForm.targetResponse {b : List Byte} {crcOk : Bool} {at_ : Nat} (h : InForm c s) :
    InForm c (targetResponse b crcOk at_ s) :=
  .ite h h.advance.exchEnd

theorem InForm.hfrExchangeTimeout (h : InForm c s) : InForm c (hfrExchangeTimeout s) := by
  unfold Machine.hfrExchangeTimeout
  split
  · exact h
  · exact h.advance.exchEnd

theorem InForm.hfrFieldTimeout (h : InForm c s) : InForm c (hfrFieldTimeout s) :=
  .ite h h.advance.fieldOff

theorem InForm.hfrOvercurrent {port : Fin 2} {at_ : Nat} (h : InForm c s) : InForm c (hfrOvercurrent port at_ s) :=
  .ite h.advance (.fieldOff h.advance.put.frame)

theorem InForm.hfrCut {st cause : Nat} (h : InForm c s) : InForm c (s.hfrCut st cause) :=
  .fieldOff (.exchEnd (by split; exact h.flowBreak.actFail; exact h.flowBreak))

theorem InForm.hfrFieldOff {m : Master} {p : List Byte} (h : InForm c s) : InForm c (hfrFieldOff m p s) :=
  h.hostCmd fun h1 => .fst (.ite (.frame (.ite (hfrCut h1) h1)) (.ite (hfrCut h1) h1))

theorem InForm.pingApply {p : Nat} {cfg thr : Word} (h : InForm c s) : InForm c (s.pingApply p cfg thr) :=
  .ite (.frame h.setReg.setReg.frame) (.ite h.setReg.setReg.frame (.frame h.setReg.setReg.frame))

theorem InForm.hfrPingConfig {m : Master} {p : List Byte} (h : InForm c s) : InForm c (hfrPingConfig m p s) :=
  h.hostCmd fun h1 => .iteFst h1 (.fst (.pingApply h1))

theorem InForm.pingReferenceStart (h : InForm c s) : InForm c (pingReferenceStart s) :=
  .ite h h

theorem InForm.pingLearn {p amp phase : Nat} (h : InForm c s) : InForm c (s.pingLearn p amp phase) :=
  .frame (.put (.put h.put.put.put.frame))

theorem InForm.pingDetected {p : Nat} {dAmp dPh : Int} (h : InForm c s) : InForm c (s.pingDetected p dAmp dPh) :=
  .ite h.put.bump.event.wakeSource.frame h.put.bump.event.wakeSource

theorem InForm.pingCompare {p amp phase : Nat} (h : InForm c s) : InForm c (s.pingCompare p amp phase) :=
  .ite (.ite (.pingDetected h.putB.put.frame) h.putB.put) (.put (.put h.putB.put.frame))

theorem InForm.hfrPing {port : Fin 2} {amp : BitVec 16} {phase : BitVec 12} {ext : Bool} (h : InForm c s) :
    InForm c (hfrPing port amp phase ext s) := by
  unfold Machine.hfrPing
  extract_lets p due t u v w x
  have ht : InForm c t := h.advanceLp
  have hu : InForm c u := by
    unfold u
    split
    · exact .pingApply ht.frame
    · exact ht
  have hv : InForm c v := hu.frame
  have hw : InForm c w := hv.bump
  have hx : InForm c x := hw.put.put
  exact .ite h (.ite hv (.ite (.bump (.ite hv.put hv)) (.ite hx.pingLearn hx.pingCompare)))

theorem InForm.hfrEnable {en : Bool} (h : InForm c s) : InForm c (s.hfrEnable en) :=
  h.unitSwitch

theorem InForm.hfrConfig {m : Master} {p : List Byte} (h : InForm c s) : InForm c (hfrConfig m p s) :=
  h.hostCmd fun h1 => .iteFst h1 (.fst (.ite (hfrEnable h1.stage.stage.stage.putB) h1.stage.stage.stage))

theorem InForm.hfrStop {st : Nat} (h : InForm c s) : InForm c (s.hfrStop st) :=
  hfrCut h

end Sys2Proof.Machine

/-!
PROOF. The functions of Hfr.lean, Qm.lean, Vlt.lean, Units.lean and Update.lean under Machine/ keep the form of the state (O4),
in the order of the model; each by the rules for what it is composed of.
-/
namespace Sys2Proof.Machine

-- The lemmas are many and short: proved one after the other, they stay within the threads that the check allows.
set_option Elab.async false

variable {c : Option Nat} {s : State}

/-! ### Hfr.lean -/

theorem InForm.hfrFollow (h : InForm c s) : InForm c s.hfrFollow := by
  unfold State.hfrFollow
  dsimp only
  split
  · split
    · exact .ite h.tapFound h
    · exact h
  · exact .ite (by split; exact .ite h.tapFound h; exact h) (hfrStart (.frame (by split; exact .ite h.tapFound h; exact h)))

/-! ### Qm.lean -/

theorem InForm.pushBegin {m : Master} {port : Nat} {v : Word} (h : InForm c s) : InForm c (pushBegin m port v s) :=
  .ite h (.ite h (.ite h (.ite h (.ite h (.ite h.refuse.frame (.levelChanged h))))))

theorem InForm.qmPushBegin {m : Master} {port : Fin 8} {v : Word} (h : InForm c s) : InForm c (qmPushBegin m port v s) :=
  h.onBus .pushBegin

theorem InForm.configQueue {c' : QueueCfg} (h : InForm c s) : InForm c (s.configQueue c') :=
  .ite h.putFree.putFree.put.flushQueue.flushedEvent h.putFree.putFree.put

theorem InForm.applyWaiting {q : Nat} (h : InForm c s) : InForm c (s.applyWaiting q) :=
  .ite h (.foldl h .configQueue)

theorem InForm.pushData {port : Nat} {v : Word} (h : InForm c s) : InForm c (pushData port v s) := by
  unfold Machine.pushData
  dsimp only
  split
  · exact h
  · exact .ite h (.applyWaiting (.levelChanged h))

theorem InForm.qmPushData {m : Master} {port : Fin 8} {v : Word} (h : InForm c s) : InForm c (qmPushData m port v s) :=
  h.onBus .pushData

theorem InForm.popSel {m : Master} {port : Nat} {q : BitVec 7} (h : InForm c s) : InForm c (popSel m port q s) := by
  refine .ite h.frame (.ite h.frame ?_)
  split
  · exact h.frame
  · rename_i _ t0 e0
    exact .frame (.popItem h.frame e0)

theorem InForm.qmPopSel {m : Master} {port : Fin 8} {q : BitVec 7} (h : InForm c s) : InForm c (qmPopSel m port q s) :=
  h.onBus .popSel

theorem InForm.eccCount {q : Nat} {x2 : Ecc} (h : InForm c s) : InForm c (s.eccCount q x2) := by
  unfold State.eccCount
  split
  · exact h
  · exact h.bump.bump
  · exact h.bump.frame

theorem InForm.popData {port : Nat} {ecc : Ecc} (h : InForm c s) : InForm c (popData port ecc s) := by
  unfold Machine.popData
  extract_lets p
  split
  · exact h
  · have ht : InForm c (s.eccCount p.queue ecc) := h.eccCount
    refine .ite h ?_
    extract_lets
    split
    · exact ht.frame
    · exact ht.frame
    · exact ht.frame

theorem InForm.qmPopData {m : Master} {port : Fin 8} {ecc : Ecc} (h : InForm c s) : InForm c (qmPopData m port ecc s) :=
  h.onRead .popData

theorem InForm.qmPopDone {m : Master} {port : Fin 8} (h : InForm c s) : InForm c (qmPopDone m port s) :=
  h.onBus .frame

theorem InForm.qmLink {q : Fin 128} {at_ : Nat} (h : InForm c s) : InForm c (qmLink q at_ s) :=
  .applyWaiting (.flushedEvent (.bump (.flushQueue h.advance.frame)))

theorem InForm.qConfig {m : Master} {p : List Byte} (h : InForm c s) : InForm c (qConfig m p s) :=
  h.hostCmd fun h1 => .iteFst h1 (.iteFst h1 (.iteFst h1 (.fst (.ite h1 h1.configQueue))))

theorem InForm.popMany {q n room : Nat} {ecc : List Ecc} (h : InForm c s) : InForm c (popMany q n room ecc s).2.2.1 := by
  induction n generalizing s room ecc with
  | zero => exact h
  | succ n ih =>
    unfold Machine.popMany
    split
    · exact h
    · split
      · exact h
      · split
        · exact h
        · rename_i it t e
          have ht : InForm c (t.eccCount q (ecc.headD .clean)) := (h.popItem e).eccCount
          dsimp only
          split
          · exact ht
          · exact ih ht

theorem InForm.qPop {m : Master} {p : List Byte} {ecc : List Ecc} (h : InForm c s) : InForm c (qPop m p ecc s) :=
  h.hostCmd fun h1 => by split; exact h1; exact h1.popMany.fst

theorem InForm.qPush {m : Master} {p : List Byte} (h : InForm c s) : InForm c (qPush m p s) :=
  h.hostCmd fun h1 => by split; exact h1; exact .iteFst h1.refuse.fst (.fst (.levelChanged h1))

theorem InForm.qFlush {m : Master} {p : List Byte} (h : InForm c s) : InForm c (qFlush m p s) :=
  h.hostCmd fun h1 => .iteFst h1 (.iteFst h1 h1.flushQueue.flushedEvent.applyWaiting.fst)

theorem InForm.qStatus {m : Master} {p : List Byte} (h : InForm c s) : InForm c (qStatus m p s) :=
  h.hostCmd fun h1 => .iteFst h1 h1

theorem InForm.qWatermark {m : Master} {p : List Byte} (h : InForm c s) : InForm c (qWatermark m p s) :=
  h.hostCmd (fun h1 => .iteFst h1 (.iteFst h1 (.fst (.ite (.put (.ite (.put (.put (.ite h1.put h1))) (.ite h1.put h1))) (.ite
    (.put (.put (.ite h1.put h1))) (.ite h1.put h1))))))

/-! ### Vlt.lean -/

theorem InForm.addJob {j : VltJob} (h : InForm c s) : InForm c (s.addJob j) :=
  .withdraw h

theorem InForm.endJob {i st : Nat} (h : InForm c s) : InForm c (s.endJob i st) := by
  unfold State.endJob
  split
  · exact h
  · extract_lets t
    have ht : InForm c t := h.frame
    clear_value t
    split
    split
    · exact ht
    · exact ht.frame
    · exact ht.answer

theorem InForm.logTagOk {i : Nat} (h : InForm c s) : InForm c (s.logTagOk i).2 := by
  unfold State.logTagOk
  exact .iteSnd h (by dsimp only; split <;> exact h)

theorem InForm.logTagsOk {l : List Nat} (h : InForm c s) : InForm c (s.logTagsOk l).2 := by
  induction l generalizing s with
  | nil => exact h
  | cons i l ih =>
    have ht := ih (h.logTagOk (i := i))
    unfold State.logTagsOk
    exact ht

theorem InForm.checkPage {p : Nat} {start : Bool} (h : InForm c s) : InForm c (s.checkPage p start).2 := by
  unfold State.checkPage
  split
  · exact h
  · exact h.logTagsOk.snd

theorem InForm.integFail (h : InForm c s) : InForm c s.integFail :=
  h.bump.frame

theorem InForm.streamRead {i : Nat} {x2 : VltStream} (h : InForm c s) : InForm c (s.streamRead i x2) := by
  unfold State.streamRead
  dsimp only
  split
  · rename_i t0 e0
    exact .endJob (.frame (.frame (.bump (h.checkPage.sndEq e0))))
  · rename_i _ t0 e0
    exact .frame (h.checkPage.sndEq e0)

theorem InForm.runJob {i : Nat} {j : VltJob} (h : InForm c s) : InForm c (s.runJob i j) := by
  unfold State.runJob
  extract_lets t begins l p b
  have ht : InForm c t := h.frame
  have hbegins {r : State × Nat} (hr : InForm c r.1) : InForm c (begins r) := .ite hr.frame hr.endJob
  clear_value t begins l p b
  split
  · split
    · rename_i u e
      exact (ht.checkPage.sndEq e).bump.frame.endJob
    · rename_i x u e
      have hu : InForm c u := ht.checkPage.sndEq e
      extract_lets v
      have hv : InForm c v := hu.frame
      exact .ite hv.endJob hv
  · split
    · exact ht.streamRead
    · exact ht.frame
  · exact .ite ht.endJob (hbegins ht.startWrite)
  · exact hbegins ht.startWrite
  · exact hbegins ht.startWrite
  · exact hbegins ht.startWrite
  · exact hbegins ht.startWrite
  · exact hbegins ht.startLog
  · exact hbegins ht.startWrite

theorem InForm.wiredOperationGrant {v : VaultMeas} {at_ : Nat} (h : InForm c s) : InForm c (wiredOperationGrant v at_ s) :=
  .ite h (by split; exact h; exact (by dsimp only; split; exact .runJob h.advance.frame; exact h.advance.frame))

theorem InForm.vaultBusyTimeout (h : InForm c s) : InForm c (vaultBusyTimeout s) :=
  .ite h (by split; exact h; exact (by split; exact h; exact .endJob h.advance.bump.frame))

theorem InForm.writeDone {src page seq : Nat} (h : InForm c s) : InForm c (s.writeDone src page seq) :=
  h.vaultEvent

theorem InForm.jobWritten {w : PageWrite} {st : Nat} (h : InForm c s) : InForm c (s.jobWritten w st) := by
  unfold State.jobWritten
  split
  · exact h
  · extract_lets t u v x
    have ht : InForm c t := h.frame
    have hu : InForm c u := .ite ht.bump ht
    have hv : InForm c v := hu.frame
    have hx : InForm c x := hv.writeDone
    clear_value u v x
    split
    · exact hu
    · refine .ite hu.endJob ?_
      split
      · exact .ite hx.endJob hx
      · exact hv.put.put.endJob
      · exact hv.endJob

theorem InForm.writeEnded {w : PageWrite} {st : Nat} (h : InForm c s) : InForm c (s.writeEnded w st) := by
  unfold State.writeEnded
  extract_lets t u v
  have ht : InForm c t := .ite h.logDone h
  have hu : InForm c u := .ite ht.frame ht
  have hv : InForm c v := .ite hu.writeDone hu
  split
  · exact hu.jobWritten
  · exact .ite hv.frame hv
  · exact .ite hu.ticketFire (.ite hu.frame hu)
  · exact hu

theorem InForm.pageWriteCommitted {b : Bool} {v : VaultMeas} (h : InForm c s) : InForm c (pageWriteCommitted b v s) := by
  unfold Machine.pageWriteCommitted
  split
  · exact h
  · rename_i w e
    have ht : InForm c ((s.advance (w.at_ + w.commitTicks)).setMeas v) := h.advance.setMeas
    generalize (s.advance (w.at_ + w.commitTicks)).setMeas v = t at ht ⊢
    refine .ite h (.ite (.writeEnded (.frame ht.nvSteps)) ?_)
    have hn : InForm c ((t.nvWrite (slotAddr w.slot) (List.replicate 128 0xFF)).nvStep (retireStep w.slot)) := ht.nvWrite.nvStep
    generalize (t.nvWrite (slotAddr w.slot) (List.replicate 128 0xFF)).nvStep (retireStep w.slot) = u at hn ⊢
    exact .vaultNext (.writeEnded (.vaultFaultLog hn.frame))

theorem InForm.pageWriteCopyDone {b : Bool} {v : VaultMeas} (h : InForm c s) : InForm c (pageWriteCopyDone b v s) := by
  unfold Machine.pageWriteCopyDone
  split
  · exact h
  · rename_i w e
    have ht : InForm c ((s.advance (w.at_ + copyTicks)).setMeas v) := h.advance.setMeas
    refine .ite h (.vaultNext (.ite (.nvSteps ht.modVlt) ?_))
    split
    rename_i e
    exact (InForm.freshBytes (.modVlt ht)).sndEq e |>.nvWrite.vaultFaultLog

theorem InForm.vltRead {m : Master} {p : List Byte} (h : InForm c s) : InForm c (vltRead m p s) :=
  h.hostCmdLater fun h1 => .iteFst h1 (.iteFst h1.addJob.fst (.iteFst h1 (.fst h1.addJob.frame)))

theorem InForm.vltWrite {m : Master} {p : List Byte} (h : InForm c s) : InForm c (vltWrite m p s) :=
  h.hostCmdLater fun h1 => .iteFst h1 h1.addJob.fst

theorem InForm.vltConfig {m : Master} {p : List Byte} (h : InForm c s) : InForm c (vltConfig m p s) :=
  h.hostCmdLater (fun h1 => .iteFst h1 (.iteFst (.iteFst h1 h1.addJob.fst) (.iteFst (by split; exact h1; exact h1.addJob.fst)
    (.iteFst h1.addJob.fst h1.addJob.fst))))

theorem InForm.vltStatus {m : Master} {p : List Byte} (h : InForm c s) : InForm c (vltStatus m p s) :=
  h.hostCmd fun h1 => .iteFst h1 h1

theorem InForm.vltRelArm {m : Master} {p : List Byte} (h : InForm c s) : InForm c (vltRelArm m p s) :=
  h.hostCmdLater fun h1 => .iteFst h1 h1.addJob.fst

theorem InForm.streamJob (h : InForm c s) : InForm c s.streamJob := by
  unfold State.streamJob
  split
  · exact .ite h h
  · exact h

theorem InForm.vltStreamItem (h : InForm c s) : InForm c (vltStreamItem s) := by
  unfold Machine.vltStreamItem
  split
  · exact h
  · refine .ite h ?_
    split
    · exact h
    · split
      · exact h
      · rename_i t2 e2
        exact .streamJob (.frame (h.pushItem e2))

theorem InForm.vltStreamTimeout (h : InForm c s) : InForm c (vltStreamTimeout s) := by
  unfold Machine.vltStreamTimeout
  split
  · exact h
  · exact .ite h (.streamJob h.advance.frame)

theorem InForm.lastTimeWrite (h : InForm c s) : InForm c (lastTimeWrite s) :=
  .ite h (.addJob h.advance.frame)

theorem InForm.vltFollow (h : InForm c s) : InForm c s.vltFollow :=
  .ite h (.ite (.addJob h) h)

theorem InForm.vltFence (h : InForm c s) : InForm c s.vltFence := by
  refine .frame ?_
  split
  · exact .pushOrCount (h.foldl fun h2 => by split; exact h2; exact h2; exact h2.answer)
  · exact h.foldl fun h2 => by split; exact h2; exact h2; exact h2.answer

theorem InForm.vltEnable {en : Bool} (h : InForm c s) : InForm c (s.vltEnable en) :=
  h.unitSwitch

/-! ### Units.lean -/

theorem InForm.unitEnable {b : Nat} {en : Bool} (h : InForm c s) : InForm c (s.unitEnable b en) := by
  unfold State.unitEnable
  split
  · exact h.lfBlockEnable
  · exact .ite h.unitSwitch (h.unitSwitch.foldl .stopWin)
  · exact .ite h.unitSwitch h.utxOff
  · exact h.relEnable
  · exact hfrEnable h
  · exact h.vltEnable
  · exact .ite h.unitSwitch h

theorem InForm.writeEn {b : Nat} {en : Bool} (h : InForm c s) : InForm c (s.writeEn b en) :=
  .ite h.putB h.putB.unitEnable

theorem InForm.unitStarted {b : Nat} (h : InForm none s) : InForm none (s.unitStarted b) := by
  refine .ite h (.ite h ?_)
  dsimp only
  split
  · exact .lfCalPlace h
  · exact .relStarted h
  · exact .ite (.reinstall h) h
  · exact .ite h (.rngStart h)
  · exact .relServe (.foldl h .serveReserved)
  · exact .ite h h
  · exact h

theorem InForm.unitFinish {b : Nat} (h : InForm c s) : InForm c (s.unitFinish b) :=
  .ite h.unitSettle.lfChansStart h.unitSettle

theorem InForm.boundaries (h : InForm c s) : InForm c s.boundaries := by
  unfold State.boundaries
  extract_lets t u
  have ht : InForm c t := h.burstOver
  have hu : InForm c u := .ite ht (.foldl ht fun hv => .ite (.ite hv.zoneBoundary hv.applyStaged) hv)
  exact .ite (.foldl hu fun hv => .ite hv hv.unitFinish) hu

theorem InForm.unitEnWrite {m : Master} {block : Fin 23} {en : Bool} (h : InForm c s) : InForm c (unitEnWrite m block en s) := by
  unfold Machine.unitEnWrite
  exact .ite h (by dsimp only; split; exact h.putB; exact h.onBus .writeEn)

/-! ### Update.lean -/

theorem InForm.loadWord {b o v : Nat} (h : InForm c s) : InForm c (s.loadWord b o v) := by
  unfold State.loadWord
  extract_lets a old new t en u lfCh w
  have ht : InForm c t := h.setReg
  have hu : InForm c u := .ite ht.unitEnable ht
  have hw : InForm c w := by
    unfold w
    split
    · exact hu.lfEnable
    · exact hu
  exact .ite hw.put hw

theorem InForm.setCstate {v : Nat} (h : InForm c s) : InForm c (s.setCstate v) :=
  h.put

theorem InForm.dropStaged (h : InForm c s) : InForm c s.dropStaged :=
  .put (.setCstate h)

theorem InForm.stageEnd (h : InForm c s) : InForm c s.stageEnd.1 := by
  unfold State.stageEnd
  split
  · exact h
  · exact .iteFst h (by split; exact h; exact .iteFst h (.iteFst h (.iteFst h (.fst (.put (.put (.setCstate h)))))))

theorem InForm.cfgStage {m : Master} {p : List Byte} (h : InForm c s) : InForm c (cfgStage m p s) :=
  h.hostCmd (fun h1 => .iteFst h1
    (by
      split
      · exact .fst h1.dropStaged.frame
      · split; exact h1; exact .iteFst h1 h1
      · exact h1.stageEnd
      · exact h1.dropStaged.fst))

theorem InForm.writeImage {k : Nat} {b : List Byte} (h : InForm c s) : InForm c (s.writeImage k b) :=
  h.eraseMem.writeMem

theorem InForm.committed {k : Nat} (h : InForm c s) : InForm c (s.committed k) :=
  .put (.put h)

theorem InForm.commit {ok : Bool} (h : InForm c s) : InForm c (s.commit ok).1 :=
  .iteFst h.writeImage.eraseMem.writeMem.committed.fst h.writeImage.eraseMem.writeMem.fst

theorem InForm.cfgCommitNv {m : Master} {p : List Byte} {readback : Bool} (h : InForm c s) :
    InForm c (cfgCommitNv m p readback s) :=
  h.hostCmdLater (fun h1 => .iteFst h1 (.iteFst h1 (.fst (.frame (.notePeak (.frame (.frame (.notePeak (.frame (.frame (.notePeak
    (.frame h1.writeImage.frame))))))))))))

theorem InForm.progDone {st : Nat} (h : InForm c s) : InForm c (s.progDone st) := by
  unfold State.progDone
  split
  · exact h
  · exact .answer (.ite (.committed h) h)

theorem InForm.modApply {f : CfgApply → CfgApply} (h : InForm c s) : InForm c (s.modApply f) :=
  .put h

theorem InForm.cfgDone {a : CfgApply} {st never : Nat} (h : InForm c s) : InForm c (s.cfgDone a st never) :=
  h.eventBbx

theorem InForm.applyDone {a : CfgApply} {ok : Bool} (h : InForm c s) : InForm c (s.applyDone a ok) :=
  .answer (.cfgDone (.iteFst (.commit (.put (.put (.put (.put (.setCstate h)))))) (.fst (.put (.put (.put (.put (.setCstate
    h))))))))

theorem InForm.switchBlock {b : Nat} (h : InForm c s) : InForm c (s.switchBlock b) :=
  .modApply (.ite (.rangeCheckPlan (h.foldl .loadWord)) (h.foldl .loadWord))

theorem InForm.revertWord {a : Nat} {old : Word} (h : InForm c s) : InForm c (s.revertWord a old) := by
  unfold State.revertWord
  split
  · exact h
  · exact h.setReg

theorem InForm.revertBlock {a : CfgApply} {b : Nat} (h : InForm c s) : InForm c (s.revertBlock a b) := by
  unfold State.revertBlock
  extract_lets mine t u v
  have ht : InForm c t := .foldl h .revertWord
  have hu : InForm c u := .ite (by split; exact .ite ht.unitEnable ht.unitEnable; exact ht) ht
  have hv : InForm c v := .ite hu.rangeCheckPlan hu
  exact hv.modApply

theorem InForm.revertEnd (h : InForm c s) : InForm c s.revertEnd := by
  unfold State.revertEnd
  split
  · exact .ite (.setCstate h) h
  · exact h

theorem InForm.cfgApply {m : Master} {p : List Byte} (h : InForm c s) : InForm c (cfgApply m p s) := by
  refine h.hostCmdLater (fun h1 => .iteFst h1 ?_)
  split
  · exact h1
  · exact .iteFst h1 (.iteFst (.fst (.applyDone (.modApply (.setCstate h1)))) (.fst (.modApply (.setCstate h1))))

theorem InForm.configSwitch {block : Fin 23} {readback : Bool} {at_ : Nat} (h : InForm c s) :
    InForm c (configSwitch block readback at_ s) := by
  unfold Machine.configSwitch
  split
  · exact h
  · exact .ite h
      (by dsimp only; split; exact .ite h.advance.switchBlock.applyDone h.advance.switchBlock; exact h.advance.switchBlock)

theorem InForm.applyTimeout (h : InForm c s) : InForm c (applyTimeout s) := by
  unfold Machine.applyTimeout
  split
  · exact h
  · exact .ite h h.advance.setCstate.modApply.cfgDone.answer.revertEnd

theorem InForm.configRevert {block : Fin 23} {at_ : Nat} (h : InForm c s) : InForm c (configRevert block at_ s) := by
  unfold Machine.configRevert
  split
  · exact h
  · exact .ite h h.advance.revertBlock.revertEnd

theorem InForm.cfgAtFence {b : Nat} (h : InForm c s) : InForm c (s.cfgAtFence b) := by
  unfold State.cfgAtFence
  split
  · exact h
  · exact .ite h (.ite h.revertBlock.revertEnd
      (by dsimp only; split; exact .ite h.switchBlock.applyDone h.switchBlock; exact h.switchBlock))

theorem InForm.cfgRead {m : Master} {p : List Byte} (h : InForm c s) : InForm c (cfgRead m p s) :=
  h.hostCmd fun h1 => by dsimp only; split; exact h1; exact (by split <;> exact h1); exact h1

theorem InForm.loadImage {l : List CfgWord} (h : InForm c s) : InForm c (s.loadImage l) :=
  h.foldl fun h1 => h1.foldl .loadWord

theorem InForm.loadDefaults (h : InForm c s) : InForm c s.loadDefaults :=
  .frame (.put h)

theorem InForm.cfgLoad (h : InForm c s) : InForm c s.cfgLoad := by
  unfold State.cfgLoad
  dsimp only
  split
  · exact .ite (.loadImage (.put (.put (.ite h h)))) (.loadImage (.put (.put (.ite h h))))
  · exact .loadImage (.put (.put (.ite h h)))
  · exact .loadImage (.put (.put (.ite h h)))
  · exact .frame (.put h)

theorem InForm.cfgImageRepair (h : InForm c s) : InForm c (cfgImageRepair s) := by
  unfold Machine.cfgImageRepair
  split
  · exact h
  · exact h.writeImage.frame

theorem InForm.writeDesc {slot st tries prev : Nat} (h : InForm c s) : InForm c (s.writeDesc slot st tries prev) :=
  h.eraseMem.programFlash

theorem InForm.copyBank {k bank : Nat} (h : InForm c s) : InForm c (s.copyBank k bank) :=
  h.writeMem

theorem InForm.runSlot {k bank : Nat} (h : InForm c s) : InForm c (s.runSlot k bank) :=
  h.put.put.frame

theorem InForm.fwEvent {phase st slot : Nat} (h : InForm c s) : InForm c (s.fwEvent phase st slot) :=
  h.eventBbx

theorem InForm.recoveryPath (h : InForm c s) : InForm c s.recoveryPath :=
  .frame h.put.frame

theorem InForm.startTrial {prev : Nat} (h : InForm c s) : InForm c (s.startTrial prev) :=
  h.put.frame

theorem InForm.bootSlots {l : List Nat} (h : InForm c s) : InForm c (s.bootSlots l) := by
  induction l generalizing s with
  | nil => exact h.recoveryPath
  | cons k l ih => exact .ite (.runSlot (.copyBank h.put)) (ih h.frame)

theorem InForm.coldBoot (h : InForm c s) : InForm c s.coldBoot := by
  unfold State.coldBoot
  extract_lets t
  have ht : InForm c t := h.put
  clear_value t
  refine .ite ht.recoveryPath ?_
  split
  · exact .ite (.writeDesc ht.bootSlots) ht.bootSlots
  · exact .ite (.ite (.bootSlots (.writeDesc ht.writeDesc)) (.ite (.startTrial (.bootSlots ht.writeDesc)) (.bootSlots
      ht.writeDesc))) ht.bootSlots

theorem InForm.fwWriteSlot {m : Master} {p : List Byte} {readback : Bool} (h : InForm c s) :
    InForm c (fwWriteSlot m p readback s) :=
  h.hostCmdLater (fun h1 => .iteFst h1 (.iteFst h1 (.iteFst (.fst (.frame (.notePeak h1.put.frame))) (.fst (.frame (.notePeak
    (.frame h1.put.frame)))))))

end Sys2Proof.Machine

/-!
PROOF. The functions of Update.lean, Wlk.lean, Events.lean, Fault.lean and Bbx.lean under Machine/ keep the form of the state
(O4), in the order of the model; each by the rules for what it is composed of.
-/
namespace Sys2Proof.Machine

-- The lemmas are many and short: proved one after the other, they stay within the threads that the check allows.
set_option Elab.async false

variable {c : Option Nat} {s : State}

/-! ### Update.lean -/

theorem InForm.fwEraseDone {at_ : Nat} (h : InForm c s) : InForm c (fwEraseDone at_ s) := by
  unfold Machine.fwEraseDone
  split
  · exact h
  · exact .ite h (.fwEvent (.modUpd h.advance.eraseMem))

theorem InForm.fwVerify {m : Master} {p : List Byte} (h : InForm c s) : InForm c (fwVerify m p s) :=
  h.hostCmd fun h1 => .iteFst h1.put.fst h1

theorem InForm.showSwitch (h : InForm c s) : InForm c s.showSwitch :=
  h.put

theorem InForm.setSwitch {w : Option FwSwitch} (h : InForm c s) : InForm c (s.setSwitch w) :=
  .showSwitch h

theorem InForm.confirmStep (h : InForm c s) : InForm c s.confirmStep := by
  unfold State.confirmStep
  split
  · exact h
  · refine .ite (.answer h) ?_
    split
    · rename_i t1 e1
      exact h.cntAsk.fstEq e1
    · rename_i t1 _ _ e1
      exact .ite (h.cntAsk.fstEq e1) (.answer (.frame (h.cntAsk.fstEq e1)))

theorem InForm.confirmCounted {st : Nat} (h : InForm c s) : InForm c (s.confirmCounted st) := by
  unfold State.confirmCounted
  split
  · exact h
  · exact .ite h.confirmStep (.answer h)

theorem InForm.fwConfirm {m : Master} {c' : Option ReqCtx} (h : InForm c s) : InForm c (s.fwConfirm m c').1 :=
  .iteFst h (.fst (.confirmStep (.fwEvent h.writeDesc.put.frame)))

theorem InForm.fwSwitch {m : Master} {p : List Byte} (h : InForm c s) : InForm c (fwSwitch m p s) :=
  h.hostCmdLater (fun h1 => .iteFst h1.fwConfirm (.iteFst h1 (.iteFst (by split; exact h1; exact .fst h1.writeDesc.frame)
    (.iteFst h1 h1.setSwitch.fst))))

theorem InForm.switchBankLoaded {at_ : Nat} (h : InForm c s) : InForm c (switchBankLoaded at_ s) := by
  unfold Machine.switchBankLoaded
  split
  · exact h
  · exact .ite h (.ite h.advance.copyBank.setSwitch h.advance.setSwitch.fwEvent)

theorem InForm.handover {w : FwSwitch} (h : InForm c s) : InForm c (s.handover w) :=
  h.freeFill.setSwitch.frame

theorem InForm.handoverPoint {at_ : Nat} (h : InForm c s) : InForm c (handoverPoint at_ s) := by
  unfold Machine.handoverPoint
  split
  · exact h
  · exact .ite h h.advance.freeFill.setSwitch.frame

theorem InForm.switchWaitTimeout (h : InForm c s) : InForm c (switchWaitTimeout s) := by
  unfold Machine.switchWaitTimeout
  split
  · exact h
  · exact .ite h h.advance.setSwitch.fwEvent

theorem InForm.fallbackRetry (h : InForm c s) : InForm c (fallbackRetry s) := by
  unfold Machine.fallbackRetry
  split
  · exact h
  · exact .ite h (.ite h.advance.freeFill.setSwitch.frame h.advance.setSwitch)

theorem InForm.switchDone (h : InForm c s) : InForm c s.switchDone := by
  unfold State.switchDone
  split
  · exact h
  · rename_i w e
    have ht : InForm c ((s.runSlot w.slot (1 - s.upd.bank)).setSwitch none) := h.runSlot.setSwitch
    exact .ite h (.ite (.reinstall ht.writeDesc) (.fwEvent (.startTrial ht.writeDesc)))

theorem InForm.fwFallback (h : InForm c s) : InForm c s.fwFallback :=
  .ite h (.setSwitch (.fwEvent (.frame h.put.frame)))

theorem InForm.trialTimeout (h : InForm c s) : InForm c (trialTimeout s) := by
  unfold Machine.trialTimeout
  split
  · exact h
  · exact h.advance.fwFallback

theorem InForm.restoreEntry {ws : List Word} {e : Nat} (h : InForm c s) : InForm c (s.restoreEntry ws e) :=
  .ite h (h.foldl .putField)

theorem InForm.factoryEntry {e : Nat} (h : InForm c s) : InForm c (s.factoryEntry e) :=
  .put (h.foldl fun h1 => .put h1)

theorem InForm.restoreItem {k : Nat} (h : InForm c s) : InForm c (s.restoreItem k) := by
  unfold State.restoreItem
  split
  · exact h
  · dsimp only
    split
    · exact .foldl h .restoreEntry
    · exact .foldl h .put
    · exact h

theorem InForm.factoryItem {k : Nat} (h : InForm c s) : InForm c (s.factoryItem k) := by
  unfold State.factoryItem
  dsimp only
  split
  · exact .foldl h .factoryEntry
  · exact .foldl h .put
  · exact h

theorem InForm.calBack (h : InForm c s) : InForm c s.calBack :=
  .ite h (.foldl h fun h1 => .calEvent (.ite h1.factoryItem h1.restoreItem))

theorem InForm.calStage {m : Master} {p : List Byte} (h : InForm c s) : InForm c (calStage m p s) :=
  h.hostCmd fun h1 => .iteFst h1 (.fst (.ite (h1.foldl .calSave) (.calBack h1)))

theorem InForm.testEnter {m : Master} {p : List Byte} (h : InForm c s) : InForm c (testEnter m p s) := by
  unfold Machine.testEnter
  dsimp only
  exact h.hostCmd (fun h1 => .iteFst h1 (.iteFst (.iteFst h1 (.fst (.frame (.snd h1.bump.frame))))
    (by split; exact h1; exact .iteFst h1 (.iteFst h1 (.fst (.put h1))))))

/-! ### Wlk.lean -/

theorem InForm.wlEvent {w kind delay : Nat} (h : InForm c s) : InForm c (s.wlEvent w kind delay) :=
  h.event

theorem InForm.linkCrc {inst : Nat} (h : InForm c s) : InForm c (s.linkCrc inst) :=
  h.bump.frame

theorem InForm.linkGot (h : InForm c s) : InForm c s.linkGot :=
  h.bump

theorem InForm.linkReply {op st : Nat} {data : List Byte} (h : InForm c s) : InForm c (s.linkReply op st data) :=
  .bump h

theorem InForm.forwarded {b : List Byte} {reg : Master → Nat → List Byte → State → Effect} (h : InForm c s)
    (hf : ∀ {a0 a1 a2 t}, InForm c t → InForm c (reg a0 a1 a2 t).1) : InForm c (s.forwarded b reg) := by
  refine .ite h.linkReply (.ite h.linkReply (.ite h.linkReply (.ite h.linkReply (.ite (.linkReply (hf h)) (.ite h.linkReply
    ?_)))))
  dsimp only
  split
  · exact .linkReply h.frame
  · rename_i t0 e0
    exact .coreInterrupt (.pushAll h.frame e0)

theorem InForm.takeFwd {b : List Byte} {reg : Master → Nat → List Byte → State → Effect} (h : InForm c s)
    (hf : ∀ {a0 a1 a2 t}, InForm c t → InForm c (reg a0 a1 a2 t).1) : InForm c (s.takeFwd b reg) := by
  unfold State.takeFwd
  split
  · exact h.linkCrc
  · refine .ite h ?_
    extract_lets t
    have ht : InForm c t := h.linkGot
    clear_value t
    split
    split
    · exact .forwarded ht.modWlk hf
    · exact ht.modWlk

theorem InForm.run {crcOk : Bool} {idx origin : Nat} {order : List Byte} {at_ : Nat} (h : InForm c s) :
    InForm c (run crcOk idx origin order at_ s) :=
  .ite h (.ite h.advance.bump.frame h.advance.linkGot.frame)

theorem InForm.workerFollow (h : InForm c s) : InForm c s.workerFollow := by
  unfold State.workerFollow
  split
  · exact .ite h (.bump h)
  · exact h

theorem InForm.slaveTime {t : Nat} (h : InForm c s) : InForm c (s.slaveTime t) :=
  .ite h (.ite h h)

theorem InForm.dreq {crcOk : Bool} {devTime : Option Nat} {at_ : Nat} (h : InForm c s) : InForm c (dreq crcOk devTime at_ s) :=
  .ite h (.ite h.advance.bump.frame (by dsimp only; split; exact h.advance.linkGot.bump.slaveTime; exact h.advance.linkGot.bump))

theorem InForm.linkLocked {on : Bool} (h : InForm c s) : InForm c (s.linkLocked on) :=
  h.putB.frame

theorem InForm.linkLost (h : InForm c s) : InForm c s.linkLost :=
  .frame (.frame h.putB.frame)

theorem InForm.lockRetry {locked : Bool} (h : InForm c s) : InForm c (lockRetry locked s) := by
  unfold Machine.lockRetry
  split
  · exact h
  · exact .ite h h.advance.putB.frame

theorem InForm.showPresent (h : InForm c s) : InForm c s.showPresent :=
  h.put

theorem InForm.wlkLos {w : Fin 4} {at_ : Nat} (h : InForm c s) : InForm c (wlkLos w at_ s) :=
  .ite h (.ite (.ite (.frame (.frame (.frame (.putB h.advance.frame)))) h) (.ite h (.wlEvent (.showPresent (.frame
    h.advance.frame)))))

theorem InForm.measureStart {w : Nat} (h : InForm c s) : InForm c (s.measureStart w) :=
  .bump h

theorem InForm.delayMeasurement {w : Fin 4} {at_ : Nat} (h : InForm c s) : InForm c (delayMeasurement w at_ s) :=
  .ite h h.advance.measureStart

theorem InForm.drsp {w : Fin 4} {crcOk : Bool} {t1 t2 t3 t4 at_ : Nat} (h : InForm c s) :
    InForm c (drsp w crcOk t1 t2 t3 t4 at_ s) := by
  refine .ite h (.ite h.advance.bump.frame ?_)
  dsimp only
  split
  · exact h.advance.linkGot
  · exact .ite h.advance.linkGot (.ite (.bump h.advance.linkGot.frame) h.advance.linkGot.frame)

theorem InForm.discoverReply (h : InForm c s) : InForm c s.discoverReply := by
  unfold State.discoverReply
  split
  · exact h
  · exact .ite h (.answer h)

theorem InForm.judgeDelay {w : Nat} {l : List Int} (h : InForm c s) : InForm c (s.judgeDelay w l) :=
  .ite (.ite (.bump (.showPresent h.rounded.rounded.put.put.putB.frame)) (.wlEvent (.bump (.showPresent
    h.rounded.rounded.put.put.putB.frame)))) (.wlEvent (.frame (.bump (.showPresent h.rounded.rounded.put.put.putB.frame))))

theorem InForm.workerGone {w : Nat} (h : InForm c s) : InForm c (s.workerGone w) :=
  .ite (.wlEvent (.frame (.showPresent h))) (.showPresent h)

theorem InForm.delayMeasured {w : Fin 4} (h : InForm c s) : InForm c (delayMeasured w s) := by
  unfold Machine.delayMeasured
  split
  · exact h
  · exact .discoverReply (.ite h.advance.judgeDelay h.advance.workerGone)

theorem InForm.upFrame {w typ : Nat} {b : List Byte} {f : List Byte → State → State} (h : InForm c s)
    (hf : ∀ {a0 t}, InForm c t → InForm c (f a0 t)) : InForm c (s.upFrame w typ b f) :=
  .ite h (by split; exact h.bump.frame; exact .ite (hf h.linkGot) h)

theorem InForm.linkItem {q w typ : Nat} {pay : List Byte} (h : InForm c s) : InForm c (s.linkItem q w typ pay) :=
  h.pushOrCount

theorem InForm.frameRow {w : Fin 4} {b : List Byte} {at_ : Nat} (h : InForm c s) : InForm c (Machine.frame w b at_ s) :=
  h.upFrame fun h1 => h1.advance.linkItem

theorem InForm.eventRow {w : Fin 4} {b : List Byte} {at_ : Nat} (h : InForm c s) : InForm c (Machine.event w b at_ s) :=
  h.upFrame fun h1 => h1.advance.linkItem

theorem InForm.rangeW {w : Fin 4} {crcOk : Bool} {tones : Byte} {dsum : BitVec 16} {at_ : Nat} (h : InForm c s) :
    InForm c (rangeW w crcOk tones dsum at_ s) :=
  .ite h (.ite h.advance.linkGot.rangeWorker h.advance.bump.frame)

theorem InForm.forwardEnd {f : WlForward} {st : Nat} {data : List Byte} (h : InForm c s) : InForm c (s.forwardEnd f st data) :=
  .answer h

theorem InForm.reply {w : Fin 4} {b : List Byte} {at_ : Nat} (h : InForm c s) : InForm c (reply w b at_ s) := by
  refine h.upFrame fun {_ t} ht => ?_
  have hu : InForm c (t.advance at_) := ht.advance
  generalize t.advance at_ = u at hu
  dsimp only
  split
  · exact hu
  · exact .ite hu (by split; exact hu.forwardEnd; exact hu.frame)

theorem InForm.fwdRepeat (h : InForm c s) : InForm c (fwdRepeat s) := by
  unfold Machine.fwdRepeat
  split
  · exact h
  · exact .ite h h.advance.bump.frame

theorem InForm.wlForwardTimeout (h : InForm c s) : InForm c (wlForwardTimeout s) := by
  unfold Machine.wlForwardTimeout
  split
  · exact h
  · exact .ite h h.advance.forwardEnd

theorem InForm.wlkFence (h : InForm c s) : InForm c s.wlkFence :=
  .frame (.putB (.showPresent (.frame
    (by split; exact .answer (.frame (by split; exact h.forwardEnd; exact h)); exact (by split; exact h.forwardEnd; exact h)))))

theorem InForm.wlConfig {m : Master} {p : List Byte} (h : InForm c s) : InForm c (wlConfig m p s) :=
  h.hostCmd fun h1 => .iteFst h1 h1.put.put.writeEn.fst

theorem InForm.wlDiscover {m : Master} {p : List Byte} (h : InForm c s) : InForm c (wlDiscover m p s) :=
  h.hostCmdLater fun h1 => .iteFst h1 (.iteFst h1 (.fst (.foldl h1 .measureStart)))

theorem InForm.wlStatus {m : Master} {p : List Byte} (h : InForm c s) : InForm c (wlStatus m p s) :=
  h.hostCmd fun h1 => h1

theorem InForm.wlForward {m : Master} {p : List Byte} (h : InForm c s) : InForm c (wlForward m p s) :=
  h.hostCmdLater fun h1 => .iteFst h1 (.iteFst h1 (.fst (.bump h1)))

/-! ### Events.lean -/

theorem InForm.rngGive {r : RngReq} {b : List Byte} (h : InForm c s) : InForm c (s.rngGive r b) := by
  unfold State.rngGive
  split
  · split
    · exact .ite h h
    · exact h
  · exact h
  · exact h.vaultGotH
  · exact h
  · exact h.answer
  · exact h.tapGotNb

theorem InForm.rngRequestServed (h : InForm c s) : InForm c (rngRequestServed s) := by
  refine .ite h ?_
  split
  · exact h
  · extract_lets n old
    split
    rename_i b t e
    have ht : InForm c t := .sndEq (x := s.drbgDraw n) h.frame e
    extract_lets r u v w
    have hu : InForm c u := .ite ht.frame ht
    have hv : InForm c v := hu.bump
    have hw : InForm c w := .ite hv.put hv
    exact .ite (.rngGive hw.frame) hw.frame

theorem InForm.reseedDone (h : InForm c s) : InForm c (reseedDone s) :=
  .ite h h.advance.drbgReseeded.put.put.bump.frame

theorem InForm.pairFigures {failed : Option Nat} (h : InForm c s) : InForm c (s.pairFigures failed) :=
  .put h

theorem InForm.rngReady {at_ : Nat} (h : InForm none s) : InForm none (rngReady at_ s) :=
  .ite h (.pollRngReady (.refillFifo (.modRng (c := none) (.put (.put (.drbgInstantiate (.event (.pairFigures (h.advance.foldl fun
    ht => ht.put)))))))))

theorem InForm.rngBreak (h : InForm c s) : InForm c s.rngBreak :=
  .vaultRngHealth (.flowBreak (.authBreak (.rangeStop (.lfRngHealth (.foldl h fun h1 => .ite h1.answer h1)))))

theorem InForm.rngFailed {tests : List Nat} (h : InForm none s) : InForm none (s.rngFailed tests) := by
  unfold State.rngFailed
  extract_lets startUp halted t u v w
  have ht : InForm none t := .bump (.foldl h .putBit)
  have hu : InForm none u := .foldl ht .raise
  have hv : InForm none v := .ite hu.bump hu
  have hw : InForm none w := hv.rngBreak
  exact .ite hw (.ite hw.put.raise hw.rngStart)

theorem InForm.trngHealthFailure {test : Fin 7} {at_ : Nat} (h : InForm none s) : InForm none (trngHealthFailure test at_ s) :=
  .ite h h.advance.pairFigures.rngFailed

theorem InForm.haltFollow (h : InForm c s) : InForm c s.haltFollow :=
  .ite h.rngBreak h

theorem InForm.rngSelftest {m : Master} {p : List Byte} {passed : BitVec 2} (h : InForm none s) :
    InForm none (rngSelftest m p passed s) :=
  h.hostCmd fun h1 => .iteFst h1 (.iteFst (.iteFst h1.wait.fst h1.wait.rngFailed.fst) (.iteFst h1 h1.put.rngStart.fst))

theorem InForm.rngFence (h : InForm c s) : InForm c s.rngFence :=
  h.rngBreak.put

theorem InForm.counterRecordWritten {verified : Bool} {at_ : Nat} (h : InForm c s) :
    InForm c (counterRecordWritten verified at_ s) := by
  unfold Machine.counterRecordWritten
  split
  · exact h
  · rename_i t0 _ _ _ e0
    exact .ite (.epochCounted (.cntFinish (h.advance.cntRecord e0))) (.ite (.confirmCounted (.cntFinish (h.advance.cntRecord e0)))
      (.cntFinish (h.advance.cntRecord e0)))

theorem InForm.cntLoaded {at_ : Nat} (h : InForm c s) : InForm c (cntLoaded at_ s) :=
  h.cntLoadAll.relServe

theorem InForm.ceilingWrite {n : Fin 64} {verified : Bool} {at_ : Nat} (h : InForm c s) :
    InForm c (ceilingWrite n verified at_ s) :=
  .ite h.ceilingWritten.relCntFailed h.ceilingWritten.relServe

theorem InForm.syncAcceptedRow {n : Fin 64} {word : BitVec 32} {hdr : Byte} {at_ : Nat} (h : InForm c s) :
    InForm c (Machine.syncAccepted n word hdr at_ s) :=
  .rangeTrigger (.utxTrigger (.ite h.advance.syncAccepted.gatherTrigger h.advance.syncAccepted))

theorem InForm.urxFrame {n : Fin 64} {rx : Reception} (h : InForm c s) : InForm c (urxFrame n rx s) := by
  unfold Machine.urxFrame
  extract_lets r
  split
  rename_i t b bad e
  have ht : InForm c t := h.frameEnd.fstEq e
  extract_lets u q v
  have hu : InForm c u := .ite (.frame ht.gatherTrigger) ht
  have hv : InForm c v := .ite hu.drainQueue hu
  exact .ite hv.authFrame hv

theorem InForm.urxJam {w : Fin 4} {power : BitVec 16} {at_ : Nat} (h : InForm c s) : InForm c (urxJam w power at_ s) :=
  h.advance.jamOn

theorem InForm.rfPllLock {at_ : Nat} (h : InForm c s) : InForm c (rfPllLock at_ s) := by
  have ht : InForm c ((s.advance at_).raise FID_RF_PLL_LOCK) := h.advance.frame
  exact .ite h (.rangeStop (.utxPllLost ht.urxPllLost))

theorem InForm.rfPllRelock {at_ : Nat} (h : InForm c s) : InForm c (rfPllRelock at_ s) :=
  .ite h h.advance.urxRelock

theorem InForm.pollWindowEndRow {level : BitVec 16} {meas : List LfMeas} (h : InForm c s) :
    InForm c (Machine.pollWindowEnd level meas s) := by
  unfold Machine.pollWindowEnd
  split
  · rename_i t0 _ e0
    split
    · exact .ewFire (h.pollWindowEnd.fstEq e0)
    · exact h.pollWindowEnd.fstEq e0

theorem InForm.handleInEdge {i : Fin 5} {high : Bool} {at_ : Nat} (h : InForm c s) : InForm c (handleInEdge i high at_ s) :=
  h.advance.tmrInput.handleEdge

theorem InForm.handleQualifiedRow {i : Fin 5} (h : InForm c s) : InForm c (Machine.handleQualified i s) := by
  unfold Machine.handleQualified
  split
  · rename_i t0 _ e0
    split
    · exact h.handleQualified.fstEq e0
    · exact .ite (.authHandle (.ewFire (h.handleQualified.fstEq e0))) (.ite (.frame (.ewFire (h.handleQualified.fstEq e0)))
        (.frame (.ewFire (h.handleQualified.fstEq e0))))

theorem InForm.edgeFollow (h : InForm c s) : InForm c s.edgeFollow := by
  unfold State.edgeFollow
  split
  · exact h
  · exact .ite h (.authHandle h)

theorem InForm.rangeDoneRow {at_ : Nat} (h : InForm c s) : InForm c (Machine.rangeDone at_ s) :=
  h.rangeDone

/-! ### Fault.lean -/

theorem InForm.reaction {kind fid what : Nat} {inj : Bool} (h : InForm c s) : InForm c (s.reaction kind fid what inj) :=
  h.eventBbx.put

theorem InForm.modeChange {k : Nat} (h : InForm c s) : InForm c (s.modeChange k) :=
  .ite (.reaction h) (.reaction h)

theorem InForm.modeSync (h : InForm c s) : InForm c s.modeSync :=
  h.foldl fun h1 => .ite h1 h1.modeChange

theorem InForm.fenceWork {b : Nat} (h : InForm c s) : InForm c (s.fenceWork b) := by
  unfold State.fenceWork
  split
  · exact h.tmrSyncAll
  · exact h.lfFence
  · exact h.urxFence.rangeStop
  · exact h.rangeStop.utxStop
  · exact h.rangeStop
  · exact h.zoneStop
  · exact h.authBreak.flowBreak.credFence
  · exact h.relFence
  · exact h.authBreak.flowBreak.aesFence
  · exact h.authBreak.rngFence
  · exact h.hfrStop
  · exact h.vltFence
  · exact h.frame
  · exact h.wlkFence
  · extract_lets out t u
    have ht : InForm c t := h.cntFence.relCntFailed
    have hu : InForm c u := .ite ht.epochCounted ht
    exact .ite hu.confirmCounted hu
  · exact h

theorem InForm.fenceUnit {b fid : Nat} {inj : Bool} (h : InForm c s) : InForm c (s.fenceUnit b fid inj) :=
  .ite h (.reaction (.frame h.fenceWork.cfgAtFence.frame))

theorem InForm.releaseWork {b : Nat} (h : InForm none s) : InForm none (s.releaseWork b) := by
  unfold State.releaseWork
  dsimp only
  split
  · exact h
  · exact .urxRelease h
  · exact h
  · exact h
  · exact h
  · exact h

theorem InForm.releaseUnit {b fid : Nat} {inj : Bool} (h : InForm none s) : InForm none (s.releaseUnit b fid inj) :=
  .ite h (.releaseWork (.reaction h))

theorem InForm.enterSafe {fid : Nat} {inj : Bool} (h : InForm c s) : InForm c (s.enterSafe fid inj) := by
  unfold State.enterSafe
  extract_lets t u v w x p y z
  have ht : InForm c t := h.frame
  have hu : InForm c u := ht.relForceOff
  have hv : InForm c v := .ite hu hu.lfStop
  have hw : InForm c w := .ite hv hv.hfrStop
  have hx : InForm c x := hw.rangeStop.utxStop
  have hy : InForm c y := hx.frame
  have hz : InForm c z := hy.frame
  exact .ite h hz.reaction

theorem InForm.leaveSafe {fid : Nat} {inj : Bool} (h : InForm c s) : InForm c (s.leaveSafe fid inj) :=
  .ite h (.reaction h)

theorem InForm.shadowEnd (h : InForm c s) : InForm c (shadowEnd s) := by
  unfold Machine.shadowEnd
  dsimp only
  split
  · exact h
  · exact h.advance.frame

theorem InForm.faultRecord {r : Raised} {sev react parent count extra : Nat} {notify : Bool} (h : InForm c s) :
    InForm c (s.faultRecord r sev react parent count extra notify) :=
  .ite h.bbxPut.pushEvtItem.put h.bbxPut

theorem InForm.react {fid k mode : Nat} {inj : Bool} (h : InForm c s) : InForm c (s.react fid k mode inj) := by
  unfold State.react
  dsimp only
  split
  · exact .fenceUnit h
  · exact .ite h h
  · exact .enterSafe (.ite (.fenceUnit h) h)
  · exact .enterSafe (.ite (.fenceUnit h) h)
  · exact h

theorem InForm.escalate {r : Raised} {count k : Nat} {severe was inj react : Bool} (h : InForm c s) :
    InForm c (s.escalate r count k severe was inj react) :=
  .ite h.faultRecord (.modeSync (.react (.reaction h.faultRecord.frame)))

theorem InForm.takeEvent {r : Raised} (h : InForm c s) : InForm c (s.takeEvent r) :=
  .ite h (by dsimp only; split; exact .faultRecord (.bump h.bump.put.frame); exact .escalate (.bump (.frame h.bump.put.frame)))

theorem InForm.takeInjected {r : Raised} {react : Bool} {override_ : Option Nat} (h : InForm c s) :
    InForm c (s.takeInjected r react override_) := by
  unfold State.takeInjected
  dsimp only
  split
  · exact h.bump.bump.put.bump.faultRecord
  · exact .escalate h.bump.bump.put.frame

theorem InForm.holdEvent {r : Raised} (h : InForm c s) : InForm c (s.holdEvent r) :=
  .ite h.bump h

theorem InForm.collect {n : Nat} (h : InForm c s) : InForm c (s.collect n) := by
  induction n generalizing s with
  | zero => exact h
  | succ n ih =>
    unfold State.collect
    split
    · exact h
    · exact ih (.foldl h.frame fun ht => .ite ht.takeEvent ht.holdEvent)

theorem InForm.dropEnds (h : InForm c s) : InForm c s.dropEnds :=
  .ite h h

theorem InForm.unlockFollow (h : InForm c s) : InForm c s.unlockFollow := by
  unfold State.unlockFollow
  split
  · exact h
  · exact .ewFire h

theorem InForm.rssiFollow (h : InForm c s) : InForm c s.rssiFollow := by
  unfold State.rssiFollow
  split
  · exact .ite h.calPreempt h
  · exact h

theorem InForm.follow (h : InForm c s) : InForm c s.follow :=
  .haltFollow (.poolFollow (.workerFollow (.mapSwitch (.lfSave (.portsOut (.lfDiagBegin (.calBack (.boundaries (.dropEnds
    (.vltFollow (hfrFollow h.edgeFollow.rssiFollow.authRun.unlockFollow.relFollow)))))))))))

theorem InForm.settle (h : InForm c s) : InForm c s.settle :=
  .collect (.follow (.ite h.follow.collect.modeSync h.follow.collect))

/-! ### Bbx.lean -/

theorem InForm.bbxProtectedToken (h : InForm c s) : InForm c s.bbxProtectedToken :=
  .ite h.bump h

theorem InForm.openHalf {a gen : Nat} (h : InForm c s) : InForm c (s.openHalf a gen) := by
  unfold State.openHalf
  extract_lets n t d u v w
  have ht : InForm c t := h.eraseMem
  have hu : InForm c u := ht.writeMem
  have hv : InForm c v := .modBbx hu.modBbx
  have hw : InForm c w := .bump hv.bbxProtectedToken
  exact .ite hw.raise hw

theorem InForm.bbxScan (h : InForm c s) : InForm c s.bbxScan := by
  unfold State.bbxScan
  extract_lets hs er t cur bad
  have ht : InForm c t := h.modBbx
  clear_value cur
  split
  · exact .openHalf (.eraseMem ht.modBbx)
  · extract_lets mine other next lastBad n u v
    have hu : InForm c u := .ite ht.eraseMem ht
    have hv : InForm c v := .put hu.modBbx
    exact .ite hv.raise hv

theorem InForm.bbxProgram {bytes : List Byte} {verified : Bool} (h : InForm c s) : InForm c (s.bbxProgram bytes verified) := by
  refine .frame (.ite h.writeMem.bump ?_)
  split
  · rename_i _ t0 e0
    exact .frame (.writeMem (h.freshBytes.sndEq e0))

theorem InForm.bbxSuppressed {x : BbxSrc} {verified : Bool} (h : InForm c s) : InForm c (s.bbxSuppressed x verified) := by
  unfold State.bbxSuppressed
  extract_lets d t
  have ht : InForm c t := h.bbxProgram
  exact .ite (.frame ht.modBbx) ht

theorem InForm.bbxRefuse {x1 : BbxSrc} (h : InForm c s) : InForm c (s.bbxRefuse x1) :=
  .bump h

theorem InForm.bbxNext {r : BbxRec} {rest : List BbxRec} {verified : Bool} (h : InForm c s) :
    InForm c (s.bbxNext r rest verified) := by
  unfold State.bbxNext
  extract_lets drop x t
  have hdrop {t} (ht : InForm c t) : InForm c (drop t) := ht.frame
  have ht : InForm c t := h.bbxProgram
  exact .ite (.ite (hdrop ht).bbxProtectedToken ht)
    (.ite (hdrop h).bbxRefuse (.ite h.bbxSuppressed (.ite (.frame (.modBbx (hdrop ht))) ht)))

theorem InForm.bbxRecordWrite {verified : Bool} (h : InForm c s) : InForm c (bbxRecordWrite verified s) :=
  .ite h (by split; exact h.bbxSuppressed; exact (by split; exact h; exact h.bbxNext))

theorem InForm.bbxHalfErased {at_ : Nat} (h : InForm c s) : InForm c (bbxHalfErased at_ s) :=
  .ite h h.advance.openHalf

theorem InForm.bbxTokenTick (h : InForm c s) : InForm c (bbxTokenTick s) :=
  h.advanceLp.frame

theorem InForm.bbxRead {m : Master} {p : List Byte} (h : InForm c s) : InForm c (bbxRead m p s) :=
  h.hostCmd fun h1 => .iteFst h1 h1

theorem InForm.fltStatus {m : Master} {p : List Byte} (h : InForm c s) : InForm c (fltStatus m p s) :=
  h.hostCmd fun h1 => .iteFst h1 (.iteFst h1 h1)

theorem InForm.setSource {fid cfg cfg2 : Nat} (h : InForm c s) : InForm c (s.setSource fid cfg cfg2) :=
  .ite h.setReg.put.put.put.frame h.setReg.put.put.put

theorem InForm.fltConfig {m : Master} {p : List Byte} (h : InForm c s) : InForm c (fltConfig m p s) :=
  h.hostCmd fun h1 => .iteFst h1 (.iteFst h1 (.iteFst h1 h1.setSource.fst))

theorem InForm.clearSource {fid : Nat} {windows : Bool} (h : InForm c s) : InForm c (s.clearSource fid windows) := by
  unfold State.clearSource
  extract_lets t u v w x
  have ht : InForm c t := h.frame
  have hu : InForm c u := .ite (.put ht.frame) ht
  have hv : InForm c v := .ite hu.relClearFault (.ite hu.relClearFault hu)
  have hw : InForm c w := .ite hv.frame hv
  exact .ite hw.frame (.ite hw.frame (.ite hw.frame (.ite hw.frame hw)))

theorem InForm.releaseAll {fid : Nat} {inj : Bool} (h : InForm none s) : InForm none (s.releaseAll fid inj) :=
  .modeSync (.leaveSafe (h.foldl fun h1 => .ite h1.releaseUnit h1))

theorem InForm.fltClear {m : Master} {p : List Byte} (h : InForm none s) : InForm none (fltClear m p s) :=
  h.hostCmd fun h1 => .iteFst h1 (.iteFst h1 (.fst (.eventBbx (.put (.releaseAll (.put (h1.foldl .clearSource)))))))

theorem InForm.fltInject {m : Master} {p : List Byte} (h : InForm c s) : InForm c (fltInject m p s) :=
  h.hostCmdLater fun h1 => .iteFst h1 (.iteFst h1 (.iteFst h1 h1))

end Sys2Proof.Machine

/-!
PROOF. The functions of Bbx.lean and Entry.lean under Machine/ keep the form of the state (O4), in the order of the model; each
by the rules for what it is composed of.
-/
namespace Sys2Proof.Machine

-- The lemmas are many and short: proved one after the other, they stay within the threads that the check allows.
set_option Elab.async false

variable {c : Option Nat} {s : State}

/-! ### Bbx.lean -/

theorem InForm.injectedEvent (h : InForm c s) : InForm c (injectedEvent s) := by
  unfold Machine.injectedEvent
  split
  · exact h
  · exact .ite (.answer h.advance.takeInjected.frame) h.advance.takeInjected.frame

theorem InForm.faultEffect {fid inst : Nat} (h : InForm c s) : InForm c (s.faultEffect fid inst) :=
  .ite h.lfFaultEffect (.ite (hfrFaultEffect h) (.ite h (.ite h (.ite h.clearSlots (.ite h (.ite h h))))))

theorem InForm.faultEvent {fid : BitVec 16} {inst : Byte} {data : List Byte} {at_ : Nat} (h : InForm c s) :
    InForm c (faultEvent fid inst data at_ s) :=
  .ite h.advance h.advance.faultEffect.frame

theorem InForm.endInjection (h : InForm none s) : InForm none s.endInjection :=
  .releaseAll h

theorem InForm.testExit {m : Master} {p : List Byte} (h : InForm none s) : InForm none (testExit m p s) :=
  h.hostCmd fun h1 => .iteFst h1 (.fst (.reinstall (.endInjection (.put h1))))

/-! ### Entry.lean -/

theorem InForm.countRefusals {mask : Nat} (h : InForm c s) : InForm c (s.countRefusals mask) :=
  .foldl h .bump

theorem InForm.beginEntry {target : Nat} {fromP2 : Bool} (h : InForm c s) : InForm c (s.beginEntry target fromP2) :=
  .frame (.ite h h)

theorem InForm.tryEntry {target : Nat} {fromP2 : Bool} (h : InForm c s) : InForm c (s.tryEntry target fromP2) := by
  unfold State.tryEntry
  exact .ite (.frame (.ite h h)) h.countRefusals.frame

theorem InForm.idleTimerP1 {at_ : Nat} (h : InForm c s) : InForm c (idleTimerP1 at_ s) :=
  .ite h.advance (.toState h.advance.frame)

theorem InForm.powerEntryStart (h : InForm c s) : InForm c (powerEntryStart s) :=
  .ite h (by split; exact h; exact (by dsimp only; split; exact h.advance.tryEntry; exact h.advance))

theorem InForm.entryRetry (h : InForm c s) : InForm c (entryRetry s) := by
  unfold Machine.entryRetry
  split
  · exact h
  · dsimp only
    split
    · exact h.advance.tryEntry
    · exact h.advance

theorem InForm.loseStaged (h : InForm c s) : InForm c s.loseStaged :=
  .ite h h.dropStaged

theorem InForm.unitsLost (h : InForm c s) : InForm c s.unitsLost :=
  h.foldl fun h1 => .ite h1 h1

end Sys2Proof.Machine

/-!
PROOF. What a loss of the core domain and a reset leave is in form (O4): registers and memory are filtered, and the rest of the
state is built anew.
-/
namespace Sys2Proof.Machine

-- The lemmas are many and short: proved one after the other, they stay within the threads that the check allows.
set_option Elab.async false

variable {c : Option Nat} {s : State}

/-- A state built anew from registers and memory in form, with the vault memory of `s`. -/
theorem InForm.rebuild {d : Option Nat} {regs} {mem} {units} {sys} {time} {cal} {fires} {tmr} {tmrIn} {pwr} {qm}
    {hif} {flt} {bbx} {aes} {lf} {urx} {utx} {range} {zone} {cred} {auth} {rel} {hfr} {vlt} {upd} {wlk} {cnt} {rng} {free}
    {pending} (h : InForm c s) (hr : Registers.wf regs = true) (hm : Memory.wf mem = true) (hv : vlt.nv = s.vlt.nv := by rfl)
    (hd : d.elim True fun n => rng.cause = n := by exact trivial) :
    InForm d ⟨regs, mem, units, sys, time, cal, fires, tmr, tmrIn, pwr, qm, hif, flt, bbx, aes, lf, urx, utx, range, zone, cred,
      auth, rel, hfr, vlt, upd, wlk, cnt, rng, free, pending⟩ := by
  obtain ⟨-, -, hn, -⟩ := h
  exact ⟨hr, hm, by simpa only [VaultMemory.wf, hv] using hn, hd⟩

theorem InForm.regsFilter {f : Nat × Word → Bool} (h : InForm c s) :
    Registers.wf (s.regs.filter f) = true :=
  sparse_filter_wf f h.regsWf

theorem InForm.memFilter {f : Host.Cell → Bool} (h : InForm c s) :
    Memory.wf (s.mem.filter f) = true :=
  sparse_filter_wf f h.memWf

theorem InForm.filterRegs {f : Nat × Word → Bool} (h : InForm c s) :
    InForm c { s with regs := s.regs.filter f } :=
  h.withRegs h.regsFilter

theorem InForm.modRel {f : RelState → RelState} (h : InForm c s) : InForm c (s.modRel f) :=
  h.frame

theorem InForm.credReset {p : Bool} (h : InForm c s) : InForm c (s.credReset p) :=
  h.frame

theorem InForm.banksLost {target : Nat} (h : InForm c s) : InForm c (s.banksLost target) :=
  h.filterMem

/-- The core domain's loss leaves the generator's cause 1. -/
theorem InForm.coreLost_cause (h : InForm c s) : InForm (some 1) s.coreLost := by
  have ht : InForm c (s.loseStaged.aesWipe.unitsLost.mapCut) := .mapCut (.unitsLost (.frame h.loseStaged))
  unfold State.coreLost
  obtain ⟨t, e⟩ : ∃ t, t = s.loseStaged.aesWipe.unitsLost.mapCut := ⟨_, rfl⟩
  rw [← e] at ht ⊢
  exact .credReset (ht.rebuild ht.regsFilter ht.memFilter (hd := rfl))

theorem InForm.coreLost (h : InForm none s) : InForm none s.coreLost :=
  h.coreLost_cause.any

theorem InForm.powerOff (h : InForm none s) : InForm none s.powerOff :=
  h.mapCut.rebuild rfl h.mapCut.memFilter

theorem InForm.resetAll {cause : Nat} (h : InForm none s) : InForm none (s.resetAll cause) := by
  have ht : InForm none (if s.time.running then s.saveTime else s).mapCut := .mapCut (.ite h.frame h)
  unfold State.resetAll
  obtain ⟨t, e⟩ : ∃ t, t = (if s.time.running then s.saveTime else s).mapCut := ⟨_, rfl⟩
  rw [← e] at ht ⊢
  exact .modVlt (.modRel (.credReset (.modBbx (ht.rebuild ht.regsFilter ht.memWf))))

theorem InForm.setRegs {l : List (Nat × Word)} (h : InForm c s) :
    InForm c (l.foldl (fun t r => t.setReg r.1 r.2) s) :=
  .foldl h fun ht => ht.setReg

/-- The reset of the core domain leaves the generator's cause 1. -/
theorem InForm.coreReset_cause {locks : Bool} (h : InForm c s) :
    InForm (some 1) (s.coreReset locks) := by
  unfold State.coreReset
  extract_lets held p t u v
  have ht : InForm c t := h.frame
  have hu : InForm (some 1) u := .modRel ht.coreLost_cause
  have hv : InForm (some 1) v := .setRegs hu.filterRegs
  obtain ⟨w, e⟩ : ∃ w, w = v := ⟨_, rfl⟩
  rw [← e] at hv ⊢
  exact hv.frame

theorem InForm.coreReset {locks : Bool} (h : InForm none s) : InForm none (s.coreReset locks) :=
  h.coreReset_cause.any

theorem InForm.imageBack (h : InForm c s) : InForm c s.imageBack :=
  .setRegs h.filterRegs

end Sys2Proof.Machine

/-!
PROOF. The functions of Entry.lean, Calendar.lean, Reset.lean, Power.lean, RegAccess.lean, Hif.lean and Meanings.lean under
Machine/ keep the form of the state (O4), in the order of the model; each by the rules for what it is composed of.
-/
namespace Sys2Proof.Machine

-- The lemmas are many and short: proved one after the other, they stay within the threads that the check allows.
set_option Elab.async false

variable {c : Option Nat} {s : State}

/-! ### Entry.lean -/

theorem InForm.retain {target : Nat} (h : InForm c s) : InForm c (s.retain target) :=
  .banksLost (.ite (.moveMem (.ite h.freeFill h)) (.ite h.freeFill h))

theorem InForm.pendingWake (h : InForm c s) : InForm c s.pendingWake := by
  unfold State.pendingWake
  split
  · exact h
  · exact h

theorem InForm.reach {target : Nat} {deeper : Bool} (h : InForm none s) : InForm none (s.reach target deeper) := by
  unfold State.reach
  extract_lets level p t u v w
  have ht : InForm none t := h.frame
  have hu : InForm none u := .ite ht.retain.coreLost ht
  have hv : InForm none v := hu.toState
  have hw : InForm none w := .ite hv.pollSuspend hv
  exact hw.pendingWake

theorem InForm.commitWindowCycle (h : InForm none s) : InForm none (commitWindowCycle s) := by
  unfold Machine.commitWindowCycle
  split
  · exact h
  · refine .ite h ?_
    dsimp only
    split
    · exact .ite (.frame h.advanceLp.frame) h.advanceLp.frame
    · exact h.advanceLp.frame
    · exact .frame (.ite h.advanceLp.tmrSyncAll h.advanceLp)
    · exact h.advanceLp.reach

theorem InForm.deeperP2 {target : Nat} (h : InForm c s) : InForm c (s.deeperP2 target) :=
  h.wait.tryEntry

theorem InForm.deeperP3 (h : InForm c s) : InForm c s.deeperP3 :=
  h.banksLost.toState.pollSuspend.pendingWake

theorem InForm.idleExpiryDeeper (h : InForm c s) : InForm c (idleExpiryDeeper s) := by
  refine .ite h ?_
  split
  · split
    · exact h
    · dsimp only
      split
      · exact h.advance.deeperP2
      · exact h.advance
  · split
    · exact h.advance.deeperP3
    · exact h
  · exact h

theorem InForm.enterNow {target : Nat} (h : InForm c s) : InForm c (s.enterNow target) := by
  refine .ite h ?_
  dsimp only
  split
  · exact .ite (.frame (.ite h h)) h.countRefusals
  · exact .ite (.frame (.ite h h)) h.countRefusals
  · exact .ite (.ite (.frame (.ite (.frame h.wait.frame) h.wait)) h.wait.countRefusals) h
  · exact .ite h.deeperP3 h
  · exact h

theorem InForm.pwrCmdEnter {m : Master} {v : BitVec 3} (h : InForm c s) : InForm c (pwrCmdEnter m v s) :=
  h.onBus .enterNow

theorem InForm.pwrEnter {m : Master} {p : List Byte} (h : InForm c s) : InForm c (pwrEnter m p s) := by
  unfold Machine.pwrEnter
  dsimp only
  exact h.hostCmdLater fun h1 => .iteFst h1 (.iteFst h1 (.iteFst h1.countRefusals.fst h1))

theorem InForm.enterGo (h : InForm c s) : InForm c s.enterGo := by
  unfold State.enterGo
  split
  · exact h
  · exact .frame (.ite h h)

theorem InForm.pwrEnterBegin (h : InForm c s) : InForm c (pwrEnterBegin s) := by
  unfold Machine.pwrEnterBegin
  split
  · exact h
  · exact h.advance.enterGo

/-! ### Calendar.lean -/

theorem InForm.toEdge (h : InForm c s) : InForm c s.toEdge :=
  .ite h.wait h

theorem InForm.calAct {n : Nat} {c' : CalSlot} (h : InForm c s) : InForm c (s.calAct n c').1 := by
  unfold State.calAct
  split
  · exact h.enterNow.fst
  · exact h.put.fst
  · exact h.tmrFire.fst
  · exact h.pollStart.fst
  · exact h.pollStop.fst
  · exact h.pollKick.fst
  · exact .fst (.iteFst h.urxStartMask h)
  · exact h.urxStopMask.fst
  · exact h.gatherTrigger.fst
  · exact h.relFire.fst
  · exact h

theorem InForm.calPrep {n : Nat} {c' : CalSlot} (h : InForm c s) : InForm c (s.calPrep n c') :=
  .ite h (.ite h (.ite (.urxStartMask h) h))

theorem InForm.calAdvance {n : Nat} {c' : CalSlot} {fired one : Bool} (h : InForm c s) : InForm c (s.calAdvance n c' fired one) :=
  .ite h.bump.frame h

theorem InForm.calFire {n : Nat} {stepped late : Bool} (h : InForm c s) : InForm c (s.calFire n stepped late) := by
  unfold State.calFire
  split
  · exact h
  · extract_lets t u r v
    have ht : InForm c t := .ite h.calPrep.wait h
    have hu : InForm c u := .ite ht.wait ht
    have hv : InForm c v := .ite hu.bump hu
    refine .ite (.frame hu.bump.calAdvance) (.ite (.frame hu.calAdvance) (.ite (.frame hu.calAdvance) ?_))
    split
    rename_i w st lateWin e
    have hw : InForm c w := hv.calAdvance.calAct.fstEq e
    exact .frame (.ite hw.bump hw)

theorem InForm.calMiss {n : Nat} {c' : CalSlot} (h : InForm c s) : InForm c (s.calMiss n c') :=
  h.bump.calAdvance.frame

theorem InForm.ownStepped {n : Nat} (h : InForm c s) : InForm c (s.ownStepped n) := by
  unfold State.ownStepped
  split
  · exact h
  · exact .ite h.bump.frame (.ite h h.bump.frame)

theorem InForm.calStepped {old : Nat} (h : InForm c s) : InForm c (s.calStepped old) := by
  unfold State.calStepped
  extract_lets t u
  have ht : InForm c t := .foldl h fun hv => .ite hv.ownStepped hv.calFire
  have hu : InForm c u := .foldl ht fun hv => by split; exact .ite hv.calPrep hv; exact hv
  exact .ite hu.relEndCause hu

theorem InForm.calLate (h : InForm c s) : InForm c s.calLate :=
  h.foldl fun h1 => by split; exact .ite h1 (.ite h1.calFire h1.bump.calAdvance.frame); exact h1

theorem InForm.calendarPrep {slot : Fin 64} (h : InForm c s) : InForm c (calendarPrep slot s) := by
  unfold Machine.calendarPrep
  split
  · exact h
  · exact .ite h h.advanceRef.toEdge.calPrep

theorem InForm.calendarFire {slot : Fin 64} (h : InForm c s) : InForm c (calendarFire slot s) := by
  unfold Machine.calendarFire
  split
  · exact h
  · exact .ite h (.ite (h.advanceRef.toEdge.foldl .calFire) h.advanceRef.toEdge.bump.calAdvance.frame)

theorem InForm.calendarWakeLead {slot : Fin 64} (h : InForm c s) : InForm c (calendarWakeLead slot s) := by
  unfold Machine.calendarWakeLead
  split
  · exact h
  · exact .ite h (.wakeSource h.advanceRef.frame)

theorem InForm.calFree {n : Nat} (h : InForm c s) : InForm c (s.calFree n) :=
  .pollHeld (.calPlace (.foldl h fun h1 => .ite h1 h1))

theorem InForm.calendarSlotFree {slot : Fin 64} (h : InForm c s) : InForm c (calendarSlotFree slot s) := by
  unfold Machine.calendarSlotFree
  split
  · exact h
  · extract_lets t u
    have ht : InForm c t := .ite h.advanceRef (.ite h.wait h.advanceRef)
    have hu : InForm c u := .ite ht.urxStopMask ht
    exact .ite h (.ite hu.frame hu.calFree)

theorem InForm.calRadioAdded {c' : CalSlot} (h : InForm c s) : InForm c (s.calRadioAdded c') :=
  .ite h.calYield h

theorem InForm.timeCalAdd {m : Master} {p : List Byte} (h : InForm c s) : InForm c (timeCalAdd m p s) :=
  h.hostCmd fun h1 => .iteFst h1 (by split; exact h1; exact .iteFst h1 (by split; exact h1; exact .fst (.calRadioAdded h1)))

theorem InForm.calCancel {n : Nat} {c' : CalSlot} (h : InForm c s) : InForm c (s.calCancel n c') :=
  .ite (h.foldl fun h1 => .ite h1.stopWin h1) h

theorem InForm.timeCalRemove {m : Master} {p : List Byte} (h : InForm c s) : InForm c (timeCalRemove m p s) :=
  h.hostCmd (fun h1 => .iteFst h1
    (by split; exact h1; exact .iteFst h1 (.fst (.calFree (.ite (.calCancel (.ite h1.calFire h1)) (.ite h1.calFire h1))))))

theorem InForm.refSyncEdge {rising : Bool} {at_ : Nat} (h : InForm c s) : InForm c (refSyncEdge rising at_ s) :=
  .ite h.advance.tmrInput (.ite h.advance.tmrInput.refEdge.calStepped h.advance.tmrInput.refEdge)

theorem InForm.refAssigned {value at_ : Nat} {edge : Bool} (h : InForm c s) : InForm c (s.refAssigned value at_ edge).1 :=
  .fst (.frame (.assignRef (.ite h.unuseEdge h)))

theorem InForm.timeSetRef {m : Master} {p : List Byte} {at_ : Nat} (h : InForm c s) : InForm c (timeSetRef m p at_ s) := by
  unfold Machine.timeSetRef
  exact h.hostCmd (fun h1 => .iteFst (.iteFst h1.frame (.iteFst (.fst (.ite h1.refAssigned.calStepped h1.refAssigned)) h1.frame))
    (.iteFst (.fst (.ite (.calStepped (.fst (.ite h1.refAssigned.frame h1.refAssigned))) (.fst (.ite h1.refAssigned.frame
    h1.refAssigned)))) (.iteFst h1.frame (.iteFst h1.put.fst (.iteFst (.fst (.ite h1.refAssigned.acceptSample.fst.calStepped
    h1.refAssigned.acceptSample.fst)) (.iteFst h1.put.fst (.fst (.ite h1.acceptSample.fst.calStepped h1.acceptSample.fst))))))))

/-! ### Reset.lean -/

theorem InForm.regionCheck (h : InForm c s) : InForm c s.regionCheck :=
  .ite h h

theorem InForm.tableLoad {ws : List Word} (h : InForm c s) : InForm c (s.tableLoad ws) :=
  h.foldl fun h1 => .ite h1 (.ite h1.setReg.setReg.put.calMark h1.setReg.setReg.put)

theorem InForm.calLoad (h : InForm c s) : InForm c s.calLoad :=
  .foldl (by split; exact h.tableLoad; exact h) .restoreItem

theorem InForm.startUnits (h : InForm c s) : InForm c s.startUnits :=
  .foldl (h.foldl fun h1 => .ite h1 h1) fun h1 => .ite h1 (.ite h1 h1)

theorem InForm.coreLoads (h : InForm c s) : InForm c s.coreLoads :=
  h.bbxScan.zoneLoad.mapLoadStart.popShow.rangeCheckPlan.startUnits

theorem InForm.coreRelease (h : InForm c s) : InForm c s.coreRelease :=
  .vaultMain (.flushHeld (.coreLoads (.calLoad (.cfgLoad (.regionCheck (.ite h (.restoreTime h)))))))

theorem InForm.powerOnReset {straps : Fin 4} (h : InForm none s) : InForm none (powerOnReset straps s) :=
  .frame h.powerOff.frame

theorem InForm.nreset {straps : Fin 4} {at_ : Nat} (h : InForm none s) : InForm none (nreset straps at_ s) := by
  unfold Machine.nreset
  extract_lets t
  have ht : InForm none t := .put (.frame h.advance.resetAll)
  exact .ite ht.frame ht.coreRelease

theorem InForm.softReset {m : Master} {p : List Byte} (h : InForm c s) : InForm c (softReset m p s) :=
  h.hostCmdLater .frame

theorem InForm.softResetBegin (h : InForm none s) : InForm none (softResetBegin s) := by
  unfold Machine.softResetBegin
  split
  · exact h
  · exact h.advance.resetAll.coreRelease

theorem InForm.pwrVcoreLoss {at_ : Nat} (h : InForm none s) : InForm none (pwrVcoreLoss at_ s) := by
  unfold Machine.pwrVcoreLoss
  extract_lets t b u g v
  have ht : InForm none t := h.advance
  have hu : InForm none u := ht.coreReset
  have hv : InForm none v := hu.rebuild hu.regsWf hu.memWf
  have hw : InForm none { v with pwr := { v.pwr with resetCause := 4 } } := hv.frame
  exact .ite ht (.raise hw.coreRelease)

theorem InForm.sysLockstep {at_ : Nat} (h : InForm c s) : InForm c (sysLockstep at_ s) := by
  unfold Machine.sysLockstep
  extract_lets t u p a d g v w
  have ht : InForm c t := h.advance
  have hu : InForm c u := ht.loseStaged
  have hv : InForm c v := .frame hu.filterRegs
  have hw : InForm c w := hv.setCstate.showSwitch
  exact .ite ht (.fwFallback hw.raise)

theorem InForm.bootDone {at_ : Nat} (h : InForm c s) : InForm c (bootDone at_ s) := by
  refine .ite h ?_
  dsimp only
  split
  · exact h.advance.frame
  · exact .ite h.advance (.ite (.frame (.frame (.put h.advance.frame))) (.coldBoot h.advance.frame))

theorem InForm.fwReady {at_ : Nat} (h : InForm c s) : InForm c (fwReady at_ s) :=
  .ite h (.ite (.switchDone h.advance.frame) (.ite (.reinstall (.put h.advance.frame)) (.put h.advance.frame)))

/-! ### Power.lean -/

theorem InForm.between {sure never : Bool} (h : InForm c s) : InForm c (s.between sure never).2 :=
  .iteSnd h (.iteSnd h h)

theorem InForm.pulseOk {ns : Nat} (h : InForm c s) : InForm c (s.pulseOk ns).2 :=
  h.between

theorem InForm.gapOk {ns : Nat} (h : InForm c s) : InForm c (s.gapOk ns).2 :=
  h.between

theorem InForm.wakePattern {from_ to_ : Nat} (h : InForm c s) : InForm c (s.wakePattern from_ to_) := by
  unfold State.wakePattern
  refine .ite h ?_
  split
  · rename_i _ t0 e0
    dsimp only
    split
    · exact .frame (h.pulseOk.sndEq e0)
    · exact .ite (.frame (.gapOk (h.pulseOk.sndEq e0))) (.ite (.wakeSource (.frame (.gapOk (h.pulseOk.sndEq e0)))) (.frame (.gapOk
        (h.pulseOk.sndEq e0))))

theorem InForm.wakePin (h : InForm c s) : InForm c s.wakePin := by
  unfold State.wakePin
  split
  · exact h.wakeSource
  · exact h.wakeSource
  · exact h

theorem InForm.wakeEvent {cause : WakeCause} {at_ : Nat} (h : InForm c s) : InForm c (wakeEvent cause at_ s) := by
  unfold Machine.wakeEvent
  dsimp only
  split
  · exact h.advance.wakeSource
  · exact h.advance.wakePin
  · exact .ite h.advance.advance.wakePattern h.advance.wakePin
  · exact .ite h.advance.wakeSource h.advance

theorem InForm.wakeTimer (h : InForm c s) : InForm c (wakeTimer s) :=
  .ite h (.wakeSource h.advanceLp.frame)

theorem InForm.dvfsReply {d : Dvfs} {st : Nat} (h : InForm c s) : InForm c (s.dvfsReply d st) :=
  .ite h h.answer

theorem InForm.dvfsStart {d : Dvfs} (h : InForm c s) : InForm c (s.dvfsStart d) :=
  .ite h.dvfsReply (.ite (.dvfsReply h) (.ite (.ite h h.refuseBudget.dvfsReply) (.withdraw (.notePeak h))))

theorem InForm.dvfsNext (h : InForm c s) : InForm c s.dvfsNext := by
  unfold State.dvfsNext
  split
  · exact h
  · exact .dvfsStart (.foldl h .dvfsReply)

theorem InForm.dvfsEnd {d : Dvfs} {st : Nat} (h : InForm c s) : InForm c (s.dvfsEnd d st) :=
  h.dvfsReply.dvfsNext

theorem InForm.dvfsChangeDone {at_ : Nat} (h : InForm c s) : InForm c (dvfsChangeDone at_ s) := by
  unfold Machine.dvfsChangeDone
  split
  · exact h
  · exact .dvfsEnd h.advance.frame

theorem InForm.pwrDvfsPg (h : InForm c s) : InForm c (pwrDvfsPg s) := by
  unfold Machine.pwrDvfsPg
  split
  · exact h
  · exact .dvfsEnd (.frame h.advance.frame)

theorem InForm.pwrSetDvfs {m : Master} {p : List Byte} (h : InForm c s) : InForm c (pwrSetDvfs m p s) :=
  h.hostCmdLater fun h1 => .iteFst h1 (.iteFst h1 h1.dvfsStart.fst)

theorem InForm.lockOut (h : InForm none s) : InForm none s.lockOut := by
  unfold State.lockOut
  extract_lets t u v held
  have ht : InForm none t := .lfStop (.ite h h.coreLost)
  have hv : InForm none v := .put ht.filterMem
  exact hv.frame

theorem InForm.wakeFailed {cause fid : Nat} (h : InForm none s) : InForm none (s.wakeFailed cause fid) := by
  unfold State.wakeFailed
  extract_lets t p u
  have ht : InForm none t := h.bump.bump.put
  have hu : InForm none u := ht.frame
  exact .ite hu.lockOut hu

theorem InForm.reducedEvent {entered : Bool} (h : InForm c s) : InForm c (s.reducedEvent entered) :=
  h.event

theorem InForm.afterReference {w : WakeSeq} (h : InForm c s) : InForm c (s.afterReference w) :=
  .ite h (.ite h (.frame (.frame (.ite h h.restoreTime))))

theorem InForm.wakeRefStable {at_ : Nat} (h : InForm c s) : InForm c (wakeRefStable at_ s) := by
  unfold Machine.wakeRefStable
  split
  · exact h
  · exact .ite h h.advance.afterReference

theorem InForm.wakeOscTimeout (h : InForm none s) : InForm none (wakeOscTimeout s) := by
  unfold Machine.wakeOscTimeout
  split
  · exact h
  · extract_lets t u p v w
    have ht : InForm none t := h.advance
    have hu : InForm none u := .ite ht.frame ht
    have hv : InForm none v := hu.frame
    have hw : InForm none w := .ite hv hv.wakeFailed
    exact .ite h (.ite hw hw.reducedEvent.pollSuspend.afterReference)

theorem InForm.wakeRestore {w : WakeSeq} {ok : Bool} (h : InForm none s) : InForm none (s.wakeRestore w ok) := by
  unfold State.wakeRestore
  extract_lets held keep p g t u red lvl v q x y z
  have hkeep {s w} (h : InForm none s) : InForm none (keep s w) := h.frame
  have ht : InForm none t := h.rebuild h.regsWf h.memWf
  have hu : InForm none u := .ite ht.frame ht
  have hx : InForm none x := .frame hu.resetAll
  have hy : InForm none y := .ite hu hu.restoreTime
  have hz : InForm none z := .ite hy.moveMem hy
  exact .ite (hkeep hu.coreReset.coreRelease) (.ite (.raise (hkeep hx.coreRelease)) (hkeep (.wait (.coreLoads hz.imageBack))))

theorem InForm.vcorePgRise {imageOk : Bool} {at_ : Nat} (h : InForm none s) : InForm none (vcorePgRise imageOk at_ s) := by
  unfold Machine.vcorePgRise
  split
  · exact h
  · exact .ite h (.ite h.advance.wait.coreRelease h.advance.wait.wakeRestore)

theorem InForm.levelRestore (h : InForm c s) : InForm c s.levelRestore :=
  .ite h h.dvfsStart

theorem InForm.wakeBoot {w : WakeSeq} (h : InForm c s) : InForm c (s.wakeBoot w) :=
  .ite h (.ite (.coldBoot h) (.copyBank h))

theorem InForm.wakeRecord {w : WakeSeq} (h : InForm c s) : InForm c (s.wakeRecord w) :=
  h.eventAt

theorem InForm.wakeUp {w : WakeSeq} (h : InForm c s) : InForm c (s.wakeUp w) := by
  unfold State.wakeUp
  extract_lets t1 asleep p t2 t3 t4 t5 t6 t7 g t8 t9
  have h1 : InForm c t1 := h.wakeBoot
  have h2 : InForm c t2 := h1.frame
  have h3 : InForm c t3 := h2.put.putBit
  have h4 : InForm c t4 := h3.put.put.put
  have h5 : InForm c t5 := .ite h4 h4.put
  have h6 : InForm c t6 := .flushHeld (.frame h5.wakeRecord)
  have h7 : InForm c t7 := .ite h6.reinstall h6
  have h8 : InForm c t8 := .ite h7.frame h7
  have h9 : InForm c t9 := .ite h8 h8.pollUnsuspend
  exact h9.levelRestore.ewWake.calLate

theorem InForm.wakeComplete {at_ : Nat} (h : InForm c s) : InForm c (wakeComplete at_ s) := by
  unfold Machine.wakeComplete
  split
  · exact h
  · exact .ite h (.ite h.advance.frame h.advance.wakeUp)

theorem InForm.wakeVcoreTimeout (h : InForm none s) : InForm none (wakeVcoreTimeout s) := by
  unfold Machine.wakeVcoreTimeout
  split
  · exact h
  · exact .ite h (.wakeFailed (.frame (.ite h.advance h.advance.banksLost.toState.pollSuspend)))

theorem InForm.wakeRetry (h : InForm c s) : InForm c (wakeRetry s) := by
  unfold Machine.wakeRetry
  split
  · exact h
  · exact .ite h (.ite (.frame h.advance.frame) h.advance.frame)

theorem InForm.vcoreRaiseRetry (h : InForm c s) : InForm c (vcoreRaiseRetry s) := by
  unfold Machine.vcoreRaiseRetry
  split
  · exact h
  · exact .ite h (.ite h.advance.frame h.advance.bump.frame)

theorem InForm.referenceRestart {stable : Bool} (h : InForm c s) : InForm c (referenceRestart stable s) :=
  .ite h (.ite h.advance.frame (.pollUnsuspend (.reducedEvent (.restoreTime (.frame h.advance.frame)))))

theorem InForm.pwrSetPolicy {m : Master} {p : List Byte} (h : InForm c s) : InForm c (pwrSetPolicy m p s) :=
  h.hostCmd fun h1 => .iteFst h1 (.fst (.put (.put (.put (.put (.put (.put (.put (.put (.ite h1.put h1))))))))))

theorem InForm.pwrGetStats {m : Master} {p : List Byte} (h : InForm c s) : InForm c (pwrGetStats m p s) :=
  h.hostCmd fun h1 => .fst (.ite (.foldl h1 .put) h1)

theorem InForm.pwrPadRelease {m : Master} {p : List Byte} (h : InForm c s) : InForm c (pwrPadRelease m p s) :=
  h.hostCmd .frame

theorem InForm.pwrSetRetain {m : Master} {p : List Byte} (h : InForm c s) : InForm c (pwrSetRetain m p s) :=
  h.hostCmd fun h1 => h1.put.fst

/-! ### RegAccess.lean -/

theorem InForm.readShadow {m : Master} {a : Nat} (h : InForm c s) : InForm c (s.readShadow m a) :=
  .ite h (by split; exact h; exact (by split <;> exact h))

theorem InForm.readEffect {b o : Nat} (h : InForm c s) : InForm c (s.readEffect b o) := by
  unfold State.readEffect
  split
  · exact .ite h.capRead h
  · exact .ite h h
  · exact .ite h.fifoRead h
  · split
    · exact h.popData
    · exact h
  · exact .ite h h
  · exact h

theorem InForm.afterRead {m : Master} {a : Nat} (h : InForm c s) : InForm c (s.afterRead m a) := by
  unfold State.afterRead
  split
  · exact h
  · exact .readEffect (.ite h.readShadow.setReg h.readShadow)

theorem InForm.poolWord {a : Nat} (h : InForm c s) : InForm c (s.poolWord a).2 :=
  .iteSnd h (.iteSnd h h)

theorem InForm.readAt {m : Master} {a : Nat} (h : InForm c s) : InForm c (s.readAt m a).2 := by
  unfold State.readAt
  split
  · exact .iteSnd h.poolWord h
  · exact .iteSnd h h.afterRead.snd

theorem InForm.busRead {m : Master} {a : Nat} (h : InForm c s) : InForm c (s.busRead m a) :=
  .ite h (by split; exact .frame (.put (.put h)); exact .frame (.put (.put (.bump h))); exact h.onRead .readAt)

theorem InForm.tmrCapRead {m : Master} {n : Fin 16} (h : InForm c s) : InForm c (tmrCapRead m n s) :=
  h.busRead

theorem InForm.lowWordRead {m : Master} {addr : BitVec 32} (h : InForm c s) : InForm c (lowWordRead m addr s) :=
  h.busRead

theorem InForm.rcRegisterRead {m : Master} {addr : BitVec 32} (h : InForm c s) : InForm c (rcRegisterRead m addr s) :=
  h.busRead

theorem InForm.openRanges {b o v : Nat} (h : InForm c s) : InForm c (s.openRanges b o v).2 :=
  .iteSnd h (h.foldlSnd fun h1 => .iteSnd h1 h1)

theorem InForm.storeWord {b o v : Nat} (h : InForm c s) : InForm c (s.storeWord b o v) :=
  h.openRanges.setReg

theorem InForm.storeLater {quiet : Bool} {key b o v : Nat} (h : InForm c s) : InForm c (s.storeLater quiet key b o v) :=
  .ite h.storeWord h.openRanges.stage

theorem InForm.keepWord {b o v : Nat} (h : InForm c s) : InForm c (s.keepWord b o v) :=
  h.setReg

theorem InForm.writePwr {o v : Nat} (h : InForm c s) : InForm c (s.writePwr o v) :=
  .ite h (.ite h.enterNow h.storeWord)

theorem InForm.writeTmr {o v : Nat} (h : InForm c s) : InForm c (s.writeTmr o v) :=
  .ite h.tmrStartMask (.ite (by split; exact h; exact .frame h.tmrSetCount.tmrWithdraw.frame) (.ite
    (by split; exact h; exact h.tmrSync.setPair.frame) (.ite (by split; exact h; exact h.tmrSync.setPair.frame)
      (h.tmrSync.tmrChange .storeWord))))

theorem InForm.writeLf {o v : Nat} (h : InForm c s) : InForm c (s.writeLf o v) :=
  .ite (.ite (.nonceClear (.ite h.pollKick h)) (.ite h.pollKick h)) (.ite h.pollStage
    (by split; exact h.nonceWord; exact (by split; exact h.storeWord.lfEnable; exact h.storeWord)))

theorem InForm.writeUrx {o v : Nat} (h : InForm c s) : InForm c (s.writeUrx o v) :=
  .ite (.ite h h.storeWord) (.ite h.storeLater h.storeWord.jamArmed)

theorem InForm.writeUtx {o v : Nat} (h : InForm c s) : InForm c (s.writeUtx o v) :=
  h.storeLater

theorem InForm.writeRange {o v : Nat} (h : InForm c s) : InForm c (s.writeRange o v) :=
  .ite (.ite (.rangeAbort (.ite h.rangeGo h)) (.ite h.rangeGo h)) (.ite h.keepWord (.ite (.ite h.storeWord.put.put
    h.storeWord.put) h.storeWord))

theorem InForm.writeRel {o v : Nat} (h : InForm c s) : InForm c (s.writeRel o v) :=
  .ite (.ite (.relEndCause (.ite h.relOpenCmd h)) (.ite h.relOpenCmd h)) h.storeWord

theorem InForm.writeAes {m : Master} {o v : Nat} (h : InForm c s) : InForm c (s.writeAes m o v) := by
  refine .ite (.ite h.mrdGoOn h) (.ite h.keepWord (.ite (.ite (.ite (.aesGoOn (.ite h.engineClear h)) (.ite h.engineClear h))
    (.ite h.storeWord ?_)) h.storeWord))
  split
  · rename_i t0 e0
    exact h.engineWerr.fstEq e0
  · rename_i t0 e0
    exact .ite (.storeWord (h.engineWerr.fstEq e0)) (.ite (.keepWord (.frame (h.engineWerr.fstEq e0))) (.ite (.keepWord
      (h.engineWerr.fstEq e0)) (h.engineWerr.fstEq e0)))

theorem InForm.writeHfr {o v : Nat} (h : InForm c s) : InForm c (s.writeHfr o v) :=
  .ite h.pingApply (.ite h.pingApply h.storeWord)

theorem InForm.writeQueueCfg {q r v : Nat} (h : InForm c s) : InForm c (s.writeQueueCfg q r v) :=
  .ite h h.configQueue

theorem InForm.writeQm {m : Master} {o v : Nat} (h : InForm c s) : InForm c (s.writeQm m o v) :=
  .ite (.ite h.writeQueueCfg h.storeWord)
    (by split; exact h.pushBegin; exact h.pushData; exact h.popSel; exact .ite h h; exact h.storeWord)

theorem InForm.writeFlt {o v : Nat} (h : InForm c s) : InForm c (s.writeFlt o v) :=
  .ite h.setReg.frame h.setReg

theorem InForm.writeAcc {o v : Nat} (h : InForm c s) : InForm c (s.writeAcc o v) :=
  .ite h.storeWord h.storeWord.frame

theorem InForm.writePad {o v : Nat} (h : InForm c s) : InForm c (s.writePad o v) :=
  .ite h.put (.ite h.put h.storeWord)

theorem InForm.writeBlock {m : Master} {b o v : Nat} (h : InForm c s) : InForm c (s.writeBlock m b o v) := by
  unfold State.writeBlock
  split
  · exact h.writePwr
  · exact h.writeTmr
  · exact h.writeLf
  · exact h.writeUrx
  · exact h.writeUtx
  · exact h.writeRange
  · exact .ite (.ite h.zoneStart h) h.storeWord
  · exact .ite h.lookGo h.storeWord
  · exact h.writeRel
  · exact h.writeAes
  · exact h.writeHfr
  · exact h.writeQm
  · exact h.writeFlt
  · exact h.writeAcc
  · exact .ite h.cntIncOn h.storeWord
  · exact h.writePad
  · exact h.storeWord

theorem InForm.writeReg {m : Master} {b o v : Nat} (h : InForm c s) : InForm c (s.writeReg m b o v) :=
  .ite h.writeBlock.unitEnable h.writeBlock

theorem InForm.writeMemAt {a n v : Nat} (h : InForm c s) : InForm c (s.writeMemAt a n v) := by
  unfold State.writeMemAt
  split
  · exact .ite h (.ite h.writeMem.frame h.writeMem)
  · exact .ite h.writeMem h
  · exact h

theorem InForm.writeAt {m : Master} {a v : Nat} (h : InForm c s) : InForm c (s.writeAt m a v) := by
  unfold State.writeAt
  split
  · exact h.writeMemAt
  · exact .ite (.ite h.putB h) h.writeReg

theorem InForm.registerWrite {m : Master} {addr : BitVec 32} {v : Word} {size : AccSize} (h : InForm c s) :
    InForm c (registerWrite m addr v size s) :=
  .ite h (.ite h.put.put.frame
    (by split; exact h.put.put.frame; exact h.bump.put.put.frame; exact .ite h (.ite h.writeAt h.writeMemAt)))

theorem InForm.regCheck {m : Master} {ks l : List Nat} (h : InForm c s) : InForm c (s.regCheck m ks l).1 := by
  unfold State.regCheck
  split
  · exact .fst h.put.put.frame
  · exact .iteFst h (by split; exact .fst h.bump.put.put.frame; exact h)

theorem InForm.readWords {m : Master} {l : List Nat} (h : InForm c s) : InForm c (readWords m l s).1 := by
  induction l generalizing s with
  | nil => exact h
  | cons a l ih =>
    have ht := ih (h.readAt (m := m) (a := a))
    unfold Machine.readWords
    exact ht

theorem InForm.writeWords {m : Master} {p : List Byte} {n : Nat} {l : List Nat} (h : InForm c s) :
    InForm c (writeWords m p n l s).1 := by
  induction l generalizing s n with
  | nil => exact h
  | cons a l ih => exact .iteFst h.writeAt (ih h.writeAt)

theorem InForm.regReadRun {m : Master} {p : List Byte} (h : InForm c s) : InForm c (regReadRun m p s).1 :=
  .iteFst h (.iteFst h (.iteFst h.regCheck.fst h.regCheck.readWords.fst))

theorem InForm.regWriteRun {m : Master} {p : List Byte} (h : InForm c s) : InForm c (regWriteRun m p s).1 :=
  .iteFst h (.iteFst h (.iteFst h.regCheck.fst h.regCheck.writeWords.fst))

theorem InForm.regModifyRun {m : Master} {p : List Byte} (h : InForm c s) : InForm c (regModifyRun m p s).1 :=
  .iteFst h (.iteFst h (.iteFst h.regCheck.fst h.regCheck.readAt.writeWords.fst))

theorem InForm.regCommand {m : Master} {op : Nat} {p : List Byte} (h : InForm c s) : InForm c (regCommand m op p s).1 :=
  .iteFst h.regReadRun (.iteFst h.regWriteRun h.regModifyRun)

theorem InForm.portCommand {m : Master} {op : Nat} {p : List Byte} (h : InForm c s) : InForm c (portCommand m op p s).1 :=
  .iteFst h h.regCommand

theorem InForm.regCmd {m : Master} {op : Nat} {p : List Byte} (h : InForm c s) : InForm c (s.regCmd m op p) :=
  .ite h (.ite h.answer (.ite h.answer h.regCommand.answer))

theorem InForm.regRead {m : Master} {p : List Byte} (h : InForm c s) : InForm c (regRead m p s) :=
  h.regCmd

theorem InForm.regWrite {m : Master} {p : List Byte} (h : InForm c s) : InForm c (regWrite m p s) :=
  h.regCmd

theorem InForm.regModify {m : Master} {p : List Byte} (h : InForm c s) : InForm c (regModify m p s) :=
  h.regCmd

theorem InForm.nop {m : Master} {p : List Byte} (h : InForm c s) : InForm c (nop m p s) :=
  h.hostCmd .frame

theorem InForm.echo {m : Master} {p : List Byte} (h : InForm c s) : InForm c (echo m p s) :=
  h.hostCmd fun h1 => h1

theorem InForm.getId {m : Master} {p : List Byte} (h : InForm c s) : InForm c (getId m p s) :=
  h.hostCmd fun h1 => h1

theorem InForm.getStatus {m : Master} {p : List Byte} (h : InForm c s) : InForm c (getStatus m p s) :=
  h.hostCmd fun h1 => h1

/-! ### Hif.lean -/

theorem InForm.replyRead {side : Bool} (h : InForm c s) : InForm c (s.replyRead side) := by
  unfold State.replyRead
  dsimp only
  split
  · exact .ite (.enterGo (by split; exact .ite h h; exact h)) (by split; exact .ite h h; exact h)
  · split
    · exact .ite h h
    · exact h

theorem InForm.portEvent {side : Bool} {f : State → State} (h : InForm c s) (hf : ∀ {t}, InForm c t → InForm c (f t)) :
    InForm c (s.portEvent side f) :=
  .ite (.replyRead (hf h)) (hf h)

theorem InForm.spiRequest {bytes : List Byte} {at_ : Nat} (h : InForm c s) : InForm c (spiRequest bytes at_ s) :=
  h.advance.portEvent fun h1 => h1.requestOn .portCommand

theorem InForm.spiRead {n at_ : Nat} (h : InForm c s) : InForm c (spiRead n at_ s) :=
  h.advance.portEvent .readOn

theorem InForm.sideWrite {bytes : List Byte} {at_ : Nat} (h : InForm c s) : InForm c (sideWrite bytes at_ s) :=
  h.advance.portEvent fun h1 => h1.requestOn .portCommand

theorem InForm.sideRead {n at_ : Nat} (h : InForm c s) : InForm c (sideRead n at_ s) :=
  h.advance.portEvent .readOn

theorem InForm.sideAddressMatch {at_ : Nat} (h : InForm c s) : InForm c (sideAddressMatch at_ s) :=
  .ite (.wakeSource h.advance.frame) h

theorem InForm.sideStretchEnd (h : InForm c s) : InForm c (sideStretchEnd s) := by
  unfold Machine.sideStretchEnd
  split
  · exact h
  · exact .ite h h.advance.frame

theorem InForm.hifSideStuck {at_ : Nat} (h : InForm c s) : InForm c (hifSideStuck at_ s) :=
  .ite h (.frame h.advance.frame)

theorem InForm.popSegs {n : Nat} (h : InForm c s) : InForm c (s.popSegs n) := by
  induction n generalizing s with
  | zero => exact h
  | succ n ih =>
    unfold State.popSegs
    split
    · rename_i e
      exact ih (h.popItem e)
    · exact h

theorem InForm.sendHeld {l : List HeldReply} (h : InForm c s) : InForm c (sendHeld l s) := by
  induction l generalizing s with
  | nil => exact h
  | cons r l ih =>
    unfold Machine.sendHeld
    split
    · rename_i e
      exact ih (.frame (h.pushAll e))
    · exact h

theorem InForm.deliverReply {port seq st tag : Nat} {data : List Byte} (h : InForm c s) :
    InForm c (s.deliverReply port seq st tag data) :=
  .ite h.bump (by dsimp only; split; exact .ite h.formReply h.bump; exact h.bump)

theorem InForm.replyFormed (h : InForm c s) : InForm c (replyFormed s) :=
  .ite h (by split; exact h; exact (by dsimp only; split; exact h; exact h.popSegs.deliverReply.sendHeld))

theorem InForm.hifCmdTimeout {side : Bool} (h : InForm c s) : InForm c (hifCmdTimeout side s) := by
  unfold Machine.hifCmdTimeout
  split
  · exact h
  · exact .ite h h.advance.formReply.bump.frame

theorem InForm.flashEnd {o : FlashOp} {rest : List FlashOp} {st : Nat} (h : InForm c s) : InForm c (s.flashEnd o rest st) :=
  .ite (.popFlashDone h) (.ite (.progDone h) h)

theorem InForm.flashOpDone {at_ : Nat} (h : InForm c s) : InForm c (flashOpDone at_ s) := by
  unfold Machine.flashOpDone
  split
  · exact h
  · exact .ite h (.flashEnd (by split; exact h.advance.programFlash; exact h.advance.eraseMem; exact h.advance))

theorem InForm.hifXspiTimeout (h : InForm c s) : InForm c (hifXspiTimeout s) := by
  unfold Machine.hifXspiTimeout
  split
  · exact h
  · exact .ite h (.flashEnd (.frame (.ite (.programFlash h) (.ite (.eraseMem h) h))))

theorem InForm.lfStarted {n : Nat} (h : InForm c s) : InForm c (s.lfStarted n) :=
  .ite h h

theorem InForm.startingDone {what : Startable} {at_ : Nat} (h : InForm none s) : InForm none (startingDone what at_ s) :=
  .ite h (by dsimp only; split; exact h.advance.unitStarted; exact h.advance.winStarted; exact h.advance.lfStarted)

theorem InForm.fwd {b : List Byte} {at_ : Nat} (h : InForm c s) : InForm c (fwd b at_ s) :=
  .ite h (h.advance.takeFwd .portCommand)

theorem InForm.wlClkAbsent {at_ : Nat} (h : InForm c s) : InForm c (wlClkAbsent at_ s) :=
  .ite h h.advance.enterNow

/-! ### Meanings.lean -/

theorem InForm.after {e : State} (h : InForm c e) : InForm c (s.after e) :=
  h.settle.frame

end Sys2Proof.Machine

/-!
PROOF. O4: every command, and so every step, keeps the canonical form.
-/
namespace Sys2Proof.Machine

-- The lemmas are many and short: proved one after the other, they stay within the threads that the check allows.
set_option Elab.async false

theorem InForm.idle {c : Option Nat} {s : State} (h : InForm c s) : InForm c s.idle :=
  .ite h.wait h.wait

/-- What a command that performs `f` ends in is in form where `f s` is. -/
theorem InForm.performed {c : Option Nat} {s t : State} {f : State → State} (e : s.perform f = .next t) (h : InForm c (f s)) :
    InForm c t := by
  cases e
  exact h.after

/-- Every command keeps the form: each is performed by an effect that does. -/
theorem InForm.executed {s t : State} {i : Instr} (h : InForm none s) (e : exec i s = .next t) : InForm none t := by
  cases i with
  | powerOnReset => exact .performed e h.powerOnReset
  | nreset => exact .performed e h.nreset
  | softReset => exact .performed e h.softReset
  | softResetBegin => exact .performed e h.softResetBegin
  | cfgImageRepair => exact .performed e h.cfgImageRepair
  | bootDone => exact .performed e h.bootDone
  | fwReady => exact .performed e h.fwReady
  | vcoreRaiseRetry => exact .performed e h.vcoreRaiseRetry
  | sysLockstep => exact .performed e h.sysLockstep
  | pwrVcoreLoss => exact .performed e h.pwrVcoreLoss
  | rfPllLock => exact .performed e h.rfPllLock
  | rfPllRelock => exact .performed e h.rfPllRelock
  | faultEvent => exact .performed e h.faultEvent
  | shadowEnd => exact .performed e h.shadowEnd
  | bbxRecordWrite => exact .performed e h.bbxRecordWrite
  | bbxHalfErased => exact .performed e h.bbxHalfErased
  | bbxTokenTick => exact .performed e h.bbxTokenTick
  | idleTimerP1 => exact .performed e h.idleTimerP1
  | powerEntryStart => exact .performed e h.powerEntryStart
  | entryRetry => exact .performed e h.entryRetry
  | commitWindowCycle => exact .performed e h.commitWindowCycle
  | idleExpiryDeeper => exact .performed e h.idleExpiryDeeper
  | wakeEvent => exact .performed e h.wakeEvent
  | wakeTimer => exact .performed e h.wakeTimer
  | wakeRefStable => exact .performed e h.wakeRefStable
  | vcorePgRise => exact .performed e h.vcorePgRise
  | wakeComplete => exact .performed e h.wakeComplete
  | wakeOscTimeout => exact .performed e h.wakeOscTimeout
  | wakeVcoreTimeout => exact .performed e h.wakeVcoreTimeout
  | wakeRetry => exact .performed e h.wakeRetry
  | referenceRestart => exact .performed e h.referenceRestart
  | dvfsChangeDone => exact .performed e h.dvfsChangeDone
  | pwrDvfsPg => exact .performed e h.pwrDvfsPg
  | refSyncEdge => exact .performed e h.refSyncEdge
  | expectedSampleMissed => exact .performed e h.expectedSampleMissed
  | lpRatioUpdate => exact .performed e h.lpRatioUpdate
  | calendarPrep => exact .performed e h.calendarPrep
  | calendarFire => exact .performed e h.calendarFire
  | calendarWakeLead => exact .performed e h.calendarWakeLead
  | calendarSlotFree => exact .performed e h.calendarSlotFree
  | tmrStart => exact .performed e h.tmrStart
  | tmrTrigger => exact .performed e h.tmrTrigger
  | tmrUpdate => exact .performed e h.tmrUpdate
  | tmrCompare => exact .performed e h.tmrCompare
  | tmrCapture => exact .performed e h.tmrCaptureRow
  | tmrCapRead => exact .performed e h.tmrCapRead
  | lowWordRead => exact .performed e h.lowWordRead
  | rcRegisterRead => exact .performed e h.rcRegisterRead
  | registerWrite => exact .performed e h.registerWrite
  | unitEnWrite => exact .performed e h.unitEnWrite
  | startingDone => exact .performed e h.startingDone
  | nop => exact .performed e h.nop
  | getId => exact .performed e h.getId
  | getStatus => exact .performed e h.getStatus
  | regRead => exact .performed e h.regRead
  | regWrite => exact .performed e h.regWrite
  | regModify => exact .performed e h.regModify
  | echo => exact .performed e h.echo
  | pwrSetPolicy => exact .performed e h.pwrSetPolicy
  | pwrEnter => exact .performed e h.pwrEnter
  | pwrGetStats => exact .performed e h.pwrGetStats
  | pwrPadRelease => exact .performed e h.pwrPadRelease
  | pwrSetDvfs => exact .performed e h.pwrSetDvfs
  | pwrSetRetain => exact .performed e h.pwrSetRetain
  | pwrCmdEnter => exact .performed e h.pwrCmdEnter
  | timeGet => exact .performed e h.timeGet
  | timeSetRef => exact .performed e h.timeSetRef
  | timeCalAdd => exact .performed e h.timeCalAdd
  | timeCalRemove => exact .performed e h.timeCalRemove
  | tmrConfig => exact .performed e h.tmrConfig
  | tmrRead => exact .performed e h.tmrRead
  | lfConfigCh => exact .performed e h.lfConfigCh
  | lfPatternDef => exact .performed e h.lfPatternDef
  | lfSend => exact .performed e h.lfSend
  | lfPollConfig => exact .performed e h.lfPollConfig
  | lfPollStart => exact .performed e h.lfPollStart
  | lfPollStop => exact .performed e h.lfPollStop
  | lfDiag => exact .performed e h.lfDiag
  | lfMapLoad => exact .performed e h.lfMapLoad
  | lfHnonce3Write => exact .performed e h.lfHnonce3Write
  | kick => exact .performed e h.kick
  | nonceClr => exact .performed e h.nonceClr
  | lfSendStart => exact .performed e h.lfSendStart
  | lfTxDone => exact .performed e h.lfTxDone
  | pollBurst => exact .performed e h.pollBurst
  | pollBurstDeferred => exact .performed e h.pollBurstDeferred
  | sentinelPowerUp => exact .performed e h.sentinelPowerUp
  | pollAnswer => exact .performed e h.pollAnswer
  | pollWindowEnd => exact .performed e h.pollWindowEndRow
  | lfPollIdleStop => exact .performed e h.lfPollIdleStop
  | handleInEdge => exact .performed e h.handleInEdge
  | handleQualified => exact .performed e h.handleQualifiedRow
  | lfHtelStart => exact .performed e h.lfHtelStart
  | lfOvercurrent => exact .performed e h.lfOvercurrent
  | lfVlf => exact .performed e h.lfVlf
  | vlfReturn => exact .performed e h.vlfReturn
  | lfDiagDone => exact .performed e h.lfDiagDone
  | lfCalDue => exact .performed e h.lfCalDue
  | lfCalDone => exact .performed e h.lfCalDoneRow
  | urxConfig => exact .performed e h.urxConfig
  | urxStart => exact .performed e h.urxStart
  | urxStop => exact .performed e h.urxStop
  | rfCapture => exact .performed e h.rfCapture
  | syncAccepted => exact .performed e h.syncAcceptedRow
  | urxFrame => exact .performed e h.urxFrame
  | urxJam => exact .performed e h.urxJam
  | urxJamClear => exact .performed e h.urxJamClear
  | bypassEngage => exact .performed e h.bypassEngage
  | bypassRelease => exact .performed e h.bypassRelease
  | urxAdcFault => exact .performed e h.urxAdcFault
  | adcSelfCheckDone => exact .performed e h.adcSelfCheckDone
  | captureTrigger => exact .performed e h.captureTrigger
  | gatherReadItem => exact .performed e h.gatherReadItem
  | gatherReadTimeout => exact .performed e h.gatherReadTimeout
  | utxSend => exact .performed e h.utxSend
  | utxHopTable => exact .performed e h.utxHopTable
  | rfCalibrate => exact .performed e h.rfCalibrate
  | rfCalStatus => exact .performed e h.rfCalStatus
  | coexConfig => exact .performed e h.coexConfig
  | femSeqConfig => exact .performed e h.femSeqConfig
  | utxSendStart => exact .performed e h.utxSendStart
  | synthLocked => exact .performed e h.synthLocked
  | utxSynthLock => exact .performed e h.utxSynthLock
  | coexGntRise => exact .performed e h.coexGntRise
  | coexGntFall => exact .performed e h.coexGntFall
  | coexWaitTimeout => exact .performed e h.coexWaitTimeout
  | afterRxTimeout => exact .performed e h.afterRxTimeout
  | utxTxDone => exact .performed e h.utxTxDone
  | dutyBinRoll => exact .performed e h.dutyBinRoll
  | calDue => exact .performed e h.calDue
  | calStepStart => exact .performed e h.calStepStart
  | rfCalDone => exact .performed e h.rfCalDone
  | rangeConfig => exact .performed e h.rangeConfig
  | rangeRun => exact .performed e h.rangeRun
  | rangeResult => exact .performed e h.rangeResult
  | zoneConfig => exact .performed e h.zoneConfig
  | zoneQuery => exact .performed e h.zoneQuery
  | rangeCmdGo => exact .performed e h.rangeCmdGo
  | rangeCmdAbort => exact .performed e h.rangeCmdAbort
  | rangeOriginFixed => exact .performed e h.rangeOriginFixed
  | rangeSlotBegin => exact .performed e h.rangeSlotBegin
  | rangeStep => exact .performed e h.rangeStep
  | rangeTimeout => exact .performed e h.rangeTimeout
  | rangeDone => exact .performed e h.rangeDoneRow
  | zoneCmdStart => exact .performed e h.zoneCmdStart
  | zoneSolved => exact .performed e h.zoneSolved
  | zoneMapLoaded => exact .performed e h.zoneMapLoaded
  | credAdd => exact .performed e h.credAdd
  | credRemove => exact .performed e h.credRemove
  | credQuery => exact .performed e h.credQuery
  | credPopLoad => exact .performed e h.credPopLoad
  | credRevokeEpoch => exact .performed e h.credRevokeEpoch
  | authStart => exact .performed e h.authStart
  | authResult => exact .performed e h.authResult
  | authLockoutStatus => exact .performed e h.authLockoutStatus
  | authLockoutClear => exact .performed e h.authLockoutClear
  | credLkGo => exact .performed e h.credLkGo
  | lookupDone => exact .performed e h.lookupDone
  | revmapLoaded => exact .performed e h.revmapLoaded
  | buildEraseDone => exact .performed e h.buildEraseDone
  | buildCommitDone => exact .performed e h.buildCommitDone
  | answerWindowEnd => exact .performed e h.answerWindowEnd
  | keyProofTimeout => exact .performed e h.keyProofTimeout
  | credLockExpiry => exact .performed e h.credLockExpiry
  | globalLockExpiry => exact .performed e h.globalLockExpiry
  | relConfig => exact .performed e h.relConfig
  | relArm => exact .performed e h.relArm
  | relStatus => exact .performed e h.relStatus
  | relEnd => exact .performed e h.relEnd
  | ewakeConfig => exact .performed e h.ewakeConfig
  | telltaleConfig => exact .performed e h.telltaleConfig
  | relCmdOpen => exact .performed e h.relCmdOpen
  | relCmdEnd => exact .performed e h.relCmdEnd
  | openingGap => exact .performed e h.openingGap
  | closingGap => exact .performed e h.closingGap
  | startFbChange => exact .performed e h.startFbChange
  | readbackFault => exact .performed e h.readbackFault
  | doorInEdge => exact .performed e h.doorInEdge
  | doorQualified => exact .performed e h.doorQualified
  | sessionTimeout => exact .performed e h.sessionTimeout
  | armExpiry => exact .performed e h.armExpiry
  | relEwakeRb => exact .performed e h.relEwakeRb
  | ttPhase => exact .performed e h.ttPhase
  | ttMeasure => exact .performed e h.ttMeasure
  | ttSummary => exact .performed e h.ttSummary
  | aesBlock => exact .performed e h.aesBlock
  | keyUnwrap => exact .performed e h.keyUnwrap
  | keySlotClear => exact .performed e h.keySlotClear
  | cntIncrement => exact .performed e h.cntIncrement
  | cntRead => exact .performed e h.cntRead
  | rngRead => exact .performed e h.rngRead
  | rngSelftest => exact .performed e h.rngSelftest
  | aesGo => exact .performed e h.aesGo
  | aesClear => exact .performed e h.aesClear
  | aesBlockDone => exact .performed e h.aesBlockDone
  | mrdGo => exact .performed e h.mrdGo
  | unwrapDone => exact .performed e h.unwrapDone
  | cntInc => exact .performed e h.cntInc
  | counterRecordWritten => exact .performed e h.counterRecordWritten
  | ceilingWrite => exact .performed e h.ceilingWrite
  | counterHalfErased => exact .performed e h.counterHalfErased
  | cntLoaded => exact .performed e h.cntLoaded
  | rngReady => exact .performed e h.rngReady
  | trngHealthFailure => exact .performed e h.trngHealthFailure
  | reseedDone => exact .performed e h.reseedDone
  | rngRequestServed => exact .performed e h.rngRequestServed
  | trngFifoRead => exact .performed e h.trngFifoRead
  | hfrConfig => exact .performed e h.hfrConfig
  | hfrPingConfig => exact .performed e h.hfrPingConfig
  | hfrActivate => exact .performed e h.hfrActivate
  | hfrExchange => exact .performed e h.hfrExchange
  | hfrFieldOff => exact .performed e h.hfrFieldOff
  | pingReferenceStart => exact .performed e h.pingReferenceStart
  | hfrPing => exact .performed e h.hfrPing
  | extCheckEnd => exact .performed e h.extCheckEnd
  | hfrActivated => exact .performed e h.hfrActivated
  | hfrActivateTimeout => exact .performed e h.hfrActivateTimeout
  | hfrExchangeTimeout => exact .performed e h.hfrExchangeTimeout
  | helloReply => exact .performed e h.helloReply
  | proofReply => exact .performed e h.proofReply
  | closeReply => exact .performed e h.closeReply
  | tapFdtTimeout => exact .performed e h.tapFdtTimeout
  | hfrFieldTimeout => exact .performed e h.hfrFieldTimeout
  | hfrOvercurrent => exact .performed e h.hfrOvercurrent
  | vltRead => exact .performed e h.vltRead
  | vltWrite => exact .performed e h.vltWrite
  | vltConfig => exact .performed e h.vltConfig
  | vltStatus => exact .performed e h.vltStatus
  | vltRelArm => exact .performed e h.vltRelArm
  | wiredOperationGrant => exact .performed e h.wiredOperationGrant
  | vaultBusyTimeout => exact .performed e h.vaultBusyTimeout
  | vltStreamItem => exact .performed e h.vltStreamItem
  | vltStreamTimeout => exact .performed e h.vltStreamTimeout
  | vaultPowerUp => exact .performed e h.vaultPowerUp
  | vaultBrownOut => exact .performed e h.vaultBrownOut
  | vaultFieldLoss => exact .performed e h.vaultFieldLoss
  | fdWakeRise => exact .performed e h.fdWakeRise
  | fdWakeFall => exact .performed e h.fdWakeFall
  | vreq => exact .performed e h.vreq
  | vwup => exact .performed e h.vwup
  | vsel => exact .performed e h.vsel
  | auth1 => exact .performed e h.auth1
  | auth2 => exact .performed e h.auth2
  | halt => exact .performed e h.halt
  | secureRead => exact .performed e h.secureRead
  | secureWrite => exact .performed e h.secureWrite
  | secureStatus => exact .performed e h.secureStatus
  | ticket => exact .performed e h.ticket
  | secureEnd => exact .performed e h.secureEnd
  | pageWriteCommitted => exact .performed e h.pageWriteCommitted
  | pageWriteCopyDone => exact .performed e h.pageWriteCopyDone
  | retiredSlotErase => exact .performed e h.retiredSlotErase
  | vaultRelPulseEnd => exact .performed e h.vaultRelPulseEnd
  | vltRng => exact .performed e h.vltRng
  | lastTimeWrite => exact .performed e h.lastTimeWrite
  | qmPushBegin => exact .performed e h.qmPushBegin
  | qmPushData => exact .performed e h.qmPushData
  | qmPopSel => exact .performed e h.qmPopSel
  | qmPopData => exact .performed e h.qmPopData
  | qmPopDone => exact .performed e h.qmPopDone
  | qmLink => exact .performed e h.qmLink
  | qConfig => exact .performed e h.qConfig
  | qPop => exact .performed e h.qPop
  | qPush => exact .performed e h.qPush
  | qFlush => exact .performed e h.qFlush
  | qStatus => exact .performed e h.qStatus
  | qWatermark => exact .performed e h.qWatermark
  | spiRequest => exact .performed e h.spiRequest
  | spiRead => exact .performed e h.spiRead
  | sideWrite => exact .performed e h.sideWrite
  | sideRead => exact .performed e h.sideRead
  | sideAddressMatch => exact .performed e h.sideAddressMatch
  | sideStretchEnd => exact .performed e h.sideStretchEnd
  | hifSideStuck => exact .performed e h.hifSideStuck
  | replyFormed => exact .performed e h.replyFormed
  | hifCmdTimeout => exact .performed e h.hifCmdTimeout
  | flashOpDone => exact .performed e h.flashOpDone
  | hifXspiTimeout => exact .performed e h.hifXspiTimeout
  | fltStatus => exact .performed e h.fltStatus
  | fltConfig => exact .performed e h.fltConfig
  | fltClear => exact .performed e h.fltClear
  | fltInject => exact .performed e h.fltInject
  | injectedEvent => exact .performed e h.injectedEvent
  | bbxRead => exact .performed e h.bbxRead
  | cfgStage => exact .performed e h.cfgStage
  | cfgApply => exact .performed e h.cfgApply
  | cfgRead => exact .performed e h.cfgRead
  | cfgCommitNv => exact .performed e h.cfgCommitNv
  | fwWriteSlot => exact .performed e h.fwWriteSlot
  | fwEraseDone => exact .performed e h.fwEraseDone
  | fwVerify => exact .performed e h.fwVerify
  | fwSwitch => exact .performed e h.fwSwitch
  | calStage => exact .performed e h.calStage
  | configSwitch => exact .performed e h.configSwitch
  | applyTimeout => exact .performed e h.applyTimeout
  | configRevert => exact .performed e h.configRevert
  | switchBankLoaded => exact .performed e h.switchBankLoaded
  | handoverPoint => exact .performed e h.handoverPoint
  | switchWaitTimeout => exact .performed e h.switchWaitTimeout
  | trialTimeout => exact .performed e h.trialTimeout
  | fallbackRetry => exact .performed e h.fallbackRetry
  | wlConfig => exact .performed e h.wlConfig
  | wlDiscover => exact .performed e h.wlDiscover
  | wlStatus => exact .performed e h.wlStatus
  | wlForward => exact .performed e h.wlForward
  | fwdRepeat => exact .performed e h.fwdRepeat
  | wlForwardTimeout => exact .performed e h.wlForwardTimeout
  | fwd => exact .performed e h.fwd
  | reply => exact .performed e h.reply
  | frame => exact .performed e h.frameRow
  | event => exact .performed e h.eventRow
  | rangeW => exact .performed e h.rangeW
  | run => exact .performed e h.run
  | dreq => exact .performed e h.dreq
  | drsp => exact .performed e h.drsp
  | delayMeasurement => exact .performed e h.delayMeasurement
  | delayMeasured => exact .performed e h.delayMeasured
  | wlkLos => exact .performed e h.wlkLos
  | lockRetry => exact .performed e h.lockRetry
  | wlClkAbsent => exact .performed e h.wlClkAbsent
  | testEnter => exact .performed e h.testEnter
  | testExit => exact .performed e h.testExit
  | preambleDetected => exact .performed e h.preambleDetected
  | syncSearchTimeout => exact .performed e h.syncSearchTimeout
  | pwrEnterBegin => exact .performed e h.pwrEnterBegin
  | targetResponse => exact .performed e h.targetResponse
  | ewakeDeassert => exact .performed e h.ewakeDeassert
  | directoryRowWritten => exact .performed e h.directoryRowWritten

theorem InForm.stepped {s t : State} (h : InForm none s) (e : step s = .next t) : InForm none t := by
  unfold Machine.step at e
  split at e
  · cases e
    exact h.idle
  · exact .executed (.frame h) e

/-- Settles O4: every command keeps the form (`InForm.executed`), and so does the clock edge that an empty queue lets pass. -/
theorem everyStepKeepsTheCanonicalForm : Obligations.EveryStepKeepsTheCanonicalForm := by
  unfold Obligations.EveryStepKeepsTheCanonicalForm
  intro s t h e
  exact inForm_none_iff.1 (.stepped (inForm_none_iff.2 h) e)

end Sys2Proof.Machine

/-!
PROOF. O21 fails: the row of PWR_VCORE_LOSS, as stated, leaves the cause 1 of the generator's next start that the loss of the core
domain sets (R349), where the model has 0. The cause is followed through the release of the core by `InForm`.
-/
namespace Sys2Proof.Machine

-- The lemmas are many and short: proved one after the other, they stay within the threads that the check allows.
set_option Elab.async false

/-- The reset state in P0 with no wake sequence in progress. -/
def wokenReset : State := { State.reset with pwr := { State.reset.pwr with wake := none, st := .p0 } }

theorem wokenReset_inForm : InForm none wokenReset :=
  ⟨reset_regs_wf, reset_mem_wf, reset_nv_wf, trivial⟩

/-- The reset of a lost VCORE leaves the generator's cause 0. -/
theorem InForm.pwrVcoreLoss_cause {s : State} {t : Nat} (h : InForm none s) (hd : s.pwr.dvfs = none)
    (hl : s.pwr.lockout = false) (hp : ¬ 3 ≤ s.pwr.st.num) (hw : s.pwr.wake = none) :
    InForm (some 0) (Machine.pwrVcoreLoss t s) := by
  unfold Machine.pwrVcoreLoss
  extract_lets u b v g w
  have hu : InForm none u := h.advance
  have hv : InForm none v := hu.coreReset
  have hw' : InForm (some 0) w := hv.rebuild hv.regsWf hv.memWf (hd := rfl)
  have hx : InForm (some 0) { w with pwr := { w.pwr with resetCause := 4 } } := hw'.frame
  have hb : b = false := by simp [b, u, hd]
  rw [if_neg (by simp [hb, u, hl, hp, hw])]
  exact .raise hx.coreRelease

/-- States in form with different causes differ. -/
theorem InForm.ne_of_cause {m n : Nat} {s t : State} (hs : InForm (some m) s) (ht : InForm (some n) t) (h : m ≠ n) : s ≠ t := by
  rintro rfl
  obtain ⟨-, -, -, hm⟩ := hs
  obtain ⟨-, -, -, hn⟩ := ht
  exact h (hm.symm.trans hn)

/-- The row of a lost VCORE as O21 states it leaves the cause 1 that the core domain's loss sets, where the model has 0. -/
theorem exec_pwrVcoreLoss_ne {s : State} {t : Nat} (h : InForm none s) (hd : s.pwr.dvfs = none) (hl : s.pwr.lockout = false)
    (hp : ¬ 3 ≤ s.pwr.st.num) (hw : s.pwr.wake = none) :
    exec (.pwrVcoreLoss t) s ≠ .next (s.after ((State.coreRelease { (s.advance t).coreReset true with
      pwr := { ((s.advance t).coreReset true).pwr with resetCause := 4 } }).raise FID_PWR_VCORE_LOSS)) := by
  intro e
  have hmodel : InForm (some 0) (s.after (pwrVcoreLoss t s)) := .after (h.pwrVcoreLoss_cause hd hl hp hw)
  have hreset : InForm (some 1) ((s.advance t).coreReset true) := h.advance.coreReset_cause
  have hrow : InForm (some 1) { (s.advance t).coreReset true with
      pwr := { ((s.advance t).coreReset true).pwr with resetCause := 4 } } := hreset.frame
  exact hmodel.ne_of_cause (.after (.raise hrow.coreRelease)) (by decide) (Host.Outcome.next.inj e)

/-- Refutes O21: from `wokenReset` the row of PWR_VCORE_LOSS does not end as the statement says. -/
theorem not_supplyAndFaultRowsComplete : ¬ Obligations.SupplyAndFaultRowsComplete := by
  unfold Obligations.SupplyAndFaultRowsComplete
  rintro ⟨-, -, -, hloss, -⟩
  exact exec_pwrVcoreLoss_ne wokenReset_inForm rfl rfl (by decide) rfl (hloss wokenReset _ 0 rfl rfl (by decide) rfl rfl)

end Sys2Proof.Machine
